-- ==== Sys2Proof/Word.lean ====
section
/-! DEFINITION. The words of the DXL-3064 and the three lanes: bytes, and a value per lane (R5, R11). -/

namespace Sys2Proof

/-- One byte (R5). -/
abbrev Byte := BitVec 8

/-- A 32-bit register word (R439: register space holds 32-bit words). -/
abbrev Word := BitVec 32

/-- The three safety lanes (R11). -/
inductive Lane where
  | a | b | c
deriving DecidableEq, Repr

/-- The lane identity number: 0 A, 1 B, 2 C (R43, R63). -/
def Lane.id : Lane → Nat
  | .a => 0
  | .b => 1
  | .c => 2

/-- The next lane of the ring A→B, B→C, C→A (R64). -/
def Lane.next : Lane → Lane
  | .a => .b
  | .b => .c
  | .c => .a

/-- The previous lane of the ring (R64). -/
def Lane.prev : Lane → Lane
  | .a => .c
  | .b => .a
  | .c => .b

/-- The lanes in the order A, B, C, in which the spec takes "the first lane" (R45, R358, R406). -/
def Lane.all : List Lane := [.a, .b, .c]

/-- One value for each lane. -/
structure PerLane (α : Type) where
  a : α
  b : α
  c : α
deriving DecidableEq, Repr

namespace PerLane
variable {α β : Type}

def get (p : PerLane α) : Lane → α
  | .a => p.a
  | .b => p.b
  | .c => p.c

def set (p : PerLane α) (l : Lane) (v : α) : PerLane α :=
  match l with
  | .a => { p with a := v }
  | .b => { p with b := v }
  | .c => { p with c := v }

def pure (v : α) : PerLane α := ⟨v, v, v⟩

def map (f : α → β) (p : PerLane α) : PerLane β := ⟨f p.a, f p.b, f p.c⟩

/-- Applies a function that may look at the lane. -/
def mapL (f : Lane → α → β) (p : PerLane α) : PerLane β := ⟨f .a p.a, f .b p.b, f .c p.c⟩

def modify (p : PerLane α) (l : Lane) (f : α → α) : PerLane α := p.set l (f (p.get l))

end PerLane

/-- A set of lanes, one bit a lane in the order A, B, C. -/
abbrev LaneSet := PerLane Bool

/-- The members of a lane set in the order A, B, C. -/
def LaneSet.list (s : LaneSet) : List Lane := Lane.all.filter fun l => s.get l

def LaneSet.count (s : LaneSet) : Nat := (LaneSet.list s).length

/-- Bits 0–2 for A–C. -/
def LaneSet.bits (s : LaneSet) : Nat :=
  (if s.a then 1 else 0) + (if s.b then 2 else 0) + (if s.c then 4 else 0)

def LaneSet.none : LaneSet := ⟨false, false, false⟩

def LaneSet.full : LaneSet := ⟨true, true, true⟩

def LaneSet.inter (s t : LaneSet) : LaneSet := ⟨s.a && t.a, s.b && t.b, s.c && t.c⟩

def LaneSet.union (s t : LaneSet) : LaneSet := ⟨s.a || t.a, s.b || t.b, s.c || t.c⟩

def LaneSet.diff (s t : LaneSet) : LaneSet := ⟨s.a && !t.a, s.b && !t.b, s.c && !t.c⟩

def LaneSet.single (l : Lane) : LaneSet := LaneSet.none.set l true

/-- The first lane of the set in the order A, B, C. -/
def LaneSet.first (s : LaneSet) : Option Lane := (LaneSet.list s).head?

end Sys2Proof
end

