-- ==== Sys2Proof/Syntax.lean ====
section
/-!
DEFINITION. The commands of the DXL-3064: one constructor for each row of spec/opcode_table.json, in the table's order.
A row's operands are what the outside or the analog hardware brings to the step: measured values, arrived bytes, which
lanes' messages arrived, which object a timeout names. Everything else a step needs is in the state.
-/

namespace Sys2Proof

/-- A local channel CH00–CH63 (R243). -/
abbrev Chan := Fin 64

/-- A field group 0–7 (R243). -/
abbrev Group := Fin 8

/-- An Askiq port: 0–31 X00–X31, 32–63 Y00–Y31 (R194, R214). -/
abbrev Port := Fin 64

/-- An Askiq channel of the network (R187). -/
inductive NetChan where
  | x | y
deriving DecidableEq, Repr

/-- A host port (R293). -/
inductive HostPort where
  | a | b
deriving DecidableEq, Repr

/-- The two oscillators of a lane (R483). -/
inductive Osc where
  | crystal | rc
deriving DecidableEq, Repr

/-- The internal rails (R503). -/
inductive Rail where
  | vcore | vddq | vedge | vio | vhk
deriving DecidableEq, Repr

/-- One sample of the straps and RCV_N (R530). -/
structure StrapSample where
  pos  : BitVec 2
  sid  : BitVec 6
  rcvN : Bool
deriving DecidableEq, Repr

/-- What one lane's start-up tests found: the essence march, and the undetected or false injection points of R354 as
(row counted from 1, channel or link, 0xFF none). -/
structure StartTest where
  march : Bool
  fails : List (Nat × Nat)
deriving DecidableEq, Repr

/-- The accord message types (R41). -/
inductive AccordKind where
  | mark | view | proposal | fetchReq | fetchData | decision | verdict
deriving DecidableEq, Repr

/-- A fault in one form's verdict: the words that the form wrote for one item in place of those the rules give
(R145: 1 area, 2 route, 3 element, 0 header). -/
structure ItemFault where
  kind  : Nat
  index : Nat
  word  : Word
  timer : Word
deriving DecidableEq, Repr

/-- What one lane's sense path read at one OUTPUT channel (R260, R274): CHnnH and CHnnL in 50 mV units, current in mA. -/
structure SenseReading where
  lane : Lane
  ch   : Chan
  vh   : Nat
  vl   : Nat
  ma   : Nat
deriving DecidableEq, Repr

/-- What a lane's sense path shows of a channel's two contacts during a switch test, in 50 mV units (R262, R263). -/
structure TestReading where
  vh : Nat
  vl : Nat
deriving DecidableEq, Repr

/-- What goes with a received frame beside its bytes: whether it held a code error (R203), and the lanes whose own T₀ comes before they
deposit it (R42). -/
structure FrameNote where
  codeError : Bool
  behind    : LaneSet
deriving DecidableEq, Repr

/-- An ICMP echo request: the bytes of its data, and when it came on the network time, µs, that the housekeeper keeps (R295). -/
structure EchoRequest where
  dataBytes : Nat
  stamp     : Nat
deriving DecidableEq, Repr

/-- What the sense paths read of VRD in the start-up check (R271): those that saw it run while a lane sent alone, while the two lanes
other than the named one sent, and 1 ms after all tokens stopped. -/
structure VrdCheck where
  alone : PerLane LaneSet
  pairs : PerLane LaneSet
  after : LaneSet
deriving DecidableEq, Repr

/-- What one lane read of one field group (R272): supply in 10 mV units, current in mA. -/
structure GroupReading where
  lane : Lane
  grp  : Group
  vfld : Nat
  ma   : Nat
deriving DecidableEq, Repr

/-- Where a packet comes from, or goes to: Ethernet address, IPv4 address and UDP port (R294, R296). -/
structure HostPeer where
  mac  : BitVec 48
  addr : Word
  udp  : BitVec 16
deriving DecidableEq, Repr

/-- An arriving Ethernet frame as the MAC and the IP layer see it (R293, R294). -/
structure EthFrame where
  toOwnMac    : Bool
  broadcast   : Bool
  etherType   : Nat
  tag         : Option Nat
  length      : Nat
  fcsOk       : Bool
  ipVersion   : Nat
  ipHdrWords  : Nat
  ipHdrOk     : Bool
  ipLengthOk  : Bool
  moreFrags   : Bool
  fragOffset  : Nat
  toOwnIp     : Bool
  protocol    : Nat
  udpPort     : Nat
  udpSumOk    : Bool
deriving DecidableEq, Repr

/-- The header of a host command that has passed the arrival checks of R306: who sent it, on which queue, its sequence,
the host's time and the stamp in µs of network time (R300, R308). -/
structure CmdHdr where
  source   : BitVec 16
  queue    : Fin 16
  seq      : Word
  hostTime : Word
  stamp    : Nat
  mac      : Bool
deriving DecidableEq, Repr

/-- Which command: its source, queue and sequence (R44: two lanes hold the same command when these agree). -/
structure CmdRef where
  source : BitVec 16
  queue  : Fin 16
  seq    : Word
deriving DecidableEq, Repr

/-- The three roles of a session (R315). -/
inductive Role where
  | maintainer | engineer | custodian
deriving DecidableEq, Repr

/-- What an opened output group or channel is (R259). -/
inductive OverloadUnit where
  | channel (ch : Chan)
  | group (g : Group)
deriving DecidableEq, Repr

/-- One arrived partner message (R364): type, sender (0–2 a lane, 3 the hub), per-type sequence and payload. -/
structure PartnerMsg where
  type   : Nat
  sender : Nat
  seq    : Word
  crcOk  : Bool
  body   : List Byte
deriving DecidableEq, Repr

/-- Causes of an access or DMA fault (R454). -/
inductive AccessCause where
  | notPresent | protection | walk | bus | descriptor | eccUe | stall | guard
deriving DecidableEq, Repr

/-- Kinds of access (R460). -/
inductive Access where
  | read | write | fetch
deriving DecidableEq, Repr

/-- Translating masters (R458). -/
inductive Master where
  | main | checker | route | bus | io | dma
deriving DecidableEq, Repr

/-- The two memory ports of a lane (R461). -/
inductive MemPort where
  | essence | dram
deriving DecidableEq, Repr

/-- What the executive or an engine was at when an access of it faulted (R456): an evaluation step of the graph solver on a route or an object,
a slot of the route engine, a block instance, the handling of a command, a context save or restore at a dispatch point. -/
inductive FaultSite where
  | elsewhere
  | graph (isRoute : Bool) (id : Nat)
  | engine (isRoute : Bool) (id : Nat)
  | block
  | command
  | context
deriving DecidableEq, Repr

/-- Where an access faulted: its virtual address, and what was at work (R446, R456). -/
structure FaultPlace where
  va   : Word
  site : FaultSite
deriving DecidableEq, Repr

/-- One request presented to an arbiter: the requester, whether its access carries LOCK or UNLOCK, its bytes (R461, R465). -/
structure ArbRequest where
  requester : Fin 8
  lock      : Bool
  unlock    : Bool
  bytes     : Nat
  addr      : Word
deriving DecidableEq, Repr

/-- What stands at a port when its arbiter decides: the access times since its last one, and the requests present (R463,
R466). -/
structure PortRequests where
  idle    : Nat
  present : List ArbRequest
deriving DecidableEq, Repr

/-- A PERF_CONFIG (R347). -/
structure PerfConfig where
  counter : Nat
  enable  : Nat
  event   : Nat
  priv    : Nat
  master  : Nat
  addrLo  : Word
  addrHi  : Word
  sample  : Word
  window  : Nat
deriving DecidableEq, Repr

/-- The commands, one for each row of spec/opcode_table.json. -/
inductive Instr where
  | vinApplied (mv : Nat)
  | powerFailWarning (mv : Nat)
  | holdUpExhausted
  | vinRestored (mv : Nat)
  | inputCutOff (mv : Nat)
  | inputCutOffClosed (mv : Nat)
  | rstNLow
  | resetRelease (s1 s2 s3 : StrapSample)
  | railFault (rail : Rail) (lane : Lane) (mv : Nat)
  | startInterlock (lane : Lane) (xtStable rcStable railsOk : Bool) (nref : Nat)
  | romBootComplete (romOk : LaneSet)
  | selftestComplete (tests : PerLane StartTest) (vrd : VrdCheck)
  | imageCheck (loadOk reloadOk : LaneSet)
  | accordFormed (views : PerLane LaneSet)
  | accordFormationTimeout (views : PerLane (PerLane LaneSet))
  | loadedConditionsMet
  | integrationComplete
  | degradedTimeExpired
  | degradedTimeRestored
  | dormantEntryComplete (ms : Nat)
  | wakeComplete (hashOk blocksOk formed : LaneSet)
  | wakeNLow
  | trstNLow
  | oscillatorStable (lane : Lane) (osc : Osc)
  | oscillatorUnstable (lane : Lane) (osc : Osc)
  | monitorWindow (lane : Lane) (count : Nat)
  | nrefUpdate (lane : Lane) (rcEdges : Nat)
  | sourceSwitchComplete (lane : Option Lane) (handshake : Bool)
  | rcRestartTimeout (lane : Lane)
  | holdTimeout (lane : Lane)
  | rateAcquisitionComplete (lane : Lane) (drifts : List Int)
  | stallWatchdog (lane : Lane) (crossing : Fin 8) (addr : BitVec 36)
  | canaryReading (lane : Lane) (speed : Nat)
  | governorStepDown (lane : Lane)
  | levelStepComplete (lane : Lane)
  | railGoodTimeout (lane : Lane)
  | diagnosticEvent (lane : Lane) (ch : Option Chan) (inAck : Bool)
  | laneTickComplete (lane : Lane) (health : Byte) (work : Nat) (marginUs : Nat)
  | tickDeadline (lane : Lane)
  | tickBoundary (marks views : PerLane LaneSet) (clock : PerLane (BitVec 64))
  | accordMessageReceived (receiver sender : Lane) (kind : AccordKind) (bytes : List Byte)
  | proposalSend (lane : Lane)
  | accordedSetCompute (received : PerLane LaneSet)
  | fetchTimeout (lane : Lane)
  | inputAccordClose (sent : LaneSet) (wrong : PerLane (BitVec 64)) (units : Nat)
  | commandUnaccorded (cmd : CmdRef)
  | cycleEvaluation
  | restartTimerStart (area : Fin 64)
  | routeEngineComplete (lane : Lane) (us steps : Nat) (faults : List ItemFault)
  | graphSolverComplete (faults : List ItemFault)
  | outputAccord (sent : LaneSet) (wrong : PerLane (BitVec 64)) (units : Nat)
  | applyStrobe (strobes : LaneSet)
  | voteRefresh (tick : Fin 10) (sense : List SenseReading) (groups : List GroupReading)
  | selftestSlice (misr : PerLane (BitVec 64)) (passSeconds : Nat)
  | restartTimeExpired (area : Fin 64)
  | settleTimeExpired (elem : BitVec 13)
  | throwTimeLimitExpired (elem : BitVec 13)
  | provingTimeExpired (elem : BitVec 13)
  | closingLimitExpired (elem : BitVec 13)
  | storageTimeExpired (route : BitVec 12)
  | approachControlTimeExpired (route : BitVec 12)
  | approachLockingTimeExpired (route : BitVec 12)
  | overlapReleaseTimeExpired (elem : BitVec 13)
  | emergencyReleaseTimeExpired (route : BitVec 12)
  | boundaryTimeout (bb : BitVec 13)
  | boundaryBackoffExpired (bb : BitVec 13)
  | dataAgeExceeded (node : Fin 512) (row : Fin 8)
  | tokenExpired (source : BitVec 16) (opcode : BitVec 16) (target : Word)
  | taskRelease (task : Fin 16)
  | dispatchPoint
  | runComplete (task : Fin 24)
  | eventLatch
  | sheetPrepareComplete
  | sheetSwitch
  | sheetPrepareTimeout
  | retainedStateWrite
  | roundStart (round : Word) (devs : PerLane (List (Nat × Int))) (roundTrip : Option Nat)
  | rateUpdate (lane : Lane)
  | slotVote (node : Fin 512) (faults : PerLane (List (Nat × Byte)))
  | partnerLate (node : Fin 512)
  | frameReceived (port : Port) (slot : Nat) (sofNs endNs : Nat) (note : FrameNote) (bytes : List Byte)
  | accessClosureHoldEnd (node : Fin 512) (ch : NetChan)
  | pairingDeadline (node : Fin 512)
  | membershipLost (node : Fin 512) (ch : NetChan)
  | channelLossEnd (node : Fin 512) (ch : NetChan)
  | grantWindow (port : Port)
  | probeReply (port : Port) (arrival : Nat) (bytes : List Byte)
  | rangingWindowEnd (port : Port) (tooLong : Bool)
  | claimReceived (port : Port) (bytes : List Byte)
  | grantReleased (node : Fin 512)
  | bankSwitch
  | bankCrcExchange (partnerCrc : Word) (partnerArmed : Bool)
  | beaconSend
  | partnerListenTimeout
  | coldstartRoundsComplete
  | coldstartCollision (partnerClaim : Word)
  | collisionBackoffExpired
  | coldstartAbandoned (otherClaim : Word)
  | networkSilence
  | networkTimePersist
  | dynamicFrame (lane : Lane) (highInWindow crossLow : List Chan)
  | discrepancyTimeExpired (lane : Lane) (pair : Fin 32)
  | discrepancyCleared (lane : Lane) (pair : Fin 32)
  | vfldLost (lane : Lane) (g : Group) (vfld : Nat)
  | vfldRestored (lane : Lane) (g : Group) (vfld : Nat)
  | switchTest (ch : Chan) (highSide : Bool) (senders : LaneSet)
  | onTestAbort (lane : Lane) (ch : Chan) (highSide : Bool)
  | testRevert (ch : Chan) (highSide : Bool)
  | testResult (ch : Chan) (highSide : Bool) (readings : PerLane TestReading)
  | voterTest (unchanged : Bool) (reported : Bool)
  | silentTimeout (lane : Lane) (ch : Chan)
  | voteWithdraw (lane : Lane)
  | minorityReportExpired (lane : Lane) (ch : Chan)
  | channelOverload (ch : Chan)
  | groupOverload (g : Group) (ma : Nat)
  | moduleOverload (groupMa : List Nat)
  | overloadReenable (unit : OverloadUnit)
  | switchOvertemperature (ch : Chan)
  | vrdToken (lane : Lane) (parity : Bool) (offsetUs : Nat)
  | vrdTokenTimeout
  | ioForceEnd (ch : Chan)
  | supervisorPass (units : Nat)
  | stopStrobe (strobes : LaneSet)
  | ethernetFrame (port : HostPort) (frame : EthFrame)
  | arpRequest (port : HostPort) (target : Word)
  | icmpEcho (port : HostPort) (request : EchoRequest)
  | linkUp (port : HostPort)
  | linkDown (port : HostPort)
  | hostPacket (port : HostPort) (sender : HostPeer) (stamp : Nat) (lanes : LaneSet) (bytes : List Byte)
  | nonvitalIntake
  | offCycleService
  | replyAgreed (cmd : CmdRef)
  | replyDisagreeTimeout (cmd : CmdRef)
  | replyMissingTimeout (cmd : CmdRef)
  | q5ConfirmTimeout (cmd : CmdRef)
  | challengeExpired (source : BitVec 16) (role : Role)
  | sessionExpired (role : Role)
  | sequencePersist
  | routeSet (hdr : CmdHdr) (route : BitVec 16) (action : Byte)
  | routeCancel (hdr : CmdHdr) (route : BitVec 16)
  | routeEmergencyReleaseStep1 (hdr : CmdHdr) (route : BitVec 16)
  | routeEmergencyReleaseStep2 (hdr : CmdHdr) (route : BitVec 16) (token : Word)
  | routeQuery (hdr : CmdHdr) (route : BitVec 16)
  | routeAuto (hdr : CmdHdr) (route : BitVec 16) (action : Byte)
  | pointMove (hdr : CmdHdr) (elem : BitVec 16) (action : Byte)
  | pointBlock (hdr : CmdHdr) (elem : BitVec 16) (action : Byte)
  | signalReplace (hdr : CmdHdr) (elem : BitVec 16)
  | sectionBlock (hdr : CmdHdr) (elem : BitVec 16) (action : Byte)
  | sectionRestoreStep1 (hdr : CmdHdr) (elem : BitVec 16)
  | sectionRestoreStep2 (hdr : CmdHdr) (elem : BitVec 16) (token : Word)
  | keyRelease (hdr : CmdHdr) (elem : BitVec 16)
  | lxCommand (hdr : CmdHdr) (elem : BitVec 16) (action : Byte)
  | elementQuery (hdr : CmdHdr) (elem : BitVec 16)
  | statusModule (hdr : CmdHdr)
  | subscribe (hdr : CmdHdr) (subId kind : Byte) (first count classMask : BitVec 16)
  | unsubscribe (hdr : CmdHdr) (subId : Byte)
  | statusSnapshotCopy (hdr : CmdHdr) (count : BitVec 16) (offset : Word)
  | statusSnapshotRead (hdr : CmdHdr) (count : BitVec 16) (offset : Word)
  | recRead (hdr : CmdHdr) (index : BitVec 64) (count : BitVec 16)
  | recFreeze (hdr : CmdHdr)
  | recThaw (hdr : CmdHdr)
  | recClearStep1 (hdr : CmdHdr) (upTo : BitVec 64)
  | recClearStep2 (hdr : CmdHdr) (upTo : BitVec 64) (token : Word)
  | silRead (hdr : CmdHdr) (index : BitVec 64) (count : BitVec 16)
  | silMark (hdr : CmdHdr) (label : List Byte)
  | imgBegin (hdr : CmdHdr) (type : Byte) (length blocks version : Word)
  | imgBlock (hdr : CmdHdr) (block : Word) (part : Byte) (data : List Byte)
  | imgVerify (hdr : CmdHdr)
  | imgVerifyComplete
  | imgSchedule (hdr : CmdHdr) (netTime : BitVec 64) (iflags : Byte)
  | imgAbort (hdr : CmdHdr)
  | imgQuery (hdr : CmdHdr)
  | sheetPrepare (hdr : CmdHdr)
  | sheetCommit (hdr : CmdHdr) (netTime : BitVec 64)
  | timeCorrelate (hdr : CmdHdr) (utcS : BitVec 64) (utcNs : Word) (netTime : BitVec 64)
  | timeQuery (hdr : CmdHdr)
  | sessionChallenge (hdr : CmdHdr) (role : Byte)
  | sessionOpen (hdr : CmdHdr) (slot role : Byte) (nonce signature : List Byte)
  | sessionClose (hdr : CmdHdr) (role : Byte)
  | modeRequestSafe (hdr : CmdHdr)
  | modeRequestRestart (hdr : CmdHdr)
  | modeRequestDormant (hdr : CmdHdr)
  | modeRequestWake (hdr : CmdHdr)
  | modeRequestReplay (hdr : CmdHdr)
  | selftestQuery (hdr : CmdHdr)
  | regRead (hdr : CmdHdr) (address : Word) (count : BitVec 16)
  | sealFuseStep1 (hdr : CmdHdr) (op slot : Byte)
  | sealFuseBlow (hdr : CmdHdr) (slot : Byte) (token : Word)
  | sealFuseProgramSlot (hdr : CmdHdr) (slot : Byte) (token : Word)
  | sealFuseRevokeSlot (hdr : CmdHdr) (slot : Byte) (token : Word)
  | withheldClear (hdr : CmdHdr) (route : BitVec 16)
  | perfConfig (hdr : CmdHdr) (cfg : PerfConfig)
  | perfRead (hdr : CmdHdr)
  | perfSamples (hdr : CmdHdr) (start : Word) (count : Byte)
  | netStatus (hdr : CmdHdr) (select channel : Byte) (first count : BitVec 16)
  | netPortControl (hdr : CmdHdr) (port action : Byte)
  | netBankWrite (hdr : CmdHdr) (port : Byte) (firstSlot : BitVec 16) (entries : List Word)
  | netBankSwitch (hdr : CmdHdr) (round crc : Word)
  | netLatecomerPolicy (hdr : CmdHdr) (enable : Byte)
  | redStatus (hdr : CmdHdr)
  | redSwitchoverStep1 (hdr : CmdHdr)
  | redSwitchoverStep2 (hdr : CmdHdr) (token : Word)
  | redLaneResync (hdr : CmdHdr) (lane : Byte)
  | redTenderEnable (hdr : CmdHdr) (enable : Byte)
  | tenderEnableTimeout
  | ioStatus (hdr : CmdHdr) (first count : Byte)
  | ioTestConfig (hdr : CmdHdr) (channel action value : Byte)
  | ioForce (hdr : CmdHdr) (channel value : Byte) (duration : Word)
  | appMsgSend (hdr : CmdHdr) (identifier : BitVec 16) (n : Byte) (words : List Word)
  | dbgStatus (hdr : CmdHdr)
  | boundaryFrame (hdr : CmdHdr) (targetBb sourceBb : BitVec 16) (dir bflags exitAspect : Byte) (senderCycle : Word)
  | bogieMismatch (lane : Lane) (timeout : Bool)
  | resyncImageReload (lane : Lane) (digestOk reloadOk : Bool)
  | resyncSelftestComplete (lane : Lane) (passed : Bool)
  | resyncCopyArmed (lane : Lane)
  | copyBeforeWrite (sender : Lane) (page : Fin 4096)
  | resyncCopyComplete (lane : Lane) (senderHigh senderLow : Word)
  | resyncCopyFailed (lane : Lane)
  | catchUpComplete (lane : Lane) (run : Nat)
  | catchUpTimeout (lane : Lane)
  | probationComplete (lane : Lane) (counted : Nat)
  | resyncTimeout (lane : Lane)
  | powerRecovery (lane : Lane)
  | partnerMessage (msg : PartnerMsg)
  | controlRetransmit
  | partnerLinkUp (pos romLevel execMajor execMinor iface : Nat) (digest : List Byte) (minors : Word)
  | partnerLinkDown
  | takeoverJudgement (silent : Nat)
  | holdingTimeout
  | takeoverLost (higherClaim : Word)
  | switchoverConfirmDeadline
  | switchover
  | recordHandover (lane : Lane) (laneLocal : Bool) (type : Nat) (payload : List Byte)
  | recordCopyTimeout
  | recordClose (index : Nat)
  | freezeTimeout
  | ringDrain
  | housekeeperHeartbeatMissing
  | housekeeperLostTimeout
  | keyframeDue
  | operatingTimePersist
  | replayCycle
  | activationTimeReached
  | activationArmed (lane : Lane) (digestOk : Bool)
  | activationArmDeadline (lane : Lane)
  | activationJudgement
  | postponementExpired
  | imageSwitch
  | eccUncorrectable (lane : Lane) (requester : Option (Fin 8)) (addr : BitVec 36) (afterProposal isReply : Bool)
  | eccCorrected (lane : Lane) (addr : BitVec 36)
  | scrubRead (lane : Lane)
  | translationFault (lane : Lane) (master : Master) (access : Access) (fault : FaultPlace)
  | tlbParityError (lane : Lane) (master : Master) (vpn : BitVec 20)
  | guardFault (lane : Lane) (requester : Fin 8) (addr : BitVec 36)
  | dmaDescriptorComplete (lane : Lane) (channel : Fin 8)
  | dmaFault (lane : Lane) (channel : Fin 8) (cause : AccessCause) (va : Word) (done : Nat) (write : Bool)
  | dmaSuspended (lane : Lane) (channel : Fin 8) (done : Nat)
  | arbiterDecision (lane : Lane) (port : MemPort) (requests : PortRequests)
  | lockOverrun (lane : Lane) (port : MemPort)
  | lockIdleTimeout (lane : Lane) (port : MemPort)
  | perfSample (lane : Lane) (counter : Fin 16) (location : Word) (sflags : Byte) (master : Fin 8) (latency address : Word)
      (time : BitVec 64)
  | bandwidthWindow (lane : Lane)
  | hubSlotDataWrite (lane : Lane) (entry : Word)
  | hubSwitchRoundWrite (lane : Lane) (round : Word)
  | hubSwitchCrcWrite (lane : Lane) (crc : Word)
  | hubSwitchCancel (lane : Lane) (value : Word)
  | arbCommit (lane : Lane) (port : MemPort) (value : Word) (reason : BitVec 16)
  | cvuLoad (lane : Lane) (unit : Fin 8) (poly : BitVec 2)
  | cvuSeedNow (lane : Lane) (unit : Fin 8)
  | cvuFeed (lane : Lane) (unit : Fin 8) (data : Word)
  | cvuValueWrite (lane : Lane) (unit : Fin 8) (high : Bool) (value : Word)
  | dmaEnable (lane : Lane) (channel : Fin 8) (enable : Bool)
  | dmaSuspend (lane : Lane) (channel : Fin 8)
  | dmaResume (lane : Lane) (channel : Fin 8)
  | dmaAbort (lane : Lane) (channel : Fin 8)
  | dmaTailWrite (lane : Lane) (channel : Fin 8) (tail : Byte)
  | mmuRootWrite (lane : Lane) (master : Master) (value : Word)
  | mmuInval (lane : Lane) (value : Word)
  | clkXreset (lane : Lane) (value : Word)
  | clkGateWrite (lane : Lane) (value : Word)
  | tbsNetLoRead (lane : Lane) (net : BitVec 64) (frac : BitVec 9)
  | registerWrite (lane : Lane) (addr : BitVec 36) (value : Word)
  | idcode
  | sample (cells : List Bool)
  | bypass (code : BitVec 5)
  | dbgInstruction
  | dbgNop
  | dbgRead (lane : Lane) (addr : BitVec 36)
  | dbgWrite (lane : Lane) (addr : BitVec 36) (data : Word)
  | dbgHalt (lane : Lane)
  | dbgResume (lane : Lane)
  | dbgStep (lane : Lane)
  | tapDbgStatus (lane : Lane)
  | silBegin
  | silWrite (data : Word)
  | silEnd
  | dbgAttach
  | dbgDetach
  | comparatorSample (levels : PerLane (BitVec 64)) (halfUs : Nat)
  | fuseOperationComplete (readbackOk : Bool)
deriving DecidableEq, Repr

end Sys2Proof
end

