-- ==== Sys2Proof/Config.lean ====
section
/-!
DEFINITION. What one product or one implementation fixes and the spec does not give, as constants without a body: nothing
can be proved of their values. Each is named in the assumption log (entries 2, 4, 5).
-/

namespace Sys2Proof.Config

/-- The module's serial number (R333); product data. -/
opaque serial : BitVec 64

/-- The fused MAC addresses of ports A and B (R293). -/
opaque macA : BitVec 48
opaque macB : BitVec 48

/-- The key fused in slots 0 and 1 at manufacture, and the roles fused with slot 1 (R418). -/
opaque fusedKey : Nat → BitVec 256
opaque slot1Roles : BitVec 8

/-- The SID value of the partner of a module, by the module's own: the spec uses it (R192, R224) and does not say where the module takes it
from (log entry 30). -/
opaque partnerSid : Nat → Fin 64

/-- The ROM's expected MISR value of a self-test slice: not published (R379). -/
opaque misrExpected : Nat → BitVec 64

/-- The ROM's own checks of a patch (R417, R421). -/
opaque patchOk : List Byte → Bool

/-- The ROM's conversion factor applied: the speed a lane at one level would show at another (R59). -/
opaque speedAt : Nat → Nat → Nat → Nat

/-- Wear of a store partition in percent, by partition (0 event, 1 sillage) and by what it has been written so far: the spec gives
no rated endurance (R385). -/
opaque wear : Nat → Nat → BitVec 8

/-- Free values: what a stream brings, or what the spec leaves open, by the model's own counter. -/
opaque freeByte : Nat → Byte
opaque freeWord : Nat → Word

end Sys2Proof.Config
end

