-- ==== Sys2Proof/Machine/Operands.lean ====
section
/-!
DEFINITION. The operand forms: little-endian fields of packets, frames, images, records and registers (R5), bit fields,
saturating counts and serial arithmetic.
-/

namespace Sys2Proof.Machine

/-- The n low bytes of a number, least significant first (R5). -/
def leBytes : Nat → Nat → List Byte
  | 0, _ => []
  | n + 1, v => BitVec.ofNat 8 v :: leBytes n (v / 256)

/-- The number that bytes spell, least significant first. -/
def ofLe : List Byte → Nat
  | [] => 0
  | b :: r => b.toNat + 256 * ofLe r

/-- Bytes of a bit vector, least significant first. -/
def bytesOf {w : Nat} (n : Nat) (v : BitVec w) : List Byte := leBytes n v.toNat

/-- The field of n bytes at an offset; a missing byte reads 0. -/
def leAt (bs : List Byte) (ofs n : Nat) : Nat := ofLe ((bs.drop ofs).take n)

/-- One byte at an offset, 0 where there is none. -/
def byteAt (bs : List Byte) (ofs : Nat) : Nat := (bs.getD ofs 0).toNat

/-- Bit n of a number. -/
def bitOf (v n : Nat) : Bool := v / 2 ^ n % 2 = 1

/-- Bits m down to n of a number, counted as in the spec ([m:n]). -/
def bits (v m n : Nat) : Nat := v / 2 ^ n % 2 ^ (m + 1 - n)

/-- 1 or 0. -/
def b2n (b : Bool) : Nat := if b then 1 else 0

/-- A bit field of a byte string that runs upward from a bit of a byte and continues in the next byte (R120). -/
def fieldAt (bs : List Byte) (ofs bit width : Nat) : Nat := ofLe (bs.drop ofs) / 2 ^ bit % 2 ^ width

/-- The byte string with a bit field put in (R120). -/
def putField (bs : List Byte) (ofs bit width value : Nat) : List Byte :=
  let n := bs.length
  let pos := 8 * ofs + bit
  let old := ofLe bs
  let cleared := old - old / 2 ^ pos % 2 ^ width * 2 ^ pos
  leBytes n (cleared + value % 2 ^ width * 2 ^ pos)

/-- A list padded with zero bytes, or cut, to n. -/
def padTo (n : Nat) (bs : List Byte) : List Byte := (bs ++ List.replicate n 0).take n

/-- A count that saturates at a maximum. -/
def satAdd (max a b : Nat) : Nat := min max (a + b)

def sat16 (a : Nat) : Nat := min 0xFFFF a

/-- a is newer than b by 32-bit serial arithmetic: (a − b) mod 2³² lies in 1 to 2³¹ − 1 (R44, R304). -/
def newer (a b : Word) : Bool := 0 < (a - b).toNat && (a - b).toNat < 2 ^ 31

/-- The least common word of the two's complement of an integer in n bytes. -/
def intBytes (n : Nat) (v : Int) : List Byte := leBytes n (v % (2 ^ (8 * n) : Int)).toNat

/-- The signed value of the low w bits. -/
def signed (w v : Nat) : Int :=
  let x := v % 2 ^ w
  if x < 2 ^ (w - 1) then x else (x : Int) - 2 ^ w

/-- Median of three numbers (R44). -/
def median3 (a b c : Nat) : Nat := max (min a b) (min (max a b) c)

/-- Insertion of an integer into a rising list, and sorting by it (R217). -/
def insertInt (x : Int) : List Int → List Int
  | [] => [x]
  | y :: r => if x ≤ y then x :: y :: r else y :: insertInt x r

def sortInt (l : List Int) : List Int := l.foldr insertInt []

/-- The numbers below n that pass, in rising order. -/
def below (n : Nat) (p : Nat → Bool) : List Nat := (List.range n).filter p

/-- Adds to a list of numbers without repeats, kept rising. -/
def insertNat (x : Nat) : List Nat → List Nat
  | [] => [x]
  | y :: r => if x = y then y :: r else if x < y then x :: y :: r else y :: insertNat x r

def removeNat (x : Nat) (l : List Nat) : List Nat := l.filter (· ≠ x)

/-- The codes of the modes a status word carries, in order (R17 and alike): index of a constructor in a list. -/
def codeIn {α : Type} [DecidableEq α] (l : List α) (x : α) : Nat := l.findIdx (· = x)

end Sys2Proof.Machine
end

