-- ==== Sys2Proof/Machine/Crypto.lean ====
section
/-!
DEFINITION. The cryptographic functions that R4 names by their standards: SHA-256 and SHA-512 (FIPS 180-4), HMAC-SHA-256 (RFC 2104) and the
verification of an Ed25519 signature (RFC 8032). The spec does not spell them out: their steps are the standards' own (PRESUMED, log entry 5).
-/

namespace Sys2Proof.Machine

/-! ### SHA-2 -/

/-- The greatest r of so many bits with r to the power d at most n. -/
def rootOf (d n bits : Nat) : Nat := (List.range bits).reverse.foldl (fun r b => if (r + 2 ^ b) ^ d ≤ n then r + 2 ^ b else r) 0

/-- The first w bits of the fractional part of the d-th root of n. -/
def fracRoot (d w n : Nat) : BitVec w := BitVec.ofNat w (rootOf d (n * 2 ^ (d * w)) (w + 3))

/-- The first 80 primes. -/
def shaPrimes : List Nat := ((List.range 410).drop 2).filter fun n => ((List.range n).drop 2).all fun k => n % k ≠ 0

/-- What distinguishes the two functions: rounds, and the amounts of the functions Σ₀, Σ₁, σ₀, σ₁ (FIPS 180-4, 4.1). -/
structure ShaKind where
  rounds : Nat
  big0   : Nat × Nat × Nat
  big1   : Nat × Nat × Nat
  low0   : Nat × Nat × Nat
  low1   : Nat × Nat × Nat
deriving DecidableEq, Repr

/-- The eight working words. -/
structure ShaWords (w : Nat) where
  a : BitVec w
  b : BitVec w
  c : BitVec w
  d : BitVec w
  e : BitVec w
  f : BitVec w
  g : BitVec w
  h : BitVec w
deriving DecidableEq, Repr

def bigSigma {w : Nat} (k : Nat × Nat × Nat) (x : BitVec w) : BitVec w := x.rotateRight k.1 ^^^ x.rotateRight k.2.1 ^^^ x.rotateRight k.2.2

def lowSigma {w : Nat} (k : Nat × Nat × Nat) (x : BitVec w) : BitVec w := x.rotateRight k.1 ^^^ x.rotateRight k.2.1 ^^^ x >>> k.2.2

/-- One round on the working words, with a constant and a schedule word. -/
def ShaWords.round {w : Nat} (k : ShaKind) (s : ShaWords w) (c m : BitVec w) : ShaWords w :=
  let t1 := s.h + bigSigma k.big1 s.e + (s.e &&& s.f ^^^ ~~~s.e &&& s.g) + c + m
  let t2 := bigSigma k.big0 s.a + (s.a &&& s.b ^^^ s.a &&& s.c ^^^ s.b &&& s.c)
  ⟨t1 + t2, s.a, s.b, s.c, s.d + t1, s.e, s.f, s.g⟩

def ShaWords.add {w : Nat} (s t : ShaWords w) : ShaWords w :=
  ⟨s.a + t.a, s.b + t.b, s.c + t.c, s.d + t.d, s.e + t.e, s.f + t.f, s.g + t.g, s.h + t.h⟩

/-- The message schedule, newest word first: the block's 16 words, then one more each step. -/
def shaSchedule {w : Nat} (k : ShaKind) (words : List (BitVec w)) : List (BitVec w) :=
  (List.range (k.rounds - 16)).foldl (fun l _ =>
    (lowSigma k.low1 (l.getD 1 0) + l.getD 6 0 + lowSigma k.low0 (l.getD 14 0) + l.getD 15 0) :: l) words.reverse

/-- A block of 16 words enters the hash. -/
def ShaWords.block {w : Nat} (k : ShaKind) (consts : List (BitVec w)) (s : ShaWords w) (words : List (BitVec w)) : ShaWords w :=
  s.add (((consts.take k.rounds).zip (shaSchedule k words).reverse).foldl (fun t p => t.round k p.1 p.2) s)

/-- A number from bytes, most significant first. -/
def ofBe (bs : List Byte) : Nat := bs.foldl (fun n b => 256 * n + b.toNat) 0

/-- The padded message: a bit 1, zeros, and the length in bits in two words (FIPS 180-4, 5.1). -/
def shaPad (w : Nat) (bs : List Byte) : List Byte :=
  let block := 2 * w
  let tail := w / 4
  bs ++ 0x80 :: List.replicate ((2 * block - (bs.length + 1 + tail) % block) % block) 0 ++ (leBytes tail (8 * bs.length)).reverse

/-- The hash of a message, its first word most significant. -/
def shaHash {w : Nat} (k : ShaKind) (consts : List (BitVec w)) (start : ShaWords w) (bs : List Byte) : ShaWords w :=
  let p := shaPad w bs
  let word (i : Nat) : BitVec w := BitVec.ofNat w (ofBe ((p.drop (w / 8 * i)).take (w / 8)))
  (List.range (p.length / (2 * w))).foldl (fun s b => s.block k consts ((List.range 16).map fun i => word (16 * b + i))) start

/-- The start words: the square roots of the first eight primes. -/
def shaStart (w : Nat) : ShaWords w :=
  let r (i : Nat) : BitVec w := fracRoot 2 w (shaPrimes.getD i 0)
  ⟨r 0, r 1, r 2, r 3, r 4, r 5, r 6, r 7⟩

def ShaWords.number {w : Nat} (s : ShaWords w) : Nat :=
  [s.a, s.b, s.c, s.d, s.e, s.f, s.g, s.h].foldl (fun n x => n * 2 ^ w + x.toNat) 0

def sha256Kind : ShaKind := ⟨64, (2, 13, 22), (6, 11, 25), (7, 18, 3), (17, 19, 10)⟩
def sha512Kind : ShaKind := ⟨80, (28, 34, 39), (14, 18, 41), (1, 8, 7), (19, 61, 6)⟩

def sha256Consts : List (BitVec 32) := (shaPrimes.take 64).map (fracRoot 3 32)
def sha512Consts : List (BitVec 64) := shaPrimes.map (fracRoot 3 64)

/-- SHA-256 and SHA-512 (FIPS 180-4, 6.2 and 6.4). -/
@[irreducible] def sha256 (bs : List Byte) : BitVec 256 := BitVec.ofNat 256 (shaHash sha256Kind sha256Consts (shaStart 32) bs).number
@[irreducible] def sha512 (bs : List Byte) : BitVec 512 := BitVec.ofNat 512 (shaHash sha512Kind sha512Consts (shaStart 64) bs).number

/-- The bytes of a hash, most significant first, as the standards give them. -/
def hashBytes {w : Nat} (n : Nat) (h : BitVec w) : List Byte := (leBytes n h.toNat).reverse

/-- HMAC-SHA-256 (RFC 2104), whose block is 64 bytes. -/
@[irreducible] def hmacSha256 (key msg : List Byte) : BitVec 256 :=
  let short := if 64 < key.length then hashBytes 32 (sha256 key) else key
  let k := short ++ List.replicate (64 - short.length) 0
  sha256 (k.map (· ^^^ 0x5C) ++ hashBytes 32 (sha256 (k.map (· ^^^ 0x36) ++ msg)))

/-! ### Ed25519 (RFC 8032, 5.1) -/

/-- The field's prime and the order of the base point. -/
def edP : Nat := 2 ^ 255 - 19
def edL : Nat := 2 ^ 252 + 27742317777372353535851937790883648493

/-- A power modulo the prime, by squaring. -/
def powP (b e : Nat) : Nat := (List.range 256).reverse.foldl (fun a i => let q := a * a % edP; if e.testBit i then q * b % edP else q) 1

def invP (x : Nat) : Nat := powP x (edP - 2)

/-- The curve's constant d, −121665/121666. -/
def edD : Nat := (edP - 121665) * invP 121666 % edP

/-- A point in extended homogeneous coordinates (5.1.4). -/
structure EdPoint where
  x : Nat
  y : Nat
  z : Nat
  t : Nat
deriving DecidableEq, Repr

def EdPoint.zero : EdPoint := ⟨0, 1, 1, 0⟩

def EdPoint.add (p q : EdPoint) : EdPoint :=
  let sub (u v : Nat) : Nat := (u + edP - v % edP) % edP
  let a := sub p.y p.x * sub q.y q.x % edP
  let b := (p.y + p.x) * (q.y + q.x) % edP
  let c := p.t * 2 % edP * edD % edP * q.t % edP
  let d := p.z * 2 * q.z % edP
  let e := sub b a
  let f := sub d c
  let g := (d + c) % edP
  let h := (b + a) % edP
  ⟨e * f % edP, g * h % edP, f * g % edP, e * h % edP⟩

/-- A multiple of a point, for a factor of at most 256 bits. -/
def EdPoint.mul (p : EdPoint) (k : Nat) : EdPoint :=
  (List.range 256).reverse.foldl (fun a i => let q := a.add a; if k.testBit i then q.add p else q) .zero

/-- Two representations of one point. -/
def EdPoint.same (p q : EdPoint) : Bool := p.x * q.z % edP = q.x * p.z % edP && p.y * q.z % edP = q.y * p.z % edP

/-- The x coordinate for a y and a sign (5.1.3). -/
def edRecover (y sign : Nat) : Option Nat :=
  let u := (y * y + edP - 1) % edP
  let v := (edD * (y * y % edP) + 1) % edP
  let v3 := v * v % edP * v % edP
  let r := u * v3 % edP * powP (u * (v3 * v3 % edP * v % edP) % edP) ((edP - 5) / 8) % edP
  let root := if v * (r * r % edP) % edP = u then some r
    else if v * (r * r % edP) % edP = (edP - u) % edP then some (r * powP 2 ((edP - 1) / 4) % edP) else none
  root.bind fun x => if x = 0 && sign = 1 then none else some (if x % 2 = sign then x else edP - x)

/-- A point from its 32 bytes, or none where they encode none. -/
def edDecode (bs : List Byte) : Option EdPoint :=
  let n := ofLe bs
  let y := n % 2 ^ 255
  if bs.length ≠ 32 || edP ≤ y then none
  else (edRecover y (n / 2 ^ 255)).map fun x => ⟨x, y, 1, x * y % edP⟩

/-- The base point: y = 4/5, x even. -/
def edBase : EdPoint :=
  let y := 4 * invP 5 % edP
  let x := (edRecover y 0).getD 0
  ⟨x, y, 1, x * y % edP⟩

/-- Verification of a signature over a message by a public key (5.1.7), with the cofactor. -/
@[irreducible] def ed25519 (key msg sig : List Byte) : Bool :=
  let r := sig.take 32
  let n := ofLe (sig.drop 32)
  match edDecode key, edDecode r with
  | some a, some p =>
    let k := ofLe (hashBytes 64 (sha512 (r ++ key ++ msg))) % edL
    sig.length = 64 && n < edL && ((edBase.mul n).mul 8).same ((p.mul 8).add ((a.mul k).mul 8))
  | _, _ => false

end Sys2Proof.Machine
end

