-- ==== Sys2Proof/Machine/Crc.lean ====
section
/-!
DEFINITION. The check values of R8: CRC-16/IBM-3740, CRC-32/ISO-HDLC, CRC-32/ISCSI and CRC-64/ECMA-182, bit by bit, with the
running value of R472 (the register before the reflection of the result and XorOut).
-/

namespace Sys2Proof.Machine

/-- The four parameter sets of R8, by the POLY codes of R476. -/
inductive Poly where
  | crc16 | crc32 | crc32c | crc64
deriving DecidableEq, Repr

def Poly.ofCode (n : Nat) : Poly :=
  match n with
  | 0 => .crc16
  | 1 => .crc32
  | 2 => .crc32c
  | _ => .crc64

/-- One step of a CRC register that shifts upward. -/
def fwdStep {w : Nat} (poly reg : BitVec w) (bit : Bool) : BitVec w :=
  let x := (reg.getMsbD 0) != bit
  if x then (reg <<< 1) ^^^ poly else reg <<< 1

/-- An upward CRC register over one byte, most significant bit first. -/
def fwdByte {w : Nat} (poly reg : BitVec w) (b : Byte) : BitVec w :=
  (List.range 8).foldl (fun r i => fwdStep poly r (b.getLsbD (7 - i))) reg

/-- The same for a reflected parameter set: the byte's least significant bit goes first (R8). -/
def reflByte {w : Nat} (poly reg : BitVec w) (b : Byte) : BitVec w :=
  (List.range 8).foldl (fun r i => fwdStep poly r (b.getLsbD i)) reg

def crc32Poly : Word := 0x04C11DB7
def crc32cPoly : Word := 0x1EDC6F41
def crc64Poly : BitVec 64 := 0x42F0E1EBA9EA3693
def crc16Poly : BitVec 16 := 0x1021

/-- Init of the running value (R8, R472). -/
def Poly.init : Poly → BitVec 64
  | .crc16 => 0xFFFF
  | .crc32 | .crc32c => 0xFFFFFFFF
  | .crc64 => 0

/-- The running value after one more byte. -/
def Poly.feed (p : Poly) (v : BitVec 64) (b : Byte) : BitVec 64 :=
  match p with
  | .crc16 => (fwdByte crc16Poly (v.truncate 16) b).zeroExtend 64
  | .crc32 => (reflByte crc32Poly (v.truncate 32) b).zeroExtend 64
  | .crc32c => (reflByte crc32cPoly (v.truncate 32) b).zeroExtend 64
  | .crc64 => fwdByte crc64Poly v b

/-- The result: reflection and XorOut applied (R472). -/
def Poly.result (p : Poly) (v : BitVec 64) : BitVec 64 :=
  match p with
  | .crc16 => v &&& 0xFFFF
  | .crc32 | .crc32c => ((v.truncate 32).reverse ^^^ (0xFFFFFFFF : Word)).zeroExtend 64
  | .crc64 => v

/-- The running value after a string of bytes. -/
def Poly.run (p : Poly) (v : BitVec 64) (bs : List Byte) : BitVec 64 := bs.foldl p.feed v

/-- The check value of a string of bytes (R8). -/
def Poly.check (p : Poly) (bs : List Byte) : BitVec 64 := p.result (p.run p.init bs)

def crc32 (bs : List Byte) : Word := (Poly.check .crc32 bs).truncate 32
def crc32c (bs : List Byte) : Word := (Poly.check .crc32c bs).truncate 32
def crc64 (bs : List Byte) : BitVec 64 := Poly.check .crc64 bs

end Sys2Proof.Machine
end

