-- ==== Sys2Proof/Machine/Tab.lean ====
section
/-!
DEFINITION. Tables: sparse data by a Nat key, held as a list of pairs with strictly rising keys, so that equal tables are
equal data. A register file, a per-node table or a per-route table of the DXL-3064 lists only what is not absent.
-/

namespace Sys2Proof

/-- A sparse table: pairs of key and value, keys strictly rising (`Tab.wf`). -/
abbrev Tab (α : Type) := List (Nat × α)

variable {α β : Type}

/-- The value at a key, if the table lists it. -/
def Tab.get? (t : Tab α) (k : Nat) : Option α :=
  match t with
  | [] => none
  | (k', v) :: r => if k = k' then some v else if k < k' then none else Tab.get? r k

/-- The value at a key, or a default. -/
def Tab.getD (t : Tab α) (k : Nat) (d : α) : α := (Tab.get? t k).getD d

/-- The table with a value put at a key. -/
def Tab.put (t : Tab α) (k : Nat) (v : α) : Tab α :=
  match t with
  | [] => [(k, v)]
  | (k', v') :: r => if k = k' then (k, v) :: r else if k < k' then (k, v) :: (k', v') :: r else (k', v') :: Tab.put r k v

/-- The table without a key. -/
def Tab.erase (t : Tab α) (k : Nat) : Tab α :=
  match t with
  | [] => []
  | (k', v') :: r => if k = k' then r else if k < k' then (k', v') :: r else (k', v') :: Tab.erase r k

/-- Puts or erases. -/
def Tab.set? (t : Tab α) (k : Nat) (v : Option α) : Tab α :=
  match v with
  | some x => Tab.put t k x
  | none => Tab.erase t k

/-- Changes the value at a key, starting from a default where the table lists none. -/
def Tab.upd (t : Tab α) (k : Nat) (d : α) (f : α → α) : Tab α := Tab.put t k (f (Tab.getD t k d))

/-- Changes the value at a key where the table lists one. -/
def Tab.modify (t : Tab α) (k : Nat) (f : α → α) : Tab α :=
  match t with
  | [] => []
  | (k', v') :: r => if k = k' then (k', f v') :: r else (k', v') :: Tab.modify r k f

/-- Changes every value, keys kept. -/
def Tab.mapV (t : Tab α) (f : Nat → α → β) : Tab β := t.map fun p => (p.1, f p.1 p.2)

/-- Only the entries that pass. -/
def Tab.filterV (t : Tab α) (f : Nat → α → Bool) : Tab α := t.filter fun p => f p.1 p.2

/-- The keys. -/
def Tab.keys (t : Tab α) : List Nat := t.map Prod.fst

/-- The values. -/
def Tab.vals (t : Tab α) : List α := t.map Prod.snd

/-- Builds a table from a list of pairs in any order; of two pairs with one key the later counts. -/
def Tab.ofList (l : List (Nat × α)) : Tab α := l.foldl (fun t p => Tab.put t p.1 p.2) []

/-- The canonical form: keys strictly rising. -/
def Tab.wf (t : Tab α) : Bool :=
  match t with
  | [] => true
  | (k, _) :: r => r.all (fun p => k < p.1) && Tab.wf r

end Sys2Proof
end

