-- ==== Sys2Proof/Machine/StationState.lean ====
section
/-!
DEFINITION. The station image as data (R118–R126, R151–R154, R194–R196, R211, R233, R244, R276, R297, R298, R331, R396,
R423, R424), and the interlocking and logic-sheet state that the cycles carry (R66, R137–R140, R161–R181).
-/

namespace Sys2Proof.Machine

/-! ### Image tables -/

/-- Object kinds, by their KIND codes 0x01–0x0B (R119). -/
inductive Kind where
  | ts | pt | sg | ov | fl | lx | de | ky | bb | ez | sa
deriving DecidableEq, Repr

/-- A data source or command destination (R119 SRC, SINK). -/
inductive Place where
  | node (index : Nat)
  | chan (ch : Nat)
  | nowhere
deriving DecidableEq, Repr

/-- An element table entry (R119). -/
structure ElemDef where
  kind    : Kind
  cls     : Nat
  area    : Nat
  openAtRestart : Bool
  src     : Place
  srcOfs  : Nat
  srcBit  : Nat
  sink    : Place
  sinkOfs : Nat
  sinkBit : Nat
  preset  : Nat
  homeTs  : Option Nat
  ky      : Option Nat
  sa      : Option Nat
  ez      : Option Nat
  /-- The pool entries from LIST to LIST + LIST_LEN − 1, as (object, POS). -/
  list    : List (Nat × Nat)
deriving DecidableEq, Repr

/-- An element list pool entry (R122). -/
structure PoolEntry where
  object  : Nat
  pos     : Nat
  lastAlt : Bool
  tie     : Nat
deriving DecidableEq, Repr

/-- A route as one form sees it: the table form reads R121, the graph form derives it by R126–R128. -/
structure RouteDef where
  permanent : Bool
  acMode    : Nat
  exitAtBb  : Bool
  entry     : Nat
  exit      : Nat
  overlap   : Option Nat
  path      : List PoolEntry
  ovList    : List (Nat × Nat)
  flank     : List (List PoolEntry)
  row       : Nat
  appr      : List Nat
  apprTs    : Option Nat
  tApprCtrl : Nat
  tApprLock : Nat
  tStore    : Nat
  tEmerg    : Nat
  saOwner   : Option Nat
deriving DecidableEq, Repr

/-- An aspect class (R124). -/
structure AspectClass where
  count      : Nat
  restricted : Nat
  rows       : List (List Nat)
deriving DecidableEq, Repr

/-- Vertex kinds (R125). -/
inductive VKind where
  | joint | point | buffer | boundary
deriving DecidableEq, Repr

/-- A vertex (R125). -/
structure Vertex where
  kind   : VKind
  object : Option Nat
  ports  : List (Option Nat)
  sgUp   : Option Nat
  sgDn   : Option Nat
deriving DecidableEq, Repr

/-- A piece of track (R125). -/
structure Piece where
  ts     : Nat
  vDn    : Nat
  vUp    : Nat
  portDn : Nat
  portUp : Nat
  lx     : Option Nat
deriving DecidableEq, Repr

/-- A graph route record (R126). -/
structure GraphRoute where
  entryV  : Nat
  exitV   : Nat
  ovEndV  : Option Nat
  ovId    : Option Nat
  choices : Nat
  nChoice : Nat
  ovChoices : Nat
  ovNChoice : Nat
  down    : Bool
  acMode  : Nat
  permanent : Bool
  apprTs  : Option Nat
  row     : Nat
  apprN   : Nat
  tApprCtrl : Nat
  tApprLock : Nat
  tStore  : Nat
  tEmerg  : Nat
  xc      : List Nat
  saOwner : Option Nat
deriving DecidableEq, Repr

/-- A sheet task (R152). -/
structure TaskDef where
  kind   : Nat
  prio   : Nat
  period : Nat
  phase  : Nat
  evSrc  : Nat
  evOp   : Nat
  work   : Nat
deriving DecidableEq, Repr

/-- A block of a logic sheet (R153). -/
structure BlockDef where
  id     : Nat
  type   : Nat
  task   : Nat
  retain : Bool
  dtype  : Nat
  /-- NIN as the entry has it; the input pool may end before as many words (R155). -/
  nin    : Nat
  inputs : List Nat
  param  : Nat
deriving DecidableEq, Repr

/-- A node table entry, or a late-comer's (R195, R233). -/
structure NodeDef where
  id       : Nat
  portX    : Nat
  portY    : Nat
  satX     : Option Nat
  satY     : Option Nat
  syncNode : Bool
  compareN : Nat
  upLen    : Nat
  dnLen    : Nat
  /-- A late-comer's KEY_DIGEST (R233). -/
  keyDigest : Option (List Byte)
deriving DecidableEq, Repr

/-- Channel modes (R244). -/
inductive ChMode where
  | unused | input | output | count
deriving DecidableEq, Repr

/-- Pair kinds (R244). -/
inductive PairKind where
  | none | equivalent | antivalent | neither
deriving DecidableEq, Repr

/-- A channel table entry (R244). -/
structure ChDef where
  mode    : ChMode
  vital   : Bool
  hold    : Bool
  type3   : Bool
  dynamic : Bool
  restHigh : Bool
  pair    : PairKind
  debounce : Nat
  discrepancy : Nat
  silent  : Nat
  testPeriod : Nat
  pulse   : Nat
deriving DecidableEq, Repr

/-- A supervisor table entry (R276). -/
structure SupDef where
  remote : Bool
  srUsed : Bool
  point  : Nat
  enCh   : Nat
  srCh   : Nat
  progCh : Nat
  node   : Nat
  progOfs : Nat
  cmdOfs : Nat
  cmdBit : Nat
  tStart : Nat
  floor  : Nat
  still  : Nat
  margin : Nat
  tDec   : Nat
  tDecMax : Nat
  tFloor : Nat
deriving DecidableEq, Repr

/-- A port table entry (R298). -/
structure PortDef where
  address : Nat
  vlan    : Nat
  vlanPrio : Nat
deriving DecidableEq, Repr

/-- A source table entry (R298). -/
structure SourceDef where
  id      : Nat
  addrA   : Nat
  addrB   : Nat
  queues  : Nat
  unsol   : Nat
  unsolPort : Nat
  neighbour : Bool
deriving DecidableEq, Repr

/-- A boundary table entry (R331). -/
structure BoundaryDef where
  bb      : Nat
  source  : Nat
  queue   : Nat
  theirBb : Nat
deriving DecidableEq, Repr

/-- A snapshot table entry (R396). -/
structure SnapDef where
  trigger : Nat
  lanes   : Nat
  minGap  : Nat
  addrs   : List Nat
deriving DecidableEq, Repr

/-- A migration map entry (R424). -/
structure MapEntry where
  isRoute : Bool
  carry   : Bool
  old     : Nat
  new     : Nat
deriving DecidableEq, Repr

/-- The image declaration (R423) and the evaluation declaration (R118). -/
structure Declaration where
  changed   : BitVec 64
  sid       : Nat
  duplex    : Bool
  degradedStart : Bool
  recorderRequired : Bool
  degradedMin : Nat
  partnerMinors : Word
  peakWork  : Nat
  worstCase : Nat
  minLevel  : Nat
  sheetVersion : Nat
deriving DecidableEq, Repr

/-- A station image's sections as data (R417). -/
structure Image where
  elems    : Tab ElemDef
  routes   : Tab RouteDef
  /-- Row i of the conflict matrix: the routes j with bit (i, j) set (R123). -/
  conflict : Tab (List Nat)
  classes  : Tab AspectClass
  areas    : Tab Nat
  vertices : Tab Vertex
  pieces   : Tab Piece
  graph    : Tab GraphRoute
  tasks    : Tab TaskDef
  blocks   : Tab BlockDef
  nodes    : Tab NodeDef
  /-- Number of node table entries; late-comers follow from this index on (R233). -/
  nodeCount : Nat
  ages     : Tab Nat
  slots    : Tab Word
  chans    : Tab ChDef
  sups     : Tab SupDef
  ports    : Tab PortDef
  queues   : Tab Nat
  sources  : List SourceDef
  bounds   : List BoundaryDef
  snaps    : List SnapDef
  migration : List MapEntry
  decl     : Declaration
deriving DecidableEq, Repr

/-- A declaration with nothing declared, and an image with no section content: what stands where no image is held. -/
def Declaration.empty : Declaration := ⟨0, 0, false, false, false, 1440, 0, 0, 0, 1, 0⟩

def Image.empty : Image :=
  { elems := [], routes := [], conflict := [], classes := [], areas := [], vertices := [], pieces := [], graph := [],
    tasks := [], blocks := [], nodes := [], nodeCount := 0, ages := [], slots := [], chans := [], sups := [], ports := [],
    queues := [], sources := [], bounds := [], snaps := [], migration := [], decl := .empty }

/-! ### Interlocking state -/

/-- An element entry of the verdict vector (R139, R140), field by field. -/
structure ElemSt where
  state    : Nat
  fa       : Bool
  fb       : Bool
  fc       : Bool
  unproven : Bool
  cmd      : Nat
  reserved : Bool
  holders  : Nat
  kb       : Byte
  ta       : Nat
  tb       : Nat
deriving DecidableEq, Repr

def ElemSt.zero : ElemSt := ⟨0, false, false, false, false, 0, false, 0, 0, 0xFFFF, 0xFFFF⟩

/-- Route states, in the order of their codes (R84). -/
inductive RSt where
  | idle | requested | setting | locked | proved | cleared | inUse | releasing | apprLocked | emerg
deriving DecidableEq, Repr

/-- A route entry of the verdict vector (R138, R140), field by field. -/
structure RouteSt where
  st        : RSt
  released  : Nat
  engaged   : Bool
  signalled : Bool
  auto      : Bool
  withheld  : Bool
  kOcc      : Bool
  nextSeen  : Bool
  ovOcc     : Bool
  firstClear : Bool
  halted    : Bool
  timer     : Nat
deriving DecidableEq, Repr

def RouteSt.zero : RouteSt :=
  ⟨.idle, 0, false, false, false, false, false, false, false, false, false, 0xFFFF⟩

/-- An area entry (R140). -/
structure AreaSt where
  timer   : Nat
  expired : Bool
deriving DecidableEq, Repr

/-- A verdict vector (R137): sparse; an unlisted item is at its zero value. -/
structure Verdict where
  cycle  : Word
  digest : List Byte
  /-- The header's number of routes in the active set. -/
  count  : Nat
  areas  : Tab AreaSt
  routes : Tab RouteSt
  elems  : Tab ElemSt
deriving DecidableEq, Repr

def Verdict.empty : Verdict := ⟨0, [], 0, [], [], []⟩

/-- The overlap release time as a route started it (R106). -/
inductive OvTime where
  | idle | running | over
deriving DecidableEq, Repr

/-- What a form's usage map keeps of one route beside its word (R135, R93, R106; log entry 134): the flank alternatives taken, whether
its overlap has been released and how its release time stands, whether approach control has been satisfied, whether it waits for a
re-clear; and, by path section, which have been OCCUPIED, which saw the next one become OCCUPIED meanwhile, and which are DISTURBED
or were passed out of order (R104). -/
structure RouteUse where
  flank   : List (Option PoolEntry)
  ovFreed : Bool
  ovTime  : OvTime
  acDone  : Bool
  /-- A re-clear request has been taken since the route returned to LOCKED (R96). -/
  recleared : Bool
  seen    : List Nat
  nexts   : List Nat
  bad     : List Nat
deriving DecidableEq, Repr

def RouteUse.none : RouteUse := ⟨[], false, .idle, false, false, [], [], []⟩

/-- What a command or sheet asks of a route in a cycle (R131), in the order in which it was asked. -/
inductive RouteReq where
  | set (store : Bool) | cancel | emerg | autoOn | autoOff
deriving DecidableEq, Repr

/-- What is asked of an element (R131, R163, R289). -/
inductive ElemReq where
  | halt | move (reverse : Bool) | blockPoint (on : Bool) | blockSection (on : Bool) | replace | restoreStep1 | restore | release
  | lxClose | lxReopen
deriving DecidableEq, Repr

/-- The neighbour's data of a BB (R109). -/
structure NbrData where
  dir      : Nat
  dirReq   : Bool
  dirGrant : Bool
  routeLocked : Bool
  clear    : Bool
  permit   : Bool
  emergency : Bool
  exitAspect : Nat
  cycle    : Word
deriving DecidableEq, Repr

/-- A confirmation token (R328). -/
structure Token where
  value  : Word
  opcode : Nat
  source : Nat
  target : Nat
  /-- Cycle of the first step for station opcodes, otherwise network time in µs. -/
  since  : Nat
  station : Bool
  /-- The role of the session that binds it, if any. -/
  role   : Option Role
deriving DecidableEq, Repr

/-- A completion that is due (R327). -/
structure Completion where
  opcode : Nat
  source : Nat
  queue  : Nat
  seq    : Word
  target : Nat
  /-- POINT_MOVE: the commanded position, 1 or 2. -/
  arg    : Nat
deriving DecidableEq, Repr

/-- A request of the cycle's list with where it came from (R131): a command, a HALT, a sheet block or the module itself. -/
inductive Origin where
  | host (source queue : Nat) (seq : Word)
  | sheet (block : Nat)
  | auto
  | halt
deriving DecidableEq, Repr

/-- The request list of R131. -/
structure ReqList where
  routeReqs : List (Nat × RouteReq × Origin)
  elemReqs  : List (Nat × ElemReq × Origin)
  candidates : List Nat
deriving DecidableEq, Repr

def ReqList.empty : ReqList := ⟨[], [], []⟩

/-- The interlocking's state in essence and its persistent states. -/
structure IxlS where
  resolved  : Verdict
  tableV    : Verdict
  graphV    : Verdict
  /-- Each form's usage map (R117, R135). -/
  use       : Tab RouteUse
  graphUse  : Tab RouteUse
  /-- Routes in REQUESTED, oldest first (R87). -/
  stored    : List Nat
  /-- Automatic routes to be requested again in the next cycle (R108). -/
  resets    : List Nat
  reqList   : ReqList
  nbr       : Tab NbrData
  /-- BBs with a frame accorded this cycle (R110). -/
  nbrFresh  : List Nat
  /-- BB data as last sent (R331). -/
  bbSent    : Tab (List Byte)
  tokens    : List Token
  completions : List Completion
  /-- Statuses with which routes left REQUESTED or the active set in the cycle's evaluation (R86, R327). -/
  leaves    : Tab Nat
  /-- Persistent states (R113, R146). -/
  blockedTs : List Nat
  blockedPt : List Nat
  autos     : List Nat
  withheld  : List Nat
  divergeRun : Tab Nat
  /-- How far the cycle's evaluation has come: 1 from the close of the input accord, 6 once both forms have been evaluated, 0 otherwise. -/
  phase     : Nat
  /-- The graph solver has completed, and the comparison pass, in this cycle. -/
  graphDone : Bool
  cmpDone   : Bool
  /-- Work units of the graph solver that the ticks so far have left (R34, R135). -/
  graphLeft : Nat
  /-- A postponed activation refuses set requests over these areas (R428). -/
  areaHold  : BitVec 64
deriving DecidableEq, Repr

def IxlS.reset : IxlS :=
  { resolved := .empty, tableV := .empty, graphV := .empty, use := [], graphUse := [], stored := [], resets := [], reqList := .empty,
    nbr := [], nbrFresh := [], bbSent := [], tokens := [], completions := [], leaves := [], blockedTs := [], blockedPt := [], autos := [],
    withheld := [], divergeRun := [], phase := 0, graphDone := false, cmpDone := false, graphLeft := 0, areaHold := 0 }

/-! ### Logic sheets -/

/-- The 8-byte state record of a block, and a MSG_RECV data record (R161). -/
structure BlockSt where
  a       : Word
  b       : Nat
  q       : Bool
  prev    : Bool
  running : Bool
  expired : Bool
  init    : Bool
  data    : List Word
deriving DecidableEq, Repr

/-- The record's eight bytes: A, B and FLAGS (R161). -/
def BlockSt.bytes (x : BlockSt) : List Byte :=
  let bit (b : Bool) (n : Nat) : Nat := if b then 2 ^ n else 0
  (List.range 4).map (fun i => BitVec.ofNat 8 (x.a.toNat / 256 ^ i)) ++ (List.range 3).map (fun i => BitVec.ofNat 8 (x.b / 256 ^ i))
    ++ [BitVec.ofNat 8 (bit x.q 0 + bit x.prev 1 + bit x.running 2 + bit x.expired 3 + bit x.init 4)]

/-- A record read back from eight bytes, with a data record beside it. -/
def BlockSt.ofBytes (bs : List Byte) (data : List Word) : BlockSt :=
  let at_ (i : Nat) : Nat := (bs.getD i 0).toNat
  let flag (n : Nat) : Bool := (bs.getD 7 0).getLsbD n
  ⟨BitVec.ofNat 32 (at_ 0 + 256 * at_ 1 + 65536 * at_ 2 + 16777216 * at_ 3), at_ 4 + 256 * at_ 5 + 65536 * at_ 6, flag 0, flag 1, flag 2, flag 3,
   flag 4, data⟩

/-- A retained state as flash holds it: VERSION, the state record, and a check over both (R177, R431; the layout and the check are the
model's own, log entry 142). -/
structure Retained where
  version : Nat
  bytes   : List Byte
  check   : Word
deriving DecidableEq, Repr

/-- A run's buffers (R164, R166, R167). -/
structure RunBuf where
  reqs : List Nat
  outs : List (Nat × Nat)
  msgs : List (Nat × List Word)
deriving DecidableEq, Repr

def RunBuf.empty : RunBuf := ⟨[], [], []⟩

/-- One task's place in the schedule (R171–R174). -/
structure TaskSt where
  ready    : Bool
  running  : Bool
  /-- Index of the next block of the run. -/
  next     : Nat
  release  : Nat
  /-- Release tick of the latest run that has started: T of R159. -/
  runTick  : Nat
  startedIn : Option Nat
  pending  : Bool
  ran      : Bool
  buf      : RunBuf
deriving DecidableEq, Repr

def TaskSt.idle : TaskSt := ⟨false, false, 0, 0, 0, none, false, false, .empty⟩

/-- An inbox (R161, R168). -/
structure Inbox where
  seq  : Word
  data : List Word
deriving DecidableEq, Repr

/-- An online change that is prepared or committed (R178, R179). -/
structure SheetChange where
  paired  : List (Nat × Nat)
  newN    : Nat
  deleted : Nat
  since   : Nat
  commit  : Option Nat
  source  : Nat
  queue   : Nat
  seq     : Word
  preparing : Bool
deriving DecidableEq, Repr

/-- A request that a completed run has published: task, instance index in the set that published it, the block whose ST shows its status,
and the block's type and PARAM (R163–R165, R181). -/
structure ReqOut where
  task  : Nat
  index : Nat
  block : Nat
  type  : Nat
  param : Nat
deriving DecidableEq, Repr

/-- A message that a completed run has published: PARAM and identifier of its block, cycle of completion, data words (R167). -/
structure MsgOut where
  param : Nat
  id    : Nat
  cycle : Nat
  words : List Word
deriving DecidableEq, Repr

structure SheetS where
  blocks   : Tab BlockSt
  tasks    : Tab TaskSt
  inboxes  : Tab Inbox
  /-- The task that the executive runs now (R172), and tasks it pre-empted, newest first. -/
  current  : Option Nat
  preempted : List Nat
  /-- Application work charged in this tick (R173). -/
  charged  : Nat
  /-- The dispatch point of the tick reached so far. -/
  point    : Nat
  /-- Requests published in the last cycle, and those of the runs that have completed since (R164). -/
  published : List ReqOut
  publishing : List ReqOut
  /-- Statuses that requests received (R165), by block. -/
  status   : Tab Nat
  /-- APP_OUT: values of completed runs, staged, applied; by destination, as PARAM names it (R166). -/
  outDone  : Tab Nat
  outStaged : Tab Nat
  outApplied : Tab Nat
  /-- Messages published (R167). -/
  msgs     : List MsgOut
  /-- Event sources of the previous cycle, by task (R174). -/
  evPrev   : Tab Nat
  /-- Channel and node-field sources of the PENDING image's event tasks as the cycle before had them (R174, R181). -/
  evBefore : Tab Nat
  /-- Events raised by EVT_RAISE since the last boundary (R174). -/
  raised   : List Nat
  retained : Tab Retained
  retainDirty : Bool
  retainSince : Nat
  change   : Option SheetChange
  /-- The cycle in which a new set's periodic tasks are all released (R181). -/
  releaseAll : Option Nat
deriving DecidableEq, Repr

def SheetS.reset : SheetS :=
  { blocks := [], tasks := [], inboxes := [], current := none, preempted := [], charged := 0, point := 0, published := [],
    publishing := [], status := [], outDone := [], outStaged := [], outApplied := [], msgs := [], evPrev := [], evBefore := [], raised := [],
    retained := [], retainDirty := false, retainSince := 0, change := none, releaseAll := none }

end Sys2Proof.Machine
end

