-- ==== Sys2Proof/Machine/NetState.lean ====
section
/-!
DEFINITION. The state of the Askiq hub and network (chapters 06, 07), of the accord (chapter 02), of the field channels and
the VRD (chapter 08) and of the point-drive supervisors (chapter 09).
-/

namespace Sys2Proof.Machine

/-! ### The accord -/

/-- A vital DATA frame as the per-node buffers hold it (R42): round, frame CRC, data bytes without safety code. -/
structure Frame where
  round : Word
  crc   : Word
  data  : List Byte
deriving DecidableEq, Repr

/-- A per-node buffer of one lane (R42). -/
structure NodeBuf where
  newer   : Option Frame
  older   : Option Frame
  arrival : Option Frame
deriving DecidableEq, Repr

/-- A packet's command as a ring holds it (R308). -/
structure RingCmd where
  stamp   : Nat
  port    : HostPort
  source  : Nat
  queue   : Nat
  opcode  : Nat
  seq     : Word
  mac     : Bool
  hostTime : Word
  code    : BitVec 64
  params  : List Byte
deriving DecidableEq, Repr

/-- A partner block (R43, R49, R364): the accorded set it carries is held as bytes of the layout of R43 with its data. -/
structure PartnerBlk where
  cycle : Word
  crc   : Word
  body  : List Byte
deriving DecidableEq, Repr

/-- An input proposal, or a snapshot, of one lane (R42, R43). -/
structure Proposal where
  cycle  : Word
  lane   : Lane
  health : Byte
  time   : Nat
  nodes  : Tab (Option Frame × Option Frame)
  chans  : BitVec 64
  counts : Tab Nat
  cmds   : List RingCmd
  partner : Option PartnerBlk
deriving DecidableEq, Repr

/-- The accorded set (R44). -/
structure Accorded where
  used   : LaneSet
  frames : Tab Frame
  chans  : BitVec 64
  counts : Tab Nat
  cmds   : List RingCmd
  partner : Option PartnerBlk
  time   : Nat
deriving DecidableEq, Repr

def Accorded.empty : Accorded := ⟨LaneSet.none, [], 0, [], [], none, 0⟩

/-- Formation of the accord in LOADED or at a wake (R62). -/
structure Formation where
  readings : Nat
  run      : Nat
  formed   : Bool
deriving DecidableEq, Repr

/-- A vital command's judgement, which is answered at the T₄ boundary of its cycle (R324). -/
structure Judged where
  hdr    : CmdHdr
  opcode : Nat
  status : Nat
  params : List Byte
deriving DecidableEq, Repr

/-- An item that a lane fetches because it did not propose it (R45): a node frame, a command, a partner block. -/
inductive FetchItem where
  | frame (node : Nat) (round crc : Word)
  | command (queue source : Nat) (seq : Word) (code : BitVec 64)
  | block (cycle crc : Word)
deriving DecidableEq, Repr

structure AccS where
  tick      : Nat
  voting    : LaneSet
  views     : PerLane LaneSet
  formation : Option Formation
  /-- Whether the input accord of the cycle is open (R63 IN_ACCORD). -/
  isOpen    : Bool
  snaps     : PerLane (Option Proposal)
  sentProp  : PerLane (Option Proposal)
  /-- Per lane, the accorded set it computed; `none` where it computed none. -/
  computed  : PerLane (Option Accorded)
  /-- Items still being fetched by a lane, each with the lane that it asked with FETCH_REQ (R45). -/
  fetching  : PerLane (List (FetchItem × Lane))
  accorded  : Accorded
  /-- Accords at which a command has been held by one lane only (R48). -/
  unaccorded : List (CmdRef × Lane × Nat)
  bufs      : PerLane (Tab NodeBuf)
  /-- Lanes whose own T₀ comes before their deposit of the frame that arrives now (R42). -/
  behind    : LaneSet
  decision  : PerLane (Option (BitVec 64))
  verdict   : PerLane (Option (BitVec 64))
  outHash   : BitVec 64
  /-- Lanes that staged their outputs at the last output accord, and whether votes wait for the apply strobes (R53). -/
  staged    : LaneSet
  /-- Fewer than two strobes arrived at the last apply instant: the vote refresh lapses (R53). -/
  lapsed    : Bool
  /-- The lanes have run the self-test slice of this tick 9 (R56). -/
  sliced    : Bool
  /-- Per channel and lane: consecutive cycles with a differing input state (R47). -/
  senseRun  : PerLane (Tab Nat)
  /-- Commands judged in this cycle: their replies are written at the T₄ boundary (R324). -/
  judged    : List Judged
  /-- Consecutive rounds synchronised with a complete input accord in INTEGRATE (R19). -/
  goodRounds : Nat
  /-- OPERATE or INTEGRATE has just been entered: the next T₀ begins cycle 0 (R25). -/
  fresh : Bool
  /-- The output accord failed: SAFE follows at the T₄ boundary (R52, R141). -/
  safeAt4 : Bool
  /-- NO_MAJORITY: SAFE follows at the next tick boundary (R209). -/
  safeNext : Bool
deriving DecidableEq, Repr

def AccS.reset : AccS :=
  { tick := 0, voting := LaneSet.none, views := ⟨LaneSet.none, LaneSet.none, LaneSet.none⟩, formation := none,
    isOpen := false, snaps := ⟨none, none, none⟩, sentProp := ⟨none, none, none⟩, computed := ⟨none, none, none⟩,
    fetching := ⟨[], [], []⟩, accorded := .empty, unaccorded := [], bufs := ⟨[], [], []⟩, behind := LaneSet.none, decision := ⟨none, none, none⟩,
    verdict := ⟨none, none, none⟩, outHash := 0, staged := LaneSet.none, lapsed := false, sliced := false, senseRun := ⟨[], [], []⟩, judged := [],
    goodRounds := 0, fresh := false, safeAt4 := false, safeNext := false }

/-! ### Askiq -/

/-- A passing copy that waits for its pair, or one deposited alone (R204, R205): header word without CHANNEL, payload. -/
structure WaitCopy where
  round   : Word
  chY     : Bool
  header  : BitVec 64
  payload : List Byte
  crc     : Word
  deposited : Bool
  /-- The deadline passed and the single copy was refused. -/
  refused : Bool
  /-- Both copies have passed. -/
  both    : Bool
deriving DecidableEq, Repr

/-- What the lanes keep of one node on one channel (R200, R230–R232). -/
structure NodeChan where
  /-- Rounds of SLOT_EDGE and UNSCHEDULED counts, newest first (R200). -/
  edges     : List Nat
  closed    : Bool
  /-- Rounds since the closure, up to 4 (R232). -/
  hold      : Nat
  /-- The hold has ended: frames with INTEGRATE set are let in (R232). -/
  admitInteg : Bool
  member    : Bool
  /-- Rounds since a frame last passed (R230). -/
  silent    : Nat
  /-- A frame of this round passed. -/
  seen      : Bool
  integrating : Bool
  nodeSafe  : Bool
  delay     : Option Nat
  diag      : List Byte
  diagRound : Word
  /-- Signed OFFSET of the last uplink SOF in units; none = 0x80 (R224). -/
  offset    : Option Int
  lostPort  : Bool
deriving DecidableEq, Repr

def NodeChan.none : NodeChan := ⟨[], false, 0, false, false, 3, false, false, false, Option.none, [], 0, Option.none, false⟩

/-- What the lanes keep of one node (R204–R206, R211). -/
structure NodeSt where
  x         : NodeChan
  y         : NodeChan
  single    : Nat
  waiting   : Option WaitCopy
  /-- Both copies have passed and agreed for this many consecutive rounds (R206). -/
  agreeRun  : Nat
  /-- Both copies have agreed in this round. -/
  agreed    : Bool
  /-- A SYNC frame of QUALITY 0 from this sync node has passed since the last round start (R215, R225). -/
  sync      : Bool
  /-- The channel is declared lost for reasons of the module: partner link or takeover (R206). -/
  declX     : Bool
  declY     : Bool
  /-- Data age in µs (R50), and the frame last accorded. -/
  age       : Option Nat
  last      : Option Frame
  claimByte : Byte
  dest      : Nat
  /-- A DATA frame of this round has named `dest` (R223). -/
  named     : Bool
  /-- Slots of this round of which the first FIRST DIAG copy has been stored (R204). -/
  diagSlots : List Nat
deriving DecidableEq, Repr

def NodeSt.none : NodeSt :=
  ⟨NodeChan.none, NodeChan.none, 0, Option.none, 0, false, false, false, false, Option.none, Option.none, 0, 0, false, []⟩

/-- A CMD frame built for a node by one lane (R207, R208): versions for rounds k and k + 1. -/
structure Downlink where
  round0 : Word
  bytes0 : List Byte
  bytes1 : List Byte
deriving DecidableEq, Repr

/-- What a port's claim window has to send and is ranging (R227, R228). -/
structure PortSt where
  grants    : List (Nat × List Byte)
  delayMsg  : Option (Nat × Nat × Nat)
  probing   : Option Nat
  /-- The node index from which the next turn starts. -/
  turn      : Nat
  probedSlotC : Bool
  outOfService : Bool
  closed    : Bool
  /-- Rounds of edge counts held for the port only (R199, R226). -/
  portEdges : Nat
deriving DecidableEq, Repr

def PortSt.none : PortSt := ⟨[], Option.none, Option.none, 0, false, false, false, 0⟩

/-- A late-comer's grant (R235, R236). -/
structure GrantSt where
  up        : Nat
  dn        : Nat
  fromRound : Word
  silent    : Nat
deriving DecidableEq, Repr

/-- The phases of start-up of the network (R221–R223). -/
inductive ColdPhase where
  | idle | listening | coldRounds (left : Nat) | running | collided | abandoned (silentRounds : Nat)
deriving DecidableEq, Repr

/-- A frame that the hub sent: port, slot, bytes, and whether ABORT symbols follow the bytes (R209). -/
structure SentFrame where
  port  : Nat
  slot  : Nat
  round : Word
  bytes : List Byte
  aborted : Bool
deriving DecidableEq, Repr

/-- Counters of the HUB block (R213). -/
structure HubCounts where
  txMinority : LaneSet
  noMajority : Bool
  stale      : Nat
  crcErr     : Nat
  slotEdge   : Nat
  safetyErr  : Nat
  cmpMismatch : Nat
  accepted   : Nat
  refused    : Nat
  partnerLate : Nat
deriving DecidableEq, Repr

def HubCounts.zero : HubCounts := ⟨LaneSet.none, false, 0, 0, 0, 0, 0, 0, 0, 0⟩

/-- A lane's window on the slot tables (R214). -/
structure HubRegs where
  addrSlot  : Nat
  addrPort  : Nat
  addrBank  : Bool
  refused   : Bool
  request   : Option Word
  crc       : Word
deriving DecidableEq, Repr

def HubRegs.zero : HubRegs := ⟨0, 0, false, false, none, 0⟩

structure NetS where
  round     : Word
  running   : Bool
  phase     : ColdPhase
  collisions : Nat
  /-- The claim under which the module commands or obeys, and the highest partner claim heard. -/
  claim     : Word
  otherClaim : Word
  /-- Stored generation and persisted network time in flash (R220, R221). -/
  generation : Nat
  persistedTime : Nat
  netTime   : Nat
  synced    : Bool
  servesX   : Bool
  servesY   : Bool
  bank0     : Tab Word
  bank1     : Tab Word
  activeBank1 : Bool
  frozen    : Bool
  regs      : PerLane HubRegs
  /-- The completion that a bank switch under way owes (R238). -/
  switchDone : Option Completion
  partnerArmed : Bool
  nodes     : Tab NodeSt
  ports     : Tab PortSt
  grants    : Tab GrantSt
  grantsOn  : Bool
  /-- Downlink buffers: the half in force and the half being built (R53, R207), per lane. -/
  down      : PerLane (Tab Downlink)
  downNext  : PerLane (Tab Downlink)
  contrib   : LaneSet
  /-- Nodes for which a DMA fault of channel 1 keeps the cycle's CMD frame from being built (R456). -/
  noFrame   : List Nat
  /-- Voted bytes from the lead for the tender's hub (R210). -/
  partnerBytes : Tab (Word × List Byte)
  /-- Nodes whose vote instant of this round has passed in a tender without the lead's bytes (R210). -/
  awaited   : List Nat
  counts    : HubCounts
  /-- Lanes flagged MINORITY by the transmit voter in this round (R209). -/
  txFlagged : LaneSet
  /-- What the hub has sent in this round. -/
  sent      : List SentFrame
deriving DecidableEq, Repr

def NetS.reset : NetS :=
  { round := 0, running := false, phase := .idle, collisions := 0, claim := 0, otherClaim := 0, generation := 0,
    persistedTime := 0, netTime := 0, synced := false, servesX := false, servesY := false, bank0 := [], bank1 := [],
    activeBank1 := false, frozen := false, regs := PerLane.pure .zero, switchDone := none, partnerArmed := false,
    nodes := [], ports := [], grants := [], grantsOn := false, down := ⟨[], [], []⟩, downNext := ⟨[], [], []⟩,
    contrib := LaneSet.none, noFrame := [], partnerBytes := [], awaited := [], counts := .zero, txFlagged := LaneSet.none, sent := [] }

/-! ### Field channels -/

/-- One channel as one lane senses it (R249–R252, R273). -/
structure ChSense where
  /-- Comparator level of the last sample; the last sample before the own window (R249). -/
  level     : Bool
  held      : Bool
  run       : Nat
  state     : Bool
  /-- COUNT: edges since the last snapshot, word handed over, level for edges and its run (R252). -/
  edges     : Nat
  word      : Nat
  edgeLevel : Bool
  edgeRun   : Nat
  discrepancy : Bool
  testFail  : Bool
  cross     : Bool
  /-- Consecutive dynamic frames with a finding, and without (R250). -/
  tfWith    : Nat
  tfWithout : Nat
  crWith    : Nat
  crWithout : Nat
  hsClosed  : Bool
  lsClosed  : Bool
  openLoad  : Bool
  short     : Bool
  voterFail : Bool
  swFail    : Bool
  senseFault : Bool
  /-- Findings at consecutive refreshes (R260), by finding number, and the length of low current in ms. -/
  finding   : Nat
  findingRun : Nat
  lowMs     : Nat
  vh        : Nat
  vl        : Nat
  ma        : Nat
  /-- Consecutive tests or findings in which this lane's verdict was the odd one (R264). -/
  oddRun    : Nat
  /-- Lanes reported MINORITY at the channel's voters, sticky in this lane's register (R273). -/
  minority  : LaneSet
deriving DecidableEq, Repr

def ChSense.zero : ChSense :=
  ⟨false, false, 0, false, 0, 0, false, 0, false, false, false, 0, 0, 0, 0, false, false, false, false, false, false,
   false, 0, 0, 0, 0, 0, 0, 0, LaneSet.none⟩

/-- One voter, HSV or LSV, of a channel (R257, R264). -/
structure VoterSt where
  /-- Applied votes and votes staged for the next strobe, per lane. -/
  vote    : LaneSet
  staged  : LaneSet
  /-- Live votes (R257). -/
  live    : LaneSet
  closed  : Bool
  failed  : Bool
  /-- A test vote in force (R261, R265). -/
  test    : Option Bool
  /-- Consecutive refreshes at which a live vote differed (R258). -/
  oddRun  : PerLane Nat
deriving DecidableEq, Repr

def VoterSt.zero : VoterSt := ⟨LaneSet.none, LaneSet.none, LaneSet.none, false, false, none, ⟨0, 0, 0⟩⟩

/-- A channel's two voters and output stage (R254–R266); a channel in another mode has voters too, at which every vote is OFF. -/
structure ChOut where
  hs        : VoterSt
  ls        : VoterSt
  overload  : Bool
  /-- Operating times of openings, newest first, and the latch of the third (R259). -/
  opens     : List Nat
  latched   : Bool
  opened    : Bool
  /-- Opened as an output of its group (R259). -/
  grpOpen   : Bool
  /-- A switch test that awaits its result: high side, ON-test (R262). -/
  testRun   : Option (Bool × Bool)
  failVotes : LaneSet
deriving DecidableEq, Repr

def ChOut.zero : ChOut := ⟨.zero, .zero, false, [], false, false, false, none, LaneSet.none⟩

/-- A forced output (R350). -/
structure ForceSt where
  value  : Bool
  /-- DURATION as commanded, and cycles left. -/
  dur    : Nat
  left   : Nat
  source : Nat
deriving DecidableEq, Repr

/-- Per lane registers of FCH_STATUS, FCH_TEST and FCH_GROUP (R272). -/
structure FchLane where
  chans     : Tab ChSense
  groupLost : Byte
  vfld      : Tab Nat
  groupMa   : Tab Nat
  /-- GROUP_SUPPLY, GROUP_OVERLOAD and MODULE_OVERLOAD as the last refresh left them (R272). -/
  shownSupply : Byte
  shownOver : Byte
  shownModule : Bool
  merged    : Bool
  lastCh    : Nat
  lastLow   : Bool
  lastOn    : Bool
  lastPass  : Bool
deriving DecidableEq, Repr

def FchLane.zero : FchLane := ⟨[], 0, [], [], 0, 0, false, false, 0, false, false, false⟩

structure FchS where
  lanes     : PerLane FchLane
  /-- Dynamic sources that hold their CHnnL low (R248). -/
  srcLow    : BitVec 64
  outs      : Tab ChOut
  groupOver : Byte
  groupOpens : Tab (List Nat)
  groupLatched : Byte
  moduleOver : Bool
  moduleMa  : Nat
  forced    : Tab ForceSt
  testPeriods : Tab Nat
  voterIndex : Nat
  voterPass : Bool
  voterLane : Nat
  /-- MINORITY reports pending: cycle, lane, channel (R258). -/
  reports   : List (Nat × Lane × Nat)
  /-- VRD (R268). -/
  vrdLevel  : Bool
  vrdRunning : Bool
  vrdParity : PerLane (Option Bool)
  vrdTokens : List (Lane × Bool × Nat)
  vrdCarried : LaneSet
deriving DecidableEq, Repr

def FchS.reset : FchS :=
  { lanes := PerLane.pure .zero, srcLow := 0, outs := [], groupOver := 0, groupOpens := [], groupLatched := 0, moduleOver := false,
    moduleMa := 0, forced := [], testPeriods := [], voterIndex := 0, voterPass := false, voterLane := 0,
    reports := [], vrdLevel := false, vrdRunning := false, vrdParity := ⟨none, none, none⟩,
    vrdTokens := [], vrdCarried := LaneSet.none }

/-! ### Supervisors -/

/-- States of a supervisor, in the order of their codes (R281). -/
inductive SupState where
  | ready | throw | stopping | halted | lockout
deriving DecidableEq, Repr

structure SupSt where
  st       : SupState
  cause    : Nat
  rate     : Nat
  prevWord : Nat
  /-- The used frame: round and count (R280). -/
  used     : Option (Word × Nat)
  fresh    : Bool
  missing  : Nat
  k        : Nat
  rate0    : Nat
  limit    : Nat
  /-- The command word with which THROW began, and cycles since. -/
  cmd      : Nat
  throwAge : Nat
  floorRun : Nat
  stillRun : Nat
  haltRun  : Nat
  movingRun : Nat
  /-- Cycles since the supervisor last left STOPPING, up to T_DEC_MAX. -/
  sinceStop : Nat
deriving DecidableEq, Repr

def SupSt.halted0 : SupSt := ⟨.halted, 0, 0, 0, none, false, 0, 0, 0, 0, 0, 0, 0, 0, 0, 0, 1000⟩

structure SupS where
  sups       : Tab SupSt
  passTime   : Nat
  /-- The pass of this cycle has been made (R282). -/
  passed     : Bool
  stops      : Nat
  /-- STROBE_USED and STROBE_SHORT of each lane (R291). -/
  strobeUsed : LaneSet
  strobeShort : LaneSet
  /-- Supervisors whose channels' OFF votes are in the stop staging registers (R287). -/
  stopStaged : List Nat
  /-- Supervisors with a HALT request this cycle (R289). -/
  halts      : List Nat
deriving DecidableEq, Repr

def SupS.reset : SupS := ⟨[], 0, false, 0, LaneSet.none, LaneSet.none, [], []⟩

end Sys2Proof.Machine
end

