-- ==== Sys2Proof/Machine/HostState.lean ====
section
/-!
DEFINITION. The state of the host ports, queues and sessions (chapters 10, 11), of the recorder store (chapter 13), of the
image slots and key bank (chapter 14), of the partner link and tender (chapter 12) and of the module as a whole (chapters
01, 17, 18).
-/

namespace Sys2Proof.Machine

/-! ### Host ports -/

/-- A datagram as it leaves a port: the Ethernet address and tag of its frame, and its bytes from the IPv4 header on (R293, R294, R296). -/
structure Datagram where
  port  : HostPort
  mac   : BitVec 48
  tag   : Option Nat
  bytes : List Byte
deriving DecidableEq, Repr

/-- A reply or unsolicited packet (R302, R303), before its safety code and MAC. `lane` 0 is a voted reply. -/
structure Packet where
  source : Nat
  queue  : Nat
  opcode : Nat
  seq    : Word
  status : Nat
  hostTime : Word
  params : List Byte
  mac    : Bool
  lane   : Nat
  unsolicited : Bool
  /-- It answers the packet that consumed its sequence, so it is what that packet's copies receive (R305). -/
  own    : Bool
  ports  : List HostPort
  /-- By port, where the packet came from that it answers, when that packet did not consume its sequence. -/
  peers  : Tab HostPeer
  /-- The datagrams as which it has left (R294). -/
  grams  : List Datagram
deriving DecidableEq, Repr

/-- A consumed packet that can still have copies (R305). -/
structure Consumed where
  source : Nat
  queue  : Nat
  seq    : Word
  code   : BitVec 64
  port   : HostPort
  time   : Nat
  opcode : Nat
  hostTime : Word
  mac    : Bool
  /-- The replies sent: one, or one of each lane where they are lane-tagged. -/
  replies : List Packet
  /-- Where the reply to a packet that did not enter its ring goes (R537). -/
  ports  : List HostPort
  /-- It entered its ring, and a place of the reply ring is reserved for it (R311). -/
  ring   : Bool
  /-- By port, where it and its copies came from (R294). -/
  peers  : Tab HostPeer
  /-- The key of the session that its MAC names (R302, R316). -/
  key    : Option (List Byte)
deriving DecidableEq, Repr

/-- Lane replies that the reply selector holds for a command (R310). -/
structure LaneReplies where
  ref   : CmdRef
  /-- What the selector sends where the lanes do not agree. -/
  proto : Packet
  lanes : PerLane (Option Packet)
deriving DecidableEq, Repr

/-- An open session (R313–R317). -/
structure Session where
  role   : Role
  source : Nat
  slot   : Nat
  key    : List Byte
  opened : Nat
  macBad : List Nat
deriving DecidableEq, Repr

/-- An issued challenge (R314). -/
structure Challenge where
  source : Nat
  role   : Role
  value  : List Byte
  time   : Nat
  housekeeper : Bool
deriving DecidableEq, Repr

/-- A subscription (R334, R335). -/
structure Subscription where
  source : Nat
  id     : Nat
  kind   : Nat
  first  : Nat
  count  : Nat
  mask   : Nat
  fullDue : Bool
  /-- Next item of a resynchronisation under way. -/
  resync : Option Nat
  /-- Items as last sent. -/
  last   : Tab Nat
  /-- Records due for a kind 4 subscription, and records not sent. -/
  due    : List Nat
  lost   : Nat
deriving DecidableEq, Repr

structure HostS where
  linkA     : Bool
  linkB     : Bool
  recoveryAddr : Bool
  /-- By 2·source + port, where the latest valid packet of a source came from on a port (R296). -/
  peers     : Tab HostPeer
  icmp      : Tab Nat
  lastSeq   : Tab Word
  persistSeq : Tab Word
  consumed  : List Consumed
  unsolCtr  : Tab Nat
  persistUnsol : Tab Nat
  /-- Packets of each source in the second of network time `floodSecond` (R306 step 3). -/
  flood     : Tab Nat
  floodSecond : Nat
  rings     : PerLane (Tab (List RingCmd))
  /-- Places of the reply rings reserved, by ring: 0–15 the queues, 16 the ring of STATUS_MODULE (R298, R311). -/
  reserved  : Tab Nat
  /-- The non-vital intake of this cycle is done (R309). -/
  intakeDone : Bool
  /-- A data-caused fault strikes the handling of the next command (R456). -/
  spoilt    : Bool
  /-- Non-vital commands of this cycle's intake (R309, R404). -/
  intake    : List RingCmd
  replies   : List LaneReplies
  sent      : List Packet
  arpSent   : List (HostPort × Nat)
  icmpSent  : List (HostPort × Nat)
  q5        : List RingCmd
  challenges : List Challenge
  sessions  : List Session
  hkSession : Option Session
  chalLanes : Nat
  chalHk    : Nat
  persistChalLanes : Nat
  persistChalHk : Nat
  subs      : List Subscription
  snapshots : Tab (Word × Verdict)
  /-- UTC correlation: seconds, ns, network time (R342); taken in this cycle's intake. -/
  utc       : Option (Nat × Nat × Nat)
  utcFresh  : Bool
  /-- HQ registers (R321, R322). -/
  dropA     : Nat
  dropB     : Nat
  safetyA   : Nat
  safetyB   : Nat
  twins     : Nat
  resent    : Nat
  floodDropped : Nat
  replyDropped : Nat
  intakeLast : Nat
  intakeMax : Nat
  disagree  : Nat
  fullCnt   : Tab Nat
  /-- PERF_CONFIG to be applied at the next T₀ (R347). -/
  perfDue   : List PerfConfig
deriving DecidableEq, Repr

def HostS.reset : HostS :=
  { linkA := false, linkB := false, recoveryAddr := false, peers := [], icmp := [], lastSeq := [], persistSeq := [],
    consumed := [], unsolCtr := [], persistUnsol := [], flood := [], floodSecond := 0, rings := ⟨[], [], []⟩,
    reserved := [], intakeDone := false, spoilt := false, intake := [], replies := [], sent := [], arpSent := [], icmpSent := [], q5 := [], challenges := [],
    sessions := [], hkSession := none, chalLanes := 0, chalHk := 0, persistChalLanes := 0, persistChalHk := 0, subs := [],
    snapshots := [], utc := none, utcFresh := false, dropA := 0, dropB := 0, safetyA := 0, safetyB := 0, twins := 0,
    resent := 0, floodDropped := 0, replyDropped := 0, intakeLast := 0, intakeMax := 0, disagree := 0, fullCnt := [],
    perfDue := [] }

/-! ### Recorder -/

/-- An event record (R387). -/
structure Record where
  index   : Nat
  type    : Nat
  rep     : Nat
  interleaved : Bool
  lane    : Option Lane
  hk      : Bool
  held    : Bool
  power   : Nat
  opTime  : Nat
  cycle   : Word
  payload : List Byte
deriving DecidableEq, Repr

/-- A record that is still open (R390): its index, when it last occurred, and records written since it last occurred. -/
structure OpenRec where
  index : Nat
  last  : Nat
  later : Nat
  laterSinceRepeat : Bool
deriving DecidableEq, Repr

/-- A lane copy that awaits a match (R388). -/
structure PendingCopy where
  type    : Nat
  payload : List Byte
  lanes   : LaneSet
  cycle   : Word
  /-- Operating time at the first copy. -/
  since   : Nat
deriving DecidableEq, Repr

/-- A freeze in force (R398, R399). -/
structure FreezeS where
  source   : Nat
  since    : Nat
  held     : List Record
  overflow : Nat
deriving DecidableEq, Repr

/-- A cycle's sillage copy in the recorder path (R55, R404). -/
structure SilCopy where
  cycle  : Word
  lanes  : LaneSet
  /-- CYCLE_HEAD; the lag map; data bytes of the nodes with an accorded frame; every later item of the stream. -/
  head   : List Byte
  lag    : List Byte
  nodes  : Tab (List Byte)
  rest   : List Byte
deriving DecidableEq, Repr

/-- A sillage record (R404). -/
structure SilRecord where
  cycle : Word
  kind  : Nat
  first : Bool
  last  : Bool
  part  : Nat
  body  : List Byte
deriving DecidableEq, Repr

/-- A keyframe in the sender's recorder ring (R404, R407): its head, the lag map, and the pages that are not zero. -/
structure KeyCopy where
  cycle : Word
  head  : List Byte
  lag   : List Byte
  pages : List (Nat × List Byte)
deriving DecidableEq, Repr

/-- The identity that a replay takes from its keyframe in place of the module's own (R411). -/
structure ReplayId where
  serial : BitVec 64
  sid    : Nat
  pos    : Nat
  powerCycles : Nat
  claim  : Word
deriving DecidableEq, Repr

structure RecS where
  store      : List Record
  writeIndex : Nat
  oldest     : Nat
  opened     : List OpenRec
  pending    : List PendingCopy
  freeze     : Option FreezeS
  /-- Copies in the recorder rings, waiting for the housekeeper (R386). -/
  copies     : List SilCopy
  keyframes  : List KeyCopy
  sil        : List SilRecord
  silIndex   : Nat
  silOldest  : Nat
  /-- Baselines and lag map of the sillage (R405). -/
  baseline   : Tab (List Byte)
  lastLag    : List Byte
  gap        : Option (Nat × Nat × Nat)
  /-- Keyframe still to be taken because a resync copy runs or a switch has made one due (R407). -/
  keyframeDue : Option Nat
  /-- A SIL_MARK that waits for its cycle: its header and label (R338). -/
  mark       : Option (CmdHdr × List Byte)
  lostRing   : Nat
  powerCycles : Nat
  opTime     : Nat
  persistOp  : Nat
  /-- Values persisted at the power-fail warning: mode word, operating time, held records (R26, R399). -/
  persistMode : Nat
  persistWarn : Option Nat
  persistHeld : Nat
  wearEvent  : Nat
  wearSil    : Nat
  replayResult : Nat
  replayRunning : Bool
  replayCycle : Word
  /-- Cycles of the range still to be run, its first cycle, and the keyframe's identity (R410, R411). -/
  replayLeft : List Word
  replayFirst : Word
  replayId   : Option ReplayId
  /-- Sillage is written through the debug transport: the bytes so far (R510). -/
  silOpen    : Bool
  silRaw     : List Byte
deriving DecidableEq, Repr

def RecS.reset : RecS :=
  { store := [], writeIndex := 0, oldest := 0, opened := [], pending := [], freeze := none, copies := [], keyframes := [], sil := [],
    silIndex := 0, silOldest := 0, baseline := [], lastLag := [], gap := none, keyframeDue := none, mark := none,
    lostRing := 0, powerCycles := 0, opTime := 0, persistOp := 0, persistMode := 0, persistWarn := none, persistHeld := 0,
    wearEvent := 0, wearSil := 0, replayResult := 7, replayRunning := false, replayCycle := 0xFFFFFFFF, replayLeft := [],
    replayFirst := 0xFFFFFFFF, replayId := none,
    silOpen := false, silRaw := [] }

/-! ### Image slots and key bank -/

/-- States of an image slot, in the order of their codes (R340). -/
inductive SlotState where
  | empty | loading | loaded | verifying | verified | scheduled | active
deriving DecidableEq, Repr

/-- An image slot (R339, R340). -/
structure Slot where
  st      : SlotState
  type    : Nat
  version : Nat
  blocks  : Nat
  /-- Parts received of each block, by 8 × block + part, 512 bytes each. -/
  parts   : Tab (List Byte)
  /-- Blocks whose CRC-32C has passed. -/
  done    : List Nat
  digest  : List Byte
  romMin  : Nat
  romMax  : Nat
  iface   : Nat
  image   : Option Image
  live    : Bool
  at_     : Nat
  postpone : Bool
  /-- Who scheduled or asked for verification: completion (R327). -/
  owner   : Option Completion
deriving DecidableEq, Repr

def Slot.empty : Slot :=
  { st := .empty, type := 0, version := 0, blocks := 0, parts := [], done := [], digest := [], romMin := 0, romMax := 0,
    iface := 0, image := none, live := false, at_ := 0, postpone := false, owner := none }

/-- A key-bank slot (R418); `none` key bytes for the two fused at manufacture are Config's. -/
structure KeySlot where
  key     : List Byte
  roles   : Nat
  revoked : Bool
deriving DecidableEq, Repr

/-- A fuse operation under way (R345). -/
structure FuseOp where
  op     : Nat
  slot   : Nat
  source : Nat
  queue  : Nat
  seq    : Word
deriving DecidableEq, Repr

structure ImgS where
  /-- The image that governs, with its digest: what BOOT, the image check or a live switch loaded (R426, R430). Until ROM boot has
  found an image only the port, queue and source tables of ACTIVE stand here (R299, R435). -/
  running  : Option Image
  runDigest : List Byte
  active   : Slot
  pending  : Slot
  keys     : Tab KeySlot
  fuseOp   : Option FuseOp
  /-- Patch store (R426): minor number and digest of the installed patch. -/
  patch    : Option (Nat × List Byte)
  /-- Lanes whose image check passed, and lanes armed for an activation (R427, R432). -/
  passed   : LaneSet
  armed    : LaneSet
  tenderConfirmed : Bool
  /-- Network time after which a postponed activation ends; armed judgement result of the last T₃ (R428). -/
  postponedSince : Option Nat
  judged   : Option Verdict
  /-- MIGRATION at the next entry to OPERATE after a restart activation (R431). -/
  migrateDue : List (List MapEntry × Tab Kind)
  checked  : Bool
deriving DecidableEq, Repr

def ImgS.reset : ImgS :=
  { running := none, runDigest := [], active := .empty, pending := .empty, keys := [], fuseOp := none, patch := none, passed := LaneSet.none,
    armed := LaneSet.none, tenderConfirmed := false, postponedSince := none, judged := none, migrateDue := [],
    checked := false }

/-! ### Partner link -/

/-- Roles of a module, by their codes (R17). -/
inductive PairRole where
  | solo | lead | tender
deriving DecidableEq, Repr

/-- A tender's condition, by its codes (R349). -/
inductive Cond where
  | none | unsynced | isolated | refused
deriving DecidableEq, Repr

/-- The shadow result, by its codes (R349). -/
inductive Shadow where
  | equal | different | notCompared
deriving DecidableEq, Repr

/-- A CONTROL message waiting for its acknowledgement (R364). -/
structure ControlMsg where
  seq   : Word
  tries : Nat
  kind  : Nat
  body  : List Byte
  done  : Option Completion
deriving DecidableEq, Repr

structure PlinkS where
  up       : Bool
  /-- Ticks since a valid message last arrived (R366). -/
  quiet    : Nat
  /-- Consecutive ticks in each of which a valid message arrived (R366). -/
  live     : Nat
  seqs     : Tab Word
  /-- Partner lanes heard in the last tick, and in the tick under way (R383). -/
  heard    : LaneSet
  hearing  : LaneSet
  silent   : Nat
  /-- A heartbeat has arrived since the last boundary. -/
  beat     : Bool
  lastBeat : Nat
  /-- Link delays measured in the last 16 rounds, newest first; none where a round gave none (R365). -/
  delays   : List (Option Nat)
  delay    : Nat
  crcErr   : Nat
  shadowMis : Nat
  shadow   : Shadow
  leadVerdict : Option (Word × BitVec 64)
  partnerMode : Nat
  partnerClaim : Word
  partnerPos : Option Nat
  partnerLevels : List Nat
  partnerDigest : List Byte
  partnerMinors : Word
  partnerCond : Nat
  partnerRights : Bool
  block    : PerLane (Option PartnerBlk)
  control  : List ControlMsg
  ctlSeq   : Word
  ctlSeen  : List Word
  sent     : List (Nat × List Byte)
  holding  : Bool
  holdMs   : Nat
  rights   : Bool
  leadChannelY : Bool
  switchAt : Option Nat
  switchConfirmed : Bool
  switchDone : Option Completion
  /-- A RED_TENDER_ENABLE that the lead has forwarded: its header and ENABLE (R349). -/
  enableAsk : Option (CmdHdr × Bool)
  resync   : Bool
  /-- Partner resync (R371): its step, the operating time of its start, whether a copy runs, T₀s before it is armed, copies that
  failed, the pages received, and the cycles stored since the copy was armed. -/
  resyncStep : Nat
  resyncSince : Nat
  copying  : Bool
  copyWait : Nat
  copyFailed : Nat
  pages    : Tab (List Byte)
  stored   : List (Word × Accorded)
  /-- Consecutive probation cycles in which the tender's output hash was the lead's VERDICT (R361, R371). -/
  probation : Nat
  /-- VERDICTs of the lead's lanes (R364), and the tender's last shadow result as it reports it. -/
  verdicts : PerLane (Option (Word × BitVec 64))
  partnerShadow : Nat
  /-- The handover under way follows degraded expiry: SAFE comes after it (R23, R376). -/
  safeAfter : Bool
deriving DecidableEq, Repr

def PlinkS.reset : PlinkS :=
  { up := false, quiet := 3, live := 0, seqs := [], heard := LaneSet.none, hearing := LaneSet.none, silent := 0, beat := false, lastBeat := 0, delays := [],
    delay := 0xFFFF, crcErr := 0, shadowMis := 0, shadow := .notCompared, leadVerdict := none,
    partnerMode := 0, partnerClaim := 0, partnerPos := none, partnerLevels := [], partnerDigest := [], partnerMinors := 0,
    partnerCond := 0, partnerRights := false, block := ⟨none, none, none⟩, control := [], ctlSeq := 0, ctlSeen := [],
    sent := [], holding := false, holdMs := 0, rights := false, leadChannelY := false, switchAt := none,
    switchConfirmed := false, switchDone := none, enableAsk := none, resync := false, resyncStep := 0, resyncSince := 0
    copying := false, copyWait := 0, copyFailed := 0, pages := [], stored := [], probation := 0, verdicts := ⟨none, none, none⟩, partnerShadow := 2
    safeAfter := false }

/-! ### The module -/

/-- The modes, in the order of their codes (R17). -/
inductive Mode where
  | off | reset | boot | selftest | loaded | integrate | operate | safe | dormant | recovery | replay
deriving DecidableEq, Repr

/-- What the module stores at entry to DORMANT (R24). -/
structure DormantS where
  fromOperate : Bool
  fromSafe  : Bool
  condsMet  : Bool
  voting    : LaneSet
  notPassing : LaneSet
  entering  : Bool
deriving DecidableEq, Repr

structure ModS where
  mode      : Mode
  role      : PairRole
  cond      : Cond
  bench     : Bool
  sealed    : Bool
  lab       : Bool
  minor     : Nat
  pos       : Nat
  sid       : Nat
  rcvLow    : Bool
  rcvSamples : Nat
  /-- Straps mismatched by disagreeing samples (R530). -/
  strapBad  : Bool
  strapRecorded : Bool
  cycle     : Word
  /-- Degraded time left in ms, and ms for which FULL has held (R23, R362). -/
  degradedLeft : Nat
  fullHeld  : Nat
  dormant   : Option DormantS
  /-- A wake under way: 1 WAKE_N, 2 MODE_REQUEST (R508). -/
  waking    : Option Nat
  /-- Operating times of failed housekeeper resets (R16). -/
  hkResets  : List Nat
  hkLost    : Bool
  /-- VIN behind the cut-off in mV; the cut-off is open; the power-fail warning is in force (R500–R502). -/
  vin       : Nat
  /-- Lowest VIN since BOOT, and a power-fail warning since BOOT (R512). -/
  vinMin    : Nat
  uvWarn    : Bool
  cutOff    : Bool
  holdUp    : Bool
  edgeRails : Bool
  edgeSel   : Lane
  edgeGate  : Nat
  vhkBad    : Bool
  /-- FAULT_N held active by an isolated tender until the link returns (R372). -/
  isolatedFault : Bool
  rstLow    : Bool
  /-- A MODE_REQUEST's transition that follows its reply (R344). -/
  modeDue   : Option Mode
  dbgAttached : Bool
  dbgLog    : Nat
deriving DecidableEq, Repr

def ModS.reset : ModS :=
  { mode := .off, role := .solo, cond := .none, bench := false, sealed := false, lab := true, minor := 0, pos := 0,
    sid := 0, rcvLow := false, rcvSamples := 0, strapBad := false, strapRecorded := false, cycle := 0, degradedLeft := 0,
    fullHeld := 0, dormant := none, waking := none, hkResets := [], hkLost := false, vin := 0, vinMin := 0xFFFF, uvWarn := false, cutOff := false,
    holdUp := false, edgeRails := false, edgeSel := .a, edgeGate := 0x3F, vhkBad := false, isolatedFault := false,
    rstLow := false, modeDue := none, dbgAttached := false, dbgLog := 0 }

/-- The test access port (R509, R510). -/
structure TapS where
  ir      : Nat
  boundary : List Bool
  result  : Nat
  data    : Word
deriving DecidableEq, Repr

def TapS.reset : TapS := ⟨1, [], 0, 0⟩

end Sys2Proof.Machine
end

