-- ==== Sys2Proof/Machine/LaneState.lean ====
section
/-!
DEFINITION. The state of one lane: the lane and bogie (R355, R382), its ACC, CLK, PWR, TBS, DBG, BST and REC registers
(R63, R64, R512, R383, R413), its memory, MMU and DMA (R458, R459), its arbiters (R471), check-value units (R476) and
performance counters (R481).
-/

namespace Sys2Proof.Machine

/-- The states of a lane, in the order of their codes (R355). -/
inductive LaneSt where
  | voting | minority | resync | out | failed | hold
deriving DecidableEq, Repr

/-- The resync sequence of a lane (R361). -/
structure ResyncS where
  /-- 0 none, 1–6 the steps of R361. -/
  step        : Nat
  /-- The cause asks for the self-test step (BOGIE_MISMATCH, BIST_FAIL). -/
  needsTest   : Bool
  /-- After CLOCK, step 1 first waits for 10 synchronised rounds (R356). -/
  waitClock   : Bool
  syncRounds  : Nat
  /-- A first digest mismatch asked for a reload from the majority (R361 step 1). -/
  reloaded    : Bool
  /-- Copies that failed so far (R361 step 3). -/
  failedCopies : Nat
  copyRunning : Bool
  /-- T₀s to pass before the copy is armed (R359: the second T₀ after a failure). -/
  armWait     : Nat
  /-- The page hashes of the last copy, sender and receiver (R359). -/
  pages       : Nat
  /-- Cycles of catch-up still to run, and run so far. -/
  behind      : Nat
  caughtUp    : Nat
  /-- Consecutive probation cycles in step. -/
  probation   : Nat
  /-- Operating time at entry to RESYNC, ms; restarted at the first T₀ of INTEGRATE (R356). -/
  since       : Nat
  /-- Completed steps 1 and 2 in a mode without cycles and waits (R356). -/
  waiting     : Bool
deriving DecidableEq, Repr

def ResyncS.none : ResyncS := ⟨0, false, false, 0, false, 0, false, 0, 0, 0, 0, 0, 0, false⟩

/-- What the main core places in the compare buffer (R352): a store with address, data and byte enables, a register write with address and
data, an accord message in full. -/
inductive CmpEntry where
  | store (addr : Nat) (data : List Byte) (enables : Nat)
  | register (addr : Nat) (data : Word)
  | message (kind : AccordKind) (bytes : List Byte)
deriving DecidableEq, Repr

/-- The lane, its bogie and its part of the accord: LANE_* of R382 and ACC_* of R63, R64. -/
structure CoreS where
  st         : LaneSt
  cause      : Nat
  sub        : Nat
  /-- The state a MINORITY lane takes at the next T₀ (R356). -/
  next       : LaneSt
  resync     : ResyncS
  /-- Operating times of the automatic resyncs, newest first (R357). -/
  autoTimes  : List Nat
  left       : Nat
  rejoined   : Nat
  lag        : Nat
  cmpMax     : Nat
  mismatch   : Bool
  /-- The lane passed SELFTEST (R354, R355). -/
  passed     : Bool
  /-- MARK of the tick in progress was sent; health byte and work units it carried (R41). -/
  markSent   : Bool
  health     : Byte
  work       : Nat
  /-- Lane-local events since the last MARK, reported in its health byte (R36). -/
  events     : Byte
  heard      : LaneSet
  inAccord   : Bool
  outMismatch : Bool
  late       : Bool
  lone       : Bool
  fetched    : Bool
  inAccordMax : Nat
  slackMin   : Nat
  fetchFrames : Nat
  fetchCmds  : Nat
  nextErr    : Nat
  prevErr    : Nat
  /-- Messages a lane asked to be sent again: sender and kind (R41). -/
  retry      : List (Lane × AccordKind)
  /-- Messages that count as not received: sender and kind (R41). -/
  lost       : List (Lane × AccordKind)
  /-- Cycles of this lane's RX_MISMATCH events (R47) and TX MINORITY flags (R209), newest first. -/
  rxTimes    : List Nat
  txTimes    : List Nat
  /-- A lane that RESYNC follows: stored cycles from the armed T₀ on (R360). -/
  stored     : Nat
  /-- The completion that a resync started by RED_LANE_RESYNC owes (R327). -/
  asked      : Option Completion
  /-- Rejoined at the last T₀: its votes count from the T₄ that follows (R57, R361). -/
  rejoining  : Bool
  /-- The tick timer's setting against the lane's own time base when the accord formed, µs (R62). -/
  tickTimer  : Option Nat
  /-- The compare buffer: stores, register writes and accord messages that the checker's entries have not yet matched (R352). -/
  cmpBuf     : List CmpEntry
deriving DecidableEq, Repr

def CoreS.reset : CoreS :=
  { st := .hold, cause := 0, sub := 0, next := .hold, resync := .none, autoTimes := [], left := 0, rejoined := 0, lag := 4,
    cmpMax := 0, mismatch := false, passed := false, markSent := false, health := 0, work := 0, events := 0,
    heard := LaneSet.none, inAccord := false, outMismatch := false, late := false, lone := false, fetched := false,
    inAccordMax := 0, slackMin := 0xFFFF, fetchFrames := 0, fetchCmds := 0, nextErr := 0, prevErr := 0, retry := [],
    lost := [], rxTimes := [], txTimes := [], stored := 0, asked := none, rejoining := false, tickTimer := none, cmpBuf := [] }

/-- The RTE block of a lane (R133, R141, R150). -/
structure RteS where
  /-- 0 idle, 1–6 the phases P1–P6, 7 the comparison pass. -/
  phase     : Nat
  tableDone : Bool
  graphDone : Bool
  cmpDone   : Bool
  flood     : Bool
  late      : Bool
  lastUs    : Nat
  maxUs     : Nat
  diffItems : Nat
  cmpTime   : Nat
  divCycles : Nat
  graphWu   : Nat
  graphWuMax : Nat
  steps     : Nat
deriving DecidableEq, Repr

def RteS.reset : RteS :=
  { phase := 0, tableDone := false, graphDone := false, cmpDone := false, flood := false, late := false, lastUs := 0, maxUs := 0,
    diffItems := 0, cmpTime := 0, divCycles := 0, graphWu := 0, graphWuMax := 0, steps := 0 }

/-- Entry to OPERATE: times and counts restart from 0; the write-one-to-clear bits stay (R150). -/
def RteS.restart (r : RteS) : RteS := { RteS.reset with flood := r.flood, late := r.late }

/-- Oscillators, clock monitor, gating and crossings of a lane (R484–R496, CLK_* of R512). -/
structure ClkS where
  xtStable   : Bool
  rcStable   : Bool
  source     : Osc
  noFallback : Bool
  forced     : Bool
  tripped    : Bool
  /-- 0 tree, 1 RUN, 2 SLEEP, 3 DEEP (R491, R492). -/
  static     : Nat
  nref       : Nat
  lastC      : Nat
  rcDisabled : Bool
  rcRestarting : Bool
  /-- A switch of the selected source is under way (R487). -/
  switching  : Bool
  /-- Start interlock passed (R505 step 3). -/
  started    : Bool
  gateTb     : Bool
  gateDram   : Bool
  gateIos    : Bool
  gateRefused : Bool
  merged     : Byte
  /-- Crossings still in the acknowledge phase of the previous event (R496). -/
  ackPhase   : Byte
  stallCount : Nat
  stallCross : Nat
deriving DecidableEq, Repr

def ClkS.reset : ClkS :=
  { xtStable := false, rcStable := false, source := .crystal, noFallback := false, forced := false, tripped := false,
    static := 1, nref := 0, lastC := 0, rcDisabled := false, rcRestarting := false, switching := false, started := false,
    gateTb := true, gateDram := true, gateIos := true, gateRefused := false, merged := 0, ackPhase := 0, stallCount := 0,
    stallCross := 0 }

/-- Rails, level and canary of a lane (R497–R503, PWR_* of R512). -/
structure PwrS where
  level     : Nat
  minLevel  : Nat
  /-- The level a step under way leads to, and its reason code (R498, R513). -/
  stepTo    : Option (Nat × Nat)
  /-- A step has been begun since the last tick boundary (R498: at most one step per tick). -/
  stepped   : Bool
  railFault : Bool
  canary    : Nat
  minSpeed  : Nat
  vcore     : Nat
  vddq      : Nat
  up        : Nat
  down      : Nat
  /-- The level in force at entry to DORMANT (R508). -/
  saved     : Nat
deriving DecidableEq, Repr

def PwrS.reset : PwrS :=
  { level := 1, minLevel := 1, stepTo := none, stepped := false, railFault := false,
    canary := 0, minSpeed := 0xFFFF, vcore := 0, vddq := 0, up := 0, down := 0,
    saved := 1 }

/-- The time base of a lane (R215–R219, R489, TBS_* of R512). -/
structure TbsS where
  latchLo   : Word
  latchHi   : Word
  latchFrac : Nat
  /-- RATE in 1/256 unit per round (R218). -/
  rate      : Int
  /-- Base rate: 2 500 for the crystal, N_REF for the RC (2 500 / N_REF), or the acquired mean drift (R486, R489). -/
  baseNref  : Nat
  baseDrift : Int
  v         : Nat
  synced    : Bool
  v1Run     : Nat
  acquiring : Bool
  lastC     : Int
  /-- The last eight corrections, newest first (R218). -/
  corr      : List Int
  /-- Consecutive rounds with v ≥ 2 or v = 1 as R219 counts them. -/
  syncRun   : Nat
deriving DecidableEq, Repr

def TbsS.reset : TbsS :=
  { latchLo := 0, latchHi := 0, latchFrac := 0, rate := 0, baseNref := 2500, baseDrift := 0, v := 0, synced := false,
    v1Run := 0, acquiring := false, lastC := 0, corr := [], syncRun := 0 }

/-- Debug, self-test slices and the recorder block of a lane (DBG_*, BST_*, REC_*). -/
structure DiagS where
  halted     : Bool
  bstNext    : Nat
  bstRepeat  : Bool
  bstFail    : Bool
  lastFailed : Nat
  passes     : Nat
  /-- Slices run and failed, as SELFTEST_QUERY reports them (R346). -/
  slicesRun  : Nat
  slicesFailed : Nat
  passSeconds : Nat
  misr       : BitVec 64
  /-- The index that failed at the last slice of this lane, to be repeated (R379). -/
  failedIndex : Option Nat
  hkAlive    : Bool
  keyframeBusy : Bool
  ringFull   : Bool
  silDropped : Bool
  ringFill   : Nat
  maxFill    : Nat
  dropSil    : Nat
  dropEvents : Nat
  keyframe   : Word
  snapTaken  : Nat
  snapSkipped : Nat
  /-- Per snapshot entry: operating time of the last snapshot and triggers skipped since (R397). -/
  snapLast   : Tab Nat
  snapMissed : Tab Nat
  /-- DMA channels of this lane whose data-caused fault fails the next operation that needs them (R456). -/
  dmaFailed  : List Nat
deriving DecidableEq, Repr

def DiagS.reset : DiagS :=
  { halted := false, bstNext := 0, bstRepeat := false, bstFail := false, lastFailed := 0x1FFF, passes := 0, slicesRun := 0, slicesFailed := 0,
    passSeconds := 0xFFFF, misr := 0, failedIndex := none, hkAlive := false, keyframeBusy := false, ringFull := false,
    silDropped := false, ringFill := 0, maxFill := 0, dropSil := 0, dropEvents := 0, keyframe := 0xFFFFFFFF, snapTaken := 0,
    snapSkipped := 0, snapLast := [], snapMissed := [], dmaFailed := [] }

/-! ### Memory, MMU and DMA (chapter 15) -/

/-- One TLB entry: a valid translation (R447). -/
structure TlbEntry where
  vpn    : Nat
  frame  : Nat
  read   : Bool
  write  : Bool
  exec   : Bool
  device : Bool
deriving DecidableEq, Repr

/-- A translating master's root and TLB (R458, R447). -/
structure MmuMaster where
  root   : Nat
  enable : Bool
  /-- At most 64 entries, newest first. -/
  tlb    : List TlbEntry
deriving DecidableEq, Repr

/-- States of a DMA channel in the order of their codes (R459). -/
inductive DmaSt where
  | idle | running | suspending | suspended | faulted
deriving DecidableEq, Repr

/-- A DMA descriptor as its ring holds it (R450). -/
structure Descriptor where
  own     : Bool
  notify  : Bool
  snoop   : Bool
  cvu     : Nat
  seed    : Bool
  chain   : Bool
  kind    : Nat
  reserved : Bool
  src     : Word
  dst     : Word
  length  : Nat
  seedTag : BitVec 64
deriving DecidableEq, Repr

/-- One DMA channel (R449–R459). -/
structure DmaCh where
  enable   : Bool
  st       : DmaSt
  notified : Bool
  cause    : Nat
  done     : Nat
  base     : Word
  size     : Nat
  head     : Nat
  tail     : Nat
  faultVa  : Word
  faultFrame : Nat
  faultValid : Bool
  remain   : Nat
  saveDesc : Nat
  saveCvu  : BitVec 64
  infoCause : Nat
  infoMaster : Nat
  infoWrite : Bool
  /-- The descriptor in progress and the bytes it has moved. -/
  cur      : Option Descriptor
  moved    : Nat
  /-- Its unit is bound elsewhere, so it waits with no byte moved (R473). -/
  waiting  : Bool
  /-- The unit it has bound (R473). -/
  bound    : Option Nat
  /-- A suspend or a fault ended a binding whose running value the save registers hold (R474). -/
  saved    : Bool
deriving DecidableEq, Repr

def DmaCh.reset : DmaCh :=
  { enable := false, st := .idle, notified := false, cause := 0, done := 0, base := 0, size := 0, head := 0, tail := 0,
    faultVa := 0, faultFrame := 0, faultValid := false, remain := 0, saveDesc := 0, saveCvu := 0, infoCause := 0,
    infoMaster := 0, infoWrite := false, cur := none, moved := 0, waiting := false, bound := none, saved := false }

/-- Memory and MMU registers of a lane (R438–R448, R458). -/
structure MmuS where
  /-- ROM, essence and DRAM bytes by physical address; an unlisted byte reads 0 (log entry 3). -/
  bytes     : List (Nat × Byte)
  /-- Word addresses (8-byte) written back poisoned (R444). -/
  poisoned  : List Nat
  /-- The six translating masters of R458, by number. -/
  masters   : Tab MmuMaster
  faultVa   : Word
  faultCause : Nat
  faultMaster : Nat
  faultWrite : Bool
  faultFetch : Bool
  essCorr   : Nat
  essUnc    : Nat
  dramCorr  : Nat
  dramUnc   : Nat
  eccAddr   : Word
  scrubWord : Nat
  scrubPasses : Nat
  /-- Physical bank of each logical bank where it differs from its own number (R440). -/
  bankMap   : Tab Nat
  spare     : Nat
  copying   : Nat
  copyActive : Bool
  /-- Corrected essence word addresses of this full pass (R440). -/
  corrected : List Nat
  /-- The spare is a weak bank that stays the spare until its march (R440). -/
  weakSpare : Bool
  /-- The logical bank whose copy comes next in the rotation of R378. -/
  rotate    : Nat
  tlbPerr   : Nat
  guardLocked : Bool
  guardRefused : Nat
  /-- Pages whose SENT bit is set and pages in the snapshot buffer while this lane sends a copy (R358). -/
  sentPages  : List Nat
  snapBuf    : List Nat
  /-- Essence bytes that a running copy brings this lane (R358). -/
  incoming   : List (Nat × Byte)
deriving DecidableEq, Repr

def MmuS.reset : MmuS :=
  { bytes := [], poisoned := [], masters := [], faultVa := 0, faultCause := 0, faultMaster := 0, faultWrite := false,
    faultFetch := false, essCorr := 0, essUnc := 0, dramCorr := 0, dramUnc := 0, eccAddr := 0, scrubWord := 0,
    scrubPasses := 0, bankMap := [], spare := 64, copying := 0, copyActive := false, corrected := [], weakSpare := false,
    rotate := 0, tlbPerr := 0, guardLocked := false, guardRefused := 0, sentPages := [], snapBuf := [], incoming := [] }

/-! ### Arbiter, check-value units, counters (chapter 16) -/

/-- One requester's standing at one port (R467, R468). -/
structure ReqS where
  streak  : Nat
  backoff : Nat
  streakMax : Nat
  waitMax : Nat
  /-- Wait so far of the request presented, in 2.5 ns units. -/
  wait    : Nat
deriving DecidableEq, Repr

/-- One memory port's arbiter (R461–R471). -/
structure ArbS where
  shadow   : BitVec 24
  active   : BitVec 24
  owner    : Nat
  locked   : Bool
  lockCount : Nat
  /-- Requesters reserved, oldest first (R468). -/
  reserved : List Nat
  req      : Tab ReqS
  faultOver : Bool
  faultIdle : Bool
  faultReq  : Nat
  faultCount : Nat
deriving DecidableEq, Repr

def ArbS.reset : ArbS := ⟨0, 0, 0, false, 0, [], [], false, false, 0, 0⟩

/-- One check-value unit (R472–R476). -/
structure CvuS where
  poly    : Nat
  value   : BitVec 64
  bound   : Bool
  channel : Nat
  incomplete : Bool
  refused : Bool
  seedLo  : Word
  seedHi  : Word
  bytes   : Nat
deriving DecidableEq, Repr

def CvuS.reset : CvuS := ⟨0, 0, false, 0, false, false, 0, 0, 0⟩

/-- One performance counter (R477–R481). -/
structure PmcS where
  event  : Nat
  priv   : Nat
  master : Nat
  anyMaster : Bool
  enable : Bool
  ovf    : Bool
  addrLo : Word
  addrHi : Word
  sampleN : Word
  count  : Nat
  /-- Events counted towards the next sample (R479). -/
  phase  : Nat
deriving DecidableEq, Repr

def PmcS.reset : PmcS := ⟨0, 0, 0, true, false, false, 0, 0, 0, 0, 0⟩

/-- A sample record of the sample ring (R479). -/
structure SampleRec where
  cycle    : Word
  tick     : Nat
  counter  : Nat
  event    : Nat
  location : Word
  sflags   : Byte
  master   : Nat
  latency  : Word
  address  : Word
  time     : BitVec 64
deriving DecidableEq, Repr

/-- The counters' common registers (R479–R481). -/
structure PerfS where
  ctr     : Tab PmcS
  window  : Nat
  runEss  : Tab Nat
  runDram : Tab Nat
  bwEss   : Tab Nat
  bwDram  : Tab Nat
  ring    : Tab SampleRec
  writeIndex : Nat
  lost    : Nat
deriving DecidableEq, Repr

def PerfS.reset : PerfS := ⟨[], 0, [], [], [], [], [], 0, 0⟩

/-- Everything one lane holds beside what the station and network chapters give it. -/
structure LaneS where
  core : CoreS
  clk  : ClkS
  pwr  : PwrS
  tbs  : TbsS
  diag : DiagS
  mmu  : MmuS
  dma  : Tab DmaCh
  arbE : ArbS
  arbD : ArbS
  cvu  : Tab CvuS
  perf : PerfS
  rte  : RteS
deriving DecidableEq, Repr

def LaneS.reset : LaneS := ⟨.reset, .reset, .reset, .reset, .reset, .reset, [], .reset, .reset, [], .reset, .reset⟩

end Sys2Proof.Machine
end

