-- ==== Sys2Proof/Machine/State.lean ====
section
/-!
DEFINITION. The state of the DXL-3064 as plain data, the reasons why a command can stop, and the state right after reset:
the module without VIN (mode OFF, R19), with an empty queue of waiting commands.
-/

namespace Sys2Proof.Machine

/-- Reasons for a fault. The block has none: every effect that the spec gives a command, faults of its lanes included, is an
effect on the state. The one constructor stands so that the type is not empty; no meaning raises it (safe). -/
inductive Fault where
  /-- Raised by no meaning. -/
  | unused
deriving DecidableEq, Repr

/-- Reasons for a refusal. -/
inductive Refusal where
  /-- A command whose meaning has not been written: only arms of exec raise it (safe). -/
  | notModelled (mnemonic : String)
deriving DecidableEq, Repr

/-- The whole state of the module. -/
structure State where
  /-- Commands that wait, first in, first out (the block's queue). -/
  pending : List Instr
  /-- The model's own counter: the index of the next free value (log entry 4). -/
  freeCtr : Nat
  mod     : ModS
  lanes   : PerLane LaneS
  acc     : AccS
  img     : ImgS
  ixl     : IxlS
  sheets  : SheetS
  net     : NetS
  fch     : FchS
  sup     : SupS
  host    : HostS
  rcd     : RecS
  plink   : PlinkS
  tap     : TapS
deriving DecidableEq, Repr

/-- The module right after power-on, before VIN: every field at the value the spec states, or the log names. -/
def State.reset : State :=
  { pending := [], freeCtr := 0, mod := .reset, lanes := PerLane.pure .reset, acc := .reset, img := .reset, ixl := .reset,
    sheets := .reset, net := .reset, fch := .reset, sup := .reset, host := .reset, rcd := .reset, plink := .reset,
    tap := .reset }

end Sys2Proof.Machine
end

