-- ==== Sys2Proof/Machine/Flags.lean ====
section
/-!
DEFINITION. Status words and flags computed from the state: the mode word (R17), codes of modes, roles and conditions, the
FAULT_N output (R267), the lanes of the module in each standing, and the identities of R27, R191 and R301.
-/

namespace Sys2Proof

def Role.code : Role → Nat
  | .maintainer => 1 | .engineer => 2 | .custodian => 3

def Role.ofCode : Nat → Option Role
  | 1 => some .maintainer
  | 2 => some .engineer
  | 3 => some .custodian
  | _ => none

def AccessCause.code : AccessCause → Nat
  | .notPresent => 1 | .protection => 2 | .walk => 3 | .bus => 4 | .descriptor => 5 | .eccUe => 6 | .stall => 7 | .guard => 8

def Master.code : Master → Nat
  | .main => 0 | .checker => 1 | .route => 2 | .bus => 3 | .io => 4 | .dma => 5

def NetChan.code : NetChan → Nat
  | .x => 0 | .y => 1

def HostPort.code : HostPort → Nat
  | .a => 0 | .b => 1

end Sys2Proof

namespace Sys2Proof.Machine

def Mode.code : Mode → Nat
  | .off => 0 | .reset => 1 | .boot => 2 | .selftest => 3 | .loaded => 4 | .integrate => 5 | .operate => 6 | .safe => 7
  | .dormant => 8 | .recovery => 9 | .replay => 10

def PairRole.code : PairRole → Nat
  | .solo => 0 | .lead => 1 | .tender => 2

def Cond.code : Cond → Nat
  | .none => 0 | .unsynced => 1 | .isolated => 2 | .refused => 3

def Shadow.code : Shadow → Nat
  | .equal => 0 | .different => 1 | .notCompared => 2

def LaneSt.code : LaneSt → Nat
  | .voting => 0 | .minority => 1 | .resync => 2 | .out => 3 | .failed => 4 | .hold => 5

def RSt.code : RSt → Nat
  | .idle => 0 | .requested => 1 | .setting => 2 | .locked => 3 | .proved => 4 | .cleared => 5 | .inUse => 6
  | .releasing => 7 | .apprLocked => 8 | .emerg => 9

def SupState.code : SupState → Nat
  | .ready => 0 | .throw => 1 | .stopping => 2 | .halted => 3 | .lockout => 4

def SlotState.code : SlotState → Nat
  | .empty => 0 | .loading => 1 | .loaded => 2 | .verifying => 3 | .verified => 4 | .scheduled => 5 | .active => 6

def DmaSt.code : DmaSt → Nat
  | .idle => 0 | .running => 1 | .suspending => 2 | .suspended => 3 | .faulted => 4

/-- Kind codes of R119. -/
def Kind.code : Kind → Nat
  | .ts => 1 | .pt => 2 | .sg => 3 | .ov => 4 | .fl => 5 | .lx => 6 | .de => 7 | .ky => 8 | .bb => 9 | .ez => 10 | .sa => 11

def Kind.ofCode : Nat → Option Kind
  | 1 => some .ts | 2 => some .pt | 3 => some .sg | 4 => some .ov | 5 => some .fl | 6 => some .lx | 7 => some .de
  | 8 => some .ky | 9 => some .bb | 10 => some .ez | 11 => some .sa | _ => none

/-- A lane's state record. -/
def State.lane (s : State) (l : Lane) : LaneS := s.lanes.get l

/-- The state of a lane (R355). -/
def State.laneSt (s : State) (l : Lane) : LaneSt := (s.lane l).core.st

/-- Lanes that satisfy a test. -/
def State.lanesWith (s : State) (p : LaneS → Bool) : LaneSet := s.lanes.map p

/-- Lanes that vote. -/
def State.votingLanes (s : State) : LaneSet := s.lanesWith fun l => l.core.st = .voting

/-- Lanes that write replies outside cycles: those not in OUT, FAILED or HOLD (R538). -/
def State.replyingLanes (s : State) : LaneSet :=
  s.lanesWith fun l => l.core.st = .voting || l.core.st = .minority || l.core.st = .resync

/-- Cycles run in this mode (R56). -/
def Mode.cycles (m : Mode) : Bool := m = .integrate || m = .operate

/-- The lanes are alive in this mode: they have left the reset of the module. -/
def Mode.lanesRun : Mode → Bool
  | .off | .reset => false
  | _ => true

/-- DEGRADED: OPERATE with two voting lanes (R17). -/
def State.degraded (s : State) : Bool := s.mod.mode = .operate && LaneSet.count s.votingLanes = 2

/-- The mode word (R17, R539). -/
def modeWordOf (m : Mode) (deg lab : Bool) (r : PairRole) : Nat :=
  let role := match m with
    | .integrate | .operate | .safe | .dormant => r.code
    | _ => 0
  m.code + (if deg then 16 else 0) + (if lab then 32 else 0) + 64 * role

def State.modeWord (s : State) : Nat := modeWordOf s.mod.mode s.degraded s.mod.lab s.mod.role

/-- The image that governs, or an image with nothing in it. -/
def State.image (s : State) : Image := s.img.running.getD .empty

/-- The cycle number as records and replies show it: 0xFFFF_FFFF outside OPERATE (R387). -/
def State.recCycle (s : State) : Word := if s.mod.mode = .operate then s.mod.cycle else 0xFFFFFFFF

/-- The module's Askiq identity (R191). -/
def State.askiqId (s : State) : Nat := 0x3C0 + s.mod.sid

/-- The partner's Askiq identity (R192, R224; log entry 30). -/
def State.partnerId (s : State) : Nat := 0x3C0 + (Config.partnerSid s.mod.sid).val

/-- Module identities lie from 0x3C0 to 0x3FF (R191). -/
def isModuleId (n : Nat) : Bool := 0x3C0 ≤ n && n ≤ 0x3FF

/-- The network time that the module holds: the accorded cycle network time, or that of a start of the network since (R44, R220, R221). -/
def State.netNow (s : State) : Nat := s.net.netTime

/-- The channel status word FCH_CH_STATUS_nn of one lane (R273). -/
def chStatus (s : State) (l : Lane) (ch : Nat) : Nat :=
  let fl := s.fch.lanes.get l
  let c := Tab.getD fl.chans ch .zero
  let o := Tab.getD s.fch.outs ch .zero
  let isOut := (Tab.get? s.image.chans ch).any fun d => d.mode = .output
  b2n (if isOut then c.hsClosed && c.lsClosed else c.state) + 2 * b2n c.hsClosed + 4 * b2n c.lsClosed
    + 8 * b2n c.openLoad + 16 * b2n c.short + 32 * b2n o.overload + 64 * b2n (c.testFail || c.swFail)
    + 128 * b2n c.cross + 256 * b2n c.discrepancy + 512 * b2n (fl.groupLost.getLsbD (ch / 8)) + 1024 * b2n c.voterFail
    + 2048 * b2n (o.hs.failed || o.ls.failed) + 4096 * LaneSet.bits c.minority + 32768 * b2n c.senseFault

/-- Whether any fault bit of R267 is set in the status word of a channel. -/
def faultBits (w : Nat) : Bool := bits w 11 3 ≠ 0

/-- FAULT_N of one lane; unpowered, no lane drives it (R267, R372). -/
def State.faultN (s : State) (l : Lane) : Bool :=
  if s.mod.mode = .off then false else match s.laneSt l with
  | .out | .failed | .hold => true
  | _ =>
    s.mod.isolatedFault || !s.mod.mode.cycles || s.fch.groupOver ≠ 0 || s.fch.moduleOver || !s.fch.reports.isEmpty
      || s.image.chans.any fun p => p.2.mode ≠ .unused && faultBits (chStatus s l p.1)

end Sys2Proof.Machine
end

