-- ==== Sys2Proof/Machine/Datagrams.lean ====
section
/-!
DEFINITION. The packets that the host ports send, byte by byte: the reply layout with its safety code and session MAC (R300–R303, R316), and
the UDP datagram and IPv4 header around it (R293, R294, R296).
-/

namespace Sys2Proof.Machine

/-! ### Ports and opcodes -/

/-- The port's own address: by the port table, or by recovery addressing (R298, R299). -/
def State.portAddress (s : State) (p : HostPort) : Nat :=
  if s.host.recoveryAddr then (match p with | .a => 0xA9FE3C00 | .b => 0xA9FE3D00) + s.mod.sid + 1
  else ((Tab.get? s.image.ports p.code).map PortDef.address).getD 0

/-- The port's VLAN identifier, 0 for untagged frames (R298, R299). -/
def State.portVlan (s : State) (p : HostPort) : Nat :=
  if s.host.recoveryAddr then 0 else ((Tab.get? s.image.ports p.code).map PortDef.vlan).getD 0

/-- The tag that a frame carries as it leaves: VLAN identifier and priority of the port table; none for untagged frames (R298). -/
def State.portTag (s : State) (p : HostPort) : Option Nat :=
  if s.portVlan p = 0 then none
  else some (s.portVlan p + 8192 * ((Tab.get? s.image.ports p.code).map PortDef.vlanPrio).getD 0)

/-- The role of an opcode; none where the opcode does not exist or is unsolicited only (R323). -/
def opcodeRole (o : Nat) : Option (Option Role) :=
  match o with
  | 0x0101 | 0x0102 | 0x0103 | 0x0104 | 0x0105 | 0x0201 | 0x0202 | 0x0203 | 0x0204 | 0x0205 | 0x0206 | 0x0207 | 0x0208
  | 0x0301 | 0x0302 | 0x0303 | 0x0304 | 0x0701 | 0x0702 | 0x0703 | 0x0C01 | 0x0F01 => some none
  | 0x0401 | 0x0402 | 0x0403 | 0x0405 | 0x0406 | 0x0506 | 0x0601 | 0x0602 | 0x0704 | 0x0705 | 0x0706 | 0x0801 | 0x0802 | 0x0803
  | 0x0901 | 0x0A01 | 0x0A02 | 0x0A03 | 0x0B01 | 0x0B02 => some (some .maintainer)
  | 0x0501 | 0x0502 | 0x0503 | 0x0504 | 0x0505 | 0x0507 | 0x0508 | 0x0708 | 0x0902 | 0x0903 | 0x0904 | 0x0905 | 0x0A04 | 0x0B03
  | 0x0D01 => some (some .engineer)
  | 0x0404 | 0x0707 => some (some .custodian)
  | _ => none

/-- The open session of a role and source (R313). -/
def State.sessionOf (s : State) (r : Role) (source : Nat) : Option Session :=
  (s.host.sessions ++ s.host.hkSession.toList).find? fun x => x.role = r && x.source = source

/-- The key of the session under which a source sends an opcode; none where no such session is open (R313, R316). -/
def State.sessionKey (s : State) (opcode source : Nat) : Option (List Byte) :=
  ((opcodeRole opcode).join.bind fun r => s.sessionOf r source).map Session.key

/-! ### Packets -/

/-- QUEUE of a reply or unsolicited packet, with LANE (R302, R303). -/
def Packet.queueByte (p : Packet) : Nat := p.queue + 16 * p.lane + 128 * b2n p.unsolicited

/-- Bytes 0 to 15 + PLEN of a packet that the module sends (R300, R302, R303). -/
def Packet.body (p : Packet) : List Byte :=
  leBytes 1 2 ++ leBytes 1 p.queueByte ++ leBytes 2 p.opcode ++ bytesOf 4 p.seq ++ leBytes 2 p.params.length ++ leBytes 2 p.status
    ++ bytesOf 4 p.hostTime ++ p.params

/-- The virtual header of a packet that the module sends (R301). -/
def Packet.virtualHeader (p : Packet) (identity : Nat) : List Byte :=
  leBytes 2 identity ++ leBytes 2 p.source ++ leBytes 1 p.queueByte ++ leBytes 3 0 ++ bytesOf 4 p.seq

/-- The packet as it fills the UDP payload: its safety code, and its session MAC where its command carried one (R301, R302, R316). -/
def Packet.payload (p : Packet) (identity : Nat) (key : Option (List Byte)) : List Byte :=
  let code := bytesOf 8 (crc64 (p.virtualHeader identity ++ p.body))
  let mac := match p.mac, key with
    | true, some k => (hashBytes 32 (hmacSha256 k (p.virtualHeader identity ++ p.body ++ code))).take 16
    | _, _ => []
  p.body ++ code ++ mac

/-! ### Datagrams -/

/-- A field in network byte order, which Ethernet, IPv4 and UDP use. -/
def netBytes (n v : Nat) : List Byte := (leBytes n v).reverse

/-- The sum of the 16-bit words in network byte order; an odd last byte is the high half of its word. -/
def wordSum : List Byte → Nat
  | a :: b :: r => 256 * a.toNat + b.toNat + wordSum r
  | [a] => 256 * a.toNat
  | [] => 0

/-- The checksum of IPv4 and UDP: the complement of the ones' complement sum. -/
def netChecksum (l : List Byte) : Nat :=
  let fold (x : Nat) : Nat := x % 65536 + x / 65536
  65535 - fold (fold (wordSum l))

/-- The IPv4 header of every datagram: 5 words, identification 0, DF, TTL 64, UDP (R294). The type of service is 0 (log entry 150). -/
def ipHeader (from_ to_ length : Nat) : List Byte :=
  let head (sum : Nat) : List Byte :=
    [0x45, 0] ++ netBytes 2 length ++ [0, 0, 0x40, 0, 64, 17] ++ netBytes 2 sum ++ netBytes 4 from_ ++ netBytes 4 to_
  head (netChecksum (head 0))

/-- The UDP header with its checksum, which is sent as 0xFFFF where it computes to 0 (R294). -/
def udpHeader (from_ to_ port : Nat) (payload : List Byte) : List Byte :=
  let n := 8 + payload.length
  let head (sum : Nat) : List Byte := netBytes 2 4862 ++ netBytes 2 port ++ netBytes 2 n ++ netBytes 2 sum
  let sum := netChecksum (netBytes 4 from_ ++ netBytes 4 to_ ++ [0, 17] ++ netBytes 2 n ++ head 0 ++ payload)
  head (if sum = 0 then 65535 else sum)

/-- Where a packet goes on a port: to the Ethernet source and the address of the latest valid packet from its destination (R296); a reply to
the address and UDP port from which its command came there, an unsolicited packet to UNSOL_PORT (R294, R303). A reply that leaves on a port on
which its command has not come takes the UDP port from which it came on the other. -/
def State.peerFor (s : State) (p : Packet) (command : Tab HostPeer) (q : HostPort) : Option HostPeer :=
  (Tab.get? s.host.peers (2 * p.source + q.code)).map fun h =>
    if p.unsolicited then
      { h with udp := ((s.image.sources.find? fun d => d.id = p.source).map fun d => BitVec.ofNat 16 d.unsolPort).getD h.udp }
    else match Tab.get? command q.code, command.head? with
      | some c, _ => { h with addr := c.addr, udp := c.udp }
      | none, some c => { h with udp := c.2.udp }
      | none, none => h

/-- The datagram that carries a packet on a port (R293, R294, R296). -/
def State.datagram (s : State) (p : Packet) (key : Option (List Byte)) (q : HostPort) (to_ : HostPeer) : Datagram :=
  let body := p.payload s.mod.sid key
  let own := s.portAddress q
  { port := q, mac := to_.mac, tag := s.portTag q
    bytes := ipHeader own to_.addr.toNat (28 + body.length) ++ udpHeader own to_.addr.toNat to_.udp.toNat body ++ body }

end Sys2Proof.Machine
end

