-- ==== Sys2Proof/Machine/RegRead.lean ====
section
/-!
DEFINITION. Reading a register of a lane without side effects (R346, R439): the words of every block, from the layouts of
R63, R64, R150, R213, R214, R272–R274, R291, R321, R322, R382, R383, R413, R458, R459, R471, R476, R481 and R512. Offsets
that no register occupies read 0 (R438), and write-only fields read 0 (R7).
-/

namespace Sys2Proof.Machine

/-- A register word from its fields: (lowest bit, width, value). -/
def pack (fs : List (Nat × Nat × Nat)) : Nat := fs.foldl (fun w f => w + f.2.2 % 2 ^ f.2.1 * 2 ^ f.1) 0

/-- Entries of a list of times that lie within a span before now. -/
def countWithin (now span : Nat) (l : List Nat) : Nat := (l.filter fun t => now < t + span).length

/-- A signed integer as a 32-bit word. -/
def wordOfInt (w : Nat) (i : Int) : Nat := (i % (2 ^ w : Int)).toNat

def rdLane (s : State) (l : Lane) (o : Nat) : Nat :=
  let c := (s.lane l).core
  match o with
  | 0x000 => pack [(0, 2, l.id), (2, 3, c.st.code), (8, 4, c.cause), (12, 4, c.sub), (16, 3, c.resync.step),
      (19, 4, min 15 (countWithin s.rcd.opTime 3600000 c.autoTimes))]
  | 0x004 => pack [(0, 4, c.lag), (4, 4, c.cmpMax), (8, 1, b2n c.mismatch)]
  | 0x008 => pack [(0, 13, c.resync.pages), (16, 16, sat16 c.resync.behind)]
  | 0x00C => pack [(0, 16, c.left), (16, 16, c.rejoined)]
  | _ => 0

def rdAcc (s : State) (l : Lane) (o : Nat) : Nat :=
  let c := (s.lane l).core
  match o with
  | 0x000 => pack [(0, 2, l.id), (2, 3, LaneSet.bits s.acc.voting), (5, 3, LaneSet.bits c.heard), (8, 4, s.acc.tick),
      (12, 1, b2n c.inAccord), (13, 1, b2n c.outMismatch), (14, 1, b2n c.late), (15, 1, b2n c.lone), (16, 1, b2n c.fetched)]
  | 0x004 => s.mod.cycle.toNat
  | 0x008 => pack [(0, 16, c.inAccordMax), (16, 16, c.slackMin)]
  | 0x00C => pack [(0, 16, c.fetchFrames), (16, 16, c.fetchCmds)]
  | 0x010 => pack [(0, 16, c.nextErr), (16, 16, c.prevErr)]
  | 0x014 => pack [(0, 8, min 255 (countWithin s.mod.cycle.toNat 100 c.rxTimes))]
  | _ => 0

def rdRte (s : State) (l : Lane) (o : Nat) : Nat :=
  let x := (s.lane l).rte
  match o with
  | 0x000 => pack [(0, 3, x.phase), (3, 1, b2n x.tableDone), (4, 1, b2n x.graphDone), (5, 1, b2n x.cmpDone),
      (6, 1, b2n x.flood), (7, 1, b2n x.late)]
  | 0x004 => pack [(0, 16, sat16 x.lastUs), (16, 16, sat16 x.maxUs)]
  | 0x008 => pack [(0, 8, x.diffItems), (16, 16, sat16 x.cmpTime)]
  | 0x00C => x.divCycles
  | 0x010 => pack [(0, 13, s.ixl.withheld.length)]
  | 0x014 => pack [(0, 24, x.graphWu)]
  | 0x018 => pack [(0, 24, x.graphWuMax)]
  | 0x01C => pack [(0, 24, x.steps)]
  | _ => 0

def rdMmu (s : State) (l : Lane) (o : Nat) : Nat :=
  let m := (s.lane l).mmu
  if 0x010 ≤ o ∧ o < 0x028 ∧ o % 4 = 0 then
    match Tab.get? m.masters ((o - 0x010) / 4) with
    | some r => pack [(0, 22, r.root), (31, 1, b2n r.enable)]
    | none => 0
  else match o with
  | 0x040 => m.faultVa.toNat
  | 0x044 => pack [(0, 4, m.faultCause), (4, 3, m.faultMaster), (7, 1, b2n m.faultWrite), (8, 1, b2n m.faultFetch)]
  | 0x050 => pack [(0, 16, m.essCorr), (16, 16, m.essUnc)]
  | 0x054 => pack [(0, 16, m.dramCorr), (16, 16, m.dramUnc)]
  | 0x058 => m.eccAddr.toNat
  | 0x05C => pack [(0, 10, m.scrubWord * 1000 / 67108864), (16, 16, m.scrubPasses)]
  | 0x060 => pack [(0, 7, m.spare), (8, 6, m.copying), (14, 1, b2n m.copyActive)]
  | 0x064 => m.tlbPerr
  | 0x070 => pack [(0, 1, b2n m.guardLocked), (16, 16, m.guardRefused)]
  | _ => 0

def rdDma (s : State) (l : Lane) (o : Nat) : Nat :=
  if o < 0x100 ∨ 0x300 ≤ o then 0
  else
    let d := Tab.getD (s.lane l).dma ((o - 0x100) / 0x40) .reset
    match (o - 0x100) % 0x40 with
    | 0x00 => b2n d.enable
    | 0x04 => pack [(0, 3, d.st.code), (3, 1, b2n d.notified), (4, 4, d.cause), (16, 16, d.done)]
    | 0x08 => d.base.toNat / 32 * 32
    | 0x0C => pack [(0, 9, d.size)]
    | 0x10 => pack [(0, 8, d.head)]
    | 0x14 => pack [(0, 8, d.tail)]
    | 0x18 => d.faultVa.toNat
    | 0x1C => pack [(0, 24, d.faultFrame), (24, 1, b2n d.faultValid)]
    | 0x20 => pack [(0, 25, d.remain)]
    | 0x24 => pack [(0, 8, d.saveDesc)]
    | 0x28 => d.saveCvu.toNat % 2 ^ 32
    | 0x2C => d.saveCvu.toNat / 2 ^ 32
    | 0x30 => pack [(0, 4, d.infoCause), (4, 3, d.infoMaster), (7, 1, b2n d.infoWrite)]
    | _ => 0

/-- The bits of requesters, one bit each from bit 0. -/
def reqBits (l : List Nat) : Nat := l.foldl (fun w r => w + 2 ^ r) 0

def rdArb (s : State) (l : Lane) (o : Nat) : Nat :=
  if 0x200 ≤ o then 0
  else
    let a := if o < 0x100 then (s.lane l).arbE else (s.lane l).arbD
    let r := o % 0x100
    if 0x40 ≤ r ∧ r < 0x60 ∧ r % 4 = 0 then ((Tab.get? a.req ((r - 0x40) / 4)).map ReqS.waitMax).getD 0 % 2 ^ 32
    else match r with
    | 0x000 => a.shadow.toNat
    | 0x004 => a.active.toNat
    | 0x00C => pack [(0, 3, a.owner), (3, 1, b2n a.locked), (4, 5, a.lockCount),
        (16, 8, reqBits ((a.req.filter fun p => 0 < p.2.backoff).map Prod.fst)), (24, 8, reqBits a.reserved)]
    | 0x010 => pack [(0, 1, b2n a.faultOver), (1, 1, b2n a.faultIdle), (2, 3, a.faultReq), (16, 16, a.faultCount)]
    | 0x014 => a.req.foldl (fun w p => w + min 7 p.2.streakMax * 2 ^ (4 * p.1)) 0
    | _ => 0

def rdCvu (s : State) (l : Lane) (o : Nat) : Nat :=
  if 0x200 ≤ o then 0
  else
    let u := Tab.getD (s.lane l).cvu (o / 0x40) .reset
    let res := (Poly.ofCode u.poly).result u.value
    match o % 0x40 with
    | 0x00 => pack [(0, 2, u.poly)]
    | 0x04 => pack [(0, 1, b2n u.bound), (1, 3, u.channel), (4, 1, b2n u.incomplete), (5, 1, b2n u.refused)]
    | 0x08 => u.seedLo.toNat
    | 0x0C => u.seedHi.toNat
    | 0x18 => u.value.toNat % 2 ^ 32
    | 0x1C => u.value.toNat / 2 ^ 32
    | 0x20 => res.toNat % 2 ^ 32
    | 0x24 => res.toNat / 2 ^ 32
    | 0x28 => u.bytes % 2 ^ 32
    | _ => 0

def rdPmc (s : State) (l : Lane) (o : Nat) : Nat :=
  let p := (s.lane l).perf
  if o < 0x100 then
    let k := Tab.getD p.ctr (o / 0x10) .reset
    match o % 0x10 with
    | 0x0 => pack [(0, 16, k.event), (16, 2, k.priv), (18, 3, k.master), (21, 1, b2n k.anyMaster), (22, 1, b2n k.enable),
        (23, 1, b2n k.ovf)]
    | 0x4 => k.addrLo.toNat
    | 0x8 => k.addrHi.toNat
    | 0xC => k.sampleN.toNat
    | _ => 0
  else if o < 0x180 then
    let k := Tab.getD p.ctr ((o - 0x100) / 8) .reset
    match (o - 0x100) % 8 with
    | 0 => k.count % 2 ^ 32
    | 4 => k.count / 2 ^ 32 % 2 ^ 16
    | _ => 0
  else if 0x220 ≤ o ∧ o < 0x240 ∧ o % 4 = 0 then Tab.getD p.bwEss ((o - 0x220) / 4) 0 % 2 ^ 32
  else if 0x240 ≤ o ∧ o < 0x260 ∧ o % 4 = 0 then Tab.getD p.bwDram ((o - 0x240) / 4) 0 % 2 ^ 32
  else match o with
  | 0x200 => pack [(0, 2, p.window)]
  | 0x280 => p.writeIndex % 2 ^ 32
  | 0x284 => p.lost % 2 ^ 32
  | _ => 0

/-- The entries of a slot bank in port-major order, as bytes (R198, R214). -/
def bankBytes (b : Tab Word) : List Byte := (List.range 64000).flatMap fun i => bytesOf 4 (Tab.getD b i 0)

/-- The inactive bank. -/
def NetS.inactive (n : NetS) : Tab Word := if n.activeBank1 then n.bank0 else n.bank1

/-- The active bank. -/
def NetS.active (n : NetS) : Tab Word := if n.activeBank1 then n.bank1 else n.bank0

/-- CRC-32/ISCSI of a bank in port-major order (R198). -/
def bankCrc (b : Tab Word) : Word := crc32c (bankBytes b)

/-- Bits of the ports of one channel whose receive pair is closed. -/
def closedPorts (n : NetS) (base : Nat) : Nat :=
  (n.ports.filter fun p => base ≤ p.1 && p.1 < base + 32 && p.2.closed).foldl (fun w p => w + 2 ^ (p.1 - base)) 0

/-- A node has a channel declared lost (R206). -/
def NodeSt.declared (n : NodeSt) : Bool := n.declX || n.declY

def rdHub (s : State) (l : Lane) (o : Nat) : Nat :=
  let n := s.net
  let r := n.regs.get l
  let c := n.counts
  if 0x100 ≤ o ∧ o < 0x140 ∧ o % 4 = 0 then
    (n.nodes.filter fun p => p.1 / 32 = (o - 0x100) / 4 && p.2.declared).foldl (fun w p => w + 2 ^ (p.1 % 32)) 0
  else match o with
  | 0x000 => pack [(0, 1, b2n n.activeBank1), (1, 1, b2n n.frozen), (2, 1, b2n n.running), (3, 1, b2n (s.mod.mode = .recovery)),
      (4, 3, LaneSet.bits n.contrib), (7, 1, b2n n.servesX), (8, 1, b2n n.servesY)]
  | 0x004 => n.round.toNat
  | 0x008 => closedPorts n 0
  | 0x00C => closedPorts n 32
  | 0x010 => pack [(0, 3, LaneSet.bits c.txMinority), (3, 1, b2n c.noMajority), (16, 16, c.stale)]
  | 0x014 => pack [(0, 16, c.crcErr), (16, 16, c.slotEdge)]
  | 0x018 => pack [(0, 16, c.safetyErr), (16, 16, c.cmpMismatch)]
  | 0x01C => pack [(0, 16, c.accepted), (16, 16, c.refused)]
  | 0x020 => pack [(0, 10, r.addrSlot), (10, 6, r.addrPort), (16, 1, b2n r.addrBank), (31, 1, b2n r.refused)]
  | 0x024 => if r.addrSlot ≤ 999 then (Tab.getD (if r.addrBank then n.bank1 else n.bank0) (1000 * r.addrPort + r.addrSlot) 0).toNat
      else 0
  | 0x030 => if n.frozen then (bankCrc n.inactive).toNat else 0
  | 0x040 => pack [(0, 16, c.partnerLate)]
  | _ => 0

def rdFch (s : State) (l : Lane) (o : Nat) : Nat :=
  let f := s.fch
  let fl := f.lanes.get l
  if 0x010 ≤ o ∧ o < 0x030 ∧ o % 4 = 0 then
    pack [(0, 12, Tab.getD fl.vfld ((o - 0x010) / 4) 0), (16, 12, Tab.getD fl.groupMa ((o - 0x010) / 4) 0)]
  else if 0x100 ≤ o ∧ o < 0x200 ∧ o % 4 = 0 then chStatus s l ((o - 0x100) / 4)
  else if 0x200 ≤ o ∧ o < 0x300 ∧ o % 4 = 0 then
    let c := Tab.getD fl.chans ((o - 0x200) / 4) .zero
    pack [(0, 12, min 4095 c.ma), (12, 10, c.vh), (22, 10, c.vl)]
  else if 0x300 ≤ o ∧ o < 0x400 ∧ o % 4 = 0 then (Tab.getD fl.chans ((o - 0x300) / 4) .zero).edges % 2 ^ 32
  else match o with
  | 0x000 => pack [(0, 8, fl.shownSupply.toNat), (8, 8, fl.shownOver.toNat), (16, 1, b2n fl.shownModule), (17, 1, b2n f.vrdRunning),
      (18, 3, LaneSet.bits f.vrdCarried), (21, 1, b2n (s.faultN l)), (22, 1, b2n fl.merged)]
  | 0x008 => pack [(0, 6, fl.lastCh), (6, 1, b2n fl.lastLow), (7, 1, b2n fl.lastOn), (8, 1, b2n fl.lastPass),
      (16, 7, f.voterIndex), (23, 1, b2n f.voterPass), (24, 2, f.voterLane), (26, 1, b2n (!(s.mod.mode.cycles && LaneSet.count s.votingLanes = 3)))]
  | _ => 0

def rdSsv (s : State) (l : Lane) (o : Nat) : Nat :=
  let x := s.sup
  let n (p : SupState → Bool) := (x.sups.filter fun e => p e.2.st).length
  if 0x100 ≤ o ∧ o < 0x200 ∧ o % 4 = 0 then
    match Tab.get? x.sups ((o - 0x100) / 4) with
    | some u => pack [(0, 3, u.st.code), (4, 4, u.cause), (8, 16, sat16 u.rate), (24, 8, min 255 u.k)]
    | none => 0
  else if 0x200 ≤ o ∧ o < 0x300 ∧ o % 4 = 0 then
    match Tab.get? x.sups ((o - 0x200) / 4) with
    | some u => pack [(0, 16, sat16 u.rate0), (16, 16, sat16 u.limit)]
    | none => 0
  else match o with
  | 0x000 => pack [(0, 7, s.image.sups.length), (8, 7, n fun t => t = .throw || t = .stopping), (16, 7, n fun t => t = .lockout),
      (23, 1, b2n (x.strobeUsed.get l)), (24, 1, b2n (x.strobeShort.get l))]
  | 0x004 => pack [(0, 16, sat16 x.passTime), (16, 16, sat16 x.stops)]
  | _ => 0

def rdTbs (s : State) (l : Lane) (o : Nat) : Nat :=
  let t := (s.lane l).tbs
  match o with
  | 0x000 => t.latchLo.toNat
  | 0x004 => t.latchHi.toNat
  | 0x008 => pack [(0, 9, t.latchFrac)]
  | 0x00C => wordOfInt 32 t.rate
  | 0x010 => pack [(0, 4, t.v), (4, 1, b2n t.synced), (5, 2, min 3 t.v1Run), (7, 1, b2n t.acquiring), (8, 16, wordOfInt 16 t.lastC)]
  | _ => 0

def rdClk (s : State) (l : Lane) (o : Nat) : Nat :=
  let c := (s.lane l).clk
  match o with
  | 0x000 => pack [(0, 1, b2n c.xtStable), (1, 1, b2n c.rcStable), (2, 1, b2n (c.source = .rc)), (3, 1, b2n c.noFallback),
      (4, 1, b2n (s.laneSt l = .hold)), (5, 1, b2n c.forced), (6, 1, b2n c.tripped), (7, 2, c.static)]
  | 0x004 => pack [(0, 16, c.nref), (16, 16, c.lastC)]
  | 0x008 => pack [(0, 1, b2n c.gateTb), (1, 1, b2n c.gateDram), (2, 1, b2n c.gateIos), (8, 6, s.mod.edgeGate),
      (31, 1, b2n c.gateRefused)]
  | 0x010 => c.merged.toNat
  | 0x014 => pack [(0, 16, c.stallCount), (16, 3, c.stallCross)]
  | _ => 0

def rdPwr (s : State) (l : Lane) (o : Nat) : Nat :=
  let p := (s.lane l).pwr
  match o with
  | 0x000 => pack [(0, 2, p.level), (2, 2, p.minLevel), (4, 1, b2n p.stepTo.isSome), (5, 1, b2n s.mod.uvWarn), (6, 1, b2n p.railFault)]
  | 0x004 => pack [(0, 16, sat16 p.canary), (16, 16, p.minSpeed)]
  | 0x008 => pack [(0, 16, sat16 s.mod.vin), (16, 16, s.mod.vinMin)]
  | 0x00C => pack [(0, 12, p.vcore), (12, 12, p.vddq)]
  | 0x010 => pack [(0, 16, p.up), (16, 16, p.down)]
  | _ => 0

def rdBst (s : State) (l : Lane) (o : Nat) : Nat :=
  let d := (s.lane l).diag
  match o with
  | 0x000 => pack [(0, 12, d.bstNext), (12, 1, b2n d.bstRepeat), (13, 1, b2n d.bstFail), (16, 13, d.lastFailed)]
  | 0x004 => pack [(0, 16, sat16 d.passes), (16, 16, sat16 d.passSeconds)]
  | 0x008 => d.misr.toNat % 2 ^ 32
  | 0x00C => d.misr.toNat / 2 ^ 32
  | _ => 0

def rdRec (s : State) (l : Lane) (o : Nat) : Nat :=
  let d := (s.lane l).diag
  let r := s.rcd
  match o with
  | 0x000 => pack [(0, 1, b2n d.hkAlive), (1, 1, b2n s.mod.hkLost), (2, 1, b2n r.freeze.isSome), (3, 1, b2n d.keyframeBusy),
      (4, 1, b2n d.ringFull), (5, 1, b2n d.silDropped), (8, 8, r.wearEvent), (16, 8, r.wearSil)]
  | 0x004 => pack [(0, 16, d.ringFill), (16, 16, d.maxFill)]
  | 0x008 => pack [(0, 16, d.dropSil), (16, 16, d.dropEvents)]
  | 0x00C => d.keyframe.toNat
  | 0x010 => pack [(0, 16, d.snapTaken), (16, 16, d.snapSkipped)]
  | 0x014 => pack [(0, 3, r.replayResult), (3, 1, b2n r.replayRunning)]
  | 0x018 => r.replayCycle.toNat
  | _ => 0

/-- The depth of a queue: by the queue table, or with recovery addressing by R308 (R298, R299). -/
def State.queueDepth (s : State) (q : Nat) : Nat :=
  if s.host.recoveryAddr then (if q = 1 then 16 else 64) else Tab.getD s.image.queues q 0

def rdHq (s : State) (l : Lane) (o : Nat) : Nat :=
  let h := s.host
  if 0x100 ≤ o ∧ o < 0x140 ∧ o % 4 = 0 then
    let q := (o - 0x100) / 4
    pack [(0, 7, (Tab.getD (h.rings.get l) q []).length), (8, 7, Tab.getD h.reserved q 0), (15, 1, b2n (s.queueDepth q ≠ 0)),
      (16, 16, sat16 (Tab.getD h.fullCnt q 0))]
  else
    let open_ (r : Role) := b2n (h.sessions.any fun x => x.role = r)
    match o with
    | 0x000 => pack [(0, 1, b2n h.linkA), (1, 1, b2n h.linkB), (2, 1, b2n h.recoveryAddr), (8, 1, open_ .maintainer),
        (9, 1, open_ .engineer), (10, 1, open_ .custodian)]
    | 0x004 => pack [(0, 16, sat16 h.dropA), (16, 16, sat16 h.safetyA)]
    | 0x008 => pack [(0, 16, sat16 h.dropB), (16, 16, sat16 h.safetyB)]
    | 0x00C => pack [(0, 16, sat16 h.twins), (16, 16, sat16 h.resent)]
    | 0x010 => pack [(0, 16, sat16 h.floodDropped), (16, 16, sat16 h.replyDropped)]
    | 0x014 => pack [(0, 8, h.intakeLast), (8, 8, h.intakeMax), (16, 16, sat16 h.disagree)]
    | _ => 0

def rdPlk (s : State) (_l : Lane) (o : Nat) : Nat :=
  let p := s.plink
  match o with
  | 0x000 => pack [(0, 1, b2n p.up), (1, 3, LaneSet.bits p.heard), (4, 4, min 15 p.silent), (8, 2, s.mod.role.code),
      (10, 2, s.mod.cond.code), (12, 1, b2n (p.rights && s.mod.cond ≠ .refused)), (13, 1, b2n p.leadChannelY), (14, 1, b2n p.holding)]
  | 0x004 => pack [(0, 16, p.delay)]
  | 0x008 => s.net.claim.toNat
  | 0x00C => pack [(0, 16, sat16 p.crcErr), (16, 16, sat16 p.shadowMis)]
  | _ => 0

def rdDbg (s : State) (l : Lane) (o : Nat) : Nat :=
  match o with
  | 0x000 => pack [(0, 1, b2n s.mod.sealed), (1, 1, b2n s.mod.lab), (2, 1, b2n s.mod.dbgAttached), (3, 1, b2n (s.lane l).diag.halted),
      (4, 1, b2n s.mod.bench)]
  | 0x004 => s.mod.dbgLog % 2 ^ 32
  | _ => 0

/-- The word at a byte offset from 0x2000_0000 in a lane's register space (R439). -/
def readReg (s : State) (l : Lane) (ofs : Nat) : Nat :=
  let o := ofs % 0x10000
  match ofs / 0x10000 with
  | 0x00 => rdLane s l o
  | 0x01 => rdAcc s l o
  | 0x02 => rdRte s l o
  | 0x03 => rdMmu s l o
  | 0x04 => rdDma s l o
  | 0x05 => rdArb s l o
  | 0x06 => rdCvu s l o
  | 0x07 => rdPmc s l o
  | 0x08 => rdHub s l o
  | 0x09 => rdFch s l o
  | 0x0A => rdSsv s l o
  | 0x0B => rdTbs s l o
  | 0x0C => rdClk s l o
  | 0x0D => rdPwr s l o
  | 0x0E => rdBst s l o
  | 0x0F => rdRec s l o
  | 0x10 => rdHq s l o
  | 0x11 => rdPlk s l o
  | 0x12 => rdDbg s l o
  | _ => 0

end Sys2Proof.Machine
end

