-- ==== Sys2Proof/Machine/Ops.lean ====
section
/-!
DEFINITION. The named operations that the meanings share: a lane's record changed in one place, records through the recorder
path with their repeats and snapshots (R387–R399), replies, completions and unsolicited packets (R302, R303, R310, R311,
R327), tokens (R328), a lane's departure from the vote and its next state (R356, R357), and the change of mode (R26).
-/

namespace Sys2Proof

/-- Which command a header belongs to. -/
def CmdHdr.ref (h : CmdHdr) : CmdRef := ⟨h.source, h.queue, h.seq⟩

/-- The completion that a command answered ACCEPTED will have. -/
def CmdHdr.completion (h : CmdHdr) (opcode target : Nat) : Machine.Completion := ⟨opcode, h.source.toNat, h.queue.val, h.seq, target, 0⟩

end Sys2Proof

namespace Sys2Proof.Machine

/-! ### Lanes -/

def State.modLane (s : State) (l : Lane) (f : LaneS → LaneS) : State := { s with lanes := s.lanes.modify l f }

def State.modCore (s : State) (l : Lane) (f : CoreS → CoreS) : State := s.modLane l fun x => { x with core := f x.core }
def State.modClk (s : State) (l : Lane) (f : ClkS → ClkS) : State := s.modLane l fun x => { x with clk := f x.clk }
def State.modPwr (s : State) (l : Lane) (f : PwrS → PwrS) : State := s.modLane l fun x => { x with pwr := f x.pwr }
def State.modTbs (s : State) (l : Lane) (f : TbsS → TbsS) : State := s.modLane l fun x => { x with tbs := f x.tbs }
def State.modDiag (s : State) (l : Lane) (f : DiagS → DiagS) : State := s.modLane l fun x => { x with diag := f x.diag }
def State.modMmu (s : State) (l : Lane) (f : MmuS → MmuS) : State := s.modLane l fun x => { x with mmu := f x.mmu }
def State.modRte (s : State) (l : Lane) (f : RteS → RteS) : State := s.modLane l fun x => { x with rte := f x.rte }
def State.modPerf (s : State) (l : Lane) (f : PerfS → PerfS) : State := s.modLane l fun x => { x with perf := f x.perf }

def State.mapLanes (s : State) (f : Lane → LaneS → LaneS) : State := { s with lanes := s.lanes.mapL f }

/-- Does something for each lane of a set, in the order A, B, C. -/
def State.forLanes (s : State) (ls : LaneSet) (f : State → Lane → State) : State := (LaneSet.list ls).foldl f s

/-- A fold over the numbers of a list, with the state as accumulator. -/
def State.each {α : Type} (s : State) (l : List α) (f : State → α → State) : State := l.foldl f s

/-- The index of the next free value; the counter is advanced (log entry 4). -/
def State.bump (s : State) : State := { s with freeCtr := s.freeCtr + 1 }

/-- Little-endian fields joined: (size in bytes, value). -/
def fields (l : List (Nat × Nat)) : List Byte := l.flatMap fun p => leBytes p.1 p.2

/-- A lane-local event is to be reported in the health byte of the lane's next MARK (R36). -/
def State.noteEvent (s : State) (l : Lane) : State := s.modCore l fun c => { c with events := c.events ||| 1 }

/-- Lanes that run ticks: those of the vote and those that follow it (R38, R57). -/
def State.ticking (s : State) (l : Lane) : Bool :=
  s.laneSt l = .voting || s.laneSt l = .minority || s.laneSt l = .resync

/-- The phase of a lane's route engine, one of several that the model's steps do not part: a free value (R132, R150; log entry 138). -/
def State.phaseAmong (s : State) (l : Lane) (first n : Nat) : State :=
  s.bump.modRte l fun r => { r with phase := first + (Config.freeByte s.freeCtr).toNat % n }

/-- A lane's main core places an entry in its compare buffer of 8 entries; where the buffer is full it stalls, and nothing happens until an
entry leaves. The checker's matching entry arrives equal (a difference is BOGIE_MISMATCH), and the entry leaves with its effect
(R352). How many entries the main core is ahead of the checker is a free value, which the buffer's highest fill shows (log entry 140). -/
def State.throughBogie (s : State) (l : Lane) (e : CmpEntry) (effect : State → State) : State :=
  let c := (s.lane l).core
  if 8 ≤ c.cmpBuf.length then s
  else
    let fill := min 8 (c.cmpBuf.length + 1 + (Config.freeByte s.freeCtr).toNat % 8)
    let s1 := s.bump.modCore l fun c => { c with cmpBuf := c.cmpBuf ++ [e], cmpMax := max c.cmpMax fill }
    (effect s1).modCore l fun c => { c with cmpBuf := c.cmpBuf.erase e }

/-- A command of a lane's register space is carried out while the lane runs. -/
def State.regsRun (s : State) (l : Lane) : Bool := s.mod.mode.lanesRun && s.laneSt l ≠ .hold

/-- A register write of the main core at an offset from 0x2000_0000 passes the compare buffer (R352); a lane that does not run has none. -/
def State.regWrite (s : State) (l : Lane) (ofs : Nat) (v : Word) (effect : State → State) : State :=
  if s.regsRun l then s.throughBogie l (.register (0x20000000 + ofs) v) effect else effect s

/-- Operating time passes: the housekeeper counts ms while VIN is applied (R394). -/
def State.passMs (s : State) (ms : Nat) : State := { s with rcd := { s.rcd with opTime := s.rcd.opTime + ms } }

/-! ### Event records -/

/-- A record of the same type, payload and lane flags (R391). -/
def sameRecord (r : Record) (type : Nat) (payload : List Byte) (lane : Option Lane) : Bool :=
  r.type = type && r.payload = payload && r.lane = lane

/-- A record closes: it is no longer open, and every RECORDS subscription of its class receives it (R390, R392). -/
def State.closeRecord (s : State) (index : Nat) : State :=
  if s.rcd.opened.any fun o => o.index = index then
    let cls := ((s.rcd.store.find? fun r => r.index = index).map Record.type).getD 0 / 256
    { s with
      rcd := { s.rcd with opened := s.rcd.opened.filter fun o => o.index ≠ index }
      host := { s.host with subs := s.host.subs.map fun u =>
        if u.kind = 4 && bitOf u.mask cls then { u with due := u.due ++ [index] } else u } }
  else s

/-- Every open record closes. -/
def State.closeAll (s : State) : State := s.each (s.rcd.opened.map OpenRec.index) State.closeRecord

/-- Bytes of the event partition in use (R385: 4 GiB). -/
def storeBytes (l : List Record) : Nat := l.foldl (fun n r => n + 24 + r.payload.length) 0

/-- OLDEST advances past the oldest record when the partition is full (R401). -/
def RecS.trim (r : RecS) : RecS :=
  if 2 ^ 32 < storeBytes r.store then
    { r with store := r.store.drop 1, oldest := ((r.store.drop 1).head?.map Record.index).getD r.writeIndex }
  else r

/-- A new record takes the next index and is open; older open records have one more later record (R390, R392). -/
def State.appendRecord (s : State) (r : Record) : State :=
  let rcd := s.rcd
  let later := rcd.opened.map fun o => { o with later := o.later + 1, laterSinceRepeat := true }
  let r' := { r with index := rcd.writeIndex }
  let s1 : State := { s with rcd := RecS.trim { rcd with
    store := rcd.store ++ [r'], writeIndex := rcd.writeIndex + 1,
    opened := later ++ [⟨rcd.writeIndex, rcd.opTime, 0, false⟩] } }
  s1.each ((s1.rcd.opened.filter fun o => 128 ≤ o.later).map OpenRec.index) State.closeRecord

/-- A record reaches the housekeeper: a repeat of an open record, held during a freeze, or a new record (R391, R398). No
record is written while the housekeeper is lost (R16). -/
def State.writeRecord (s : State) (type : Nat) (payload : List Byte) (lane : Option Lane) (hk : Bool) : State :=
  let rcd := s.rcd
  let fresh : Record := ⟨0, type, 0, false, lane, hk, rcd.freeze.isSome, rcd.powerCycles, rcd.opTime, s.recCycle, payload⟩
  if s.mod.hkLost then s
  else match rcd.freeze with
  | some f =>
    match f.held.findIdx? fun r => sameRecord r type payload lane with
    | some i =>
      let held := f.held.modify i fun r => { r with rep := min 0xFFFF (r.rep + 1), interleaved := r.interleaved || i + 1 < f.held.length }
      { s with rcd := { rcd with freeze := some { f with held := held } } }
    | none =>
      if f.held.length < 16384 then { s with rcd := { rcd with freeze := some { f with held := f.held ++ [fresh] } } }
      else { s with rcd := { rcd with freeze := some { f with overflow := f.overflow + 1 } } }
  | none =>
    match rcd.opened.find? fun o => rcd.store.any fun r => r.index = o.index && sameRecord r type payload lane with
    | some o =>
      let store := rcd.store.map fun r =>
        if r.index = o.index then { r with rep := r.rep + 1, interleaved := r.interleaved || o.laterSinceRepeat } else r
      let opened := rcd.opened.map fun p => if p.index = o.index then { p with last := rcd.opTime, laterSinceRepeat := false } else p
      let s1 : State := { s with rcd := { rcd with store := store, opened := opened } }
      if store.any fun r => r.index = o.index && r.rep = 0xFFFF then s1.closeRecord o.index else s1
    | none => s.appendRecord fresh

/-- The lane's snapshot for one table entry at a trigger record (R397). -/
def State.takeSnapshot (s : State) (l : Lane) (entry : Nat) (d : SnapDef) (trigger : Nat) : State :=
  let g := (s.lane l).diag
  let recent := (Tab.get? g.snapLast entry).any fun t => s.rcd.opTime < t + d.minGap
  if recent then
    s.modDiag l fun g => { g with snapSkipped := satAdd 0xFFFF g.snapSkipped 1, snapMissed := Tab.upd g.snapMissed entry 0 (· + 1) }
  else
    let payload := fields [(1, entry), (1, l.id), (1, d.addrs.length), (1, 0), (2, sat16 (Tab.getD g.snapMissed entry 0)), (2, 0),
      (8, trigger)] ++ d.addrs.flatMap fun a => leBytes 4 (readReg s l (a - 0x20000000))
    (s.writeRecord 0x0C01 payload (some l) false).modDiag l fun g =>
      { g with snapTaken := satAdd 0xFFFF g.snapTaken 1, snapLast := Tab.put g.snapLast entry s.rcd.opTime,
               snapMissed := Tab.erase g.snapMissed entry }

/-- Snapshots of the lanes that handed over a new record of a trigger type; a repeat triggers none (R397). -/
def State.snapshots (s before : State) (ls : LaneSet) (type : Nat) : State :=
  if s.rcd.writeIndex = before.rcd.writeIndex then s
  else s.forLanes ls fun s l =>
    s.each (s.image.snaps.zipIdx.filter fun p => p.1.trigger = type && bitOf p.1.lanes l.id) fun s p =>
      s.takeSnapshot l p.2 p.1 before.rcd.writeIndex

/-- A record produced in logical time, identical in every lane that hands it over, written once (R388). -/
def State.record (s : State) (type : Nat) (payload : List Byte) : State :=
  (s.writeRecord type payload none false).snapshots s s.replyingLanes type

/-- A lane-local record (R388). -/
def State.recordLane (s : State) (l : Lane) (type : Nat) (payload : List Byte) : State :=
  ((s.writeRecord type payload (some l) false).snapshots s (LaneSet.single l) type).noteEvent l

/-- A lane places its copy of an identical record: it is written once, as soon as two lanes have placed the same bytes; the third copy
adds nothing (R388). -/
def State.placeRecord (s : State) (l : Lane) (type : Nat) (payload : List Byte) : State :=
  let mine (p : PendingCopy) : Bool := p.type = type && p.payload = payload && !p.lanes.get l
  match s.rcd.pending.findIdx? mine, s.rcd.pending.find? mine with
  | some i, some p =>
    let ls := p.lanes.set l true
    let rest := if LaneSet.count ls = 3 then s.rcd.pending.eraseIdx i else s.rcd.pending.set i { p with lanes := ls }
    let s1 : State := { s with rcd := { s.rcd with pending := rest } }
    if LaneSet.count ls = 2 then (s1.writeRecord type payload none false).snapshots s1 ls type else s1
  | _, _ => { s with rcd := { s.rcd with pending := s.rcd.pending ++ [⟨type, payload, LaneSet.single l, s.recCycle, s.rcd.opTime⟩] } }

/-- A record whose author is the housekeeper (R387). -/
def State.recordHk (s : State) (type : Nat) (payload : List Byte) : State := s.writeRecord type payload none true

/-! ### Packets -/

def stOk : Nat := 0x0000
def stAccepted : Nat := 0x0001
def stBadVersion : Nat := 0x0100
def stBadLength : Nat := 0x0101
def stSequence : Nat := 0x0103
def stUnknown : Nat := 0x0104
def stWrongQueue : Nat := 0x0105
def stQueueFull : Nat := 0x0106
def stBadParam : Nat := 0x0107
def stConflict : Nat := 0x0200
def stNotProven : Nat := 0x0201
def stLocked : Nat := 0x0202
def stMode : Nat := 0x0203
def stWithheld : Nat := 0x0204
def stToken : Nat := 0x0205
def stNotAuth : Nat := 0x0300
def stSignature : Nat := 0x0301
def stMac : Nat := 0x0302
def stDisagree : Nat := 0x0400
def stBusy : Nat := 0x0401
def stInternal : Nat := 0x05FF

/-- The two ports. -/
def bothPorts : List HostPort := [.a, .b]

/-- The ring of a command: its queue's, or the ring of STATUS_MODULE beside them (R298). -/
def ringKey (queue opcode : Nat) : Nat := if opcode = 0x0301 then 16 else queue

/-- A consumed packet is the one that a reply answers. -/
def Consumed.answeredBy (c : Consumed) (p : Packet) : Bool := p.own && c.source = p.source && c.queue = p.queue && c.seq = p.seq

/-- A packet leaves on those of some ports on which a valid packet has come from its destination, to the peers of the command that it
answers; the others are counted in REPLY_DROPPED (R294, R296). DORMANT has port A only (R18). -/
def State.emit (s : State) (p : Packet) (ports : List HostPort) (command : Tab HostPeer) (key : Option (List Byte)) : State :=
  let ports := if s.mod.mode = .dormant then ports.filter (· = .a) else ports
  let out := ports.filter fun q => (Tab.get? s.host.peers (2 * p.source + q.code)).isSome
  let grams := out.filterMap fun q => (s.peerFor p command q).map (s.datagram p key q)
  { s with host := { s.host with
    sent := if out.isEmpty then s.host.sent else s.host.sent ++ [{ p with ports := out, grams := grams }]
    replyDropped := satAdd 0xFFFF s.host.replyDropped (ports.length - out.length) } }

/-- A packet leaves. The reply to a packet that consumed its sequence goes where that packet and its copies came from, under its session (R302,
R305), and frees the place that its command reserved (R311). -/
def State.sendPacket (s : State) (p : Packet) : State :=
  match s.host.consumed.find? fun c => c.answeredBy p with
  | none => s.emit p p.ports p.peers (s.sessionKey p.opcode p.source)
  | some c =>
    let s1 := s.emit p (if c.ring then p.ports else c.ports) c.peers c.key
    { s1 with host := { s1.host with
      reserved := if c.ring && c.replies.isEmpty then Tab.modify s1.host.reserved (ringKey p.queue p.opcode) (· - 1) else s1.host.reserved
      consumed := s1.host.consumed.map fun c => if c.answeredBy p then { c with replies := c.replies ++ [p] } else c } }

/-- The reply to a consumed packet again, on the port of a copy (R305). -/
def State.resendPacket (s : State) (c : Consumed) (p : Packet) : State := s.emit { p with own := false } p.ports p.peers c.key

/-- The reply to a command (R302). -/
def replyTo (h : CmdHdr) (opcode status : Nat) (params : List Byte) : Packet :=
  ⟨h.source.toNat, h.queue.val, opcode, h.seq, status, h.hostTime, params, h.mac, 0, false, true, bothPorts, [], []⟩

/-- The header of a command that a ring held. -/
def RingCmd.hdr (c : RingCmd) : CmdHdr := ⟨BitVec.ofNat 16 c.source, Fin.ofNat 16 c.queue, c.seq, c.hostTime, c.stamp, c.mac⟩

/-- The lanes that write replies: the voting set while cycles run, otherwise those of R538. -/
def State.writers (s : State) : LaneSet := if s.mod.mode.cycles then s.votingLanes else s.replyingLanes

/-- The lanes of a set write the same reply, and the reply selector holds their copies (R310). -/
def State.holdReply (s : State) (ls : LaneSet) (p : Packet) : State :=
  let ref : CmdRef := ⟨BitVec.ofNat 16 p.source, Fin.ofNat 16 p.queue, p.seq⟩
  let proto := { p with status := stDisagree, params := [] }
  { s with host := { s.host with replies := s.host.replies ++ [⟨ref, proto, ls.map fun b => if b then some p else none⟩] } }

/-- Every writing lane writes the same reply (R310). -/
def State.reply (s : State) (h : CmdHdr) (opcode status : Nat) (params : List Byte) : State :=
  s.holdReply s.writers (replyTo h opcode status params)

/-- A lane-tagged reply: each lane of the voting set sends its own (R302). -/
def State.replyTagged (s : State) (h : CmdHdr) (opcode : Nat) (params : Lane → List Byte) : State :=
  s.forLanes s.writers fun s l => s.sendPacket { replyTo h opcode stOk (params l) with lane := l.id + 1 }

/-- A reply of the housekeeper, not voted (R312). -/
def State.replyHk (s : State) (h : CmdHdr) (opcode status : Nat) (params : List Byte) : State :=
  s.sendPacket (replyTo h opcode status params)

/-- PACKET_REJECTED (R320). -/
def State.recordReject (s : State) (h : CmdHdr) (opcode status : Nat) : State :=
  s.record 0x0501 (fields [(2, h.source.toNat), (1, h.queue.val), (1, 0), (2, opcode), (2, status), (4, h.seq.toNat)])

/-- A refusal that is recorded (R319, R324). -/
def State.reject (s : State) (h : CmdHdr) (opcode status : Nat) : State :=
  (s.recordReject h opcode status).reply h opcode status []

/-- An unsolicited packet to one source on a queue (R303, R311). -/
def State.unsol (s : State) (source queue opcode status : Nat) (params : List Byte) : State :=
  let key := 65536 * queue + source
  if s.queueDepth queue ≤ Tab.getD s.host.reserved queue 0 then
    { s with host := { s.host with replyDropped := satAdd 0xFFFF s.host.replyDropped 1 } }
  else
    let n := Tab.getD s.host.unsolCtr key 10000 + 1
    ({ s with host := { s.host with unsolCtr := Tab.put s.host.unsolCtr key n } } : State).sendPacket
      ⟨source, queue, opcode, BitVec.ofNat 32 n, status, BitVec.ofNat 32 (s.netNow / 1000), params, false, 0, true, false, bothPorts, [], []⟩

/-- The sources that receive unsolicited packets of a queue (R298, R303). -/
def State.unsolSources (s : State) (queue : Nat) : List Nat :=
  (s.image.sources.filter fun d => bitOf d.unsol queue).map SourceDef.id

/-- A completion event on Q4 (R303, R327): to the sources with UNSOL bit 4, and to the command's source. -/
def State.complete (s : State) (c : Completion) (status : Nat) (data : List Byte) : State :=
  let dests := s.unsolSources 4
  let dests := if dests.contains c.source then dests else dests ++ [c.source]
  let params := fields [(1, c.queue), (3, 0), (4, c.seq.toNat)] ++ data
  s.each dests fun s d => s.unsol d 4 c.opcode status params

/-! ### Tokens -/

/-- The serial number with which a cycle computes: the module's own, or in a replayed cycle the keyframe's (R411). -/
def State.serial (s : State) : BitVec 64 :=
  match s.mod.mode, s.rcd.replayId with
  | .operate, some i => i.serial
  | _, _ => Config.serial

/-- The confirmation token of R328; 0 becomes 1. -/
def tokenValue (s : State) (h : CmdHdr) (opcode target : Nat) : Word :=
  let cyc := if s.mod.mode.cycles then s.mod.cycle.toNat else 0
  let d := sha256 (bytesOf 8 s.serial ++ fields [(4, s.rcd.powerCycles), (4, cyc), (2, h.source.toNat),
    (2, opcode), (4, target), (4, h.seq.toNat)])
  let v : Word := (d >>> 224).truncate 32
  if v = 0 then 1 else
    -- the first 4 bytes of the hash, read little-endian
    BitVec.ofNat 32 (ofLe ((bytesOf 4 v).reverse))

/-- Time base of tokens: the cycle for station opcodes, otherwise network time (R328). -/
def State.tokenNow (s : State) (h : CmdHdr) (station : Bool) : Nat :=
  if station then s.mod.cycle.toNat else if s.mod.mode.cycles then s.acc.accorded.time else h.stamp

/-- A first step: a new token replaces the older one for the same source, opcode and target (R328). -/
def State.issueToken (s : State) (h : CmdHdr) (opcode target : Nat) (station : Bool) (role : Option Role) : State × Word :=
  let v := tokenValue s h opcode target
  let t : Token := ⟨v, opcode, h.source.toNat, target, s.tokenNow h station, station, role⟩
  let rest := s.ixl.tokens.filter fun u => !(u.source = t.source && u.opcode = opcode && u.target = target)
  ({ s with ixl := { s.ixl with tokens := rest ++ [t] } }, v)

/-- Whether a second step's token is valid: same value, source, opcode, target, within 30 s (R328). -/
def State.tokenValid (s : State) (h : CmdHdr) (opcode target : Nat) (station : Bool) (v : Word) : Bool :=
  s.ixl.tokens.any fun t => t.value = v && t.source = h.source.toNat && t.opcode = opcode && t.target = target
    && s.tokenNow h station ≤ t.since + (if station then 3000 else 30000000)

/-- A second step that is taken spends the token (R328). -/
def State.spendToken (s : State) (h : CmdHdr) (opcode target : Nat) : State :=
  { s with ixl := { s.ixl with tokens := s.ixl.tokens.filter fun u =>
    !(u.source = h.source.toNat && u.opcode = opcode && u.target = target) } }

/-! ### Field outputs -/

/-- A voter's switch from its live votes (R257): two live ON votes close it; a HOLD channel keeps its switch while fewer than
two votes are live; a latched voter stays open (R264); a test vote in force rules (R261). -/
def voterClosed (hold : Bool) (v : VoterSt) : Bool :=
  if v.failed then false
  else match v.test with
  | some t => t
  | none =>
    if LaneSet.count v.live < 2 then hold && v.closed else 2 ≤ LaneSet.count (LaneSet.inter v.live v.vote)

/-- Evaluates a channel's two voters; an opened or latched channel is open (R259). -/
def ChOut.settle (o : ChOut) (hold : Bool) : ChOut :=
  let f (v : VoterSt) := { v with closed := !o.opened && !o.grpOpen && !o.latched && voterClosed hold v }
  { o with hs := f o.hs, ls := f o.ls }

/-- SAFE_HOLD of a channel (R244). -/
def State.holdCh (s : State) (ch : Nat) : Bool := (Tab.get? s.image.chans ch).any ChDef.hold

/-- Changes every channel's output stage and settles it. -/
def State.mapOuts (s : State) (f : Nat → ChOut → ChOut) : State :=
  { s with fch := { s.fch with outs := Tab.mapV s.fch.outs fun ch o => (f ch o).settle (s.holdCh ch) } }

/-- The channel with an output of its own. -/
def State.modOut (s : State) (ch : Nat) (f : ChOut → ChOut) : State :=
  { s with fch := { s.fch with outs := Tab.upd s.fch.outs ch .zero fun o => (f o).settle (s.holdCh ch) } }

/-- The switch states after RESET or power loss: every switch open, latches and readings gone (R254, R266, R504). -/
def State.openAll (s : State) : State := { s with fch := .reset }

/-- VRD stops: the generator drives its stopped level (R268); VRD_STATE is recorded when it ran. -/
def State.stopVrd (s : State) : State :=
  let ran := s.fch.vrdRunning
  let s1 : State := { s with fch := { s.fch with vrdRunning := false, vrdLevel := false, vrdTokens := [] } }
  if ran then s1.record 0x0305 (fields [(1, 1), (1, 0), (2, 0)]) else s1

/-! ### A lane leaves the vote -/

/-- The lane's votes end at once: voters stop counting it, it contributes no downlink bytes, sends no token and no strobe, and
its pending minority reports end (R209, R257, R258, R268). -/
def State.withdraw (s : State) (l : Lane) : State :=
  let drop (v : VoterSt) := { v with live := v.live.set l false, staged := v.staged.set l false }
  let s1 := s.mapOuts fun _ o => { o with hs := drop o.hs, ls := drop o.ls }
  { s1 with
    net := { s1.net with contrib := s1.net.contrib.set l false }
    acc := { s1.acc with staged := s1.acc.staged.set l false }
    fch := { s1.fch with reports := s1.fch.reports.filter fun r => r.2.1 ≠ l } }

/-- Automatic resyncs of a lane in the last 60 minutes (R357). -/
def State.autoResyncs (s : State) (l : Lane) : Nat := countWithin s.rcd.opTime 3600000 (s.lane l).core.autoTimes

/-- Whether no oscillator of the lane is usable (R356 CLOCK, R488). -/
def State.noOscillator (s : State) (l : Lane) : Bool :=
  let c := (s.lane l).clk
  (c.source = .rc || c.tripped || !c.xtStable) && !c.rcStable && (c.rcDisabled || c.source = .rc)

/-- The state that the cause table gives (R356), with the limit of R357. -/
def State.nextState (s : State) (l : Lane) (cause : Nat) : LaneSt :=
  if cause = 8 then .out
  else if cause = 6 && s.noOscillator l then .failed
  else if cause = 4 && (s.lane l).diag.halted then .out
  else if 3 ≤ s.autoResyncs l then .out
  else .resync

/-- The executive commits a priority of the bogie on both ports of a lane (R462, R470): the records name reason 1 at the start of a catch-up,
2 at its end. -/
def State.commitBogie (s : State) (l : Lane) (prio reason : Nat) : State :=
  let put (a : ArbS) : ArbS :=
    let v := BitVec.ofNat 24 (a.active.toNat / 8 * 8 + prio)
    { a with shadow := v, active := v }
  let s1 := s.modLane l fun x => { x with arbE := put x.arbE, arbD := put x.arbD }
  s1.each [(0, (s1.lane l).arbE.active), (1, (s1.lane l).arbD.active)] fun s p =>
    s.placeRecord l 0x0141 (fields [(1, p.1), (1, 0), (2, reason), (4, p.2.toNat)])

/-- A lane is in a step of R361. -/
def State.inStep (s : State) (l : Lane) (step : Nat) : Bool := s.laneSt l = .resync && (s.lane l).core.resync.step = step

/-- A catch-up that ends, however it ends, restores the committed priorities (R462). -/
def State.endCatchUp (s : State) (l : Lane) : State := if s.inStep l 4 then s.commitBogie l 4 2 else s

/-- A lane begins RESYNC (R361): step 1 from here, or waiting where no cycles run (R356). Step 1 resets every crossing pair (R495). -/
def State.beginResync (s : State) (l : Lane) (cause : Nat) : State :=
  ((s.endCatchUp l).modClk l fun c => { c with ackPhase := 0 }).modCore l fun c => { c with
    st := .resync, autoTimes := s.rcd.opTime :: c.autoTimes, stored := 0
    resync := { ResyncS.none with step := 1, needsTest := cause = 1 || cause = 7, waitClock := cause = 6,
                                  since := s.rcd.opTime, waiting := !s.mod.mode.cycles } }

/-- A MINORITY lane takes its next state (R356, R357). -/
def State.takeNext (s : State) (l : Lane) : State :=
  let c := (s.lane l).core
  match c.next with
  | .resync => if 3 ≤ s.autoResyncs l then s.modCore l fun c => { c with st := .out } else s.beginResync l c.cause
  | n => s.modCore l fun c => { c with st := n }

/-- The completion that RED_LANE_RESYNC awaits, if a resync of this lane owes one (R327). -/
def State.answerAsked (s : State) (l : Lane) (status : Nat) : State :=
  match (s.lane l).core.asked with
  | some c => (s.modCore l fun k => { k with asked := none }).complete c status (fields [(1, l.id), (3, 0)])
  | none => s

/-- Changes a lane's resync record. -/
def State.modResync (s : State) (l : Lane) (f : ResyncS → ResyncS) : State := s.modCore l fun c => { c with resync := f c.resync }

/-- A resync that fails for good: its record, the lane's state, and the completion that it owed (R327, R361, R384). -/
def State.failResync (s : State) (l : Lane) (st : LaneSt) : State :=
  let s1 := (s.endCatchUp l).record 0x0112 (fields [(1, l.id), (1, (s.lane l).core.resync.step), (2, 0)])
  let s2 := s1.modCore l fun c => { c with st := st, next := st, resync := .none, stored := 0 }
  (s2.modMmu l fun m => { m with incoming := [] }).answerAsked l stDisagree

/-- Step 3 begins: the copy is armed at the next T₀ but `wait`. -/
def ResyncS.toCopy (r : ResyncS) (wait : Nat) : ResyncS := { r with step := 3, armWait := wait, copyRunning := false, pages := 0, behind := 0 }

/-- The sender's tracking is clear. -/
def MmuS.clearSent (m : MmuS) : MmuS := { m with sentPages := [], snapBuf := [] }

/-- A lane receives a copy over the accord link. -/
def State.receiving (s : State) (l : Lane) : Bool := s.inStep l 3 && (s.lane l).core.resync.copyRunning

/-- A copy that fails: the sender clears its tracking, the receiver discards what it has, and the copy is armed again at the second
T₀; the ninth failure ends the resync (R359, R361). -/
def State.copyFails (s : State) (l : Lane) : State :=
  let s1 := s.mapLanes fun _ x => { x with mmu := x.mmu.clearSent }
  let s2 := (s1.modMmu l fun m => { m with incoming := [] }).modCore l fun c => { c with stored := 0 }
  let s3 := s2.modResync l fun r => { r.toCopy 2 with failedCopies := r.failedCopies + 1 }
  if 9 ≤ (s3.lane l).core.resync.failedCopies then s3.failResync l .out else s3

/-- The lane that leaves was the sender of a copy, which fails, or of a keyframe, which the next sender takes (R359, R457). -/
def State.dropSender (s : State) (l : Lane) : State :=
  if LaneSet.first s.votingLanes = some l then
    let s1 := s.each (Lane.all.filter s.receiving) State.copyFails
    if (s.lane l).diag.keyframeBusy then
      let c := (s.lane l).diag.keyframe
      let s2 := s1.modDiag l fun d => { d with keyframeBusy := false }
      { s2 with rcd := { s2.rcd with keyframes := s2.rcd.keyframes.filter (fun k => k.cycle ≠ c), keyframeDue := some c.toNat } }
    else s1
  else s

/-- A lane leaves the vote for a cause: it withdraws, records LANE_LEFT and becomes MINORITY; where no cycles run it takes its
next state at once (R356). A lane outside the vote only keeps the cause. -/
def State.leave (s : State) (l : Lane) (cause sub : Nat) : State :=
  match s.laneSt l with
  | .voting =>
    let n := s.nextState l cause
    let s1 := ((s.dropSender l).withdraw l).modCore l fun c => { c with
      st := .minority, cause := cause, sub := sub, next := n, left := satAdd 0xFFFF c.left 1 }
    let s2 := s1.record 0x0110 (fields [(1, l.id), (1, cause), (1, sub), (1, n.code), (4, s.mod.cycle.toNat)])
    if s.mod.mode.cycles then s2 else s2.takeNext l
  | .minority | .resync =>
    let n := s.nextState l cause
    let s1 := (s.withdraw l).modCore l fun c => { c with cause := cause, sub := sub, next := n, st := if n = .resync then c.st else n }
    if n = .resync then s1 else s1.answerAsked l stDisagree
  | _ => s

/-- A lane becomes FAILED: withdrawn until RESET (R355, R357). -/
def State.failLane (s : State) (l : Lane) (cause : Nat) : State :=
  ((s.withdraw l).modCore l fun c => { c with st := .failed, cause := cause, next := .failed }).answerAsked l stDisagree

/-! ### Change of mode -/

/-- The mode changes: the MODE_CHANGE record carries the old and new mode words and the trigger, and the housekeeper persists
the new mode word (R26, R403). -/
def State.toMode (s : State) (m : Mode) (trigger : Nat) : State :=
  let old := s.modeWord
  let s1 : State := { s with mod := { s.mod with mode := m } }
  let new := s1.modeWord
  let s2 : State := { s1 with rcd := { s1.rcd with persistMode := new } }
  let body := fields [(1, old), (1, new), (1, trigger), (1, 0)]
  if LaneSet.count s2.replyingLanes = 0 then s2.recordHk 0x0101 body else s2.record 0x0101 body

/-- A change within OPERATE between FULL and DEGRADED is a mode transition of R19 too: recorded when the mode word differs
(R26, triggers 14 and 15). -/
def State.noteDegraded (s : State) (oldWord trigger : Nat) : State :=
  let new := s.modeWord
  if new = oldWord then s
  else ({ s with rcd := { s.rcd with persistMode := new } } : State).record 0x0101
    (fields [(1, oldWord), (1, new), (1, trigger), (1, 0)])

end Sys2Proof.Machine
end

