-- ==== Sys2Proof/Machine/Dma.lean ====
section
/-!
DEFINITION. A lane's memory: the physical map and its regions (R438, R442), bytes and poisoned words (R444), translation (R445–R447),
the check-value units (R472–R476), the performance counters (R477–R479) and the DMA channels (R449–R455, R473, R474).
-/

namespace Sys2Proof.Machine

/-! ### The physical map -/

def inRom (a : Nat) : Bool := a < 0x100000
def inEssence (a : Nat) : Bool := 0x10000000 ≤ a && a < 0x10400000
def inRegs (a : Nat) : Bool := 0x20000000 ≤ a && a < 0x20130000
def inDram (a : Nat) : Bool := 0x40000000 ≤ a && a < 0x60000000

/-- An address of R438. -/
def inMap (a : Nat) : Bool := inRom a || inEssence a || inRegs a || inDram a

/-- Memory that can be written and holds bytes. -/
def inRam (a : Nat) : Bool := inEssence a || inDram a

/-- The class of a DRAM address (R442): 1 VITAL, 2 INPUT, 3 NON-VITAL. DRAM outside the regions is unused and counts as NON-VITAL
(log entry 40). -/
def dramClass (a : Nat) : Nat :=
  if a < 0x4A000000 then 1
  else if a < 0x4A500000 then 2
  else if a < 0x4A900000 then 2
  else if a < 0x50000000 then 3
  else 1

/-! ### Bytes -/

/-- A byte of a lane's memory; an unlisted byte reads 0 (log entry 3). -/
def MmuS.byte (m : MmuS) (a : Nat) : Byte := Tab.getD m.bytes a 0

/-- A byte put, in canonical form: a zero byte is not listed. -/
def setByte (t : Tab Byte) (a : Nat) (b : Byte) : Tab Byte := if b = 0 then Tab.erase t a else Tab.put t a b

/-- Bytes written at their addresses; a word that is replaced whole is poisoned no more (R444). -/
def MmuS.write (m : MmuS) (ws : List (Nat × Byte)) : MmuS :=
  let whole (w : Nat) : Bool := (List.range 8).all fun i => ws.any fun p => p.1 = 8 * w + i
  { m with bytes := ws.foldl (fun t p => setByte t p.1 p.2) m.bytes, poisoned := m.poisoned.filter fun w => !whole w }

/-- The canonical form of a memory: addresses strictly rising, and no byte 0 listed. -/
def Memory.wf (t : List (Nat × Byte)) : Bool := Tab.wf t && t.all fun p => p.2 ≠ 0

/-- A lane's memory has its canonical form. -/
def MmuS.wf (m : MmuS) : Bool := Memory.wf m.bytes

/-- The 64-bit word at an address, least significant byte first. -/
def MmuS.long (m : MmuS) (a : Nat) : Nat := ofLe ((List.range 8).map fun i => m.byte (a + i))

/-- The word of an address is poisoned. -/
def MmuS.bad (m : MmuS) (a : Nat) : Bool := m.poisoned.contains (a / 8)

/-! ### Translation (R445–R447) -/

/-- A reserved bit of a table entry is set. -/
def entryReserved (e : Nat) : Bool := bits e 11 6 ≠ 0 || e / 2 ^ 36 ≠ 0

/-- The translation of a page from a leaf entry. -/
def leafOf (e va : Nat) (frame : Nat) : TlbEntry :=
  ⟨va / 4096, frame, bitOf e 2, bitOf e 3, bitOf e 4, bitOf e 5⟩

/-- The two-level walk: WALK before NOT_PRESENT (R445, R446). -/
def MmuS.walk (m : MmuS) (root va : Nat) : Except Nat TlbEntry :=
  let a1 := root * 16384 + va / 2 ^ 21 % 2048 * 8
  let e1 := m.long a1
  if !inEssence a1 || entryReserved e1 || (bitOf e1 1 && bits e1 20 12 ≠ 0) then .error 3
  else if !bitOf e1 0 then .error 1
  else if bitOf e1 1 then .ok (leafOf e1 va (bits e1 35 12 + va / 4096 % 512))
  else
    let a2 := bits e1 35 12 * 4096 + va / 4096 % 512 * 8
    let e2 := m.long a2
    if !inEssence a2 || entryReserved e2 || bitOf e2 1 then .error 3
    else if !bitOf e2 0 then .error 1
    else .ok (leafOf e2 va (bits e2 35 12))

def TlbEntry.allows (e : TlbEntry) : Access → Bool
  | .read => e.read
  | .write => e.write
  | .fetch => e.exec

/-- The physical address of an access by a translating master, or the first cause of R446 that applies. With translation off the
virtual address is the physical one (log entry 41). -/
def MmuS.translate (m : MmuS) (master va : Nat) (acc : Access) : Except Nat Nat :=
  let bus (pa : Nat) : Except Nat Nat := if inMap pa then .ok pa else .error 4
  match Tab.get? m.masters master with
  | some r =>
    if r.enable then
      match m.walk r.root va with
      | .error c => .error c
      | .ok e => if e.allows acc then bus (e.frame * 4096 + va % 4096) else .error 2
    else bus va
  | none => bus va

/-- Changes a translating master. -/
def MmuS.modMaster (m : MmuS) (n : Nat) (f : MmuMaster → MmuMaster) : MmuS :=
  { m with masters := Tab.upd m.masters n ⟨0, false, []⟩ f }

/-! ### Check-value units (R472–R476) -/

/-- The unit is loaded with its polynomial's Init. -/
def CvuS.load (u : CvuS) : CvuS := { u with value := (Poly.ofCode u.poly).init, incomplete := false, bytes := 0 }

/-- Bytes processed. -/
def CvuS.feed (u : CvuS) (bs : List Byte) : CvuS :=
  { u with value := (Poly.ofCode u.poly).run u.value bs, bytes := (u.bytes + bs.length) % 2 ^ 32 }

/-- The width of a unit's polynomial: bits above it read 0 (R472). -/
def cvuMask (poly : Nat) (v : BitVec 64) : BitVec 64 :=
  match poly with
  | 0 => v &&& 0xFFFF
  | 3 => v
  | _ => v &&& 0xFFFFFFFF

/-! ### Performance counters (R477–R479) -/

/-- The filters of a counter pass an event (R478). -/
def PmcS.passes (k : PmcS) (ev priv : Nat) (master addr : Option Nat) : Bool :=
  let byAddr := (k.addrLo = 0 && k.addrHi = 0) || addr.any fun a => k.addrLo.toNat ≤ a && a ≤ k.addrHi.toNat
  k.enable && k.event = ev && (k.anyMaster || master = some k.master) && (k.priv = 0 || k.priv = priv) && byAddr

/-- An event counted n times: the count wraps modulo 2⁴⁸, and a sample not written before the next is due is lost (R477, R479). -/
def PerfS.count (p : PerfS) (ev priv n : Nat) (master addr : Option Nat) : PerfS :=
  let hit (k : PmcS) : Bool := k.passes ev priv master addr
  let late (k : PmcS) : Bool := hit k && 0 < k.sampleN.toNat && 2 * k.sampleN.toNat ≤ k.phase + n
  let one (k : PmcS) : PmcS :=
    if hit k then
      { k with count := (k.count + n) % 2 ^ 48, ovf := k.ovf || 2 ^ 48 ≤ k.count + n
               phase := if k.sampleN = 0 then 0 else if late k then k.phase + n - k.sampleN.toNat else k.phase + n }
    else k
  { p with ctr := Tab.mapV p.ctr fun _ k => one k, lost := p.lost + (p.ctr.filter fun e => late e.2).length }

/-- An event of one lane. PRIV 2 events are those raised while a block instance is evaluated (R478). -/
def State.countEvent (s : State) (l : Lane) (ev n : Nat) (master addr : Option Nat) : State :=
  if n = 0 then s else s.modPerf l fun p => p.count ev (if s.sheets.current.isSome then 2 else 1) n master addr

/-! ### DMA channels (R449–R455) -/

def LaneS.chan (x : LaneS) (c : Nat) : DmaCh := Tab.getD x.dma c .reset
def LaneS.modChan (x : LaneS) (c : Nat) (f : DmaCh → DmaCh) : LaneS := { x with dma := Tab.upd x.dma c .reset f }
def LaneS.unit (x : LaneS) (u : Nat) : CvuS := Tab.getD x.cvu u .reset
def LaneS.modUnit (x : LaneS) (u : Nat) (f : CvuS → CvuS) : LaneS := { x with cvu := Tab.upd x.cvu u .reset f }

/-- The requester that programs a channel (R449): the bus engine for channels 0 and 1, otherwise the bogie. -/
def dmaRequester (c : Nat) : Nat := if c < 2 then 2 else 0

/-- Bytes that the DMA group reads at a virtual address; none where an access would fault. -/
def LaneS.dmaRead (x : LaneS) (va n : Nat) : Option (List Byte) :=
  (List.range n).mapM fun i =>
    match x.mmu.translate 5 (va + i) .read with
    | .ok pa => if inRegs pa || x.mmu.bad pa then none else some (x.mmu.byte pa)
    | .error _ => none

/-- Bytes that the DMA group writes at a virtual address. -/
def LaneS.dmaWrite (x : LaneS) (va : Nat) (bs : List Byte) : Option LaneS :=
  let ws := bs.zipIdx.mapM fun p =>
    match x.mmu.translate 5 (va + p.2) .write with
    | .ok pa => if inRam pa then some (pa, p.1) else none
    | .error _ => none
  ws.map fun l => { x with mmu := x.mmu.write l }

/-- A descriptor from its 32 bytes (R450). -/
def descriptorOf (bs : List Byte) : Descriptor :=
  let c := leAt bs 0 4
  { own := bitOf c 0, notify := bitOf c 1, snoop := bitOf c 2, cvu := bits c 5 3, seed := bitOf c 6, chain := bitOf c 7
    kind := bits c 9 8, reserved := c / 1024 ≠ 0 || leAt bs 24 4 / 64 ≠ 0 || leAt bs 28 4 ≠ 0
    src := BitVec.ofNat 32 (leAt bs 4 4), dst := BitVec.ofNat 32 (leAt bs 8 4), length := leAt bs 12 4
    seedTag := BitVec.ofNat 64 (leAt bs 16 8) }

/-- A descriptor that the channel executes (R450). -/
def Descriptor.good (d : Descriptor) : Bool := !d.reserved && d.kind ≠ 3 && d.length ≤ 0x1000000

/-- The virtual address of a ring's descriptor. -/
def DmaCh.slotVa (h : DmaCh) (i : Nat) : Nat := h.base.toNat / 32 * 32 + 32 * i

/-- The descriptor in progress begins to use its unit, or goes on with the value that was saved, or waits for the unit (R473, R474). -/
def LaneS.bindUnit (x : LaneS) (c : Nat) : LaneS :=
  let h := x.chan c
  match h.cur with
  | some d =>
    if d.good && d.snoop && d.length ≠ 0 then
      let u := x.unit d.cvu
      if u.bound && u.channel ≠ c then x.modChan c fun h => { h with waiting := true }
      else
        let u1 := if d.chain then u else u.load
        let u2 := if d.seed then u1.feed (bytesOf 8 d.seedTag) else u1
        let v := if h.saved then { u with value := h.saveCvu } else u2
        (x.modUnit d.cvu fun _ => { v with bound := true, channel := c }).modChan c fun h =>
          { h with waiting := false, bound := some d.cvu, saved := false }
    else x
  | none => x

/-- A binding ends, and the first channel that waits for the unit begins (R473). -/
def LaneS.unbindUnit (x : LaneS) (c : Nat) : LaneS :=
  match (x.chan c).bound with
  | some u =>
    let x1 := (x.modUnit u fun v => { v with bound := false }).modChan c fun h => { h with bound := none }
    let wants (k : Nat) : Bool := (x1.chan k).waiting && (x1.chan k).st = .running && (x1.chan k).cur.any fun d => d.cvu = u
    match (List.range 8).find? wants with
    | some k => x1.bindUnit k
    | none => x1
  | none => x

/-- The channel takes the descriptor at HEAD while there is one below TAIL that it owns; otherwise it is idle (R450). -/
def LaneS.startNext (x : LaneS) (c : Nat) : LaneS :=
  let h := x.chan c
  if h.enable && 2 ≤ h.size && h.head ≠ h.tail % h.size then
    match x.dmaRead (h.slotVa h.head) 32 with
    | some bs =>
      let d := descriptorOf bs
      if d.own then (x.modChan c fun h => { h with st := .running, cur := some d, moved := 0, waiting := false, saved := false }).bindUnit c
      else x.modChan c fun h => { h with st := .idle, cur := none, moved := 0 }
    | none => x.modChan c fun h => { h with st := .running, cur := none, moved := 0 }
  else x.modChan c fun h => { h with st := .idle, cur := none, moved := 0 }

/-- The next n bytes of the descriptor in progress are moved and snooped; `stream` is what a stream in brings. -/
def LaneS.advance (x : LaneS) (c n : Nat) (stream : List Byte) : Option LaneS :=
  let h := x.chan c
  match h.cur with
  | none => none
  | some d =>
    let bytes := if d.kind = 1 then some (stream.take n) else x.dmaRead (d.src.toNat + h.moved) n
    match bytes with
    | none => none
    | some bs =>
      let y := if d.kind = 2 then some x else x.dmaWrite (d.dst.toNat + h.moved) bs
      y.map fun y =>
        let z := match h.bound with
          | some u => y.modUnit u fun v => v.feed bs
          | none => y
        z.modChan c fun h => { h with moved := h.moved + n }

/-- The running value of the unit that a channel has bound. -/
def LaneS.boundValue (x : LaneS) (c : Nat) : BitVec 64 :=
  match (x.chan c).bound with
  | some u => (x.unit u).value
  | none => (x.chan c).saveCvu

/-- The state of the transfer is saved: descriptor index, remaining count and the unit's running value (R453, R455). -/
def LaneS.saveChan (x : LaneS) (c : Nat) : LaneS :=
  let v := x.boundValue c
  let y := x.modChan c fun h => { h with
    remain := (h.cur.map fun d => d.length - h.moved).getD 0, saveDesc := h.head, saveCvu := v, saved := h.saved || h.bound.isSome }
  y.unbindUnit c

/-- A channel continues where its transfer was saved (R453, R474). -/
def LaneS.resumeChan (x : LaneS) (c : Nat) : LaneS :=
  match (x.chan c).cur with
  | none => (x.modChan c fun h => { h with st := .running }).startNext c
  | some _ => (x.modChan c fun h => { h with st := .running, cause := 0 }).bindUnit c

/-- The channels that the executive suspends from T₀ to the close of the input accord (R453). -/
def accordChannels : List Nat := [4, 6]

def LaneS.suspendForAccord (x : LaneS) : LaneS :=
  accordChannels.foldl (fun x c => if (x.chan c).st = .running then x.modChan c fun h => { h with st := .suspending } else x) x

def LaneS.resumeAfterAccord (x : LaneS) : LaneS :=
  accordChannels.foldl (fun x c => match (x.chan c).st with
    | .suspending => x.modChan c fun h => { h with st := .running }
    | .suspended => x.resumeChan c
    | _ => x) x

/-! ### The arbiters at boot, and the end of a lock (R461, R466) -/

/-- The priorities that the ROM commits in BOOT, requester 0 in the lowest bits. -/
def bootPriorities : BitVec 24 := BitVec.ofNat 24 (4 + 6 * 8 + 7 * 64 + 7 * 512 + 3 * 4096 + 5 * 32768 + 1 * 262144)

/-- Changes one port's arbiter. -/
def LaneS.modArb (x : LaneS) (p : MemPort) (f : ArbS → ArbS) : LaneS :=
  match p with
  | .essence => { x with arbE := f x.arbE }
  | .dram => { x with arbD := f x.arbD }

def LaneS.arb (x : LaneS) : MemPort → ArbS
  | .essence => x.arbE
  | .dram => x.arbD

def portCode : MemPort → Nat
  | .essence => 0
  | .dram => 1

/-- A locked sequence ends. -/
def ArbS.unlock (a : ArbS) : ArbS := { a with locked := false, lockCount := 0 }

end Sys2Proof.Machine
end

