-- ==== Sys2Proof/Machine/Graph.lean ====
section
/-!
DEFINITION. The graph form's own view of a route: the walks over vertices and pieces (R127, R128), the conflict relation
they give (R129), and the work units that evaluating a route costs (R135).
-/

namespace Sys2Proof.Machine

/-- The piece at a port of a vertex. -/
def Image.portPiece (img : Image) (v q : Nat) : Option Nat :=
  (Tab.get? img.vertices v).bind fun x => x.ports.getD q none

/-- Crossing a piece from one end: the far vertex, the port reached, and whether the travel is up (R127). -/
def Image.cross (img : Image) (v q p : Nat) : Option (Nat × Nat × Bool) :=
  (Tab.get? img.pieces p).bind fun pc =>
    if pc.vDn = v ∧ pc.portDn = q then some (pc.vUp, pc.portUp, true)
    else if pc.vUp = v ∧ pc.portUp = q then some (pc.vDn, pc.portDn, false)
    else none

/-- What a walk has collected: elements in path order, points as (vertex, leg used, object), the section last entered, the
number of sections, choice bits used, vertices visited, the direction, and whether it ended where it should. -/
structure Walk where
  els   : List PoolEntry
  pts   : List (Nat × Nat × Nat)
  last  : Option Nat
  nsec  : Nat
  used  : Nat
  verts : Nat
  up    : Bool
  ok    : Bool
deriving DecidableEq, Repr

def Walk.start (up : Bool) : Walk := ⟨[], [], none, 0, 0, 0, up, false⟩

/-- A pool entry of the graph form. -/
def derived (object pos tie : Nat) : PoolEntry := ⟨object, pos, false, tie⟩

/-- Entering a piece: its section unless it continues, and its level crossing, tied to that section. -/
def Walk.enter (w : Walk) (pc : Piece) (up : Bool) : Walk :=
  let isNew := w.last ≠ some pc.ts
  let nsec := if isNew then w.nsec + 1 else w.nsec
  let sec := if isNew then [derived pc.ts (if up then 1 else 2) 0x7F] else []
  let lx := match pc.lx with
    | some x => if w.els.any fun e => e.object = x then [] else [derived x 0 (nsec - 1)]
    | none => []
  { w with els := w.els ++ sec ++ lx, last := some pc.ts, nsec := nsec, up := up }

/-- The signals at a vertex that the path passes (R125, R127), the one for up movements first. -/
def Vertex.signals (x : Vertex) : List PoolEntry := (x.sgUp.toList ++ x.sgDn.toList).map fun g => derived g 0 0x7F

/-- Passing a joint: its derailer in OFF (it follows the rules of points, R66) and its signals. -/
def Walk.joint (w : Walk) (x : Vertex) : Walk :=
  let de := match x.object with
    | some d => [derived d 2 0x7F]
    | none => []
  { w with els := w.els ++ de ++ x.signals, verts := w.verts + 1 }

/-- Passing a point by a leg (port 1 or 2), and the signals at its vertex. -/
def Walk.point (w : Walk) (v leg : Nat) (x : Vertex) (facing : Bool) : Walk :=
  let o := x.object.getD 0xFFFF
  { w with els := w.els ++ [derived o leg 0x7F] ++ x.signals, pts := w.pts ++ [(v, leg, o)], verts := w.verts + 1
           used := w.used + (if facing then 1 else 0) }

/-- The walk of R127 from a vertex by a port to its end vertex. -/
def Image.walk (img : Image) (stop choices nChoice : Nat) : Nat → Nat → Nat → Walk → Walk
  | 0, _, _, w => { w with ok := false }
  | n + 1, v, q, w =>
    match img.portPiece v q with
    | none => { w with ok := false }
    | some p =>
      match img.cross v q p, Tab.get? img.pieces p with
      | some (v', q', up), some pc =>
        let w := w.enter pc up
        if v' = stop then { w with verts := w.verts + 1, ok := true }
        else match Tab.get? img.vertices v' with
          | none => { w with ok := false }
          | some x =>
            match x.kind with
            | .joint => img.walk stop choices nChoice n v' (1 - q') (w.joint x)
            | .point =>
              if q' = 0 then
                if w.used < nChoice then
                  let leg := if bitOf choices w.used then 2 else 1
                  img.walk stop choices nChoice n v' leg (w.point v' leg x true)
                else { w with ok := false }
              else img.walk stop choices nChoice n v' 0 (w.point v' q' x false)
            | _ => { w with ok := false }
      | _, _ => { w with ok := false }

/-- The flank walk of R128: the alternatives found in order, and the vertices visited. -/
def Image.flankWalk (img : Image) (tie : Nat) : Nat → Nat → Nat → List PoolEntry × Nat
  | 0, _, _ => ([], 1)
  | n + 1, v, q =>
    match img.portPiece v q with
    | none => ([], 0)
    | some p =>
      match img.cross v q p with
      | none => ([], 0)
      | some (v', q', up) =>
        match Tab.get? img.vertices v' with
        | none => ([], 0)
        | some x =>
          match x.kind with
          | .point =>
            if q' = 0 then ([], 1)
            else
              let r := img.flankWalk tie n v' 0
              (derived (x.object.getD 0xFFFF) (3 - q') tie :: r.1, r.2 + 1)
          | .joint =>
            let de := match x.object with
              | some d => [derived d 1 tie]
              | none => []
            match if up then x.sgDn else x.sgUp with
            | some g => (de ++ [derived g 0 tie], 1)
            | none =>
              let r := img.flankWalk tie n v' (1 - q')
              (de ++ r.1, r.2 + 1)
          | _ => ([], 1)

/-- The approach walk: the sections of a number of pieces backward from the entry (R127). -/
def Image.apprWalk (img : Image) : Nat → Nat → Nat → List Nat × Nat
  | 0, _, _ => ([], 0)
  | n + 1, v, q =>
    match img.portPiece v q with
    | none => ([], 0)
    | some p =>
      match img.cross v q p, Tab.get? img.pieces p with
      | some (v', q', _), some pc =>
        let rest := match Tab.get? img.vertices v' with
          | none => ([], 0)
          | some x =>
            match x.kind with
            | .joint => img.apprWalk n v' (1 - q')
            | .point => if q' = 0 then ([], 0) else img.apprWalk n v' 0
            | _ => ([], 0)
        (if rest.1.head? = some pc.ts then rest.1 else pc.ts :: rest.1, rest.2 + 1)
      | _, _ => ([], 0)

/-- What the graph solver derives of one route: the route as it evaluates it, whether its walks end as they should, and its
cost in work units, and the vertices that its walks visit. -/
structure Derived where
  def_ : RouteDef
  ok   : Bool
  cost : Nat
  visits : Nat
deriving DecidableEq, Repr

/-- The number of the path section that is a TS. -/
def sectionIndex (path : List PoolEntry) (isTs : Nat → Bool) (ts : Nat) : Option Nat :=
  (path.filter fun e => isTs e.object).findIdx? fun e => e.object = ts

def Image.isKind (img : Image) (k : Kind) (o : Nat) : Bool := (Tab.get? img.elems o).any fun e => e.kind = k

/-- PT or DE. -/
def Image.isPoint (img : Image) (o : Nat) : Bool := img.isKind .pt o || img.isKind .de o

/-- The graph form's route (R126–R128). -/
def Image.derive (img : Image) (g : GraphRoute) : Derived :=
  let fuel := img.pieces.length + 1
  let fwd := if g.down then 0 else 1
  let back := if g.down then 1 else 0
  let pw := img.walk g.exitV g.choices g.nChoice fuel g.entryV fwd { Walk.start (!g.down) with verts := 1 }
  let ow := match g.ovEndV with
    | some e => img.walk e g.ovChoices g.ovNChoice fuel g.exitV (if pw.up then 1 else 0) (Walk.start pw.up)
    | none => { Walk.start pw.up with ok := true }
  let isTs := img.isKind .ts
  let tieOf (o : Nat) : Nat :=
    (((Tab.get? img.elems o).bind ElemDef.homeTs).bind (sectionIndex pw.els isTs)).getD 0x7F
  let pf := pw.pts.map fun p => img.flankWalk (tieOf p.2.2) 15 p.1 (3 - p.2.1)
  let of_ := ow.pts.map fun p => img.flankWalk (pw.nsec - 1) 15 p.1 (3 - p.2.1)
  let ap := img.apprWalk g.apprN g.entryV back
  let entrySg := (Tab.get? img.vertices g.entryV).bind fun x => if g.down then x.sgDn else x.sgUp
  let exitV := Tab.get? img.vertices g.exitV
  let atBb := exitV.any fun x => x.kind = .boundary
  let exitObj := exitV.bind fun x => if atBb then x.object else if pw.up then x.sgUp else x.sgDn
  let ovEls := ow.els.filter fun e => isTs e.object || img.isPoint e.object
  let visits := pw.verts + ow.verts + ap.2 + (pf ++ of_).foldl (fun n f => n + f.2) 0
  { def_ :=
      { permanent := g.permanent, acMode := g.acMode, exitAtBb := atBb, entry := entrySg.getD 0xFFFF
        exit := exitObj.getD 0xFFFF, overlap := g.ovId, path := pw.els, ovList := ovEls.map fun e => (e.object, e.pos)
        flank := (pf ++ of_).map Prod.fst, row := g.row, appr := ap.1, apprTs := g.apprTs, tApprCtrl := g.tApprCtrl
        tApprLock := g.tApprLock, tStore := g.tStore, tEmerg := g.tEmerg, saOwner := g.saOwner }
    ok := pw.ok && ow.ok && pw.used = g.nChoice && ow.used = g.ovNChoice && (pf ++ of_).all fun f => !f.1.isEmpty
    cost := 4 + visits + pw.els.length + ovEls.length + pw.nsec + ow.nsec
    visits := visits }

/-- The path sections of a route as (TS, direction), in order. -/
def Image.pathTs (img : Image) (r : RouteDef) : List PoolEntry := r.path.filter fun e => img.isKind .ts e.object

/-- Path and overlap points as (object, position). -/
def Image.routePts (img : Image) (r : RouteDef) : List (Nat × Nat) :=
  ((r.path.filter fun e => img.isPoint e.object).map fun e => (e.object, e.pos))
    ++ r.ovList.filter fun p => img.isPoint p.1

/-- The overlap sections of a route. -/
def Image.ovTs (img : Image) (r : RouteDef) : List (Nat × Nat) := r.ovList.filter fun p => img.isKind .ts p.1

/-- The conflict relation of the graph form (R129). -/
def Image.graphConflict (img : Image) (i j : Nat) (gi gj : GraphRoute) (ri rj : RouteDef) : Bool :=
  let ti := (img.pathTs ri).map PoolEntry.object
  let tj := (img.pathTs rj).map PoolEntry.object
  let oi := (img.ovTs ri).map Prod.fst
  let oj := (img.ovTs rj).map Prod.fst
  ti.any tj.contains || ti.any oj.contains || tj.any oi.contains
    || (img.routePts ri).any (fun p => (img.routePts rj).any fun q => p.1 = q.1 && p.2 ≠ q.2)
    || gi.xc.contains j || gj.xc.contains i

end Sys2Proof.Machine
end

