-- ==== Sys2Proof/Machine/Vector.lean ====
section
/-!
DEFINITION. The verdict vector's words (R66, R137–R140), its 98 592 bytes and the output hash (R51), read-outs of the resolved
state, and the restart state of R112.
-/

namespace Sys2Proof.Machine

/-- The object state byte (R66). -/
def ElemSt.stateByte (e : ElemSt) : Nat :=
  e.state % 16 + 16 * b2n e.fa + 32 * b2n e.fb + 64 * b2n e.fc + 128 * b2n e.unproven

/-- The element command word (R139). -/
def ElemSt.word (e : ElemSt) : Nat :=
  pack [(0, 8, e.stateByte), (8, 4, e.cmd), (12, 1, b2n e.reserved), (16, 8, min 255 e.holders), (24, 8, e.kb.toNat)]

/-- The element timer word (R140). -/
def ElemSt.timerWord (e : ElemSt) : Nat := pack [(0, 16, e.ta), (16, 16, e.tb)]

/-- The route word (R138). -/
def RouteSt.word (r : RouteSt) : Nat :=
  pack [(0, 4, r.st.code), (4, 7, r.released), (11, 1, b2n r.engaged), (12, 1, b2n r.signalled), (13, 1, b2n r.auto),
    (14, 1, b2n r.withheld), (15, 1, b2n r.kOcc), (16, 1, b2n r.nextSeen), (17, 1, b2n r.ovOcc), (18, 1, b2n r.firstClear),
    (19, 1, b2n r.halted)]

/-- The area entry (R140). -/
def AreaSt.word (a : AreaSt) : Nat := pack [(0, 16, a.timer), (16, 1, b2n a.expired)]

def AreaSt.zero : AreaSt := ⟨0xFFFF, false⟩

def Verdict.elem (v : Verdict) (o : Nat) : ElemSt := Tab.getD v.elems o .zero
def Verdict.route (v : Verdict) (r : Nat) : RouteSt := Tab.getD v.routes r .zero
def Verdict.area (v : Verdict) (a : Nat) : AreaSt := Tab.getD v.areas a .zero

/-- A route in the active set: every state but IDLE and REQUESTED (R84). -/
def RSt.active : RSt → Bool
  | .idle | .requested => false
  | _ => true

/-- The number of routes in the active set. -/
def Verdict.actives (v : Verdict) : Nat := (v.routes.filter fun p => p.2.st.active).length

/-- The vector's header (R137). -/
def Verdict.header (v : Verdict) : List Byte :=
  bytesOf 4 v.cycle ++ fields [(1, 1), (3, 0)] ++ padTo 8 v.digest ++ fields [(2, v.count), (14, 0)]

/-- The vector's bytes (R137). -/
def Verdict.bytes (v : Verdict) : List Byte :=
  v.header ++ ((List.range 64).flatMap fun a => leBytes 4 (v.area a).word)
    ++ ((List.range 4096).flatMap fun r => leBytes 4 (v.route r).word ++ leBytes 4 (v.route r).timer)
    ++ (List.range 8192).flatMap fun o => leBytes 4 (v.elem o).word ++ leBytes 4 (v.elem o).timerWord

/-- The output hash (R51). -/
def Verdict.hash (v : Verdict) : BitVec 64 := crc64 v.bytes

/-! ### The restart state (R112, R113) -/

/-- The restart state of an object: code 0 and UNPROVEN, blocks and marks restored, restrictive commands (R112, R113). -/
def restartElem (blockedTs blockedPt : List Nat) (o : Nat) (e : ElemDef) : ElemSt :=
  match e.kind with
  | .ts => { ElemSt.zero with unproven := true, fa := blockedTs.contains o }
  | .pt | .de => { ElemSt.zero with unproven := true, fc := blockedPt.contains o }
  | .lx => { ElemSt.zero with unproven := true, cmd := if e.openAtRestart then 1 else 0 }
  | .bb => { ElemSt.zero with unproven := true, kb := 0x20 }
  | .ov | .fl => ElemSt.zero
  | .sa => { ElemSt.zero with state := 1, unproven := true }
  | _ => { ElemSt.zero with unproven := true }

end Sys2Proof.Machine
end

