-- ==== Sys2Proof/Machine/Modes.lean ====
section
/-!
DEFINITION. Changes of mode and what they carry with them: the end of sessions (R317), of station completions, forced outputs
and prepared sheets (R182, R324, R350), entry to SAFE (R22), RESET (R504) and OFF (R502), a freeze's end (R399), and a lane's
departure with its effect on the module (R19, R356).
-/

namespace Sys2Proof.Machine

/-! ### Sessions -/

/-- A session ends with a reason; its tokens end with it (R317, R328). -/
def State.endSession (s : State) (x : Session) (reason : Nat) : State :=
  let s1 := s.record 0x0902 (fields [(1, x.role.code), (1, reason), (2, x.source)])
  { s1 with
    host := { s1.host with sessions := s1.host.sessions.filter fun y => y ≠ x, hkSession := s1.host.hkSession.filter fun y => y ≠ x }
    ixl := { s1.ixl with tokens := s1.ixl.tokens.filter fun t => !(t.role = some x.role && t.source = x.source) } }

/-- Every session of the lanes, and the housekeeper's own, end at a mode change. -/
def State.endSessions (s : State) : State :=
  let s1 := s.each s.host.sessions fun s x => s.endSession x 4
  { s1 with host := { s1.host with hkSession := none, challenges := [] } }

/-! ### Leaving OPERATE -/

/-- Data of a station completion (R327). -/
def State.completionData (s : State) (c : Completion) : List Byte :=
  if c.opcode = 0x0101 then
    fields [(2, c.target), (1, (s.ixl.resolved.route c.target).st.code), (1, 0), (4, s.ixl.resolved.cycle.toNat)]
  else if c.opcode = 0x0103 then fields [(2, c.target), (2, 0), (4, s.ixl.resolved.cycle.toNat)]
  else fields [(2, c.target), (1, (s.ixl.resolved.elem c.target).stateByte), (1, 0), (4, s.ixl.resolved.cycle.toNat)]

/-- A forced output ends, with the event of its record (R350). -/
def State.endForce (s : State) (ch event : Nat) : State :=
  match Tab.get? s.fch.forced ch with
  | some f =>
    ({ s with fch := { s.fch with forced := Tab.erase s.fch.forced ch } } : State).record 0x0307
      (fields [(1, ch), (1, b2n f.value), (1, event), (1, 0), (4, f.dur), (2, f.source), (2, 0)])
  | none => s

/-- A prepared or committed sheet change is cancelled; a committed one completes with REFUSED_MODE (R182, R327). -/
def State.cancelSheets (s : State) (reason : Nat) : State :=
  match s.sheets.change with
  | none => s
  | some c =>
    let s1 : State := { s with
      sheets := { s.sheets with change := none }
      img := { s.img with armed := LaneSet.none, tenderConfirmed := false
                          pending := if s.img.pending.st = .scheduled then { s.img.pending with st := .verified, at_ := 0 } else s.img.pending } }
    let s2 := s1.record 0x0423 (padTo 8 s.img.pending.digest ++ fields [(1, reason), (3, 0)])
    if c.commit.isSome then s2.complete ⟨0x0508, c.source, c.queue, c.seq, 0, 0⟩ stMode (leBytes 4 0)
    else if c.preparing then s2.complete ⟨0x0507, c.source, c.queue, c.seq, 0, 0⟩ stMode (fields [(4, 0), (4, 0), (4, 0)])
    else s2

/-- Supervisors are HALTED at once when the module leaves OPERATE or becomes TENDER, those in LOCKOUT apart; the votes of the local ones
are staged for the stop strobe (R283, R287, R292). -/
def State.haltSups (s : State) : State :=
  let due := s.sup.sups.filter fun p => p.2.st ≠ .lockout
  let local_ := (due.filter fun p => (Tab.get? s.image.sups p.1).any fun d => !d.remote).map Prod.fst
  let s1 : State := { s with sup := { s.sup with stopStaged := local_, sups := Tab.mapV s.sup.sups fun _ u =>
    if u.st ≠ .lockout then
      { u with st := .halted, cause := 9, haltRun := 0, sinceStop := if u.st = .stopping then 0 else u.sinceStop } else u } }
  s1.each due fun s p =>
    s.record 0x0312 (fields [(1, p.1), (1, 9), (2, ((Tab.get? s.image.sups p.1).map SupDef.point).getD 0xFFFF)])

/-- What ends when the module leaves OPERATE for SAFE or DORMANT (R182, R283, R324, R327, R350). -/
def State.stopOperate (s : State) : State :=
  if s.mod.mode = .operate then
    let due := s.ixl.completions
    let s1 : State := { s with ixl := { s.ixl with completions := [], areaHold := 0, tokens := s.ixl.tokens.filter fun t => !t.station } }
    let s2 := s1.each due fun s c => s.complete c stMode (s.completionData c)
    let s3 := s2.each (Tab.keys s2.fch.forced) fun s ch => s.endForce ch 2
    let s4 := s3.cancelSheets 0
    ({ s4 with img := { s4.img with armed := LaneSet.none, judged := none, tenderConfirmed := false } } : State).haltSups
  else s

/-- The check of a retained record. -/
def retainCheck (version : Nat) (bytes : List Byte) : Word := crc32c (leBytes 1 version ++ bytes)

/-- A state record as flash takes it, at VERSION 1 (R431). -/
def BlockSt.retained (x : BlockSt) : Retained := ⟨1, x.bytes, retainCheck 1 x.bytes⟩

/-- A retained record that has a known VERSION and passes its check gives the state back; the instance evaluates first after an entry to
OPERATE, so INIT is not set (R160, R177). -/
def Retained.restore (r : Retained) : Option BlockSt :=
  if r.version = 1 && r.bytes.length = 8 && r.check = retainCheck r.version r.bytes then
    some { BlockSt.ofBytes r.bytes [] with init := false }
  else none

/-- The retained state of every instance marked RETAIN, by its identifier: as it is now, or as flash has it where it has not been
evaluated (R177). -/
def State.retainedNow (s : State) : Tab Retained :=
  Tab.ofList ((s.image.blocks.filter fun p => p.2.retain).filterMap fun p =>
    match Tab.get? s.sheets.blocks p.1 with
    | some b => some (p.2.id, b.retained)
    | none => (Tab.get? s.sheets.retained p.2.id).map fun r => (p.2.id, r))

/-- The persistent states written at entry to SAFE or DORMANT (R177, R304, R314). -/
def State.persistAll (s : State) : State :=
  { s with
    host := { s.host with persistSeq := s.host.lastSeq, persistUnsol := s.host.unsolCtr, persistChalLanes := s.host.chalLanes,
                          persistChalHk := s.host.chalHk }
    sheets := { s.sheets with retained := s.retainedNow, retainDirty := false } }

/-- The outcome of a bank switch: its record, its completion, and the requests and the freeze gone (R198, R238). -/
def State.endSwitch (s : State) (result : Nat) (round crc : Word) : State :=
  let done := s.net.switchDone
  let s1 : State := { s with net := { s.net with
    frozen := false, partnerArmed := false, switchDone := none, regs := s.net.regs.map fun r => { r with request := none } } }
  let s2 := s1.record 0x020D (fields [(1, result), (1, b2n s1.net.activeBank1), (2, 0), (4, round.toNat), (4, crc.toNat)])
  match done with
  | some c => s2.complete c (if result = 0 then stOk else stDisagree) (fields [(1, result), (3, 0), (4, round.toNat)])
  | none => s2

/-- A lane's request of a bank switch: round and CRC (R198, R214). -/
def HubRegs.asks (r : HubRegs) : Option (Word × Word) := r.request.map fun w => (w, r.crc)

/-- The round and CRC of a switch request: those on which two lanes agree, otherwise those of the first lane that requests one (R198). -/
def NetS.switchRound (n : NetS) : Option (Word × Word) :=
  let agreed (l : Lane) : Bool := Lane.all.any fun m => m ≠ l && (n.regs.get m).asks = (n.regs.get l).asks
  match (Lane.all.filter agreed).findSome? fun l => (n.regs.get l).asks with
  | some p => some p
  | none => Lane.all.findSome? fun l => (n.regs.get l).asks

/-- The hub falls silent: no schedule, no contribution, empty downlink (R18, R22). A switch under way does not take place. -/
def State.silence (s : State) : State :=
  let s1 := match s.net.switchRound with
    | some (r, c) => if s.net.frozen then s.endSwitch 1 r c else s
    | none => s
  { s1 with net := { s1.net with running := false, phase := .idle, contrib := LaneSet.none, down := ⟨[], [], []⟩,
                                 downNext := ⟨[], [], []⟩, partnerBytes := [], frozen := false } }

/-- Every vital vote is OFF and every test vote ends; non-vital channels keep their last votes (R22). -/
def State.votesOff (s : State) (all : Bool) : State :=
  s.mapOuts fun ch o =>
    let vital := all || (Tab.get? s.image.chans ch).any ChDef.vital
    let off (v : VoterSt) := { v with vote := if vital then LaneSet.none else v.vote
                                      staged := if vital then LaneSet.none else v.staged, test := none }
    { o with hs := off o.hs, ls := off o.ls }

/-- Where no cycles run, a lane in MINORITY takes its next state at once (R356). -/
def State.settleMinority (s : State) : State :=
  s.each Lane.all fun s l => if s.laneSt l = .minority && s.img.checked then s.takeNext l else s

/-- Vital commands taken into a cycle whose apply strobes will not come: answered REFUSED_MODE by the voting lanes (R324). -/
def State.refuseTaken (s : State) : State :=
  if !s.mod.mode.cycles || s.mod.role = .tender then s
  else
    let due := if s.ixl.phase = 1 then s.acc.accorded.cmds.map fun c => (c.hdr, c.opcode) else s.acc.judged.map fun j => (j.hdr, j.opcode)
    let s1 := s.each due fun s d => s.reply d.1 d.2 stMode []
    { s1 with acc := { s1.acc with judged := [] }, ixl := { s1.ixl with phase := 0 } }

/-- A planned switchover that does not take place: both roles stay, and its completion carries LANE_DISAGREE (R327, R376). -/
def State.abandonSwitchover (s : State) : State :=
  let done := s.plink.switchDone
  let s1 : State := { s with plink := { s.plink with switchAt := none, switchConfirmed := false, switchDone := none } }
  match done with
  | some c => s1.complete c stDisagree (bytesOf 4 s.net.claim)
  | none => s1

/-- A MODE_REQUEST that loses to a transition of higher rank: its reply, not sent yet, is REFUSED_MODE (R21). -/
def State.loseModeRequest (s : State) : State :=
  let lose (p : Packet) : Packet := if p.opcode = 0x0704 && p.status = stOk then { p with status := stMode } else p
  if s.mod.modeDue.isNone then s
  else { s with
    mod := { s.mod with modeDue := none }
    host := { s.host with replies := s.host.replies.map fun r => { r with lanes := r.lanes.map fun o => o.map lose } } }

/-- Entry to SAFE (R21, R22). -/
def State.enterSafe (s : State) (trigger : Nat) : State :=
  let s1 := (s.loseModeRequest.refuseTaken.stopOperate.abandonSwitchover.votesOff false).silence
  let s2 := s1.stopVrd
  let s3 := s2.persistAll
  let s4 := s3.toMode .safe trigger
  let s5 : State := { s4 with plink := { s4.plink with holding := false, safeAfter := false, resync := false, resyncStep := 0, control := [] }
                              acc := { s4.acc with isOpen := false, lapsed := false, staged := LaneSet.none, goodRounds := 0, safeAt4 := false, safeNext := false } }
  (s5.mapLanes fun _ x => { x with core := { x.core with inAccord := false } }).settleMinority

/-! ### The freeze of the event partition -/

/-- Held records receive indexes in order of first occurrence and are programmed; the overflow follows (R399). -/
def State.endFreeze (s : State) (event keep : Nat) : State :=
  match s.rcd.freeze with
  | none => s
  | some f =>
    let s1 : State := { s with rcd := { s.rcd with freeze := none } }
    let s2 := s1.each (f.held.take keep) fun s r =>
      let i := s.rcd.writeIndex
      (s.appendRecord { r with held := true }).closeRecord i
    let s3 := if f.overflow = 0 then s2 else s2.recordHk 0x0A01 (fields [(4, f.overflow), (1, 0), (3, 0)])
    s3.recordHk 0x0A04 (fields [(1, event), (1, 0), (2, f.source), (4, f.held.length)])

/-- The run of missing sillage cycles is recorded once the housekeeper can write again (R409). -/
def State.flushGap (s : State) : State :=
  match s.rcd.gap with
  | some (first, n, cause) =>
    if s.mod.hkLost then s
    else ({ s with rcd := { s.rcd with gap := none } } : State).recordHk 0x0A03 (fields [(4, first), (4, n), (1, cause), (3, 0)])
  | none => s

/-! ### RESET and OFF -/

/-- What a slot keeps through RESET: flash keeps its contents; a verification or a schedule under way is gone (log entry 12). -/
def Slot.afterReset (x : Slot) : Slot :=
  { x with st := match x.st with
             | .verifying => .loaded
             | .scheduled => .verified
             | t => t
           owner := none }

/-- Everything that RESET clears, with what flash, fuses and the housekeeper keep (R504). -/
def State.clearVolatile (s : State) : State :=
  { State.reset with
    pending := s.pending
    freeCtr := s.freeCtr
    tap := s.tap
    mod := { ModS.reset with mode := s.mod.mode, bench := s.mod.bench, sealed := s.mod.sealed, lab := s.mod.lab, vin := s.mod.vin
                             cutOff := s.mod.cutOff, holdUp := s.mod.holdUp, rstLow := s.mod.rstLow }
    img := { ImgS.reset with active := s.img.active.afterReset, pending := s.img.pending.afterReset, keys := s.img.keys
                             patch := s.img.patch, migrateDue := s.img.migrateDue }
    ixl := { IxlS.reset with blockedTs := s.ixl.blockedTs, blockedPt := s.ixl.blockedPt, autos := s.ixl.autos
                             withheld := s.ixl.withheld }
    sheets := { SheetS.reset with retained := s.sheets.retained }
    net := { NetS.reset with generation := s.net.generation, persistedTime := s.net.persistedTime }
    host := { HostS.reset with persistSeq := s.host.persistSeq, persistUnsol := s.host.persistUnsol
                               persistChalLanes := s.host.persistChalLanes, persistChalHk := s.host.persistChalHk }
    plink := { PlinkS.reset with rights := s.plink.rights }
    rcd := { RecS.reset with
      store := s.rcd.store, writeIndex := s.rcd.writeIndex, oldest := s.rcd.oldest, sil := s.rcd.sil, silIndex := s.rcd.silIndex
      silOldest := s.rcd.silOldest, gap := s.rcd.gap, powerCycles := s.rcd.powerCycles, opTime := s.rcd.opTime
      persistOp := s.rcd.persistOp, persistMode := s.rcd.persistMode, persistWarn := s.rcd.persistWarn
      persistHeld := s.rcd.persistHeld, silRaw := s.rcd.silRaw, wearEvent := s.rcd.wearEvent, wearSil := s.rcd.wearSil } }

/-- Entry to RESET (R502, R504): sessions end, the open records close and are programmed, a freeze ends with as many of its held
records as are programmed in time (how many is a free value), and everything volatile is cleared. -/
def State.enterReset (s : State) (trigger : Nat) : State :=
  let s1 := s.endSessions
  let s2 := if s1.mod.mode = .reset then s1 else s1.toMode .reset trigger
  let s3 := s2.closeAll
  let held := (s3.rcd.freeze.map fun f => f.held.length).getD 0
  let kept := (Config.freeWord s3.freeCtr).toNat % (held + 1)
  let s4 := if held = 0 then s3.endFreeze 3 0
    else
      let t : State := { s3.bump with rcd := { s3.rcd with persistHeld := held - kept } }
      t.endFreeze 3 kept
  s4.closeAll.clearVolatile.flushGap

/-- Entry to OFF: the record of it is written at the next power-up (R26). -/
def State.enterOff (s : State) : State :=
  let t := s.clearVolatile
  { t with mod := { t.mod with mode := .off, holdUp := false, vin := 0, cutOff := false, rstLow := false } }

/-! ### A lane's departure and the module -/

/-- A lane leaves the vote: with fewer than two voting lanes a module with cycles enters SAFE; otherwise OPERATE becomes
DEGRADED (R19). -/
def State.leaveVote (s : State) (l : Lane) (cause sub : Nat) : State :=
  let old := s.modeWord
  let s1 := s.leave l cause sub
  if s1.mod.mode.cycles && LaneSet.count s1.votingLanes < 2 then s1.enterSafe 16 else s1.noteDegraded old 14

/-- Every lane of a set leaves for one cause. -/
def State.leaveAll (s : State) (ls : LaneSet) (cause sub : Nat) : State := s.forLanes ls fun s l => s.leaveVote l cause sub

end Sys2Proof.Machine
end

