-- ==== Sys2Proof/Machine/NetStart.lean ====
section
/-!
DEFINITION. The start of the network (R220–R223), entry to INTEGRATE and OPERATE (R19, R25, R112, R113), the migration of
persistent states (R431), and messages to the partner (R364, R376).
-/

namespace Sys2Proof.Machine

/-! ### The network comes up -/

/-- A COLDSTART record (R242). -/
def State.recordCold (s : State) (event : Nat) (other : Word) : State :=
  s.record 0x020C (fields [(1, event), (1, min 255 s.net.collisions), (2, 0), (4, s.net.claim.toNat), (4, other.toNat)])

/-- Network time at a cold start: the persisted value plus 60 s, rounded up to a round (R220). -/
def coldTime (persisted : Nat) : Nat := (persisted + 60000000 + 9999) / 10000 * 10000

/-- The round counter of a network time (R190). -/
def roundOf (t : Nat) : Word := BitVec.ofNat 32 (t / 10000)

/-- A cold start: the new generation is stored first, then four cold-start rounds run (R220, R221). -/
def State.coldStart (s : State) : State :=
  let g := s.net.generation + 1
  let t := coldTime s.net.persistedTime
  let n : NetS := { s.net with
    generation := g, claim := BitVec.ofNat 32 (g * 256 + s.mod.pos), netTime := t, round := roundOf t
    running := true, synced := false, phase := .coldRounds 4, contrib := LaneSet.none
    servesX := true, servesY := s.mod.pos = 0 }
  let s1 : State := { s with
    net := n, plink := { s.plink with leadChannelY := false }, acc := { s.acc with accorded := { s.acc.accorded with time := t } } }
  s1.recordCold 0 0

/-- The channel a role's hub serves: a SOLO both, otherwise the lead channel or the other (R28). -/
def State.serveByRole (s : State) : State :=
  let leadY := s.plink.leadChannelY
  let sx := match s.mod.role with
    | .solo => true
    | .lead => !leadY
    | .tender => leadY
  let sy := match s.mod.role with
    | .solo => true
    | .lead => leadY
    | .tender => !leadY
  { s with net := { s.net with servesX := sx, servesY := sy } }

/-- The network at entry to INTEGRATE: a SOLO cold-starts at once; a module in duplex listens first (R221). -/
def State.startNetwork (s : State) : State :=
  if s.mod.pos = 0 then s.coldStart
  else { s with net := { s.net with phase := .listening, running := false } }

/-! ### Entry to INTEGRATE and OPERATE -/

/-- The restart vector of the image with the persistent states (R112, R113). -/
def State.restartVector (s : State) : Verdict :=
  { cycle := 0, digest := padTo 8 s.img.runDigest, count := 0, areas := []
    routes := s.image.routes.filterMap fun p =>
      let auto := s.ixl.autos.contains p.1
      let wh := s.ixl.withheld.contains p.1
      if auto || wh then some (p.1, { RouteSt.zero with auto := auto, withheld := wh }) else none
    elems := Tab.mapV s.image.elems fun o e => restartElem s.ixl.blockedTs s.ixl.blockedPt o e }

/-- The interlocking and the sheets begin from the restart state; station tokens do not survive (R112, R160, R177, R328). -/
def State.restartStation (s : State) : State :=
  let v := s.restartVector
  let blocks : Tab BlockSt := s.image.blocks.filterMap fun p =>
    if p.2.retain then ((Tab.get? s.sheets.retained p.2.id).bind Retained.restore).map fun b => (p.1, b) else none
  { s with
    ixl := { IxlS.reset with
      resolved := v, tableV := v, graphV := v, blockedTs := s.ixl.blockedTs, blockedPt := s.ixl.blockedPt, autos := s.ixl.autos
      withheld := s.ixl.withheld, completions := s.ixl.completions, tokens := s.ixl.tokens.filter fun t => !t.station }
    sheets := { SheetS.reset with retained := s.sheets.retained, blocks := blocks } }

/-- Supervisors at entry to OPERATE: HALTED, or still in LOCKOUT, with the causes and envelopes of the last stop and with counts of 0
(R284, R291). The rate starts at 0; a local one is formed next with the COUNT word last accorded (R56, R280). -/
def State.restartSups (s : State) : State :=
  let start (n : Nat) (d : SupDef) : SupSt :=
    let u := Tab.getD s.sup.sups n SupSt.halted0
    let v := if u.st = .lockout then { u with rate := 0, missing := 0, used := none, fresh := false, k := 0 }
      else { SupSt.halted0 with cause := u.cause, rate0 := u.rate0, limit := u.limit }
    { v with prevWord := if d.remote then 0 else Tab.getD s.acc.accorded.counts d.progCh 0 }
  { s with sup := { s.sup with sups := Tab.mapV s.image.sups start, stops := 0, passed := false, stopStaged := [], halts := [] } }

/-- Counts of the ACC, LANE, RTE, HUB, PLK, BST, SSV and REC blocks restart at entry to OPERATE (R64, R150, R213, R382,
R383, R413). -/
def State.restartCounts (s : State) : State :=
  let s1 := s.mapLanes fun _ x => { x with
    core := { x.core with left := 0, rejoined := 0, inAccordMax := 0, slackMin := 0xFFFF, fetchFrames := 0, fetchCmds := 0,
                          nextErr := 0, prevErr := 0, cmpMax := 0, rxTimes := [], txTimes := [] }
    rte := x.rte.restart
    pwr := { x.pwr with minSpeed := 0xFFFF }
    diag := { x.diag with passes := 0, slicesRun := 0, slicesFailed := 0, ringFill := 0, maxFill := 0, dropSil := 0, dropEvents := 0, snapTaken := 0, snapSkipped := 0 } }
  { s1 with
    net := { s1.net with counts := { HubCounts.zero with txMinority := s1.net.counts.txMinority, noMajority := s1.net.counts.noMajority } }
    plink := { s1.plink with crcErr := 0, shadowMis := 0 } }

/-- Entry to INTEGRATE (R19, R221, R491): the clock tree takes over from the static enables, the schedule starts, and the accord
runs an integration count. A module in duplex counts as TENDER until it is LEAD (log entry 13). -/
def State.enterIntegrate (s : State) (trigger : Nat) : State :=
  let role : PairRole := if s.mod.pos = 0 then .solo else .tender
  let s1 : State := { s with
    mod := { s.mod with role := role, cycle := 0, waking := none, dormant := none }
    acc := { s.acc with voting := s.votingLanes, tick := 9, fresh := true, goodRounds := 0, isOpen := false }
    net := { s.net with grantsOn := s.image.nodes.length ≠ s.image.nodeCount } }
  let s2 := s1.mapLanes fun _ x => match x.core.st with
    | .hold | .failed => x
    | _ => { x with clk := { x.clk with static := 0, gateTb := true, gateDram := true, gateIos := true } }
  (s2.restartStation.restartSups.toMode .integrate trigger).startNetwork

/-- An identifier's correspondence under a migration map (R424). -/
def corresponds (m : List MapEntry) (img : Image) (oldKinds : Tab Kind) (isRoute : Bool) (id : Nat) : Option Nat :=
  match m.find? fun e => e.isRoute = isRoute && e.old = id with
  | some e => some e.new
  | none =>
    if isRoute then (if (Tab.get? img.routes id).isSome then some id else none)
    else match Tab.get? img.elems id, Tab.get? oldKinds id with
      | some e, some k => if e.kind = k then some id else none
      | _, _ => none

/-- The persistent states under one migration map (R431). -/
def State.migrate (s : State) (m : List MapEntry) (oldKinds : Tab Kind) : State :=
  let img := s.image
  let toDefault (r : Bool) (id : Nat) : Bool := m.any fun e => e.isRoute = r && !e.carry && e.new = id
  let carry (r : Bool) (l : List Nat) : List Nat :=
    (l.filterMap fun id => corresponds m img oldKinds r id).foldl (fun acc i => if toDefault r i then acc else insertNat i acc) []
  let dropped (r : Bool) (l : List Nat) : List Nat := l.filter fun id => (corresponds m img oldKinds r id).isNone
  let defaults := m.filter fun e => !e.carry && (e.isRoute || img.isKind .ts e.new || img.isPoint e.new)
  let add (k : Nat → Bool) (l : List Nat) : List Nat :=
    (defaults.filter fun e => !e.isRoute && k e.new).foldl (fun acc e => insertNat e.new acc) l
  let x := s.ixl
  let drops := ((dropped false (x.blockedTs ++ x.blockedPt)).map fun i => (1, i)) ++ (dropped true x.autos).map fun i => (2, i)
  let s1 : State := { s with ixl := { x with
    blockedTs := add (img.isKind .ts) (carry false x.blockedTs)
    blockedPt := add img.isPoint (carry false x.blockedPt)
    autos := carry true x.autos, withheld := [] } }
  let s2 := s1.each defaults fun s e => s.record 0x0605 (fields [(1, if e.isRoute then 2 else 1), (1, 0), (2, e.new)])
  s2.each drops fun s d => s.record 0x0606 (fields [(1, d.1), (1, 0), (2, d.2)])

/-! ### The tender's condition -/

/-- The tender's condition changes (R349, R384): 0 shadow, 1 block missing, 2 heartbeat silent with lead channel live, 3 holding
limit, 4 digest. -/
def State.setCond (s : State) (c : Cond) (reason : Nat) : State :=
  if s.mod.cond = c then s
  else ({ s with mod := { s.mod with cond := c } } : State).record 0x0124
    (fields [(1, s.mod.cond.code), (1, c.code), (1, reason), (1, 0)])

/-- A partner resync begins at step 1 (R371). -/
def State.beginPartnerResync (s : State) : State :=
  { s with plink := { s.plink with
    resync := true, resyncStep := 1, resyncSince := s.rcd.opTime, copying := false, copyWait := 0, copyFailed := 0, pages := [], stored := []
    probation := 0 } }

/-- Step 3 of a partner resync: the copy is armed at a T₀ that is `wait` ahead. -/
def State.partnerToCopy (s : State) (wait : Nat) : State :=
  { s with plink := { s.plink with resyncStep := 3, copying := false, copyWait := wait, pages := [], stored := [], probation := 0 } }

/-- Takeover rights as the module has them: none while its levels are refused (R349, R434). -/
def State.rightsNow (s : State) : Bool := s.plink.rights && s.mod.cond ≠ .refused

/-- The digests of the pair differ: the tender is or stays UNSYNCED without a copy, and records it (R371). -/
def State.digestDiffers (s : State) : State :=
  let t : State := { s with plink := { s.plink with resync := false, resyncStep := 0 }, mod := { s.mod with cond := .unsynced } }
  t.record 0x0124 (fields [(1, s.mod.cond.code), (1, 1), (1, 4), (1, 0)])

/-- The tender judges itself against the lead's levels and digest (R434). -/
def State.judgeLevels (s : State) : State :=
  if s.mod.mode = .operate && s.mod.role = .tender && s.plink.up then
    let ok := match s.plink.partnerLevels with
      | [rom, major, _, iface] => rom = 3 && major = 3 && iface = 2 && bitOf s.plink.partnerMinors.toNat s.mod.minor
      | _ => true
    if !ok then
      let t := ({ s with plink := { s.plink with resync := false, resyncStep := 0 } } : State).record 0x060A
        (s.plink.partnerLevels.flatMap (leBytes 1) ++ bytesOf 4 s.plink.partnerMinors)
      t.setCond .refused 4
    else if s.plink.partnerDigest ≠ [] && s.plink.partnerDigest ≠ s.img.runDigest then s.digestDiffers
    else (s.setCond .unsynced 1).beginPartnerResync
  else s

/-- Entry to OPERATE (R25, R112, R113, R177): cycle 0 comes next, the restart rules apply in full, and the persistent states of
a restart activation migrate first (R431). -/
def State.enterOperate (s : State) : State :=
  let due := s.img.migrateDue
  let s1 := ({ s with img := { s.img with migrateDue := [] } } : State).each due fun s d => s.migrate d.1 d.2
  let s2 := s1.restartStation.restartSups.restartCounts
  let missing := s2.image.blocks.filter fun p => p.2.retain && ((Tab.get? s2.sheets.retained p.2.id).bind Retained.restore).isNone
  let s3 : State := { s2 with
    mod := { s2.mod with cycle := 0, fullHeld := 0, cond := if s2.mod.role = .tender && s2.mod.cond = .none then .unsynced else s2.mod.cond }
    acc := { s2.acc with tick := 9, fresh := true, unaccorded := [] } }
  ((s3.toMode .operate 13).each missing fun s p => s.record 0x0424 (leBytes 4 p.2.id)).judgeLevels

/-! ### Messages to the partner -/

/-- A partner message leaves: type and body (R364). -/
def State.sendPartner (s : State) (type : Nat) (body : List Byte) : State :=
  { s with plink := { s.plink with sent := s.plink.sent ++ [(type, body)] } }

/-- A CONTROL message that waits for its acknowledgement (R364). -/
def State.sendControl (s : State) (kind : Nat) (body : List Byte) (done : Option Completion) : State :=
  let n := s.plink.ctlSeq + 1
  ({ s with plink := { s.plink with ctlSeq := n, control := s.plink.control ++ [⟨n, 0, kind, body, done⟩] } } : State).sendPartner 8
    (leBytes 1 kind ++ bytesOf 4 n ++ body)

/-- Kinds of the operations that a CONTROL message carries (R364; the codes are the model's own, log entry 14). -/
def ctlAck : Nat := 0
def ctlBankWrite : Nat := 1
def ctlBankSwitch : Nat := 2
def ctlGrant : Nat := 3
def ctlTenderEnable : Nat := 4
def ctlSchedule : Nat := 5
def ctlSwitchover : Nat := 6
def ctlLevels : Nat := 7
def ctlConfirm : Nat := 8
def ctlBankCrc : Nat := 9
def ctlRefused : Nat := 10

/-- The partner is TENDER in OPERATE, and without condition (R23, R349, R429). -/
def State.tenderReady (s : State) : Bool :=
  s.plink.up && s.plink.partnerCond = 0 && s.plink.partnerMode % 16 = 6 && s.plink.partnerMode / 64 = 2

/-- A planned switchover is named for the cycle of intake + 20 and sent to the tender (R376). -/
def State.beginSwitchover (s : State) (done : Option Completion) (safe : Bool) : State :=
  let c := s.mod.cycle.toNat + 20
  let s1 : State := { s with plink := { s.plink with switchAt := some c, switchConfirmed := false, switchDone := done, safeAfter := safe } }
  s1.sendControl ctlSwitchover (leBytes 4 c) none

end Sys2Proof.Machine
end

