-- ==== Sys2Proof/Machine/Image.lean ====
section
/-!
DEFINITION. A flacon's content read as a station image: the sections of R118, R151, R194, R244, R276, R297, R331, R396, R423
and R424, taken apart into the tables of `Image`.
-/

namespace Sys2Proof.Machine

/-- One section of a station image: the header of R118 and its body. -/
structure Section where
  type   : Nat
  format : Nat
  count  : Nat
  size   : Nat
  crc    : Nat
  body   : List Byte
deriving DecidableEq, Repr

/-- The sections of a content, in order; `none` where a header or a body is cut short. -/
def readSections : Nat → List Byte → Option (List Section)
  | _, [] => some []
  | 0, _ => none
  | fuel + 1, bs =>
    let count := leAt bs 4 4
    let size := leAt bs 8 4
    if bs.length < 16 + count * size then none
    else (readSections fuel (bs.drop (16 + count * size))).map
      fun r => ⟨leAt bs 0 2, leAt bs 2 2, count, size, leAt bs 12 4, (bs.drop 16).take (count * size)⟩ :: r

/-- The section types with entry size, least and greatest number of entries. -/
def sectionTable : List (Nat × Nat × Nat × Nat) :=
  [(0x0101, 32, 8192, 8192), (0x0102, 48, 4096, 4096), (0x0103, 4, 1, 1048576), (0x0104, 512, 4096, 4096),
   (0x0105, 528, 1, 64), (0x0106, 4, 64, 64), (0x0201, 16, 1, 16384), (0x0202, 12, 1, 16384), (0x0203, 40, 4096, 4096),
   (0x0204, 2, 0, 65535), (0x0301, 16, 1, 1), (0x0401, 16, 24, 24), (0x0402, 16, 0, 262144), (0x0403, 4, 0, 1048576)]
  ++ [(0x0404, 16, 1, 1), (0x0501, 16, 1, 512), (0x0502, 4, 16, 16), (0x0503, 4, 64000, 64000), (0x0504, 24, 0, 64),
   (0x0601, 16, 64, 64), (0x0701, 32, 64, 64), (0x0801, 16, 2, 2), (0x0802, 4, 16, 16), (0x0803, 32, 1, 32),
   (0x0A01, 8, 0, 64), (0x0B01, 12, 0, 16384), (0x0B02, 32, 1, 1), (0x0C01, 136, 0, 16)]

/-- A section is of a defined type, format, entry size and number, and passes its CRC-32C. -/
def Section.ok (s : Section) : Bool :=
  s.format = 1 && (crc32c s.body).toNat = s.crc
    && sectionTable.any fun t => t.1 = s.type && t.2.1 = s.size && t.2.2.1 ≤ s.count && s.count ≤ t.2.2.2

/-- Strictly rising numbers. -/
def rising : List Nat → Bool
  | [] => true
  | [_] => true
  | x :: y :: r => x < y && rising (y :: r)

/-- The section rules: every section right, in ascending type, none missing, none twice (R118, R417). -/
def sectionsOk (l : List Section) : Bool :=
  rising (l.map Section.type) && l.all Section.ok && sectionTable.all fun t => l.any fun s => s.type = t.1

/-- A list cut into pieces of n. -/
def chunks (n : Nat) : Nat → List Byte → List (List Byte)
  | 0, _ => []
  | k + 1, bs => bs.take n :: chunks n k (bs.drop n)

/-- The entries of the section of a type; none where it is missing. -/
def entriesOf (l : List Section) (type : Nat) : List (List Byte) :=
  match l.find? fun s => s.type = type with
  | some s => chunks s.size s.count s.body
  | none => []

/-- A 16-bit reference, 0xFFFF for none. -/
def ref16 (bs : List Byte) (ofs : Nat) : Option Nat :=
  let v := leAt bs ofs 2
  if v = 0xFFFF then none else some v

/-- SRC and SINK (R119). -/
def placeOf (v : Nat) : Place :=
  if v < 512 then .node v else if 0x8000 ≤ v ∧ v < 0x8040 then .chan (v - 0x8000) else .nowhere

/-- A pool entry (R122). -/
def poolEntryOf (w : Nat) : PoolEntry := ⟨bits w 12 0, bits w 14 13, bitOf w 15, bits w 22 16⟩

/-- The pool entries from an index on. -/
def poolSlice (pool : List Nat) (idx len : Nat) : List PoolEntry := ((pool.drop idx).take len).map poolEntryOf

/-- A flank list as its entries, each a list of alternatives (R122). -/
def flankEntries : List PoolEntry → List (List PoolEntry)
  | [] => []
  | e :: r =>
    if e.lastAlt then [e] :: flankEntries r
    else match flankEntries r with
      | [] => [[e]]
      | f :: fs => (e :: f) :: fs

def elemOf (pool : List Nat) (e : List Byte) : Option ElemDef :=
  (Kind.ofCode (byteAt e 0)).map fun k =>
    { kind := k, cls := byteAt e 1, area := byteAt e 2, openAtRestart := bitOf (byteAt e 3) 0
      src := placeOf (leAt e 4 2), srcOfs := byteAt e 6, srcBit := byteAt e 7
      sink := placeOf (leAt e 8 2), sinkOfs := byteAt e 10, sinkBit := byteAt e 11
      preset := leAt e 12 2, homeTs := ref16 e 14, ky := ref16 e 16, sa := ref16 e 18, ez := ref16 e 20
      list := (poolSlice pool (leAt e 22 4) (leAt e 26 2)).map fun p => (p.object, p.pos) }

/-- A table: the entries of a list by index, those left out that a reader does not take. -/
def tabOf {α β : Type} (l : List α) (f : α → Option β) : Tab β := l.zipIdx.filterMap fun p => (f p.1).map fun b => (p.2, b)

def routeOf (pool : List Nat) (elems : Tab ElemDef) (e : List Byte) : Option RouteDef :=
  let fl := leAt e 0 2
  if bitOf fl 0 then
    let ov := ref16 e 6
    some
      { permanent := bitOf fl 1, acMode := bits fl 3 2, exitAtBb := bitOf fl 4, entry := leAt e 2 2, exit := leAt e 4 2
        overlap := ov, path := poolSlice pool (leAt e 8 4) (byteAt e 12)
        ovList := match ov with
          | some o => ((Tab.get? elems o).map ElemDef.list).getD []
          | none => []
        flank := flankEntries (poolSlice pool (leAt e 16 4) (byteAt e 13))
        row := byteAt e 14, appr := (poolSlice pool (leAt e 20 4) (byteAt e 15)).map PoolEntry.object
        apprTs := ref16 e 24, tApprCtrl := leAt e 26 2, tApprLock := leAt e 28 2, tStore := leAt e 30 2
        tEmerg := leAt e 32 2, saOwner := ref16 e 34 }
  else none

/-- The numbers of the set bits of a byte string (R123). -/
def setBits (bs : List Byte) : List Nat :=
  bs.zipIdx.flatMap fun p => (List.range 8).filterMap fun k => if p.1.getLsbD k then some (8 * p.2 + k) else none

def conflictOf (e : List Byte) : Option (List Nat) :=
  match setBits e with
  | [] => none
  | l => some l

def classOf (e : List Byte) : AspectClass :=
  ⟨byteAt e 0, byteAt e 1, (chunks 16 (byteAt e 2) (e.drop 16)).map fun r => r.map BitVec.toNat⟩

def vertexOf (e : List Byte) : Option Vertex :=
  (match byteAt e 0 with
   | 1 => some VKind.joint
   | 2 => some VKind.point
   | 3 => some VKind.buffer
   | 4 => some VKind.boundary
   | _ => none).map fun k => ⟨k, ref16 e 2, [ref16 e 4, ref16 e 6, ref16 e 8], ref16 e 10, ref16 e 12⟩

def pieceOf (e : List Byte) : Piece := ⟨leAt e 0 2, leAt e 2 2, leAt e 4 2, byteAt e 6, byteAt e 7, ref16 e 8⟩

def graphOf (xc : List Nat) (e : List Byte) : Option GraphRoute :=
  let g := byteAt e 15
  if bitOf g 4 then
    some
      { entryV := leAt e 0 2, exitV := leAt e 2 2, ovEndV := ref16 e 4, ovId := ref16 e 6, choices := leAt e 8 4
        nChoice := byteAt e 12, ovChoices := byteAt e 13, ovNChoice := byteAt e 14, down := bitOf g 0, acMode := bits g 2 1
        permanent := bitOf g 3, apprTs := ref16 e 16, row := byteAt e 18, apprN := byteAt e 19, tApprCtrl := leAt e 20 2
        tApprLock := leAt e 22 2, tStore := leAt e 24 2, tEmerg := leAt e 26 2, xc := (xc.drop (leAt e 28 2)).take (leAt e 30 2)
        saOwner := ref16 e 32 }
  else none

def taskOf (e : List Byte) : Option TaskDef :=
  if byteAt e 0 = 0 then none
  else some ⟨byteAt e 0, byteAt e 1, leAt e 2 2, leAt e 4 2, byteAt e 6, leAt e 8 4, leAt e 12 4⟩

def blockOf (inputs : List Nat) (e : List Byte) : BlockDef :=
  ⟨leAt e 0 4, byteAt e 4, byteAt e 5, bitOf (byteAt e 7) 0, bits (byteAt e 7) 3 1, byteAt e 6, (inputs.drop (leAt e 8 4)).take (byteAt e 6),
   leAt e 12 4⟩

/-- A node port of a satellite, 0xFF for none (R195). -/
def satOf (v : Nat) : Option Nat := if v = 0xFF then none else some v

def nodeOf (e : List Byte) : NodeDef :=
  ⟨leAt e 0 2, byteAt e 2, byteAt e 3, satOf (byteAt e 4), satOf (byteAt e 5), bitOf (byteAt e 6) 0, byteAt e 7, byteAt e 8,
   byteAt e 9, none⟩

/-- A late-comer (R233): its eight-byte KEY_DIGEST stands last. -/
def latecomerOf (e : List Byte) : NodeDef :=
  ⟨leAt e 0 2, byteAt e 2, byteAt e 3, satOf (byteAt e 4), satOf (byteAt e 5), false, byteAt e 6, byteAt e 7, byteAt e 8,
   some ((e.drop 16).take 8)⟩

def chOf (e : List Byte) : ChDef :=
  let c0 := leAt e 0 4
  let c1 := leAt e 4 4
  { mode := match bits c0 2 0 with
      | 1 => .input
      | 2 => .output
      | 3 => .count
      | _ => .unused
    vital := bitOf c0 3, hold := bitOf c0 4, type3 := bitOf c0 5, dynamic := bitOf c0 6, restHigh := bitOf c0 7
    pair := match bits c0 9 8 with
      | 1 => .equivalent
      | 2 => .antivalent
      | 3 => .neither
      | _ => .none
    debounce := bits c0 30 16, discrepancy := bits c1 12 0, silent := bits c1 18 13, testPeriod := bits c1 25 19
    pulse := bits c1 31 26 }

def supOf (e : List Byte) : Option SupDef :=
  if byteAt e 0 = 0 then none
  else some
    { remote := byteAt e 0 = 2, srUsed := bitOf (byteAt e 1) 0, point := leAt e 2 2, enCh := byteAt e 4, srCh := byteAt e 5
      progCh := byteAt e 6, node := leAt e 8 2, progOfs := byteAt e 10, cmdOfs := byteAt e 11, cmdBit := byteAt e 12
      tStart := byteAt e 13, floor := leAt e 14 2, still := leAt e 16 2, margin := leAt e 18 2, tDec := leAt e 20 2
      tDecMax := leAt e 22 2, tFloor := byteAt e 24 }

def portOf (e : List Byte) : PortDef := ⟨leAt e 0 4, bits (leAt e 4 2) 11 0, bits (leAt e 4 2) 14 12⟩

def sourceOf (e : List Byte) : SourceDef :=
  ⟨leAt e 0 2, leAt e 2 4, leAt e 6 4, leAt e 10 2, leAt e 12 2, leAt e 14 2, bitOf (byteAt e 16) 0⟩

def boundOf (e : List Byte) : BoundaryDef := ⟨leAt e 0 2, leAt e 2 2, byteAt e 4, leAt e 6 2⟩

def snapOf (e : List Byte) : SnapDef :=
  ⟨leAt e 0 2, byteAt e 2, leAt e 4 2, (chunks 4 (byteAt e 3) (e.drop 8)).map ofLe⟩

def migrationOf (e : List Byte) : MapEntry := ⟨byteAt e 0 = 2, byteAt e 1 = 1, leAt e 4 4, leAt e 8 4⟩

/-- The declarations of R118 (evaluation), R151 (sheets) and R423 (image). -/
def declOf (ev sheet im : List Byte) : Declaration :=
  { changed := BitVec.ofNat 64 (leAt im 0 8), sid := byteAt im 8, duplex := byteAt im 9 = 1, degradedStart := bitOf (byteAt im 10) 0
    recorderRequired := bitOf (byteAt im 10) 1, degradedMin := leAt im 12 2, partnerMinors := BitVec.ofNat 32 (leAt im 16 4)
    peakWork := leAt ev 0 4, worstCase := leAt ev 4 4, minLevel := byteAt ev 8, sheetVersion := leAt sheet 0 4 }

/-- The image that a list of sections spells. -/
def imageOf (l : List Section) : Image :=
  let pool := (entriesOf l 0x0103).map ofLe
  let xc := (entriesOf l 0x0204).map ofLe
  let inputs := (entriesOf l 0x0403).map ofLe
  let elems := tabOf (entriesOf l 0x0101) (elemOf pool)
  let nodes := (entriesOf l 0x0501).map nodeOf
  { elems := elems
    routes := tabOf (entriesOf l 0x0102) (routeOf pool elems)
    conflict := tabOf (entriesOf l 0x0104) conflictOf
    classes := tabOf (entriesOf l 0x0105) fun e => some (classOf e)
    areas := tabOf (entriesOf l 0x0106) fun e => some (leAt e 0 2)
    vertices := tabOf (entriesOf l 0x0201) vertexOf
    pieces := tabOf (entriesOf l 0x0202) fun e => some (pieceOf e)
    graph := tabOf (entriesOf l 0x0203) (graphOf xc)
    tasks := tabOf (entriesOf l 0x0401) taskOf
    blocks := tabOf (entriesOf l 0x0402) fun e => some (blockOf inputs e)
    nodes := tabOf (nodes ++ (entriesOf l 0x0504).map latecomerOf) some
    nodeCount := nodes.length
    ages := tabOf (entriesOf l 0x0502) fun e => some (leAt e 0 2)
    slots := tabOf (entriesOf l 0x0503) fun e => if ofLe e = 0 then none else some (BitVec.ofNat 32 (ofLe e))
    chans := tabOf (entriesOf l 0x0601) fun e => some (chOf e)
    sups := tabOf (entriesOf l 0x0701) supOf
    ports := tabOf (entriesOf l 0x0801) fun e => some (portOf e)
    queues := tabOf (entriesOf l 0x0802) fun e => some (byteAt e 0)
    sources := (entriesOf l 0x0803).map sourceOf
    bounds := (entriesOf l 0x0A01).map boundOf
    snaps := (entriesOf l 0x0C01).map snapOf
    migration := (entriesOf l 0x0B01).map migrationOf
    decl := declOf ((entriesOf l 0x0301).headD []) ((entriesOf l 0x0404).headD []) ((entriesOf l 0x0B02).headD []) }

/-! ### The flacon (R414–R416) -/

/-- The flacon bytes that the transfer blocks of a slot carry: 4 092 of each block's 4 096 (R415). -/
def Slot.flacon (s : Slot) : List Byte :=
  (List.range s.blocks).flatMap fun i =>
    ((List.range 8).flatMap fun p => padTo 512 (Tab.getD s.parts (8 * i + p) [])).take 4092

/-- One block as transferred. -/
def Slot.block (s : Slot) (i : Nat) : List Byte := (List.range 8).flatMap fun p => padTo 512 (Tab.getD s.parts (8 * i + p) [])

/-- The flacon header (R416). -/
structure FlaconHdr where
  magic : Nat
  format : Nat
  type : Nat
  nsig : Nat
  version : Nat
  romMin : Nat
  romMax : Nat
  romExact : Nat
  iface : Nat
  len : Nat
  minor : Nat
  target : Nat
  reserved : Nat
deriving DecidableEq, Repr

def flaconHdr (f : List Byte) : FlaconHdr :=
  ⟨leAt f 0 4, leAt f 4 2, byteAt f 6, byteAt f 7, leAt f 8 4, byteAt f 12, byteAt f 13, byteAt f 14, byteAt f 15, leAt f 16 4,
   byteAt f 20, byteAt f 21, ofLe ((f.drop 22).take 10)⟩

/-- The content of a flacon, its DIGEST, and its signature entries as (slot, signature). -/
def flaconContent (f : List Byte) : List Byte := (f.drop 32).take (flaconHdr f).len

def flaconDigest (f : List Byte) : List Byte := (f.drop (32 + (flaconHdr f).len)).take 64

def flaconSigs (f : List Byte) : List (Nat × List Byte) :=
  (chunks 68 (flaconHdr f).nsig (f.drop (96 + (flaconHdr f).len))).map fun e => (byteAt e 0, (e.drop 4).take 64)

/-- The sections of the station image a slot holds, where they can be told apart. -/
def Slot.sections (s : Slot) : Option (List Section) :=
  let c := flaconContent s.flacon
  readSections c.length c

/-- The port, queue and source tables alone pass their CRCs (R299). -/
def Slot.tablesOk (s : Slot) : Bool :=
  s.type = 1 && match s.sections with
    | some l => [0x0801, 0x0802, 0x0803].all fun t => (l.filter fun x => x.type = t).length = 1
        && (l.find? fun x => x.type = t).any Section.ok
    | none => false

/-- The port, queue and source tables of a slot alone, where they pass their CRCs (R299, R435). -/
def Slot.tables (s : Slot) : Option Image :=
  if s.tablesOk then s.sections.map fun l =>
    let i := imageOf (l.filter fun x => x.type = 0x0801 || x.type = 0x0802 || x.type = 0x0803)
    { Image.empty with ports := i.ports, queues := i.queues, sources := i.sources }
  else none

end Sys2Proof.Machine
end

