-- ==== Sys2Proof/Machine/Blocks.lean ====
section
/-!
DEFINITION. The block set of the logic sheets as data: inputs, output types and charges of R157, the types of reference words
(R154, R155), and the schedulability test of R175.
-/

namespace Sys2Proof.Machine

/-- What R157 says of a block type: least and greatest number of inputs, and whether it can be retained. -/
def blockInputs (type : Nat) : Option (Nat × Nat) :=
  match type with
  | 0x01 => some (1, 1)
  | 0x02 | 0x03 | 0x04 => some (2, 16)
  | 0x05 | 0x06 => some (2, 2)
  | 0x07 | 0x08 | 0x09 | 0x0A | 0x0B => some (1, 1)
  | 0x0C | 0x0D => some (2, 2)
  | 0x10 | 0x11 | 0x12 | 0x13 | 0x14 | 0x15 => some (2, 2)
  | 0x18 => some (3, 9)
  | 0x20 | 0x21 => some (0, 0)
  | 0x22 | 0x23 => some (1, 1)
  | 0x28 => some (1, 9)
  | 0x29 => some (0, 0)
  | 0x2A | 0x2B => some (1, 1)
  | _ => none

/-- The ROM charge of a block (R157). -/
def blockCharge (type nin : Nat) : Nat :=
  match type with
  | 0x01 => 2
  | 0x02 | 0x03 | 0x04 => 2 + nin
  | 0x05 | 0x06 | 0x2A | 0x2B => 4
  | 0x07 | 0x08 => 3
  | 0x09 | 0x0A | 0x0B => 8
  | 0x0C | 0x0D | 0x20 | 0x21 => 6
  | 0x10 | 0x11 | 0x12 | 0x13 | 0x14 | 0x15 => 4
  | 0x18 => 4 + nin
  | 0x22 | 0x23 => 10
  | 0x28 | 0x29 => 40
  | _ => 0

/-- Value types, by the DTYPE codes: 0 BOOL, 1 UINT, 2 DINT, 3 TIME. -/
def tBool : Nat := 0
def tUint : Nat := 1
def tDint : Nat := 2
def tTime : Nat := 3

/-- The type of a block's output; none where it has no such output (R157). -/
def outType (b : BlockDef) (n : Nat) : Option Nat :=
  match b.type, n with
  | 0x09, 1 | 0x0A, 1 | 0x0B, 1 => some tTime
  | 0x0C, 1 | 0x0D, 1 => some tDint
  | 0x18, 0 => some b.dtype
  | 0x2B, 0 => some b.dtype
  | 0x20, 1 | 0x21, 1 | 0x22, 1 | 0x23, 1 => some tUint
  | 0x29, 1 => some tUint
  | 0x29, k => if k = 0 then some tBool else if k ≤ 9 then some tDint else none
  | _, 0 => some tBool
  | _, _ => none

/-- The type that an input takes; none for the data inputs of MSG_SEND, which take any (R157, R167). -/
def inType (b : BlockDef) (i : Nat) : Option Nat :=
  match b.type with
  | 0x10 | 0x11 | 0x12 | 0x13 | 0x14 | 0x15 | 0x2B => some b.dtype
  | 0x18 => some (if i = 0 then tUint else b.dtype)
  | 0x28 => if i = 0 then some tBool else none
  | _ => some tBool

/-- Whether a reference word suits an input of a type, the word's source standing in the image (R154, R155). -/
def refFits (img : Image) (w : Nat) (want : Option Nat) : Bool :=
  let neg := bitOf w 27
  let is (t : Nat) := want.all (· = t)
  match w / 2 ^ 28 with
  | 0x0 =>
    bits w 26 22 = 0 && match Tab.get? img.blocks (bits w 17 0) with
      | some b => match outType b (bits w 21 18) with
        | some t => is t && (!neg || t = tBool)
        | none => false
      | none => false
  | 0x1 => !neg || want = some tBool
  | 0x2 =>
    bits w 26 7 = 0 && match Tab.get? img.chans (bits w 5 0) with
      | some c =>
        if bitOf w 6 then c.mode = .count && !neg && (is tDint || is tTime)
        else (c.mode = .input || c.mode = .output) && is tBool
      | none => false
  | 0x3 =>
    let width := bits w 23 19 + 1
    bits w 26 24 = 0 && bits w 15 9 ≤ 91 && 8 * bits w 15 9 + bits w 18 16 + width ≤ 736
      && (match Tab.get? img.nodes (bits w 8 0) with
          | some n => 8 * bits w 15 9 + bits w 18 16 + width ≤ 8 * (n.upLen - 5)
          | none => false)
      && (if width = 1 then is tBool else !neg && !(want = some tBool) && !(want = some tUint && 16 < width))
  | 0x6 =>
    match bits w 7 0 with
    | 0 | 2 => bits w 26 8 = 0 && is tBool
    | 1 => bits w 26 8 = 0 && is tTime && !neg
    | 3 => bits w 26 17 = 0 && is tBool && (Tab.get? img.nodes (bits w 16 8)).isSome
    | _ => false
  | _ => false

/-- The rule that a block's PARAM obeys (R157, R162, R163, R166, R167). -/
def paramFits (img : Image) (b : BlockDef) : Bool :=
  let p := b.param
  match b.type with
  | 0x09 | 0x0A | 0x0B => p ≤ 0x00FFFFFF
  | 0x0C | 0x0D => true
  | 0x20 => p < 2 ^ 21 && (Tab.get? img.elems (bits p 12 0)).isSome
  | 0x21 => p < 2 ^ 17 && (Tab.get? img.routes (bits p 11 0)).isSome
  | 0x22 => p < 2 ^ 15 && (Tab.get? img.routes (bits p 11 0)).isSome && 1 ≤ bits p 14 12 && bits p 14 12 ≤ 5
  | 0x23 =>
    p < 2 ^ 17 && match Tab.get? img.elems (bits p 12 0) with
      | some e => match bits p 16 13 with
        | 1 | 2 | 3 => e.kind = .pt || e.kind = .de
        | 4 => e.kind = .ts
        | 5 => e.kind = .sg || e.kind = .ez
        | 6 | 7 => e.kind = .lx
        | _ => false
      | none => false
  | 0x28 => p < 2 ^ 19
  | 0x29 => p < 2 ^ 16
  | 0x2A => p < 8
  | 0x2B =>
    match bits p 31 30 with
    | 0 => p % 2 ^ 30 < 64 && (Tab.get? img.chans (bits p 5 0)).any fun c => c.mode = .output && !c.vital
    | 1 => bits p 29 24 = 0 && (Tab.get? img.nodes (bits p 8 0)).isSome && bits p 15 9 ≤ 91
    | _ => false
  | _ => p = 0

/-! ### Destinations of APP_OUT (R166) -/

/-- The destination that a PARAM names: a local channel and its number; or a node, the first bit of its command field and the width. -/
def appPlace (p : Nat) : Bool × Nat × Nat × Nat :=
  if bits p 31 30 = 0 then (true, bits p 5 0, 0, 0)
  else (false, bits p 8 0, 8 * bits p 15 9 + bits p 18 16, bits p 23 19 + 1)

def overlaps (a la b lb : Nat) : Bool := a < b + lb && b < a + la

/-- Two destinations have a place in common. -/
def placesMeet (p q : Nat) : Bool :=
  let a := appPlace p
  let b := appPlace q
  a.1 = b.1 && a.2.1 = b.2.1 && (a.1 || overlaps a.2.2.1 a.2.2.2 b.2.2.1 b.2.2.2)

/-- A destination takes a value; an older one that shares a place with it is gone. -/
def putPlace (t : Tab Nat) (p v : Nat) : Tab Nat := Tab.put (t.filter fun q => q.1 = p || !placesMeet p q.1) p v

/-! ### Work of a tick (R34, R56, R135, R173) -/

/-- The quantum of a tick (R34), and what a self-test slice costs (R56). -/
def tickQuantum : Nat := 40000
def sliceWork : Nat := 15000

/-- Application work that a tick allows (R173). -/
def tickBudget (tick : Nat) : Nat := if tick = 9 then 15000 else if 3 ≤ tick && tick ≤ 8 then 30000 else 0

/-- The blocks of a task, in evaluation order, as (index, block). -/
def Image.taskBlocks (img : Image) (task : Nat) : List (Nat × BlockDef) := img.blocks.filter fun p => p.2.task = task

def State.taskSt (s : State) (t : Nat) : TaskSt := Tab.getD s.sheets.tasks t .idle

def State.modTask (s : State) (t : Nat) (f : TaskSt → TaskSt) : State :=
  { s with sheets := { s.sheets with tasks := Tab.put s.sheets.tasks t (f (s.taskSt t)) } }

/-- Tasks that are ready. -/
def State.readyTasks (s : State) : List Nat := (s.sheets.tasks.filter fun p => p.2.ready && !p.2.running).map Prod.fst

/-- Tasks run in OPERATE only (R170), and from tick 3 on once the cycle's resolved vector exists (R162). -/
def State.tasksRun (s : State) : Bool := s.mod.mode = .operate && 3 ≤ s.acc.tick && s.ixl.cmpDone

/-- The charge of the next step of the run in progress: its next block, or its completion (R173). -/
def State.nextCharge (s : State) (t : Nat) : Nat :=
  match (s.image.blocks.filter fun p => p.2.task = t)[(s.taskSt t).next]? with
  | some p => blockCharge p.2.type p.2.inputs.length
  | none => 40

/-- Application work that the tick's budget still allows stands before the lanes (R34, R173). -/
def State.sheetWorkLeft (s : State) : Bool :=
  s.tasksRun && match s.sheets.current with
    | some t => s.sheets.charged + s.nextCharge t ≤ tickBudget s.acc.tick
    | none => !(s.readyTasks ++ s.sheets.preempted).isEmpty && s.sheets.charged + 40 ≤ tickBudget s.acc.tick

/-- Work of the tick is left that its quantum holds: the evaluation and the graph solver in ticks 0 to 2, the comparison and the
application tasks from tick 3 on (R34, R56). -/
def State.workLeft (s : State) : Bool :=
  s.mod.mode.cycles &&
    if s.acc.tick < 3 then s.acc.isOpen || s.ixl.phase = 1 || (s.ixl.phase = 6 && !s.ixl.graphDone && s.ixl.graphLeft ≤ tickQuantum)
    else (s.ixl.phase = 6 && !s.ixl.cmpDone) || s.sheetWorkLeft

/-- Work units charged so far in the tick whose constants the spec gives: the graph solver's, the application's, the slice's. -/
def State.knownWork (s : State) : Nat :=
  if !s.mod.mode.cycles then 0
  else if s.acc.tick < 3 then (if s.ixl.phase = 6 then min tickQuantum s.ixl.graphLeft else 0)
  else s.sheets.charged + (if s.acc.sliced then sliceWork else 0)

/-- A task's work per run (R175). -/
def Image.taskWork (img : Image) (task : Nat) : Nat :=
  (img.taskBlocks task).foldl (fun n p => n + blockCharge p.2.type p.2.inputs.length) 80

/-- Whether periodic or event task j ranks above task i (R172). -/
def Image.ranksAbove (img : Image) (j i : Nat) : Bool :=
  match Tab.get? img.tasks j, Tab.get? img.tasks i with
  | some a, some b =>
    if a.kind = 2 ∧ b.kind = 2 then j < i
    else if a.kind = 2 then true
    else if b.kind = 2 then false
    else b.prio < a.prio || (a.prio = b.prio && j < i)
  | _, _ => false

/-- A least fixed point sought by iteration, given up beyond a bound (R175). -/
def fixpoint (bound : Nat) (f : Nat → Nat) : Nat → Nat → Bool
  | 0, _ => false
  | n + 1, r => if bound < r then false else if f r = r then true else fixpoint bound f n (f r)

def ceilDiv (a b : Nat) : Nat := (a + b - 1) / b

/-- The test of R175, with C = 190 000 work units. -/
def Image.schedulable (img : Image) : Bool :=
  let c := 190000
  let evs := img.tasks.filter fun p => p.2.kind = 2
  let pers := img.tasks.filter fun p => p.2.kind = 1
  let w (t : Nat) := img.taskWork t
  let above (i : Nat) (l : Tab TaskDef) := l.filter fun p => img.ranksAbove p.1 i
  evs.all (fun e =>
    let below := evs.filter fun p => img.ranksAbove e.1 p.1
    let block := below.foldl (fun m p => max m (w p.1)) 0
    fixpoint c (fun r => w e.1 + block + (above e.1 evs).foldl (fun n p => n + ceilDiv r c * w p.1) 0) (c + 2) (w e.1))
  && pers.all fun i =>
    fixpoint (i.2.period * c)
      (fun r => w i.1 + (above i.1 pers).foldl (fun n p => n + ceilDiv r (p.2.period * c) * w p.1) 0
        + evs.foldl (fun n p => n + ceilDiv r c * w p.1) 0)
      (i.2.period * c + 2) (w i.1)

end Sys2Proof.Machine
end

