-- ==== Sys2Proof/Machine/Verify.lean ====
section
/-!
DEFINITION. The checks of a flacon: R421 step by step, with the key bank (R418, R419), the levels (R422), the section rules
(R118) and every rule by which "the module refuses the image at verify".
-/

namespace Sys2Proof.Machine

/-! ### Rules of the station image -/

def within (lo hi v : Nat) : Bool := lo ≤ v && v ≤ hi

/-- No number stands twice. -/
def distinct : List Nat → Bool
  | [] => true
  | x :: r => !r.contains x && distinct r

/-- The widths of a kind's input and command fields (R120); 0 where it has none. -/
def Kind.inWidth : Kind → Nat
  | .ts | .pt | .de | .lx | .ky => 2
  | .sg => 5
  | .ez | .sa => 1
  | _ => 0

def Kind.outWidth : Kind → Nat
  | .pt | .de => 2
  | .sg => 4
  | .lx | .ky | .ez => 1
  | _ => 0

/-- The range of an element's PRESET in 10 ms steps (R69). -/
def presetOk (e : ElemDef) : Bool :=
  match e.kind with
  | .ts => e.cls ≠ 0 || within 0 1000 e.preset
  | .pt | .de => within 100 3000 e.preset
  | .sg => within 10 500 e.preset
  | .lx => within 500 12000 e.preset
  | .ov => within 0 30000 e.preset
  | .bb => within 10 500 e.preset
  | _ => true

/-- A reference names an object of one of the kinds given, where it names one. -/
def Image.refKind (img : Image) (r : Option Nat) (ks : List Kind) : Bool :=
  match r with
  | none => true
  | some o => (Tab.get? img.elems o).any fun e => ks.contains e.kind

/-- An element's source suits it (R119, R240, R245). -/
def Image.srcOk (img : Image) (e : ElemDef) : Bool :=
  match e.src with
  | .node n =>
    e.srcOfs ≤ 91 && e.srcBit ≤ 7 && (Tab.get? img.nodes n).any fun d =>
      8 * e.srcOfs + e.srcBit + e.kind.inWidth ≤ 8 * (d.upLen - 5)
  | .chan c =>
    let suits (k : Nat) := (Tab.get? img.chans k).any fun d => d.mode = .input || d.mode = .output
    if e.kind.inWidth = 1 then suits c
    else e.kind.inWidth = 2 && c % 2 = 0 && suits c && suits (c + 1)
  | .nowhere => true

/-- An element's sink suits it (R119, R245, R246). -/
def Image.sinkOk (img : Image) (e : ElemDef) : Bool :=
  match e.sink with
  | .node n => e.sinkOfs ≤ 91 && e.sinkBit ≤ 7 && (Tab.get? img.nodes n).isSome
  | .chan c =>
    e.sinkOfs = 0 && e.sinkBit = 0 && c + e.kind.outWidth ≤ 64
      && (List.range e.kind.outWidth).all fun i => (Tab.get? img.chans (c + i)).any fun d => d.mode = .output && d.vital
  | .nowhere => true

/-- One element table entry (R119, R69). -/
def Image.elemRule (img : Image) (e : ElemDef) : Bool :=
  (match e.kind with
   | .ts => e.cls ≤ 1
   | .sg => (Tab.get? img.classes e.cls).isSome
   | .pt | .de => e.cls ≤ 1
   | _ => e.cls = 0)
  && e.area ≤ 63 && (!e.openAtRestart || e.kind = .lx) && presetOk e && img.srcOk e && img.sinkOk e
  && (match e.kind with
      | .pt | .de | .sg => img.refKind e.homeTs [.ts]
      | _ => e.homeTs = none)
  && img.refKind e.ky [.ky] && img.refKind e.sa [.sa] && img.refKind e.ez [.ez]
  && e.list.length ≤ 96
  && (match e.kind with
      | .ov => e.list.length ≤ 16 && e.list.all fun p => img.refKind (some p.1) [.ts, .pt, .de]
      | .ez | .sa => e.list.all fun p => img.refKind (some p.1) [.sg]
      | .bb => e.list.all fun p => img.refKind (some p.1) [.ts]
      | _ => true)

/-- The raw codes of the element table: no reserved KIND, places coded as R119 says (R6, R119). -/
def elemCodes (l : List Section) : Bool :=
  let place (v : Nat) := v < 512 || within 0x8000 0x803F v || v = 0xFFFF
  (entriesOf l 0x0101).all fun e =>
    byteAt e 0 ≤ 0x0B && (byteAt e 0 = 0 || (place (leAt e 4 2) && place (leAt e 8 2) && leAt e 26 2 ≤ 96))

/-- Positions in a path or flank list: 1 or 2 for sections and points, 0 for others (R122). -/
def Image.posOk (img : Image) (o pos : Nat) : Bool :=
  (Tab.get? img.elems o).any fun e =>
    match e.kind with
    | .ts | .pt | .de => pos = 1 || pos = 2
    | _ => pos = 0

/-- The timer ranges of a route (R69). -/
def routeTimersOk (ctrl lock store emerg : Nat) : Bool :=
  within 0 6000 ctrl && within 0 60000 lock && within 0 12000 store && within 0 60000 emerg

/-- One route table entry (R65, R69, R121, R122, R124). -/
def Image.routeRule (img : Image) (r : RouteDef) : Bool :=
  img.refKind (some r.entry) [.sg]
  && img.refKind (some r.exit) (if r.exitAtBb then [.bb] else [.sg])
  && img.refKind r.overlap [.ov]
  && r.acMode ≤ 2 && within 1 96 r.path.length && distinct (r.path.map PoolEntry.object)
  && (r.path.all fun p => img.posOk p.object p.pos)
  && (r.flank.foldl (fun n f => n + f.length) 0) ≤ 32
  && (r.flank.all fun f => f.all fun p => img.posOk p.object p.pos && img.refKind (some p.object) [.pt, .de, .sg])
  && r.ovList.length ≤ 16 && r.appr.length ≤ 8 && (r.appr.all fun t => img.refKind (some t) [.ts])
  && img.refKind r.apprTs [.ts] && img.refKind r.saOwner [.sa]
  && routeTimersOk r.tApprCtrl r.tApprLock r.tStore r.tEmerg
  && ((Tab.get? img.elems r.entry).bind fun e => Tab.get? img.classes e.cls).any fun c => r.row < c.rows.length

/-- An aspect class (R80, R124). -/
def classRule (c : AspectClass) : Bool :=
  let nonFalling : List Nat → Bool := fun row => (row.zip (row.drop 1)).all fun p => p.1 ≤ p.2
  within 1 16 c.count && c.restricted < c.count && within 1 32 c.rows.length
    && c.rows.all fun r => (r.all fun v => v < c.count) && nonFalling r

/-- The conflict matrix (R89, R123). -/
def Image.matrixRule (img : Image) : Bool :=
  img.conflict.all fun p =>
    (Tab.get? img.routes p.1).isSome && !p.2.contains p.1 && p.2.all fun j => (Tab.getD img.conflict j []).contains p.1

/-- Two flank lists with the same alternatives in the same order, tied alike. -/
def sameFlank (a b : List (List PoolEntry)) : Bool :=
  a.map (fun f => f.map fun e => (e.object, e.pos, e.tie)) = b.map fun f => f.map fun e => (e.object, e.pos, e.tie)

/-- The two forms of one route agree (R130): path elements in path order with their positions and the ties of crossings, overlap,
approach area, flank lists with order and ties, and the entry and exit that the walks run between. DESIGN CHOICE (log entry 136): at
one vertex a derailer or point comes before the signals, SG_UP before SG_DN, and the approach area is compared from the section
nearest the entry outward. -/
def Image.sameRoute (img : Image) (t g : RouteDef) : Bool :=
  let path (d : RouteDef) : List (Nat × Nat × Nat) :=
    d.path.map fun e => (e.object, e.pos, if img.isKind .lx e.object then e.tie else 0x7F)
  path t = path g && t.overlap = g.overlap && t.ovList = g.ovList && t.appr = g.appr && sameFlank t.flank g.flank
  && t.entry = g.entry && t.exit = g.exit && t.exitAtBb = g.exitAtBb

/-- The routes of the graph form. -/
def Image.derivedRoutes (img : Image) : Tab Derived := Tab.mapV img.graph fun _ g => img.derive g

/-- The graph form against the table form: routes, limits, and the conflict relation (R65, R130). -/
def Image.graphRule (img : Image) : Bool :=
  let d := img.derivedRoutes
  Tab.keys img.routes = Tab.keys img.graph
  && (img.graph.all fun p => p.2.nChoice ≤ 32 && p.2.ovNChoice ≤ 8 && p.2.apprN ≤ 8 && p.2.acMode ≤ 2
      && routeTimersOk p.2.tApprCtrl p.2.tApprLock p.2.tStore p.2.tEmerg)
  && (d.all fun p => p.2.ok && within 1 96 p.2.def_.path.length
      && (Tab.get? img.routes p.1).any fun t => img.sameRoute t p.2.def_)
  && (img.graph.all fun p => img.graph.all fun q =>
      p.1 = q.1 || (match Tab.get? d p.1, Tab.get? d q.1 with
        | some a, some b => img.graphConflict p.1 q.1 p.2 q.2 a.def_ b.def_ = (Tab.getD img.conflict p.1 []).contains q.1
        | _, _ => false))

/-- The largest n numbers of a list, added up. -/
def sumLargest (n : Nat) (l : List Nat) : Nat :=
  let sorted := (sortInt (l.map Int.ofNat)).reverse
  (sorted.take n).foldl (fun a x => a + x.toNat) 0

/-- The declared worst case of the graph solver (R135). -/
def Image.worstCase (img : Image) : Nat := 33538 + sumLargest 1024 (img.derivedRoutes.vals.map Derived.cost)

/-- The declarations (R37, R118, R135, R423). -/
def Image.declRule (img : Image) (l : List Section) : Bool :=
  let im := (entriesOf l 0x0B02).headD []
  let d := img.decl
  d.peakWork ≤ 40000 && d.worstCase ≤ 110000 && d.worstCase = img.worstCase && d.minLevel ≤ 2
    && byteAt im 9 ≤ 1 && byteAt im 10 < 4 && d.sid ≤ 63 && within 10 4320 d.degradedMin

/-- The migration map (R424). -/
def Image.mapRule (img : Image) (old : Option Image) (l : List Section) : Bool :=
  let m := img.migration
  let news (r : Bool) := (m.filter fun e => e.isRoute = r).map MapEntry.new
  let olds (r : Bool) := (m.filter fun e => e.isRoute = r).map MapEntry.old
  ((entriesOf l 0x0B01).all fun e => (byteAt e 0 = 1 || byteAt e 0 = 2) && byteAt e 1 ≤ 1)
  && distinct (news true) && distinct (news false) && distinct (olds true) && distinct (olds false)
  && m.all fun e =>
      if e.isRoute then (Tab.get? img.routes e.new).isSome
      else match Tab.get? img.elems e.new with
        | none => false
        | some n => match old with
          | none => true
          | some o => (Tab.get? o.elems e.old).all fun x => x.kind = n.kind

/-- The task table (R152). -/
def Image.taskRule (img : Image) (l : List Section) : Bool :=
  ((entriesOf l 0x0401).zipIdx.all fun p => byteAt p.1 0 ≤ 2 && byteAt p.1 6 ≤ 5
    && !(byteAt p.1 0 = 1 && 16 ≤ p.2) && !(byteAt p.1 0 = 2 && p.2 < 16))
  && img.tasks.all fun p =>
      if p.2.kind = 1 then p.2.prio ≤ 15 && within 1 1000 p.2.period && p.2.phase < p.2.period && p.2.evSrc = 0 && p.2.evOp = 0
      else p.2.prio = 0 && p.2.period = 0 && p.2.phase = 0
        && match p.2.evSrc with
          | 0 => p.2.evOp = 0
          | 1 => (Tab.get? img.routes p.2.evOp).isSome
          | 2 => (Tab.get? img.elems p.2.evOp).isSome
          | 3 => p.2.evOp < 65536
          | 4 => (Tab.get? img.chans p.2.evOp).any fun c => c.mode = .input || c.mode = .output
          | _ => p.2.evOp / 2 ^ 28 = 3 && refFits img p.2.evOp none

/-- One block of the sheets (R153, R155, R157). -/
def Image.blockRule (img : Image) (b : BlockDef) : Bool :=
  (match blockInputs b.type with
   | none => false
   | some r => r.1 ≤ b.nin && b.nin ≤ r.2 && b.inputs.length = b.nin)
  && b.id ≠ 0xFFFFFFFF && (Tab.get? img.tasks b.task).isSome
  && (!b.retain || b.type = 0x05 || b.type = 0x06 || b.type = 0x0C || b.type = 0x0D)
  && (match b.type with
      | 0x10 | 0x11 | 0x12 | 0x13 | 0x14 | 0x15 => within 1 3 b.dtype
      | 0x2B => b.dtype ≤ 1
      | _ => b.dtype ≤ 3)
  && paramFits img b
  && b.inputs.zipIdx.all fun p => refFits img p.1 (inType b p.2)

/-- The destinations of APP_OUT: a channel, or a bit range of a node's CMD payload. -/
def Image.appDest (b : BlockDef) : Bool × Nat × Nat × Nat := appPlace b.param

/-- APP_OUT drives nothing that another one, an element or a supervisor drives (R166). -/
def Image.appRule (img : Image) : Bool :=
  let outs := (img.blocks.filter fun p => p.2.type = 0x2B).map fun p => (p.1, Image.appDest p.2)
  outs.all fun o =>
    (outs.all fun q => o.1 = q.1 || (
      if o.2.1 then !q.2.1 || o.2.2.1 ≠ q.2.2.1
      else q.2.1 || o.2.2.1 ≠ q.2.2.1 || !overlaps o.2.2.2.1 o.2.2.2.2 q.2.2.2.1 q.2.2.2.2))
    && (o.2.1 || img.elems.all fun e => match e.2.sink with
        | .node n => n ≠ o.2.2.1 || !overlaps (8 * e.2.sinkOfs + e.2.sinkBit) e.2.kind.outWidth o.2.2.2.1 o.2.2.2.2
        | _ => true)

/-- The sheet set (R152–R157, R163, R166, R175). -/
def Image.sheetRule (img : Image) (l : List Section) : Bool :=
  let recv := (img.blocks.vals.filter fun b => b.type = 0x29)
  let sd := (entriesOf l 0x0404).headD []
  img.taskRule l && (img.blocks.all fun p => img.blockRule p.2) && distinct (img.blocks.vals.map BlockDef.id)
  && recv.length ≤ 1024 && (recv.foldl (fun s b => insertNat (b.param % 65536) s) []).length ≤ 1024
  && img.appRule && (img.tasks.all fun p => p.2.work = img.taskWork p.1) && img.schedulable
  && leAt sd 4 4 = img.blocks.length && leAt sd 8 4 = (img.blocks.vals.filter BlockDef.retain).length

/-- Whether the nodes on the ports of one channel obey the port and satellite rules of R195. -/
def portsRule (l : List (Nat × Option Nat)) : Bool :=
  (List.range 32).all fun p =>
    let here := (l.filter fun x => x.1 = p).map Prod.snd
    here.length ≤ 16 && (here.length ≤ 1 || here.all Option.isSome) && distinct (here.filterMap id)

/-- The node table and the late-comer list (R195, R233). -/
def Image.nodeRule (img : Image) (l : List Section) : Bool :=
  let ns := img.nodes.vals
  ns.length ≤ 512 && distinct (ns.map NodeDef.id)
  && ((entriesOf l 0x0501).all fun e => byteAt e 6 < 2)
  && (ns.filter NodeDef.syncNode).length ≤ 4
  && (ns.all fun n => n.id ≤ 0x3BF && n.portX ≤ 31 && n.portY ≤ 31 && n.satX.all (· ≤ 15) && n.satY.all (· ≤ 15)
      && n.compareN ≤ 8 && within 5 96 n.upLen && within 5 96 n.dnLen)
  && portsRule (ns.map fun n => (n.portX, n.satX)) && portsRule (ns.map fun n => (n.portY, n.satY))

/-- The data-age table (R211). -/
def Image.ageRule (img : Image) : Bool :=
  let a (i : Nat) := Tab.getD img.ages i 0
  within 20 100 (a 0) && within 20 100 (a 1) && within 20 60 (a 2) && within 20 60 (a 3) && within 20 200 (a 4)
    && within 20 40 (a 5) && within 20 1000 (a 6) && within 20 100 (a 7) && (List.range 8).all fun i => a (i + 8) = 0

/-! ### Slot tables (R196, R197, R226) -/

def slotOwner (w : Word) : Nat := bits w.toNat 9 0
def slotType (w : Word) : Nat := bits w.toNat 12 10
def slotMode (w : Word) : Nat := bits w.toNat 14 13
def slotVital (w : Word) : Bool := bitOf w.toNat 15
def slotSpareDown (w : Word) : Bool := bitOf w.toNat 16
def slotGranted (w : Word) : Bool := bitOf w.toNat 17

/-- The slots of a port that pass, as slot numbers. -/
def portSlots (bank : Tab Word) (port : Nat) (f : Word → Bool) : List Nat :=
  (bank.filter fun p => p.1 / 1000 = port && f p.2).map fun p => p.1 % 1000

/-- A schedule that neither R197 nor R226 refuses. -/
def Image.bankOk (img : Image) (bank : Tab Word) : Bool :=
  let nodes := (img.nodes.filter fun p => p.1 < img.nodeCount).map Prod.snd
  let homed (port owner : Nat) := nodes.any fun n => n.id = owner && (n.portX = port || n.portY + 32 = port)
  let ports := (nodes.map NodeDef.portX) ++ nodes.map fun n => n.portY + 32
  (bank.any fun p => slotType p.2 ≠ 0)
  && (bank.all fun p =>
    let w := p.2
    let t := slotType w
    w.toNat < 0x40000 && t ≤ 5 && slotMode w ≤ 2
    && !((t = 1 || t = 2) && slotVital w && slotMode w ≠ 1)
    && !(t = 1 && !slotVital w && slotMode w = 1)
    && !((t = 3 || t = 4 || t = 5) && slotMode w ≠ 0)
    && !((t = 1 || t = 2) && !homed (p.1 / 1000) (slotOwner w)))
  && (nodes.all fun n =>
    let ups (port : Nat) := portSlots bank port fun w => slotType w = 1 && slotVital w && slotOwner w = n.id
    let dns (port : Nat) := portSlots bank port fun w => slotType w = 2 && slotOwner w = n.id
    (ups n.portX).length = 1 && (dns n.portX).length = 1 && ups n.portX = ups (n.portY + 32) && dns n.portX = dns (n.portY + 32)
    && (List.range 1000).all fun s =>
      let wx := Tab.getD bank (1000 * n.portX + s) 0
      let wy := Tab.getD bank (1000 * (n.portY + 32) + s) 0
      wx.toNat % 65536 = wy.toNat % 65536)
  && (ports.all fun p =>
    (portSlots bank p fun w => slotType w = 4).length = 2 && 1 ≤ (portSlots bank p fun w => slotType w = 3).length)
  && (List.range 64).all fun p =>
    match portSlots bank p fun w => slotType w = 4 with
    | [] => true
    | [c, d] => d = c + 1 && slotType (Tab.getD bank (1000 * p + c + 2) 0) = 0 && c + 2 ≤ 999
    | _ => false

/-- The channel table (R244, R245). -/
def Image.chanRule (img : Image) (l : List Section) : Bool :=
  ((entriesOf l 0x0601).all fun e => bits (leAt e 0 4) 2 0 ≤ 3 && bits (leAt e 0 4) 15 10 = 0 && !bitOf (leAt e 0 4) 31)
  && img.chans.all fun p =>
    let d := p.2
    let even := p.1 % 2 = 0
    let mate := Tab.get? img.chans (if even then p.1 + 1 else p.1 - 1)
    let paired := d.pair ≠ .none || (!even && mate.any fun m => m.pair ≠ .none)
    !(d.hold && d.vital) && (even || d.pair = .none)
    && (match d.mode with
        | .unused => !d.vital && !d.hold && !d.type3 && !d.dynamic && !d.restHigh && d.pair = .none && d.debounce = 0
            && d.discrepancy = 0 && d.silent = 0 && d.testPeriod = 0 && d.pulse = 0
        | .input => !d.hold && d.silent = 0 && d.testPeriod = 0 && d.pulse = 0
            && (if d.pair = .none then d.discrepancy = 0 else within 2 5000 d.discrepancy)
        | .output => !d.type3 && !d.dynamic && d.pair = .none && d.debounce = 0 && d.discrepancy = 0 && within 2 50 d.silent
            && d.testPeriod ≤ 100 && !(d.vital && d.testPeriod = 0)
            && within 10 30 d.pulse
        | .count => !d.hold && !d.dynamic && d.debounce ≤ 5 && d.pair = .none && d.discrepancy = 0 && d.silent = 0
            && d.testPeriod = 0 && d.pulse = 0)
    && (!paired || (d.mode = .input && !d.restHigh && mate.any fun m =>
        m.mode = d.mode && m.vital = d.vital && m.type3 = d.type3 && m.dynamic = d.dynamic))

/-- The channels that a supervisor's local entry occupies. -/
def SupDef.chans (d : SupDef) : List Nat :=
  if d.remote then [] else [d.enCh, d.progCh] ++ if d.srUsed then [d.srCh] else []

/-- Channels named by an element SINK, an input reference or an APP_OUT. -/
def Image.namesChan (img : Image) (c : Nat) : Bool :=
  (img.elems.any fun e => match e.2.sink with
    | .chan n => n ≤ c && c < n + e.2.kind.outWidth
    | _ => false)
  || img.blocks.any fun b => (b.2.inputs.any fun w => w / 2 ^ 28 = 2 && bits w 5 0 = c)
    || (b.2.type = 0x2B && (Image.appDest b.2).1 && (Image.appDest b.2).2.1 = c)

/-- The supervisor table (R276, R277). -/
def Image.supRule (img : Image) (l : List Section) : Bool :=
  let raw := entriesOf l 0x0701
  (raw.all fun e => byteAt e 0 ≤ 2 && byteAt e 1 < 2 && byteAt e 7 = 0 && (e.drop 25).all (· = 0)
    && (byteAt e 0 ≠ 0 || e.all (· = 0))
    && (byteAt e 0 ≠ 1 || (leAt e 8 2 = 0xFFFF && byteAt e 10 = 0 && byteAt e 11 = 0 && byteAt e 12 = 0
        && (bitOf (byteAt e 1) 0 || byteAt e 5 = 0)))
    && (byteAt e 0 ≠ 2 || (byteAt e 1 = 0 && byteAt e 4 = 0 && byteAt e 5 = 0 && byteAt e 6 = 0)))
  && distinct (img.sups.vals.map SupDef.point)
  && (img.elems.all fun e => !((e.2.kind = .pt || e.2.kind = .de) && e.2.cls = 1) || img.sups.any fun p => p.2.point = e.1)
  && img.sups.all fun p =>
    let d := p.2
    let elem := Tab.get? img.elems d.point
    within 1 100 d.tStart && within 1 20000 d.floor && within 1 2000 d.still && d.still < d.floor && d.margin ≤ 20000
    && within 1 500 d.tDec && d.tDec ≤ d.tDecMax && d.tDecMax ≤ 1000 && within 1 50 d.tFloor
    && (elem.any fun e => (e.kind = .pt || e.kind = .de) && e.cls = 1)
    && (if d.remote then
        (Tab.get? img.nodes d.node).any (fun n => d.progOfs + 2 ≤ n.upLen - 5)
        && (elem.any fun e => e.src = .node d.node && e.sink = .node d.node)
        && d.cmdBit ≤ 7
        && (img.elems.all fun e => !(e.2.sink = .node d.node)
            || !overlaps (8 * e.2.sinkOfs + e.2.sinkBit) e.2.kind.outWidth (8 * d.cmdOfs + d.cmdBit) 2)
        && (img.blocks.all fun b => b.2.type ≠ 0x2B || (Image.appDest b.2).1 || (Image.appDest b.2).2.1 ≠ d.node
            || !overlaps (Image.appDest b.2).2.2.1 (Image.appDest b.2).2.2.2 (8 * d.cmdOfs + d.cmdBit) 2)
        && img.sups.all fun q => q.1 = p.1 || !q.2.remote || q.2.node ≠ d.node
            || !overlaps (8 * q.2.cmdOfs + q.2.cmdBit) 2 (8 * d.cmdOfs + d.cmdBit) 2
       else
        (Tab.get? img.chans d.enCh).any (fun c => c.mode = .output && c.vital)
        && (!d.srUsed || (Tab.get? img.chans d.srCh).any fun c => c.mode = .output && c.vital)
        && (Tab.get? img.chans d.progCh).any (fun c => c.mode = .count && c.vital)
        && (d.chans.all fun c => !img.namesChan c && img.sups.all fun q => q.1 = p.1 || !q.2.chans.contains c)
        && distinct d.chans
        && elem.any fun e => (match e.src with
            | .chan c => (Tab.get? img.chans c).any fun k => k.pair = .neither
            | _ => false) && match e.sink with
              | .chan _ => true
              | _ => false)

/-- The port, queue and source tables (R298). -/
def Image.hostRule (img : Image) (l : List Section) : Bool :=
  let ids := img.sources.map SourceDef.id
  let as := (img.sources.map SourceDef.addrA).filter (· ≠ 0)
  let bs := (img.sources.map SourceDef.addrB).filter (· ≠ 0)
  let depth (q : Nat) := Tab.getD img.queues q 0
  distinct ids && (ids.all fun i => within 1 0xFFFE i) && distinct as && distinct bs
  && (img.sources.all fun d => d.addrA ≠ 0 || d.addrB ≠ 0)
  && ((entriesOf l 0x0803).all fun e => byteAt e 16 < 2)
  && ((entriesOf l 0x0801).all fun e => !bitOf (leAt e 4 2) 15)
  && (img.ports.all fun p => p.2.vlan ≤ 4094 && p.2.address ≠ 0 && p.2.address ≠ 0xFFFFFFFF && p.2.address % 256 ≠ 255)
  && (List.range 16).all fun q => (depth q = 0 || depth q = (if q = 1 then 16 else 64)) && !((q = 6 || q = 7) && depth q = 0)

/-- The boundary table (R331). -/
def Image.boundRule (img : Image) : Bool :=
  (img.elems.all fun e => e.2.kind ≠ .bb || (img.bounds.filter fun b => b.bb = e.1).length = 1)
  && img.bounds.all fun b => img.isKind .bb b.bb && (b.queue = 2 || b.queue = 3)
    && img.sources.any fun d => d.id = b.source && d.neighbour && bitOf d.queues b.queue

/-- Record types that the housekeeper writes (R387, R388, R393–R401). -/
def hkTypes : List Nat := [0x0701, 0x0A01, 0x0A02, 0x0A03, 0x0A04, 0x0A05, 0x0A08]

/-- The snapshot table (R396). -/
def Image.snapRule (img : Image) (l : List Section) : Bool :=
  ((entriesOf l 0x0C01).all fun e => within 1 32 (byteAt e 3) && (e.drop (8 + 4 * byteAt e 3)).all (· = 0))
  && img.snaps.all fun d => d.trigger ≠ 0 && d.trigger / 256 ≠ 0x0C && !hkTypes.contains d.trigger && within 1 7 d.lanes
    && within 100 60000 d.minGap && d.addrs.all fun a => a % 4 = 0 && within 0x20000000 0x2012FFFC a

/-- Every verify rule of a station image. -/
def Image.rulesOk (img : Image) (old : Option Image) (l : List Section) : Bool :=
  elemCodes l && (img.elems.all fun p => img.elemRule p.2) && (img.classes.all fun p => classRule p.2)
  && (img.areas.all fun p => within 0 30000 p.2)
  && (img.routes.all fun p => img.routeRule p.2) && img.matrixRule && img.graphRule && img.declRule l && img.mapRule old l
  && img.sheetRule l && img.nodeRule l && img.ageRule && img.bankOk img.slots && img.chanRule l && img.supRule l
  && img.hostRule l && img.boundRule && img.snapRule l

/-! ### The key bank and the signatures (R418–R420) -/

/-- A slot of the key bank; slots 0 and 1 are fused at manufacture (R418). -/
def State.keyAt (s : State) (i : Nat) : Option KeySlot :=
  match Tab.get? s.img.keys i with
  | some k => some k
  | none =>
    if i = 0 then some ⟨bytesOf 32 (Config.fusedKey 0), 8, false⟩
    else if i = 1 then some ⟨bytesOf 32 (Config.fusedKey 1), (Config.slot1Roles ||| 4).toNat, false⟩
    else none

/-- A programmed, unrevoked slot with a role bit. -/
def State.keyHas (s : State) (i role : Nat) : Bool := (s.keyAt i).any fun k => !k.revoked && bitOf k.roles role

/-- The 16 ASCII bytes of the signing message (R414). -/
def flaconWord : List Byte :=
  [0x44, 0x58, 0x4C, 0x2D, 0x33, 0x30, 0x36, 0x34, 0x20, 0x46, 0x4C, 0x41, 0x43, 0x4F, 0x4E, 0x20]

/-- The signature check of R419. -/
def State.signaturesOk (s : State) (type target : Nat) (digest : List Byte) (sigs : List (Nat × List Byte)) : Bool :=
  let slots := sigs.map Prod.fst
  distinct slots
  && (sigs.all fun g => (s.keyAt g.1).any fun k => !k.revoked && ed25519 k.key (flaconWord ++ digest) g.2)
  && match type with
    | 1 => slots.any fun a => s.keyHas a 1 && slots.any fun b => a ≠ b && s.keyHas b 2
    | 2 => slots.contains 0
    | 3 => slots.any fun a => a ≠ target && s.keyHas a 2
    | _ => false

/-- The outcome of R421: status, reason code of R327, and where a station image passed its image. -/
structure CheckResult where
  status : Nat
  reason : Nat
  image  : Option Image
deriving DecidableEq, Repr

/-- Checks 1 to 6 of R421 on a slot; `old` is the image that its image would replace (R424). -/
def State.checkSlot (s : State) (sl : Slot) (old : Option Image) : CheckResult :=
  let bad (r : Nat) : CheckResult := ⟨0x0107, r, none⟩
  let blockOk (i : Nat) : Bool :=
    (List.range 8).all (fun p => (Tab.get? sl.parts (8 * i + p)).isSome)
      && (crc32c ((sl.block i).take 4092)).toNat = leAt (sl.block i) 4092 4
  let f := sl.flacon
  let h := flaconHdr f
  let total := 96 + h.len + 68 * h.nsig
  let lenOk := match h.type with
    | 1 => within 1 67042960 h.len
    | 2 => h.len ≤ 4194304
    | 3 => h.len = 36
    | _ => false
  let content := flaconContent f
  let digest := flaconDigest f
  if sl.blocks = 0 || !(List.range sl.blocks).all blockOk then bad 2
  else if h.magic ≠ 0x4E434C46 || h.format ≠ 1 || h.type ≠ sl.type || h.version ≠ sl.version || !within 1 4 h.nsig || !lenOk
      || ceilDiv total 4092 ≠ sl.blocks || h.reserved ≠ 0 || h.minor > 31 || (h.type = 3 && (h.minor ≠ 0 || !within 1 7 h.target))
      || (h.type ≠ 3 && h.target ≠ 0) || (f.drop total).any (· ≠ 0) then bad 3
  else if !(match h.type with
      | 1 => h.romMin ≤ 3 && 3 ≤ h.romMax && h.romExact = 0 && h.minor = 0
      | 2 => h.romExact = 3 && h.romMin = 0 && h.romMax = 0
      | _ => h.romMin = 0 && h.romMax = 0 && h.romExact = 0) || h.iface ≠ 2 then bad 4
  else if hashBytes 64 (sha512 (f.take (32 + h.len))) ≠ digest then bad 1
  else if !s.signaturesOk h.type h.target digest (flaconSigs f) then ⟨0x0301, 0, none⟩
  else match h.type with
    | 1 =>
      match sl.sections with
      | none => bad 3
      | some l =>
        if !sectionsOk l then bad 3
        else
          let img := imageOf l
          if img.rulesOk old l then ⟨0, 0, some img⟩ else bad 5
    | 2 =>
      if h.minor = 0 && h.len ≠ 0 then bad 5
      else if h.len = 0 || Config.patchOk content then ⟨0, 0, none⟩ else bad 3
    | _ =>
      let roles := byteAt content 0
      let key := (content.drop 4).take 32
      if (content.drop 1).take 3 ≠ [0, 0, 0] then bad 3
      else if roles = 0 || 8 ≤ roles || (List.range 8).any (fun i => (s.keyAt i).any fun k => k.key = key) then bad 5
      else ⟨0, 0, none⟩

end Sys2Proof.Machine
end

