-- ==== Sys2Proof/Machine/Power.lean ====
section
/-!
DEFINITION. Power, reset, start-up, the degraded time, DORMANT and the wake: rows 1 to 22 of the table (R16–R27, R354, R362,
R432–R434, R500–R508, R530).
-/

namespace Sys2Proof.Machine

/-! ### VIN -/

/-- POWER_EVENT (R513): event, rail, lane, VIN in mV, rail in mV. -/
def powerEvent (event rail lane vin mv : Nat) : List Byte :=
  fields [(1, event), (1, rail), (1, lane), (1, 0), (2, sat16 vin), (2, sat16 mv)]

/-- VIN applied: a new power cycle with its first records in the order of R394 (R19, R26, R393). -/
def vinAppliedOp (mv : Nat) (s : State) : State :=
  if s.mod.mode = .off && 16300 < mv then
    let r := s.rcd
    let first := r.powerCycles = 0
    let n := min 0xFFFFFFFF (r.powerCycles + 1)
    let s1 : State := { s with mod := { s.mod with vin := mv }
                               rcd := { r with powerCycles := n, opTime := r.persistOp, persistHeld := 0 } }
    let s2 := s1.recordHk 0x0701 (fields [(6, r.persistOp), (2, 0), (4, 10000), (4, n), (8, s.net.persistedTime), (4, r.persistHeld), (4, 0)])
    let off : Record := ⟨0, 0x0101, 0, false, none, true, false, r.powerCycles, r.persistWarn.getD r.persistOp, 0xFFFFFFFF,
      fields [(1, r.persistMode), (1, modeWordOf .off false s.mod.lab .solo), (1, 2), (1, 0)]⟩
    let s3 := if first then s2 else s2.appendRecord off
    ({ s3 with rcd := { s3.rcd with persistWarn := none } } : State).toMode .reset 1
  else s

def execVinApplied (mv : Nat) (s : State) : Host.Outcome State Fault Refusal := .next (vinAppliedOp mv s)

/-- The power-fail warning: the mode word and the operating time are persisted, then the module enters RESET (R26, R502). -/
def powerFailWarningOp (mv : Nat) (s : State) : State :=
  if s.mod.mode = .off || s.mod.holdUp || 16300 ≤ mv then s
  else
    let s1 := s.recordHk 0x0705 (powerEvent 0 0xFF 0xFF mv 0)
    let s2 : State := { s1 with mod := { s1.mod with vin := mv } }
    let s3 := s2.enterReset 4
    { s3 with mod := { s3.mod with holdUp := true, uvWarn := true }, rcd := { s3.rcd with persistMode := s3.modeWord, persistWarn := some s3.rcd.opTime } }

def execPowerFailWarning (mv : Nat) (s : State) : Host.Outcome State Fault Refusal := .next (powerFailWarningOp mv s)

/-- The hold-up is exhausted: OFF (R19, R502). -/
def holdUpExhaustedOp (s : State) : State := if s.mod.mode = .reset && s.mod.holdUp then s.enterOff else s

def execHoldUpExhausted (s : State) : Host.Outcome State Fault Refusal := .next (holdUpExhaustedOp s)

/-- VIN returns before the hold-up is exhausted; the module may proceed to BOOT (R502). -/
def vinRestoredOp (mv : Nat) (s : State) : State :=
  if s.mod.mode = .reset && s.mod.holdUp && 16300 < mv then
    ({ s with mod := { s.mod with holdUp := false, vin := mv } } : State).recordHk 0x0705 (powerEvent 3 0xFF 0xFF mv 0)
  else s

def execVinRestored (mv : Nat) (s : State) : Host.Outcome State Fault Refusal := .next (vinRestoredOp mv s)

/-- The input cut-off opens (R501); the falling VIN comes as an event of its own. -/
def inputCutOffOp (mv : Nat) (s : State) : State :=
  if s.mod.mode = .off || s.mod.cutOff || mv ≤ 32500 then s
  else ({ s with mod := { s.mod with cutOff := true } } : State).recordHk 0x0705 (powerEvent 1 0xFF 0xFF mv 0)

def execInputCutOff (mv : Nat) (s : State) : Host.Outcome State Fault Refusal := .next (inputCutOffOp mv s)

/-- The cut-off closes again (R501). -/
def inputCutOffClosedOp (mv : Nat) (s : State) : State :=
  if s.mod.cutOff && mv < 32000 then { s with mod := { s.mod with cutOff := false, vin := mv, vinMin := min s.mod.vinMin mv } } else s

def execInputCutOffClosed (mv : Nat) (s : State) : Host.Outcome State Fault Refusal := .next (inputCutOffClosedOp mv s)

/-! ### RESET -/

/-- RST_N low (R504). -/
def rstNLowOp (s : State) : State :=
  if s.mod.mode = .off then s
  else
    let t := s.enterReset 3
    { t with mod := { t.mod with rstLow := true } }

def execRstNLow (s : State) : Host.Outcome State Fault Refusal := .next (rstNLowOp s)

/-- A lane's copy of STRAP_MISMATCH: the declared SID is 0xFF in a lane whose image has not passed its check (R536). -/
def State.strapCopy (s : State) (cause : Nat) (l : Lane) : List Byte :=
  let declared := if s.img.checked && s.img.passed.get l then s.image.decl.sid else 0xFF
  fields [(1, cause), (1, s.mod.pos), (1, s.mod.sid), (1, declared), (1, s.mod.rcvSamples), (3, 0)]

/-- STRAP_MISMATCH: once where the lanes supply identical copies, otherwise per lane (R536). -/
def State.recordStrap (s : State) (cause : Nat) : State :=
  let ls := LaneSet.list s.replyingLanes
  let copy := s.strapCopy cause
  let t := match ls with
    | [] => s.record 0x0150 (copy .a)
    | l :: r => if r.all fun m => copy m = copy l then s.record 0x0150 (copy l) else s.each ls fun s m => s.recordLane m 0x0150 (copy m)
  { t with mod := { t.mod with strapRecorded := true } }

/-- Every stored sequence moved on by a step (R304, R314). -/
def advanced (t : Tab Word) : Tab Word := Tab.mapV t fun _ w => w + 10000

/-- The ROM commits its priorities on both ports and locks the guard windows (R448, R461, R470). -/
def State.bootArbiters (s : State) : State :=
  let prio (a : ArbS) : ArbS := { a with shadow := bootPriorities, active := bootPriorities }
  let s1 := s.mapLanes fun _ x => { x with arbE := prio x.arbE, arbD := prio x.arbD, mmu := { x.mmu with guardLocked := true } }
  s1.each [0, 1] fun s p => s.record 0x0141 (fields [(1, p), (1, 0), (2, 0), (4, bootPriorities.toNat)])

/-- RST_N high with the rails good: BOOT, with the straps and RCV_N sampled three times (R19, R27, R304, R314, R511, R530). -/
def resetReleaseOp (a b c : StrapSample) (s : State) : State :=
  if s.mod.mode = .reset && !s.mod.holdUp then
    let same (f : StrapSample → Nat) := f a = f b && f b = f c
    let posSame := same fun x => x.pos.toNat
    let sidSame := same fun x => x.sid.toNat
    let rcvSame := same fun x => b2n x.rcvN
    let h := s.host
    let s1 : State := { s with
      mod := { s.mod with
        rstLow := false, uvWarn := false, vinMin := min 0xFFFF s.mod.vin, pos := a.pos.toNat, sid := a.sid.toNat, rcvLow := rcvSame && !a.rcvN
        rcvSamples := b2n a.rcvN + 2 * b2n b.rcvN + 4 * b2n c.rcvN, strapBad := !posSame || !sidSame
        lab := s.mod.lab && !(s.mod.sealed && !s.mod.bench), minor := (s.img.patch.map Prod.fst).getD 0 }
      host := { h with
        lastSeq := advanced h.persistSeq, unsolCtr := Tab.mapV h.persistUnsol fun _ n => n + 10000
        chalLanes := h.persistChalLanes + 1000000, chalHk := h.persistChalHk + 1000000
        persistChalLanes := h.persistChalLanes + 1000000, persistChalHk := h.persistChalHk + 1000000
        recoveryAddr := !s.img.active.tablesOk, linkA := h.linkA, linkB := h.linkB }
      img := { s.img with running := s.img.active.tables } }
    let s2 := (s1.toMode .boot 6).bootArbiters
    if !posSame || !sidSame || !rcvSame then s2.recordStrap 4
    else if a.pos = 3 then s2.recordStrap 0 else s2
  else s

def execResetRelease (s1 s2 s3 : StrapSample) (s : State) : Host.Outcome State Fault Refusal := .next (resetReleaseOp s1 s2 s3 s)

/-- A rail outside its window (R503). A lane in HOLD becomes FAILED (R505 step 2); at a wake the lane counts as not passing
(R508). -/
def railFaultOp (rail : Rail) (l : Lane) (mv : Nat) (s : State) : State :=
  if s.mod.mode = .off then s
  else
    let laneRail (code : Nat) (f : PwrS → PwrS) : State :=
      let s1 := (s.recordLane l 0x0705 (powerEvent 2 code l.id s.mod.vin mv)).modPwr l fun p => { f p with railFault := true }
      if s1.laneSt l = .hold then s1.failLane l 8
      else if s1.mod.waking.isSome then
        let s2 := s1.leaveVote l 8 0
        { s2 with mod := { s2.mod with dormant := s2.mod.dormant.map fun d => { d with notPassing := d.notPassing.set l true } } }
      else s1.leaveVote l 8 0
    match rail with
    | .vcore => laneRail 0 fun p => { p with vcore := mv % 4096 }
    | .vddq => laneRail 1 fun p => { p with vddq := mv % 4096 }
    | .vedge => ({ s with mod := { s.mod with edgeRails := true } } : State).recordHk 0x0705 (powerEvent 2 2 0xFF s.mod.vin mv)
    | .vio => ({ s with mod := { s.mod with edgeRails := true } } : State).recordHk 0x0705 (powerEvent 2 3 0xFF s.mod.vin mv)
    | .vhk =>
      let s1 := ({ s with mod := { s.mod with vhkBad := true } } : State).recordHk 0x0705 (powerEvent 2 4 0xFF s.mod.vin mv)
      s1.leaveAll LaneSet.full 8 0

def execRailFault (rail : Rail) (lane : Lane) (mv : Nat) (s : State) : Host.Outcome State Fault Refusal := .next (railFaultOp rail lane mv s)

/-- CLOCK_EVENT (R513). -/
def State.recordClock (s : State) (l : Lane) (event : Nat) : State :=
  let c := (s.lane l).clk
  s.recordLane l 0x0703 (fields [(1, l.id), (1, event), (2, c.lastC), (2, c.nref), (2, 0)])

/-- The start interlock of one lane (R505 step 3, R506). A lane that leaves HOLD does not vote yet: it is held as MINORITY until
the accord includes it (R355, R538; log entry 8). -/
def startInterlockOp (l : Lane) (xt rc rails : Bool) (nref : Nat) (s : State) : State :=
  if s.mod.mode = .reset && s.laneSt l = .hold && !s.mod.holdUp then
    let ok := xt && rc && rails && 2413 ≤ nref && nref ≤ 2587
    let s1 := s.modLane l fun x => { x with
      clk := { x.clk with xtStable := xt, rcStable := rc, nref := nref % 65536, started := ok, static := if ok then 1 else 2, source := .crystal }
      pwr := { x.pwr with level := 1 } }
    if ok then s1.modCore l fun c => { c with st := .minority, next := .resync, cause := 0 }
    else if !rails then s1.failLane l 8
    else (s1.recordClock l 7).failLane l 6
  else s

def execStartInterlock (lane : Lane) (xtStable rcStable railsOk : Bool) (nref : Nat) (s : State) : Host.Outcome State Fault Refusal :=
  .next (startInterlockOp lane xtStable rcStable railsOk nref s)

/-! ### BOOT and SELFTEST -/

/-- The two slots exchange (R426, R433). -/
def State.exchangeSlots (s : State) : State :=
  { s with img := { s.img with active := { s.img.pending with st := .active, owner := none }
                               pending := if s.img.active.st = .active then { s.img.active with st := .verified } else .empty } }

/-- The image that ROM boot finds: ACTIVE when it passes, otherwise PENDING after an exchange, otherwise none (R433). -/
def State.bootImage (s : State) : Option State :=
  let a := s.checkSlot s.img.active none
  let good (x : Slot) (r : CheckResult) := x.st ≠ .empty && x.type = 1 && r.status = 0
  let install (s : State) (r : CheckResult) : State := 
    { s with img := { s.img with running := r.image, runDigest := s.img.active.digest, active := { s.img.active with image := r.image, st := .active } } }
  if good s.img.active a then some (install s a)
  else
    let p := s.checkSlot s.img.pending none
    if good s.img.pending p then
      some (install (s.exchangeSlots.record 0x0609 (fields [(1, a.reason), (3, 0)])) p)
    else none

/-- ROM boot ends (R19, R27, R433, R505). -/
def romBootCompleteOp (romOk : LaneSet) (s : State) : State :=
  if s.mod.mode = .boot then
    let s1 := s.forLanes (LaneSet.diff LaneSet.full romOk) fun s l => if s.laneSt l = .hold then s else s.failLane l 0
    if s1.mod.rcvLow then ({ s1 with mod := { s1.mod with minor := 0 } } : State).toMode .recovery 7
    else match s1.bootImage with
      | some s2 => s2.toMode .selftest 9
      | none => ({ s1 with mod := { s1.mod with minor := 0 } } : State).toMode .recovery 8
  else s

def execRomBootComplete (romOk : LaneSet) (s : State) : Host.Outcome State Fault Refusal := .next (romBootCompleteOp romOk s)

/-- The rows of R354 that are points of a shared voter: HSV and LSV, transmit voter, VRD generator. -/
def sharedPoint (row : Nat) : Bool := row = 7 || row = 8 || row = 9

/-- The start-up check of the VRD: static in every sense path on one lane's tokens, running in all of them on each pair's, and static
after all tokens have stopped (R271). -/
def vrdPassed (v : VrdCheck) : Bool :=
  Lane.all.all (fun l => v.alone.get l = LaneSet.none && v.pairs.get l = LaneSet.full) && v.after = LaneSet.none

/-- Start-up tests end (R19, R271, R354). -/
def selftestCompleteOp (tests : PerLane StartTest) (vrd : VrdCheck) (s : State) : State :=
  if s.mod.mode = .selftest then
    let vrdOk := vrdPassed vrd && !s.fch.vrdRunning
    let live := s.replyingLanes
    let s1 := s.forLanes live fun s l => s.each (tests.get l).fails fun s p =>
      s.recordLane l 0x0803 (fields [(1, l.id), (1, p.1), (1, p.2), (1, 0)])
    let s2 := if vrdOk then s1
      else (s1.record 0x0305 (fields [(1, 2), (1, LaneSet.bits live), (2, 0)])).forLanes live fun s l =>
        s.recordLane l 0x0803 (fields [(1, l.id), (1, 9), (1, 0xFF), (1, 0)])
    let sharedBad := !vrdOk || (LaneSet.list live).any fun l => (tests.get l).fails.any fun p => sharedPoint p.1
    let pass (l : Lane) := (tests.get l).march && (tests.get l).fails.isEmpty && !sharedBad
    let s3 := s2.forLanes live fun s l =>
      if pass l then s.modCore l fun c => { c with passed := true } else s.failLane l 0
    if 2 ≤ ((LaneSet.list live).filter pass).length then s3.toMode .loaded 10 else s3.enterSafe 11
  else s

def execSelftestComplete (tests : PerLane StartTest) (vrd : VrdCheck) (s : State) : Host.Outcome State Fault Refusal :=
  .next (selftestCompleteOp tests vrd s)

/-! ### LOADED -/

/-- The required speed in the canary's units of 0.01 work units per µs (R59): the declared peak work divided by 800 µs. -/
def State.required (s : State) : Nat := s.image.decl.peakWork * 100 / 800

/-- The speed a lane shows, or is estimated to show, at a level (R59). -/
def LaneS.speedAtLevel (x : LaneS) (lv : Nat) : Nat :=
  if lv = x.pwr.level then x.pwr.canary else Config.speedAt x.pwr.level lv x.pwr.canary

/-- GOVERNOR_STEP (R513). -/
def State.recordGovernor (s : State) (l : Lane) (old new reason : Nat) : State :=
  s.recordLane l 0x0704 (fields [(1, l.id), (1, old), (1, new), (1, reason), (2, sat16 (s.lane l).pwr.canary), (2, 0)])

/-- The highest level number from `lv` upward in speed at which the declared work fits, if any (R61). -/
def fitLevel (x : LaneS) (req : Nat) : Nat → Option Nat
  | 0 => if req ≤ x.speedAtLevel 0 then some 0 else none
  | n + 1 => if req ≤ x.speedAtLevel (n + 1) then some (n + 1) else fitLevel x req n

/-- The starting level of a lane (R60, R61). A lane whose canary has not been read keeps the image's minimum (log entry 15). -/
def State.startLevel (s : State) (l : Lane) : State :=
  let x := s.lane l
  let low := s.image.decl.minLevel
  if x.pwr.canary = 0 then s.modPwr l fun p => { p with minLevel := low, level := min p.level low }
  else match fitLevel x s.required low with
    | some n =>
      let s1 := s.modPwr l fun p => { p with minLevel := n, level := min p.level n }
      if n = low then s1 else s1.recordGovernor l x.pwr.level (min x.pwr.level n) 2
    | none => (s.recordGovernor l x.pwr.level 0 3).leaveVote l 8 0

/-- The straps suit the image (R27). -/
def State.strapsOk (s : State) : Bool :=
  !s.mod.strapBad && s.mod.pos ≠ 3 && s.mod.sid = s.image.decl.sid && decide (s.mod.pos ≠ 0) = s.image.decl.duplex

/-- The field channels take the image's channel table; every channel has its two voters (R244, R257, R265). -/
def State.applyChannels (s : State) : State :=
  { s with fch := { s.fch with
    outs := Tab.mapV s.image.chans fun ch _ => Tab.getD s.fch.outs ch .zero
    testPeriods := s.image.chans.filterMap fun p => if p.2.mode = .output then some (p.1, p.2.testPeriod) else none } }

/-- The image check of every lane (R432), the straps against the image (R27), and the starting level (R61). -/
def imageCheckOp (loadOk reloadOk : LaneSet) (s : State) : State :=
  if s.mod.mode = .loaded && !s.img.checked then
    let r := s.checkSlot s.img.active none
    let live := s.replyingLanes
    let pass := if r.status = 0 && s.img.active.type = 1 then LaneSet.inter live loadOk else LaneSet.none
    let s1 : State := { s with img := { s.img with checked := true, passed := pass } }
    if LaneSet.count pass < 2 then s1.record 0x0608 (fields [(1, LaneSet.bits pass), (3, 0)])
    else
      let s2 := s1.forLanes (LaneSet.diff live pass) fun s l =>
        if reloadOk.get l then
          ({ s with img := { s.img with passed := s.img.passed.set l true } } : State).record 0x0607 (fields [(1, l.id), (1, 0), (2, 0)])
        else
          (s.modCore l fun c => { c with st := .out }).record 0x0607 (fields [(1, l.id), (1, 1), (2, 0)])
      let s3 : State := { s2 with
        net := { s2.net with bank0 := s2.image.slots, bank1 := s2.image.slots, activeBank1 := false }
        mod := { s2.mod with degradedLeft := s2.image.decl.degradedMin * 60000 } }
      let s4 := s3.applyChannels.forLanes s3.img.passed State.startLevel
      if s4.mod.strapRecorded || s4.strapsOk then s4
      else s4.recordStrap (if s4.mod.sid ≠ s4.image.decl.sid then 1 else 2)
  else s

def execImageCheck (loadOk reloadOk : LaneSet) (s : State) : Host.Outcome State Fault Refusal := .next (imageCheckOp loadOk reloadOk s)

/-- Whether two lanes of a VIEW table heard each other in both directions and themselves are on time (R39). -/
def heardEachOther (v : PerLane LaneSet) (x y : Lane) : Bool := (v.get x).get y && (v.get y).get x && (v.get x).get x && (v.get y).get y

/-- The entries of the list of R39. -/
def votingEntries : List LaneSet := [⟨true, true, true⟩, ⟨true, true, false⟩, ⟨true, false, true⟩, ⟨false, true, true⟩]

/-- The first entry of R39 whose members are all eligible and heard each other; none where no entry qualifies. -/
def votingSetOf (v : PerLane LaneSet) (eligible : LaneSet) : Option LaneSet :=
  votingEntries.find? fun e =>
    (LaneSet.list e).all fun x => eligible.get x && (LaneSet.list e).all fun y => heardEachOther v x y

/-- Lanes that can join the accord: alive, tested, with an image that passed (R62, R432). -/
def State.joinable (s : State) : LaneSet :=
  s.lanes.mapL fun l x => x.core.passed && s.img.passed.get l && (x.core.st = .minority || x.core.st = .voting)

/-- The exchange of readings has run for 100 ticks, the VIEW tables of 10 consecutive boundaries have shown two lanes, and the accord has
not formed yet (R62). -/
def State.formationDue (s : State) : Bool :=
  s.mod.mode = .loaded && s.img.checked && s.acc.formation.any fun f => 100 ≤ f.readings && 10 ≤ f.run && !f.formed

/-- The accord forms (R62). -/
def accordFormedOp (views : PerLane LaneSet) (s : State) : State :=
  if s.formationDue then
    match votingSetOf views s.joinable with
    | some v =>
      let s1 := s.forLanes v fun s l => s.modCore l fun c => { c with st := .voting }
      { s1 with acc := { s1.acc with voting := v, views := views, formation := some ⟨100, 10, true⟩ } }
    | none => s
  else s

def execAccordFormed (views : PerLane LaneSet) (s : State) : Host.Outcome State Fault Refusal := .next (accordFormedOp views s)

/-- The accord has not formed within 10 s: each lane records the VIEW sets as it received them (R62, R536). -/
def accordFormationTimeoutOp (views : PerLane (PerLane LaneSet)) (s : State) : State :=
  if s.mod.mode = .loaded && s.img.checked && s.acc.formation.all (fun f => !f.formed) then
    s.forLanes s.replyingLanes fun s l =>
      let same := if s.img.passed.get l then s.img.passed else LaneSet.none
      let v := views.get l
      s.recordLane l 0x0152 (fields [(1, l.id), (1, LaneSet.bits v.a), (1, LaneSet.bits v.b), (1, LaneSet.bits v.c),
        (1, LaneSet.bits same), (3, 0)])
  else s

def execAccordFormationTimeout (views : PerLane (PerLane LaneSet)) (s : State) : Host.Outcome State Fault Refusal :=
  .next (accordFormationTimeoutOp views s)

/-- The partner reports the module's own position value (R434). -/
def State.samePosition (s : State) : Bool := s.plink.up && s.plink.partnerPos = some s.mod.pos

/-- Every condition of LOADED → INTEGRATE (R19). -/
def State.loadedConditions (s : State) : Bool :=
  s.img.checked && 2 ≤ LaneSet.count s.img.passed && s.acc.formation.any Formation.formed && 2 ≤ LaneSet.count s.votingLanes
    && s.strapsOk && !s.samePosition

/-- The module enters INTEGRATE (R19). -/
def loadedConditionsMetOp (s : State) : State := if s.mod.mode = .loaded && s.loadedConditions then s.enterIntegrate 12 else s

def execLoadedConditionsMet (s : State) : Host.Outcome State Fault Refusal := .next (loadedConditionsMetOp s)

/-- Three good rounds and enough lanes: OPERATE at cycle 0 (R19, R25). -/
def integrationCompleteOp (s : State) : State :=
  let n := LaneSet.count s.votingLanes
  if s.mod.mode = .integrate && 3 ≤ s.acc.goodRounds && (n = 3 || (n = 2 && s.image.decl.degradedStart)) then s.enterOperate else s

def execIntegrationComplete (s : State) : Host.Outcome State Fault Refusal := .next (integrationCompleteOp s)

/-! ### Degraded time -/

/-- The degraded time expires (R23, R362): a lead with an unconditioned tender hands over first. -/
def degradedExpire (s : State) : State :=
  if s.degraded then
    let s1 : State := { s with mod := { s.mod with degradedLeft := 0 } }
    if s.mod.role = .lead && s.tenderReady then
      (if s.plink.switchAt.isSome then { s1 with plink := { s1.plink with safeAfter := true } } else s1.beginSwitchover none true)
    else s1.enterSafe 18
  else s

def execDegradedTimeExpired (s : State) : Host.Outcome State Fault Refusal := .next (degradedExpire s)

/-- FULL has held for 60 minutes: the degraded time is whole again (R362). -/
def degradedRestoreOp (s : State) : State :=
  if s.mod.mode = .operate && LaneSet.count s.votingLanes = 3 then
    { s with mod := { s.mod with degradedLeft := s.image.decl.degradedMin * 60000, fullHeld := 0 } }
  else s

def execDegradedTimeRestored (s : State) : Host.Outcome State Fault Refusal := .next (degradedRestoreOp s)

/-! ### DORMANT -/

/-- DORMANT begins: the mode word shows it at once, and what the wake needs is stored (R24, R507). -/
def State.beginDormant (s : State) : State :=
  let d : DormantS := ⟨s.mod.mode = .operate, s.mod.mode = .safe, s.mod.mode = .loaded && s.loadedConditions, s.votingLanes, LaneSet.none, true⟩
  let s1 := ((s.stopOperate.votesOff true).silence).stopVrd
  let s2 := s1.persistAll.endSessions
  let s3 : State := { s2 with mod := { s2.mod with dormant := some d } }
  ((s3.toMode .dormant 5).settleMinority).mapLanes fun _ x => { x with pwr := { x.pwr with saved := x.pwr.level } }

/-- The entry steps end: DEEP enables and P3 (R492, R507). -/
def dormantEntryCompleteOp (ms : Nat) (s : State) : State :=
  if s.mod.mode = .dormant && s.mod.dormant.any DormantS.entering then
    let s1 : State := { s with mod := { s.mod with dormant := s.mod.dormant.map fun d => { d with entering := false }, edgeGate := 0x24 } }
    let s2 := s1.mapLanes fun _ x => match x.core.st with
      | .hold | .failed => x
      | _ => { x with clk := { x.clk with static := 3 }, pwr := { x.pwr with level := 3 } }
    s2.record 0x0708 (fields [(1, 0), (1, 0), (2, 0), (4, ms)])
  else s

def execDormantEntryComplete (ms : Nat) (s : State) : Host.Outcome State Fault Refusal := .next (dormantEntryCompleteOp ms s)

/-- A wake trigger: 1 WAKE_N, 2 MODE_REQUEST (R24, R508). The housekeeper's session ends. -/
def State.wakeTrigger (s : State) (which : Nat) : State :=
  if s.mod.mode = .dormant && s.mod.waking.isNone then
    let s1 := match s.host.hkSession with
      | some x => ({ s with host := { s.host with hkSession := none } } : State).recordHk 0x0902
          (fields [(1, x.role.code), (1, 4), (2, x.source)])
      | none => s
    let s2 := ({ s1 with mod := { s1.mod with edgeGate := 0x3F } } : State).mapLanes fun _ x => match x.core.st with
      | .hold | .failed => x
      | _ => { x with clk := { x.clk with static := 1, ackPhase := 0 }, pwr := { x.pwr with level := x.pwr.saved }, mmu := { x.mmu with scrubWord := 0 } }
    if s.mod.dormant.any fun d => d.fromOperate || d.condsMet then
      { s2 with mod := { s2.mod with waking := some which, dormant := s2.mod.dormant.map fun d => { d with entering := false } } }
    else s2.enterReset 20
  else s

def execWakeNLow (s : State) : Host.Outcome State Fault Refusal := .next (s.wakeTrigger 1)

/-- 250 ms after the wake trigger (R24, R508). -/
def wakeCompleteOp (hashOk blocksOk formed : LaneSet) (s : State) : State :=
  match s.mod.mode, s.mod.waking, s.mod.dormant with
  | .dormant, some which, some d =>
    let s1 := s.forLanes d.voting fun s l =>
      if d.notPassing.get l then s
      else if !hashOk.get l || !blocksOk.get l then s.failLane l 0
      else if !formed.get l then (s.withdraw l).modCore l fun c => { c with st := .out }
      else s
    let pass := LaneSet.inter d.voting s1.votingLanes
    let s2 := s1.record 0x0708 (fields [(1, which), (1, LaneSet.bits pass), (2, 0), (4, 250)])
    -- a lane that was in RESYNC enters it anew at the first T₀
    let anew (x : LaneS) : LaneS :=
      if x.core.st = .resync then { x with core := { x.core with st := .minority, next := .resync, resync := .none } } else x
    if 2 ≤ LaneSet.count pass then (s2.mapLanes fun _ x => anew x).enterIntegrate 20
    else
      let t := s2.enterSafe 21
      { t with mod := { t.mod with waking := none, dormant := none } }
  | _, _, _ => s

def execWakeComplete (hashOk blocksOk formed : LaneSet) (s : State) : Host.Outcome State Fault Refusal :=
  .next (wakeCompleteOp hashOk blocksOk formed s)

end Sys2Proof.Machine
end

