-- ==== Sys2Proof/Machine/Clocks.lean ====
section
/-!
DEFINITION. Oscillators, clock monitors, source switches, HOLD and rate acquisition (R484–R490), the speed governor and level
steps (R59, R60, R498, R499), the stall watchdog (R494) and the clock registers with effects of their own (R491, R495).
-/

namespace Sys2Proof.Machine

/-- The edge selector takes the first lane whose monitor has not tripped and that is not FAILED (R490). -/
def State.edgeSelect (s : State) : State :=
  match Lane.all.find? fun l => !(s.lane l).clk.tripped && s.laneSt l ≠ .failed with
  | some l =>
    if l = s.mod.edgeSel then s
    else ({ s with mod := { s.mod with edgeSel := l } } : State).recordClock l 8
  | none => s

/-- A lane leaves the vote for CLOCK with no usable oscillator: FAILED at once (R488, R489). -/
def State.failClock (s : State) (l : Lane) : State :=
  let s1 := s.recordClock l 6
  (s1.leaveVote l 6 0).failLane l 6

/-- A lane enters HOLD: its votes end and its voters receive no refresh (R489). -/
def State.enterHold (s : State) (l : Lane) : State :=
  let old := s.modeWord
  let s1 := (s.withdraw l).modLane l fun x => { x with core := { x.core with st := .hold }, clk := { x.clk with static := 2, rcRestarting := true } }
  let s2 := s1.recordClock l 4
  if s2.mod.mode.cycles && LaneSet.count s2.votingLanes < 2 then s2.enterSafe 16 else s2.noteDegraded old 14

/-- The lane's monitor trips (R486, R489). -/
def State.clockTrip (s : State) (l : Lane) : State :=
  let c := (s.lane l).clk
  if c.tripped || !c.started || c.source = .rc then s
  else
    let s1 := s.modClk l fun c => { c with tripped := true }
    let s2 :=
      if c.rcStable && !c.noFallback then
        (s1.modLane l fun x => { x with clk := { x.clk with source := .rc, switching := true }
                                        tbs := { x.tbs with baseNref := c.nref } }).recordClock l 0
      else if c.rcDisabled then s1.failClock l
      else s1.enterHold l
    s2.edgeSelect

/-- A lane leaves HOLD with cause CLOCK and acquires its rate (R489, R356). -/
def State.leaveHold (s : State) (l : Lane) : State :=
  let s1 := s.modLane l fun x => { x with
    clk := { x.clk with source := .rc, nref := 0, rcRestarting := false, noFallback := false, static := if s.mod.mode.cycles then 0 else 1 }
    tbs := { x.tbs with acquiring := true, synced := false, syncRun := 0 }
    core := { x.core with st := .minority, cause := 6, sub := 0, next := .resync, left := satAdd 0xFFFF x.core.left 1 } }
  let s2 := (s1.recordClock l 5).record 0x0110 (fields [(1, l.id), (1, 6), (1, 0), (1, LaneSt.code .resync), (4, s.mod.cycle.toNat)])
  if s2.mod.mode.cycles then s2 else s2.takeNext l

/-- An oscillator reports stable (R484, R488, R489). -/
def oscillatorStableOp (l : Lane) (osc : Osc) (s : State) : State :=
  if !s.mod.mode.lanesRun && s.mod.mode ≠ .reset then s
  else match osc with
  | .crystal => s.modClk l fun c => { c with xtStable := true }
  | .rc =>
    let c := (s.lane l).clk
    if c.rcDisabled then s
    else
      let s1 := s.modClk l fun c => { c with rcStable := true, rcRestarting := false }
      if s.laneSt l = .hold && c.started && c.tripped then s1.leaveHold l
      else if c.noFallback then (s1.modClk l fun c => { c with noFallback := false }).recordClock l 3
      else s1

def execOscillatorStable (lane : Lane) (osc : Osc) (s : State) : Host.Outcome State Fault Refusal := .next (oscillatorStableOp lane osc s)

/-- An oscillator reports unstable (R486, R488, R489). -/
def oscillatorUnstableOp (l : Lane) (osc : Osc) (s : State) : State :=
  if !s.mod.mode.lanesRun && s.mod.mode ≠ .reset then s
  else
    let c := (s.lane l).clk
    match osc with
    | .crystal => (s.modClk l fun c => { c with xtStable := false }).clockTrip l
    | .rc =>
      let s1 := s.modClk l fun c => { c with rcStable := false }
      if !c.started || s.laneSt l = .failed then s1
      else if c.source = .rc then (s1.failClock l).edgeSelect
      else (s1.modClk l fun c => { c with noFallback := true, rcRestarting := true }).recordClock l 2

def execOscillatorUnstable (lane : Lane) (osc : Osc) (s : State) : Host.Outcome State Fault Refusal := .next (oscillatorUnstableOp lane osc s)

/-- A monitor window ends with a crystal count (R485). -/
def monitorWindowOp (l : Lane) (count : Nat) (s : State) : State :=
  if s.mod.mode = .off then s
  else
    let s1 := s.modClk l fun c => { c with lastC := sat16 count }
    if count < 2450 || 2550 < count then s1.clockTrip l else s1

def execMonitorWindow (lane : Lane) (count : Nat) (s : State) : Host.Outcome State Fault Refusal := .next (monitorWindowOp lane count s)

/-- N_REF of the last second: RC edges over 25 000 000 crystal edges, divided by 10 000 and rounded; windows of a tripped monitor
enter no average (R485). -/
def nrefUpdateOp (l : Lane) (rcEdges : Nat) (s : State) : State :=
  let c := (s.lane l).clk
  if c.started && !c.tripped then s.modClk l fun c => { c with nref := sat16 ((rcEdges + 5000) / 10000) } else s

def execNrefUpdate (lane : Lane) (rcEdges : Nat) (s : State) : Host.Outcome State Fault Refusal := .next (nrefUpdateOp lane rcEdges s)

/-- A source switch completes, by handshake or by force (R487); the edge selector's own switch leaves no flag. -/
def sourceSwitchOp (lane : Option Lane) (handshake : Bool) (s : State) : State :=
  match lane with
  | none => s
  | some l =>
    if (s.lane l).clk.switching then
      let s1 := s.modClk l fun c => { c with switching := false, forced := c.forced || !handshake }
      if handshake then s1 else s1.recordClock l 1
    else s

def execSourceSwitchComplete (lane : Option Lane) (handshake : Bool) (s : State) : Host.Outcome State Fault Refusal :=
  .next (sourceSwitchOp lane handshake s)

/-- A restarted RC is not stable within 5 ms: disabled until RESET, NO_FALLBACK stays (R488). -/
def rcRestartTimeoutOp (l : Lane) (s : State) : State :=
  let c := (s.lane l).clk
  if c.rcRestarting && !c.rcStable && s.laneSt l ≠ .hold then s.modClk l fun c => { c with rcRestarting := false, rcDisabled := true }
  else s

def execRcRestartTimeout (lane : Lane) (s : State) : Host.Outcome State Fault Refusal := .next (rcRestartTimeoutOp lane s)

/-- The RC is not stable within 5 ms of a trip in HOLD: FAILED (R489). -/
def holdTimeoutOp (l : Lane) (s : State) : State :=
  let c := (s.lane l).clk
  if s.laneSt l = .hold && c.started && c.tripped && !c.rcStable then
    let s1 := (s.recordClock l 6).record 0x0110 (fields [(1, l.id), (1, 6), (1, 0), (1, LaneSt.code .failed), (4, s.mod.cycle.toNat)])
    (s1.failLane l 6).edgeSelect
  else s

def execHoldTimeout (lane : Lane) (s : State) : Host.Outcome State Fault Refusal := .next (holdTimeoutOp lane s)

/-- Rate acquisition ends: the mean of the drifts of eight rounds becomes the base rate (R489). -/
def rateAcquisitionOp (l : Lane) (drifts : List Int) (s : State) : State :=
  if (s.lane l).tbs.acquiring && drifts.length = 8 then
    let mean := Int.tdiv (drifts.foldl (· + ·) 0) drifts.length
    s.modTbs l fun t => { t with acquiring := false, baseDrift := mean, baseNref := 2500 }
  else s

def execRateAcquisitionComplete (lane : Lane) (drifts : List Int) (s : State) : Host.Outcome State Fault Refusal :=
  .next (rateAcquisitionOp lane drifts s)

/-- An access has waited 50 µs in a crossing (R494): the watchdog ends it, which releases a locked sequence of the DRAM port (R466). -/
def stallOp (l : Lane) (crossing : Nat) (addr : BitVec 36) (s : State) : State :=
  if s.laneSt l = .hold || s.laneSt l = .failed then s
  else
    let s1 := (s.modClk l fun c => { c with stallCount := satAdd 0xFFFF c.stallCount 1, stallCross := crossing }).recordLane l 0x0706
      (fields [(1, l.id), (1, crossing), (2, 0), (4, addr.toNat / 16)])
    (if crossing = 1 then s1.modLane l fun x => { x with arbD := x.arbD.unlock } else s1).leaveVote l 3 0

def execStallWatchdog (lane : Lane) (crossing : Fin 8) (addr : BitVec 36) (s : State) : Host.Outcome State Fault Refusal :=
  .next (stallOp lane crossing.val addr s)

/-! ### The governor -/

/-- The governor acts in this mode (R59–R61). -/
def Mode.governed : Mode → Bool
  | .selftest | .loaded | .integrate | .operate | .safe | .replay => true
  | _ => false

/-- The governor may begin a step in this tick (R498): a voting lane has sent its MARK. -/
def State.mayStep (s : State) (l : Lane) : Bool := !s.mod.mode.cycles || s.laneSt l ≠ .voting || (s.lane l).core.markSent

/-- A level step begins, at most one a tick (R498). -/
def State.beginStep (s : State) (l : Lane) (level reason : Nat) : State :=
  if (s.lane l).pwr.stepTo.isSome || (s.lane l).pwr.stepped then s
  else s.modPwr l fun p => { p with stepTo := some (level, reason), stepped := true }

/-- A lane that catches up steps to P0, one level at a time (R361, R498). -/
def State.stepUp (s : State) (l : Lane) : State := s.beginStep l ((s.lane l).pwr.level - 1) 2

/-- The canary is read: a lane-local event (R36, R59, R60, R499). -/
def canaryOp (l : Lane) (speed : Nat) (s : State) : State :=
  if !s.mod.mode.governed || s.laneSt l = .hold || s.laneSt l = .failed then s
  else
    let v := sat16 speed
    let s1 := s.modPwr l fun p => { p with canary := v, minSpeed := if s.mod.mode = .operate then min p.minSpeed v else p.minSpeed }
    let s1 := s1.noteEvent l
    let lv := (s.lane l).pwr.level
    if lv = 0 && v < s.required then
      if s.laneSt l = .out then s1 else (s1.recordGovernor l 0 0 3).leaveVote l 8 0
    else if 0 < lv && v * 100 < s.required * 125 && s.mayStep l then s1.beginStep l (lv - 1) 0
    else s1

def execCanaryReading (lane : Lane) (speed : Nat) (s : State) : Host.Outcome State Fault Refusal := .next (canaryOp lane speed s)

/-- One level down, never below the image's minimum level, when the lower level gives 1.5 times the required speed (R59). -/
def stepDownOp (l : Lane) (s : State) : State :=
  let x := s.lane l
  let n := x.pwr.level + 1
  if s.mod.mode.governed && n ≤ x.pwr.minLevel && n ≤ 2 && s.required * 150 ≤ x.speedAtLevel n * 100 && s.mayStep l then s.beginStep l n 1 else s

def execGovernorStepDown (lane : Lane) (s : State) : Host.Outcome State Fault Refusal := .next (stepDownOp lane s)

/-- The sequencer completes a step (R498). -/
def stepCompleteOp (l : Lane) (s : State) : State :=
  match (s.lane l).pwr.stepTo with
  | some (n, reason) =>
    let old := (s.lane l).pwr.level
    (s.modPwr l fun p => { p with
      level := n, stepTo := none, up := if n < old then satAdd 0xFFFF p.up 1 else p.up
      down := if old < n then satAdd 0xFFFF p.down 1 else p.down }).recordGovernor l old n reason
  | none => s

def execLevelStepComplete (lane : Lane) (s : State) : Host.Outcome State Fault Refusal := .next (stepCompleteOp lane s)

/-- Rail good is not reached: the previous level stays, and the lane leaves with cause POWER (R498). -/
def railGoodTimeoutOp (l : Lane) (s : State) : State :=
  match (s.lane l).pwr.stepTo with
  | some (n, _) =>
    if n < (s.lane l).pwr.level then (s.modPwr l fun p => { p with stepTo := none }).leaveVote l 8 0 else s
  | none => s

def execRailGoodTimeout (lane : Lane) (s : State) : Host.Outcome State Fault Refusal := .next (railGoodTimeoutOp lane s)

/-! ### Clock registers -/

/-- Whether the island of a crossing is gated off (R491, R493, R495). -/
def State.islandOff (s : State) (l : Lane) (pair : Nat) : Bool :=
  let c := (s.lane l).clk
  let e := s.mod.edgeGate
  match pair with
  | 0 => !c.gateTb
  | 1 => !c.gateDram
  | 2 => !c.gateIos
  | 3 => bits e 1 0 = 0
  | 4 => bits e 3 2 = 0
  | 5 => !bitOf e 4
  | 6 => !bitOf e 5
  | _ => false

/-- CLK_XRESET: named pairs are reset under static enables or where their island is gated off; another is refused (R495). -/
def xresetOp (l : Lane) (value : Word) (s : State) : State :=
  s.each (below 8 fun n => value.getLsbD n) fun s n =>
    if (s.lane l).clk.static ≠ 0 || s.islandOff l n then s.modClk l fun c => { c with ackPhase := c.ackPhase &&& ~~~((1 : Byte) <<< n) }
    else s.modClk l fun c => { c with gateRefused := true }

def execClkXreset (lane : Lane) (value : Word) (s : State) : Host.Outcome State Fault Refusal := .next (s.regWrite lane 0xC000C value (xresetOp lane value))

/-- CLK_GATE: under the tree TB is never turned off; a refused request changes nothing, sets REFUSED and is recorded (R491). -/
def gateWriteOp (l : Lane) (value : Word) (s : State) : State :=
  let s1 := if value.getLsbD 31 then s.modClk l fun c => { c with gateRefused := false } else s
  let s2 := s1.modClk l fun c => { c with gateDram := value.getLsbD 1, gateIos := value.getLsbD 2 }
  if value.getLsbD 0 then s2.modClk l fun c => { c with gateTb := true }
  else if (s.lane l).clk.static = 0 then
    (s2.modClk l fun c => { c with gateRefused := true }).recordLane l 0x0707 (fields [(1, l.id), (1, 0), (1, 0), (1, 0)])
  else s2.modClk l fun c => { c with gateTb := false }

def execClkGateWrite (lane : Lane) (value : Word) (s : State) : Host.Outcome State Fault Refusal := .next (s.regWrite lane 0xC0008 value (gateWriteOp lane value))

end Sys2Proof.Machine
end

