-- ==== Sys2Proof/Machine/Locking.lean ====
section
/-!
DEFINITION. One evaluation form at work on the interlocking state of a cycle: the field inputs and timers of R67 steps 1 to 3
(R69–R79, R97–R101, R114–R116, R120, R140), what active routes hold of an element (R92–R94, R104, R105), the conditions for
moving a point (R75), and the element requests (R71, R72, R76, R78, R83, R97–R101, R289).
-/

namespace Sys2Proof.Machine

/-! ### The form's working state -/

/-- What an evaluation form reads and forms in one cycle (R117): the image, the routes as this form has them, the state of the
cycle before, the inputs, and the state being formed. -/
structure Ev where
  img      : Image
  /-- This form's routes; `graph` says whose conflict relation applies (R123, R129). -/
  defs     : Tab RouteDef
  graph    : Bool
  prev     : Verdict
  v        : Verdict
  /-- Input fields, and the objects whose source is lost or aged out (R115, R120). -/
  raw      : Tab Nat
  lost     : List Nat
  nbr      : Tab NbrData
  nbrFresh : List Nat
  use      : Tab RouteUse
  stored   : List Nat
  reqs     : ReqList
  halted   : List Nat
  replaced : List Nat
  /-- Routes that have made their one transition of this cycle (R68). -/
  taken    : List Nat
  answers  : List (Origin × Nat)
  conflicts : List (Nat × Nat)
  leaves   : Tab Nat
  /-- Automatic routes that became IDLE through sectional release (R108). -/
  freed    : List Nat
  /-- The first cycle after an entry (R112). -/
  first    : Bool
  sid      : Nat
  areaHold : BitVec 64
deriving DecidableEq, Repr

def Ev.def? (e : Ev) (r : Nat) : Option RouteDef := Tab.get? e.defs r
def Ev.elemDef? (e : Ev) (o : Nat) : Option ElemDef := Tab.get? e.img.elems o
def Ev.elem (e : Ev) (o : Nat) : ElemSt := e.v.elem o
def Ev.route (e : Ev) (r : Nat) : RouteSt := e.v.route r
def Ev.useOf (e : Ev) (r : Nat) : RouteUse := Tab.getD e.use r .none

def Ev.modElem (e : Ev) (o : Nat) (f : ElemSt → ElemSt) : Ev :=
  { e with v := { e.v with elems := Tab.put e.v.elems o (f (e.elem o)) } }

def Ev.modRoute (e : Ev) (r : Nat) (f : RouteSt → RouteSt) : Ev :=
  { e with v := { e.v with routes := Tab.put e.v.routes r (f (e.route r)) } }

def Ev.modUse (e : Ev) (r : Nat) (f : RouteUse → RouteUse) : Ev := { e with use := Tab.put e.use r (f (e.useOf r)) }

def Ev.each {α : Type} (e : Ev) (l : List α) (f : Ev → α → Ev) : Ev := l.foldl f e

def Ev.answer (e : Ev) (o : Origin) (status : Nat) : Ev := { e with answers := e.answers ++ [(o, status)] }

/-- The route has made its transition of this cycle (R68). -/
def Ev.moved (e : Ev) (r : Nat) : Ev := { e with taken := insertNat r e.taken }

/-! ### Inputs (R120, R211) -/

/-- Row of the data-age table (R211). -/
def Kind.ageRow : Kind → Nat
  | .ts => 0
  | .pt | .de => 1
  | .sg => 2
  | .lx => 3
  | .ky | .sa => 4
  | _ => 5

/-- A boundary node: the image names it as the source of a BB (R109, R119, R211; log entry 28). -/
def Image.boundaryNode (i : Image) (n : Nat) : Bool := i.elems.any fun p => p.2.kind = .bb && p.2.src = .node n

/-- The row for an element that a node serves: row 7 for every object of a boundary node, otherwise the row of its kind (R211). -/
def Image.ageRow (i : Image) (n : Nat) (k : Kind) : Nat := if i.boundaryNode n then 7 else k.ageRow

/-- The age of a node's data exceeds the limit of a row (R211); a node of which no frame has been accorded has none in limit. -/
def State.agedOut (s : State) (node row : Nat) : Bool :=
  match (Tab.getD s.net.nodes node .none).age with
  | some a => 1000 * Tab.getD s.image.ages row 0 < a
  | none => true

/-- A node field that a sheet reads: 0 beyond the data-age limit of row 6 (R162, R211). -/
def State.nodeField (s : State) (n ofs bit width : Nat) : Nat :=
  if s.agedOut n 6 then 0 else (((Tab.getD s.net.nodes n .none).last).map fun f => fieldAt f.data ofs bit width).getD 0

/-- A node field reference word's value (R154). -/
def State.fieldRef (s : State) (w : Nat) : Nat := s.nodeField (bits w 8 0) (bits w 15 9) (bits w 18 16) (bits w 23 19 + 1)

/-- The present value of an event source. -/
def State.eventSource (s : State) (d : TaskDef) : Nat :=
  match d.evSrc with
  | 1 => (s.ixl.resolved.route d.evOp).st.code
  | 2 => (s.ixl.resolved.elem d.evOp).stateByte
  | 3 => ((Tab.get? s.sheets.inboxes d.evOp).map fun b => b.seq.toNat).getD 0
  | 4 => b2n (s.acc.accorded.chans.getLsbD d.evOp)
  | 5 => s.fieldRef d.evOp
  | _ => 0

/-- The channel and node-field sources of the PENDING image's event tasks (R174): kept when the cycle's accorded set takes the place of the one
before, for a set that may switch in this cycle. -/
def State.sourcesBefore (s : State) : Tab Nat :=
  match s.img.pending.image with
  | some img => (img.tasks.filter fun p => p.2.kind = 2 && 4 ≤ p.2.evSrc).map fun p => (p.1, s.eventSource p.2)
  | none => []

/-- An element's input field, or none where its data source is lost or aged out. An element without a source reads 0 and is
never UNPROVEN (log entry 16). -/
def State.input (s : State) (e : ElemDef) : Option Nat :=
  match e.src with
  | .node n =>
    if s.agedOut n (s.image.ageRow n e.kind) then none
    else ((Tab.getD s.net.nodes n .none).last).map fun f => fieldAt f.data e.srcOfs e.srcBit e.kind.inWidth
  | .chan c =>
    let word := s.acc.accorded.chans.toNat
    some (if e.kind.inWidth = 1 then bits word c c else bits word (c / 2 * 2 + 1) (c / 2 * 2))
  | .nowhere => some 0

/-- Objects that a node or channel serves: those with an input field. -/
def Kind.hasInput (k : Kind) : Bool := 0 < k.inWidth

/-- The input fields of the cycle, and the objects without one. -/
def State.inputs (s : State) : Tab Nat × List Nat :=
  let l := s.image.elems.filter fun p => p.2.kind.hasInput
  (l.filterMap fun p => (s.input p.2).map fun x => (p.1, x), (l.filter fun p => (s.input p.2).isNone).map Prod.fst)

/-! ### Timers (R69, R140) -/

/-- One cycle of a timer: a running one counts down, and is at 0 in the cycle in which it expires. -/
def tickTimer (t : Nat) : Nat := if t = 0xFFFF ∨ t = 0 then t else t - 1

/-- A timer started with a preset: a preset of 0 is never stored. -/
def startTimer (preset : Nat) : Nat := if preset = 0 then 0xFFFF else preset

/-! ### Field-driven element states: R67 steps 1 to 3 -/

/-- The cycle-0 state of a section (R112): DISTURBED; the settle time of a CONTINUOUS one that is reported CLEAR begins. -/
def tsRestart (d : ElemDef) (x : ElemSt) (unproven : Bool) (det : Nat) : ElemSt :=
  { x with state := 0, ta := if !unproven && 2 ≤ det && d.cls = 0 then startTimer d.preset else 0xFFFF }

/-- R70: a section follows its detection. -/
def tsStep (d : ElemDef) (x : ElemSt) (unproven : Bool) (det : Nat) : ElemSt :=
  if unproven || det = 0 then { x with state := 0, ta := 0xFFFF }
  else if x.state = 2 then { x with state := if det = 1 then 1 else 2, ta := 0xFFFF }
  else if x.state = 1 then
    if det = 1 then x else { x with state := 2, fb := false, ta := 0xFFFF }
  else if det = 1 then { x with state := 1, ta := 0xFFFF }
  else if d.cls = 1 then { x with state := if det = 3 then 2 else 0, ta := 0xFFFF }
  else if x.ta = 0xFFFF then
    if d.preset = 0 then { x with state := 2 } else { x with ta := d.preset }
  else if tickTimer x.ta = 0 then { x with state := 2, ta := 0xFFFF }
  else { x with ta := tickTimer x.ta }

/-- R69, R74, R76: a point follows its detection; a move ends in position or at the throw-time limit, and in the cycle in which
the limit expires the point is LOST unless it is detected in the commanded position. -/
def ptStep (x : ElemSt) (unproven : Bool) (det : Nat) : ElemSt :=
  let t := tickTimer x.ta
  let one := !unproven && (det = 1 || det = 2)
  let there := one && det = x.cmd
  let missed := x.cmd ≠ 0 && !there && t = 0
  let ended := x.cmd ≠ 0 && (there || t = 0)
  let cmd := if ended then 0 else x.cmd
  let st := if missed then 0 else if one then det + 1 else if !unproven && det = 0 && cmd ≠ 0 then 1 else 0
  { x with state := st, cmd := cmd, ta := if cmd = 0 then 0xFFFF else t }

/-- R76: a move is withdrawn in the cycle in which the containing section leaves CLEAR. -/
def ptWithdraw (x : ElemSt) : ElemSt :=
  if x.cmd = 0 then x else { x with cmd := 0, ta := 0xFFFF, state := if x.state = 1 then 0 else x.state }

/-- R79, R116: a signal's displayed proven aspect and FAILED; its proving time starts afresh when its data returns. -/
def sgStep (d : ElemDef) (x : ElemSt) (unproven : Bool) (det : Nat) : ElemSt :=
  let proven := !unproven && 16 ≤ det
  let st := if proven then det % 16 else 0
  let back := x.unproven && !unproven
  let t := if back then startTimer d.preset else tickTimer x.ta
  let running := t ≠ 0xFFFF && t ≠ 0
  let right := proven && st = x.cmd
  let failed := if right then false else if running then x.fa else true
  { x with state := st, fa := failed, ta := if t = 0 then 0xFFFF else t }

/-- R97: a level crossing follows its report. -/
def lxStep (d : ElemDef) (x : ElemSt) (unproven : Bool) (det : Nat) : ElemSt :=
  if unproven then { x with state := 0, ta := 0xFFFF }
  else if x.state = 0 then
    if det = 2 then { x with state := 4, ta := 0xFFFF }
    else if det = 1 then { x with state := 1, ta := 0xFFFF } else { x with ta := 0xFFFF }
  else if x.cmd = 0 then
    if det = 2 then { x with state := 4, ta := 0xFFFF }
    else if x.state = 4 then
      if det = 3 then { x with state := 0, ta := 0xFFFF } else { x with state := 3, ta := startTimer d.preset }
    else if tickTimer x.ta = 0 then { x with state := 0, ta := 0xFFFF }
    else { x with ta := tickTimer x.ta }
  else if det = 1 then { x with state := 1, ta := 0xFFFF } else { x with state := 2, ta := 0xFFFF }

/-- R99: a key lock follows its report. -/
def kyStep (x : ElemSt) (unproven : Bool) (det : Nat) : ElemSt :=
  { x with state :=
      if unproven || det = 0 || det = 3 then 0
      else if det = 1 then 1
      else if x.state = 2 then 2 else 3 }

/-- R100, R112: a zone becomes ACTIVE on its trigger or a lost source, and takes its state from it in the first cycle. -/
def ezStep (first : Bool) (x : ElemSt) (unproven : Bool) (det : Nat) : ElemSt :=
  { x with state := if unproven || det = 1 then 0 else if first then 1 else x.state }

/-- One element through steps 1 to 3 of R67, with what its own input says. -/
def Ev.stepElem (e : Ev) (o : Nat) (d : ElemDef) (x : ElemSt) : ElemSt :=
  let lost := e.lost.contains o
  let det := Tab.getD e.raw o 0
  match d.kind with
  | .ts => { (if e.first then tsRestart d x lost det else tsStep d x lost det) with unproven := lost }
  | .pt | .de => { ptStep x lost det with unproven := lost }
  | .sg => { sgStep d x lost det with unproven := lost }
  | .lx => { lxStep d x lost det with unproven := lost }
  | .ky => { kyStep x lost det with unproven := lost }
  | .ez => { ezStep e.first x lost det with unproven := lost }
  | .sa => { x with unproven := lost }
  | .ov => { x with ta := tickTimer x.ta }
  | .bb =>
    let t := tickTimer x.ta
    let b := tickTimer x.tb
    let gone := t = 0 || x.unproven
    { x with unproven := gone, ta := if t = 0 then 0xFFFF else t, tb := if b = 0 then 0xFFFF else b
             fa := x.fa && !gone, fb := x.fb && !gone, fc := x.fc || gone }
  | .fl => x

/-- A section's state in the cycle. -/
def Ev.tsClear (e : Ev) (o : Nat) : Bool := (e.elem o).state = 2
def Ev.tsOcc (e : Ev) (o : Nat) : Bool := (e.elem o).state = 1

/-- Whether the section that contains an element is CLEAR; an element of no section has none to wait for. -/
def Ev.homeClear (e : Ev) (d : ElemDef) : Bool := d.homeTs.all e.tsClear

/-- R67 steps 1 to 3 for every element. Points see the sections' states of the same cycle (R76), shunt areas the points' (R101),
zones the boundaries' emergency (R109). -/
def Ev.fieldStep (e : Ev) : Ev :=
  let e1 : Ev := { e with v := { e.v with elems := Tab.mapV e.img.elems fun o d => e.stepElem o d (e.elem o) } }
  let e2 := e1.each (e.img.elems.filter fun p => p.2.kind = .pt || p.2.kind = .de) fun e p =>
    if e.homeClear p.2 then e else e.modElem p.1 ptWithdraw
  let e3 := e2.each (e.img.elems.filter fun p => p.2.kind = .sa) fun e p =>
    let points := e.img.elems.filter fun q => q.2.sa = some p.1 && (q.2.kind = .pt || q.2.kind = .de)
    if (e.elem p.1).state = 0 && !e.lost.contains p.1 && Tab.getD e.raw p.1 0 = 1
      && points.all (fun q => (e.elem q.1).state = 2 || (e.elem q.1).state = 3)
    then e.modElem p.1 fun x => { x with state := 1 } else e
  let e4 := e3.each (e.img.elems.filter fun p => p.2.kind = .ov) fun e p =>
    let occ := p.2.list.any fun m => e.img.isKind .ts m.1 && e.tsOcc m.1
    e.modElem p.1 fun x => { x with fa := occ }
  e4

/-- R114: the restart timer of an area. -/
def areaStep (preset : Nat) (ready : Bool) (a : AreaSt) : AreaSt :=
  if a.expired then a
  else if a.timer = 0xFFFF then
    if !ready then a else if preset = 0 then ⟨0xFFFF, true⟩ else ⟨preset, false⟩
  else if tickTimer a.timer = 0 then ⟨0xFFFF, true⟩
  else ⟨tickTimer a.timer, false⟩

/-- Every node that serves an area has an accorded frame within its limit (R114); local channels are accorded in every cycle.
DESIGN CHOICE (log entry 132): the nodes that serve an area are those that are the SRC of an input field of one of its objects. -/
def Ev.areaReady (e : Ev) (a : Nat) : Bool :=
  e.img.elems.all fun p => p.2.area ≠ a || !e.lost.contains p.1

/-- R114 for the 64 areas. -/
def Ev.areasStep (e : Ev) : Ev :=
  e.each (List.range 64) fun e a =>
    let x := areaStep (Tab.getD e.img.areas a 0) (e.areaReady a) (e.v.area a)
    { e with v := { e.v with areas := if x = AreaSt.zero then Tab.erase e.v.areas a else Tab.put e.v.areas a x } }

/-- An object lies in an area whose restart time has expired. -/
def Ev.areaOpen (e : Ev) (o : Nat) : Bool := (e.elemDef? o).all fun d => (e.v.area d.area).expired

/-! ### What routes hold (R92–R94, R104–R106) -/

/-- How an active route uses an element. -/
inductive Hold where
  | entry | path (pos : Nat) | ovObj | ov (pos : Nat) | flank (pos : Nat)
deriving DecidableEq, Repr

/-- The required position or direction of a hold, 0 where there is none. -/
def Hold.pos : Hold → Nat
  | .path p | .ov p | .flank p => p
  | _ => 0

/-- The path sections of a route, in order. -/
def Ev.sections (e : Ev) (d : RouteDef) : List Nat := (e.img.pathTs d).map PoolEntry.object

/-- The sections of a route's overlap, in order. -/
def Ev.ovSections (e : Ev) (d : RouteDef) : List Nat := (e.img.ovTs d).map Prod.fst

/-- The path section with which a path element is released; none where it stays until the route is IDLE (R104, R105). -/
def Ev.pathTie (e : Ev) (d : RouteDef) (p : PoolEntry) : Option Nat :=
  let secs := e.sections d
  match e.elemDef? p.object with
  | some x =>
    match x.kind with
    | .ts => secs.findIdx? (· = p.object)
    | .lx => if p.tie = 0x7F then none else some p.tie
    | _ => x.homeTs.bind fun t => secs.findIdx? (· = t)
  | none => none

/-- What a route, if it is active, reserves or holds: (element, how). -/
def Ev.holds (e : Ev) (r : Nat) : List (Nat × Hold) :=
  let x := e.route r
  match e.def? r with
  | none => []
  | some d =>
    if !x.st.active then []
    else
      let u := e.useOf r
      let live (tie : Option Nat) : Bool := tie.all fun k => x.released ≤ k
      let path := (d.path.filter fun p => live (e.pathTie d p)).map fun p => (p.object, Hold.path p.pos)
      let ov := if u.ovFreed then [] else
        (d.overlap.toList.map fun o => (o, Hold.ovObj)) ++ d.ovList.map fun m => (m.1, Hold.ov m.2)
      let fl := (u.flank.filterMap id).filterMap fun p =>
        if live (if p.tie = 0x7F then none else some p.tie) then some (p.object, Hold.flank p.pos) else none
      (d.entry, Hold.entry) :: (path ++ ov ++ fl)

/-- The active routes, in identifier order. -/
def Ev.actives (e : Ev) : List Nat := (e.v.routes.filter fun p => p.2.st.active).map Prod.fst

/-- Every hold of an element by an active route: (route, how). -/
def Ev.holdsOf (e : Ev) (o : Nat) : List (Nat × Hold) :=
  e.actives.flatMap fun r => (e.holds r).filterMap fun h => if h.1 = o then some (r, h.2) else none

/-- Locks are applied at LOCKED and after (R85, R93, R94). -/
def Ev.locksOn (e : Ev) (r : Nat) : Bool := 3 ≤ (e.route r).st.code

def Hold.isRoute : Hold → Bool
  | .path _ | .ov _ => true
  | _ => false

def Hold.isFlank : Hold → Bool
  | .flank _ => true
  | _ => false

/-- LOCKED_ROUTE of a point, or LOCKED of a section. -/
def Ev.lockRoute (e : Ev) (o : Nat) : Bool := (e.holdsOf o).any fun h => h.2.isRoute && e.locksOn h.1

/-- An active route has chosen the element for one of its flank entries (R92, R93). -/
def Ev.flankHeld (e : Ev) (o : Nat) : Bool := (e.holdsOf o).any fun h => h.2.isFlank

/-- LOCKED_FLANK of a point or signal. -/
def Ev.lockFlank (e : Ev) (o : Nat) : Bool := (e.holdsOf o).any fun h => h.2.isFlank && e.locksOn h.1

/-- A route other than r reserves or holds a point in another position than p (R91, R93). -/
def Ev.heldOther (e : Ev) (r o p : Nat) : Bool :=
  (e.holdsOf o).any fun h => h.1 ≠ r && (h.2.isRoute || h.2.isFlank) && h.2.pos ≠ p

/-- A signal is the entry of an active route. -/
def Ev.isEntry (e : Ev) (o : Nat) : Bool := e.actives.any fun r => (e.def? r).any fun d => d.entry = o

/-! ### Moving a point (R75, R76, R78) -/

/-- The key whose area holds an element is not KEY_IN. -/
def Ev.keyOut (e : Ev) (o : Nat) : Bool :=
  ((e.elemDef? o).bind ElemDef.ky).any fun k => (e.elem k).state ≠ 3

/-- A shunt area that holds an element is GRANTED, other than the one to which a route belongs (R101). -/
def Ev.shunted (e : Ev) (owner : Option Nat) (o : Nat) : Bool :=
  ((e.elemDef? o).bind ElemDef.sa).any fun a => (e.elem a).state = 0 && owner ≠ some a

/-- Why R75 forbids a move: a lock, block, key, shunt area or HALT; or the section or UNPROVEN. In cycle 0 no point is commanded to
move (R112). -/
def Ev.moveFail (e : Ev) (o : Nat) : Bool × Bool :=
  let x := e.elem o
  (e.lockRoute o || e.lockFlank o || x.fc || e.halted.contains o || e.keyOut o || e.shunted none o,
   e.first || x.unproven || !(e.elemDef? o).all e.homeClear)

/-- A move command and its throw-time limit (R76, R92); in neither position the point is MOVING from now on (R74). -/
def Ev.drive (e : Ev) (o pos : Nat) : Ev :=
  let preset := ((e.elemDef? o).map ElemDef.preset).getD 0
  let between := !(e.elem o).unproven && Tab.getD e.raw o 0 % 4 = 0
  e.modElem o fun x => { x with cmd := pos, ta := startTimer preset, state := if between then 1 else x.state }

/-! ### Element requests (R67 step 4) -/

/-- A boundary holds a zone ACTIVE (R100, R109): the image ties the zone to it, and its neighbour reports EMERGENCY or its data
is UNPROVEN. -/
def Ev.heldByBoundary (e : Ev) (z : Nat) : Bool :=
  e.img.elems.any fun p => p.2.kind = .bb && p.2.ez = some z
    && ((e.elem p.1).unproven || (Tab.get? e.nbr p.1).any NbrData.emergency)

/-- Whether a section or zone can be restored, and the refusal otherwise (R71, R100). A zone that a boundary holds ACTIVE is
refused as one whose trigger is active (DEDUCED, log entry 133). -/
def Ev.restoreCheck (e : Ev) (o : Nat) (d : ElemDef) : Nat :=
  let x := e.elem o
  let det := Tab.getD e.raw o 0
  if d.kind = .ez then (if !x.unproven && det = 0 && !e.heldByBoundary o then stOk else stNotProven)
  else if det ≠ 2 && det ≠ 3 then stNotProven
  else if x.state = 0 && !x.unproven && !(e.holdsOf o).any (fun h => h.2.isRoute) then stOk
  else stLocked

/-- No element of an area carries a lock, and no active route holds any of them (R99, R101). -/
def Ev.areaFree (e : Ev) (members : List Nat) : Bool := members.all fun o => (e.holdsOf o).isEmpty

/-- One element request: its effect and its status. DESIGN CHOICE (log entry 125): POINT_BLOCK leaves a move command that is in force
as it is, since R76 names all that ends one; from then on R75 bars every further one. -/
def Ev.elemReq (e : Ev) (o : Nat) (q : ElemReq) : Ev × Nat :=
  match e.elemDef? o with
  | none => (e, stBadParam)
  | some d =>
    let x := e.elem o
    match q with
    | .halt =>
      let x' := { x with cmd := 0, ta := 0xFFFF, state := if x.state = 1 then 0 else x.state }
      ({ e.modElem o (fun _ => x') with halted := insertNat o e.halted }, stOk)
    | .move rev =>
      let pos := if rev then 2 else 1
      if x.state = pos + 1 then (e, stOk)
      else match e.moveFail o with
        | (true, _) => (e, stLocked)
        | (false, true) => (e, stNotProven)
        | (false, false) => (e.drive o pos, stAccepted)
    | .blockPoint on => (e.modElem o fun x => { x with fc := on }, stOk)
    | .blockSection on => (e.modElem o fun x => { x with fa := on }, stOk)
    | .replace =>
      if d.kind = .ez then (e.modElem o fun x => { x with state := 0 }, stOk)
      else ({ e with replaced := insertNat o e.replaced }, stOk)
    | .restoreStep1 => (e, e.restoreCheck o d)
    | .restore =>
      let st := e.restoreCheck o d
      if st ≠ stOk then (e, st)
      else if d.kind = .ez then (e.modElem o fun x => { x with state := 1 }, stOk)
      else (e.modElem o fun x => { x with state := 2, fb := true, ta := 0xFFFF }, stOk)
    | .release =>
      if d.kind = .sa then
        if x.state = 0 then (e, stOk)
        else if e.areaFree ((e.img.elems.filter fun p => p.2.sa = some o).map Prod.fst)
        then (e.modElem o fun x => { x with state := 0 }, stOk) else (e, stLocked)
      else if x.state = 0 then (e, stNotProven)
      else if x.state ≠ 3 then (e, stOk)
      else if e.areaFree ((e.img.elems.filter fun p => p.2.ky = some o).map Prod.fst)
      then (e.modElem o fun x => { x with state := 2 }, stOk) else (e, stLocked)
    | .lxClose => (e.modElem o fun x => { x with fa := true }, stOk)
    | .lxReopen => if x.fb then (e, stLocked) else (e.modElem o fun x => { x with fa := false }, stOk)

/-- The element requests in list order, each answered to its origin. -/
def Ev.elemReqs (e : Ev) : Ev :=
  e.each e.reqs.elemReqs fun e q =>
    let r := e.elemReq q.1 q.2.1
    r.1.answer q.2.2 r.2

/-- Boundary data accorded in this cycle: the neighbour's flags, and the boundary timeout starts again (R69, R109, R110). In cycle 0
every BB is UNPROVEN (R112), and the next accorded frame clears it. -/
def Ev.takeFrames (e : Ev) : Ev :=
  if e.first then e else
  e.each e.nbrFresh fun e o =>
    match Tab.get? e.nbr o with
    | some n =>
      e.modElem o fun x => { x with
        unproven := false, ta := startTimer (((e.elemDef? o).map ElemDef.preset).getD 0)
        fa := n.clear, fb := n.permit, fc := n.routeLocked }
    | none => e

/-- A zone tied to a boundary whose neighbour reports EMERGENCY, or whose data is UNPROVEN, is ACTIVE (R100, R109). -/
def Ev.boundaryZones (e : Ev) : Ev :=
  e.each (e.img.elems.filter fun p => p.2.kind = .ez) fun e p =>
    if e.heldByBoundary p.1 then e.modElem p.1 fun x => { x with state := 0 } else e

end Sys2Proof.Machine
end

