-- ==== Sys2Proof/Machine/Accord.lean ====
section
/-!
DEFINITION. The tick and the accord: rows 38 to 46 of the table (R34–R50, R55–R58, R62, R252, R347, R356, R360, R364, R366–R370).
-/

namespace Sys2Proof.Machine

/-! ### A lane's tick -/

/-- The cycle and tick that a message carries (R41): a VIEW belongs to the boundary that comes. -/
def State.msgTime (s : State) (kind : AccordKind) : Word × Nat :=
  if kind = .view && s.mod.mode.cycles then
    (if s.acc.tick = 9 && !s.acc.fresh then s.mod.cycle + 1 else s.mod.cycle, (s.acc.tick + 1) % 10)
  else (s.mod.cycle, s.acc.tick)

/-- A message as its sender's bogie compares it before it is sent: lane, cycle and tick, content, CRC-32C (R41; how they follow one another
is the model's own, log entry 139). -/
def State.accordMsg (s : State) (l : Lane) (kind : AccordKind) (content : List Byte) : List Byte :=
  let t := s.msgTime kind
  let body := fields [(1, l.id), (4, t.1.toNat), (1, t.2)] ++ content
  body ++ bytesOf 4 (crc32c body)

/-- A lane finishes its tick and sends its MARK (R34, R36, R38, R41, R64). It has not finished while work is left that the quantum holds, and
a halted lane finishes no tick. `work` is what the executive's own steps charge, whose constants the spec does not give. -/
def laneTickOp (l : Lane) (health : Byte) (work marginUs : Nat) (s : State) : State :=
  if s.mod.mode.lanesRun && s.ticking l && !(s.lane l).diag.halted && !s.workLeft then
    let total := min tickQuantum (s.knownWork + work)
    let h := health ||| (s.lane l).core.events
    ((s.countEvent l 0x0102 total none none).countEvent l 0x0104 (400 * marginUs) none none).throughBogie l
      (.message .mark (s.accordMsg l .mark (fields [(1, s.acc.tick), (1, h.toNat), (2, total)]))) fun s => s.modCore l fun c => { c with
        markSent := true, health := h, events := 0, work := total
        slackMin := if s.mod.mode.cycles then min c.slackMin (sat16 marginUs) else c.slackMin }
  else s

def execLaneTickComplete (lane : Lane) (health : Byte) (work marginUs : Nat) (s : State) : Host.Outcome State Fault Refusal :=
  .next (laneTickOp lane health work marginUs s)

/-- A lane has overrun (R38, R63). -/
def State.overrun (s : State) (l : Lane) : State := (s.modCore l fun c => { c with late := true }).leaveVote l 4 0

/-- T₃: a lane whose route engine has not completed has overrun, and one whose engine took another number of steps leaves the vote (R133,
R150). -/
def State.engineCheck (s : State) : State :=
  s.forLanes (s.lanes.mapL fun l _ => s.ticking l) fun s l =>
    let r := (s.lane l).rte
    if !r.tableDone then
      let t := s.modRte l fun r => { r with late := true }
      if t.laneSt l = .voting then t.overrun l else t
    else if r.steps ≠ 366601 && s.laneSt l = .voting then s.leaveVote l 7 0 else s

/-- The tick deadline passes without the lane's MARK (R38). -/
def tickDeadlineOp (l : Lane) (s : State) : State :=
  if s.mod.mode.cycles && s.laneSt l = .voting && !(s.lane l).core.markSent then s.overrun l else s

def execTickDeadline (lane : Lane) (s : State) : Host.Outcome State Fault Refusal := .next (tickDeadlineOp lane s)

/-! ### What a lane holds at its T₀ (R42, R43) -/

/-- The pair of a channel (R244, R249): its kind, the even and the odd channel. -/
def State.pairOf (s : State) (ch : Nat) : Option (PairKind × Nat × Nat) :=
  let even := ch / 2 * 2
  match Tab.get? s.image.chans even with
  | some d => if d.pair = .none then none else some (d.pair, even, even + 1)
  | none => none

/-- A valid combination of a pair (R249). -/
def PairKind.valid : PairKind → Bool → Bool → Bool
  | .equivalent, a, b => a = b
  | .antivalent, a, b => a ≠ b
  | .neither, a, b => !(a && b)
  | .none, _, _ => true

/-- What one lane senses of a channel. -/
def State.chSense (s : State) (l : Lane) (ch : Nat) : ChSense := Tab.getD (s.fch.lanes.get l).chans ch .zero

/-- The state a lane proposes for a channel (R249, R251, R252, R256). -/
def State.reported (s : State) (l : Lane) (ch : Nat) : Bool :=
  let c := s.chSense l ch
  match Tab.get? s.image.chans ch with
  | none => false
  | some d =>
    match d.mode with
    | .unused | .count => false
    | .output => c.hsClosed && c.lsClosed
    | .input =>
      let bad := c.testFail || c.cross || c.discrepancy || (s.fch.lanes.get l).groupLost.getLsbD (ch / 8)
      match s.pairOf ch with
      | some (k, a, b) => if bad then false else if k.valid (s.chSense l a).state (s.chSense l b).state then c.state else false
      | none => if bad then d.restHigh else c.state

/-- A word of 64 channels. -/
def chanWord (f : Nat → Bool) : BitVec 64 := (List.range 64).foldl (fun w i => if f i then w ||| (1 <<< i) else w) 0

/-- The queues of the vital rings in the order of R43. -/
def ringOrder : List Nat := [1, 0, 2, 3]

/-- The vital commands that a lane's rings hold, in the order of R43. -/
def State.vitalRing (s : State) (l : Lane) : List RingCmd := ringOrder.flatMap fun q => Tab.getD (s.host.rings.get l) q []

/-- A lane's snapshot at its T₀ (R42), which its proposal carries (R43). -/
def State.snapshot (s : State) (l : Lane) (time : Nat) : Proposal :=
  { cycle := s.mod.cycle, lane := l, health := (s.lane l).core.health, time := time
    nodes := Tab.mapV (s.acc.bufs.get l) fun _ b => (b.newer, b.older)
    chans := chanWord (s.reported l)
    counts := s.image.chans.filterMap fun p => if p.2.mode = .count then some (p.1, (s.chSense l p.1).word) else none
    cmds := (s.vitalRing l).take 32
    partner := if s.mod.role = .solo then none else s.plink.block.get l }

/-- The COUNT words are handed over and counting restarts, in every lane whatever its state (R252). -/
def State.handOver (s : State) : State :=
  let counts := (s.image.chans.filter fun p => p.2.mode = .count).map Prod.fst
  { s with fch := { s.fch with lanes := s.fch.lanes.map fun x =>
      { x with chans := counts.foldl (fun t ch => Tab.upd t ch .zero fun c => { c with word := c.edges % 2 ^ 32, edges := 0 }) x.chans } } }

/-! ### PERF_CONFIG at T₀ (R347, R479, R481) -/

/-- One counter of one lane takes a configuration and restarts from 0. -/
def PerfS.configure (p : PerfS) (c : PerfConfig) : PerfS :=
  { p with
    ctr := Tab.put p.ctr (c.counter % 16)
      { event := c.event, priv := c.priv, master := if c.master = 0xFF then 0 else c.master, anyMaster := c.master = 0xFF
        enable := c.enable ≠ 0, ovf := false, addrLo := c.addrLo, addrHi := c.addrHi, sampleN := c.sample, count := 0, phase := 0 }
    window := c.window, ring := [], writeIndex := 0 }

def State.applyPerf (s : State) : State :=
  let due := s.host.perfDue
  let s1 := s.mapLanes fun _ x => { x with perf := due.foldl PerfS.configure x.perf }
  { s1 with host := { s1.host with perfDue := [] } }

/-! ### The layout of R43 -/

/-- The proposal layout over a set's parts. -/
def layoutOf (cycle : Word) (lane health time : Nat) (nodes : Tab (Option Frame × Option Frame)) (chans : BitVec 64)
    (counts : Tab Nat) (cmds : List RingCmd) (partner : Option PartnerBlk) : List Byte :=
  let node (n : Nat) := Tab.getD nodes n (none, none)
  let valid (n : Nat) : Nat := b2n (node n).1.isSome + 2 * b2n (node n).2.isSome
  let frame (f : Option Frame) : List Byte := match f with
    | some f => bytesOf 4 f.round ++ bytesOf 4 f.crc
    | none => leBytes 8 0
  let cmd (c : RingCmd) : List Byte := fields [(1, c.queue), (1, 0), (2, c.source), (4, c.seq.toNat), (8, c.code.toNat)]
  let body := bytesOf 4 cycle ++ fields [(1, lane), (1, health), (2, 0), (8, time)]
    ++ ((List.range 128).flatMap fun i => leBytes 1 (valid (4 * i) + 4 * valid (4 * i + 1) + 16 * valid (4 * i + 2) + 64 * valid (4 * i + 3)))
    ++ ((List.range 512).flatMap fun n => frame (node n).1 ++ frame (node n).2)
    ++ bytesOf 8 chans ++ ((List.range 64).flatMap fun ch => leBytes 4 (Tab.getD counts ch 0))
    ++ fields [(1, cmds.length), (3, 0)] ++ padTo 512 (cmds.flatMap cmd)
    ++ match partner with
      | some p => bytesOf 4 p.cycle ++ bytesOf 4 p.crc ++ fields [(1, 1), (3, 0)]
      | none => leBytes 12 0
  body ++ bytesOf 4 (crc32c body)

/-- A proposal's bytes (R43). -/
def Proposal.bytes (p : Proposal) : List Byte :=
  layoutOf p.cycle p.lane.id p.health.toNat p.time p.nodes p.chans p.counts p.cmds p.partner

/-! ### The tick boundary -/

/-- What passes with 1 ms in every mode: operating time, the governor's step, the degraded time and FULL's (R362, R498), and the
ticks since the partner was last heard (R366, R372). -/
def State.passTick (s : State) : State :=
  let s0 := (s.passMs 1).mapLanes fun _ x => { x with pwr := { x.pwr with stepped := false } }
  let s1 := s0.each (Lane.all.filter fun l => s0.inStep l 4 && (s0.lane l).pwr.level ≠ 0) State.stepUp
  let deg := s1.degraded
  let full := s1.mod.mode = .operate && !deg && LaneSet.count s1.votingLanes = 3
  { s1 with
    mod := { s1.mod with degradedLeft := if deg then s1.mod.degradedLeft - 1 else s1.mod.degradedLeft
                         fullHeld := if full then s1.mod.fullHeld + 1 else 0 }
    plink := { s1.plink with quiet := min 255 (s1.plink.quiet + 1), beat := false
                             live := if s1.plink.quiet = 0 then s1.plink.live + 1 else 0
                             holdMs := if s1.plink.holding then s1.plink.holdMs + 1 else s1.plink.holdMs
                             heard := s1.plink.hearing, hearing := LaneSet.none
                             silent := if s1.plink.beat then 0 else min 255 (s1.plink.silent + 1) } }

/-- The lanes whose MARK, sent by the deadline, each lane received: its own among them (R39, R63). -/
def State.marksHeard (s : State) (marks : PerLane LaneSet) (x : Lane) : LaneSet :=
  s.lanes.mapL fun y l => (s.acc.fresh || l.core.markSent) && (x = y || ((marks.get x).get y && !(s.lane x).core.lost.contains (y, .mark)))

/-- The table of who heard whom: a lane hears another when the other's MARK, sent by the deadline, and its VIEW have reached it. -/
def State.heardTable (s : State) (marks views : PerLane LaneSet) : PerLane LaneSet :=
  let row (x : Lane) : LaneSet :=
    (s.marksHeard marks x).mapL fun y heard => heard && (x = y || ((views.get x).get y && !(s.lane x).core.lost.contains (y, .view)))
  ⟨row .a, row .b, row .c⟩

/-- The median of the readings that the lanes exchange, or the earlier of two (R62). -/
def agreedReading (l : List Nat) : Option Nat :=
  match l with
  | [a, b, c] => some (median3 a b c)
  | [a, b] => some (min a b)
  | _ => l.head?

/-- In LOADED the lanes exchange readings and VIEW tables towards the accord; after the hundredth tick they set their tick timers (R62). -/
def State.formTick (s : State) (table : PerLane LaneSet) (clock : PerLane (BitVec 64)) : State :=
  if s.mod.mode = .loaded && s.img.checked then
    let f := s.acc.formation.getD ⟨0, 0, false⟩
    let two := (votingSetOf table s.joinable).isSome
    let g : Formation := { f with readings := min 100 (f.readings + 1), run := if two && 100 ≤ f.readings then min 10 (f.run + 1) else 0 }
    let shared := Lane.all.filter fun l => s.laneSt l ≠ .hold && s.laneSt l ≠ .failed
    let timer := agreedReading (shared.map fun l => (clock.get l).toNat)
    let s1 := if f.readings = 99 then s.each shared fun s l => s.modCore l fun c => { c with tickTimer := timer } else s
    { s1 with acc := { s1.acc with views := table, formation := some g } }
  else s

/-- Lanes that the boundary puts out of the vote, and the new voting set (R38–R40). -/
def State.fixVote (s : State) (table : PerLane LaneSet) : State :=
  let was := s.votingLanes
  let late := if s.acc.fresh then LaneSet.none else was.mapL fun l b => b && !(s.lane l).core.markSent
  let onTime := LaneSet.diff was late
  let lone := onTime.mapL fun l b => b && (LaneSet.list (table.get l)).all fun m => m = l
  let s1 := s.forLanes late State.overrun
  match votingSetOf table onTime with
  | some v =>
    let s2 := s1.forLanes (LaneSet.diff onTime v) fun s l =>
      if lone.get l then (s.modCore l fun c => { c with lone := true }).leaveVote l 5 2 else s.leaveVote l 5 1
    { s2 with acc := { s2.acc with voting := v, views := table } }
  | none =>
    let s2 := s1.forLanes lone fun s l => (s.modCore l fun c => { c with lone := true }).leaveVote l 5 2
    let s3 := if s2.mod.mode.cycles then s2.enterSafe 16 else s2
    { s3 with acc := { s3.acc with voting := LaneSet.none, views := table } }

/-- The content of a HEARTBEAT (R364), in the table's order (log entry 14). -/
def State.heartbeat (s : State) (l : Lane) : List Byte :=
  fields [(1, l.id), (1, s.modeWord), (1, LaneSet.bits s.votingLanes), (4, s.mod.cycle.toNat), (1, s.acc.tick), (4, s.net.claim.toNat),
    (1, s.mod.role.code), (1, s.mod.cond.code), (1, b2n s.rightsNow)]

/-- Each voting lane of a module in duplex sends its heartbeat (R364). -/
def State.heartbeats (s : State) : State :=
  if s.mod.pos = 0 then s else s.forLanes s.votingLanes fun s l => s.sendPartner 3 (s.heartbeat l)

/-- A lane that was in step throughout its probation rejoins at T₀ (R361 step 6). -/
def State.rejoin (s : State) (l : Lane) : State :=
  let old := s.modeWord
  let r := (s.lane l).core.resync
  let s1 := s.modCore l fun c => { c with
    st := .voting, resync := .none, stored := 0, rejoined := satAdd 0xFFFF c.rejoined 1, rejoining := true }
  let s2 : State := { s1 with acc := { s1.acc with voting := s1.acc.voting.set l true } }
  let s3 := s2.record 0x0111 (fields [(1, l.id), (1, r.failedCopies + 1), (2, sat16 r.caughtUp), (4, s.rcd.opTime - r.since)])
  (s3.answerAsked l stOk).noteDegraded old 15

/-- T₀: cycle number, lanes outside the vote, snapshots (R25, R42, R56, R347, R356, R361). -/
def State.tick0 (s : State) (clock : PerLane (BitVec 64)) : State :=
  let first := s.acc.fresh
  let s1 := s.each Lane.all fun s l =>
    if s.laneSt l = .minority then s.takeNext l
    else if s.laneSt l = .resync && (s.lane l).core.resync.step = 6 then s.rejoin l else s
  let begin_ (r : ResyncS) : ResyncS :=
    { r with armWait := r.armWait - 1, waiting := false, since := if r.waiting then s1.rcd.opTime else r.since }
  let s2 := s1.mapLanes fun l x => LaneS.suspendForAccord { x with
    core := { x.core with resync := begin_ x.core.resync, inAccord := s1.ticking l }, diag := { x.diag with hkAlive := !s.mod.hkLost } }
  let s3 : State := { s2 with mod := { s2.mod with cycle := if first then s2.mod.cycle else s2.mod.cycle + 1 } }
  let s4 := s3.applyPerf.handOver
  let shot (l : Lane) : Option Proposal := if s4.ticking l then some (s4.snapshot l (clock.get l).toNat) else none
  if s4.plink.safeAfter && s4.mod.role = .tender then s4.enterSafe 18 else
  { s4 with
    plink := { s4.plink with copyWait := s4.plink.copyWait - 1, block := ⟨none, none, none⟩ }
    sup := { s4.sup with stopStaged := [] }
    acc := { s4.acc with
      fresh := false, isOpen := true, snaps := ⟨shot .a, shot .b, shot .c⟩, sentProp := ⟨none, none, none⟩
      computed := ⟨none, none, none⟩, fetching := ⟨[], [], []⟩, decision := ⟨none, none, none⟩, verdict := ⟨none, none, none⟩ } }

/-- A tick boundary (R39). -/
def tickBoundaryOp (marks views : PerLane LaneSet) (clock : PerLane (BitVec 64)) (s : State) : State :=
  if s.mod.mode = .off then s
  else
    let p := s.passTick
    let s1 := if p.mod.mode.cycles && p.acc.tick = 2 then p.engineCheck else p
    let table := s1.heardTable marks views
    let heard := s1.marksHeard marks
    if !s1.mod.mode.cycles then
      (s1.formTick table clock).mapLanes fun l x => { x with core := { x.core with markSent := false, heard := heard l } }
    else
      let s2 := s1.fixVote table
      let s3 := s2.mapLanes fun l x => { x with core := { x.core with
        markSent := false, heard := heard l, retry := [], lost := x.core.lost.filter fun p => p.2 ≠ .mark && p.2 ≠ .view } }
      if !s3.mod.mode.cycles then s3
      else
        let k := (s3.acc.tick + 1) % 10
        let s4 : State := { s3 with 
          acc := { s3.acc with tick := k, sliced := false }, sheets := { s3.sheets with charged := 0, point := 0 }
          ixl := { s3.ixl with graphLeft := if s3.ixl.phase = 6 then s3.ixl.graphLeft - tickQuantum else s3.ixl.graphLeft } }
        if (k = 4 && s4.acc.safeAt4) || s4.acc.safeNext then s4.enterSafe 17
        else
          let s5 := if k = 0 then s4.tick0 clock else s4
          s5.heartbeats.edgeSelect

def execTickBoundary (marks views : PerLane LaneSet) (clock : PerLane (BitVec 64)) (s : State) : Host.Outcome State Fault Refusal :=
  .next (tickBoundaryOp marks views clock s)

/-! ### Accord messages -/

/-- The item that a FETCH_DATA message carries (log entry 139): its kind, and what names it. -/
def fetchItemOf (d : List Byte) : FetchItem :=
  match byteAt d 0 with
  | 0 => .frame (leAt d 1 2) (BitVec.ofNat 32 (leAt d 3 4)) (BitVec.ofNat 32 (leAt d 7 4))
  | 1 => .command (byteAt d 1) (leAt d 2 2) (BitVec.ofNat 32 (leAt d 4 4)) (BitVec.ofNat 64 (leAt d 8 8))
  | _ => .block (BitVec.ofNat 32 (leAt d 1 4)) (BitVec.ofNat 32 (leAt d 5 4))

/-- A message ends in a CRC-32C over its other bytes (R41). -/
def crcGood (bytes : List Byte) : Bool :=
  4 < bytes.length && leAt bytes (bytes.length - 4) 4 = (crc32c (bytes.take (bytes.length - 4))).toNat

/-- A message carries its sender's identity and the cycle and tick in which it is awaited (R41). -/
def State.awaited (s : State) (sender : Lane) (kind : AccordKind) (bytes : List Byte) : Bool :=
  10 ≤ bytes.length && byteAt bytes 0 = sender.id && leAt bytes 1 4 = (s.msgTime kind).1.toNat && byteAt bytes 5 = (s.msgTime kind).2

/-- An accord message arrives; with a bad CRC-32C it is asked for once more, and counts as not received the second time (R41). A FETCH_DATA
message brings the item that the receiver asked its sender for (R45). A message of another lane, cycle or tick is none of this
exchange. -/
def accordMessageOp (receiver sender : Lane) (kind : AccordKind) (bytes : List Byte) (s : State) : State :=
  if s.mod.mode.lanesRun && receiver ≠ sender && s.ticking receiver then
    let key := (sender, kind)
    if crcGood bytes then
      if s.awaited sender kind bytes then
        let s1 := s.modCore receiver fun c => { c with retry := c.retry.filter fun p => p ≠ key }
        if kind = .fetchData then
          { s1 with acc := { s1.acc with
            fetching := s1.acc.fetching.modify receiver (List.filter fun x => x ≠ (fetchItemOf (bytes.drop 6), sender)) } }
        else s1
      else s
    else s.modCore receiver fun c =>
      let counted := if sender = receiver.next then { c with nextErr := satAdd 0xFFFF c.nextErr 1 }
        else { c with prevErr := satAdd 0xFFFF c.prevErr 1 }
      if c.retry.contains key then { counted with retry := c.retry.filter (fun p => p ≠ key), lost := key :: c.lost }
      else { counted with retry := key :: c.retry }
  else s

/-- Lanes whose message of a kind counts as received: it was sent, and no voting lane has lost it (R41; log entry 139). -/
def State.heardFrom (s : State) (sent : LaneSet) (kind : AccordKind) : LaneSet :=
  sent.mapL fun l b => b && !(LaneSet.list s.votingLanes).any fun m => (s.lane m).core.lost.contains (l, kind)

/-- Losses of some kinds have been reckoned with. -/
def State.dropLost (s : State) (kinds : List AccordKind) : State :=
  s.mapLanes fun _ x => { x with core := { x.core with lost := x.core.lost.filter fun p => !kinds.contains p.2 } }

def execAccordMessageReceived (receiver sender : Lane) (kind : AccordKind) (bytes : List Byte) (s : State) :
    Host.Outcome State Fault Refusal :=
  .next (accordMessageOp receiver sender kind bytes s)

/-- The input accord of a cycle is under way. -/
def State.accordOpen (s : State) : Bool := s.mod.mode.cycles && s.acc.isOpen && s.acc.tick = 0

/-- A voting lane sends its input proposal, once its bogie has compared it (R43, R57, R352). -/
def proposalSendOp (l : Lane) (s : State) : State :=
  if s.accordOpen && s.laneSt l = .voting then
    s.throughBogie l (.message .proposal (s.accordMsg l .proposal ((s.acc.snaps.get l).elim [] Proposal.bytes))) fun s => { s with acc := { s.acc with sentProp := s.acc.sentProp.set l (s.acc.snaps.get l) } }
  else s

def execProposalSend (lane : Lane) (s : State) : Host.Outcome State Fault Refusal := .next (proposalSendOp lane s)

/-! ### The accorded set (R44) -/

/-- The frames of a node that a proposal names. -/
def Proposal.framesOf (p : Proposal) (n : Nat) : List Frame :=
  match Tab.get? p.nodes n with
  | some (a, b) => a.toList ++ b.toList
  | none => []

/-- The same (round counter, CRC) pair. -/
def Frame.same (f g : Frame) : Bool := f.round = g.round && f.crc = g.crc

/-- The newest pair that at least two proposals hold. -/
def accordFrame (ps : List Proposal) (n : Nat) : Option Frame :=
  let held (f : Frame) : Bool := 2 ≤ (ps.filter fun p => (p.framesOf n).any fun g => g.same f).length
  ((ps.flatMap fun p => p.framesOf n).filter held).foldl (fun best f =>
    match best with
    | none => some f
    | some b => if newer f.round b.round then some f else best) none

/-- Two lanes hold the same command (R44). -/
def RingCmd.same (a b : RingCmd) : Bool := a.queue = b.queue && a.source = b.source && a.seq = b.seq && a.code = b.code

/-- The common beginning of two rings. -/
def commonRun : List RingCmd → List RingCmd → List RingCmd
  | a :: as, b :: bs => if a.same b then a :: commonRun as bs else []
  | _, _ => []

/-- The longest of several lists, the first of them where several are longest. -/
def longest (l : List (List RingCmd)) : List RingCmd := l.foldl (fun best x => if best.length < x.length then x else best) []

/-- Per queue, the longest beginning of the ring that two lanes hold. -/
def accordQueue (ps : List Proposal) (q : Nat) : List RingCmd :=
  let ring (p : Proposal) := p.cmds.filter fun c => c.queue = q
  match ps with
  | [a, b] => commonRun (ring a) (ring b)
  | [a, b, c] => longest [commonRun (ring a) (ring b), commonRun (ring a) (ring c), commonRun (ring b) (ring c)]
  | _ => []

/-- The partner block that two lanes hold. -/
def accordPartner (ps : List Proposal) : Option PartnerBlk :=
  (ps.filterMap Proposal.partner).find? fun b =>
    2 ≤ (ps.filter fun p => p.partner.any fun c => c.cycle = b.cycle && c.crc = b.crc).length

/-- The accorded set of two or three proposals by R44; none from fewer. -/
def accordBy (img : Image) (ps : List Proposal) : Option Accorded :=
  let used : LaneSet := ps.foldl (fun u p => u.set p.lane true) LaneSet.none
  let nodes := (ps.flatMap fun p => Tab.keys p.nodes).foldl (fun l n => insertNat n l) []
  let frames : Tab Frame := nodes.filterMap fun n => (accordFrame ps n).map fun f => (n, f)
  let cmds := (ringOrder.flatMap (accordQueue ps)).take 32
  let restHigh (i : Nat) : Bool := (Tab.get? img.chans i).any ChDef.restHigh
  let counted := (img.chans.filter fun p => p.2.mode = .count).map Prod.fst
  let count (p : Proposal) (ch : Nat) := Tab.getD p.counts ch 0
  match ps with
  | [a, b] =>
    some { used := used, frames := frames, cmds := cmds, partner := accordPartner ps, time := min a.time b.time
           chans := chanWord fun i => if a.chans.getLsbD i = b.chans.getLsbD i then a.chans.getLsbD i else restHigh i
           counts := counted.map fun ch => (ch, min (count a ch) (count b ch)) }
  | [a, b, c] =>
    some { used := used, frames := frames, cmds := cmds, partner := accordPartner ps, time := median3 a.time b.time c.time
           chans := (a.chans &&& b.chans) ||| (a.chans &&& c.chans) ||| (b.chans &&& c.chans)
           counts := counted.map fun ch => (ch, median3 (count a ch) (count b ch) (count c ch)) }
  | _ => none

/-! ### The accorded set's layout, and the block that a lead sends (R46, R49, R364) -/

/-- The accorded set in the layout of R43, lane identity, health byte and unaccorded validity bits 0 (R46). -/
def Accorded.bytes (a : Accorded) (cycle : Word) : List Byte :=
  layoutOf cycle 0 0 a.time (Tab.mapV a.frames fun _ f => (some f, none)) a.chans a.counts a.cmds a.partner

/-- The decision hash (R46). -/
def Accorded.hash (a : Accorded) (cycle : Word) : BitVec 64 := crc64 (a.bytes cycle)

/-- The data that a partner block adds: frames that the block before did not carry, and the packets of commands (R364; how they
follow one another is the model's own, log entry 14). -/
def blockExtras (before : Tab Frame) (a : Accorded) : List Byte :=
  let fresh := a.frames.filter fun p => !(Tab.get? before p.1).any fun f => f.same p.2
  leBytes 2 fresh.length ++ (fresh.flatMap fun p => fields [(2, p.1), (1, p.2.data.length)] ++ p.2.data)
    ++ a.cmds.flatMap fun c =>
      fields [(8, c.stamp), (4, c.hostTime.toNat), (2, c.opcode), (1, b2n c.mac), (1, c.port.code), (2, c.params.length)] ++ c.params

/-- Frames as a block carries them: n entries, and what follows them. -/
def readFrames : Nat → List Byte → Tab (List Byte) × List Byte
  | 0, bs => ([], bs)
  | n + 1, bs =>
    let len := byteAt bs 2
    let r := readFrames n (bs.drop (3 + len))
    (Tab.put r.1 (leAt bs 0 2) ((bs.drop 3).take len), r.2)

/-- Commands as a block carries them: the entries of the layout, completed by their packets. -/
def readCmds : List (List Byte) → List Byte → List RingCmd
  | [], _ => []
  | e :: es, bs =>
    let len := leAt bs 16 2
    ⟨leAt bs 0 8, if byteAt bs 15 = 0 then .a else .b, leAt e 2 2, byteAt e 0, leAt bs 12 2, BitVec.ofNat 32 (leAt e 4 4),
      byteAt bs 14 = 1, BitVec.ofNat 32 (leAt bs 8 4), BitVec.ofNat 64 (leAt e 8 8), (bs.drop 18).take len⟩ :: readCmds es (bs.drop (18 + len))

/-- The accorded set that a partner block carries (R368). A frame's data comes from the module's own proposals, the block, or the
frame accorded before; a frame whose data stands nowhere is not accorded. -/
def blockSet (s : State) (own : Accorded) (ps : List Proposal) (b : PartnerBlk) : Accorded :=
  let x := b.body
  let extra := x.drop 9132
  let fr := readFrames (leAt extra 0 2) (extra.drop 2)
  let frame (n : Nat) : Option (Nat × Frame) :=
    if bitOf (byteAt x (16 + n / 4)) (2 * (n % 4)) then
      let e := x.drop (144 + 16 * n)
      let f : Frame := ⟨BitVec.ofNat 32 (leAt e 0 4), BitVec.ofNat 32 (leAt e 4 4), []⟩
      match (ps.flatMap fun p => p.framesOf n).find? fun g => g.same f with
      | some g => some (n, g)
      | none => match Tab.get? fr.1 n with
        | some d => some (n, { f with data := d })
        | none => match (Tab.getD s.net.nodes n .none).last with
          | some g => if g.same f then some (n, g) else none
          | none => none
    else none
  { used := own.used, frames := (List.range 512).filterMap frame, chans := BitVec.ofNat 64 (leAt x 8336 8)
    counts := (List.range 64).filterMap fun ch =>
      let w := leAt x (8344 + 4 * ch) 4
      if w = 0 then none else some (ch, w)
    cmds := readCmds (chunks 16 (byteAt x 8600) (x.drop 8604)) fr.2, partner := some b, time := leAt x 8 8 }

/-- A tender in OPERATE that is not in holding takes the lead's set (R49, R368, R370). -/
def State.shadows (s : State) : Bool := s.mod.mode = .operate && s.mod.role = .tender && !s.plink.holding

/-- The accorded set that a lane computes from the proposals it received of the voting set (R44, R368). -/
def State.computeFor (s : State) (ps : List Proposal) : Option Accorded :=
  (accordBy s.image ps).map fun own =>
    if s.shadows then match own.partner with
      | some b => blockSet s own ps b
      | none => own
    else own

/-! ### RX_MISMATCH and input states (R47) -/

/-- Differences of a proposal from the accorded set that timing cannot explain: item, node or source, round or sequence. -/
def mismatches (a : Accorded) (p : Proposal) : List (Nat × Nat × Nat) :=
  (a.frames.filter fun f => (p.framesOf f.1).any fun g => g.round = f.2.round && g.crc ≠ f.2.crc).map (fun f => (0, f.1, f.2.round.toNat))
  ++ (a.cmds.filter fun c => p.cmds.any fun d => d.queue = c.queue && d.source = c.source && d.seq = c.seq && d.code ≠ c.code).map
      (fun c => (1, c.source, c.seq.toNat))
  ++ match a.partner, p.partner with
    | some b, some c => if b.cycle = c.cycle && b.crc ≠ c.crc then [(2, 0, b.cycle.toNat)] else []
    | _, _ => []

/-- One RX_MISMATCH against a lane; the third within 100 cycles ends its vote. -/
def State.rxMismatch (s : State) (l : Lane) (x : Nat × Nat × Nat) : State :=
  let c := s.mod.cycle.toNat
  let s1 := (s.record 0x0151 (fields [(1, l.id), (1, x.1), (2, x.2.1), (4, c), (4, x.2.2)])).modCore l fun k =>
    { k with rxTimes := c :: k.rxTimes.filter fun t => c < t + 100 }
  if 3 ≤ (s1.lane l).core.rxTimes.length then s1.leaveVote l 5 6 else s1

/-- A lane's input states against the accorded ones: the third consecutive difference is a sense-path fault (R47). -/
def State.senseCheck (s : State) (a : Accorded) (p : Proposal) : State :=
  let judged := (s.image.chans.filter fun d => d.2.mode = .input || d.2.mode = .output).map Prod.fst
  let run := s.acc.senseRun.get p.lane
  let differs (ch : Nat) : Bool := a.chans.getLsbD ch ≠ p.chans.getLsbD ch
  let next : Tab Nat := (judged.filter differs).map fun ch => (ch, min 4 (Tab.getD run ch 0 + 1))
  let s1 : State := { s with acc := { s.acc with senseRun := s.acc.senseRun.set p.lane next } }
  s1.each ((next.filter fun x => x.2 = 3).map Prod.fst) fun s ch =>
    let t := s.recordLane p.lane 0x0304 (fields [(1, p.lane.id), (1, ch), (1, 0), (1, 0)])
    { t with fch := { t.fch with lanes := t.fch.lanes.modify p.lane fun x =>
        { x with chans := Tab.upd x.chans ch .zero fun c => { c with senseFault := true } } } }

/-- The items of an accorded set. -/
def Accorded.items (a : Accorded) : List FetchItem :=
  (a.frames.map fun f => .frame f.1 f.2.round f.2.crc) ++ (a.cmds.map fun c => .command c.queue c.source c.seq c.code)
    ++ a.partner.toList.map fun b => .block b.cycle b.crc

/-- A proposal holds an item. -/
def Proposal.holds (p : Proposal) : FetchItem → Bool
  | .frame n r c => (p.framesOf n).any fun g => g.round = r && g.crc = c
  | .command q o n c => p.cmds.any fun d => d.queue = q && d.source = o && d.seq = n && d.code = c
  | .block c k => p.partner.any fun b => b.cycle = c && b.crc = k

/-- The items of an accorded set that a lane's own proposal lacks, each with the first lane in the order A, B, C that proposed it (R45). -/
def fetches (sent : PerLane (Option Proposal)) (own : Option Proposal) (a : Accorded) : List (FetchItem × Lane) :=
  (a.items.filter fun x => own.any fun p => !p.holds x).filterMap fun x =>
    (Lane.all.find? fun m => (sent.get m).any fun p => p.holds x).map fun m => (x, m)

/-- A node frame. -/
def FetchItem.isFrame : FetchItem → Bool
  | .frame .. => true
  | _ => false

/-- T₀ + 70 µs: each voting lane computes the accorded set and fetches what it does not hold (R44, R45, R47). -/
def accordedSetOp (received : PerLane LaneSet) (s : State) : State :=
  if s.accordOpen then
    let voting := s.votingLanes
    let lost (x y : Lane) : Bool := (s.lane x).core.lost.contains (y, .proposal)
    let props (l : Lane) : List Proposal := Lane.all.filterMap fun m =>
      if voting.get m && (m = l || ((received.get l).get m && !lost l m)) then s.acc.sentProp.get m else none
    let set (l : Lane) : Option Accorded := if voting.get l then s.computeFor (props l) else none
    let computed : PerLane (Option Accorded) := ⟨set .a, set .b, set .c⟩
    let due (l : Lane) : List (FetchItem × Lane) := match computed.get l with
      | some a => fetches s.acc.sentProp (s.acc.snaps.get l) a
      | none => []
    let s1 : State := { s with acc := { s.acc with computed := computed, fetching := ⟨due .a, due .b, due .c⟩ } }
    match (Lane.all.filterMap computed.get).head? with
    | none => s1
    | some a =>
      s1.each (Lane.all.filterMap s.acc.sentProp.get) fun s p =>
        (s.each (mismatches a p) fun s x => if s.laneSt p.lane = .voting then s.rxMismatch p.lane x else s).senseCheck a p
  else s

def execAccordedSetCompute (received : PerLane LaneSet) (s : State) : Host.Outcome State Fault Refusal :=
  .next (accordedSetOp received s)

/-- T₀ + 130 µs with a fetch incomplete (R45). -/
def fetchTimeoutOp (l : Lane) (s : State) : State :=
  if s.accordOpen && s.laneSt l = .voting && !(s.acc.fetching.get l).isEmpty then s.leaveVote l 5 3 else s

def execFetchTimeout (lane : Lane) (s : State) : Host.Outcome State Fault Refusal := .next (fetchTimeoutOp lane s)

/-! ### The input accord closes (R46) -/

/-- The lanes of the greatest group of equal hashes, if two agree (R46, R52). -/
def agreeing (h : PerLane (Option (BitVec 64))) : Option LaneSet :=
  let same (x y : Lane) : Bool := (h.get x).isSome && h.get x = h.get y
  votingEntries.find? fun e => (LaneSet.list e).all fun x => (LaneSet.list e).all fun y => same x y

/-- The arrival place enters the buffer; two frames are held (R42). -/
def NodeBuf.settle (b : NodeBuf) : NodeBuf :=
  match b.arrival with
  | none => b
  | some f => match b.newer with
    | some g => if Machine.newer f.round g.round then ⟨some f, some g, none⟩ else { b with arrival := none }
    | none => ⟨some f, b.older, none⟩

/-- When a frame's round began, in µs, nearest to a time (R50, R190). -/
def roundStartUs (now : Nat) (r : Word) : Nat :=
  let cur := now / 10000
  let back := (BitVec.ofNat 32 cur - r).toNat
  if back < 2 ^ 31 then (cur - back) * 10000 else (cur + (r - BitVec.ofNat 32 cur).toNat) * 10000

/-- Ages and last accorded frames of the nodes (R50). -/
def State.ageNodes (s : State) (a : Accorded) : State :=
  let step (n : Nat) (x : NodeSt) : NodeSt :=
    match Tab.get? a.frames n with
    | some f => { x with age := some (a.time - roundStartUs a.time f.round), last := some f }
    | none => { x with age := x.age.map (· + 10000) }
  let known := Tab.keys a.frames
  let nodes := known.foldl (fun t n => if (Tab.get? t n).isSome then t else Tab.put t n .none) s.net.nodes
  { s with net := { s.net with nodes := Tab.mapV nodes step } }

/-- Accords at which a command has been held by one lane only and has stayed out (R48). -/
def State.countLone (s : State) (a : Accorded) : State :=
  let props := Lane.all.filterMap fun l => if s.laneSt l = .voting then s.acc.sentProp.get l else none
  let lone := props.flatMap fun p => (p.cmds.filter fun c =>
    !a.cmds.any (fun d => d.same c) && (props.all fun q => q.lane = p.lane || !q.cmds.any fun d => d.same c)).map fun c => (p.lane, c)
  let ref (c : RingCmd) : CmdRef := ⟨BitVec.ofNat 16 c.source, Fin.ofNat 16 c.queue, c.seq⟩
  let next := lone.map fun x =>
    let n := ((s.acc.unaccorded.find? fun u => u.1 = ref x.2 && u.2.1 = x.1).map fun u => u.2.2).getD 0
    (ref x.2, x.1, n + 1)
  { s with acc := { s.acc with unaccorded := next } }

/-- Accorded commands leave the rings of every lane (R48, R308). -/
def State.takeAccorded (s : State) (a : Accorded) : State :=
  { s with host := { s.host with rings := s.host.rings.map fun t => Tab.mapV t fun _ l => l.filter fun c => !a.cmds.any fun d => d.same c } }

/-- What a lead and a tender send at T₀ + 150 µs (R364): the block with the accorded set, or the tender's status. -/
def State.sendBlock (s : State) (before : Tab Frame) (a : Accorded) : State :=
  if s.mod.pos = 0 || s.mod.mode ≠ .operate then s
  else match s.mod.role with
  | .lead => s.forLanes s.votingLanes fun s _ => s.sendPartner 5 (a.bytes s.mod.cycle ++ blockExtras before a)
  | .tender => s.forLanes s.votingLanes fun s _ => s.sendPartner 6
      (fields [(4, s.mod.cycle.toNat), (1, s.modeWord), (1, s.mod.cond.code), (1, s.plink.shadow.code), (4, s.net.claim.toNat), (4, s.net.otherClaim.toNat)])
  | .solo => s

/-- What a tender without a block becomes (R369): UNSYNCED with a partner resync, or holding. -/
def State.tenderInput (s : State) (a : Accorded) : State :=
  if s.mod.mode = .operate && s.mod.role = .tender && s.mod.cond = .none && a.partner.isNone && !s.plink.holding then
    if s.plink.silent = 0 then
      let t := s.setCond .unsynced 1
      t.beginPartnerResync
    else { s with plink := { s.plink with holding := true, holdMs := 0 } }
  else s

/-- The input accord ends with a set (R42, R46, R48, R50, R55, R360). -/
def State.closeWith (s : State) (v : LaneSet) (a : Accorded) (units : Nat) : State :=
  let before := (Tab.ofList (s.net.nodes.filterMap fun p => p.2.last.map fun f => (p.1, f)), s.sourcesBefore)
  let s1 := (LaneSet.list v).foldl (fun s l =>
    let m := (fetches s.acc.sentProp (s.acc.snaps.get l) a).map Prod.fst
    let n := (m.filter FetchItem.isFrame).length
    s.modCore l fun c => { c with
      fetched := c.fetched || !m.isEmpty, fetchFrames := satAdd 0xFFFF c.fetchFrames n, fetchCmds := satAdd 0xFFFF c.fetchCmds (m.length - n)
      inAccordMax := max c.inAccordMax (sat16 units) }) s
  let s2 := ((s1.countLone a).takeAccorded a).ageNodes a
  let s3 := s2.mapLanes fun _ x => if x.core.st = .resync && (x.core.resync.copyRunning || x.core.resync.step = 4) then
    { x with core := { x.core with stored := x.core.stored + 1, resync := { x.core.resync with behind := x.core.resync.behind + 1 } } } else x
  let s3 := s3.mapLanes fun _ x => LaneS.resumeAfterAccord { x with
    core := { x.core with inAccord := false }, rte := { x.rte with tableDone := false, graphDone := false, cmpDone := false } }
  let s3 := s3.each (Lane.all.filter s3.ticking) fun s l => s.phaseAmong l 1 2
  let keep := s3.plink.resync && (s3.plink.copying || s3.plink.resyncStep = 4)
  let s4 : State := { s3 with
    plink := { s3.plink with stored := if keep then s3.plink.stored ++ [((a.partner.map PartnerBlk.cycle).getD s3.mod.cycle, a)] else s3.plink.stored }
    ixl := { s3.ixl with phase := 1, graphDone := false, cmpDone := false }
    sheets := { s3.sheets with evBefore := before.2 }
    sup := { s3.sup with passed := false }
    host := { s3.host with intake := [], intakeDone := false }
    acc := { s3.acc with
      isOpen := false, accorded := a, voting := v, bufs := s3.acc.bufs.map fun t => Tab.mapV t fun _ b => b.settle
      goodRounds := if s3.mod.mode = .integrate then (if s3.net.synced then s3.acc.goodRounds + 1 else 0) else s3.acc.goodRounds }
    net := { s3.net with netTime := a.time } }
  (s4.sendBlock before.1 a).tenderInput a

/-- DECISION hashes by T₀ + 150 µs (R46, R58). `wrong` is what a lane's hash differs by from that of its accorded set. -/
def inputAccordOp (sent : LaneSet) (wrong : PerLane (BitVec 64)) (units : Nat) (s : State) : State :=
  if s.accordOpen then
    let voting := s.votingLanes
    let heard := s.heardFrom sent .decision
    let hash (l : Lane) : Option (BitVec 64) :=
      if voting.get l && heard.get l && (s.acc.fetching.get l).isEmpty then (s.acc.computed.get l).map fun a => a.hash s.mod.cycle ^^^ wrong.get l else none
    let h : PerLane (Option (BitVec 64)) := ⟨hash .a, hash .b, hash .c⟩
    let s1 : State := { s with acc := { s.acc with decision := h } }
    let s2 := s1.dropLost [.proposal, .decision, .fetchReq, .fetchData]
    match agreeing h with
    | none => s2.enterSafe 17
    | some v =>
      let s3 := s2.forLanes (LaneSet.diff voting v) fun s l => s.leaveVote l 5 (if (s.acc.fetching.get l).isEmpty then 4 else 3)
      match (LaneSet.first v).bind s.acc.computed.get with
      | some a => s3.closeWith v a units
      | none => s3
  else s

def execInputAccordClose (sent : LaneSet) (wrong : PerLane (BitVec 64)) (units : Nat) (s : State) : Host.Outcome State Fault Refusal :=
  .next (inputAccordOp sent wrong units s)

/-- A command that one lane alone has held at three accords is deleted, recorded and answered LANE_DISAGREE (R48, R320). -/
def commandUnaccordedOp (cmd : CmdRef) (s : State) : State :=
  if s.mod.mode.cycles then
    match s.acc.unaccorded.find? fun u => u.1 = cmd && 3 ≤ u.2.2 with
    | none => s
    | some (_, l, _) =>
      let gone (c : RingCmd) : Bool := c.source = cmd.source.toNat && c.queue = cmd.queue.val && c.seq = cmd.seq
      let s1 : State := { s with
        acc := { s.acc with unaccorded := s.acc.unaccorded.filter fun u => u.1 ≠ cmd }
        host := { s.host with rings := s.host.rings.map fun t => Tab.mapV t fun _ l => l.filter fun c => !gone c } }
      let s2 := s1.record 0x0506 (fields [(2, cmd.source.toNat), (1, cmd.queue.val), (1, l.id), (4, cmd.seq.toNat)])
      s2.reply ⟨cmd.source, cmd.queue, cmd.seq, 0, 0, false⟩ 0 stDisagree []
  else s

def execCommandUnaccorded (cmd : CmdRef) (s : State) : Host.Outcome State Fault Refusal := .next (commandUnaccordedOp cmd s)

/-- The accorded set of the cycle whose input accord is under way, as the snapshots of the voting lanes give it, and otherwise the set
in force. -/
def State.cycleSet (s : State) : Accorded :=
  if s.accordOpen then
    match (Lane.all.filterMap s.acc.computed.get).head? with
    | some a => a
    | none => (s.computeFor (Lane.all.filterMap fun l => if s.laneSt l = .voting then s.acc.snaps.get l else none)).getD s.acc.accorded
  else s.acc.accorded

end Sys2Proof.Machine
end

