-- ==== Sys2Proof/Machine/Arbiter.lean ====
section
/-!
DEFINITION. The memory-port arbiters: a decision under lock, reservation and priority (R461–R463, R465), back-off and reservation
(R467, R468), forced releases (R466), samples and bandwidth windows (R479, R480).
-/

namespace Sys2Proof.Machine

/-- A requester's priority in force. -/
def ArbS.prio (a : ArbS) (r : Nat) : Nat := bits a.active.toNat (3 * r + 2) (3 * r)

def ArbS.standing (a : ArbS) (r : Nat) : ReqS := Tab.getD a.req r ⟨0, 0, 0, 0, 0⟩
def ArbS.modReq (a : ArbS) (r : Nat) (f : ReqS → ReqS) : ArbS := { a with req := Tab.upd a.req r ⟨0, 0, 0, 0, 0⟩ f }

/-- A requester that may lock (R461). -/
def mayLock (r : Nat) : Bool := r ≤ 3

/-- The back-off count after the s-th consecutive loss (R467). -/
def backoffOf (streak : Nat) : Nat := min (4 * 2 ^ (streak - 1)) 256

/-- Of two requesters the one with the higher priority, or the lower number (R461). -/
def ArbS.better (a : ArbS) (x y : Nat) : Nat := if a.prio x < a.prio y || (a.prio x = a.prio y && y < x) then y else x

/-- Whom a decision grants (R463): the owner of a locked sequence, the oldest reserved requester, the highest priority among those
not backing off. -/
def ArbS.winner (a : ArbS) (present : List Nat) : Option Nat :=
  if a.locked && present.contains a.owner then some a.owner
  else match a.reserved.find? present.contains with
    | some r => some r
    | none =>
      match present.filter fun r => (a.standing r).backoff = 0 with
      | [] => none
      | r :: rest => some (rest.foldl a.better r)

/-- Back-off counts fall by 1 at each decision; one that reaches 0 with a streak of 7 or more reserves (R467, R468). -/
def ArbS.countDown (a : ArbS) : ArbS :=
  let due := (a.req.filter fun p => p.2.backoff = 1 && 7 ≤ p.2.streak && !a.reserved.contains p.1).map Prod.fst
  { a with req := Tab.mapV a.req fun _ q => { q with backoff := q.backoff - 1 }, reserved := a.reserved ++ due }

/-- Access times that pass without a decision: the back-off counts fall by 1 in each (R467). -/
def ArbS.idleFor (n : Nat) (a : ArbS) : ArbS := (List.range (min n 256)).foldl (fun a _ => a.countDown) a

/-- A requester that took part and lost (R467). -/
def ReqS.lose (q : ReqS) : ReqS :=
  { q with streak := q.streak + 1, backoff := backoffOf (q.streak + 1), streakMax := max q.streakMax (min 7 (q.streak + 1)) }

/-- The winner: its wait ends, its streak, back-off and reservation are cleared (R467, R468). -/
def ReqS.win (q : ReqS) : ReqS := { q with streak := 0, backoff := 0, waitMax := max q.waitMax q.wait, wait := 0 }

/-- The lock of the granted access (R465). -/
def ArbS.lockBy (a : ArbS) (q : ArbRequest) : ArbS :=
  let r := q.requester.val
  if a.locked && a.owner = r then (if q.unlock then a.unlock else { a with lockCount := a.lockCount + 1 })
  else if a.locked then a
  else if q.lock && mayLock r && !q.unlock then { a with locked := true, lockCount := 1, owner := r }
  else { a with owner := r }

/-- The decision on one port: `w` is granted, `t` 2.5 ns units have passed, `present` have presented. -/
def ArbS.decide (a : ArbS) (w : ArbRequest) (present : List Nat) (t : Nat) : ArbS :=
  let r := w.requester.val
  let loses (k : Nat) : Bool :=
    !a.locked && present.contains k && k ≠ r && (a.standing k).backoff = 0 && !a.reserved.contains k
  let losers := (List.range 8).filter loses
  let waiting := (List.range 8).filter fun k => present.contains k && k ≠ r
  let a1 := a.countDown
  let a2 := losers.foldl (fun a k => a.modReq k ReqS.lose) a1
  let a3 := waiting.foldl (fun a k => a.modReq k fun q => { q with wait := q.wait + t }) a2
  let a4 := { a3.modReq r ReqS.win with reserved := a3.reserved.filter fun k => k ≠ r }
  a4.lockBy w

/-- The longest access time of a port in 2.5 ns units (R464). -/
def accessUnits (p : MemPort) (level : Nat) : Nat :=
  match p, level with
  | .essence, _ => 4
  | .dram, 0 => 20
  | .dram, 1 => 28
  | .dram, _ => 56

/-- A locked sequence is released by force: the lane leaves the vote (R466). Kind 0 a 17th access, 1 idle for 2 µs. -/
def State.forceRelease (s : State) (l : Lane) (p : MemPort) (kind : Nat) : State :=
  let a := (s.lane l).arb p
  let s1 := s.modLane l fun x => x.modArb p fun a =>
    { a.unlock with faultOver := a.faultOver || kind = 0, faultIdle := a.faultIdle || kind = 1, faultReq := a.owner
                    faultCount := satAdd 0xFFFF a.faultCount 1 }
  let s2 := s1.recordLane l 0x0140 (fields [(1, portCode p), (1, a.owner), (1, kind), (1, a.lockCount)])
  s2.leaveVote l 7 0

/-- What the counters and the bandwidth window see of a decision (R477, R480). -/
def State.countDecision (s : State) (l : Lane) (p : MemPort) (before : ArbS) (w : ArbRequest) (present : List ArbRequest) : State :=
  let r := w.requester.val
  let bytes := min 64 w.bytes
  let lost := present.filter fun q => q.requester ≠ w.requester && !before.locked && (before.standing q.requester.val).backoff = 0
    && !before.reserved.contains q.requester.val
  let s1 := (s.countEvent l 0x0201 1 (some r) (some w.addr.toNat)).countEvent l 0x0202 bytes (some r) (some w.addr.toNat)
  let s2 := s1.each lost fun s q => s.countEvent l 0x0203 1 (some q.requester.val) (some q.addr.toNat)
  let s3 := if before.reserved.contains r then s2.countEvent l 0x0204 1 (some r) (some w.addr.toNat) else s2
  let s4 := if !before.locked && w.lock && mayLock r then s3.countEvent l 0x0205 1 (some r) (some w.addr.toNat) else s3
  let s5 := s4.countEvent l 0x0206 (before.standing r).wait (some r) (some w.addr.toNat)
  s5.modPerf l fun f => match p with
    | .essence => { f with runEss := Tab.upd f.runEss r 0 (· + bytes) }
    | .dram => { f with runDram := Tab.upd f.runDram r 0 (· + bytes) }

/-- A decision grants one access, `idle` access times after the one before it. A 17th access of a locked sequence releases the lock first and is
decided as an ordinary one (R466). The time that it takes within t_acc is a free value (log entry 44). -/
def arbiterOp (l : Lane) (p : MemPort) (idle : Nat) (present : List ArbRequest) (s0 : State) : State :=
  if s0.mod.mode.lanesRun then
    let s := s0.modLane l fun x => x.modArb p fun a => a.idleFor idle
    let a := (s.lane l).arb p
    let ids := present.map fun q => q.requester.val
    let exceeded := a.locked && 16 ≤ a.lockCount && ids.contains a.owner
    let s1 := if exceeded then s.forceRelease l p 0 else s
    let b := (s1.lane l).arb p
    match (b.winner ids).bind fun r => present.find? fun q => q.requester.val = r with
    | none => s1
    | some w =>
      let t := (Config.freeWord s1.freeCtr).toNat % (accessUnits p (s1.lane l).pwr.level + 1)
      let s2 := s1.bump.modLane l fun x => x.modArb p fun c => c.decide w ids t
      s2.countDecision l p b w present
  else s0

def execArbiterDecision (lane : Lane) (port : MemPort) (requests : PortRequests) (s : State) : Host.Outcome State Fault Refusal :=
  .next (arbiterOp lane port requests.idle requests.present s)

def lockOverrunOp (l : Lane) (p : MemPort) (s : State) : State :=
  let a := (s.lane l).arb p
  if s.mod.mode.lanesRun && a.locked && 16 ≤ a.lockCount then s.forceRelease l p 0 else s

def execLockOverrun (lane : Lane) (port : MemPort) (s : State) : Host.Outcome State Fault Refusal := .next (lockOverrunOp lane port s)

def lockIdleOp (l : Lane) (p : MemPort) (s : State) : State :=
  if s.mod.mode.lanesRun && ((s.lane l).arb p).locked then s.forceRelease l p 1 else s

def execLockIdleTimeout (lane : Lane) (port : MemPort) (s : State) : Host.Outcome State Fault Refusal := .next (lockIdleOp lane port s)

/-! ### Samples and windows -/

/-- A sample that is due, after SAMPLE counted events, enters the ring of 2 048 records (R479). -/
def perfSampleOp (l : Lane) (k : Nat) (location : Word) (sflags : Byte) (master : Nat) (latency address : Word) (time : BitVec 64) (s : State) :
    State :=
  let c := Tab.getD (s.lane l).perf.ctr k .reset
  if s.mod.mode.lanesRun && c.enable && c.sampleN ≠ 0 && c.sampleN.toNat ≤ c.phase then
    let r : SampleRec := ⟨s.recCycle, s.acc.tick, k, c.event, location, sflags &&& 0x03, master, latency, address, time⟩
    s.modPerf l fun p => { p with
      ring := Tab.put p.ring (p.writeIndex % 2048) r, writeIndex := (p.writeIndex + 1) % 2 ^ 32
      ctr := Tab.modify p.ctr k fun c => { c with phase := c.phase - c.sampleN.toNat } }
  else s

def execPerfSample (lane : Lane) (counter : Fin 16) (location : Word) (sflags : Byte) (master : Fin 8) (latency address : Word)
    (time : BitVec 64) (s : State) : Host.Outcome State Fault Refusal :=
  .next (perfSampleOp lane counter.val location sflags master.val latency address time s)

/-- A window ends: the registers hold its byte counts, and the next begins (R480). -/
def bandwidthOp (l : Lane) (s : State) : State :=
  if s.mod.mode.lanesRun && (s.lane l).perf.window ≠ 0 then
    s.modPerf l fun p => { p with bwEss := p.runEss, bwDram := p.runDram, runEss := [], runDram := [] }
  else s

def execBandwidthWindow (lane : Lane) (s : State) : Host.Outcome State Fault Refusal := .next (bandwidthOp lane s)

end Sys2Proof.Machine
end

