-- ==== Sys2Proof/Machine/Routes.lean ====
section
/-!
DEFINITION. Routes in one evaluation form: the setting conditions (R88–R94, R114, R428), the proving conditions (R95, R96,
R134, R147), sectional release and overlaps (R104–R106), a route's slot with its one transition a cycle (R68, R85, R86,
R102, R107, R108), and the order of the slots (R87, R131).
-/

namespace Sys2Proof.Machine

/-! ### Conflict (R89, R129, R134) -/

/-- Routes i and j may never be active together: the matrix, or the graph form's relation. -/
def Ev.conflict (e : Ev) (i j : Nat) : Bool :=
  if e.graph then
    match Tab.get? e.img.graph i, Tab.get? e.img.graph j, e.def? i, e.def? j with
    | some gi, some gj, some ri, some rj => e.img.graphConflict i j gi gj ri rj
    | _, _, _, _ => false
  else (Tab.getD e.img.conflict i []).contains j

/-- The first active route that conflicts with r, its own bit excluded. -/
def Ev.conflictWith (e : Ev) (r : Nat) : Option Nat := e.actives.find? fun j => j ≠ r && e.conflict r j

/-! ### Setting conditions -/

/-- The conditions that fail, by the refusals they give, and the flank alternatives chosen (R86, R89–R94). -/
structure SetFail where
  withheld  : Bool
  conflict  : Bool
  locked    : Bool
  notProven : Bool
  flank     : List (Option PoolEntry)
deriving DecidableEq, Repr

/-- The first status that applies (R86); OK where every condition holds. -/
def SetFail.status (f : SetFail) : Nat :=
  if f.withheld then stWithheld else if f.conflict then stConflict else if f.locked then stLocked
  else if f.notProven then stNotProven else stOk

/-- The route's direction: that of its first path section (R122). -/
def Ev.direction (e : Ev) (d : RouteDef) : Nat := ((e.img.pathTs d).head?.map PoolEntry.pos).getD 0

/-- Sections that an active route traverses: (section, direction), released ones left out. DESIGN CHOICE (log entry 127): the sections
of its overlap count as traversed by it, in the direction that its list gives. -/
def Ev.traversed (e : Ev) (r : Nat) : List (Nat × Nat) :=
  (e.holds r).filterMap fun h => if h.2.isRoute && e.img.isKind .ts h.1 then some (h.1, h.2.pos) else none

/-- R90: an active route traverses one of the route's sections the other way, or the exit boundary is not OUTWARD. -/
def Ev.opposed (e : Ev) (r : Nat) (d : RouteDef) : Bool :=
  let own := ((e.img.pathTs d).map fun p => (p.object, p.pos)) ++ e.img.ovTs d
  (e.actives.any fun q => q ≠ r && (e.traversed q).any fun t => own.any fun o => o.1 = t.1 && o.2 ≠ t.2)
    || (d.exitAtBb && (e.elem d.exit).state ≠ 1)

/-- A point's availability for a route in a position: the failures of a lock kind and of a proof kind (R91). -/
def Ev.pointFail (e : Ev) (r : Nat) (owner : Option Nat) (o p : Nat) : Bool × Bool :=
  let x := e.elem o
  let other := e.heldOther r o p
  let key := e.keyOut o || e.shunted owner o
  if x.unproven then (other || key, true)
  else if other || key then (true, false)
  else if x.state = 1 then (true, false)
  else if x.state = p + 1 then (false, false)
  else
    let m := e.moveFail o
    if x.state = 0 then
      if m = (false, false) then (false, false)
      else if e.lockRoute o || e.lockFlank o || x.fc then (true, false) else (false, true)
    else m

/-- A path or overlap element's availability (R91, R114). -/
def Ev.elemFail (e : Ev) (r : Nat) (d : RouteDef) (o p : Nat) : Bool × Bool × Bool :=
  match e.elemDef? o with
  | none => (false, false, true)
  | some x =>
    let st := e.elem o
    let key := e.keyOut o || e.shunted d.saOwner o
    let wait := st.unproven || !e.areaOpen o
    match x.kind with
    | .ts => (false, st.fa || key || (e.actives.any fun q => q ≠ r && e.conflict r q
        && (e.holds q).any fun h => h.1 = o && h.2 = Hold.ov h.2.pos), wait)
    | .pt | .de =>
      let f := e.pointFail r d.saOwner o p
      (false, f.1, f.2 || wait)
    | .sg =>
      let opp := e.actives.any fun q => q ≠ r && (e.def? q).any fun dq => dq.entry = o && e.direction dq ≠ e.direction d
      (opp, e.lockFlank o || key, wait)
    | .lx => (false, key, wait || st.state = 0)
    | _ => (false, key, wait)

/-- A signal's displayed aspect is proven at 0 (R93, R95, R103). -/
def Ev.provenZero (e : Ev) (o : Nat) : Bool := !(e.elem o).unproven && Tab.getD e.raw o 0 = 16

/-- A flank alternative: whether it is available, and whether only restart time or UNPROVEN stands against it (R93). -/
def Ev.altState (e : Ev) (r : Nat) (d : RouteDef) (p : PoolEntry) : Bool × Bool :=
  let x := e.elem p.object
  let wait := x.unproven || !e.areaOpen p.object
  if e.img.isPoint p.object then
    let f := if x.unproven then (e.heldOther r p.object p.pos, false) else e.pointFail r d.saOwner p.object p.pos
    let other := f.1 || f.2
    (!wait && !other, wait && !other)
  else
    let other := e.isEntry p.object || e.keyOut p.object || e.shunted d.saOwner p.object
      || (!x.unproven && (!e.provenZero p.object || x.fa))
    (!wait && !other, wait && !other)

/-- A flank entry: the first available alternative; otherwise whether each is unavailable only for the time being. -/
def Ev.flankChoice (e : Ev) (r : Nat) (d : RouteDef) (alts : List PoolEntry) : Option PoolEntry × Bool :=
  (alts.find? fun p => (e.altState r d p).1, alts.all fun p => (e.altState r d p).2)

/-- R88–R94, R114, R428: everything that stands against setting the route in this cycle. -/
def Ev.setFail (e : Ev) (r : Nat) (d : RouteDef) : SetFail :=
  let els := (d.path.map fun p => (p.object, p.pos)) ++ d.ovList
  let fs := els.map fun p => e.elemFail r d p.1 p.2
  let fl := d.flank.map (e.flankChoice r d)
  let ovClash := d.overlap.any fun o => e.actives.any fun q => q ≠ r
    && (e.def? q).any fun dq => dq.overlap = some o && dq.ovList ≠ d.ovList && !(e.useOf q).ovFreed
  let inHold := (els.map Prod.fst ++ d.overlap.toList ++ [d.entry, d.exit] ++ d.flank.flatten.map PoolEntry.object).any fun o =>
    (e.elemDef? o).any fun x => e.areaHold.getLsbD x.area
  { withheld := (e.route r).withheld
    conflict := (e.conflictWith r).isSome || e.opposed r d || fs.any fun f => f.1
    locked := e.flankHeld d.entry || e.keyOut d.entry || e.shunted d.saOwner d.entry || ovClash || inHold || fs.any (fun f => f.2.1)
      || fl.any fun f => f.1.isNone && !f.2
    notProven := !e.areaOpen d.entry || fs.any (fun f => f.2.2) || fl.any fun f => f.1.isNone && f.2
    flank := fl.map Prod.fst }

/-- The states in which the route's TIMER is the approach control time (R82, R140): no other of its times runs in them. -/
def RSt.approaching : RSt → Bool
  | .setting | .locked | .proved | .cleared => true
  | _ => false

/-- Approach control (R69, R82): from SETTING on, the approach-control section has to stay OCCUPIED for the approach control
time. -/
def Ev.approach (e : Ev) (r : Nat) (d : RouteDef) (expired : Bool) : Ev :=
  if !(e.route r).st.approaching || d.acMode = 0 || (e.useOf r).acDone then e
  else match d.apprTs with
    | none => e
    | some t =>
      let x := e.route r
      if !e.tsOcc t then e.modRoute r fun x => { x with timer := 0xFFFF }
      else if expired || (x.timer = 0xFFFF && d.tApprCtrl = 0) then
        (e.modRoute r fun x => { x with timer := 0xFFFF }).modUse r fun u => { u with acDone := true }
      else if x.timer = 0xFFFF then e.modRoute r fun x => { x with timer := d.tApprCtrl }
      else e

/-- The route enters SETTING: it reserves, and every point not in position is commanded (R92, R97). -/
def Ev.enterSetting (e : Ev) (r : Nat) (d : RouteDef) (flank : List (Option PoolEntry)) : Ev :=
  let x := e.route r
  let e1 := e.modRoute r fun _ => { RouteSt.zero with st := .setting, auto := x.auto, withheld := x.withheld }
  let e2 : Ev := { e1.modUse r (fun _ => { RouteUse.none with flank := flank }) with stored := removeNat r e1.stored }
  let pts := (e.img.routePts d) ++ (flank.filterMap id).filterMap fun p =>
    if e.img.isPoint p.object then some (p.object, p.pos) else none
  ((e2.each pts fun e p => if (e.elem p.1).state = p.2 + 1 then e else e.drive p.1 p.2).approach r d false).moved r

/-- The route becomes IDLE and everything it holds is free. -/
def Ev.toIdle (e : Ev) (r : Nat) : Ev :=
  let x := e.route r
  let e1 := e.modRoute r fun _ => { RouteSt.zero with auto := x.auto, withheld := x.withheld }
  ({ e1 with use := Tab.erase e1.use r, stored := removeNat r e1.stored } : Ev).moved r

/-! ### Proving conditions (R95, R96, R134, R147) -/

/-- Every proving condition of the route holds: those of R95, no active conflicting route (R134), not WITHHELD (R147). -/
def Ev.proved (e : Ev) (r : Nat) (d : RouteDef) : Bool :=
  let x := e.route r
  let hs := e.holds r
  let bb := !d.exitAtBb || (let b := e.elem d.exit; b.state = 1 && b.fa && b.fb && !b.unproven)
  !x.withheld && (e.conflictWith r).isNone && bb
    && (hs.all fun h =>
      let st := e.elem h.1
      let common := !st.unproven && !e.keyOut h.1 && !e.shunted d.saOwner h.1
      common && match (e.elemDef? h.1).map ElemDef.kind with
        | some .ts => st.state = 2
        | some .pt | some .de => st.state = h.2.pos + 1
        | some .sg => if h.2.isFlank then e.provenZero h.1 else true
        | some .lx => st.state = 4
        | _ => true)
    && d.path.all fun p => !((e.elemDef? p.object).bind ElemDef.ez).any fun z => (e.elem z).state = 0

/-- The entry signal bars a route from clearing: it is FAILED (R79), or SIGNAL_REPLACE names it in this cycle (R83). -/
def Ev.barred (e : Ev) (d : RouteDef) : Bool := (e.elem d.entry).fa || e.replaced.contains d.entry

/-- A CLEARED route falls back: a proving condition is lost (R96), or its signal is replaced (R83). -/
def Ev.falls (e : Ev) (r : Nat) (d : RouteDef) : Bool := !e.proved r d || e.replaced.contains d.entry

/-! ### Approach locking (R103) -/

/-- The route has been in IN_USE: its first section has been OCCUPIED then, or released since (R138). -/
def RouteSt.used (x : RouteSt) : Bool := x.kOcc || 0 < x.released

/-- Approach locking is engaged: signalled since SETTING, not yet IN_USE, and permanent, or the approach is not CLEAR, or the
entry signal is not proven at 0. -/
def Ev.engaged (e : Ev) (r : Nat) (d : RouteDef) : Bool :=
  let x := e.route r
  let before := x.st ≠ .inUse && x.st ≠ .releasing && !(x.st = .emerg && x.used)
  x.signalled && before && (d.permanent || d.appr.any (fun t => !e.tsClear t) || !e.provenZero d.entry)

/-! ### Sectional release (R104–R106) -/

/-- The section beyond the exit signal (R104): the first one of the overlap, or without an overlap the first path section of the
first route from that signal (log entry 17). -/
def Ev.beyond (e : Ev) (d : RouteDef) : Option Nat :=
  match (e.ovSections d).head? with
  | some t => some t
  | none => if d.exitAtBb then none else (e.defs.find? fun p => p.2.entry = d.exit).bind fun p => (e.sections p.2).head?

/-- What the sections show of the train's passage: which have been OCCUPIED, which saw the next become OCCUPIED while they were,
and which are DISTURBED or were passed in another order. -/
def Ev.track (e : Ev) (r : Nat) (d : RouteDef) : Ev :=
  let secs := e.sections d
  let next := secs.drop 1 ++ (e.beyond d).toList
  let from_ := (e.route r).released
  let u := secs.zipIdx.foldl (fun (u : RouteUse) p =>
    let k := p.2
    if k < from_ then u
    else
      let occ := e.tsOcc p.1
      let rose (t : Nat) := e.tsOcc t && (e.prev.elem t).state ≠ 1
      let nextRose := (next[k]?).any rose
      let seen := u.seen.contains k || occ
      let saw := u.nexts.contains k || (occ && nextRose)
      let skipped := nextRose && !seen
      let left := e.tsClear p.1 && seen && !saw && (next[k]?).isSome
      let bad := u.bad.contains k || (e.elem p.1).state = 0 || skipped || left
      { u with seen := if seen then insertNat k u.seen else u.seen, nexts := if saw then insertNat k u.nexts else u.nexts
               bad := if bad then insertNat k u.bad else u.bad }) (e.useOf r)
  let ov := (e.ovSections d).any e.tsOcc
  (e.modUse r fun _ => u).modRoute r fun x => { x with ovOcc := x.ovOcc || ov }

/-- Sections are released one by one, in path order, as long as the next one may be (R104). -/
def releaseRun (e : Ev) (secs : List Nat) (n : Nat) (u : RouteUse) (hasNext : Bool) : Nat → Nat → Nat
  | 0, k => k
  | fuel + 1, k =>
    if k < n && u.seen.contains k && (secs[k]?).any e.tsClear && (u.nexts.contains k || (k + 1 = n && !hasNext))
    then releaseRun e secs n u hasNext fuel (k + 1) else k

/-- The route word's view of the section that is next to be released, and HALTED once any path section is DISTURBED or was passed
out of order (R138). -/
def Ev.showPassage (e : Ev) (r : Nat) : Ev :=
  let u := e.useOf r
  e.modRoute r fun x => { x with
    kOcc := u.seen.contains x.released, nextSeen := u.nexts.contains x.released, halted := x.halted || !u.bad.isEmpty }

/-- The overlap release timer starts when the last path section becomes OCCUPIED (R106). A time of 0 has run out at once and is
never stored (R140). -/
def Ev.startOverlap (e : Ev) (r : Nat) (d : RouteDef) (rose : Bool) : Ev :=
  match d.overlap with
  | some o =>
    if rose && !(e.useOf r).ovFreed && (e.useOf r).ovTime = .idle then
      let p := ((e.elemDef? o).map ElemDef.preset).getD 0
      if p = 0 then e.modUse r fun u => { u with ovTime := .over }
      else (e.modElem o fun x => { x with ta := p }).modUse r fun u => { u with ovTime := .running }
    else e
  | none => e

/-- An overlap time that the route started runs out in the cycle in which the OV's timer reaches 0 (R106, R140). -/
def Ev.endOverlap (e : Ev) (r : Nat) (d : RouteDef) : Ev :=
  if (e.useOf r).ovTime = .running && d.overlap.any fun o => (e.elem o).ta = 0 then
    e.modUse r fun u => { u with ovTime := .over }
  else e

/-- IN_USE and RELEASING: sections, the overlap's timer and release, and IDLE at the end (R104–R106). No section is released once
the route is HALTED (R138). -/
def Ev.release (e : Ev) (r : Nat) (d : RouteDef) : Ev :=
  let e1 := (e.track r d).showPassage r
  let secs := e1.sections d
  let n := secs.length
  let lastOcc := (secs.getLast?).any e1.tsOcc
  let lastRose := (secs.getLast?).any fun t => e1.tsOcc t && (e1.prev.elem t).state ≠ 1
  let e2 := (e1.endOverlap r d).startOverlap r d lastRose
  let k0 := (e2.route r).released
  let k := if (e2.route r).halted then k0 else releaseRun e2 secs n (e2.useOf r) (e2.beyond d).isSome n k0
  -- once the time has run out the overlap and the last section are released together
  let atEnd := d.overlap.isSome && !(e2.useOf r).ovFreed && (e2.useOf r).ovTime = .over && k + 1 = n && lastOcc
    && !(e2.route r).ovOcc && !(e2.route r).halted
  let k' := if atEnd then n else k
  let e3 := (e2.modRoute r fun x => { x with released := k' }).modUse r fun u => { u with ovFreed := u.ovFreed || atEnd }
  let e4 := e3.showPassage r
  let ovDone := d.overlap.isNone || (e4.useOf r).ovFreed
  match (e4.route r).st with
  | .inUse => if 0 < k' then (e4.modRoute r fun x => { x with st := .releasing }).moved r else e4
  | _ =>
    if k' = n && ovDone then
      let auto := (e4.route r).auto
      let e5 := e4.toIdle r
      if auto then { e5 with freed := insertNat r e5.freed } else e5
    else e4

/-- R106: an onward route that reaches LOCKED with its path over an overlap's elements in the same positions takes its locks. DESIGN
CHOICE (log entry 130): it takes them also where a section of the overlap has been OCCUPIED. -/
def Ev.passOverlap (e : Ev) (d : RouteDef) : Ev :=
  let path := d.path.map fun p => (p.object, p.pos)
  e.each (e.actives.filter fun q => (e.def? q).any fun dq =>
    dq.exit = d.entry && !dq.exitAtBb && dq.overlap.isSome && !dq.ovList.isEmpty && dq.ovList.all path.contains
      && 3 ≤ (e.route q).st.code)
    fun e q => e.modUse q fun u => { u with ovFreed := true }

/-! ### A route's slot -/

/-- A required point became LOST (R85): it is LOST and was not, or no move is in force that could regain it. -/
def Ev.pointLost (e : Ev) (o : Nat) : Bool :=
  let x := e.elem o
  x.state = 0 && ((e.prev.elem o).state ≠ 0 || x.cmd = 0)

/-- A route that has lost a proving condition returns to LOCKED (R96). -/
def Ev.back (e : Ev) (r : Nat) : Ev :=
  ((e.modRoute r fun x => { x with st := .locked }).modUse r fun u => { u with recleared := false }).moved r

/-- The route enters IN_USE (R85): what its sections show begins to count, and where the last one is the first the overlap's time
starts in this cycle (R106). -/
def Ev.toUse (e : Ev) (r : Nat) (d : RouteDef) : Ev :=
  let e1 := e.modRoute r fun x => { x with st := .inUse, released := 0, timer := 0xFFFF, engaged := false }
  let e2 := (e1.track r d).showPassage r
  (e2.startOverlap r d ((e2.sections d).getLast?.any e2.tsOcc)).moved r

/-- The route clears (R85). -/
def Ev.clear (e : Ev) (r : Nat) : Ev :=
  ((e.modRoute r fun x => { x with st := .cleared, firstClear := true }).modUse r fun u => { u with recleared := false }).moved r

/-- Field-driven transitions (R85), at most one; `expired` says that the route's timer has reached 0. A WITHHELD route leaves
SETTING for a LOST point no more (R147). DESIGN CHOICE (log entry 126): where the approach locking time runs out in the cycle in
which the first section becomes OCCUPIED, the route enters IN_USE. -/
def Ev.fieldSlot (e : Ev) (r : Nat) (d : RouteDef) (expired : Bool) : Ev :=
  let firstOcc := (e.sections d).head?.any e.tsOcc
  match (e.route r).st with
  | .setting =>
    let pts := (e.holds r).filter fun h => e.img.isPoint h.1
    if !(e.route r).withheld && pts.any fun h => e.pointLost h.1 then
      { e.toIdle r with leaves := Tab.put e.leaves r stNotProven }
    else if pts.all fun h => (e.elem h.1).state = h.2.pos + 1 then
      ((e.modRoute r fun x => { x with st := .locked }).moved r).passOverlap d
    else e
  | .locked => if e.proved r d then (e.modRoute r fun x => { x with st := .proved }).moved r else e
  | .proved =>
    if !e.proved r d then e.back r
    else if (!(e.route r).firstClear || (e.useOf r).recleared) && !e.barred d then e.clear r
    else e
  | .cleared => if firstOcc then e.toUse r d else if e.falls r d then e.back r else e
  | .inUse | .releasing => e.release r d
  | .apprLocked => if firstOcc then e.toUse r d else if expired then e.toIdle r else e
  | .emerg => if expired then e.toIdle r else e
  | _ => e

/-- A route's requests of the cycle, by what they ask. -/
def Ev.reqsOf (e : Ev) (r : Nat) (p : RouteReq → Bool) : List Origin :=
  (e.reqs.routeReqs.filter fun q => q.1 = r && p q.2.1).map fun q => q.2.2

def RouteReq.isSet : RouteReq → Bool
  | .set _ => true
  | _ => false

/-- Every origin of one kind of request for a route receives the same status (R329). -/
def Ev.answerAll (e : Ev) (l : List Origin) (status : Nat) : Ev := e.each l fun e o => e.answer o status

/-- Second step of an emergency release (R107). -/
def Ev.emergency (e : Ev) (r : Nat) (d : RouteDef) : Ev :=
  match e.reqsOf r (· = .emerg) with
  | [] => e
  | l =>
    let c := (e.route r).st.code
    if 3 ≤ c && c ≤ 8 then
      let e1 := if d.tEmerg = 0 then e.toIdle r else
        (e.modRoute r fun x => { x with st := .emerg, timer := d.tEmerg }).moved r
      e1.answerAll l stAccepted
    else e.answerAll l stLocked

/-- Cancellation (R102, R68): the mark of R108 goes with every cancellation that is not refused. -/
def Ev.cancel (e : Ev) (r : Nat) (d : RouteDef) : Ev :=
  match e.reqsOf r (· = .cancel) with
  | [] => e
  | l =>
    let x := e.route r
    let ok (e : Ev) := (e.modRoute r fun x => { x with auto := false }).answerAll l stOk
    let out (e : Ev) : Ev := { e.toIdle r with leaves := Tab.put e.leaves r stNotProven }
    if e.taken.contains r then e.answerAll l stLocked
    else match x.st with
      | .idle => ok e
      | .requested =>
        let s := (e.setFail r d).status
        ok { e.toIdle r with leaves := Tab.put e.leaves r (if s = stOk then stNotProven else s) }
      | .setting => ok (out e)
      | .locked | .proved | .cleared =>
        if e.engaged r d then
          if d.tApprLock = 0 then ok (out e)
          else ok ((e.modRoute r fun x => { x with st := .apprLocked, timer := d.tApprLock }).moved r)
        else ok (out e)
      | .apprLocked => ok e
      | _ => e.answerAll l stLocked

/-- A re-clear (R86, R96): the route clears in this cycle where it can, otherwise once it is PROVED. -/
def Ev.reclear (e : Ev) (r : Nat) (d : RouteDef) : Ev :=
  if (e.route r).st = .proved && !e.taken.contains r && e.proved r d && !e.barred d then e.clear r
  else e.modUse r fun u => { u with recleared := true }

/-- Set requests that name an active route (R86). -/
def Ev.setActive (e : Ev) (r : Nat) (d : RouteDef) : Ev :=
  match e.reqsOf r RouteReq.isSet with
  | [] => e
  | l =>
    let x := e.route r
    if x.withheld then e.answerAll l stWithheld
    else if x.st = .locked || x.st = .proved then (e.reclear r d).answerAll l stOk
    else e.answerAll l stLocked

/-- Automatic marks (R108). -/
def Ev.marks (e : Ev) (r : Nat) : Ev :=
  let on := e.reqsOf r (· = .autoOn)
  let off := e.reqsOf r (· = .autoOff)
  let last := (e.reqs.routeReqs.filter fun q => q.1 = r && (q.2.1 = RouteReq.autoOn || q.2.1 = RouteReq.autoOff)).getLast?
  let e1 := match last with
    | some q => e.modRoute r fun x => { x with auto := q.2.1 = RouteReq.autoOn }
    | none => e
  e1.answerAll (on ++ off) stOk

/-- The slot of an active route: timer, emergency release, field, cancellation, re-clear, marks, approach control (R68). -/
def Ev.activeSlot (e : Ev) (r : Nat) : Ev :=
  match e.def? r with
  | none => e
  | some d =>
    let x := e.route r
    let t := tickTimer x.timer
    let expired := t = 0
    let e1 := e.modRoute r fun x => { x with timer := if expired then 0xFFFF else t }
    let e2 := match e1.conflictWith r with
      | some j => { e1 with conflicts := e1.conflicts ++ [(r, j)] }
      | none => e1
    let e3 := e2.emergency r d
    let e4 := if e3.taken.contains r then e3 else e3.fieldSlot r d expired
    let e5 := (e4.marks r).cancel r d
    let e6 := e5.setActive r d
    let y := e6.route r
    let e7 := if y.auto && y.firstClear && (y.st = .locked || y.st = .proved) && !y.withheld then e6.reclear r d else e6
    e7.approach r d expired

/-- The active set is full (R84). -/
def Ev.full (e : Ev) : Bool := 512 ≤ e.actives.length

/-- The slot of a candidate: a stored request, or set requests for an IDLE route (R85, R86). A set request for a WITHHELD one is
answered REFUSED_WITHHELD (R147). DESIGN CHOICE (log entry 128): a stored request whose conditions hold while the active set is full
stays REQUESTED, and ends with BUSY where its storage time runs out so. -/
def Ev.candidateSlot (e : Ev) (r : Nat) : Ev :=
  match e.def? r with
  | none => e.answerAll (e.reqsOf r fun _ => true) stBadParam
  | some d =>
    let sets := e.reqsOf r RouteReq.isSet
    let e := e.emergency r d
    match (e.route r).st with
    | .requested =>
      let t := tickTimer (e.route r).timer
      let e1 := ((e.modRoute r fun x => { x with timer := t }).marks r).cancel r d
      let e2 := e1.answerAll sets (if (e.route r).withheld then stWithheld else stLocked)
      if (e2.route r).st ≠ .requested then e2
      else
        let f := e2.setFail r d
        if f.status = stOk && !e2.full then e2.enterSetting r d f.flank
        else if t = 0 then
          { e2.toIdle r with leaves := Tab.put e2.leaves r (if f.status = stOk then stBusy else f.status) }
        else e2
    | .idle =>
      let e1 := (e.marks r).cancel r d
      let store := !(e.reqsOf r (· = .set true)).isEmpty
      let f := e1.setFail r d
      let held := f.withheld || d.tStore = 0 || (d.entry :: d.path.map PoolEntry.object).any fun o =>
        (e1.elemDef? o).any fun x => e1.areaHold.getLsbD x.area
      if e1.taken.contains r then e1.answerAll sets stLocked
      else if f.status = stOk then
        if e1.full then e1.answerAll sets stBusy else (e1.enterSetting r d f.flank).answerAll sets stAccepted
      else if store && !held then
        if 256 ≤ e1.stored.length then e1.answerAll sets stBusy
        else
          let e2 := e1.modRoute r fun x => { x with st := .requested, timer := d.tStore }
          (({ e2 with stored := e2.stored ++ [r] } : Ev).moved r).answerAll sets stAccepted
      else e1.answerAll sets f.status
    | _ => e.answerAll sets stLocked

/-- Requests for a route that is neither active nor a candidate. -/
def Ev.restSlot (e : Ev) (r : Nat) : Ev :=
  match e.def? r with
  | none => e.answerAll (e.reqsOf r fun _ => true) stBadParam
  | some d => (((e.emergency r d).marks r).cancel r d)

/-- Every route once, in the order of R87: the active ones, the candidates, and the rest of those that are asked for. -/
def Ev.routeSlots (e : Ev) : Ev :=
  let acts := e.actives
  let cands := e.reqs.candidates
  let rest := ((e.reqs.routeReqs.map Prod.fst).eraseDups).filter fun r => !acts.contains r && !cands.contains r
  let e1 := e.each acts Ev.activeSlot
  let e2 := e1.each cands fun e r => if acts.contains r then e else e.candidateSlot r
  e2.each rest Ev.restSlot

end Sys2Proof.Machine
end

