-- ==== Sys2Proof/Machine/Aspects.lean ====
section
/-!
DEFINITION. R67 step 7 in one evaluation form: element commands, lock flags and aspects from the results of the routes
(R79–R82, R93, R97, R100, R101, R105, R106, R112, R115, R139), boundaries (R109–R111), and the whole evaluation of a form
(R67, R87, R117, R132).
-/

namespace Sys2Proof.Machine

/-! ### Aspects (R80–R82) -/

/-- The aspect of the next signal for a route (R81): the exit's proven aspect, or the neighbour's. -/
def Ev.nextAspect (e : Ev) (d : RouteDef) : Nat :=
  let x := e.elem d.exit
  if x.unproven then 0
  else if d.exitAtBb then ((Tab.get? e.nbr d.exit).map NbrData.exitAspect).getD 0
  else if x.fa then 0 else x.state

/-- The commanded aspect that a CLEARED route gives its entry signal (R81, R82). -/
def Ev.routeAspect (e : Ev) (r : Nat) (d : RouteDef) : Nat :=
  match Tab.get? e.img.classes (((e.elemDef? d.entry).map ElemDef.cls).getD 0) with
  | none => 0
  | some c =>
    let entry := ((c.rows[d.row]?).bind fun row => row[e.nextAspect d]?).getD 0
    let restored := (e.sections d).any fun t => (e.elem t).fb
    let a := if restored then min entry c.restricted else entry
    if d.acMode = 0 || (e.useOf r).acDone then a
    else if d.acMode = 1 then 0 else min a c.restricted

/-- A signal is held at aspect 0 by a zone or a shunt area into which it reads (R100, R101). -/
def Ev.zoned (e : Ev) (o : Nat) (owner : Option Nat) : Bool :=
  e.img.elems.any fun p =>
    ((p.2.kind = .ez && (e.elem p.1).state = 0) || (p.2.kind = .sa && (e.elem p.1).state = 0 && owner ≠ some p.1))
      && p.2.list.any fun m => m.1 = o

/-- CLEARED routes from a signal. -/
def Ev.clearedFrom (e : Ev) (o : Nat) : List (Nat × RouteDef) :=
  e.actives.filterMap fun r =>
    match e.def? r with
    | some d => if d.entry = o && (e.route r).st = .cleared then some (r, d) else none
    | none => none

/-- The commanded aspect of a signal: the lowest that applies (R79, R81, R83, R93, R100, R101, R115). -/
def Ev.signalAspect (e : Ev) (o : Nat) : Nat :=
  let x := e.elem o
  match e.clearedFrom o with
  | [] => 0
  | l =>
    let owner := ((l.head?).bind fun p => p.2.saOwner)
    if x.fa || x.unproven || e.replaced.contains o || e.lockFlank o || e.zoned o owner then 0
    else l.foldl (fun a p => min a (e.routeAspect p.1 p.2)) 15

/-- APPROACH_HELD: an approach control hold is in force on the signal (R82). -/
def Ev.approachHeld (e : Ev) (o : Nat) : Bool :=
  (e.clearedFrom o).any fun p => p.2.acMode ≠ 0 && !(e.useOf p.1).acDone

/-! ### Boundaries (R109–R111) -/

/-- A local route toward the boundary is active. -/
def Ev.towards (e : Ev) (o : Nat) : Bool := e.actives.any fun r => (e.def? r).any fun d => d.exitAtBb && d.exit = o

/-- A route toward the boundary waits in REQUESTED: the module asks for OUTWARD (log entry 18). -/
def Ev.wanted (e : Ev) (o : Nat) : Bool :=
  e.v.routes.any fun p => p.2.st = .requested && (e.def? p.1).any fun d => d.exitAtBb && d.exit = o

/-- Direction and the bits sent for a boundary (R109, R111, R139). DESIGN CHOICE (log entry 129): PERMIT is sent while the direction is
INWARD, no local route toward the boundary is active and the tied zone is not ACTIVE. DESIGN CHOICE (log entry 131): no grant is
given in a cycle in which the module itself asks for OUTWARD. -/
def Ev.boundary (e : Ev) (o : Nat) (d : ElemDef) : ElemSt :=
  let x := e.elem o
  let n := Tab.get? e.nbr o
  let live := !x.unproven
  let clear := d.list.all fun m => e.tsClear m.1
  let route := e.towards o
  let asked := live && n.any NbrData.dirReq
  let mine := x.kb.getLsbD 0
  let both := asked && mine && e.nbrFresh.contains o
  let want := e.wanted o && !both && x.tb = 0xFFFF
  let granted := live && n.any fun n => n.dirGrant && n.dir = 2 && !n.routeLocked && n.clear
  let give := asked && !both && !want && !route && clear && x.state ≠ 1
  let dir :=
    if x.state ≠ 1 && want && granted then 1
    else if give then 2
    else if x.state = 1 && !route && clear then 0
    else x.state
  let req := want && dir ≠ 1
  let emergency := d.ez.any fun z => (e.elem z).state = 0
  let permit := dir = 2 && !route && !emergency
  { x with
    state := dir, cmd := dir, tb := if both then (1 + e.sid) * 10 else x.tb
    kb := BitVec.ofNat 8 (b2n req + 2 * b2n give + 4 * b2n route + 8 * b2n clear + 16 * b2n permit + 32 * b2n emergency) }

/-! ### Step 7 of R67 -/

/-- An element's command, flags, RESERVED and HOLDERS at the end of the cycle (R139). -/
def Ev.finish (e : Ev) (o : Nat) (d : ElemDef) : ElemSt :=
  let x := e.elem o
  let hs := e.holdsOf o
  let n := (hs.map Prod.fst).eraseDups.length
  let y := { x with reserved := 0 < n, holders := min 255 n }
  match d.kind with
  | .ts => { y with fc := e.lockRoute o }
  | .pt | .de => { y with fa := e.lockRoute o, fb := e.lockFlank o }
  | .sg =>
    let a := e.signalAspect o
    { y with fb := e.lockFlank o, fc := e.approachHeld o, cmd := a, ta := if a = x.cmd then x.ta else startTimer d.preset }
  | .lx =>
    let held := hs.any fun h => h.2.isRoute
    let restart := !d.openAtRestart && !(e.v.area d.area).expired
    let open_ := !held && !x.fa && !restart
    let st := if open_ then (if x.state = 3 || x.state = 4 then 2 else x.state) else if x.state = 1 || x.state = 2 then 3 else x.state
    let ta := if st = x.state then x.ta else if st = 3 then startTimer d.preset else 0xFFFF
    { y with fb := held, cmd := b2n open_, state := st, ta := ta }
  | .ky => { y with cmd := b2n (x.state = 2) }
  | .ez => { y with cmd := b2n (x.state = 1) }
  | .bb => { e.boundary o d with reserved := 0 < n, holders := min 255 n }
  | .ov =>
    let locked := e.actives.any fun r => e.locksOn r && (e.holds r).any fun h => h.1 = o
    if !locked then { y with state := 0, ta := 0xFFFF }
    else if x.ta = 0 || x.ta = 0xFFFF then { y with state := 1, ta := 0xFFFF }
    else { y with state := 2 }
  | .fl => { y with state := b2n (0 < n) }
  | .sa => y

/-- A route's SIGNALLED and APPR_ENGAGED at the end of the cycle (R103, R138). -/
def Ev.signal (e : Ev) (r : Nat) : Ev :=
  match e.def? r with
  | none => e
  | some d =>
    let proceed := (e.route r).st = .cleared && (e.elem d.entry).cmd ≠ 0
    let e1 := e.modRoute r fun x => { x with signalled := x.signalled || proceed }
    e1.modRoute r fun x => { x with engaged := e1.engaged r d }

/-- Step 7 of R67: every element, then the approach locking of every active route. -/
def Ev.commands (e : Ev) : Ev :=
  let e1 : Ev := { e with v := { e.v with elems := Tab.mapV e.img.elems fun o d => e.finish o d } }
  e1.each e1.actives Ev.signal

/-- Routes that are IDLE with no mark leave no entry, and the header counts the active ones (R137). -/
def Ev.trim (e : Ev) : Ev :=
  { e with v := { e.v with routes := e.v.routes.filter fun p => p.2 ≠ RouteSt.zero, count := e.v.actives } }

/-- The whole evaluation of one form, in the order of R67 and R132. -/
def Ev.run (e : Ev) : Ev :=
  (e.fieldStep.areasStep.takeFrames.boundaryZones.elemReqs.routeSlots.commands).trim

/-! ### The forms over the module's state -/

/-- The routes as each form has them (R117, R121, R126). -/
def Image.formRoutes (img : Image) (graph : Bool) : Tab RouteDef :=
  if graph then Tab.mapV img.graph fun _ g => (img.derive g).def_ else img.routes

/-- A form at the start of a cycle: the resolved state of the cycle before, the WITHHELD bits, the inputs and the list. -/
def State.form (s : State) (graph : Bool) : Ev :=
  let i := s.inputs
  let prev := s.ixl.resolved
  let marked := s.ixl.withheld.foldl (fun t r => Tab.upd t r .zero fun x => { x with withheld := true }) (Tab.mapV prev.routes
    fun r x => { x with withheld := s.ixl.withheld.contains r })
  let v : Verdict := { prev with cycle := s.mod.cycle, digest := padTo 8 s.img.runDigest, routes := marked }
  { img := s.image, defs := s.image.formRoutes graph, graph := graph, prev := prev, v := v, raw := i.1, lost := i.2
    nbr := s.ixl.nbr, nbrFresh := s.ixl.nbrFresh, use := if graph then s.ixl.graphUse else s.ixl.use, stored := s.ixl.stored, reqs := s.ixl.reqList, halted := []
    replaced := [], taken := [], answers := [], conflicts := [], leaves := [], freed := [], first := s.mod.cycle = 0, sid := s.mod.sid
    areaHold := s.ixl.areaHold }

/-! ### Items written otherwise by a faulty form (R145) -/

/-- The element entry that two words spell (R139, R140). -/
def elemOfWords (w t : Nat) : ElemSt :=
  { state := bits w 3 0, fa := bitOf w 4, fb := bitOf w 5, fc := bitOf w 6, unproven := bitOf w 7, cmd := bits w 11 8
    reserved := bitOf w 12, holders := bits w 23 16, kb := BitVec.ofNat 8 (bits w 31 24), ta := bits t 15 0, tb := bits t 31 16 }

/-- A route state by its code; reserved codes read as IDLE. -/
def RSt.ofCode : Nat → RSt
  | 1 => .requested | 2 => .setting | 3 => .locked | 4 => .proved | 5 => .cleared | 6 => .inUse | 7 => .releasing
  | 8 => .apprLocked | 9 => .emerg | _ => .idle

/-- The route entry that two words spell (R138, R140). -/
def routeOfWords (w t : Nat) : RouteSt :=
  { st := RSt.ofCode (bits w 3 0), released := bits w 10 4, engaged := bitOf w 11, signalled := bitOf w 12, auto := bitOf w 13
    withheld := bitOf w 14, kOcc := bitOf w 15, nextSeen := bitOf w 16, ovOcc := bitOf w 17, firstClear := bitOf w 18
    halted := bitOf w 19, timer := bits t 15 0 }

/-- A verdict with the items that a faulty form wrote. -/
def Verdict.withFaults (v : Verdict) (l : List ItemFault) : Verdict :=
  l.foldl (fun v f =>
    match f.kind with
    | 1 => { v with areas := Tab.put v.areas (f.index % 64) ⟨bits f.word.toNat 15 0, bitOf f.word.toNat 16⟩ }
    | 2 => { v with routes := Tab.put v.routes (f.index % 4096) (routeOfWords f.word.toNat f.timer.toNat) }
    | 3 => { v with elems := Tab.put v.elems (f.index % 8192) (elemOfWords f.word.toNat f.timer.toNat) }
    | 0 => { v with count := f.word.toNat % 65536 }
    | _ => v) v

/-- Work units that the graph solver charges for the routes it evaluates (R135). -/
def State.graphCharge (s : State) (slots : List Nat) : Nat :=
  33538 + slots.foldl (fun n r => n + ((Tab.get? s.image.graph r).map fun g => (s.image.derive g).cost).getD 0) 0

/-- Vertices that the graph solver visits for the routes it evaluates (R477). -/
def State.graphVisits (s : State) (slots : List Nat) : Nat :=
  slots.foldl (fun n r => n + ((Tab.get? s.image.graph r).map fun g => (s.image.derive g).visits).getD 0) 0

end Sys2Proof.Machine
end

