-- ==== Sys2Proof/Machine/Compare.lean ====
section
/-!
DEFINITION. The comparison of the two verdicts and the resolved vector (R141–R144), divergence, its records and the WITHHELD
set (R145–R148), and what the module keeps of a resolved cycle (R113, R327).
-/

namespace Sys2Proof.Machine

/-! ### Restrictive values (R142–R144) -/

/-- The larger of two timers; 0xFFFF counts as the largest (R144). -/
def mergeLarger (a b : Nat) : Nat := max a b

/-- A field of two forms: as it is where they agree, otherwise the restrictive value. -/
def mergeVal {α : Type} [DecidableEq α] (a b r : α) : α := if a = b then a else r

/-- Timer A of an element of a kind: the smaller for throw-time, proving, closing and boundary timers (R144). -/
def mergeTimerA (k : Kind) (a b : Nat) : Nat :=
  match k with
  | .pt | .de | .sg | .lx | .bb => min a b
  | _ => max a b

/-- A differing element entry (R142, R144). -/
def mergeElem (k : Kind) (a b : ElemSt) : ElemSt :=
  let flag (x y restr : Bool) := mergeVal x y restr
  let bb := k = .bb
  { state := mergeVal a.state b.state (if k = .sg then min a.state b.state else 0)
    fa := flag a.fa b.fa (!bb), fb := flag a.fb b.fb (!bb), fc := flag a.fc b.fc true, unproven := flag a.unproven b.unproven true
    cmd := mergeVal a.cmd b.cmd (match k with
      | .sg => min a.cmd b.cmd
      | .bb => 2
      | _ => 0)
    reserved := flag a.reserved b.reserved true
    holders := max a.holders b.holders
    kb :=
      let bit (n : Nat) (restr : Bool) := 2 ^ n * b2n (flag (a.kb.getLsbD n) (b.kb.getLsbD n) restr)
      if a.kb = b.kb then a.kb
      else if bb then BitVec.ofNat 8 (bit 0 false + bit 1 false + bit 2 true + bit 3 false + bit 4 false + bit 5 true)
      else a.kb &&& b.kb
    ta := mergeVal a.ta b.ta (mergeTimerA k a.ta b.ta)
    tb := mergeVal a.tb b.tb (mergeLarger a.tb b.tb) }

/-- Where a state stands in the order of R143. -/
def mergeRank : RSt → Nat
  | .inUse => 0 | .releasing => 1 | .apprLocked => 2 | .emerg => 3 | .setting => 4 | .locked => 5 | .proved => 6 | .cleared => 7
  | _ => 8

/-- A differing route state (R143). -/
def mergeState (a b : RSt) : RSt :=
  let idle (x : RSt) : Bool := x = .idle || x = .requested
  if a = b then a
  else if idle a && idle b then .idle
  else if idle a then (if b = .setting then a else b)
  else if idle b then (if a = .setting then b else a)
  else if mergeRank a ≤ mergeRank b then a else b

/-- A route's timer by the state that uses it (R138, R144): the smaller for storage time. DESIGN CHOICE (log entry 137): where the
states differ too, the state that the merge gives says which time TIMER holds. -/
def mergeRouteTimer (st : RSt) (a b : Nat) : Nat := if st = .requested then min a b else max a b

/-- A differing route entry (R143, R144). -/
def mergeRoute (a b : RouteSt) : RouteSt :=
  let st := mergeState a.st b.st
  { st := st, released := min a.released b.released, engaged := a.engaged || b.engaged, signalled := a.signalled || b.signalled
    auto := a.auto && b.auto, withheld := a.withheld, kOcc := a.kOcc && b.kOcc, nextSeen := a.nextSeen && b.nextSeen
    ovOcc := a.ovOcc || b.ovOcc, firstClear := a.firstClear || b.firstClear, halted := a.halted || b.halted
    timer := mergeVal a.timer b.timer (mergeRouteTimer st a.timer b.timer) }

/-- A differing area entry (R144). -/
def mergeArea (a b : AreaSt) : AreaSt := ⟨mergeVal a.timer b.timer (mergeLarger a.timer b.timer), a.expired && b.expired⟩

/-! ### Items (R141, R145) -/

/-- The keys that either table lists. -/
def bothKeys {α : Type} (a b : Tab α) : List Nat := (Tab.keys a ++ Tab.keys b).foldl (fun l k => insertNat k l) []

/-- A differing item: class, index, and the table, graph and resolved value of 8 bytes each. -/
structure DiffItem where
  cls   : Nat
  index : Nat
  table : List Byte
  graph : List Byte
  resolved : List Byte
deriving DecidableEq, Repr

def ElemSt.bytes (x : ElemSt) : List Byte := leBytes 4 x.word ++ leBytes 4 x.timerWord
def RouteSt.bytes (x : RouteSt) : List Byte := leBytes 4 x.word ++ leBytes 4 x.timer
/-- An area entry as a DIVERGENCE record shows it. DESIGN CHOICE (log entry 135): the value fields have 8 bytes and the entry 4, so four
bytes of 0 follow it. -/
def AreaSt.bytes (x : AreaSt) : List Byte := leBytes 4 x.word ++ leBytes 4 0

/-- The kind of an object in the image; one it does not define resolves as a section. -/
def Image.kindOf (img : Image) (o : Nat) : Kind := ((Tab.get? img.elems o).map ElemDef.kind).getD .ts

/-- The resolved vector of two verdicts (R141–R144). -/
def resolve (img : Image) (t g : Verdict) : Verdict :=
  { cycle := t.cycle, digest := t.digest, count := max t.count g.count
    areas := (bothKeys t.areas g.areas).map fun a =>
      (a, if t.area a = g.area a then t.area a else mergeArea (t.area a) (g.area a))
    routes := (bothKeys t.routes g.routes).map fun r =>
      (r, if t.route r = g.route r then t.route r else mergeRoute (t.route r) (g.route r))
    elems := (bothKeys t.elems g.elems).map fun o =>
      (o, if t.elem o = g.elem o then t.elem o else mergeElem (img.kindOf o) (t.elem o) (g.elem o)) }

/-- The header as its first eight bytes show it with the active count: what differs of it is reported as one item. -/
def headBytes (v : Verdict) : List Byte := bytesOf 4 v.cycle ++ leBytes 2 v.count ++ leBytes 2 0

/-- The differing items, in the order of the vector. -/
def diffItems (t g r : Verdict) : List DiffItem :=
  (if headBytes t = headBytes g then [] else [⟨0, 0, headBytes t, headBytes g, headBytes r⟩])
  ++ ((bothKeys t.areas g.areas).filter fun a => (t.area a).bytes ≠ (g.area a).bytes).map (fun a =>
      ⟨1, a, (t.area a).bytes, (g.area a).bytes, (r.area a).bytes⟩)
  ++ ((bothKeys t.routes g.routes).filter fun i => (t.route i).bytes ≠ (g.route i).bytes).map (fun i =>
      ⟨2, i, (t.route i).bytes, (g.route i).bytes, (r.route i).bytes⟩)
  ++ ((bothKeys t.elems g.elems).filter fun o => (t.elem o).bytes ≠ (g.elem o).bytes).map fun o =>
      ⟨3, o, (t.elem o).bytes, (g.elem o).bytes, (r.elem o).bytes⟩

/-! ### Divergence and WITHHELD (R145–R147) -/

/-- The elements that a route names: entry, exit, path, overlap and flank (R146). -/
def RouteDef.names (d : RouteDef) : List Nat :=
  d.entry :: d.exit :: (d.path.map PoolEntry.object ++ d.overlap.toList ++ d.ovList.map Prod.fst
    ++ d.flank.flatten.map PoolEntry.object)

/-- The routes that diverge in a cycle (R146). -/
def divergent (img : Image) (r : Verdict) (cands : List Nat) (l : List DiffItem) : List Nat :=
  (img.routes.filter fun p =>
    l.any (fun x => x.cls = 2 && x.index = p.1)
      || (((r.route p.1).st.active || cands.contains p.1) && l.any fun x => x.cls = 3 && p.2.names.contains x.index)).map Prod.fst

/-- A DIVERGENCE record (R145, R148). -/
def State.recordDiff (s : State) (x : DiffItem) : State :=
  s.record 0x0410 (fields [(1, x.cls), (1, 0), (2, x.index)] ++ x.table ++ x.graph ++ x.resolved)

/-- The executive's count of consecutive cycles of divergence, and the WITHHELD set in the cycle in which it reaches 3 (R146); the
count is kept up to 4, where it has passed 3. -/
def State.countDivergence (s : State) (div : List Nat) : State :=
  let run : Tab Nat := Tab.ofList (div.map fun r => (r, min 4 (Tab.getD s.ixl.divergeRun r 0 + 1)))
  let fresh := div.filter fun r => Tab.getD run r 0 = 3 && !s.ixl.withheld.contains r
  let s1 : State := { s with ixl := { s.ixl with divergeRun := run, withheld := fresh.foldl (fun l r => insertNat r l) s.ixl.withheld } }
  s1.each fresh fun s r => s.record 0x0411 (fields [(2, r), (2, 0)])

/-! ### What the module keeps of a resolved vector -/

/-- The persistent states that the vector shows: blocks and automatic marks (R113). -/
def State.keepMarks (s : State) : State :=
  let v := s.ixl.resolved
  let blocked (k : Kind → Bool) (f : ElemSt → Bool) : List Nat :=
    (v.elems.filter fun p => (Tab.get? s.image.elems p.1).any (fun d => k d.kind) && f p.2).map Prod.fst
  { s with ixl := { s.ixl with
    blockedTs := blocked (fun k => k = .ts) ElemSt.fa
    blockedPt := blocked (fun k => k = .pt || k = .de) ElemSt.fc
    autos := (v.routes.filter fun p => p.2.auto).map Prod.fst } }

/-- How a station completion stands after a cycle: done with a status, or still due (R327). -/
def State.completionStatus (s : State) (c : Completion) : Option Nat :=
  let v := s.ixl.resolved
  if c.opcode = 0x0101 then
    let st := (v.route c.target).st
    if st = .cleared then some stOk
    else if st = .idle then some (Tab.getD s.ixl.leaves c.target stNotProven)
    else none
  else if c.opcode = 0x0103 then (if (v.route c.target).st = .idle then some stOk else none)
  else if c.opcode = 0x0201 then
    let x := v.elem c.target
    if x.state = c.arg + 1 then some stOk
    else if x.cmd ≠ c.arg then some stNotProven
    else none
  else none

/-- Station completions that the resolved vector brings, sent on Q4 (R327). -/
def State.sendCompletions (s : State) : State :=
  let due := s.ixl.completions.filter fun c => (s.completionStatus c).isSome
  let s1 : State := { s with ixl := { s.ixl with completions := s.ixl.completions.filter fun c => (s.completionStatus c).isNone } }
  s1.each due fun t c => t.complete c ((s.completionStatus c).getD stOk) (s.completionData c)

/-- Route engine and graph solver data that follow a resolved vector: usage of routes that are IDLE ends. -/
def State.keepUse (s : State) : State :=
  let v := s.ixl.resolved
  { s with ixl := { s.ixl with
    use := s.ixl.use.filter fun p => (v.route p.1).st.active
    graphUse := s.ixl.graphUse.filter fun p => (v.route p.1).st.active
    stored := s.ixl.stored.filter fun r => (v.route r).st = .requested } }

end Sys2Proof.Machine
end

