-- ==== Sys2Proof/Machine/Station.lean ====
section
/-!
DEFINITION. How a command is served in the mode (R18, R31, R306 steps 10 and 11, R312, R538), and the station commands, boundary
frames and application messages (R168, R324–R329, R331): decoded once, and judged by the same requests whether they come
through a cycle's input accord or alone.
-/

namespace Sys2Proof.Machine

/-! ### Service by mode (R18, R312) -/

/-- Who serves a command in the mode. -/
inductive Service where
  /-- Nobody is there: no answer. -/
  | silent
  /-- The housekeeper answers REFUSED_MODE. -/
  | refusedHk
  /-- The lanes answer REFUSED_MODE. -/
  | refused
  | lanes
  | housekeeper
deriving DecidableEq, Repr

/-- The queues of vital commands. -/
def vitalQueue (q : Nat) : Bool := q < 4

/-- R18, R31, R312: the service of an opcode on a queue. -/
def State.service (s : State) (q opcode : Nat) : Service :=
  match s.mod.mode with
  | .off | .reset => .silent
  | .boot | .selftest => if opcode = 0x0301 then .housekeeper else .refusedHk
  | .dormant => if opcode = 0x0301 || opcode = 0x0701 || opcode = 0x0702 || opcode = 0x0704 then .housekeeper else .refusedHk
  | .loaded =>
    if q = 5 then .housekeeper else if q = 4 || q = 6 || q = 7 || q = 8 || q = 10 then .lanes else .refused
  | .recovery => if q = 6 || q = 7 || opcode = 0x0301 then .lanes else .refused
  | .integrate | .safe | .replay => if q = 5 then .housekeeper else if vitalQueue q then .refused else .lanes
  | .operate =>
    if q = 5 then .housekeeper else if vitalQueue q && s.mod.role = .tender then .refused else .lanes

/-- The queue on which an opcode is served (R323); a boundary frame may come on either of two. -/
def opcodeQueue (opcode : Nat) : Nat :=
  match opcode / 256 with
  | 0x01 => if opcode = 0x0103 then 1 else if opcode = 0x0104 then 4 else 0
  | 0x02 => if opcode = 0x0203 then 1 else if opcode = 0x0208 then 4 else 0
  | 0x03 => 4
  | 0x04 => 5
  | 0x05 => 6
  | 0x06 => 9
  | 0x07 => if opcode = 0x0705 || opcode = 0x0706 then 8 else 7
  | 0x08 => 8
  | 0x09 => 9
  | 0x0A => 10
  | 0x0B => 11
  | 0x0D => 8
  | 0x0F => 2
  | _ => 0

/-- A reply by whoever serves the command: the lanes, or the housekeeper alone (R310, R312). -/
def State.say (s : State) (h : CmdHdr) (opcode status : Nat) (params : List Byte) : State :=
  match s.service (opcodeQueue opcode) opcode with
  | .silent => s
  | .refusedHk | .housekeeper => if s.mod.hkLost then s else s.replyHk h opcode status params
  | _ => s.reply h opcode status params

/-- A refusal that PACKET_REJECTED records (R319, R324). -/
def State.turnAway (s : State) (h : CmdHdr) (opcode status : Nat) : State :=
  match s.service (opcodeQueue opcode) opcode with
  | .silent => s
  | .refusedHk | .housekeeper =>
    if s.mod.hkLost then s
    else (s.recordHk 0x0501 (fields [(2, h.source.toNat), (1, h.queue.val), (1, 0), (2, opcode), (2, status), (4, h.seq.toNat)])).replyHk
      h opcode status []
  | _ => s.reject h opcode status

/-- The source holds an open session of the role (R313); in DORMANT that is the housekeeper's own (R317). -/
def State.holds (s : State) (r : Role) (source : Nat) : Bool :=
  (s.host.sessions ++ s.host.hkSession.toList).any fun x => x.role = r && x.source = source

/-- The entry steps of DORMANT run (R507). -/
def State.enteringDormant (s : State) : Bool := s.mod.mode = .dormant && s.mod.dormant.any DormantS.entering

/-- Steps 10 and 11 of R306 for a command that stands alone: its queue's service in the mode, its MAC and its session. While
the entry to DORMANT runs, a command is answered BUSY (R507); one whose handling a data-caused fault strikes is answered INTERNAL (R456). -/
def State.serve (s : State) (h : CmdHdr) (opcode : Nat) (need : Option Role) (body : State → State) : State :=
  match s.service (opcodeQueue opcode) opcode with
  | .silent => s
  | .refusedHk | .refused => if s.enteringDormant then s.say h opcode stBusy [] else s.turnAway h opcode stMode
  | .lanes | .housekeeper =>
    if s.enteringDormant then s.say h opcode stBusy []
    else if s.host.spoilt then ({ s with host := { s.host with spoilt := false } } : State).say h opcode stInternal []
    else match need with
    | none => if h.mac then s.turnAway h opcode stBadParam else body s
    | some r => if s.holds r h.source.toNat then body s else s.turnAway h opcode stNotAuth

/-! ### Station commands decoded (R325–R331) -/

/-- A vital command: its header, opcode and parameters. -/
structure VitalCmd where
  hdr    : CmdHdr
  opcode : Nat
  params : List Byte
deriving DecidableEq, Repr

/-- What a vital command asks for once its parameters are checked. -/
inductive VitalAct where
  /-- Refused for its parameters, and recorded. -/
  | reject (status : Nat)
  /-- Answered without a request. -/
  | answer (status : Nat)
  /-- A first step of an emergency release that may have its token. -/
  | token
  | route (r : Nat) (q : RouteReq)
  | elem (o : Nat) (q : ElemReq)
  | frame (bb : Nat) (data : NbrData)
  | message (inbox : Nat) (words : List Word)
deriving DecidableEq, Repr

/-- Opcodes of routes and elements marked T (R323). -/
def twoStep (opcode : Nat) : Bool := opcode = 0x0103 || opcode = 0x0205

/-- An element of one of some kinds. -/
def State.isElem (s : State) (o : Nat) (ks : List Kind) : Bool := (Tab.get? s.image.elems o).any fun d => ks.contains d.kind

/-- A station command's parameters as a request (R325, R326). -/
def State.stationAct (s : State) (c : VitalCmd) : VitalAct :=
  let target := leAt c.params 0 2
  let action := byteAt c.params 2
  let step := byteAt c.params 3
  let token : Word := BitVec.ofNat 32 (leAt c.params 4 4)
  let stepOk := if twoStep c.opcode then step = 1 || step = 2 else step = 0
  let onoff := action = 1 || action = 2
  let valid := s.tokenValid c.hdr c.opcode target true token
  let route := (Tab.get? s.image.routes target).isSome
  if c.params.length ≠ 8 then .reject stBadLength
  else if !stepOk || (step ≠ 2 && token ≠ 0) then .reject stBadParam
  else match c.opcode with
  | 0x0101 => if route && action < 2 then .route target (.set (action = 1)) else .reject stBadParam
  | 0x0102 => if route && action = 0 then .route target .cancel else .reject stBadParam
  | 0x0103 =>
    if !route || action ≠ 0 then .reject stBadParam
    else if step = 1 then
      let code := (s.ixl.resolved.route target).st.code
      if 3 ≤ code && code ≤ 8 then .token else .answer stLocked
    else if valid then .route target .emerg else .answer stToken
  | 0x0105 => if route && onoff then .route target (if action = 1 then .autoOn else .autoOff) else .reject stBadParam
  | 0x0201 => if s.isElem target [.pt, .de] && onoff then .elem target (.move (action = 2)) else .reject stBadParam
  | 0x0202 => if s.isElem target [.pt, .de] && onoff then .elem target (.blockPoint (action = 1)) else .reject stBadParam
  | 0x0203 => if s.isElem target [.sg, .ez] && action = 0 then .elem target .replace else .reject stBadParam
  | 0x0204 => if s.isElem target [.ts] && onoff then .elem target (.blockSection (action = 1)) else .reject stBadParam
  | 0x0205 =>
    if !s.isElem target [.ts, .ez] || action ≠ 0 then .reject stBadParam
    else if step = 1 then .elem target .restoreStep1
    else if valid then .elem target .restore else .answer stToken
  | 0x0206 => if s.isElem target [.ky, .sa] && action = 0 then .elem target .release else .reject stBadParam
  | 0x0207 => if s.isElem target [.lx] && onoff then .elem target (if action = 1 then .lxClose else .lxReopen) else .reject stBadParam
  | _ => .reject stUnknown

/-- A boundary frame's parameters (R331). -/
def State.frameAct (s : State) (c : VitalCmd) : VitalAct :=
  let p := c.params
  let bb := leAt p 0 2
  let fl := byteAt p 5
  if p.length ≠ 16 then .reject stBadLength
  else if 2 < byteAt p 4 || 64 ≤ fl || 16 ≤ byteAt p 6 || byteAt p 7 ≠ 0 || leAt p 12 4 ≠ 0 then .reject stBadParam
  else if s.image.bounds.any fun b => b.bb = bb && b.source = c.hdr.source.toNat && b.queue = c.hdr.queue.val && b.theirBb = leAt p 2 2
  then .frame bb ⟨byteAt p 4, bitOf fl 0, bitOf fl 1, bitOf fl 2, bitOf fl 3, bitOf fl 4, bitOf fl 5, byteAt p 6,
    BitVec.ofNat 32 (leAt p 8 4)⟩
  else .reject stBadParam

/-- An application message's parameters (R168). -/
def State.messageAct (s : State) (c : VitalCmd) : VitalAct :=
  let p := c.params
  let n := byteAt p 2
  let id := leAt p 0 2
  if p.length < 4 || p.length ≠ 4 + 4 * n then .reject stBadLength
  else if 8 < n || byteAt p 3 ≠ 0 then .reject stBadParam
  else if s.image.blocks.any fun b => b.2.type = 0x29 && bits b.2.param 15 0 = id
  then .message id ((List.range n).map fun i => BitVec.ofNat 32 (leAt p (4 + 4 * i) 4))
  else .reject stBadParam

/-- What a vital command asks for. -/
def State.vitalAct (s : State) (c : VitalCmd) : VitalAct :=
  if c.opcode = 0x0F01 then s.frameAct c else if c.opcode = 0x0C01 then s.messageAct c else s.stationAct c

/-- The identity under which a command's requests are answered. -/
def VitalCmd.origin (c : VitalCmd) : Origin := .host c.hdr.source.toNat c.hdr.queue.val c.hdr.seq

/-! ### Decoding at R67 step 4 -/

/-- A command that has been decoded: judged already, or waiting for the forms. -/
structure Decoded where
  cmd    : VitalCmd
  status : Option Nat
  params : List Byte
deriving DecidableEq, Repr

/-- One command at R67 step 4: its request enters the list, or it has its effect and its answer at once (R131, R168, R331). -/
def State.decodeOne (s : State) (c : VitalCmd) : State × Decoded :=
  match s.vitalAct c with
  | .reject st => (s.recordReject c.hdr c.opcode st, ⟨c, some st, []⟩)
  | .answer st => (s, ⟨c, some st, []⟩)
  | .token =>
    let r := s.issueToken c.hdr c.opcode (leAt c.params 0 2) true none
    (r.1, ⟨c, some stOk, bytesOf 4 r.2⟩)
  | .route r q =>
    let l := s.ixl.reqList
    let cand : Bool := match q with
      | .set _ => (s.ixl.resolved.route r).st = .idle && !l.candidates.contains r
      | _ => false
    ({ s with ixl := { s.ixl with reqList := { l with
        routeReqs := l.routeReqs ++ [(r, q, c.origin)], candidates := if cand then l.candidates ++ [r] else l.candidates } } },
     ⟨c, none, []⟩)
  | .elem o q =>
    let l := s.ixl.reqList
    ({ s with ixl := { s.ixl with reqList := { l with elemReqs := l.elemReqs ++ [(o, q, c.origin)] } } }, ⟨c, none, []⟩)
  | .frame bb n =>
    ({ s with ixl := { s.ixl with nbr := Tab.put s.ixl.nbr bb n, nbrFresh := insertNat bb s.ixl.nbrFresh } }, ⟨c, some stOk, []⟩)
  | .message id ws =>
    let box := Tab.getD s.sheets.inboxes id ⟨0, []⟩
    ({ s with sheets := { s.sheets with inboxes := Tab.put s.sheets.inboxes id ⟨box.seq + 1, ws⟩ } }, ⟨c, some stOk, []⟩)

/-- Commands in accorded order. -/
def State.decodeAll (s : State) (l : List VitalCmd) : State × List Decoded :=
  l.foldl (fun acc c => let r := acc.1.decodeOne c; (r.1, acc.2 ++ [r.2])) (s, [])

/-- What an answered request leaves behind: a token issued or spent, a completion that is due (R327, R328). -/
def State.settleOne (s : State) (d : Decoded) (answers : List (Origin × Nat)) : State × Judged :=
  match d.status with
  | some st => (s, ⟨d.cmd.hdr, d.cmd.opcode, st, d.params⟩)
  | none =>
    let c := d.cmd
    let target := leAt c.params 0 2
    let st := ((answers.find? fun a => a.1 = c.origin).map Prod.snd).getD stInternal
    let j : Judged := ⟨c.hdr, c.opcode, st, []⟩
    let due (arg : Nat) : State :=
      { s with ixl := { s.ixl with completions := s.ixl.completions ++ [{ c.hdr.completion c.opcode target with arg := arg }] } }
    match c.opcode with
    | 0x0101 => (if st = stAccepted then due 0 else s, j)
    | 0x0103 => (if st = stAccepted then (due 0).spendToken c.hdr c.opcode target else s, j)
    | 0x0201 => (if st = stAccepted then due (byteAt c.params 2) else s, j)
    | 0x0205 =>
      if st ≠ stOk then (s, j)
      else if byteAt c.params 3 = 1 then
        let r := s.issueToken c.hdr c.opcode target true none
        (r.1, { j with params := bytesOf 4 r.2 })
      else (s.spendToken c.hdr c.opcode target, j)
    | _ => (s, j)

/-- Every decoded command settled, in accorded order. -/
def State.settleAll (s : State) (l : List Decoded) (answers : List (Origin × Nat)) : State × List Judged :=
  l.foldl (fun acc d => let r := acc.1.settleOne d answers; (r.1, acc.2 ++ [r.2])) (s, [])

/-! ### A vital command alone -/

/-- A route's slot for requests that come outside a cycle's evaluation: no timer advances and nothing is field-driven. An IDLE
route is set only where a request asks for it. -/
def Ev.aloneSlot (e : Ev) (r : Nat) : Ev :=
  match e.def? r with
  | none => e
  | some d =>
    if (e.route r).st = .idle && !(e.reqsOf r RouteReq.isSet).isEmpty then e.candidateSlot r
    else
      let e1 := ((e.emergency r d).marks r).cancel r d
      e1.setActive r d

/-- A PROVED or CLEARED route that the command has taken a proving condition from returns to LOCKED with it (R83, R96). -/
def Ev.loseProof (before e : Ev) (r : Nat) : Ev :=
  match e.def? r with
  | none => e
  | some d =>
    let lost := before.proved r d && !e.proved r d
    match (e.route r).st with
    | .proved => if lost then e.back r else e
    | .cleared => if lost || e.replaced.contains d.entry then e.back r else e
    | _ => e

/-- The requests of one command on the resolved state, with what follows from them (R67 steps 4, 6, 7; R96). -/
def Ev.runAlone (e : Ev) : Ev :=
  let e1 := e.takeFrames.boundaryZones.elemReqs
  let e2 := e1.each e1.actives (Ev.loseProof e)
  (((e2.reqs.routeReqs.map Prod.fst).eraseDups.foldl Ev.aloneSlot e2).commands).trim

/-- A form's results taken as the resolved state (log entry 19). -/
def State.adopt (s : State) (e : Ev) : State :=
  ({ s with ixl := { s.ixl with
    resolved := e.v, use := e.use, graphUse := e.use, stored := e.stored, leaves := e.leaves, nbrFresh := [], reqList := .empty
    resets := e.freed.foldl (fun l r => insertNat r l) s.ixl.resets } } : State).keepMarks.keepUse

/-- A vital command that stands alone: judged on the resolved state with its effect in the same step, and answered. -/
def State.judgeAlone (s : State) (c : VitalCmd) : State :=
  s.serve c.hdr c.opcode none fun s =>
    let clean : State := { s with ixl := { s.ixl with reqList := .empty, nbrFresh := [] } }
    let d := clean.decodeOne c
    let e := (d.1.form false).runAlone
    let s1 := d.1.adopt e
    let r := s1.settleOne d.2 e.answers
    (r.1.reply c.hdr c.opcode r.2.status r.2.params).sendCompletions

/-- The station parameter block (R325). -/
def stationParams (target : Nat) (action step : Nat) (token : Word) : List Byte :=
  fields [(2, target), (1, action), (1, step), (4, token.toNat)]

/-- A station command of a row: opcode and parameter block. -/
def stationOp (h : CmdHdr) (opcode target action step : Nat) (token : Word) (s : State) : State :=
  s.judgeAlone ⟨h, opcode, stationParams target action step token⟩

def execRouteSet (hdr : CmdHdr) (route : BitVec 16) (action : Byte) (s : State) : Host.Outcome State Fault Refusal :=
  .next (stationOp hdr 0x0101 route.toNat action.toNat 0 0 s)

def execRouteCancel (hdr : CmdHdr) (route : BitVec 16) (s : State) : Host.Outcome State Fault Refusal :=
  .next (stationOp hdr 0x0102 route.toNat 0 0 0 s)

def execRouteEmergencyReleaseStep1 (hdr : CmdHdr) (route : BitVec 16) (s : State) : Host.Outcome State Fault Refusal :=
  .next (stationOp hdr 0x0103 route.toNat 0 1 0 s)

def execRouteEmergencyReleaseStep2 (hdr : CmdHdr) (route : BitVec 16) (token : Word) (s : State) : Host.Outcome State Fault Refusal :=
  .next (stationOp hdr 0x0103 route.toNat 0 2 token s)

def execRouteAuto (hdr : CmdHdr) (route : BitVec 16) (action : Byte) (s : State) : Host.Outcome State Fault Refusal :=
  .next (stationOp hdr 0x0105 route.toNat action.toNat 0 0 s)

def execPointMove (hdr : CmdHdr) (elem : BitVec 16) (action : Byte) (s : State) : Host.Outcome State Fault Refusal :=
  .next (stationOp hdr 0x0201 elem.toNat action.toNat 0 0 s)

def execPointBlock (hdr : CmdHdr) (elem : BitVec 16) (action : Byte) (s : State) : Host.Outcome State Fault Refusal :=
  .next (stationOp hdr 0x0202 elem.toNat action.toNat 0 0 s)

def execSignalReplace (hdr : CmdHdr) (elem : BitVec 16) (s : State) : Host.Outcome State Fault Refusal :=
  .next (stationOp hdr 0x0203 elem.toNat 0 0 0 s)

def execSectionBlock (hdr : CmdHdr) (elem : BitVec 16) (action : Byte) (s : State) : Host.Outcome State Fault Refusal :=
  .next (stationOp hdr 0x0204 elem.toNat action.toNat 0 0 s)

def execSectionRestoreStep1 (hdr : CmdHdr) (elem : BitVec 16) (s : State) : Host.Outcome State Fault Refusal :=
  .next (stationOp hdr 0x0205 elem.toNat 0 1 0 s)

def execSectionRestoreStep2 (hdr : CmdHdr) (elem : BitVec 16) (token : Word) (s : State) : Host.Outcome State Fault Refusal :=
  .next (stationOp hdr 0x0205 elem.toNat 0 2 token s)

def execKeyRelease (hdr : CmdHdr) (elem : BitVec 16) (s : State) : Host.Outcome State Fault Refusal :=
  .next (stationOp hdr 0x0206 elem.toNat 0 0 0 s)

def execLxCommand (hdr : CmdHdr) (elem : BitVec 16) (action : Byte) (s : State) : Host.Outcome State Fault Refusal :=
  .next (stationOp hdr 0x0207 elem.toNat action.toNat 0 0 s)

/-- A neighbour's boundary frame (R331). -/
def execBoundaryFrame (hdr : CmdHdr) (targetBb sourceBb : BitVec 16) (dir bflags exitAspect : Byte) (senderCycle : Word) (s : State) :
    Host.Outcome State Fault Refusal :=
  .next (s.judgeAlone ⟨hdr, 0x0F01, fields [(2, targetBb.toNat), (2, sourceBb.toNat), (1, dir.toNat), (1, bflags.toNat),
    (1, exitAspect.toNat), (1, 0), (4, senderCycle.toNat), (4, 0)]⟩)

/-- A message to a sheet's inbox (R168). -/
def execAppMsgSend (hdr : CmdHdr) (identifier : BitVec 16) (n : Byte) (words : List Word) (s : State) :
    Host.Outcome State Fault Refusal :=
  .next (s.judgeAlone ⟨hdr, 0x0C01, fields [(2, identifier.toNat), (1, n.toNat), (1, 0)] ++ words.flatMap (bytesOf 4)⟩)

end Sys2Proof.Machine
end

