-- ==== Sys2Proof/Machine/Subs.lean ====
section
/-!
DEFINITION. What a host sees of the module: its status (R333), the bytes of an event record (R387), and the updates of
subscriptions (R334, R335).
-/

namespace Sys2Proof.Machine

/-! ### Status (R333) -/

/-- ROM level, executive major and minor, interface level (R4, R31, R421); RECOVERY runs the ROM alone (R435). -/
def State.levels (s : State) : List Byte := fields [(1, 3), (1, 3), (1, if s.mod.mode = .recovery then 0 else s.mod.minor), (1, 2)]

def State.laneStates (s : State) : List Byte := Lane.all.flatMap fun l => leBytes 1 (s.laneSt l).code

/-- MFLAGS (R333). -/
def State.mflags (s : State) : Nat :=
  b2n s.mod.hkLost + 2 * b2n s.host.recoveryAddr + 4 * b2n s.net.synced + 8 * b2n s.rcd.freeze.isSome + 16 * b2n s.mod.sealed

/-- Modes in which the housekeeper answers for the module (R312, R333). -/
def Mode.hkAnswers : Mode → Bool
  | .boot | .selftest | .dormant => true
  | _ => false

/-- The reply to STATUS_MODULE; `now` is the accorded cycle network time, or the packet's stamp outside cycles (R538). What the housekeeper does not know of the lanes' own reads 0 (log entry 34). -/
def State.statusModule (s : State) (now : Nat) : List Byte :=
  let hk := s.mod.mode.hkAnswers
  let lanes (n : Nat) : Nat := if hk then 0 else n
  fields [(1, s.modeWord), (1, lanes (LaneSet.bits s.votingLanes))] ++ (if hk then leBytes 3 0 else s.laneStates)
    ++ fields [(1, s.mflags), (1, s.mod.sid), (1, s.mod.pos)] ++ s.levels ++ leBytes 4 0
    ++ bytesOf 8 Config.serial ++ bytesOf 6 Config.macA ++ bytesOf 6 Config.macB
    ++ fields [(4, s.rcd.powerCycles), (6, s.rcd.opTime), (2, 0), (4, if s.mod.mode.cycles then s.mod.cycle.toNat else 0),
      (8, lanes now), (4, if s.degraded then s.mod.degradedLeft / 1000 else 0xFFFFFFFF), (4, lanes s.net.claim.toNat)]
    ++ (if hk then leBytes 8 0 else padTo 8 s.img.runDigest)

/-! ### Record bytes (R387) -/

def Record.flags (r : Record) : Nat :=
  b2n r.interleaved + (match r.lane with
    | some l => 2 + 4 * l.id
    | none => 0) + 16 * b2n r.hk + 32 * b2n r.held

def Record.bytes (r : Record) : List Byte :=
  fields [(2, r.type), (2, 24 + r.payload.length), (2, r.rep), (2, r.flags), (4, r.power), (6, r.opTime), (4, r.cycle.toNat), (2, 0)] ++ r.payload

/-! ### Updates (R335) -/

/-- The items of a subscription and their present values. -/
def State.subItems (s : State) (u : Subscription) : List (Nat × Nat) :=
  let v := s.ixl.resolved
  match u.kind with
  | 1 => (List.range u.count).map fun i => (u.first + i, (v.route (u.first + i)).word % 65536)
  | 2 => (List.range u.count).map fun i => let x := v.elem (u.first + i); (u.first + i, x.stateByte + 256 * (x.cmd % 16))
  | 3 => [(0, ofLe (fields [(1, s.modeWord), (1, LaneSet.bits s.votingLanes)] ++ s.laneStates ++ fields [(1, s.mflags), (2, 0)]
      ++ bytesOf 4 s.net.claim))]
  | _ => []

/-- One entry of an update. -/
def subEntry (kind : Nat) (x : Nat × Nat) : List Byte := if kind = 3 then leBytes 12 x.2 else leBytes 2 x.1 ++ leBytes 2 x.2

/-- The parameters of one update packet; N counts entries of 4 bytes, and whole records for kind 4 (log entry 34). -/
def subPacket (s : State) (u : Subscription) (flags n : Nat) (body : List Byte) : List Byte :=
  fields [(1, u.id), (1, u.kind), (1, flags), (1, 0), (4, s.mod.cycle.toNat), (2, n), (2, 0)] ++ body

/-- Whether the Q4 reply ring has a place that is not reserved (R311). -/
def State.q4Room (s : State) : Bool := Tab.getD s.host.reserved 4 0 < s.queueDepth 4

/-- Changes one source's subscription. -/
def State.modSub (s : State) (u : Subscription) (f : Subscription → Subscription) : State :=
  { s with host := { s.host with subs := s.host.subs.map fun x => if x.source = u.source && x.id = u.id then f x else x } }

/-- A list cut into pieces of n. -/
def pieces {α : Type} (n : Nat) : Nat → List α → List (List α)
  | 0, _ => []
  | k + 1, l => if l.isEmpty then [] else l.take n :: pieces n k (l.drop n)

/-- Sends items in packets of 253 entries; `more` says that further packets of the update follow in later cycles. A dropped
packet makes the subscription resynchronise from its beginning. -/
def State.sendItems (s : State) (u : Subscription) (items : List (Nat × Nat)) (full more : Bool) : State :=
  let ps := pieces 253 4 items
  (ps.zipIdx).foldl (fun s p =>
    let last := p.2 + 1 = ps.length
    let n := if u.kind = 3 then 3 else p.1.length
    let room := s.q4Room
    let s1 := s.unsol u.source 4 0x0302 stOk (subPacket s u (b2n full + 2 * b2n (!last || more)) n (p.1.flatMap (subEntry u.kind)))
    if room then s1.modSub u fun x => { x with last := p.1.foldl (fun t e => Tab.put t e.1 e.2) x.last }
    else s1.modSub u fun x => { x with resync := some u.first, last := [] }) s

/-- One subscription of kinds 1 to 3 after the T₄ boundary. -/
def State.updateSub (s : State) (u : Subscription) : State :=
  let items := s.subItems u
  let start := if u.fullDue then some u.first else u.resync
  let room := 4 * 253
  match start with
  | some i =>
    let rest := items.filter fun x => i ≤ x.1 || u.kind = 3
    let more := room < rest.length
    let s1 := s.modSub u fun x => { x with fullDue := false, resync := if more then some (i + room) else none }
    s1.sendItems u (rest.take room) true more
  | none =>
    let changed := items.filter fun x => Tab.get? u.last x.1 ≠ some x.2
    if changed.isEmpty then s
    else if room < changed.length then
      let more := room < items.length
      (s.modSub u fun x => { x with resync := if more then some (u.first + room) else none, last := [] }).sendItems u (items.take room) true more
    else s.sendItems u changed false false

/-- Updates of every subscription of kinds 1 to 3. -/
def State.sendUpdates (s : State) : State := s.each (s.host.subs.filter fun u => u.kind ≠ 4) fun s u => s.updateSub u

/-- How many of the records fit one packet of 1 008 bytes. -/
def fitRecords : Nat → List (List Byte) → Nat
  | _, [] => 0
  | room, r :: rs => if room < r.length then 0 else 1 + fitRecords (room - r.length) rs

/-- The next packet of a RECORDS subscription: the LOST record that is due first, then whole records (R335, R402). -/
def State.recordPacket (s : State) (u : Subscription) : State :=
  let lost : List (List Byte) := if u.lost = 0 then [] else
    [Record.bytes ⟨0, 0x0A01, 0, false, none, true, false, s.rcd.powerCycles, s.rcd.opTime, s.recCycle, fields [(4, u.lost), (1, 1), (3, 0)]⟩]
  let recs := (u.due.filterMap fun i => s.rcd.store.find? fun r => r.index = i).map Record.bytes
  let n := fitRecords (1008 - (lost.map List.length).sum) recs
  let out := lost ++ recs.take n
  if out.isEmpty then s.modSub u fun x => { x with due := [] }
  else
    let room := s.q4Room
    let s1 := s.unsol u.source 4 0x0302 stOk (subPacket s u 0 out.length out.flatten)
    if room then s1.modSub u fun x => { x with due := x.due.drop n, lost := 0 }
    else s1.modSub u fun x => { x with due := [], lost := x.lost + x.due.length }

/-- Up to four packets of every RECORDS subscription; what remains is counted as lost. -/
def State.sendRecords (s : State) : State :=
  if s.mod.hkLost then s
  else s.each (s.host.subs.filter fun u => u.kind = 4) fun s u =>
    let now (s : State) : Subscription := (s.host.subs.find? fun x => x.source = u.source && x.id = u.id).getD u
    let t := (List.range 4).foldl (fun s _ => if (now s).due.isEmpty then s else s.recordPacket (now s)) s
    t.modSub u fun x => { x with due := [], lost := x.lost + x.due.length }

end Sys2Proof.Machine
end

