-- ==== Sys2Proof/Machine/Supervisors.lean ====
section
/-!
DEFINITION. Point-drive stop supervision: rows 122 and 123 of the table (R280–R290, R292).
-/

namespace Sys2Proof.Machine

/-! ### Rate (R280) -/

/-- The accorded progress count of a remote supervisor. -/
def remoteCount (d : SupDef) (f : Frame) : Nat := leAt f.data d.progOfs 2

/-- The rate of the cycle, with what it is formed from. -/
def SupSt.measure (u : SupSt) (a : Accorded) (d : SupDef) : SupSt :=
  if d.remote then
    let newFrame := match Tab.get? a.frames d.node, u.used with
      | some f, some old => if Machine.newer f.round old.1 then some f else none
      | some f, none => some f
      | none, _ => none
    match newFrame with
    | none => { u with missing := u.missing + 1, fresh := false }
    | some f =>
      let c := remoteCount d f
      match u.used with
      | none => { u with missing := 0, used := some (f.round, c), fresh := false }
      | some (r, old) =>
        let dr := (f.round - r).toNat
        let dc := (c + 65536 - old) % 65536
        { u with missing := 0, used := some (f.round, c), fresh := true, rate := if 3 < dr then 65535 else dc * 100 / dr }
  else
    let w := Tab.getD a.counts d.progCh 0
    { u with rate := (w + u.prevWord) * 50, prevWord := w, fresh := true }

/-! ### What a supervisor reads of its point and channels (R282, R283) -/

/-- The point is detected in a position in the accorded set of the cycle. -/
def State.detected (s : State) (o pos : Nat) : Bool := (Tab.get? s.image.elems o).any fun d => s.input d = some pos

/-- VFLDg of a channel's group is lost for the module: two of its voting lanes judge it so (log entry 33). -/
def State.groupGone (s : State) (g : Nat) : Bool :=
  2 ≤ ((LaneSet.list s.votingLanes).filter fun l => (s.fch.lanes.get l).groupLost.getLsbD g).length

/-- A channel of a local supervisor cannot be relied on: FAILED, OVERLOAD, a latched opening of the channel or of its group, or its supply
lost (R259, R283). -/
def State.chanGone (s : State) (ch : Nat) : Bool :=
  (Tab.get? s.fch.outs ch).any (fun o =>
    o.hs.failed || o.ls.failed || o.overload || o.latched || (o.grpOpen && s.fch.groupLatched.getLsbD (ch / 8))) || s.groupGone (ch / 8)

/-- The conditions of cause 4. -/
def State.supCondition (s : State) (d : SupDef) (u : SupSt) : Bool :=
  (s.ixl.resolved.elem d.point).unproven
    || (if d.remote then 2 ≤ u.missing || s.agedOut d.node (s.image.ageRow d.node .de) else s.chanGone d.enCh || (d.srUsed && s.chanGone d.srCh))

/-! ### Transitions (R283, R285, R286) -/

/-- What a supervisor's step records. -/
inductive SupNote where
  | nothing | stopped | lockedOut (limit : Nat) | halted | ready
deriving DecidableEq, Repr

/-- A stop begins with k = 0. -/
def SupSt.beginStop (u : SupSt) (d : SupDef) (cause : Nat) : SupSt :=
  { u with st := .stopping, cause := cause, k := 0, rate0 := u.rate, limit := u.rate + d.margin
           stillRun := if u.rate < d.still && u.fresh then 1 else 0 }

/-- LOCKOUT with its cause. -/
def SupSt.lock (u : SupSt) (cause : Nat) : SupSt :=
  { u with st := .lockout, cause := cause, sinceStop := if u.st = .stopping then 0 else u.sinceStop }

/-- The envelope limit k cycles into a stop. -/
def envelope (d : SupDef) (rate0 k : Nat) : Nat := if k < d.tDec then rate0 * (d.tDec - k) / d.tDec + d.margin else d.margin

/-- A cycle of STOPPING. -/
def SupSt.stepStop (u : SupSt) (d : SupDef) (atEnd : Bool) : SupSt × SupNote :=
  let k := u.k + 1
  let still := if u.rate < d.still && u.fresh then u.stillRun + 1 else 0
  let v : SupSt := { u with k := k, limit := envelope d u.rate0 k, stillRun := still }
  if v.limit < v.rate then (v.lock 6, .lockedOut v.limit)
  else if d.tDecMax ≤ k && still < 2 then (v.lock 7, .lockedOut v.limit)
  else if d.remote && 2 ≤ v.missing then ({ v with st := .halted, cause := 5, haltRun := 0, sinceStop := 0 }, .halted)
  else if 2 ≤ still then
    if v.cause = 1 && atEnd then ({ v with st := .ready, sinceStop := 0 }, .stopped)
    else ({ v with st := .halted, haltRun := 0, sinceStop := 0 }, .stopped)
  else (v, .nothing)

/-- One transition of a supervisor: `x` is its point in the resolved vector of the cycle before. -/
def SupSt.step (u : SupSt) (d : SupDef) (x : ElemSt) (atEnd both gone : Bool) : SupSt × SupNote :=
  let u : SupSt := { u with movingRun := if d.still ≤ u.rate then u.movingRun + 1 else 0, sinceStop := min 1000 (u.sinceStop + 1) }
  let moving := 2 ≤ u.movingRun && d.tDecMax ≤ u.sinceStop
  match u.st with
  | .lockout => (u, .nothing)
  | .stopping => u.stepStop d atEnd
  | .halted =>
    if moving then ({ u.lock 8 with k := 0 }, .lockedOut 0)
    else
      let n := if u.rate < d.still then u.haltRun + 1 else 0
      if 200 ≤ n then ({ u with st := .ready, haltRun := 0 }, .ready) else ({ u with haltRun := n }, .nothing)
  | .ready =>
    if moving then ({ u.lock 8 with k := 0 }, .lockedOut 0)
    else if (x.cmd = 1 || x.cmd = 2) && !both then ({ u with st := .throw, cmd := x.cmd, throwAge := 0, floorRun := 0 }, .nothing)
    else (u, .nothing)
  | .throw =>
    let age := u.throwAge + 1
    let floor := if d.tStart ≤ age && u.rate < d.floor then u.floorRun + 1 else 0
    let v : SupSt := { u with throwAge := age, floorRun := floor }
    if atEnd then (v.beginStop d 1, .nothing)
    else if x.cmd ≠ u.cmd then (v.beginStop d 2, .nothing)
    else if gone then (v.beginStop d 4, .nothing)
    else if d.tFloor ≤ floor then (v.beginStop d 3, .nothing)
    else (v, .nothing)

/-- A supervisor asks for HALT in these states (R281). -/
def SupState.halts : SupState → Bool
  | .stopping | .halted | .lockout => true
  | _ => false

/-- One supervisor slot: rate, transition, records, HALT request and staged stop (R282–R289, R292). -/
def State.supSlot (s : State) (n : Nat) (d : SupDef) : State :=
  let u := Tab.getD s.sup.sups n SupSt.halted0
  let x := s.ixl.resolved.elem d.point
  let m := u.measure s.acc.accorded d
  let r := m.step d x (s.detected d.point m.cmd) (x.state = 0 && s.detected d.point 3) (s.supCondition d m)
  let v := r.1
  let changed := v.st ≠ u.st
  let begun := v.st = .stopping && u.st ≠ .stopping
  let s1 : State := { s with sup := { s.sup with
    sups := Tab.put s.sup.sups n v, stops := satAdd 0xFFFF s.sup.stops (b2n begun)
    halts := if v.st.halts || u.st.halts then s.sup.halts ++ [d.point] else s.sup.halts
    stopStaged := if changed && v.st.halts && !d.remote then s.sup.stopStaged ++ [n] else s.sup.stopStaged } }
  let s2 := match r.2 with
    | .nothing => s1
    | .ready => s1
    | .stopped => s1.record 0x0310 (fields [(1, n), (1, v.cause), (2, d.point), (2, sat16 v.rate0), (2, sat16 v.k)])
    | .lockedOut limit => s1.record 0x0311
        (fields [(1, n), (1, v.cause), (2, d.point), (2, sat16 v.rate), (2, sat16 limit), (2, sat16 v.k), (2, 0)])
    | .halted => s1.record 0x0312 (fields [(1, n), (1, v.cause), (2, d.point)])
  if changed && v.st = .ready then s2.record 0x0313 (fields [(1, n), (1, 0), (2, d.point)]) else s2

/-- The input accord of the cycle has closed and its evaluation is still to come. -/
def State.evalDue (s : State) : Bool := s.mod.mode.cycles && !s.acc.isOpen && s.ixl.phase = 1

/-- The evaluation pass over all supervisor slots, once in a cycle (R282, R291). -/
def supervisorPassOp (units : Nat) (s : State) : State :=
  if s.evalDue && !s.sup.passed then
    let s1 : State := { s with sup := { s.sup with halts := [], passed := true, passTime := sat16 units } }
    if s.mod.mode = .operate then s1.each s.image.sups fun s p => s.supSlot p.1 p.2 else s1
  else s

def execSupervisorPass (units : Nat) (s : State) : Host.Outcome State Fault Refusal := .next (supervisorPassOp units s)

/-! ### Outputs (R281, R287) -/

/-- Drive enable, TORQUE. -/
def SupState.enable : SupState → Bool
  | .throw | .stopping => true
  | _ => false

/-- The stop request is not raised, RUN. -/
def SupState.run : SupState → Bool
  | .throw => true
  | _ => false

/-- The vote of a channel that is a supervisor's EN_CH or SR_CH, if it is one (R281). -/
def State.supVote (s : State) (ch : Nat) : Option Bool :=
  (s.image.sups.filter fun p => !p.2.remote).findSome? fun p =>
    let st := (Tab.getD s.sup.sups p.1 SupSt.halted0).st
    if p.2.enCh = ch then some st.enable else if p.2.srUsed && p.2.srCh = ch then some st.run else none

/-- A channel's votes are OFF in every lane from now on. -/
def State.voteOff (s : State) (ch : Nat) : State :=
  let off (v : VoterSt) : VoterSt := { v with vote := LaneSet.none, staged := LaneSet.none }
  if (Tab.get? s.fch.outs ch).isSome then s.modOut ch fun o => { o with hs := off o.hs, ls := off o.ls } else s

/-- Some switch stands otherwise than before. -/
def FchS.switched (f before : FchS) : Bool :=
  f.outs.map (fun p => (p.1, p.2.hs.closed, p.2.ls.closed)) ≠ before.outs.map (fun p => (p.1, p.2.hs.closed, p.2.ls.closed))

/-- Stop strobes at T₁ + 50 µs: two of them apply the staged votes that are OFF (R287, R291, R292). -/
def stopStrobeOp (strobes : LaneSet) (s : State) : State :=
  if s.mod.mode = .operate && s.acc.tick = 1 && !s.sup.stopStaged.isEmpty then
    let due := s.sup.stopStaged
    let got := LaneSet.inter strobes s.votingLanes
    if 2 ≤ LaneSet.count got then
      let s1 := s.each due fun s n => match Tab.get? s.image.sups n with
        | some d =>
          let st := (Tab.getD s.sup.sups n SupSt.halted0).st
          let t := if st.enable then s else s.voteOff d.enCh
          if d.srUsed && !st.run then t.voteOff d.srCh else t
        | none => s
      let used := if s1.fch.switched s.fch then LaneSet.union s1.sup.strobeUsed s.votingLanes else s1.sup.strobeUsed
      { s1 with sup := { s1.sup with stopStaged := [], strobeUsed := used } }
    else
      let s1 := s.each due fun s n => s.record 0x0314 (fields [(1, n), (1, LaneSet.bits got), (2, 0)])
      { s1 with sup := { s1.sup with stopStaged := [], strobeShort := LaneSet.union s1.sup.strobeShort s.votingLanes } }
  else s

def execStopStrobe (strobes : LaneSet) (s : State) : Host.Outcome State Fault Refusal := .next (stopStrobeOp strobes s)

end Sys2Proof.Machine
end

