-- ==== Sys2Proof/Machine/Evaluate.lean ====
section
/-!
DEFINITION. The cycle's evaluation: the request list (R87, R131, R163–R165, R289), both forms (R67, R117, R132), the completion of
the route engine and of the graph solver (R133, R135, R145), and the start of an area's restart timer (R114).
-/

namespace Sys2Proof.Machine

/-! ### The request list (R131) -/

/-- A command of a ring as a vital command. -/
def RingCmd.vital (c : RingCmd) : VitalCmd := ⟨c.hdr, c.opcode, c.params⟩

/-- Adds a route request, and its route to the candidates where it asks for an IDLE one. -/
def ReqList.route (l : ReqList) (r : Nat) (q : RouteReq) (o : Origin) (cand : Bool) : ReqList :=
  { l with routeReqs := l.routeReqs ++ [(r, q, o)], candidates := if cand && !l.candidates.contains r then l.candidates ++ [r] else l.candidates }

/-- Automatic routes that are requested again, up to 128 in identifier order; the rest wait (R108, R131). -/
def State.addResets (s : State) : State :=
  let v := s.ixl.resolved
  let live := s.ixl.resets.filter fun r => (v.route r).st = .idle && (v.route r).auto
  let l := (live.take 128).foldl (fun l r => l.route r (.set false) .auto true) s.ixl.reqList
  { s with ixl := { s.ixl with resets := live.drop 128, reqList := l } }

/-- What a request block asks for (R163). -/
inductive SheetReq where
  | route (r : Nat) (q : RouteReq)
  | elem (o : Nat) (q : ElemReq)
deriving DecidableEq, Repr

def sheetReq (b : ReqOut) : Option SheetReq :=
  let p := b.param
  if b.type = 0x22 then
    let r := bits p 11 0
    match bits p 14 12 with
    | 1 => some (.route r (.set false))
    | 2 => some (.route r (.set true))
    | 3 => some (.route r .cancel)
    | 4 => some (.route r .autoOn)
    | 5 => some (.route r .autoOff)
    | _ => none
  else if b.type = 0x23 then
    let o := bits p 12 0
    match bits p 16 13 with
    | 1 => some (.elem o (.move false))
    | 2 => some (.elem o (.move true))
    | 3 => some (.elem o (.blockPoint true))
    | 4 => some (.elem o (.blockSection true))
    | 5 => some (.elem o .replace)
    | 6 => some (.elem o .lxClose)
    | 7 => some (.elem o .lxReopen)
    | _ => none
  else none

/-- A sheet request that finds no place: BUSY, and recorded (R131, R148, R165). -/
def State.dropSheetReq (s : State) (task block kind id : Nat) : State :=
  ({ s with sheets := { s.sheets with status := Tab.put s.sheets.status block stBusy } } : State).record 0x0415
    (fields [(1, task), (1, kind), (2, id)])

/-- One published request of a sheet; `base` is the number of candidates before the sheets' own 96 places. -/
def State.addSheetReq (base : Nat) (s : State) (p : ReqOut) : State :=
  let l := s.ixl.reqList
  match sheetReq p with
  | none => s
  | some (.route r q) =>
    let isSet : Bool := match q with
      | .set _ => true
      | _ => false
    let cand := isSet && (s.ixl.resolved.route r).st = .idle && !l.candidates.contains r
    if cand && base + 96 ≤ l.candidates.length then s.dropSheetReq p.task p.block 0 r
    else { s with ixl := { s.ixl with reqList := l.route r q (.sheet p.block) cand } }
  | some (.elem o q) =>
    if 128 ≤ l.elemReqs.length then s.dropSheetReq p.task p.block 1 o
    else { s with ixl := { s.ixl with reqList := { l with elemReqs := l.elemReqs ++ [(o, q, .sheet p.block)] } } }

/-- Ascending task number, then ascending block index (R164). -/
def reqBefore (a b : ReqOut) : Bool := a.task < b.task || (a.task = b.task && a.index ≤ b.index)

def insertReq (x : ReqOut) : List ReqOut → List ReqOut
  | [] => [x]
  | y :: r => if reqBefore x y then x :: y :: r else y :: insertReq x r

/-- The requests that runs published in the cycle before. -/
def State.addSheets (s : State) : State :=
  let due := s.sheets.publishing.foldr insertReq []
  let base := s.ixl.reqList.candidates.length
  ({ s with sheets := { s.sheets with published := due, publishing := [] } } : State).each due (State.addSheetReq base)

/-- The list at its start: HALT requests and stored routes, before the accorded commands. -/
def State.openList (s : State) : State :=
  { s with ixl := { s.ixl with
    nbrFresh := []
    reqList := { routeReqs := [], elemReqs := s.sup.halts.map fun o => (o, .halt, .halt), candidates := s.ixl.stored } } }

/-! ### CYCLE_EVALUATION -/

/-- The statuses that sheet requests received (R165). -/
def sheetStatus (t : Tab Nat) (l : List (Origin × Nat)) : Tab Nat :=
  l.foldl (fun t a => match a.1 with
    | .sheet b => Tab.put t b a.2
    | _ => t) t

/-- The routes that the graph solver evaluates: those in the active set of the cycle before, and the candidates (R135). -/
def State.evaluated (s : State) : List Nat :=
  let acts := (s.ixl.resolved.routes.filter fun p => p.2.st.active).map Prod.fst
  acts ++ s.ixl.reqList.candidates.filter fun r => !acts.contains r

/-- What the evaluation leaves for the comparison and the next cycle. -/
def State.commit (s : State) (t g : Ev) : State :=
  { s with
    ixl := { s.ixl with
      tableV := t.v, graphV := g.v, use := t.use, graphUse := g.use, stored := t.stored, leaves := t.leaves, phase := 6
      graphLeft := s.graphCharge s.evaluated
      resets := t.freed.foldl (fun l r => insertNat r l) s.ixl.resets }
    sheets := { s.sheets with status := sheetStatus s.sheets.status t.answers } }

/-- Commands of the accorded set at R67 step 4; outside OPERATE they are answered REFUSED_MODE (R18, R31). One whose handling a data-caused fault
strikes is answered INTERNAL and changes nothing (R456). -/
def State.decodeCycle (s : State) : State × List Decoded :=
  let cmds := s.acc.accorded.cmds.map RingCmd.vital
  if s.mod.mode = .operate then
    match s.host.spoilt, cmds with
    | true, c :: rest =>
      let r := ({ s with host := { s.host with spoilt := false } } : State).decodeAll rest
      (r.1, ⟨c, some stInternal, []⟩ :: r.2)
    | _, _ => s.decodeAll cmds
  else (s, cmds.map fun c => ⟨c, some stMode, []⟩)

/-- The whole evaluation of a cycle in both forms (R67, R117). -/
def cycleEvaluationOp (s : State) : State :=
  if s.evalDue then
    let d := s.openList.decodeCycle
    let s1 := d.1.addResets.addSheets
    let t := (s1.form false).run
    let g := (s1.form true).run
    let s2 := (s1.commit t g).each t.conflicts fun s c => s.record 0x0414 (fields [(2, c.1), (2, c.2)])
    let r := s2.settleAll d.2 t.answers
    let s3 : State := { r.1 with acc := { r.1.acc with judged := if s.mod.role = .tender then [] else r.2 }
                                 ixl := { r.1.ixl with nbrFresh := [] } }
    s3.each (Lane.all.filter s3.ticking) fun s l => s.phaseAmong l 3 4
  else s

def execCycleEvaluation (s : State) : Host.Outcome State Fault Refusal := .next (cycleEvaluationOp s)

/-! ### The two engines -/

/-- The forms of the cycle have been evaluated and not yet compared. -/
def State.formsRun (s : State) : Bool := s.mod.mode.cycles && !s.acc.isOpen && s.ixl.phase = 6 && !s.ixl.cmpDone

/-- The steps of the route engine in every cycle (R132). -/
def engineSteps : Nat := 366601

/-- A lane's route engine completes: its duration, its steps, and what it wrote otherwise than the rules. It has until T₃ − 50 µs,
2 800 µs from the close of the input accord; a lane whose engine is later has overrun (R133, R145, R150). -/
def routeEngineOp (l : Lane) (us steps : Nat) (faults : List ItemFault) (s : State) : State :=
  if s.formsRun && s.ticking l && !(s.lane l).rte.tableDone then
    let late := 2800 < us
    let s1 := s.modRte l fun r => { r with
      phase := 0, tableDone := true, lastUs := sat16 us, maxUs := max r.maxUs (sat16 us), steps := steps % 2 ^ 24, late := r.late || late }
    let s2 := ({ s1 with ixl := { s1.ixl with tableV := s1.ixl.tableV.withFaults faults } } : State).countEvent l 0x0503 steps none none
    if late && s2.laneSt l = .voting then s2.overrun l else s2
  else s

def execRouteEngineComplete (lane : Lane) (us steps : Nat) (faults : List ItemFault) (s : State) : Host.Outcome State Fault Refusal :=
  .next (routeEngineOp lane us steps faults s)

/-- The graph solver completes with the work units it charged, in the first of ticks 0 to 2 whose quantum holds what is left of them
(R34, R135, R145, R150). -/
def graphSolverOp (faults : List ItemFault) (s : State) : State :=
  if s.formsRun && !s.ixl.graphDone && s.ixl.graphLeft ≤ tickQuantum then
    let w := s.graphCharge s.evaluated
    let s1 := s.mapLanes fun l x => if s.ticking l then
      { x with rte := { x.rte with graphDone := true, graphWu := w, graphWuMax := max x.rte.graphWuMax w } } else x
    let s2 : State := { s1 with ixl := { s1.ixl with graphDone := true, graphV := s1.ixl.graphV.withFaults faults } }
    let visits := s.graphVisits s.evaluated
    s2.each (Lane.all.filter s.ticking) fun s l => s.countEvent l 0x0502 visits none none
  else s

def execGraphSolverComplete (faults : List ItemFault) (s : State) : Host.Outcome State Fault Refusal := .next (graphSolverOp faults s)

/-! ### A form's work on one item alone -/

/-- One area's restart timer on the resolved state (R114). -/
def State.modArea (s : State) (a : Nat) (f : AreaSt → AreaSt) : State :=
  let v := s.ixl.resolved
  let x := f (v.area a)
  { s with ixl := { s.ixl with resolved := { v with areas := if x = AreaSt.zero then Tab.erase v.areas a else Tab.put v.areas a x } } }

/-- The restart timer of an area begins in the first cycle in which every node that serves it is in limit. -/
def restartTimerStartOp (a : Nat) (s : State) : State :=
  let x := s.ixl.resolved.area a
  if s.mod.mode.cycles && !x.expired && x.timer = 0xFFFF && (s.form false).areaReady a then
    s.modArea a (areaStep (Tab.getD s.image.areas a 0) true)
  else s

def execRestartTimerStart (area : Fin 64) (s : State) : Host.Outcome State Fault Refusal := .next (restartTimerStartOp area.val s)

end Sys2Proof.Machine
end

