-- ==== Sys2Proof/Machine/Output.lean ====
section
/-!
DEFINITION. The output accord and the apply strobes: the verdict comparison (R141–R146), VERDICT hashes (R51, R52), staged votes
and downlink frames (R53, R207, R208, R246, R256, R281, R288, R350), the tender's shadow comparison (R369), and what follows the
T₄ boundary: replies, completions, the sillage copy, messages, boundary frames and updates (R55, R109, R167, R331, R335, R404).
-/

namespace Sys2Proof.Machine

/-! ### What the outputs are to be -/

/-- The module commands the field: OPERATE with role SOLO or LEAD (R29, R256). -/
def State.commands (s : State) : Bool := s.mod.mode = .operate && s.mod.role ≠ .tender

/-- The command bit of an element whose SINK names the channel (R246). -/
def State.sinkBit (s : State) (ch : Nat) : Option Bool :=
  s.image.elems.findSome? fun p => match p.2.sink with
    | .chan c => if c ≤ ch && ch < c + p.2.kind.outWidth then some (bitOf (s.ixl.resolved.elem p.1).cmd (ch - c)) else none
    | _ => none

/-- The staged APP_OUT value of a local channel, whose PARAM is its number (R166). -/
def State.appBit (s : State) (ch : Nat) : Bool := Tab.getD s.sheets.outStaged ch 0 ≠ 0

/-- A channel is in OUTPUT mode. -/
def State.isOutput (s : State) (ch : Nat) : Bool := (Tab.get? s.image.chans ch).any fun d => d.mode = .output

/-- What every staging lane votes for a channel, OFF unless it is an OUTPUT (R256, R281, R350). -/
def State.voteOf (s : State) (ch : Nat) : Bool :=
  s.commands && s.isOutput ch && match (Tab.get? s.fch.forced ch).filter (fun f => 0 < f.left) with
    | some f => f.value
    | none => match s.supVote ch with
      | some b => b
      | none => match s.sinkBit ch with
        | some b => b
        | none => s.appBit ch

/-- The staging registers of HSV and LSV of every channel (R53); a forced output has used one cycle of its DURATION (R350). -/
def State.stageVotes (s : State) (v : LaneSet) : State :=
  let t := s.mapOuts fun ch o =>
    let w := if s.voteOf ch then v else LaneSet.none
    { o with hs := { o.hs with staged := w }, ls := { o.ls with staged := w } }
  { t with fch := { t.fch with forced := Tab.mapV t.fch.forced fun _ f => { f with left := f.left - 1 } } }

/-! ### Frames -/

/-- The header of an Askiq frame as the module builds it, CHANNEL 0 (R187). -/
def frameHeader (type node mode : Nat) (lab integ : Bool) (len slot : Nat) (round : Nat) : List Byte :=
  leBytes 8 (pack [(0, 4, type), (4, 4, 2), (8, 10, node), (19, 2, mode), (21, 1, b2n lab), (22, 1, b2n integ), (24, 7, len),
    (32, 10, slot), (48, 16, round)])

/-- A safety code over a virtual header and data (R191, R192). -/
def safetyCode (source dest : Nat) (round : Word) (claim : Option Word) (data : List Byte) : Word :=
  crc32 (fields [(2, source), (2, dest)] ++ bytesOf 4 round ++ (claim.elim [] (bytesOf 4)) ++ data)

/-- The command fields of a node's CMD frame: elements, APP_OUT values and remote supervisors (R119, R166, R207, R288). -/
def State.cmdData (s : State) (n : Nat) (d : NodeDef) : List Byte :=
  let zero := List.replicate (d.dnLen - 4) (0 : Byte)
  if s.mod.mode = .integrate then zero
  else
    let els := s.image.elems.filterMap fun p => match p.2.sink with
      | .node m => if m = n then some (p.2.sinkOfs, p.2.sinkBit, p.2.kind.outWidth, (s.ixl.resolved.elem p.1).cmd) else none
      | _ => none
    let apps := s.sheets.outStaged.filterMap fun p =>
      let w := p.1
      if bits w 31 30 = 1 && bits w 8 0 = n then some (bits w 15 9, bits w 18 16, bits w 23 19 + 1, p.2) else none
    let sups := s.image.sups.filterMap fun p =>
      if p.2.remote && p.2.node = n then
        let st := (Tab.getD s.sup.sups p.1 SupSt.halted0).st
        some (p.2.cmdOfs, p.2.cmdBit, 2, b2n st.enable + 2 * b2n st.run) else none
    (apps ++ els ++ sups).foldl (fun bs f => putField bs f.1 f.2.1 f.2.2.1 f.2.2.2) zero

/-- The slot of one kind of a node on its X port, which is the same on Y (R196, R197); a granted SPARE slot counts (R235). -/
def State.slotOf (s : State) (d : NodeDef) (down : Bool) : Option Nat :=
  let bank := s.net.active
  (List.range 1000).find? fun i =>
    let w := Tab.getD bank (1000 * d.portX + i) 0
    slotOwner w = d.id && ((slotType w = (if down then 2 else 1) && slotVital w) || (slotType w = 5 && slotGranted w && slotSpareDown w = down))

/-- One version of a CMD frame. -/
def State.cmdFrame (s : State) (d : NodeDef) (slot : Nat) (data : List Byte) (round : Nat) : List Byte :=
  let r : Word := BitVec.ofNat 32 round
  frameHeader 2 d.id 1 s.mod.lab (s.mod.mode = .integrate) d.dnLen slot (round % 65536) ++ data
    ++ bytesOf 4 (safetyCode s.askiqId d.id r (some s.net.claim) data)

/-- The CMD frames of every node, in two versions (R207, R208). -/
def State.buildDown (s : State) : Tab Downlink :=
  let due (n : Nat) : Bool := (Tab.get? s.net.grants n).all fun g => !newer g.fromRound (roundOf s.acc.accorded.time)
  (s.image.nodes.filter fun p => due p.1 && !s.net.noFrame.contains p.1).filterMap fun p =>
    (s.slotOf p.2 true).map fun slot =>
      let k := (s.acc.accorded.time + 4049 - 10 * slot + 9999) / 10000
      let data := s.cmdData p.1 p.2
      (p.1, ⟨BitVec.ofNat 32 k, s.cmdFrame p.2 slot data k, s.cmdFrame p.2 slot data (k + 1)⟩)

/-! ### OUTPUT_ACCORD -/

/-- Where an item stands in the order of the comparison: header, areas, routes, elements (R137, R141). -/
def DiffItem.place (x : DiffItem) : Nat :=
  match x.cls with
  | 0 => 0
  | 1 => 1 + x.index
  | 2 => 65 + x.index
  | _ => 4161 + x.index

/-- A comparison pass ends: differing items (0xFF after a flood) and duration (R150). -/
def RteS.compared (r : RteS) (items units : Nat) : RteS :=
  { r with phase := 0, cmpDone := true, diffItems := items, cmpTime := sat16 units,
           divCycles := if items = 0 then r.divCycles else satAdd 0xFFFFFFFF r.divCycles 1 }

/-- More than 64 items differ: the comparator stops at the 65th and nothing is staged; the 64 before it are recorded (R145), and SAFE
follows at T₄ (R141). -/
def State.flood (s : State) (items : List DiffItem) (units : Nat) : State :=
  let n := ((items[64]?).map DiffItem.place).getD 0 + 1
  let s0 : State := { s with
    ixl := { s.ixl with cmpDone := true }
    acc := { s.acc with staged := LaneSet.none, safeAt4 := true } }
  let s1 := s0.mapLanes fun l x => if s.ticking l then { x with rte := { x.rte.compared 0xFF units with flood := true } } else x
  (s1.each (items.take 64) State.recordDiff).record 0x0413 (fields [(2, n), (2, 0)])

/-- The comparison of a cycle with at most 64 differing items (R141–R146). -/
def State.compare (s : State) (items : List DiffItem) (r : Verdict) (units : Nat) : State :=
  let s0 : State := { s with
    ixl := { s.ixl with resolved := r, cmpDone := true }
    acc := { s.acc with outHash := r.hash } }
  let s1 := s0.mapLanes fun l x => if s.ticking l then { x with rte := x.rte.compared items.length units } else x
  let s2 := s1.each items State.recordDiff
  ((s2.countDivergence (divergent s.image r s.ixl.reqList.candidates items)).keepMarks).keepUse

/-- The tender's shadow comparison after its own output accord has agreed (R369). -/
def State.shadowCompare (s : State) : State :=
  if s.mod.mode = .operate && s.mod.role = .tender && s.mod.cond = .none && !s.plink.holding then
    let unsync (t : State) : State :=
      (t.setCond .unsynced 0).beginPartnerResync
    match s.plink.leadVerdict with
    | some (c, h) =>
      if c = s.mod.cycle then
        if h = s.acc.outHash then { s with plink := { s.plink with shadow := .equal } }
        else
          let t : State := { s with plink := { s.plink with shadow := .different, shadowMis := satAdd 0xFFFF s.plink.shadowMis 1 } }
          unsync (t.record 0x0120 (bytesOf 4 c ++ bytesOf 8 h ++ bytesOf 8 s.acc.outHash))
      else if s.plink.silent = 0 then unsync { s with plink := { s.plink with shadow := .notCompared } } else s
    | none => if s.plink.silent = 0 then unsync { s with plink := { s.plink with shadow := .notCompared } } else s
  else s

/-- A cycle of the tender's probation (R371): its output hash against the lead's VERDICT of the cycle that the partner's block names. A
difference leads back to the copy; without a VERDICT the run of cycles begins again. -/
def State.partnerProbation (s : State) : State :=
  if s.plink.resync && s.plink.resyncStep = 5 && s.mod.role = .tender then
    let c := (s.acc.accorded.partner.map PartnerBlk.cycle).getD s.mod.cycle
    match s.plink.leadVerdict with
    | some (k, h) =>
      if k ≠ c then { s with plink := { s.plink with probation := 0 } }
      else if h = s.acc.outHash then { s with plink := { s.plink with probation := s.plink.probation + 1 } }
      else s.partnerToCopy 1
    | none => { s with plink := { s.plink with probation := 0 } }
  else s

/-- A cycle of a lane's probation (R361 step 5): the lane's own hash against the equal ones of the voting lanes. A difference leads back
to the copy. -/
def State.laneProbation (s : State) (agreed : BitVec 64) (wrong : PerLane (BitVec 64)) : State :=
  s.each (Lane.all.filter fun l => s.inStep l 5) fun s l => s.modResync l fun r =>
    if s.acc.outHash ^^^ wrong.get l = agreed then { r with probation := r.probation + 1 } else { r.toCopy 1 with probation := 0 }

/-- The outputs of a cycle are staged by the lanes that agree (R52, R53, R207, R364). -/
def State.stage (s : State) (v : LaneSet) : State :=
  let s1 : State := { s with
    acc := { s.acc with staged := v }, sheets := { s.sheets with outStaged := s.sheets.outDone } }
  let down := s1.buildDown
  let s2 := s1.stageVotes v
  let s3 : State := { s2 with net := { s2.net with downNext := v.map fun b => if b then down else [], noFrame := [] } }
  let s4 := if s3.mod.pos ≠ 0 && s3.mod.mode = .operate && s3.mod.role = .lead then
      s3.forLanes v fun s _ => s.sendPartner 7 (bytesOf 4 s.mod.cycle ++ bytesOf 8 s.acc.outHash)
    else s3
  s4.shadowCompare.partnerProbation

/-- VERDICT hashes by T₃ + 40 µs (R51, R52). `wrong` is what a lane's hash differs by from that of the resolved vector. -/
def State.outAccord (s : State) (sent : LaneSet) (wrong : PerLane (BitVec 64)) : State :=
  let voting := s.votingLanes
  let heard := s.heardFrom sent .verdict
  let hash (l : Lane) : Option (BitVec 64) := if voting.get l && heard.get l then some (s.acc.outHash ^^^ wrong.get l) else none
  let h : PerLane (Option (BitVec 64)) := ⟨hash .a, hash .b, hash .c⟩
  let s1 : State := ({ s with acc := { s.acc with verdict := h } } : State).dropLost [.verdict]
  match agreeing h with
  | none =>
    { s1 with acc := { s1.acc with staged := LaneSet.none, safeAt4 := true }, plink := { s1.plink with shadow := .notCompared } }
  | some v =>
    let odd := LaneSet.diff voting v
    let s2 := s1.forLanes odd fun s l => if (h.get l).isSome then s.modCore l fun c => { c with outMismatch := true } else s
    let s3 := s2.leaveAll odd 5 5
    let s4 := match (LaneSet.first v).bind h.get with
      | some agreed => s3.laneProbation agreed wrong
      | none => s3
    if s4.mod.mode.cycles then s4.stage v else s4

def outputAccordOp (sent : LaneSet) (wrong : PerLane (BitVec 64)) (units : Nat) (s : State) : State :=
  if s.formsRun && s.acc.tick = 3 then
    let x := s.ixl
    let r := resolve s.image x.tableV x.graphV
    let items := diffItems x.tableV x.graphV r
    if 64 < items.length then s.flood items units else (s.compare items r units).outAccord sent wrong
  else s

def execOutputAccord (sent : LaneSet) (wrong : PerLane (BitVec 64)) (units : Nat) (s : State) : Host.Outcome State Fault Refusal :=
  .next (outputAccordOp sent wrong units s)

/-! ### After T₄ -/

/-- An item of a sillage stream (R404). -/
def silItem (type : Nat) (data : List Byte) : List Byte := fields [(1, type), (1, 0), (2, data.length)] ++ data

/-- One command as sillage shows it. -/
def silCmd (nonvital : Nat) (c : RingCmd) : List Byte :=
  silItem 0x05 (fields [(1, c.queue), (1, nonvital), (2, c.source)] ++ bytesOf 4 c.seq ++ fields [(2, c.opcode), (2, c.params.length)] ++ c.params)

/-- The lag map: rounds from a node's frame last accorded to the cycle (R404). -/
def State.lagMap (s : State) : List Byte :=
  let now := roundOf s.acc.accorded.time
  (List.range 512).map fun n => match (Tab.getD s.net.nodes n .none).last with
    | some f => BitVec.ofNat 8 (min 0xFE (now - f.round).toNat)
    | none => 0xFF

/-- The cycle's copy (R55, R404). -/
def State.silCopy (s : State) : SilCopy :=
  let a := s.acc.accorded
  let head := silItem 0x01 (fields [(8, a.time), (1, s.modeWord), (1, LaneSet.bits s.votingLanes), (2, 0)] ++ padTo 8 s.img.runDigest
    ++ bytesOf 8 s.acc.outHash)
  let chans := silItem 0x04 (bytesOf 8 a.chans ++ (s.image.chans.filter fun p => p.2.mode = .count).flatMap fun p =>
    leBytes 4 (Tab.getD a.counts p.1 0))
  let partner := match a.partner with
    | some b =>
      if s.mod.role ≠ .tender then silItem 0x06 (bytesOf 4 b.cycle ++ b.body)
      else silItem 0x06 (bytesOf 4 b.cycle ++ b.body.take 16 ++ (b.body.drop 8336).take 264 ++ (b.body.drop 9116).take 16)
    | none => []
  let time := match s.host.utcFresh, s.host.utc with
    | true, some (sec, ns, t) => silItem 0x07 (fields [(8, sec), (4, ns), (8, t)])
    | _, _ => []
  { cycle := s.mod.cycle, lanes := s.votingLanes, head := head, lag := s.lagMap, nodes := Tab.mapV a.frames fun _ f => f.data
    rest := chans ++ a.cmds.flatMap (silCmd 0) ++ s.host.intake.flatMap (silCmd 1) ++ partner ++ time }

/-- Bytes that a copy takes in the recorder ring. -/
def SilCopy.size (c : SilCopy) : Nat := c.head.length + c.lag.length + c.rest.length + c.nodes.foldl (fun n p => n + p.2.length + 2) 0

/-- Bytes of a recorder ring (R386). -/
def recorderRing : Nat := 33554432

/-- A cycle without a copy: it begins or lengthens the run of missing cycles (R409). -/
def State.missCycle (s : State) (cycle : Word) (cause : Nat) : State :=
  { s with rcd := { s.rcd with gap := match s.rcd.gap with
    | some (f, n, c) => some (f, n + 1, c)
    | none => some (cycle.toNat, 1, cause) } }

/-- The recorder ring of 32 MiB takes the copy, or the lanes drop it and count it (R386, R413). -/
def State.placeCopy (s : State) : State :=
  if s.mod.mode = .operate then
    let c := s.silCopy
    let used := s.rcd.copies.foldl (fun n x => n + x.size) 0
    let s1 : State := { s with host := { s.host with utcFresh := false } }
    if s.mod.hkLost then s1.missCycle c.cycle 1
    else if recorderRing < used + c.size then
      (s1.missCycle c.cycle 0).forLanes s.votingLanes fun s l => s.modDiag l fun d => { d with ringFull := true, silDropped := true, dropSil := satAdd 0xFFFF d.dropSil 1 }
    else
      let kib := sat16 ((used + c.size + 1023) / 1024)
      let s2 := s1.forLanes s.votingLanes fun s l => s.modDiag l fun d => { d with ringFill := kib, maxFill := max d.maxFill kib }
      { s2 with rcd := { s2.rcd with copies := s2.rcd.copies ++ [c] } }
  else s

/-- One published message (R167). -/
def State.sendMsg (s : State) (m : MsgOut) : State :=
  let body := fields [(2, bits m.param 15 0), (1, m.words.length), (1, 0), (4, m.id), (4, m.cycle)] ++ m.words.flatMap (bytesOf 4)
  if bitOf m.param 18 then s.record 0x0B01 body
  else if s.mod.role = .tender then s
  else
    let q := 12 + bits m.param 17 16
    s.each (s.unsolSources q) fun s d => s.unsol d q 0x0C02 stOk body

/-- Messages whose runs completed in an earlier cycle: at most 16 a stream, the rest dropped and recorded. -/
def State.sendMsgs (s : State) : State :=
  let due := s.sheets.msgs.filter fun m => m.cycle ≠ s.mod.cycle.toNat
  let s1 : State := { s with sheets := { s.sheets with msgs := s.sheets.msgs.filter fun m => m.cycle = s.mod.cycle.toNat } }
  [0, 1, 2, 3].foldl (fun s k =>
    let l := due.filter fun m => bits m.param 17 16 = k
    (s.each (l.take 16) State.sendMsg).each (l.drop 16) fun s m =>
      s.record 0x0B02 (fields [(1, k), (1, 0), (2, bits m.param 15 0)])) s1

/-- The proven aspect of the first signal that a train coming in at a boundary meets, by the points as they lie (R109, log
entry 20): a walk from a port of a vertex. -/
def State.inwardAspect (s : State) : Nat → Nat → Nat → Nat
  | 0, _, _ => 0
  | n + 1, v, q =>
    let img := s.image
    match img.portPiece v q with
    | none => 0
    | some p =>
      match img.cross v q p with
      | none => 0
      | some (v', q', up) =>
        match Tab.get? img.vertices v' with
        | none => 0
        | some x =>
          match x.kind with
          | .joint =>
            match if up then x.sgUp else x.sgDn with
            | some g => let e := s.ixl.resolved.elem g; if e.unproven then 0 else e.state
            | none => s.inwardAspect n v' (1 - q')
          | .point =>
            let st := (s.ixl.resolved.elem (x.object.getD 0xFFFF)).state
            if q' = 0 then (if st = 2 then s.inwardAspect n v' 1 else if st = 3 then s.inwardAspect n v' 2 else 0)
            else if st = q' + 1 then s.inwardAspect n v' 0 else 0
          | _ => 0

/-- EXIT_ASPECT of a boundary: the walk begins at the boundary's vertex. -/
def State.exitAspect (s : State) (bb : Nat) : Nat :=
  match s.image.vertices.find? fun p => p.2.kind = .boundary && p.2.object = some bb with
  | some p => s.inwardAspect 16384 p.1 0
  | none => 0

/-- What the module has to tell a neighbour: DIR, BFLAGS, EXIT_ASPECT (R331). -/
def State.boundaryData (s : State) (bb : Nat) : List Byte :=
  let e := s.ixl.resolved.elem bb
  fields [(1, e.state), (1, e.kb.toNat % 64), (1, s.exitAspect bb)]

/-- Boundary frames at the T₄ boundary of every tenth cycle, and of any cycle in which the data changes. -/
def State.sendBoundaries (s : State) : State :=
  if s.commands then
    s.each s.image.bounds fun s b =>
      let d := s.boundaryData b.bb
      if s.mod.cycle.toNat % 10 = 0 || Tab.get? s.ixl.bbSent b.bb ≠ some d then
        ({ s with ixl := { s.ixl with bbSent := Tab.put s.ixl.bbSent b.bb d } } : State).unsol b.source b.queue 0x0F01 stOk
          (fields [(2, b.theirBb), (2, b.bb)] ++ d ++ leBytes 1 0 ++ bytesOf 4 s.mod.cycle ++ leBytes 4 0)
      else s
  else s

/-- The answers to the cycle's vital commands are written (R324). -/
def State.answerJudged (s : State) : State :=
  let s1 := s.each s.acc.judged fun s j => s.reply j.hdr j.opcode j.status j.params
  { s1 with acc := { s1.acc with judged := [] } }

/-- Completions of the cycle; a tender keeps none (R327). -/
def State.cycleCompletions (s : State) : State :=
  if s.mod.role = .tender then
    { s with ixl := { s.ixl with completions := s.ixl.completions.filter fun c => (s.completionStatus c).isNone } }
  else s.sendCompletions

/-- Apply strobes at T₄ + 50 µs (R53): two of them switch voters and hub; fewer switch nothing, and
the vote refresh lapses. -/
def applyStrobeOp (strobes : LaneSet) (s : State) : State :=
  if s.mod.mode.cycles && s.acc.tick = 4 && s.ixl.cmpDone && 2 ≤ LaneSet.count s.acc.staged then
    let got := LaneSet.inter strobes s.acc.staged
    let s1 :=
      if 2 ≤ LaneSet.count got then
        let apply (v : VoterSt) : VoterSt := { v with vote := v.staged }
        let t := s.mapOuts fun _ o => { o with hs := apply o.hs, ls := apply o.ls }
        let u := t.mapLanes fun _ x => { x with core := { x.core with rejoining := false } }
        { u with acc := { t.acc with lapsed := false }, net := { t.net with down := t.net.downNext, contrib := got }, sheets := { t.sheets with outApplied := t.sheets.outStaged } }
      else { s with net := { s.net with contrib := LaneSet.none }, acc := { s.acc with lapsed := true } }
    let s2 : State := { s1 with acc := { s1.acc with staged := LaneSet.none } }
    (s2.answerJudged.cycleCompletions.placeCopy.sendMsgs.sendBoundaries.sendUpdates.sendRecords)
  else s

def execApplyStrobe (strobes : LaneSet) (s : State) : Host.Outcome State Fault Refusal := .next (applyStrobeOp strobes s)

end Sys2Proof.Machine
end

