-- ==== Sys2Proof/Machine/Refresh.lean ====
section
/-!
DEFINITION. The vote refresh with its readback checks, the voters' MINORITY reports and the FAILED latch (R54, R257, R258, R260,
R264, R266, R272–R275), and the self-test slices of tick 9 (R378–R380, R440).
-/

namespace Sys2Proof.Machine

/-! ### Channels of one lane -/

/-- Changes what one lane senses of a channel. -/
def State.modSense (s : State) (l : Lane) (ch : Nat) (f : ChSense → ChSense) : State :=
  { s with fch := { s.fch with lanes := s.fch.lanes.modify l fun x => { x with chans := Tab.upd x.chans ch .zero f } } }

/-- CHANNEL_FAULT with a bit number of FCH_CH_STATUS, the lanes reporting, the switch and a lane's readings (R275). -/
def State.recordFault (s : State) (ch bit : Nat) (ls : LaneSet) (switch : Nat) : State :=
  let c := ((LaneSet.first ls).map fun l => s.chSense l ch).getD .zero
  s.record 0x0301 (fields [(1, ch), (1, bit), (1, LaneSet.bits ls), (1, switch), (2, c.vh), (2, c.vl), (2, sat16 c.ma)])

def State.recordCleared (s : State) (ch bit : Nat) : State := s.record 0x0302 (fields [(1, ch), (1, bit), (2, 0)])

/-- A channel's live votes at its high-side voter, which every lane refreshes together with the low-side one. -/
def State.liveAt (s : State) (ch : Nat) : LaneSet := ((Tab.get? s.fch.outs ch).map fun o => o.hs.live).getD LaneSet.none

/-- Fail signals for one test or finding: FAILED is latched by two live lanes, or by one while fewer than three votes are live
(R264). -/
def State.failSignals (s : State) (ch : Nat) (fails : LaneSet) (switch : Nat) : State :=
  let live := s.liveAt ch
  let f := LaneSet.inter fails live
  if 2 ≤ LaneSet.count f || (1 ≤ LaneSet.count f && LaneSet.count live < 3) then
    let was := (Tab.get? s.fch.outs ch).any fun o => o.hs.failed && o.ls.failed
    let s1 := s.modOut ch fun o => { o with hs := { o.hs with failed := true, test := none }, ls := { o.ls with failed := true, test := none } }
    if was then s1 else s1.recordFault ch 11 f switch
  else s

/-- A lane whose verdict differs from that of the other two live lanes in three consecutive tests or findings (R264); 0 is a pass. -/
def State.oddVerdict (s : State) (ch : Nat) (verdict : PerLane Nat) : State :=
  let live := s.liveAt ch
  if LaneSet.count live < 3 then s
  else
    let odd (l : Lane) : Bool := verdict.get l.next = verdict.get l.prev && verdict.get l ≠ verdict.get l.next
    Lane.all.foldl (fun s l =>
      let n := if odd l then (s.chSense l ch).oddRun + 1 else 0
      let s1 := s.modSense l ch fun c => { c with oddRun := n }
      if n = 3 then
        (s1.modSense l ch fun c => { c with senseFault := true }).recordLane l 0x0304 (fields [(1, l.id), (1, ch), (1, 1), (1, 0)])
      else s1) s

/-! ### Readback (R260) -/

/-- What one lane finds at one refresh: 0 nothing, 1 open load with both open, 2 short at the high side, 3 short at the low side,
4 open load with both closed, 5 short with both closed. Voltages in mV. -/
def readback (hs ls : Bool) (vh vl ma vfld : Nat) : Nat :=
  if !hs && !ls then
    if vl + 4000 < vh then 1 else if vfld < vh + 4000 && vfld < vl + 4000 then 2 else if vh < 4000 && vl < 4000 then 3 else 0
  else if hs && ls then
    if (vh + 2000 < vfld || 2000 < vl) && ma < 1000 then 5 else if ma < 5 then 4 else 0
  else 0

/-- The switch that a short names. -/
def findingSwitch (f : Nat) : Nat := if f = 2 then 1 else if f = 3 then 2 else 0

/-- One lane's reading of one channel: the sensed values, and the finding that counts from now on. -/
def ChSense.read (c : ChSense) (r : SenseReading) (hs ls : Bool) (vfld : Nat) : ChSense :=
  let vh := 50 * r.vh
  let vl := 50 * r.vl
  let f := readback hs ls vh vl r.ma vfld
  let run := if f = c.finding then min 3 (c.findingRun + 1) else 1
  let low := if f = 4 then c.lowMs + 1 else 0
  let open_ := if run < 2 then c.openLoad else if f = 1 then true else if f = 4 then c.openLoad || 100 ≤ low else false
  { c with
    vh := r.vh % 1024, vl := r.vl % 1024, ma := r.ma, finding := f, findingRun := run, lowMs := low, openLoad := open_
    hsClosed := vfld < vh + 2000, lsClosed := vl < 2000, short := c.short || (2 ≤ run && (f = 2 || f = 3 || f = 5)) }

/-- One lane's reading enters its registers; of an OUTPUT channel the lane judges it by itself (R260). -/
def State.readSense (s : State) (r : SenseReading) : State :=
  match Tab.get? s.fch.outs r.ch.val with
  | none => s
  | some o =>
    let vfld := 10 * Tab.getD (s.fch.lanes.get r.lane).vfld (r.ch.val / 8) 0
    s.modSense r.lane r.ch.val fun c =>
      if s.isOutput r.ch.val then c.read r o.hs.closed o.ls.closed vfld else { c with vh := r.vh % 1024, vl := r.vl % 1024, ma := r.ma }

/-- The short that a lane's readback has found at two consecutive refreshes, 0 for none (R260). -/
def ChSense.shortFinding (c : ChSense) : Nat :=
  if 2 ≤ c.findingRun && (c.finding = 2 || c.finding = 3 || c.finding = 5) then c.finding else 0

/-- Lanes in which a test holds for a channel. -/
def State.lanesSensing (s : State) (ch : Nat) (p : ChSense → Bool) : LaneSet :=
  ⟨p (s.chSense .a ch), p (s.chSense .b ch), p (s.chSense .c ch)⟩

/-- Faults that a refresh has set or cleared on a channel are recorded, and the fail signals of shorts go to its voters, each finding by
itself (R264). -/
def State.judgeRefresh (s before : State) (ch : Nat) : State :=
  let rose (p : ChSense → Bool) : LaneSet := LaneSet.diff (s.lanesSensing ch p) (before.lanesSensing ch p)
  let fell (p : ChSense → Bool) : Bool := LaneSet.count (before.lanesSensing ch p) ≠ 0 && LaneSet.count (s.lanesSensing ch p) = 0
  let ol := rose ChSense.openLoad
  let sh := rose ChSense.short
  let s1 := if LaneSet.count ol = 0 then s else s.recordFault ch 3 ol 0
  let s2 := if fell ChSense.openLoad then s1.recordCleared ch 3 else s1
  let kind := ((LaneSet.first sh).map fun l => (s.chSense l ch).finding).getD 0
  let s3 := if LaneSet.count sh = 0 then s2 else s2.recordFault ch 4 sh (findingSwitch kind)
  let verdict := Lane.all.foldl (fun v l => v.set l (s.chSense l ch).shortFinding) (PerLane.pure 0)
  let of (k : Nat) : LaneSet := verdict.map fun f => f = k
  if of 0 = LaneSet.full then s3
  else (s3.oddVerdict ch verdict).each [2, 3, 5] fun t k => t.failSignals ch (of k) (findingSwitch k)

/-! ### MINORITY at a voter (R258) -/

/-- A voter after a refresh: lanes whose live vote differs from its majority, counted over consecutive refreshes. -/
def VoterSt.watch (v : VoterSt) : VoterSt :=
  let on := 2 ≤ LaneSet.count (LaneSet.inter v.live v.vote)
  { v with oddRun := v.oddRun.mapL fun l n => if v.live.get l && v.vote.get l ≠ on then n + 1 else 0 }

/-- Lanes that a voter reports at this refresh: those whose vote has differed at it and at the one before. -/
def VoterSt.reported (v : VoterSt) : LaneSet := v.oddRun.map fun n => 2 ≤ n

/-- Changes what every lane senses of a channel. -/
def State.mapSense (s : State) (ch : Nat) (f : ChSense → ChSense) : State :=
  ((s.modSense .a ch f).modSense .b ch f).modSense .c ch f

/-- The sticky MINORITY bit of a lane at a channel, in every lane's register (R273). -/
def State.markMinority (s : State) (ch : Nat) (l : Lane) : State := s.mapSense ch fun c => { c with minority := c.minority.set l true }

/-- A MINORITY report; the third cycle with one within 100 cycles ends the lane's vote. -/
def State.reportMinority (s : State) (ch : Nat) (l : Lane) : State :=
  let c := s.mod.cycle.toNat
  let s1 := s.markMinority ch l
  let s2 : State := { s1 with fch := { s1.fch with
    reports := if s1.fch.reports.contains (c, l, ch) then s1.fch.reports else s1.fch.reports ++ [(c, l, ch)] } }
  let cycles := ((s2.fch.reports.filter fun r => r.2.1 = l && c < r.1 + 100).map Prod.fst).eraseDups
  if 3 ≤ cycles.length then s2.leaveVote l 5 8 else s2

/-! ### VOTE_REFRESH -/

/-- Modes in which voting lanes refresh their votes: those with cycles, and SAFE for the non-vital channels (R54, R256). -/
def Mode.refreshes (m : Mode) : Bool := m.cycles || m = .safe

/-- The group bits of FCH_STATUS follow at a refresh, together with FCH_GROUP (R272). -/
def State.showGroups (s : State) : State :=
  { s with fch := { s.fch with lanes := s.fch.lanes.mapL fun _ x =>
    { x with shownSupply := x.groupLost, shownOver := s.fch.groupOver, shownModule := s.fch.moduleOver } } }

/-- Tk + 50 µs: the votes of the voting lanes are live again, unless the refresh has lapsed (R53), and every sense path reads the channels (R54, R257–R260). -/
def voteRefreshOp (sense : List SenseReading) (groups : List GroupReading) (s : State) : State :=
  if s.mod.mode.refreshes then
    let voting := if s.acc.lapsed then LaneSet.none else s.lanesWith fun l => l.core.st = .voting && !l.core.rejoining
    let refresh (v : VoterSt) : VoterSt := { v with live := LaneSet.union v.live voting }
    let s1 := s.mapOuts fun _ o => { o with hs := refresh o.hs, ls := refresh o.ls }
    let s2 := s1.each groups fun s g =>
      { s with fch := { s.fch with lanes := s.fch.lanes.modify g.lane fun x =>
        { x with vfld := Tab.put x.vfld g.grp.val (g.vfld % 4096), groupMa := Tab.put x.groupMa g.grp.val (g.ma % 4096) } } }
    let s2 := s2.showGroups
    let s3 := s2.each sense State.readSense
    let chs := (sense.map fun r => r.ch.val).eraseDups
    let s4 := s3.each chs fun t ch => t.judgeRefresh s2 ch
    let s5 := s4.mapOuts fun _ o => { o with hs := o.hs.watch, ls := o.ls.watch }
    s5.each s5.fch.outs fun s p =>
      s.forLanes (LaneSet.union p.2.hs.reported p.2.ls.reported) fun s l =>
        if s.laneSt l = .voting then s.reportMinority p.1 l else s
  else s

def execVoteRefresh (_tick : Fin 10) (sense : List SenseReading) (groups : List GroupReading) (s : State) :
    Host.Outcome State Fault Refusal :=
  .next (voteRefreshOp sense groups s)

/-! ### SELFTEST_SLICE -/

/-- A rotation slice copies the next logical bank into the spare and remaps it (R378, R440). -/
def MmuS.rotateBank (m : MmuS) : MmuS :=
  let bank := m.rotate
  let phys := Tab.getD m.bankMap bank bank
  let weak := 4 ≤ (m.corrected.filter fun a => a / 8192 = bank).length
  { m with bankMap := if m.spare = bank then Tab.erase m.bankMap bank else Tab.put m.bankMap bank m.spare, spare := phys
           rotate := (bank + 1) % 64, weakSpare := weak }

/-- The index of a slice that rotates a bank (R378). -/
def isRotation (i : Nat) : Bool := i < 1105 && i % 17 = 16

/-- What passing a slice does to a lane's essence banks: the rotation, the end of a weak spare's march, and a new full pass. -/
def MmuS.slice (m : MmuS) (i : Nat) : MmuS :=
  let m1 := if isRotation i then m.rotateBank else if i < 1105 && i % 17 = 15 then { m with weakSpare := false } else m
  if i = 4095 then { m1 with corrected := [] } else m1

/-- ESSENCE_BANK after a rotation slice (R460): rotated, and a weak bank that stays the spare until its march. -/
def State.recordRotation (s : State) (l : Lane) (i : Nat) : State :=
  let m := (s.lane l).mmu
  let bank := (m.rotate + 63) % 64
  if isRotation i then
    let s1 := s.placeRecord l 0x0134 (fields [(1, 0), (1, bank), (1, Tab.getD m.bankMap bank bank), (1, 0)])
    if m.weakSpare then s1.placeRecord l 0x0134 (fields [(1, 1), (1, bank), (1, m.spare), (1, 0)]) else s1
  else s

/-- One lane's slice: its MISR against the ROM's value (R379), and the end of a full pass (R380). -/
def State.runSlice (s : State) (l : Lane) (misr : BitVec 64) (passSeconds : Nat) (again : Bool) : State :=
  let d := (s.lane l).diag
  let i := d.bstNext
  let want := Config.misrExpected i
  let ok := misr = want && !d.dmaFailed.contains 7
  let s1 := s.modDiag l fun d => { d with misr := misr, dmaFailed := removeNat 7 d.dmaFailed, bstFail := d.bstFail || !ok
                                          slicesRun := d.slicesRun + 1, slicesFailed := d.slicesFailed + b2n (!ok), lastFailed := if ok then d.lastFailed else i
                                          failedIndex := if ok then none else some i
                                          passSeconds := if d.passes = 0 then 0xFFFF else sat16 passSeconds }
  if !ok then
    let s2 := (s1.recordLane l 0x0801 (fields [(1, l.id), (1, 0), (2, i)] ++ bytesOf 8 misr ++ bytesOf 8 want)).modCore l fun c =>
      { c with events := c.events ||| 2 }
    let m := (s.lane l).mmu
    let weak := m.weakSpare && i < 1105 && i % 17 ≠ 16
    if weak then (s2.placeRecord l 0x0134 (fields [(1, 2), (1, (m.rotate + 63) % 64), (1, m.spare), (1, 0)])).leaveVote l 7 0
    else if again && d.failedIndex = some i then s2.leaveVote l 7 0 else s2
  else if again && d.failedIndex ≠ some i then s1
  else
    let s2 := (s1.modMmu l fun m => m.slice i).recordRotation l i
    if i = 4095 then
      let s3 := s2.modDiag l fun d => { d with passes := satAdd 0xFFFF d.passes 1, passSeconds := 0 }
      if 60 < passSeconds then s3.recordLane l 0x0802 (fields [(1, l.id), (1, 0), (2, sat16 passSeconds)]) else s3
    else s2

/-- A resync copy is armed or runs, so that its sender and receiver postpone their bank rotations (R361). -/
def State.copyRuns (s : State) : Bool :=
  (Lane.all.any fun l => s.laneSt l = .resync && (s.lane l).core.resync.step = 3) || (s.plink.resync && s.plink.resyncStep = 3)

/-- A slice in tick 9, after the remaining work and where the slack is at least 15 000 work units (R56): every voting lane runs the same index; a failed one is run again at the next opportunity. -/
def selftestSliceOp (misr : PerLane (BitVec 64)) (passSeconds : Nat) (s : State) : State :=
  let ls := s.votingLanes
  let index := ((LaneSet.first ls).map fun l => (s.lane l).diag.bstNext).getD 0
  if s.mod.mode.cycles && s.acc.tick = 9 && !s.acc.sliced && !s.workLeft && sliceWork ≤ tickQuantum - s.knownWork
      && !(isRotation index && s.copyRuns) then
    let s : State := { s with acc := { s.acc with sliced := true } }
    let again := (LaneSet.list ls).any fun l => (s.lane l).diag.bstRepeat
    let s1 := s.forLanes ls fun s l => s.runSlice l (misr.get l) passSeconds again
    let failed := (LaneSet.list ls).any fun l =>
      misr.get l ≠ Config.misrExpected (s.lane l).diag.bstNext || (s.lane l).diag.dmaFailed.contains 7
    s1.forLanes ls fun s l => s.modDiag l fun d =>
      if failed && !again then { d with bstRepeat := true }
      else { d with bstRepeat := false, bstNext := (d.bstNext + 1) % 4096 }
  else s

def execSelftestSlice (misr : PerLane (BitVec 64)) (passSeconds : Nat) (s : State) : Host.Outcome State Fault Refusal :=
  .next (selftestSliceOp misr passSeconds s)

end Sys2Proof.Machine
end

