-- ==== Sys2Proof/Machine/NetTime.lean ====
section
/-!
DEFINITION. Askiq time: the round start with its sync sources and offset corrections (R215–R219, R365), SYNC, COLDSTART and
BEACON frames (R212, R224), the rate (R218), and the start of the network with its collisions (R220–R223, R375).
-/

namespace Sys2Proof.Machine

/-- Changes what a port holds. -/
def State.modPort (s : State) (port : Nat) (f : PortSt → PortSt) : State :=
  { s with net := { s.net with ports := Tab.upd s.net.ports port .none f } }

/-! ### Frames of the hub -/

/-- CHANNEL put into a frame header: bit 18 (R187). -/
def withChannel (chY : Bool) (bs : List Byte) : List Byte := bs.modify 2 fun b => if chY then b ||| 0x04 else b &&& 0xFB

/-- A frame as it leaves a port: CHANNEL set, the frame CRC added (R186, R207). -/
def lineFrame (chY : Bool) (body : List Byte) : List Byte :=
  let b := withChannel chY body
  b ++ bytesOf 4 (crc32c b)

/-- The hub sends a frame on a port in a slot of this round. -/
def State.hubSend (s : State) (port slot : Nat) (body : List Byte) : State :=
  { s with net := { s.net with sent := s.net.sent ++ [⟨port, slot, s.net.round, lineFrame (32 ≤ port) body, false⟩] } }

/-- The hub serves the channel of a port, and the port is in service (R28, R348). -/
def State.serves (s : State) (port : Nat) : Bool :=
  (if port < 32 then s.net.servesX else s.net.servesY) && !(Tab.getD s.net.ports port .none).outOfService

/-- The module obeys a lead: a TENDER on a running network that it did not start (R221, R224). -/
def State.obeys (s : State) : Bool := s.mod.role = .tender && s.net.phase = .running

/-- The identity in this hub's SYNC, COLDSTART and GRANT frames: the module's own, or the lead's in a TENDER (R224, R227). -/
def State.syncId (s : State) : Nat := if s.obeys then s.partnerId else s.askiqId

/-- A SYNC slot of the module: its OWNER is the module's identity; where no SYNC slot of the bank names that, any module's, since R197 gives
the slot one OWNER for both modules of a pair (R196, R221; log entry 96). -/
def State.ownsSync (s : State) (w : Word) : Bool :=
  let own (v : Word) : Bool := slotType v = 3 && slotOwner v = s.askiqId
  own w || (slotType w = 3 && isModuleId (slotOwner w) && !(s.net.active.any fun p => own p.2))

/-- The arrival offsets that a port's SYNC reports, by satellite node port (R224). -/
def State.offsetBytes (s : State) (port : Nat) : List Byte :=
  (List.range 16).map fun k =>
    let here (d : NodeDef) : Bool :=
      if port < 32 then d.portX = port && d.satX.getD 0 = k else d.portY + 32 = port && d.satY.getD 0 = k
    match s.image.nodes.find? fun p => here p.2 with
    | some p =>
      let x := Tab.getD s.net.nodes p.1 .none
      match (if port < 32 then x.x else x.y).offset with
      | some o => (intBytes 1 o).headD 0
      | none => 0x80
    | none => 0x80

/-- A SYNC or COLDSTART frame for a slot of a port (R221, R224). -/
def State.syncFrame (s : State) (port slot : Nat) (cold : Bool) : List Byte :=
  let id := s.syncId
  let ofs := if cold then List.replicate 16 0x80 else s.offsetBytes port
  let data := fields [(4, s.net.claim.toNat), (1, s.modeWord), (1, b2n s.net.synced), (2, 0)] ++ ofs
  frameHeader (if cold then 4 else 3) id 0 s.mod.lab (s.mod.mode = .integrate) 28 slot (s.net.round.toNat % 65536)
    ++ data ++ bytesOf 4 (safetyCode id 0xFFFF s.net.round none data)

/-- SYNC or COLDSTART in every SYNC slot of the module, on every port that the hub serves, once two lanes have written the claim and the mode
word (R224). -/
def State.sendSync (s : State) (cold : Bool) : State :=
  if LaneSet.count s.votingLanes < 2 then s
  else s.each (s.net.active.filter fun p => s.ownsSync p.2 && s.serves (p.1 / 1000)) fun s p =>
    s.hubSend (p.1 / 1000) (p.1 % 1000) (s.syncFrame (p.1 / 1000) (p.1 % 1000) cold)

/-- Changes what the lanes keep of a node. -/
def State.modNode (s : State) (n : Nat) (f : NodeSt → NodeSt) : State :=
  { s with net := { s.net with nodes := Tab.upd s.net.nodes n .none f } }

def State.node (s : State) (n : Nat) : NodeSt := Tab.getD s.net.nodes n .none

/-! ### Corrections -/

/-- The offset correction of R217 over the values of a lane, its own 0 among them. -/
def correction (vals : List Int) : Int :=
  let v := vals.length
  let cut := if 7 ≤ v then 2 else if 3 ≤ v then 1 else 0
  let kept := ((sortInt vals).drop cut).take (v - 2 * cut)
  if v ≤ 1 then 0 else Int.tdiv (kept.foldl (· + ·) 0) kept.length

/-- Sync nodes in node table order, as sources 8 to 11 (R242). -/
def State.syncNodes (s : State) : List Nat := (s.image.nodes.filter fun p => p.1 < s.image.nodeCount && p.2.syncNode).map Prod.fst

/-- Whether a source gives lane l a value in this round (R215, R225, R365). -/
def State.sourceLive (s : State) (l : Lane) (n : Nat) : Bool :=
  if n < 3 then n ≠ l.id
  else if n < 6 then s.mod.pos ≠ 0 && s.plink.up && 8 ≤ (s.plink.delays.filterMap id).length
  else if 8 ≤ n && n < 12 then (s.syncNodes[n - 8]?).any fun i => (Tab.getD s.net.nodes i .none).sync
  else false

/-- The values that a lane measures, each source once. -/
def State.deviations (s : State) (l : Lane) (devs : List (Nat × Int)) : List (Nat × Int) :=
  (List.range 12).filterMap fun n => if s.sourceLive l n then devs.find? fun d => d.1 = n else none

/-- The time base of a lane takes its correction (R217–R219). -/
def TbsS.correct (t : TbsS) (v : Nat) (c : Int) : TbsS :=
  let ok := 2 ≤ v && c.natAbs ≤ 40
  { t with
    v := min 15 v, synced := ok, lastC := c, v1Run := if v = 1 then t.v1Run + 1 else 0
    corr := if ok then (c :: t.corr).take 8 else [], syncRun := if ok then t.syncRun + 1 else 0 }

/-- One lane measures, excludes and corrects (R216, R217); a lane in RESYNC with cause CLOCK counts its synchronised rounds (R356). -/
def State.syncLane (s : State) (l : Lane) (devs : List (Nat × Int)) : State :=
  if s.ticking l then
    let all := s.deviations l devs
    let s1 := s.each (all.filter fun d => 160 < d.2.natAbs) fun s d => s.recordLane l 0x020A (fields [(1, d.1), (1, 0)] ++ intBytes 2 d.2)
    let vals := 0 :: (all.filter fun d => d.2.natAbs ≤ 160).map Prod.snd
    let s2 := s1.modTbs l fun t => t.correct vals.length (correction vals)
    let ok := (s2.lane l).tbs.synced && !(s2.lane l).tbs.acquiring
    s2.modCore l fun c => { c with resync := { c.resync with syncRounds := if ok then c.resync.syncRounds + 1 else 0 } }
  else s

/-- A lane that stood alone in three rounds while two others are synchronised leaves the vote (R219). -/
def State.loneClock (s : State) (l : Lane) : State :=
  let others := Lane.all.filter fun m => m ≠ l && s.ticking m && (s.lane m).tbs.synced
  if s.laneSt l = .voting && 3 ≤ (s.lane l).tbs.v1Run && 2 ≤ others.length then
    (s.modTbs l fun t => { t with v1Run := 0 }).leaveVote l 6 0
  else s

/-- The network's synchronisation for the module, recorded when it changes (R219, R242). -/
def State.syncState (s : State) : State :=
  let ok : LaneSet := s.votingLanes.mapL fun l b => b && (s.lane l).tbs.synced
  let now := decide (2 ≤ LaneSet.count ok)
  if now = s.net.synced then s
  else ({ s with net := { s.net with synced := now } } : State).record 0x020B (fields [(1, b2n now), (1, LaneSet.bits ok), (2, 0)])

/-! ### The round -/

/-- What passes with a round for one node on one channel (R230, R232). -/
def NodeChan.nextRound (c : NodeChan) : NodeChan :=
  { c with silent := if c.seen then 0 else min 255 (c.silent + 1), seen := false
           hold := if c.closed then min 4 (c.hold + 1) else 0 }

/-- The pairing deadline of a copy falls into the round after its own: slots from 981 on (R205). -/
def WaitCopy.late (w : WaitCopy) : Bool := 981 ≤ bits w.header.toNat 41 32

def NodeSt.nextRound (n : NodeSt) (ended : Word) : NodeSt :=
  { n with x := n.x.nextRound, y := n.y.nextRound, agreeRun := if n.agreed then n.agreeRun else 0, agreed := false
           waiting := n.waiting.filter fun w => w.round = ended && w.late
           sync := false, named := false, diagSlots := [] }

/-- A late-comer's silence (R236). -/
def State.grantSilence (s : State) (n : Nat) (g : GrantSt) : GrantSt :=
  let x := Tab.getD s.net.nodes n .none
  { g with silent := if x.x.seen || x.y.seen then 0 else g.silent + 1 }

/-- Counts and turns of the round that ends. -/
def State.closeRound (s : State) (round : Word) : State :=
  { s with net := { s.net with
    round := round, nodes := Tab.mapV s.net.nodes fun _ n => n.nextRound s.net.round, grants := Tab.mapV s.net.grants s.grantSilence
    ports := Tab.mapV s.net.ports fun _ p => { p with probing := none, probedSlotC := false }
    txFlagged := LaneSet.none, sent := [], awaited := []
    phase := match s.net.phase with
      | .abandoned n => .abandoned (n + 1)
      | p => p } }

/-- The partner-link delay of this round: the median of those measured in the last 16 rounds (R365). -/
def State.linkDelay (s : State) (roundTrip : Option Nat) : State :=
  if s.mod.pos = 0 then s
  else
    let delays := ((roundTrip.map fun t => (t - 80) / 2) :: s.plink.delays).take 16
    let vals := sortInt ((delays.filterMap id).map Int.ofNat)
    { s with plink := { s.plink with delays := delays, delay := ((vals[vals.length / 2]?).map Int.toNat).getD 0xFFFF } }

/-- COLDSTART in the cold-start rounds, otherwise SYNC (R221). -/
def State.startSlots (s : State) : State :=
  match s.net.phase with
  | .coldRounds (n + 1) =>
    let s1 := s.sendSync true
    { s1 with net := { s1.net with phase := .coldRounds n } }
  | _ =>
    if s.net.running then
      let s1 := s.sendSync false
      -- a measurement is reported once: the next uplink slot brings the next (R224)
      let clear (n : NodeSt) : NodeSt := { n with x := { n.x with offset := none }, y := { n.y with offset := none } }
      { s1 with net := { s1.net with nodes := Tab.mapV s1.net.nodes fun _ n => clear n } }
    else s

/-- Each voting lane of a module in duplex sends its strobe: network time, claim, lead channel (R364; log entry 14). -/
def State.strobes (s : State) : State :=
  if s.mod.pos = 0 || !s.net.running then s
  else s.forLanes s.votingLanes fun s _ =>
    s.sendPartner 1 (fields [(8, s.netNow), (4, s.net.claim.toNat), (1, b2n s.plink.leadChannelY)])

/-- A round starts (R190, R215–R219, R365). Rounds pass by the module's own time base in an abandoned network too (R223). -/
def roundStartOp (round : Word) (devs : PerLane (List (Nat × Int))) (roundTrip : Option Nat) (s : State) : State :=
  if s.mod.mode.cycles && (s.net.running || s.net.phase ≠ .idle) && newer round s.net.round then
    let s1 := s.linkDelay roundTrip
    if s1.net.running then
      let s2 := s1.each Lane.all fun s l => s.syncLane l (devs.get l)
      let s3 := (s2.each Lane.all State.loneClock).syncState
      if s3.mod.mode.cycles then (s3.closeRound round).startSlots.strobes else s3
    else s1.closeRound round
  else s

def execRoundStart (round : Word) (devs : PerLane (List (Nat × Int))) (roundTrip : Option Nat) (s : State) :
    Host.Outcome State Fault Refusal :=
  .next (roundStartOp round devs roundTrip s)

/-- RATE after every eighth synchronised round: the sum of the last eight corrections times 32, limited to ±128 000 (R218). -/
def rateUpdateOp (l : Lane) (s : State) : State :=
  let t := (s.lane l).tbs
  if t.corr.length = 8 then
    let r := t.rate + 32 * t.corr.foldl (· + ·) 0
    s.modTbs l fun t => { t with rate := max (-128000) (min 128000 r), corr := [] }
  else s

def execRateUpdate (lane : Lane) (s : State) : Host.Outcome State Fault Refusal := .next (rateUpdateOp lane s)

/-- In RECOVERY the hub ignores the slot tables and sends one BEACON on every port in slot 0 of a round; the next round follows (R212). -/
def beaconSendOp (s : State) : State :=
  if s.mod.mode = .recovery then
    let data := fields [(1, s.mod.sid), (1, s.modeWord), (1, 3), (1, 0), (1, 2), (3, 0)]
    let body := frameHeader 8 s.askiqId 0 s.mod.lab false 8 0 (s.net.round.toNat % 65536) ++ data
    let s1 : State := { s with net := { s.net with sent := [] } }
    let s2 := s1.each (List.range 64) fun s p => s.hubSend p 0 body
    { s2 with net := { s2.net with round := s.net.round + 1 } }
  else s

def execBeaconSend (s : State) : Host.Outcome State Fault Refusal := .next (beaconSendOp s)

/-! ### Start of the network -/

/-- No partner strobe within the listening time: cold start (R221). -/
def listenTimeoutOp (s : State) : State := if s.mod.mode.cycles && s.net.phase = .listening then s.coldStart else s

def execPartnerListenTimeout (s : State) : Host.Outcome State Fault Refusal := .next (listenTimeoutOp s)

/-- The channel of the hub that the partner drives is declared lost for every node (R206). -/
def State.declareLost (s : State) (chY : Bool) : State :=
  s.each (s.image.nodes.map Prod.fst) fun s n =>
    s.modNode n fun x => if chY then { x with declY := true, agreeRun := 0 } else { x with declX := true, agreeRun := 0 }

/-- The channel of the partner's hub is lost to a LEAD whose partner link is down (R206). -/
def State.lostPartner (s : State) : State :=
  if s.mod.role = .lead && !s.plink.up then s.declareLost (!s.plink.leadChannelY) else s

/-- The four cold-start rounds end: the claim is on the wire, and a module in duplex is LEAD (R221). -/
def coldRoundsCompleteOp (s : State) : State :=
  if s.mod.mode.cycles && s.net.phase = .coldRounds 0 then
    let s1 : State := { s with
      mod := { s.mod with role := if s.mod.pos = 0 then .solo else .lead, cond := .none }
      net := { s.net with phase := .running, collisions := 0 } }
    (s1.serveByRole.recordCold 3 0).lostPartner
  else s

def execColdstartRoundsComplete (s : State) : Host.Outcome State Fault Refusal := .next (coldRoundsCompleteOp s)

/-- The partner's COLDSTART during the module's own: the lower claim abandons, and equal claims make both abandon (R222). -/
def collisionOp (partnerClaim : Word) (s : State) : State :=
  match s.net.phase with
  | .coldRounds _ =>
    let s1 : State := { s with net := { s.net with otherClaim := partnerClaim } }
    if partnerClaim.toNat < s.net.claim.toNat then s1
    else
      let s2 : State := { s1 with net := { s1.net with phase := .collided, running := false, collisions := s1.net.collisions + 1 } }
      s2.recordCold 1 partnerClaim
  | _ => s

def execColdstartCollision (partnerClaim : Word) (s : State) : Host.Outcome State Fault Refusal := .next (collisionOp partnerClaim s)

/-- The back-off after a collision, 2ⁿ × 20 ms × (1 + position), has passed: the module listens again (R222). -/
def backoffExpiredOp (s : State) : State :=
  if s.net.phase = .collided then { s with net := { s.net with phase := .listening } } else s

def execCollisionBackoffExpired (s : State) : Host.Outcome State Fault Refusal := .next (backoffExpiredOp s)

/-- The back-off of R222 in ms, which the step above waits for. -/
def backoffMs (collisions position : Nat) : Nat := 2 ^ min 6 collisions * 20 * (1 + position)

/-- Frames of this round name the partner in DEST: from two nodes of the node table, or from every member when it has fewer
than two members (R223). -/
def State.othersObeyed (s : State) : Bool :=
  let table := s.net.nodes.filter fun p => p.1 < s.image.nodeCount
  let named := table.filter fun p => p.2.named && p.2.dest ≠ s.askiqId
  let members := table.filter fun p => p.2.x.member || p.2.y.member
  2 ≤ named.length || (members.length < 2 && !members.isEmpty && members.all fun p => named.contains p)

/-- A LEAD that hears a higher claim never commands again under its own: TENDER, ISOLATED, its vital outputs OFF (R375). -/
def State.loseLead (s : State) (higher : Word) : State :=
  if s.mod.role = .lead then
    let own := s.net.claim
    let s1 := ({ s with mod := { s.mod with role := .tender, cond := .isolated }
                        net := { s.net with otherClaim := higher } } : State).haltSups
    let s2 := (s1.votesOff false).record 0x0122 (bytesOf 4 own ++ bytesOf 4 higher)
    let s3 := s2.abandonSwitchover
    { s3 with plink := { s3.plink with resync := false, resyncStep := 0 }, net := { s3.net with contrib := LaneSet.none } }
  else s

/-- Nodes name the partner while the partner link is down: the module stops transmitting and only listens (R223, R375). -/
def abandonedOp (otherClaim : Word) (s : State) : State :=
  if s.mod.mode.cycles && s.mod.pos ≠ 0 && !s.plink.up && s.net.running && s.othersObeyed then
    let s1 : State := { s with net := { s.net with phase := .abandoned 0, running := false, otherClaim := otherClaim } }
    let s2 := s1.recordCold 2 otherClaim
    if s2.mod.mode = .operate then s2.loseLead otherClaim else s2
  else s

def execColdstartAbandoned (otherClaim : Word) (s : State) : Host.Outcome State Fault Refusal := .next (abandonedOp otherClaim s)

/-- Thirty rounds without a passing frame, after the round in which the last one came: the module may cold-start again, so it listens again
first (R221, R223). -/
def networkSilenceOp (s : State) : State :=
  match s.net.phase with
  | .abandoned n => if 31 ≤ n then { s with net := { s.net with phase := .listening } } else s
  | _ => s

def execNetworkSilence (s : State) : Host.Outcome State Fault Refusal := .next (networkSilenceOp s)

/-- Network time is stored in flash every 10 s (R220). -/
def networkTimePersistOp (s : State) : State :=
  if s.net.running then { s with net := { s.net with persistedTime := max s.net.persistedTime s.netNow } } else s

def execNetworkTimePersist (s : State) : Host.Outcome State Fault Refusal := .next (networkTimePersistOp s)

end Sys2Proof.Machine
end

