-- ==== Sys2Proof/Machine/NetHub.lean ====
section
/-!
DEFINITION. The hub's transmit voter (R208–R210), ranging and grants (R226–R228), late-comers' claims (R233–R236) and the switch
of slot banks (R198, R238).
-/

namespace Sys2Proof.Machine

/-! ### The transmit voter -/

/-- What the voter makes of one byte (R209): the byte and the odd lane, or nothing where there is no majority. -/
def voteByte (l : List (Lane × Byte)) : Option (Byte × Option Lane) :=
  match l with
  | [(_, x), (_, y)] => if x = y then some (x, none) else none
  | [(l0, x), (l1, y), (l2, z)] =>
    if x = y then some (x, if z = x then none else some l2)
    else if x = z then some (x, some l1)
    else if y = z then some (y, some l0)
    else none
  | _ => none

/-- The voted bytes up to the first byte without majority, and the lanes found odd. -/
def voteBytes (vs : List (Lane × List Byte)) : Nat → List Byte × List Lane × Option Nat
  | 0 => ([], [], none)
  | n + 1 =>
    let r := voteBytes vs n
    if r.2.2.isSome then r
    else match voteByte (vs.map fun v => (v.1, v.2.getD n 0)) with
      | some (b, odd) => (r.1 ++ [b], r.2.1 ++ odd.toList, none)
      | none => (r.1, r.2.1, some n)

/-- A lane's version for a round, with what its buffer differs by: (offset, difference). -/
def Downlink.version (d : Downlink) (round : Word) (faults : List (Nat × Byte)) : Option (List Byte) :=
  let pick := if d.round0 = round then some d.bytes0 else if d.round0 + 1 = round then some d.bytes1 else none
  pick.map fun bs => faults.foldl (fun l f => l.modify f.1 (· ^^^ f.2)) bs

/-- The ports of a node that this hub serves. -/
def State.nodePorts (s : State) (d : NodeDef) : List Nat := [d.portX, d.portY + 32].filter s.serves

/-- A frame stopped by ABORT: the voted bytes alone leave (R209). -/
def State.hubAbort (s : State) (port slot : Nat) (bytes : List Byte) : State :=
  { s with net := { s.net with sent := s.net.sent ++ [⟨port, slot, s.net.round, withChannel (32 ≤ port) bytes, true⟩] } }

/-- The lanes that the voter found odd in a slot: at the third round within 100 cycles a lane leaves with sub-cause TX (R209). -/
def State.flagTx (s : State) (l : Lane) : State :=
  let c := s.net.counts
  let first := !s.net.txFlagged.get l
  let s1 : State := { s with net := { s.net with
    txFlagged := s.net.txFlagged.set l true, counts := { c with txMinority := c.txMinority.set l true } } }
  if first then
    let now := s.mod.cycle.toNat
    let s2 := s1.modCore l fun c => { c with txTimes := now :: c.txTimes.filter fun t => now < t + 100 }
    if 3 ≤ (s2.lane l).core.txTimes.length then (s2.modCore l fun c => { c with txTimes := [] }).leaveVote l 5 7 else s2
  else s1

/-- A slot in which a byte has no majority (R209, R536). -/
def State.noMajority (s : State) (node : Nat) (d : NodeDef) (slot ofs : Nat) (bytes : List Byte) : State :=
  let contrib := LaneSet.bits s.net.contrib
  let ports := s.nodePorts d
  let s1 : State := { s with net := { s.net with counts := { s.net.counts with noMajority := true } }
                             acc := { s.acc with safeNext := true } }
  (s1.each ports fun s p => s.hubAbort p slot bytes).each ports fun s p =>
    s.record 0x0153 (fields [(2, node), (1, b2n (32 ≤ p)), (1, ofs), (1, contrib), (3, 0), (4, s.net.round.toNat)])

/-- The lead hands its voted bytes to the tender's hub (R210, R364). -/
def State.shareVoted (s : State) (node : Nat) (bytes : List Byte) : State :=
  if s.mod.pos ≠ 0 && s.mod.role = .lead then s.sendPartner 2 (leBytes 2 node ++ bytesOf 4 s.net.round ++ bytes) else s

/-- A vote instant of this module's own lanes (R208, R209). -/
def State.voteSlot (s : State) (node : Nat) (d : NodeDef) (slot : Nat) (faults : PerLane (List (Nat × Byte))) : State :=
  let vs := (LaneSet.list s.net.contrib).filterMap fun l =>
    ((Tab.get? (s.net.down.get l) node).bind fun v => v.version s.net.round (faults.get l)).map fun b => (l, b)
  if LaneSet.count s.net.contrib < 2 then s
  else if vs.length < 2 then { s with net := { s.net with counts := { s.net.counts with stale := satAdd 0xFFFF s.net.counts.stale 1 } } }
  else
    let r := voteBytes vs (d.dnLen + 8)
    match r.2.2 with
    | some ofs => (s.noMajority node d slot ofs r.1).each r.2.1 State.flagTx
    | none => (((s.nodePorts d).foldl (fun s p => s.hubSend p slot r.1) s).shareVoted node r.1).each r.2.1 State.flagTx

/-- The lead's voted bytes of this round for a node leave this tender's hub in the node's slot; where they are not there yet, they are awaited
(R210). -/
def State.sendLead (s : State) (node : Nat) : State :=
  let here := (Tab.get? s.net.partnerBytes node).filter fun p => p.1 = s.net.round
  match Tab.get? s.image.nodes node, here with
  | some d, some p =>
    match s.slotOf d true with
    | some slot =>
      let t := (s.nodePorts d).foldl (fun s q => s.hubSend q slot p.2) s
      { t with net := { t.net with awaited := t.net.awaited.filter (· ≠ node) } }
    | none => s
  | _, _ => { s with net := { s.net with awaited := insertNat node s.net.awaited } }

/-- A downlink slot's vote instant; a tender sends the lead's voted bytes (R209, R210). -/
def slotVoteOp (node : Nat) (faults : PerLane (List (Nat × Byte))) (s : State) : State :=
  if s.mod.mode.cycles && s.net.running && s.net.phase = .running then
    match Tab.get? s.image.nodes node with
    | none => s
    | some d => match s.slotOf d true with
      | none => s
      | some slot =>
        if s.mod.role = .tender then s.sendLead node else s.voteSlot node d slot faults
  else s

def execSlotVote (node : Fin 512) (faults : PerLane (List (Nat × Byte))) (s : State) : Host.Outcome State Fault Refusal :=
  .next (slotVoteOp node.val faults s)

/-- The lead's bytes are not there 500 ns before the slot: nothing is sent and the slot is counted (R210). -/
def partnerLateOp (node : Nat) (s : State) : State :=
  let here := (Tab.get? s.net.partnerBytes node).any fun p => p.1 = s.net.round
  if s.mod.mode.cycles && s.obeys && !here && (Tab.get? s.image.nodes node).isSome then
    { s with net := { s.net with
      awaited := s.net.awaited.filter (· ≠ node), counts := { s.net.counts with partnerLate := satAdd 0xFFFF s.net.counts.partnerLate 1 } } }
  else s

def execPartnerLate (node : Fin 512) (s : State) : Host.Outcome State Fault Refusal := .next (partnerLateOp node.val s)

/-! ### Grants and ranging -/

def NodeSt.chan (n : NodeSt) (chY : Bool) : NodeChan := if chY then n.y else n.x

def NodeSt.onChan (n : NodeSt) (chY : Bool) (f : NodeChan → NodeChan) : NodeSt := if chY then { n with y := f n.y } else { n with x := f n.x }

/-- Nodes homed on a port, late-comers among them (R195, R233). -/
def State.homed (s : State) (port : Nat) : List (Nat × NodeDef) :=
  s.image.nodes.filter fun p => if port < 32 then p.2.portX = port else p.2.portY + 32 = port

/-- The first CLAIM slot of a port, slot c (R226). -/
def State.slotC (s : State) (port : Nat) : Option Nat := (portSlots s.net.active port fun w => slotType w = 4).head?

/-- The node to probe in its turn: from the port's turn on, then from the beginning (R228). -/
def State.toProbe (s : State) (port : Nat) : Option Nat :=
  let turn := (Tab.getD s.net.ports port .none).turn
  let due := ((s.homed port).map Prod.fst).filter fun n => !((s.node n).chan (32 ≤ port)).member
  match due.find? fun n => turn ≤ n with
  | some n => some n
  | none => due.head?

/-- The 16 bytes of a GRANT payload before its safety code (R227). -/
def grantData (kind reason delay up dn : Nat) (fromRound : Word) : List Byte :=
  fields [(1, kind), (1, reason), (2, delay), (2, up), (2, dn), (4, fromRound.toNat), (4, 0)]

/-- A GRANT frame leaves in slot c of a port (R227). -/
def State.sendGrant (s : State) (port slot node : Nat) (data : List Byte) : State :=
  let body := frameHeader 6 node 0 s.mod.lab (s.mod.mode = .integrate) 20 slot (s.net.round.toNat % 65536) ++ data
    ++ bytesOf 4 (safetyCode s.syncId node s.net.round none data)
  s.hubSend port slot body

/-- The identity of a node index. -/
def State.nodeId (s : State) (n : Nat) : Nat := ((Tab.get? s.image.nodes n).map NodeDef.id).getD 0x3FF

/-- Slot c: a pending GRANTED or REFUSED first, then a pending DELAY, then a PROBE, otherwise OPEN (R227). -/
def grantWindowOp (port : Nat) (s : State) : State :=
  if s.mod.mode.cycles && s.net.running && s.serves port then
    match s.slotC port with
    | none => s
    | some c =>
      let p := Tab.getD s.net.ports port .none
      match p.grants, p.delayMsg with
      | g :: rest, _ => (s.modPort port fun p => { p with grants := rest, probing := none, probedSlotC := false }).sendGrant port c g.1 g.2
      | [], some (n, reason, delay) =>
        let slot (down : Bool) : Nat := ((Tab.get? s.image.nodes n).bind fun d => s.slotOf d down).getD 0xFFFF
        (s.modPort port fun p => { p with delayMsg := none, probing := none, probedSlotC := false }).sendGrant port c (s.nodeId n)
          (grantData 2 reason delay (slot false) (slot true) 0)
      | [], none =>
        match s.toProbe port with
        | some n =>
          (s.modPort port fun p => { p with probing := some n, turn := n + 1, probedSlotC := true }).sendGrant port c (s.nodeId n)
            (grantData 1 0 0 0xFFFF 0xFFFF 0)
        | none =>
          (s.modPort port fun p => { p with probing := none, probedSlotC := false }).sendGrant port c 0x3FF
            (grantData 0 0 0 0xFFFF 0xFFFF 0)
  else s

def execGrantWindow (port : Port) (s : State) : Host.Outcome State Fault Refusal := .next (grantWindowOp port.val s)

/-- The reply to a PROBE: the first whose frame CRC, NODE and SLOT check between 4 000 and 29 000 ns after the start of slot c;
`arrival` in units. A delay of more than 4 400 units is left to the end of the window (R228). -/
def probeReplyOp (port arrival : Nat) (bytes : List Byte) (s : State) : State :=
  let n := bytes.length
  let hdr := leAt bytes 0 8
  let ok := 12 ≤ n && leAt bytes (n - 4) 4 = (crc32c (bytes.take (n - 4))).toNat
  let d := (arrival - 1727) / 2
  match (Tab.getD s.net.ports port .none).probing, s.slotC port with
  | some i, some c =>
    if s.net.running && ok && 1600 ≤ arrival && arrival ≤ 11600 && bits hdr 17 8 = s.nodeId i && bits hdr 41 32 = c && d ≤ 4400 then
      (s.modPort port fun p => { p with probing := none, delayMsg := some (i, 0, d) }).modNode i fun x =>
        x.onChan (32 ≤ port) fun ch => { ch with delay := some d }
    else s
  | _, _ => s

def execProbeReply (port : Port) (arrival : Nat) (bytes : List Byte) (s : State) : Host.Outcome State Fault Refusal :=
  .next (probeReplyOp port.val arrival bytes s)

/-- The ranging window ends without a valid reply, or with a delay beyond 11 000 ns (R228). -/
def rangingEndOp (port : Nat) (tooLong : Bool) (s : State) : State :=
  match (Tab.getD s.net.ports port .none).probing with
  | some i => s.modPort port fun p => { p with probing := none, delayMsg := some (i, if tooLong then 2 else 1, 0xFFFF) }
  | none => s

def execRangingWindowEnd (port : Port) (tooLong : Bool) (s : State) : Host.Outcome State Fault Refusal :=
  .next (rangingEndOp port.val tooLong s)

/-! ### Late-comers -/

/-- A SPARE entry not granted, of one direction. -/
def spareFree (w : Word) (down : Bool) : Bool := slotType w = 5 && !slotGranted w && slotSpareDown w = down

/-- The lowest slot number at which both banks hold such an entry on both ports of a node (R235). -/
def State.spareSlot (s : State) (d : NodeDef) (down : Bool) : Option Nat :=
  (List.range 1000).find? fun i =>
    [d.portX, d.portY + 32].all fun p => spareFree (Tab.getD s.net.bank0 (1000 * p + i) 0) down && spareFree (Tab.getD s.net.bank1 (1000 * p + i) 0) down

/-- Changes the four entries of a slot pair in both banks. -/
def State.modSpare (s : State) (d : NodeDef) (slots : List Nat) (f : Word → Word) : State :=
  let keys := slots.flatMap fun i => [1000 * d.portX + i, 1000 * (d.portY + 32) + i]
  let put (b : Tab Word) : Tab Word := keys.foldl (fun b k => Tab.modify b k f) b
  { s with net := { s.net with bank0 := put s.net.bank0, bank1 := put s.net.bank1 } }

/-- An entry granted to a node. -/
def grantEntry (id : Nat) (w : Word) : Word := BitVec.ofNat 32 (w.toNat / 1024 * 1024 + id % 1024) ||| 0x20000

/-- An entry returned to SPARE (R196, R236). -/
def releaseEntry (w : Word) : Word := (w ||| 0x3FF) &&& 0xFFFDFFFF

/-- A GRANTED or REFUSED waits for the next slot c of a port that this hub serves, a GRANTED before every REFUSED. -/
def State.queueGrant (s : State) (port node : Nat) (data : List Byte) : State :=
  let first (q : Nat × List Byte) : Bool := byteAt q.2 0 = 3 || byteAt data 0 ≠ 3
  if s.serves port then s.modPort port fun p => { p with grants := p.grants.takeWhile first ++ (node, data) :: p.grants.dropWhile first } else s

/-- The round after the GRANTED frame: two rounds after the claim, or later by one for each GRANTED that waits on a port of the node
(R227, R235). -/
def State.fromRound (s : State) (d : NodeDef) : Word :=
  let shares (n : Nat) : Bool := (Tab.get? s.image.nodes n).any fun e => e.portX = d.portX || e.portY = d.portY
  s.net.grants.foldl (fun r p => if shares p.1 && !newer r p.2.fromRound then p.2.fromRound + 1 else r) (s.net.round + 2)

/-- The spare slots are granted (R235): they apply from the round after the GRANTED frame. -/
def State.applyGrant (s : State) (n : Nat) (d : NodeDef) (u w : Nat) (fromRound : Word) : State :=
  let s1 := s.modSpare d [u, w] (grantEntry d.id)
  let s2 : State := { s1 with net := { s1.net with grants := Tab.put s1.net.grants n ⟨u, w, fromRound, 0⟩ } }
  let data := grantData 3 0 0 u w fromRound
  ((s2.queueGrant d.portX d.id data).queueGrant (d.portY + 32) d.id data).record 0x0208
    (fields [(2, d.id), (2, u), (2, w), (2, 0), (4, fromRound.toNat)])

/-- CLAIM_REFUSED (R242). -/
def State.recordRefused (s : State) (id port reason : Nat) : State :=
  s.record 0x0206 (fields [(2, id), (1, b2n (32 ≤ port)), (1, reason)])

/-- REFUSED waits for slot c of a port. -/
def State.queueRefused (s : State) (id port reason : Nat) : State :=
  s.queueGrant port id (grantData 4 reason 0xFFFF 0xFFFF 0xFFFF 0)

/-- REFUSED is sent by the hub that serves the port, the partner's where the claim came over the partner link, and recorded (R235, R241). -/
def State.refuseClaim (s : State) (id port reason : Nat) : State :=
  let t := if s.serves port then s.queueRefused id port reason
    else if s.mod.role = .lead then s.sendControl ctlRefused (fields [(1, port), (1, reason), (2, id)]) none else s
  t.recordRefused id port reason

/-- A valid CLAIM frame is decided; in duplex only by the lead's hub (R235). A scheduled or granted node's claim is ignored and
recorded (R241). -/
def State.decideClaim (s : State) (port id : Nat) (digest : List Byte) : State :=
  if s.mod.role = .tender then s
  else match s.image.nodes.find? fun p => p.2.id = id with
  | none => s.refuseClaim id port 1
  | some (n, d) =>
    if d.keyDigest.isNone then s.recordRefused id port 1
    else if (Tab.get? s.net.grants n).isSome then s.recordRefused id port 0
    else if !s.net.grantsOn then s.refuseClaim id port 3
    else if d.keyDigest ≠ some digest || !(d.portX = port || d.portY + 32 = port) then s.refuseClaim id port 1
    else if s.net.frozen then s.refuseClaim id port 4
    else match s.spareSlot d false, s.spareSlot d true with
      | some u, some w =>
        let r := s.fromRound d
        let s1 := s.applyGrant n d u w r
        if s1.mod.role = .lead then s1.sendControl ctlGrant (fields [(2, n), (2, u), (2, w), (4, r.toNat)]) none else s1
      | _, _ => s.refuseClaim id port 2

/-- A hundred rounds without a frame: the entries return to SPARE once neither bank is frozen (R236). -/
def grantReleasedOp (n : Nat) (s : State) : State :=
  match Tab.get? s.net.grants n, Tab.get? s.image.nodes n with
  | some g, some d =>
    if 100 ≤ g.silent && !s.net.frozen then
      let s1 := s.modSpare d [g.up, g.dn] releaseEntry
      ({ s1 with net := { s1.net with grants := Tab.erase s1.net.grants n } } : State).record 0x0209 (fields [(2, d.id), (2, 0)])
    else s
  | _, _ => s

def execGrantReleased (node : Fin 512) (s : State) : Host.Outcome State Fault Refusal := .next (grantReleasedOp node.val s)

/-! ### Banks -/

/-- The banks exchange roles, and the inactive one becomes a copy of the new active one (R198, R238). -/
def NetS.switchBanks (n : NetS) : NetS :=
  let b := n.inactive
  { n with activeBank1 := !n.activeBank1, bank0 := b, bank1 := b }

/-- The start of the named round: at least two lanes have requested it with the CRC of the frozen bank (R198); a pair has exchanged its CRCs
before, and the tender has armed (R238). -/
def bankSwitchOp (s : State) : State :=
  match s.net.switchRound with
  | none => s
  | some (r, c) =>
    if s.net.frozen && s.net.running && !newer r s.net.round then
      let crc := bankCrc s.net.inactive
      let agree := Lane.all.filter fun l => (s.net.regs.get l).request = some r && (s.net.regs.get l).crc = crc
      if s.mod.pos ≠ 0 && !s.net.partnerArmed then s.endSwitch 3 r c
      else if 2 ≤ agree.length then ({ s with net := s.net.switchBanks } : State).endSwitch 0 r crc else s.endSwitch 1 r c
    else s

def execBankSwitch (s : State) : Host.Outcome State Fault Refusal := .next (bankSwitchOp s)

/-- The partner's bank CRC, and whether its hub has armed, against the own: a difference cancels the switch (R238). -/
def State.judgeBank (s : State) (round partnerCrc : Word) (armed : Bool) : State :=
  let own := bankCrc s.net.inactive
  if partnerCrc ≠ own then s.endSwitch 2 round own
  else if !armed then s.endSwitch 3 round own
  else { s with net := { s.net with partnerArmed := true } }

/-- Ten rounds before the named round the modules exchange their bank CRCs; a difference, or a tender that has not armed, cancels
the switch in both (R238). -/
def bankCrcExchangeOp (partnerCrc : Word) (partnerArmed : Bool) (s : State) : State :=
  match s.net.switchRound with
  | none => s
  | some (r, _) =>
    if s.net.frozen && s.mod.pos ≠ 0 then
      (s.sendControl ctlBankCrc (bytesOf 4 (bankCrc s.net.inactive)) none).judgeBank r partnerCrc partnerArmed
    else s

def execBankCrcExchange (partnerCrc : Word) (partnerArmed : Bool) (s : State) : Host.Outcome State Fault Refusal :=
  .next (bankCrcExchangeOp partnerCrc partnerArmed s)

end Sys2Proof.Machine
end

