-- ==== Sys2Proof/Machine/NetRx.lean ====
section
/-!
DEFINITION. Reception: the hub's acceptance window and closed pairs (R199, R200), the checks of the bus engines (R203), the
redundancy stage and the deposit (R204–R206, R42), membership, re-integration and claim reports (R230–R232, R240), and CLAIM
frames (R234, R235).
-/

namespace Sys2Proof.Machine

/-! ### The deposit (R42) -/

/-- A frame reaches a node's buffer; while an input accord is open only the newest waits at the arrival place. -/
def NodeBuf.add (b : NodeBuf) (f : Frame) (isOpen : Bool) : NodeBuf :=
  if isOpen then
    match b.arrival with
    | some g => if Machine.newer f.round g.round then { b with arrival := some f } else b
    | none => { b with arrival := some f }
  else NodeBuf.settle { b with arrival := some f }

/-- Every lane that ticks deposits the frame: in the arrival place from its own T₀ until the input accord closes (R42). -/
def State.deposit (s : State) (n : Nat) (f : Frame) : State :=
  let put (l : Lane) (t : Tab NodeBuf) : Tab NodeBuf :=
    if s.ticking l then Tab.upd t n ⟨none, none, none⟩ fun b => b.add f (s.acc.isOpen || s.acc.behind.get l) else t
  { s with acc := { s.acc with bufs := s.acc.bufs.mapL put } }

/-! ### Violations -/

/-- FRAME_DISCARDED (R242). -/
def State.recordDiscard (s : State) (node : Option Nat) (port cause : Nat) : State :=
  s.record 0x0201 (fields [(2, node.getD 0xFFFF), (1, b2n (32 ≤ port)), (1, cause), (1, port % 32), (3, 0)])

/-- The only node of a port, when it is directly connected (R195, R199). -/
def State.directNode (s : State) (port : Nat) : Option Nat :=
  match s.homed port with
  | [p] => if (if port < 32 then p.2.satX else p.2.satY).isNone then some p.1 else none
  | _ => none

/-- The hub closes a node's access (R200, R206). -/
def State.closeAccess (s : State) (n port : Nat) : State :=
  let chY := decide (32 ≤ port)
  let s1 := s.modNode n fun x =>
    let y := x.onChan chY fun c => { c with closed := true, hold := 0, admitInteg := false, edges := [], offset := none }
    if chY then { y with declY := true, agreeRun := 0 } else { y with declX := true, agreeRun := 0 }
  let s2 := if s1.directNode port = some n then s1.modPort port fun p => { p with closed := true } else s1
  s2.record 0x0202 (fields [(2, n), (1, b2n chY), (1, 0)])

/-- SLOT_EDGE (cause 9) or UNSCHEDULED (cause 10), counted for a node or for the port only (R199, R200, R226). -/
def State.countEdge (s : State) (node : Option Nat) (port cause : Nat) : State :=
  let s1 := ({ s with net := { s.net with counts := { s.net.counts with slotEdge := satAdd 0xFFFF s.net.counts.slotEdge 1 } } } : State).recordDiscard
    node port cause
  match node with
  | none => s1.modPort port fun p => { p with portEdges := p.portEdges + 1 }
  | some n =>
    let chY := decide (32 ≤ port)
    let now := s.net.round.toNat
    let edges := now :: ((s.node n).chan chY).edges.filter fun r => (s.net.round - BitVec.ofNat 32 r).toNat < 16
    let s2 := s1.modNode n fun x => x.onChan chY fun c => { c with edges := edges }
    if 3 ≤ edges.length && !((s.node n).chan chY).closed then s2.closeAccess n port else s2

/-! ### Checks (R203) -/

/-- What a slot's receive pair is for. -/
inductive RxKind where
  | closed | vital | diag | sync | claim
deriving DecidableEq, Repr

/-- The node of a port that owns a slot. -/
def State.slotNode (s : State) (port : Nat) (w : Word) : Option (Nat × NodeDef) := (s.homed port).find? fun q => q.2.id = slotOwner w

/-- A granted uplink slot applies from FROM_ROUND of its grant on (R235). -/
def State.spareOpen (s : State) (w : Word) : Bool :=
  slotGranted w && !slotSpareDown w
    && s.net.grants.any fun g => s.nodeId g.1 = slotOwner w && !newer g.2.fromRound s.net.round

/-- The use of a slot entry on the receive pair of a port (R196). -/
def State.rxKind (s : State) (port : Nat) (w : Word) : RxKind :=
  match slotType w with
  | 1 => if slotVital w then .vital else .diag
  | 3 => if (s.slotNode port w).any fun q => q.2.syncNode then .sync else .closed
  | 4 => .claim
  | 5 => if s.spareOpen w then .vital else .closed
  | _ => .closed

/-- The mode that a frame of the slot carries: COMPARE in a granted SPARE slot (R196). -/
def rxMode (w : Word) : Nat := if slotType w = 5 then 1 else slotMode w

/-- DEST identities that a safety code may have been made for: the module's own, or in duplex its partner's (R192). -/
def State.destIds (s : State) : List Nat := s.askiqId :: if s.mod.pos = 0 then [] else [s.partnerId]

/-- The DEST for which an uplink safety code matches. -/
def State.destOf (s : State) (source : Nat) (round : Word) (payload : List Byte) : Option Nat :=
  let n := payload.length - 4
  s.destIds.find? fun d => (safetyCode source d round none (payload.take n)).toNat = leAt payload n 4

/-- The length that a frame of a kind has (R203 check 7). -/
def lengthOk (kind : RxKind) (upLen len : Nat) : Bool :=
  len = 0 || match kind with
    | .vital => len = upLen
    | .diag => 1 ≤ len && len ≤ 96
    | .sync => len = 8
    | .claim => len = 16
    | .closed => false

/-- The TYPE is allowed in the slot (R188, R189, R203 check 4). -/
def typeOk (kind : RxKind) (type len : Nat) : Bool :=
  match kind with
  | .vital => len = 0 || type = 1
  | .diag => len = 0 || type = 7
  | .sync => len ≠ 0 && type = 3
  | .claim => len ≠ 0 && type = 5
  | .closed => false

/-- Reserved payload bits of a frame are 0 (R6): bits [7:6] of the claim report, bytes 1 to 3 of a sync node's SYNC, bytes 8 to 11 of a
CLAIM (R225, R234, R240). -/
def reservedPayload (type : Nat) (payload : List Byte) : Bool :=
  match type with
  | 1 => payload.length < 5 || bits (byteAt payload (payload.length - 5)) 7 6 = 0
  | 3 => leAt payload 1 3 = 0
  | 5 => leAt payload 8 4 = 0
  | _ => true

/-- The first check of R203 that a frame fails, 0 when it passes, and the DEST of its safety code. -/
def State.frameCheck (s : State) (port slot : Nat) (w : Word) (whole : Bool) (bytes : List Byte) (owner : Option NodeDef) : Nat × Nat :=
  let hdr := leAt bytes 0 8
  let len := bits hdr 30 24
  let n := bytes.length
  let type := bits hdr 3 0
  let kind := s.rxKind port w
  let payload := (bytes.drop 8).take len
  let source := if kind = .claim then bits hdr 17 8 else slotOwner w
  let dest := s.destOf source s.net.round payload
  if !(whole && 12 ≤ n && n = 12 + len) then (1, 0)
  else if leAt bytes (n - 4) 4 ≠ (crc32c (bytes.take (n - 4))).toNat then (2, 0)
  else if bits hdr 7 4 ≠ 2 || 8 < type || bitOf hdr 31 || bits hdr 47 42 ≠ 0 || !reservedPayload type payload then (3, 0)
  else if !typeOk kind type len then (4, 0)
  else if kind ≠ .claim && bits hdr 17 8 ≠ slotOwner w then (5, 0)
  else if bitOf hdr 18 ≠ decide (32 ≤ port) || bits hdr 20 19 ≠ rxMode w || bits hdr 41 32 ≠ slot
      || bits hdr 63 48 ≠ s.net.round.toNat % 65536 then (6, 0)
  else if !lengthOk kind ((owner.map NodeDef.upLen).getD 0) len then (7, 0)
  else if len ≠ 0 && kind ≠ .diag && dest.isNone then (8, 0)
  else (0, dest.getD s.askiqId)

/-! ### After the checks -/

/-- A frame that passes in a node's uplink slot: membership, re-integration and the hub's measurement (R230–R232, R240). -/
def State.heardFrame (s : State) (n port : Nat) (hdr : Nat) : State :=
  let chY := decide (32 ≤ port)
  let integ := bitOf hdr 22
  let c := (s.node n).chan chY
  let joined := c.integrating && !integ
  let s1 := s.modNode n fun x => x.onChan chY fun c =>
    { c with member := true, seen := true, silent := 0, integrating := integ, nodeSafe := bitOf hdr 23, closed := c.closed && !integ
             admitInteg := c.admitInteg && !integ, hold := if integ then 0 else c.hold }
  let s2 := if c.closed && integ then s1.modPort port fun p => { p with closed := false } else s1
  if joined then s2.record 0x0204 (fields [(2, n), (1, b2n chY), (1, 0), (2, c.delay.getD 0xFFFF), (2, 0)]) else s2

/-- Two copies agree: every header field but CHANNEL, and every payload byte (R204). -/
def WaitCopy.agrees (a b : WaitCopy) : Bool :=
  (a.header &&& ~~~(0x40000 : BitVec 64)) = (b.header &&& ~~~(0x40000 : BitVec 64)) && a.payload = b.payload

def WaitCopy.frame (c : WaitCopy) : Frame := ⟨c.round, c.crc, c.payload.take (c.payload.length - 4)⟩

/-- A copy of a COMPARE pair has passed (R204, R205). Of two agreeing copies the X frame's CRC is kept. -/
def State.pairCopy (s : State) (n : Nat) (d : NodeDef) (c : WaitCopy) : State :=
  match (s.node n).waiting with
  | none => s.modNode n fun x => { x with waiting := some c }
  | some w =>
    if w.round ≠ c.round then s.modNode n fun x => { x with waiting := some c }
    else if w.chY = c.chY || w.both then s
    else if w.agrees c then
      let x := if w.chY then c else w
      let s1 := s.modNode n fun y => { y with waiting := some { w with both := true }, single := 0, agreed := true, agreeRun := y.agreeRun + 1 }
      if w.deposited || w.refused then s1 else s1.deposit n x.frame
    else
      let s1 := s.modNode n fun y => { y with waiting := some { w with both := true }, single := d.compareN }
      ({ s1 with net := { s1.net with counts := { s1.net.counts with cmpMismatch := satAdd 0xFFFF s1.net.counts.cmpMismatch 1 } } } : State).record
        0x0203 (fields [(2, n), (2, 0)])

/-- A DIAG frame that passes: the first copy of a FIRST pair replaces both channels' stored payload, a SPLIT copy its own channel's (R204). -/
def State.storeDiag (s : State) (n slot : Nat) (chY : Bool) (mode : Nat) (payload : List Byte) : State :=
  let r := s.net.round
  let put (c : NodeChan) : NodeChan := { c with diag := payload, diagRound := r }
  if mode = 2 then s.modNode n fun x => x.onChan chY put
  else if (s.node n).diagSlots.contains slot then s
  else s.modNode n fun x => { x with x := put x.x, y := put x.y, diagSlots := slot :: x.diagSlots }

/-- CLAIM_CONFLICT (R240, R242). -/
def State.recordConflict (s : State) (node dest report : Nat) : State :=
  s.record 0x0207 (fields [(2, node), (2, dest), (1, report), (3, 0)])

/-- A DATA frame that passes: claim conflicts, then the redundancy stage (R204, R240). -/
def State.dataFrame (s : State) (n port : Nat) (d : NodeDef) (dest : Nat) (bytes payload : List Byte) : State :=
  let report := byteAt payload (d.upLen - 5)
  let s1 := s.modNode n fun x => { x with claimByte := BitVec.ofNat 8 report, dest := dest, named := true }
  let s2 := if bitOf report 4 || bitOf report 5 || dest ≠ s.askiqId then s1.recordConflict n dest report else s1
  s2.pairCopy n d { round := s.net.round, chY := decide (32 ≤ port), header := BitVec.ofNat 64 (leAt bytes 0 8), payload := payload
                    crc := BitVec.ofNat 32 (leAt bytes (bytes.length - 4) 4), deposited := false, refused := false, both := false }

/-- What a passing frame does, by its slot (R203, R204, R225). -/
def State.useFrame (s : State) (port slot : Nat) (w : Word) (dest : Nat) (bytes : List Byte) (owner : Option (Nat × NodeDef)) : State :=
  let hdr := leAt bytes 0 8
  let len := bits hdr 30 24
  let payload := (bytes.drop 8).take len
  let conflict (s : State) (node : Nat) : State := if dest ≠ s.askiqId then s.recordConflict node dest 0 else s
  match s.rxKind port w, owner with
  | .vital, some (n, d) =>
    let s1 := s.heardFrame n port hdr
    if len = 0 then s1 else s1.dataFrame n port d dest bytes payload
  | .diag, some (n, _) =>
    let s1 := s.heardFrame n port hdr
    if len = 0 then s1 else s1.storeDiag n slot (decide (32 ≤ port)) (rxMode w) payload
  | .sync, some (n, _) =>
    let s1 := conflict s n
    if byteAt payload 0 = 0 then s1.modNode n fun x => { x with sync := true } else s1
  | .claim, _ =>
    let id := bits hdr 17 8
    let node := ((s.image.nodes.find? fun p => p.2.id = id).map Prod.fst).getD 0xFFFF
    (conflict s node).decideClaim port id (payload.take 8)
  | _, _ => s

/-- The bus engines' checks and what follows (R203, R241). A frame of a closed node that fails reopens nothing. -/
def State.busReceive (s : State) (port slot : Nat) (whole : Bool) (bytes : List Byte) : State :=
  let w := Tab.getD s.net.active (1000 * port + slot) 0
  let owner := if s.rxKind port w = .claim then none else s.slotNode port w
  let r := s.frameCheck port slot w whole bytes (owner.map Prod.snd)
  let c := s.net.counts
  match r.1 with
  | 0 => s.useFrame port slot w r.2 bytes owner
  | k =>
    let c' := if k ≤ 3 then { c with crcErr := satAdd 0xFFFF c.crcErr 1 }
      else if k = 8 then { c with safetyErr := satAdd 0xFFFF c.safetyErr 1 } else c
    ({ s with net := { s.net with counts := c' } } : State).recordDiscard (owner.map Prod.fst) port k

/-- The claim window of a port: slots c to c + 2 (R226). -/
def State.inClaimWindow (s : State) (port slot : Nat) : Bool := (s.slotC port).any fun c => c ≤ slot && slot ≤ c + 2

/-- The arrival offset of an admitted uplink frame, in units, as SYNC reports it (R224). -/
def arrivalOffset (sofNs : Nat) : Int := max (-127) (min 127 (Int.tdiv (2 * ((sofNs : Int) - 320)) 5))

/-- The reply to the PROBE of a port's claim window: frame CRC, NODE and SLOT check (R228). -/
def State.answersProbe (s : State) (port : Nat) (bytes : List Byte) : Bool :=
  let n := bytes.length
  let hdr := leAt bytes 0 8
  match (Tab.getD s.net.ports port .none).probing, s.slotC port with
  | some i, some c =>
    12 ≤ n && leAt bytes (n - 4) 4 = (crc32c (bytes.take (n - 4))).toNat && bits hdr 17 8 = s.nodeId i && bits hdr 41 32 = c
  | _, _ => false

/-- The receive pair of a slot is closed to a frame of its owner: by the schedule, by the port, or by the closure of the node's access, which after
its hold lets a frame with INTEGRATE set into the node's uplink slots (R196, R200, R232, R348). -/
def State.pairClosed (s : State) (port : Nat) (kind : RxKind) (owner : Option Nat) (integ : Bool) : Bool :=
  let p := Tab.getD s.net.ports port .none
  let c := ((owner.map s.node).getD .none).chan (32 ≤ port)
  kind = .closed || p.outOfService
    || ((p.closed || c.closed) && !(owner.isSome && c.admitInteg && integ && (kind = .vital || kind = .diag)))

/-- The hub admits a frame (R196, R199, R200, R226, R232) and, in duplex, passes it to the partner (R202). Of a window with a PROBE nothing passes:
what is not the reply counts as UNSCHEDULED for the port (R226, R228). -/
def State.hubReceive (s : State) (port slot sofNs endNs : Nat) (codeError : Bool) (bytes : List Byte) : State :=
  let w := Tab.getD s.net.active (1000 * port + slot) 0
  let kind := s.rxKind port w
  let window := s.inClaimWindow port slot
  let owner := (s.slotNode port w).map Prod.fst
  let blamed := if window then none else (if kind = .closed then none else owner).or (s.directNode port)
  let chY := decide (32 ≤ port)
  let inTime := decide (70 ≤ sofNs ∧ sofNs ≤ 570)
  if window && (Tab.getD s.net.ports port .none).probedSlotC then
    if s.answersProbe port bytes then s else s.countEdge none port 10
  else if !inTime then s.countEdge blamed port 9
  else if s.pairClosed port kind owner (bitOf (leAt bytes 0 8) 22) then s.countEdge blamed port 10
  else
    let whole := !codeError && endNs ≤ 9500
    let s1 : State := match owner with
      | some n =>
        if kind = .vital || kind = .diag then s.modNode n fun x => x.onChan chY fun c => { c with offset := some (arrivalOffset sofNs) } else s
      | none => s
    let s2 := if s1.mod.pos ≠ 0 then s1.sendPartner 4 (fields [(1, port), (2, slot), (1, b2n whole)] ++ bytes) else s1
    s2.busReceive port slot whole bytes

/-- A frame that passes checks 1 and 2 ends the silence that an abandoned module waits for (R223). -/
def State.breakSilence (s : State) (bytes : List Byte) (whole : Bool) : State :=
  let n := bytes.length
  let ok := whole && 12 ≤ n && n = 12 + bits (leAt bytes 0 8) 30 24 && leAt bytes (n - 4) 4 = (crc32c (bytes.take (n - 4))).toNat
  match s.net.phase with
  | .abandoned _ => if ok then { s with net := { s.net with phase := .abandoned 0 } } else s
  | _ => s

/-- An Askiq frame arrives at a port: `sofNs` and `endNs` from the slot start, the bytes of header, payload and frame CRC. `behind` names the
lanes whose own T₀ comes before their bus engine's deposit (R42). -/
def frameReceivedOp (port slot sofNs endNs : Nat) (codeError : Bool) (behind : LaneSet) (bytes : List Byte) (s : State) : State :=
  let served := if port < 32 then s.net.servesX else s.net.servesY
  if s.mod.mode.cycles && served && slot < 1000 then
    if s.net.running then
      let t := ({ s with acc := { s.acc with behind := behind } } : State).hubReceive port slot sofNs endNs codeError bytes
      { t with acc := { t.acc with behind := LaneSet.none } }
    else s.breakSilence bytes (!codeError && endNs ≤ 9500)
  else s

def execFrameReceived (port : Port) (slot : Nat) (sofNs endNs : Nat) (note : FrameNote) (bytes : List Byte) (s : State) :
    Host.Outcome State Fault Refusal :=
  .next (frameReceivedOp port.val slot sofNs endNs note.codeError note.behind bytes s)

/-- A CLAIM frame arrives in slot c + 1 of a round whose slot c carried no PROBE (R227, R234, R235); in duplex the hub passes it to the partner,
whose lead decides it (R202, R235). -/
def claimReceivedOp (port : Nat) (bytes : List Byte) (s : State) : State :=
  let p := Tab.getD s.net.ports port .none
  if s.mod.mode.cycles && s.net.running && s.serves port && !p.probedSlotC then
    match s.slotC port with
    | some c =>
      if p.closed then s.countEdge none port 10
      else
        let s1 := if s.mod.pos ≠ 0 then s.sendPartner 4 (fields [(1, port), (2, c + 1), (1, 1)] ++ bytes) else s
        s1.busReceive port (c + 1) true bytes
    | none => s
  else s

def execClaimReceived (port : Port) (bytes : List Byte) (s : State) : Host.Outcome State Fault Refusal :=
  .next (claimReceivedOp port.val bytes s)

/-! ### Deadlines of a node -/

/-- Four rounds after the closure the hub starts to let in frames with INTEGRATE set (R232). -/
def closureHoldEndOp (n : Nat) (ch : NetChan) (s : State) : State :=
  let chY := decide (ch = .y)
  let c := (s.node n).chan chY
  if c.closed && 4 ≤ c.hold then s.modNode n fun x => x.onChan chY fun c => { c with admitInteg := true } else s

def execAccessClosureHoldEnd (node : Fin 512) (ch : NetChan) (s : State) : Host.Outcome State Fault Refusal :=
  .next (closureHoldEndOp node.val ch s)

/-- 200 µs after the slot start: a single copy is deposited while the count is below COMPARE_N, or without limit while the other
channel is declared lost; otherwise it is refused (R205, R206). -/
def pairingDeadlineOp (n : Nat) (s : State) : State :=
  match (s.node n).waiting, Tab.get? s.image.nodes n with
  | some w, some d =>
    if w.both || w.deposited || w.refused then s
    else
      let x := s.node n
      let lost := if w.chY then x.declX else x.declY
      let c := s.net.counts
      if lost then (s.modNode n fun x => { x with waiting := some { w with deposited := true } }).deposit n w.frame
      else if x.single < d.compareN then
        let s1 := s.modNode n fun x => { x with waiting := some { w with deposited := true }, single := x.single + 1 }
        ({ s1 with net := { s1.net with counts := { c with accepted := satAdd 0xFFFF c.accepted 1 } } } : State).deposit n w.frame
      else
        let s1 := s.modNode n fun x => { x with waiting := some { w with refused := true } }
        { s1 with net := { s1.net with counts := { c with refused := satAdd 0xFFFF c.refused 1 } } }
  | _, _ => s

def execPairingDeadline (node : Fin 512) (s : State) : Host.Outcome State Fault Refusal := .next (pairingDeadlineOp node.val s)

/-- Three rounds without a passing frame: no member any more (R230). -/
def membershipLostOp (n : Nat) (ch : NetChan) (s : State) : State :=
  let chY := decide (ch = .y)
  let c := (s.node n).chan chY
  if c.member && 3 ≤ c.silent then
    (s.modNode n fun x => x.onChan chY fun c => { c with member := false }).record 0x0205 (fields [(2, n), (1, b2n chY), (1, 0)])
  else s

def execMembershipLost (node : Fin 512) (ch : NetChan) (s : State) : Host.Outcome State Fault Refusal :=
  .next (membershipLostOp node.val ch s)

/-- What declares a channel lost for a node has ended: access open, port in service and, for the partner's channel, the link up
(R206). -/
def State.channelBack (s : State) (n : Nat) (chY : Bool) : Bool :=
  let c := (s.node n).chan chY
  !c.closed && !c.lostPort && ((if chY then s.net.servesY else s.net.servesX) || s.plink.up)

/-- Both copies have agreed in 16 consecutive rounds (R206). -/
def channelLossEndOp (n : Nat) (ch : NetChan) (s : State) : State :=
  let chY := decide (ch = .y)
  if 16 ≤ (s.node n).agreeRun && s.channelBack n chY then
    s.modNode n fun x => if chY then { x with declY := false } else { x with declX := false }
  else s

def execChannelLossEnd (node : Fin 512) (ch : NetChan) (s : State) : Host.Outcome State Fault Refusal :=
  .next (channelLossEndOp node.val ch s)

end Sys2Proof.Machine
end

