-- ==== Sys2Proof/Machine/Channels.lean ====
section
/-!
DEFINITION. Field channels: comparator samples with debounce and edge counts (R249, R252), dynamic frames, pairs and group supplies
(R243, R249–R251), diagnostic events (R253, R496), switch and voter tests (R261–R265), refresh limits and reports (R257, R258),
protection (R259, R530), the VRD (R268) and forced outputs (R350).
-/

namespace Sys2Proof.Machine

/-! ### Samples -/

/-- One channel of one lane at one sample: the level that counts, the debounced state and, in COUNT mode, an edge (R249, R252). -/
def ChSense.sample (c : ChSense) (d : ChDef) (level inWindow : Bool) : ChSense :=
  let x := if d.mode = .input && d.dynamic && inWindow then c.held else level
  let n := d.debounce
  let deb : Bool × Nat := if n = 0 then (x, 0) else if x = c.state then (c.state, 0) else if n ≤ c.run + 1 then (x, 0) else (c.state, c.run + 1)
  let turned := x ≠ c.edgeLevel && n ≤ c.edgeRun + 1
  { c with
    level := level, held := if inWindow then c.held else level, state := deb.1, run := deb.2
    edges := if d.mode = .count && turned && x then c.edges + 1 else c.edges
    edgeLevel := if turned then x else c.edgeLevel, edgeRun := if turned || x = c.edgeLevel then 0 else c.edgeRun + 1 }

/-- Time since the pulse start of a channel, in 0.5 µs, at a network time in 0.5 µs: pulses begin nn × 312.5 µs into each dynamic frame
of 20 ms (R248). -/
def sincePulse (halfUs ch : Nat) : Nat := (halfUs % 40000 + 40000 - 625 * ch) % 40000

/-- The own window of a channel lasts from its pulse start to 280 µs after it (R248). -/
def inOwnWindow (halfUs ch : Nat) : Bool := sincePulse halfUs ch < 560

/-- The pulse of a dynamic source, of the typical 250 µs of t_DYN (R247, R248; log entry 152). -/
def sourceLow (halfUs ch : Nat) : Bool := sincePulse halfUs ch < 500

/-- A sample of every INPUT and COUNT channel in every lane that has an I/O engine running, at the network time `halfUs` in 0.5 µs, counted
from the second of the lanes' round strobes (R248, R249). -/
def comparatorSampleOp (levels : PerLane (BitVec 64)) (halfUs : Nat) (s : State) : State :=
  let due := s.image.chans.filter fun p => p.2.mode = .input || p.2.mode = .count
  let low (v : BitVec 64) (p : Nat × ChDef) : BitVec 64 := if p.2.dynamic && sourceLow halfUs p.1 then v ||| 1 <<< p.1 else v
  let lane (l : Lane) (x : FchLane) : FchLane :=
    if s.mod.mode.lanesRun && s.laneSt l ≠ .hold && s.laneSt l ≠ .failed then
      { x with chans := due.foldl (fun t p => Tab.upd t p.1 .zero fun c =>
        c.sample p.2 ((levels.get l).getLsbD p.1) (inOwnWindow halfUs p.1)) x.chans }
    else x
  { s with fch := { s.fch with lanes := s.fch.lanes.mapL lane, srcLow := if s.mod.mode.lanesRun then due.foldl low 0 else 0 } }

def execComparatorSample (levels : PerLane (BitVec 64)) (halfUs : Nat) (s : State) : Host.Outcome State Fault Refusal :=
  .next (comparatorSampleOp levels halfUs s)

/-- A diagnostic change crosses from the I/O island; in the acknowledge phase of the previous event it merges (R253, R496). -/
def diagnosticEventOp (l : Lane) (ch : Option Nat) (inAck : Bool) (s : State) : State :=
  if !s.mod.mode.lanesRun || s.laneSt l = .failed then s
  else if inAck || (s.lane l).clk.ackPhase.getLsbD 2 && (s.lane l).clk.static = 0 then
    let s1 := s.modClk l fun c => { c with merged := c.merged ||| 4, ackPhase := if inAck then c.ackPhase ||| 4 else c.ackPhase }
    let s2 : State := { s1 with fch := { s1.fch with lanes := s1.fch.lanes.modify l fun x => { x with merged := true } } }
    s2.recordLane l 0x0306 (fields [(1, l.id), (1, ch.getD 0xFF), (2, 0)])
  else s

def execDiagnosticEvent (lane : Lane) (ch : Option Chan) (inAck : Bool) (s : State) : Host.Outcome State Fault Refusal :=
  .next (diagnosticEventOp lane (ch.map Fin.val) inAck s)

/-! ### Faults of inputs -/

/-- A fault bit of one lane rises or falls: CHANNEL_FAULT with the lanes that have it, CHANNEL_FAULT_CLEARED when none is left. -/
def State.noteFault (s before : State) (ch bit : Nat) (p : ChSense → Bool) : State :=
  let now := s.lanesSensing ch p
  let was := before.lanesSensing ch p
  if LaneSet.count (LaneSet.diff now was) ≠ 0 then s.recordFault ch bit now 0
  else if LaneSet.count was ≠ 0 && LaneSet.count now = 0 then s.recordCleared ch bit
  else s

/-- Two frames with a finding set a fault, two without clear it (R250): the flag and the two counts. -/
def framesOf (found fault : Bool) (w wo : Nat) : Bool × Nat × Nat :=
  let w' := if found then w + 1 else 0
  let wo' := if found then 0 else wo + 1
  (if 2 ≤ w' then true else if 2 ≤ wo' then false else fault, min 2 w', min 2 wo')

/-- One channel at the end of a dynamic frame. -/
def ChSense.dynFrame (c : ChSense) (dyn high low : Bool) : ChSense :=
  let t := framesOf (dyn && high) c.testFail c.tfWith c.tfWithout
  let x := framesOf (c.state && low) c.cross c.crWith c.crWithout
  { c with testFail := t.1, tfWith := t.2.1, tfWithout := t.2.2, cross := x.1, crWith := x.2.1, crWithout := x.2.2 }

/-- A dynamic frame of 20 ms ends in a lane: channels with a high sample in their own window, and channels with a low run at another
channel's pulse (R250). -/
def dynamicFrameOp (l : Lane) (high low : List Nat) (s : State) : State :=
  if s.mod.mode.lanesRun && s.laneSt l ≠ .hold && s.laneSt l ≠ .failed then
    s.each (s.image.chans.filter fun p => p.2.mode = .input) fun s p =>
      let t := s.modSense l p.1 fun c => c.dynFrame p.2.dynamic (high.contains p.1) (low.contains p.1)
      (t.noteFault s p.1 6 ChSense.testFail).noteFault s p.1 7 ChSense.cross
  else s

def execDynamicFrame (lane : Lane) (highInWindow crossLow : List Chan) (s : State) : Host.Outcome State Fault Refusal :=
  .next (dynamicFrameOp lane (highInWindow.map Fin.val) (crossLow.map Fin.val) s)

/-- A lane's combination of a pair is valid. -/
def State.pairValid (s : State) (l : Lane) (pair : Nat) : Option Bool :=
  (s.pairOf (2 * pair)).map fun p => p.1.valid (s.chSense l p.2.1).state (s.chSense l p.2.2).state

/-- DISCREPANCY of both channels of a pair in a lane. -/
def State.setDiscrepancy (s : State) (l : Lane) (pair : Nat) (v : Bool) : State :=
  let t := (s.modSense l (2 * pair) fun c => { c with discrepancy := v }).modSense l (2 * pair + 1) fun c => { c with discrepancy := v }
  (t.noteFault s (2 * pair) 8 ChSense.discrepancy).noteFault s (2 * pair + 1) 8 ChSense.discrepancy

/-- An invalid combination has lasted the discrepancy time (R249). -/
def discrepancyExpiredOp (l : Lane) (pair : Nat) (s : State) : State :=
  if s.mod.mode.lanesRun && s.pairValid l pair = some false then s.setDiscrepancy l pair true else s

def execDiscrepancyTimeExpired (lane : Lane) (pair : Fin 32) (s : State) : Host.Outcome State Fault Refusal :=
  .next (discrepancyExpiredOp lane pair.val s)

/-- A valid combination has held for 20 ms (R249). -/
def discrepancyClearedOp (l : Lane) (pair : Nat) (s : State) : State :=
  if s.mod.mode.lanesRun && s.pairValid l pair = some true then s.setDiscrepancy l pair false else s

def execDiscrepancyCleared (lane : Lane) (pair : Fin 32) (s : State) : Host.Outcome State Fault Refusal :=
  .next (discrepancyClearedOp lane pair.val s)

/-- What a lane's sense path judges of a group's supply; `vfld` in 10 mV units (R243, R275). -/
def State.setSupply (s : State) (l : Lane) (g vfld : Nat) (lost : Bool) : State :=
  let x := s.fch.lanes.get l
  let bit : Byte := 1 <<< g
  let s1 : State := { s with fch := { s.fch with lanes := s.fch.lanes.modify l fun x =>
    { x with groupLost := if lost then x.groupLost ||| bit else x.groupLost &&& ~~~bit } } }
  s1.recordLane l 0x0303 (fields [(1, g), (1, b2n (!lost)), (2, 0), (2, vfld), (2, Tab.getD x.groupMa g 0)])

/-- VFLD of a group falls below 15.0 V (R243). -/
def vfldLostOp (l : Lane) (g vfld : Nat) (s : State) : State :=
  if s.mod.mode.lanesRun && s.laneSt l ≠ .failed && vfld < 1500 && !(s.fch.lanes.get l).groupLost.getLsbD g then s.setSupply l g vfld true
  else s

def execVfldLost (lane : Lane) (g : Group) (vfld : Nat) (s : State) : Host.Outcome State Fault Refusal :=
  .next (vfldLostOp lane g.val vfld s)

/-- VFLD of a group rises above 16.0 V (R243). -/
def vfldRestoredOp (l : Lane) (g vfld : Nat) (s : State) : State :=
  if s.mod.mode.lanesRun && s.laneSt l ≠ .failed && 1600 < vfld && (s.fch.lanes.get l).groupLost.getLsbD g then s.setSupply l g vfld false
  else s

def execVfldRestored (lane : Lane) (g : Group) (vfld : Nat) (s : State) : Host.Outcome State Fault Refusal :=
  .next (vfldRestoredOp lane g.val vfld s)

/-! ### Switch tests -/

/-- The voter of one switch. -/
def ChOut.voter (o : ChOut) (high : Bool) : VoterSt := if high then o.hs else o.ls

def ChOut.onVoter (o : ChOut) (high : Bool) (f : VoterSt → VoterSt) : ChOut := if high then { o with hs := f o.hs } else { o with ls := f o.ls }

/-- TEST_PERIOD in force: the channel table's, or what IO_TEST_CONFIG has set (R262, R350). -/
def State.testPeriod (s : State) (ch : Nat) : Nat :=
  (Tab.get? s.fch.testPeriods ch).getD (((Tab.get? s.image.chans ch).map ChDef.testPeriod).getD 0)

/-- A switch test is due in this cycle (R262). -/
def State.testDue (s : State) (ch : Nat) (high : Bool) : Bool :=
  let p := 10 * s.testPeriod ch
  s.isOutput ch && p ≠ 0 && s.mod.cycle.toNat % p = (if high then ch else ch + p / 2) % p

/-- The majority of a channel's live votes is ON: the state applied at the preceding T₄. -/
def ChOut.energised (o : ChOut) : Bool :=
  2 ≤ LaneSet.count (LaneSet.inter o.hs.live o.hs.vote) && 2 ≤ LaneSet.count (LaneSet.inter o.ls.live o.ls.vote)

/-- A lane's last readback shows the other switch open (R262). -/
def State.otherOpen (s : State) (l : Lane) (ch : Nat) (high : Bool) : Bool :=
  let c := s.chSense l ch
  if high then 80 ≤ c.vl else 50 * c.vh + 4000 ≤ 10 * Tab.getD (s.fch.lanes.get l).vfld (ch / 8) 0

/-- A channel on which no test is sent: FAILED, OVERLOAD, or an opening of R259 that is latched (R262). -/
def State.testBarred (s : State) (ch : Nat) (o : ChOut) : Bool :=
  o.hs.failed || o.ls.failed || o.overload || o.latched || (o.grpOpen && s.fch.groupLatched.getLsbD (ch / 8))

/-- The test vote that a lane sends: OFF where the applied state and its readback show the channel energised; else ON, if its readback
shows the other switch open (R262, R263). -/
def State.testVote (s : State) (l : Lane) (ch : Nat) (high : Bool) (o : ChOut) : Option Bool :=
  let c := s.chSense l ch
  if o.energised && c.hsClosed && c.lsClosed then some false else if s.otherOpen l ch high then some true else none

/-- T₆ + 550 µs: the live lanes whose test votes arrive in time; two identical ones make the voter apply the test (R261–R263). -/
def switchTestOp (ch : Nat) (high : Bool) (senders : LaneSet) (s : State) : State :=
  match Tab.get? s.fch.outs ch with
  | none => s
  | some o =>
    if s.mod.mode.cycles && s.acc.tick = 6 && s.testDue ch high && !s.testBarred ch o then
      let live := LaneSet.inter (LaneSet.inter senders s.votingLanes) (o.voter high).live
      let sends (on : Bool) : Bool := 2 ≤ LaneSet.count (live.mapL fun l b => b && s.testVote l ch high o = some on)
      let run (on : Bool) : State :=
        s.modOut ch fun o => { o.onVoter high fun v => { v with test := some on } with testRun := some (high, on), failVotes := LaneSet.none }
      if sends false then run false else if sends true then run true else s
    else s

def execSwitchTest (ch : Chan) (highSide : Bool) (senders : LaneSet) (s : State) : Host.Outcome State Fault Refusal :=
  .next (switchTestOp ch.val highSide senders s)

/-- A live lane reads more than 5 mA during an ON-test: the voter reverts at once and the test fails (R261, R262). -/
def testAbortOp (l : Lane) (ch : Nat) (high : Bool) (s : State) : State :=
  match Tab.get? s.fch.outs ch with
  | some o =>
    if o.testRun = some (high, true) && (o.voter high).test = some true && (o.voter high).live.get l then
      s.modOut ch fun o => { o.onVoter high fun v => { v with test := none } with failVotes := o.failVotes.set l true }
    else s
  | none => s

def execOnTestAbort (lane : Lane) (ch : Chan) (highSide : Bool) (s : State) : Host.Outcome State Fault Refusal :=
  .next (testAbortOp lane ch.val highSide s)

/-- The PULSE ends: the voter reverts by itself (R261). -/
def testRevertOp (ch : Nat) (high : Bool) (s : State) : State :=
  if (Tab.get? s.fch.outs ch).isSome then s.modOut ch fun o => o.onVoter high fun v => { v with test := none } else s

def execTestRevert (ch : Chan) (highSide : Bool) (s : State) : Host.Outcome State Fault Refusal := .next (testRevertOp ch.val highSide s)

/-- The pass condition of a switch test, with the group's supply as the lane measures it (R262); voltages in mV. -/
def testPasses (r : TestReading) (high on : Bool) (vfld : Nat) : Bool :=
  match high, on with
  | true, false => 50 * r.vh < 4000
  | false, false => vfld < 50 * r.vl + 4000
  | true, true => vfld < 50 * r.vh + 2000
  | false, true => 50 * r.vl < 2000

/-- The lanes send pass or fail by what they read (R262–R264); a lane that sent ABORT has failed the test. -/
def testResultOp (ch : Nat) (high : Bool) (readings : PerLane TestReading) (s : State) : State :=
  match Tab.get? s.fch.outs ch with
  | none => s
  | some o =>
    match o.testRun with
    | some (h, on) =>
      if h = high && (o.voter high).test.isNone then
        let fails := readings.mapL fun l r => !testPasses r high on (10 * Tab.getD (s.fch.lanes.get l).vfld (ch / 8) 0)
        let bad := LaneSet.inter (LaneSet.union fails o.failVotes) o.hs.live
        let note (l : Lane) (x : FchLane) : FchLane :=
          { x with lastCh := ch, lastLow := !high, lastOn := on, lastPass := !bad.get l
                   chans := Tab.upd x.chans ch .zero fun c => { c with swFail := bad.get l } }
        let s1 := s.modOut ch fun o => { o with testRun := none, failVotes := LaneSet.none }
        let s2 : State := { s1 with fch := { s1.fch with lanes := s1.fch.lanes.mapL note } }
        let sw := if high then 1 else 2
        let rose := LaneSet.diff bad (s.lanesSensing ch ChSense.swFail)
        let s3 := if LaneSet.count rose ≠ 0 then s2.recordFault ch 6 bad sw
          else if LaneSet.count bad = 0 && LaneSet.count (s.lanesSensing ch ChSense.swFail) ≠ 0 then s2.recordCleared ch 6 else s2
        (s3.oddVerdict ch (bad.map b2n)).failSignals ch bad sw
      else s
    | none => s

def execTestResult (ch : Chan) (highSide : Bool) (readings : PerLane TestReading) (s : State) : Host.Outcome State Fault Refusal :=
  .next (testResultOp ch.val highSide readings s)

/-- T₇ + 550 µs: the voter of this cycle is tested by the tester of this cycle (R265). -/
def voterTestOp (unchanged reported : Bool) (s : State) : State :=
  if s.mod.mode.cycles && s.acc.tick = 7 && LaneSet.count s.votingLanes = 3 then
    let c := s.mod.cycle.toNat
    let v := c % 128
    let tester := c / 128 % 3
    let ch := v % 64
    let pass := unchanged && reported
    let s1 : State := { s with fch := { s.fch with voterIndex := v, voterPass := pass, voterLane := tester } }
    let l : Lane := if tester = 0 then .a else if tester = 1 then .b else .c
    let s2 := if reported then s1.markMinority ch l else s1
    if pass then s2
    else
      let s3 := s2.mapSense ch fun c => { c with voterFail := true }
      (s3.recordFault ch 10 s.votingLanes (if v < 64 then 1 else 2)).failSignals ch s.votingLanes (if v < 64 then 1 else 2)
  else s

def execVoterTest (unchanged reported : Bool) (s : State) : Host.Outcome State Fault Refusal := .next (voterTestOp unchanged reported s)

/-! ### Votes -/

/-- A lane's vote at a channel's voters is older than SILENT_TIMEOUT: it stops counting (R257). -/
def silentTimeoutOp (l : Lane) (ch : Nat) (s : State) : State :=
  if (Tab.get? s.fch.outs ch).isSome then
    let drop (v : VoterSt) : VoterSt := { v with live := v.live.set l false }
    s.modOut ch fun o => { o with hs := drop o.hs, ls := drop o.ls }
  else s

def execSilentTimeout (lane : Lane) (ch : Chan) (s : State) : Host.Outcome State Fault Refusal := .next (silentTimeoutOp lane ch.val s)

/-- A lane's withdraw line: every voter stops counting its vote within 1 µs (R257). -/
def voteWithdrawOp (l : Lane) (s : State) : State := if s.mod.mode.lanesRun then s.withdraw l else s

def execVoteWithdraw (lane : Lane) (s : State) : Host.Outcome State Fault Refusal := .next (voteWithdrawOp lane s)

/-- A MINORITY report stops being pending 100 cycles after that of its refresh (R258). -/
def minorityExpiredOp (l : Lane) (ch : Nat) (s : State) : State :=
  let c := s.mod.cycle.toNat
  { s with fch := { s.fch with reports := s.fch.reports.filter fun r => !(r.2.1 = l && r.2.2 = ch && r.1 + 100 ≤ c) } }

def execMinorityReportExpired (lane : Lane) (ch : Chan) (s : State) : Host.Outcome State Fault Refusal :=
  .next (minorityExpiredOp lane ch.val s)

/-! ### Protection (R259) -/

/-- Openings within the last 60 s, this one included. -/
def openings (now : Nat) (l : List Nat) : List Nat := now :: l.filter fun t => now < t + 60000

/-- The switches of an OUTPUT channel are opened by its voters; the third opening within 60 s latches it open. -/
def State.overloadChannel (s : State) (ch : Nat) : State :=
  match Tab.get? s.fch.outs ch with
  | none => s
  | some o =>
    if o.opened || !s.isOutput ch then s
    else
      let opens := openings s.rcd.opTime o.opens
      (s.modOut ch fun o => { o with overload := true, opened := true, opens := opens, latched := o.latched || 3 ≤ opens.length }).recordFault
        ch 5 s.votingLanes 0

/-- A channel has been at its current limit for 5 ms. -/
def channelOverloadOp (ch : Nat) (s : State) : State := if s.mod.mode.lanesRun then s.overloadChannel ch else s

def execChannelOverload (ch : Chan) (s : State) : Host.Outcome State Fault Refusal := .next (channelOverloadOp ch.val s)

/-- A field switch opens on overtemperature: handled as OVERLOAD (chapter 18). -/
def switchOvertemperatureOp (ch : Nat) (s : State) : State := if s.mod.mode.lanesRun then s.overloadChannel ch else s

def execSwitchOvertemperature (ch : Chan) (s : State) : Host.Outcome State Fault Refusal := .next (switchOvertemperatureOp ch.val s)

/-- All outputs of a group open; the third opening within 60 s latches it (R259, R275). -/
def State.openGroup (s : State) (g ma cause : Nat) : State :=
  let opens := openings s.rcd.opTime (Tab.getD s.fch.groupOpens g [])
  let latch := 3 ≤ opens.length
  let bit : Byte := 1 <<< g
  let s1 : State := { s with fch := { s.fch with
    groupOver := s.fch.groupOver ||| bit, groupOpens := Tab.put s.fch.groupOpens g opens
    groupLatched := if latch then s.fch.groupLatched ||| bit else s.fch.groupLatched } }
  let s2 := s1.mapOuts fun ch o => if ch / 8 = g then { o with grpOpen := true } else o
  let vfld := ((LaneSet.first s.votingLanes).map fun l => Tab.getD (s.fch.lanes.get l).vfld g 0).getD 0
  let rec_ (t : State) (c : Nat) := t.record 0x0303 (fields [(1, g), (1, c), (2, 0), (2, vfld), (2, sat16 ma)])
  let s3 := rec_ s2 cause
  if latch then rec_ s3 4 else s3

/-- A group's current exceeds 4.4 A for 100 ms. -/
def groupOverloadOp (g ma : Nat) (s : State) : State :=
  if s.mod.mode.lanesRun && 4400 < ma && !s.fch.groupOver.getLsbD g then s.openGroup g ma 2 else s

def execGroupOverload (g : Group) (ma : Nat) (s : State) : Host.Outcome State Fault Refusal := .next (groupOverloadOp g.val ma s)

/-- Groups are opened from the highest one that carries current until the total is 16 A or less. -/
def State.shed (s : State) (ma : List Nat) : Nat → State
  | 0 => s
  | n + 1 =>
    let total := ma.foldl (· + ·) 0
    if total ≤ 16000 then s
    else if 0 < ma.getD n 0 then (s.openGroup n (ma.getD n 0) 3).shed (ma.set n 0) n
    else s.shed ma n

/-- The module's total exceeds 17.6 A for 100 ms. -/
def moduleOverloadOp (groupMa : List Nat) (s : State) : State :=
  let ma := groupMa.take 8
  let total := ma.foldl (· + ·) 0
  if s.mod.mode.lanesRun && 17600 < total then
    ({ s with fch := { s.fch with moduleOver := true, moduleMa := total } } : State).shed ma 8
  else s

def execModuleOverload (groupMa : List Nat) (s : State) : Host.Outcome State Fault Refusal := .next (moduleOverloadOp groupMa s)

/-- After 1 s an opened channel or group whose votes are still ON is enabled again, unless it is latched. -/
def reenableOp (u : OverloadUnit) (s : State) : State :=
  match u with
  | .channel ch =>
    match Tab.get? s.fch.outs ch.val with
    | some o =>
      if o.opened && !o.latched && o.energised then (s.modOut ch.val fun o => { o with overload := false, opened := false }).recordCleared ch.val 5
      else s
    | none => s
  | .group g =>
    let on := s.fch.outs.any fun p => p.1 / 8 = g.val && p.2.energised
    if s.fch.groupOver.getLsbD g.val && !s.fch.groupLatched.getLsbD g.val && on then
      let left := s.fch.groupOver &&& ~~~((1 : Byte) <<< g.val)
      let s1 := s.mapOuts fun ch o => if ch / 8 = g.val then { o with grpOpen := false } else o
      { s1 with fch := { s1.fch with groupOver := left, moduleOver := s1.fch.moduleOver && left ≠ 0 } }
    else s

def execOverloadReenable (unit : OverloadUnit) (s : State) : Host.Outcome State Fault Refusal := .next (reenableOp unit s)

/-! ### Vital relay drive (R268) -/

/-- Two tokens of different lanes lie within 20 µs of each other. -/
def tokensMeet (l : List (Lane × Bool × Nat)) : Bool :=
  l.any fun x => l.any fun y => x.1 ≠ y.1 && x.2.2 ≤ y.2.2 + 20 && y.2.2 ≤ x.2.2 + 20

/-- A lane that may send tokens: in the voting set where cycles run, and in the start-up check (R268, R271). -/
def State.sendsTokens (s : State) (l : Lane) : Bool :=
  (s.mod.mode.cycles && s.laneSt l = .voting) || (s.mod.mode = .selftest && s.laneSt l ≠ .failed)

/-- A lane's token; `offsetUs` counts from 30 µs before the half-period's nominal instant. The second of two lanes in time
flips VRD. -/
def vrdTokenOp (l : Lane) (parity : Bool) (offsetUs : Nat) (s : State) : State :=
  if s.sendsTokens l && s.fch.vrdParity.get l ≠ some parity then
    let f := s.fch
    let had := if f.vrdTokens.any fun t => t.2.1 ≠ parity then [] else f.vrdTokens
    let now := had ++ [(l, parity, offsetUs)]
    let carried := tokensMeet now
    let flip := carried && !tokensMeet had
    let lanes : LaneSet := now.foldl (fun z t => z.set t.1 true) LaneSet.none
    let s1 : State := { s with fch := { f with
      vrdParity := f.vrdParity.set l (some parity), vrdTokens := now, vrdLevel := f.vrdLevel != flip
      vrdRunning := f.vrdRunning || flip, vrdCarried := if carried then lanes else f.vrdCarried } }
    if flip && !f.vrdRunning then s1.record 0x0305 (fields [(1, 0), (1, LaneSet.bits lanes), (2, 0)]) else s1
  else s

def execVrdToken (lane : Lane) (parity : Bool) (offsetUs : Nat) (s : State) : Host.Outcome State Fault Refusal :=
  .next (vrdTokenOp lane parity offsetUs s)

/-- Fewer than two tokens 30 µs after the nominal instant: VRD goes to its stopped level and stays there (R268). -/
def vrdTimeoutOp (s : State) : State :=
  let one := s.fch.vrdTokens.length < 2
  let lanes := if one then s.fch.vrdTokens.foldl (fun z t => z.set t.1 true) LaneSet.none else LaneSet.none
  let ran := s.fch.vrdRunning
  let s1 : State := { s with fch := { s.fch with vrdRunning := false, vrdLevel := false, vrdTokens := [], vrdCarried := lanes } }
  if ran then s1.record 0x0305 (fields [(1, 1), (1, LaneSet.bits lanes), (2, 0)]) else s1

def execVrdTokenTimeout (s : State) : Host.Outcome State Fault Refusal := .next (vrdTimeoutOp s)

/-! ### Forced outputs (R350) -/

/-- A forced channel's DURATION has run out: its own source drives it again. -/
def ioForceEndOp (ch : Nat) (s : State) : State :=
  if (Tab.get? s.fch.forced ch).any fun f => f.left = 0 then s.endForce ch 1 else s

def execIoForceEnd (ch : Chan) (s : State) : Host.Outcome State Fault Refusal := .next (ioForceEndOp ch.val s)

end Sys2Proof.Machine
end

