-- ==== Sys2Proof/Machine/Queries.lean ====
section
/-!
DEFINITION. Commands of status and maintenance: queries, subscriptions and snapshots (R330, R333–R336), time (R342), sessions
(R313–R317, R343), MODE_REQUEST (R20, R21, R344), fuse operations (R345), register reads (R346) and performance counters (R347).
-/

namespace Sys2Proof.Machine

/-- A record by the lanes, or by the housekeeper where it serves alone or no lane replies. -/
def State.hostRecord (s : State) (type : Nat) (payload : List Byte) : State :=
  if s.mod.mode.hkAnswers || LaneSet.count s.replyingLanes = 0 then s.recordHk type payload else s.record type payload

/-- The time that a rule takes for a command: the accorded cycle network time, or its stamp outside cycles (R538). -/
def State.nowFor (s : State) (h : CmdHdr) : Nat := if s.mod.mode.cycles then s.acc.accorded.time else h.stamp

/-- The cycle number that a rule takes for a command: 0 outside cycles (R538). -/
def State.cycleFor (s : State) : Word := if s.mod.mode.cycles then s.mod.cycle else 0

/-! ### Queries -/

/-- The vector that R330 names for the mode: the resolved one; in INTEGRATE with cycle number 0; the restart state where nothing
has run. -/
def State.queryVector (s : State) : Option Verdict :=
  let passed := LaneSet.count s.img.passed ≠ 0
  let fresh := if passed then some s.restartVector else none
  match s.mod.mode with
  | .operate => some s.ixl.resolved
  | .integrate => some { s.ixl.resolved with cycle := 0 }
  | .safe => if s.ixl.resolved.digest = [] then fresh else some s.ixl.resolved
  | .replay => if s.rcd.replayCycle = 0xFFFFFFFF then fresh else some s.ixl.resolved
  | _ => fresh

def routeQueryOp (h : CmdHdr) (r : Nat) (s : State) : State :=
  s.serve h 0x0104 none fun s =>
    match s.queryVector with
    | none => s.say h 0x0104 stMode []
    | some v =>
      if (Tab.get? s.image.routes r).isNone then s.turnAway h 0x0104 stBadParam
      else s.say h 0x0104 stOk (fields [(4, v.cycle.toNat), (4, (v.route r).word), (4, (v.route r).timer)])

def execRouteQuery (hdr : CmdHdr) (route : BitVec 16) (s : State) : Host.Outcome State Fault Refusal :=
  .next (routeQueryOp hdr route.toNat s)

def elementQueryOp (h : CmdHdr) (o : Nat) (s : State) : State :=
  s.serve h 0x0208 none fun s =>
    match s.queryVector with
    | none => s.say h 0x0208 stMode []
    | some v =>
      match Tab.get? s.image.elems o with
      | none => s.turnAway h 0x0208 stBadParam
      | some d => s.say h 0x0208 stOk (fields [(4, v.cycle.toNat), (1, d.kind.code), (3, 0), (4, (v.elem o).word), (4, (v.elem o).timerWord)])

def execElementQuery (hdr : CmdHdr) (elem : BitVec 16) (s : State) : Host.Outcome State Fault Refusal :=
  .next (elementQueryOp hdr elem.toNat s)

def statusModuleOp (h : CmdHdr) (s : State) : State := s.serve h 0x0301 none fun s => s.say h 0x0301 stOk (s.statusModule (s.nowFor h))

def execStatusModule (hdr : CmdHdr) (s : State) : Host.Outcome State Fault Refusal := .next (statusModuleOp hdr s)

/-- Whether a SUBSCRIBE's parameters lie in their ranges (R334). -/
def subscribeOk (id kind first count mask : Nat) : Bool :=
  id < 8 && match kind with
  | 1 => within 1 4096 count && first + count ≤ 4096 && mask = 0
  | 2 => within 1 8192 count && first + count ≤ 8192 && mask = 0
  | 3 => first = 0 && count = 0 && mask = 0
  | 4 => first = 0 && count = 0 && !bitOf mask 0 && mask < 8192
  | _ => false

def subscribeOp (h : CmdHdr) (id kind first count mask : Nat) (s : State) : State :=
  s.serve h 0x0302 none fun s =>
    if !subscribeOk id kind first count mask then s.turnAway h 0x0302 stBadParam
    else
      let u : Subscription := ⟨h.source.toNat, id, kind, first, count, mask, kind ≠ 4, none, [], [], 0⟩
      let rest := s.host.subs.filter fun x => !(x.source = h.source.toNat && x.id = id)
      ({ s with host := { s.host with subs := rest ++ [u] } } : State).say h 0x0302 stOk []

def execSubscribe (hdr : CmdHdr) (subId kind : Byte) (first count classMask : BitVec 16) (s : State) : Host.Outcome State Fault Refusal :=
  .next (subscribeOp hdr subId.toNat kind.toNat first.toNat count.toNat classMask.toNat s)

def unsubscribeOp (h : CmdHdr) (id : Nat) (s : State) : State :=
  s.serve h 0x0303 none fun s =>
    if 8 ≤ id then s.turnAway h 0x0303 stBadParam
    else
      ({ s with host := { s.host with subs := s.host.subs.filter fun x => !(x.source = h.source.toNat && x.id = id) } } : State).say
        h 0x0303 stOk []

def execUnsubscribe (hdr : CmdHdr) (subId : Byte) (s : State) : Host.Outcome State Fault Refusal :=
  .next (unsubscribeOp hdr subId.toNat s)

/-- The size of the verdict vector in bytes (R336). -/
def vectorSize : Nat := 98592

def snapshotCopyOp (h : CmdHdr) (count offset : Nat) (s : State) : State :=
  s.serve h 0x0304 none fun s =>
    if count ≠ 0 || offset ≠ 0 then s.turnAway h 0x0304 stBadParam
    else match s.queryVector with
    | none => s.say h 0x0304 stMode []
    | some v =>
      ({ s with host := { s.host with snapshots := Tab.put s.host.snapshots h.source.toNat (v.cycle, v) } } : State).say
        h 0x0304 stOk (fields [(4, v.cycle.toNat), (4, vectorSize)])

def execStatusSnapshotCopy (hdr : CmdHdr) (count : BitVec 16) (offset : Word) (s : State) : Host.Outcome State Fault Refusal :=
  .next (snapshotCopyOp hdr count.toNat offset.toNat s)

def snapshotReadOp (h : CmdHdr) (count offset : Nat) (s : State) : State :=
  s.serve h 0x0304 none fun s =>
    match Tab.get? s.host.snapshots h.source.toNat with
    | none => s.turnAway h 0x0304 stBadParam
    | some (c, v) =>
      if !within 1 1008 count || vectorSize < offset + count then s.turnAway h 0x0304 stBadParam
      else s.say h 0x0304 stOk (fields [(4, c.toNat), (4, offset), (4, count), (2, 0)] ++ (v.bytes.drop offset).take count)

def execStatusSnapshotRead (hdr : CmdHdr) (count : BitVec 16) (offset : Word) (s : State) : Host.Outcome State Fault Refusal :=
  .next (snapshotReadOp hdr count.toNat offset.toNat s)

/-! ### Time (R342) -/

def timeCorrelateOp (h : CmdHdr) (utc ns net : Nat) (s : State) : State :=
  s.serve h 0x0601 (some .maintainer) fun s =>
    let now := s.nowFor h
    if 1000000000 ≤ ns || now + 60000000 < net || net + 60000000 < now then s.turnAway h 0x0601 stBadParam
    else
      let s1 : State := { s with host := { s.host with utc := some (utc, ns, net), utcFresh := true } }
      (s1.hostRecord 0x0702 (fields [(8, utc), (4, ns), (8, net), (2, h.source.toNat), (2, 0)])).say h 0x0601 stOk []

def execTimeCorrelate (hdr : CmdHdr) (utcS : BitVec 64) (utcNs : Word) (netTime : BitVec 64) (s : State) :
    Host.Outcome State Fault Refusal :=
  .next (timeCorrelateOp hdr utcS.toNat utcNs.toNat netTime.toNat s)

def timeQueryOp (h : CmdHdr) (s : State) : State :=
  s.serve h 0x0602 (some .maintainer) fun s =>
    let u := s.host.utc.getD (0, 0, 0)
    s.say h 0x0602 stOk (fields [(8, s.nowFor h), (6, s.rcd.opTime), (2, 0), (8, u.1), (4, u.2.1), (8, u.2.2),
      (1, LaneSet.bits (s.lanesWith fun l => l.tbs.synced)), (3, 0)])

def execTimeQuery (hdr : CmdHdr) (s : State) : Host.Outcome State Fault Refusal := .next (timeQueryOp hdr s)

/-! ### Sessions (R313–R317) -/

/-- The challenge of R314. -/
def State.challengeValue (s : State) (h : CmdHdr) (role : Role) (hk : Bool) : List Byte :=
  (hashBytes 32 (sha256 (bytesOf 8 s.serial ++ fields [(4, s.rcd.powerCycles), (4, if hk then 0 else s.cycleFor.toNat),
    (8, if hk then h.stamp else s.nowFor h), (2, h.source.toNat), (1, role.code), (1, b2n hk),
    (8, if hk then s.host.chalHk else s.host.chalLanes)]))).take 16

/-- A challenge is issued; it replaces an older one for the same source and role, and the issuer's counter rises. -/
def State.issueChallenge (s : State) (h : CmdHdr) (role : Role) (hk : Bool) : State :=
  let c : Challenge := ⟨h.source.toNat, role, s.challengeValue h role hk, s.nowFor h, hk⟩
  let rest := s.host.challenges.filter fun x => !(x.source = c.source && x.role = role)
  { s with host := { s.host with
    challenges := rest ++ [c]
    chalLanes := if hk then s.host.chalLanes else s.host.chalLanes + 1
    chalHk := if hk then s.host.chalHk + 1 else s.host.chalHk } }

def sessionChallengeOp (h : CmdHdr) (role : Nat) (s : State) : State :=
  s.serve h 0x0701 none fun s =>
    let hk := s.mod.mode = .dormant
    if hk && Role.ofCode role ≠ some .maintainer then s.turnAway h 0x0701 stMode
    else match Role.ofCode role with
    | none => s.turnAway h 0x0701 stBadParam
    | some r => (s.issueChallenge h r hk).say h 0x0701 stOk (s.challengeValue h r hk)

def execSessionChallenge (hdr : CmdHdr) (role : Byte) (s : State) : Host.Outcome State Fault Refusal :=
  .next (sessionChallengeOp hdr role.toNat s)

/-- The 16 ASCII bytes of the session message (R315). -/
def sessionWord : List Byte :=
  [0x44, 0x58, 0x4C, 0x2D, 0x33, 0x30, 0x36, 0x34, 0x20, 0x53, 0x45, 0x53, 0x53, 0x49, 0x4F, 0x4E]

/-- The session message of R315. -/
def State.sessionMessage (s : State) (h : CmdHdr) (chal : List Byte) (slot : Nat) (role : Role) (nonce : List Byte) : List Byte :=
  sessionWord ++ padTo 16 chal ++ fields [(2, s.mod.sid), (2, h.source.toNat), (1, role.code), (1, slot), (2, 0)] ++ padTo 16 nonce

/-- How SESSION_OPEN is answered, and with what session message: first challenge, slot and role, then the signature, last
whether a session of the role is open (R315). -/
def State.judgeOpen (s : State) (h : CmdHdr) (slot : Nat) (role : Role) (nonce sig : List Byte) : Nat × List Byte :=
  let hk := s.mod.mode = .dormant
  match s.host.challenges.find? fun c => c.source = h.source.toNat && c.role = role, s.keyAt slot with
  | some c, some k =>
    let msg := s.sessionMessage h c.value slot role nonce
    if c.time + 30000000 < s.nowFor h || c.housekeeper ≠ hk || !s.keyHas slot (role.code - 1) then (stNotAuth, msg)
    else if !ed25519 k.key msg (padTo 64 sig) then (stSignature, msg)
    else if (s.host.sessions ++ s.host.hkSession.toList).any fun x => x.role = role then (stBusy, msg)
    else (stOk, msg)
  | _, _ => (stNotAuth, [])

def sessionOpenOp (h : CmdHdr) (slot role : Nat) (nonce sig : List Byte) (s : State) : State :=
  s.serve h 0x0702 none fun s =>
    let hk := s.mod.mode = .dormant
    if hk && Role.ofCode role ≠ some .maintainer then s.turnAway h 0x0702 stMode
    else match Role.ofCode role with
    | none => s.turnAway h 0x0702 stBadParam
    | some r =>
      let j := s.judgeOpen h slot r nonce sig
      if 8 ≤ slot then s.turnAway h 0x0702 stBadParam
      else if j.1 ≠ stOk then
        (s.hostRecord 0x0903 (fields [(1, role), (1, slot), (2, h.source.toNat), (2, j.1), (2, 0)])).say h 0x0702 j.1 []
      else
        let x : Session := ⟨r, h.source.toNat, slot, hashBytes 32 (sha256 (j.2 ++ padTo 64 sig)), s.nowFor h, []⟩
        let s1 : State := { s with host := { s.host with
          challenges := s.host.challenges.filter fun c => !(c.source = h.source.toNat && c.role = r)
          sessions := if hk then s.host.sessions else s.host.sessions ++ [x]
          hkSession := if hk then some x else s.host.hkSession } }
        (s1.hostRecord 0x0901 (fields [(1, role), (1, slot), (2, h.source.toNat)])).say h 0x0702 stOk []

def execSessionOpen (hdr : CmdHdr) (slot role : Byte) (nonce signature : List Byte) (s : State) : Host.Outcome State Fault Refusal :=
  .next (sessionOpenOp hdr slot.toNat role.toNat nonce signature s)

def sessionCloseOp (h : CmdHdr) (role : Nat) (s : State) : State :=
  s.serve h 0x0703 none fun s =>
    match Role.ofCode role with
    | none => s.turnAway h 0x0703 stBadParam
    | some r =>
      match s.host.sessions.find? fun x => x.role = r && x.source = h.source.toNat with
      | some x => (s.endSession x 0).say h 0x0703 stOk []
      | none => s.say h 0x0703 stNotAuth []

def execSessionClose (hdr : CmdHdr) (role : Byte) (s : State) : Host.Outcome State Fault Refusal :=
  .next (sessionCloseOp hdr role.toNat s)

/-! ### MODE_REQUEST (R19–R21, R344) -/

/-- Whether R16, R19 and R20 allow a requested target from the present state. -/
def State.modeAllowed (s : State) (m : Mode) : Bool :=
  match m with
  | .safe => s.mod.mode.cycles
  | .reset => s.mod.mode = .safe || s.mod.mode = .loaded || s.mod.mode = .recovery || s.mod.mode = .replay
  | .dormant =>
    !s.mod.hkLost && (s.mod.mode = .loaded || s.mod.mode = .safe
      || (s.mod.mode = .operate && (s.mod.role = .tender
        || (s.mod.role = .solo && s.ixl.resolved.routes.all fun p => p.2.st = .idle))))
  | .replay => s.mod.mode = .loaded && s.mod.bench
  | _ => false

/-- A transition that a fault has begun is under way (R21). -/
def State.transitionUnderWay (s : State) : Bool := s.acc.safeAt4 || s.acc.safeNext

/-- The rank of a requested transition where two apply (R21). -/
def targetRank : Mode → Nat
  | .reset => 3
  | .safe => 2
  | .dormant => 1
  | _ => 0

/-- A request's answer; the transition follows the reply (R344). In DORMANT only the target WAKE is served (R18). A request takes the place of an
earlier one of lower rank whose reply has not been sent, and behind one that is not lower it is answered BUSY (R21; log entry 149). -/
def modeRequestOp (h : CmdHdr) (m : Mode) (s : State) : State :=
  if s.mod.mode = .dormant && !s.enteringDormant then s.turnAway h 0x0704 stMode
  else s.serve h 0x0704 (some .maintainer) fun s =>
    if m = .replay && !s.holds .engineer h.source.toNat then s.turnAway h 0x0704 stNotAuth
    else if s.transitionUnderWay then s.say h 0x0704 stBusy []
    else if !s.modeAllowed m then s.say h 0x0704 stMode []
    else if s.mod.modeDue.any fun d => targetRank m ≤ targetRank d then s.say h 0x0704 stBusy []
    else
      let s1 := s.loseModeRequest
      ({ s1 with mod := { s1.mod with modeDue := some m } } : State).say h 0x0704 stOk []

def execModeRequestSafe (hdr : CmdHdr) (s : State) : Host.Outcome State Fault Refusal := .next (modeRequestOp hdr .safe s)

def execModeRequestRestart (hdr : CmdHdr) (s : State) : Host.Outcome State Fault Refusal := .next (modeRequestOp hdr .reset s)

def execModeRequestDormant (hdr : CmdHdr) (s : State) : Host.Outcome State Fault Refusal := .next (modeRequestOp hdr .dormant s)

def execModeRequestReplay (hdr : CmdHdr) (s : State) : Host.Outcome State Fault Refusal := .next (modeRequestOp hdr .replay s)

/-- Target WAKE: the housekeeper answers and the wake begins (R508). -/
def modeRequestWakeOp (h : CmdHdr) (s : State) : State :=
  s.serve h 0x0704 (some .maintainer) fun s =>
    if s.mod.mode ≠ .dormant then s.say h 0x0704 stMode []
    else if s.mod.waking.isSome then s.say h 0x0704 stBusy []
    else (s.say h 0x0704 stOk []).wakeTrigger 2

def execModeRequestWake (hdr : CmdHdr) (s : State) : Host.Outcome State Fault Refusal := .next (modeRequestWakeOp hdr s)

/-! ### Maintenance (R345, R346) -/

def selftestQueryOp (h : CmdHdr) (s : State) : State :=
  s.serve h 0x0705 (some .maintainer) fun s =>
    s.replyTagged h 0x0705 fun l =>
      let d := (s.lane l).diag
      fields [(4, d.slicesRun), (4, d.slicesFailed), (2, d.bstNext), (2, 4096), (4, if d.passes = 0 then 0xFFFFFFFF else d.passSeconds),
        (2, if d.lastFailed = 0x1FFF then 0xFFFF else d.lastFailed), (2, 0)]

def execSelftestQuery (hdr : CmdHdr) (s : State) : Host.Outcome State Fault Refusal := .next (selftestQueryOp hdr s)

def regReadOp (h : CmdHdr) (addr count : Nat) (s : State) : State :=
  s.serve h 0x0706 (some .maintainer) fun s =>
    if !within 1 128 count || addr % 4 ≠ 0 || addr < 0x20000000 || 0x20130000 < addr + 4 * count then s.turnAway h 0x0706 stBadParam
    else s.replyTagged h 0x0706 fun l =>
      fields [(4, addr), (2, count), (2, 0)] ++ (List.range count).flatMap fun i => leBytes 4 (readReg s l (addr - 0x20000000 + 4 * i))

def execRegRead (hdr : CmdHdr) (address : Word) (count : BitVec 16) (s : State) : Host.Outcome State Fault Refusal :=
  .next (regReadOp hdr address.toNat count.toNat s)

/-- The target of a fuse operation's token: the first parameter word of its first step (R328). -/
def fuseTarget (op slot : Nat) : Nat := ofLe (fields [(1, op), (1, slot), (1, 1), (1, 0)])

/-- The conditions of a fuse operation: how it is refused, if it is (R345). -/
def State.fuseRefusal (s : State) (op slot : Nat) : Option Nat :=
  let anyMode := s.mod.mode = .loaded || s.mod.mode = .safe
  let pendingFor := s.img.pending.st = .verified && s.img.pending.type = 3 && (flaconHdr s.img.pending.flacon).target = slot
  match op with
  | 1 =>
    if slot ≠ 0 then some stBadParam
    else if s.mod.bench || !anyMode then some stMode
    else if s.mod.sealed then some stBadParam else none
  | 2 =>
    if 8 ≤ slot then some stBadParam
    else if !(anyMode || s.mod.mode = .recovery) then some stMode
    else if !pendingFor || (s.keyAt slot).isSome then some stBadParam else none
  | 3 =>
    if 8 ≤ slot then some stBadParam
    else if !(anyMode || s.mod.mode = .recovery) then some stMode
    else if slot = 0 || !(s.keyAt slot).any (fun k => !k.revoked) then some stBadParam else none
  | _ => some stBadParam

/-- A refusal by status: BAD_PARAMETER is recorded (R324). -/
def State.refuseWith (s : State) (h : CmdHdr) (opcode st : Nat) : State :=
  if st = stBadParam then s.turnAway h opcode st else s.say h opcode st []

def sealFuseStep1Op (h : CmdHdr) (op slot : Nat) (s : State) : State :=
  s.serve h 0x0707 (some .custodian) fun s =>
    match s.fuseRefusal op slot with
    | some st => s.refuseWith h 0x0707 st
    | none =>
      if s.img.fuseOp.isSome then s.say h 0x0707 stBusy []
      else
        let r := s.issueToken h 0x0707 (fuseTarget op slot) false (some .custodian)
        r.1.say h 0x0707 stOk (bytesOf 4 r.2)

def execSealFuseStep1 (hdr : CmdHdr) (op slot : Byte) (s : State) : Host.Outcome State Fault Refusal :=
  .next (sealFuseStep1Op hdr op.toNat slot.toNat s)

/-- A second step: its token, then the conditions again; what is taken completes later (R327, R328). -/
def sealFuseStep2Op (h : CmdHdr) (op slot : Nat) (token : Word) (s : State) : State :=
  s.serve h 0x0707 (some .custodian) fun s =>
    if !s.tokenValid h 0x0707 (fuseTarget op slot) false token then s.say h 0x0707 stToken []
    else match s.fuseRefusal op slot with
    | some st => s.refuseWith h 0x0707 st
    | none =>
      if s.img.fuseOp.isSome then s.say h 0x0707 stBusy []
      else
        let s1 := s.spendToken h 0x0707 (fuseTarget op slot)
        ({ s1 with img := { s1.img with fuseOp := some ⟨op, slot, h.source.toNat, h.queue.val, h.seq⟩ } } : State).say h 0x0707 stAccepted []

def execSealFuseBlow (hdr : CmdHdr) (slot : Byte) (token : Word) (s : State) : Host.Outcome State Fault Refusal :=
  .next (sealFuseStep2Op hdr 1 slot.toNat token s)

def execSealFuseProgramSlot (hdr : CmdHdr) (slot : Byte) (token : Word) (s : State) : Host.Outcome State Fault Refusal :=
  .next (sealFuseStep2Op hdr 2 slot.toNat token s)

def execSealFuseRevokeSlot (hdr : CmdHdr) (slot : Byte) (token : Word) (s : State) : Host.Outcome State Fault Refusal :=
  .next (sealFuseStep2Op hdr 3 slot.toNat token s)

/-- What a programmed and verified fuse operation changes (R345, R511), with its KEY_BANK record (R437). -/
def State.fuseEffect (s : State) (f : FuseOp) : State :=
  let rec0 (s : State) (roles : Nat) : State := s.hostRecord 0x0920 (fields [(1, f.op), (1, f.slot), (1, roles), (1, 0)])
  match f.op with
  | 1 =>
    let s1 := (({ s with mod := { s.mod with sealed := true, dbgAttached := false } } : State)).mapLanes fun _ x =>
      { x with diag := { x.diag with halted := false } }
    rec0 s1 0
  | 2 =>
    let content := flaconContent s.img.pending.flacon
    let k : KeySlot := ⟨(content.drop 4).take 32, byteAt content 0, false⟩
    rec0 { s with img := { s.img with keys := Tab.put s.img.keys f.slot k, pending := .empty } } k.roles
  | _ =>
    match s.keyAt f.slot with
    | none => s
    | some k =>
      let s1 : State := { s with img := { s.img with keys := Tab.put s.img.keys f.slot { k with revoked := true } } }
      (rec0 s1 k.roles).each (s.host.sessions.filter fun x => x.slot = f.slot) fun s x => s.endSession x 3

/-- A fuse operation has been programmed and read back (R327). -/
def fuseCompleteOp (readbackOk : Bool) (s : State) : State :=
  match s.img.fuseOp with
  | none => s
  | some f =>
    let s1 : State := { s with img := { s.img with fuseOp := none } }
    let s2 := if readbackOk then s1.fuseEffect f else s1
    s2.complete ⟨0x0707, f.source, f.queue, f.seq, fuseTarget f.op f.slot, 0⟩ (if readbackOk then stOk else stInternal)
      (fields [(1, f.op), (1, f.slot), (2, 0)])

def execFuseOperationComplete (readbackOk : Bool) (s : State) : Host.Outcome State Fault Refusal := .next (fuseCompleteOp readbackOk s)

/-- A route leaves the WITHHELD set from the next cycle on (R146, R346). -/
def withheldClearOp (h : CmdHdr) (r : Nat) (s : State) : State :=
  s.serve h 0x0708 (some .engineer) fun s =>
    if !s.ixl.withheld.contains r then s.turnAway h 0x0708 stBadParam
    else
      let slot := ((s.host.sessions.find? fun x => x.role = .engineer).map Session.slot).getD 0
      let s1 : State := { s with ixl := { s.ixl with withheld := removeNat r s.ixl.withheld } }
      (s1.hostRecord 0x0412 (fields [(2, r), (1, slot), (1, 0)])).say h 0x0708 stOk []

def execWithheldClear (hdr : CmdHdr) (route : BitVec 16) (s : State) : Host.Outcome State Fault Refusal :=
  .next (withheldClearOp hdr route.toNat s)

/-! ### Performance counters (R347, R477–R479) -/

/-- What the table of R477 lists for an event: an address, the MASTER filter, the PRIV filter for every master, and the PRIV
filter for master 0 only. -/
def perfEvent (event : Nat) : Option (Bool × Bool × Bool × Bool) :=
  match event with
  | 0x0101 | 0x0102 | 0x0103 => some (false, false, true, false)
  | 0x0104 | 0x0105 => some (false, false, false, false)
  | 0x0201 | 0x0202 | 0x0206 => some (true, true, false, true)
  | 0x0203 | 0x0204 | 0x0205 => some (true, true, false, false)
  | 0x0301 | 0x0302 => some (true, false, true, false)
  | 0x0303 | 0x0401 => some (true, false, false, false)
  | 0x0402 | 0x0403 | 0x0404 | 0x0501 | 0x0502 | 0x0503 => some (false, false, false, false)
  | _ => none

/-- Whether a PERF_CONFIG's values lie in their ranges and set only filters that its event has (R347, R478). -/
def perfConfigOk (c : PerfConfig) : Bool :=
  c.counter < 16 && c.enable < 2 && c.priv < 3 && (c.master < 8 || c.master = 0xFF) && c.window < 4
    && match perfEvent c.event with
    | none => false
    | some (addr, master, priv, priv0) =>
      (addr || (c.addrLo = 0 && c.addrHi = 0)) && (master || c.master = 0xFF)
        && (priv || c.priv = 0 || (priv0 && c.master = 0)) && c.addrLo.toNat ≤ c.addrHi.toNat

def perfConfigOp (h : CmdHdr) (c : PerfConfig) (s : State) : State :=
  s.serve h 0x0801 (some .maintainer) fun s =>
    if !perfConfigOk c then s.turnAway h 0x0801 stBadParam
    else ({ s with host := { s.host with perfDue := s.host.perfDue ++ [c] } } : State).say h 0x0801 stOk []

def execPerfConfig (hdr : CmdHdr) (cfg : PerfConfig) (s : State) : Host.Outcome State Fault Refusal := .next (perfConfigOp hdr cfg s)

def perfReadOp (h : CmdHdr) (s : State) : State :=
  s.serve h 0x0802 (some .maintainer) fun s =>
    s.replyTagged h 0x0802 fun l =>
      let p := (s.lane l).perf
      fields [(4, s.cycleFor.toNat), (1, p.window), (3, 0)]
        ++ ((List.range 16).flatMap fun i => leBytes 6 (Tab.getD p.ctr i .reset).count)
        ++ (List.range 8).flatMap fun r => leBytes 4 (Tab.getD p.bwDram r 0)

def execPerfRead (hdr : CmdHdr) (s : State) : Host.Outcome State Fault Refusal := .next (perfReadOp hdr s)

/-- A sample record's bytes (R479). -/
def SampleRec.bytes (r : SampleRec) : List Byte :=
  fields [(4, r.cycle.toNat), (1, r.tick), (1, r.counter), (2, r.event), (4, r.location.toNat), (1, r.sflags.toNat), (1, r.master),
    (2, 0), (4, r.latency.toNat), (4, r.address.toNat)] ++ bytesOf 8 r.time

/-- Places of the sample ring (R479: 2 048 records). -/
def sampleRing : Nat := 2048

def perfSamplesOp (h : CmdHdr) (start count : Nat) (s : State) : State :=
  s.serve h 0x0803 (some .maintainer) fun s =>
    if 31 < count then s.turnAway h 0x0803 stBadParam
    else s.replyTagged h 0x0803 fun l =>
      let p := (s.lane l).perf
      let oldest := p.writeIndex - sampleRing
      let found := (List.range count).filterMap fun i =>
        if oldest ≤ start + i && start + i < p.writeIndex then Tab.get? p.ring ((start + i) % sampleRing) else none
      fields [(4, p.writeIndex), (4, oldest), (1, found.length), (3, 0)] ++ found.flatMap SampleRec.bytes

def execPerfSamples (hdr : CmdHdr) (start : Word) (count : Byte) (s : State) : Host.Outcome State Fault Refusal :=
  .next (perfSamplesOp hdr start.toNat count.toNat s)

end Sys2Proof.Machine
end

