-- ==== Sys2Proof/Machine/HostNet.lean ====
section
/-!
DEFINITION. Commands of the network, of redundancy, of field channels and of debug (R237, R238, R348–R350, R376).
-/

namespace Sys2Proof.Machine

/-! ### Network (R348) -/

/-- One node's 8 bytes of NET_STATUS with SELECT 1. -/
def State.nodeStatus (s : State) (n : Nat) : List Byte :=
  let x := Tab.getD s.net.nodes n .none
  let flags := b2n x.x.member + 2 * b2n x.y.member + 4 * b2n x.declared + 8 * b2n x.x.closed + 16 * b2n x.y.closed
    + 32 * b2n (Tab.get? s.net.grants n).isSome
  let age := match x.age with
    | some us => if 65534 < us / 1000 then 0xFFFF else us / 1000
    | none => 0xFFFF
  fields [(1, flags), (1, 0), (2, x.x.delay.getD 0xFFFF), (2, x.y.delay.getD 0xFFFF), (2, age)]

/-- The hub registers that SELECT 0 reports, in offset order: 25 words (R213). -/
def hubWords : List Nat := [0x000, 0x004, 0x008, 0x00C, 0x010, 0x014, 0x018, 0x01C, 0x040] ++ (List.range 16).map fun i => 0x100 + 4 * i

def netStatusOp (h : CmdHdr) (select channel first count : Nat) (s : State) : State :=
  s.serve h 0x0901 (some .maintainer) fun s =>
    if 2 < select || 1 < channel || !within 1 100 count || 512 ≤ first || (select = 1 && 512 < first + count) then
      s.turnAway h 0x0901 stBadParam
    else s.replyTagged h 0x0901 fun l =>
      fields [(1, select), (1, channel), (2, first), (2, count), (2, 0)] ++ match select with
      | 0 => hubWords.flatMap fun o => leBytes 4 (rdHub s l o)
      | 1 => (List.range count).flatMap fun i => s.nodeStatus (first + i)
      | _ =>
        let c := (s.node first).chan (channel = 1)
        fields [(4, c.diagRound.toNat), (1, c.diag.length), (3, 0)] ++ c.diag

def execNetStatus (hdr : CmdHdr) (select channel : Byte) (first count : BitVec 16) (s : State) : Host.Outcome State Fault Refusal :=
  .next (netStatusOp hdr select.toNat channel.toNat first.toNat count.toNat s)

/-- The nodes, late-comers included, that a port is the port of. -/
def State.portNodes (s : State) (port : Nat) : List (Nat × NodeDef) :=
  s.image.nodes.filter fun p => p.2.portX = port || p.2.portY + 32 = port

/-- A port is out of service. -/
def State.portOut (s : State) (port : Nat) : Bool := (Tab.getD s.net.ports port .none).outOfService

/-- Takes a port out of service: its nodes' channel is declared lost (R206). -/
def State.takePortOut (s : State) (port : Nat) : State :=
  let chY := decide (32 ≤ port)
  (s.modPort port fun p => { p with outOfService := true }).each (s.portNodes port) fun s p =>
    s.modNode p.1 fun x =>
      let y := x.onChan chY fun c => { c with lostPort := true }
      if chY then { y with declY := true, agreeRun := 0 } else { y with declX := true, agreeRun := 0 }

/-- Returns a port to service; what it had declared lost ends by R206. -/
def State.returnPort (s : State) (port : Nat) : State :=
  (s.modPort port fun p => { p with outOfService := false }).each (s.portNodes port) fun s p =>
    s.modNode p.1 fun x => x.onChan (decide (32 ≤ port)) fun c => { c with lostPort := false }

def netPortControlOp (h : CmdHdr) (port action : Nat) (s : State) : State :=
  s.serve h 0x0902 (some .engineer) fun s =>
    let served := if port < 32 then s.net.servesX else s.net.servesY
    if 64 ≤ port || 1 < action || !served then s.turnAway h 0x0902 stBadParam
    else if action = 0 then (s.returnPort port).say h 0x0902 stOk []
    else if (s.portNodes port).any fun p => s.portOut (if port < 32 then p.2.portY + 32 else p.2.portX) then s.say h 0x0902 stLocked []
    else (s.takePortOut port).say h 0x0902 stOk []

def execNetPortControl (hdr : CmdHdr) (port action : Byte) (s : State) : Host.Outcome State Fault Refusal :=
  .next (netPortControlOp hdr port.toNat action.toNat s)

/-- A bank with entries written from a slot of a port on. -/
def writeBank (b : Tab Word) (port first : Nat) (entries : List Word) : Tab Word :=
  entries.zipIdx.foldl (fun b e => if e.1 = 0 then Tab.erase b (1000 * port + first + e.2) else Tab.put b (1000 * port + first + e.2) e.1) b

/-- The vital slots of a node's identity in a bank. -/
def vitalSlots (b : Tab Word) (id : Nat) : List Nat :=
  (b.filter fun p => slotVital p.2 && (slotType p.2 = 1 || slotType p.2 = 2) && slotOwner p.2 = id).map Prod.fst

/-- The inactive bank replaced. -/
def NetS.setInactive (n : NetS) (b : Tab Word) : NetS := if n.activeBank1 then { n with bank0 := b } else { n with bank1 := b }

/-- How a write to the inactive bank is refused, if it is (R237). -/
def State.bankRefusal (s : State) (port first : Nat) (entries : List Word) : Option Nat :=
  let old := s.net.inactive
  let new := writeBank old port first entries
  let granted := (List.range entries.length).any fun i =>
    let w := Tab.getD old (1000 * port + first + i) 0
    slotGranted w && entries.getD i 0 ≠ w
  let moved := s.image.nodes.any fun p =>
    let x := Tab.getD s.net.nodes p.1 .none
    (x.x.member || x.y.member) && vitalSlots old p.2.id ≠ vitalSlots new p.2.id
  if !s.image.bankOk new then some stBadParam
  else if granted || s.net.frozen then some stBusy
  else if moved then some stBadParam else none

def netBankWriteOp (h : CmdHdr) (port first : Nat) (entries : List Word) (s : State) : State :=
  s.serve h 0x0903 (some .engineer) fun s =>
    let n := entries.length
    if 64 ≤ port || !within 1 250 n || 1000 < first + n then s.turnAway h 0x0903 stBadParam
    else match s.bankRefusal port first entries with
    | some st => s.refuseWith h 0x0903 st
    | none =>
      let b := writeBank s.net.inactive port first entries
      let s1 : State := { s with net := s.net.setInactive b }
      let s2 := if s1.mod.role = .lead then
          s1.sendControl ctlBankWrite (fields [(1, port), (1, 0), (2, first), (2, n), (2, 0)] ++ entries.flatMap (bytesOf 4)) none
        else s1
      s2.say h 0x0903 stOk (bytesOf 4 (bankCrc b))

def execNetBankWrite (hdr : CmdHdr) (port : Byte) (firstSlot : BitVec 16) (entries : List Word) (s : State) :
    Host.Outcome State Fault Refusal :=
  .next (netBankWriteOp hdr port.toNat firstSlot.toNat entries s)

/-- A lane writes HUB_SWITCH_CRC, and HUB_SWITCH_ROUND, which freezes the inactive bank (R198, R214). -/
def State.requestSwitch (s : State) (l : Lane) (round crc : Word) : State :=
  { s with net := { s.net with frozen := true, regs := s.net.regs.modify l fun r => { r with crc := crc, request := some round } } }

/-- Every lane that writes requests the switch; the old completion's owner is replaced. -/
def State.armSwitch (s : State) (round crc : Word) (done : Option Completion) : State :=
  let s1 := s.forLanes s.writers fun s l => s.requestSwitch l round crc
  { s1 with net := { s1.net with switchDone := done, partnerArmed := false } }

/-- A switch needs 50 rounds' notice; a lead without its partner link is refused (R238). -/
def netBankSwitchOp (h : CmdHdr) (round crc : Word) (s : State) : State :=
  s.serve h 0x0904 (some .engineer) fun s =>
    if !newer round (s.net.round + 49) then s.turnAway h 0x0904 stBadParam
    else if s.mod.role = .lead && !s.plink.up then s.say h 0x0904 stMode []
    else if s.net.frozen then s.say h 0x0904 stBusy []
    else
      let s1 := s.armSwitch round crc (some (h.completion 0x0904 round.toNat))
      let s2 := if s1.mod.role = .lead then s1.sendControl ctlBankSwitch (bytesOf 4 round ++ bytesOf 4 crc) none else s1
      s2.say h 0x0904 stAccepted []

def execNetBankSwitch (hdr : CmdHdr) (round crc : Word) (s : State) : Host.Outcome State Fault Refusal :=
  .next (netBankSwitchOp hdr round crc s)

def netPolicyOp (h : CmdHdr) (enable : Nat) (s : State) : State :=
  s.serve h 0x0905 (some .engineer) fun s =>
    if 1 < enable then s.turnAway h 0x0905 stBadParam
    else if s.mod.role = .tender then s.say h 0x0905 stMode []
    else ({ s with net := { s.net with grantsOn := enable = 1 } } : State).say h 0x0905 stOk []

def execNetLatecomerPolicy (hdr : CmdHdr) (enable : Byte) (s : State) : Host.Outcome State Fault Refusal :=
  .next (netPolicyOp hdr enable.toNat s)

/-! ### Redundancy (R349, R376) -/

/-- RESYNC_LANE of RED_STATUS. -/
def State.resyncLaneByte (s : State) : Nat :=
  match Lane.all.find? fun l => s.laneSt l = .resync with
  | some l => l.id
  | none => if s.plink.resync then 3 else 0xFF

/-- RESYNC_PCT of RED_STATUS. -/
def State.resyncPct (s : State) : Nat :=
  match Lane.all.find? fun l => s.laneSt l = .resync with
  | some l =>
    let r := (s.lane l).core.resync
    if 4 ≤ r.step then 100 else if r.step = 3 then r.pages * 100 / 4096 else 0
  | none =>
    if !s.plink.resync then 0 else if 4 ≤ s.plink.resyncStep then 100 else if s.plink.resyncStep = 3 then s.plink.pages.length * 100 / 4096 else 0

def redStatusOp (h : CmdHdr) (s : State) : State :=
  s.serve h 0x0A01 (some .maintainer) fun s =>
    let p := s.plink
    s.say h 0x0A01 stOk (fields [(1, s.mod.role.code), (1, s.mod.cond.code), (1, b2n p.up), (1, b2n s.rightsNow),
      (4, s.net.claim.toNat), (4, p.partnerClaim.toNat), (1, p.partnerMode), (1, p.shadow.code), (2, 0), (4, p.shadowMis),
      (1, s.resyncLaneByte), (1, s.resyncPct), (2, 0), (4, if s.degraded then s.mod.degradedLeft / 1000 else 0xFFFFFFFF)])

def execRedStatus (hdr : CmdHdr) (s : State) : Host.Outcome State Fault Refusal := .next (redStatusOp hdr s)

/-- A LEAD in OPERATE whose tender has no condition and takeover rights (R349). -/
def State.switchoverAllowed (s : State) : Bool :=
  s.mod.mode = .operate && s.mod.role = .lead && s.tenderReady && s.plink.partnerRights

/-- The target of a switchover's token: the first parameter word of its first step (R328). -/
def switchoverTarget : Nat := 1

def switchoverStep1Op (h : CmdHdr) (s : State) : State :=
  s.serve h 0x0A02 (some .maintainer) fun s =>
    if !s.switchoverAllowed then s.say h 0x0A02 stMode []
    else
      let r := s.issueToken h 0x0A02 switchoverTarget false (some .maintainer)
      r.1.say h 0x0A02 stOk (bytesOf 4 r.2)

def execRedSwitchoverStep1 (hdr : CmdHdr) (s : State) : Host.Outcome State Fault Refusal := .next (switchoverStep1Op hdr s)

def switchoverStep2Op (h : CmdHdr) (token : Word) (s : State) : State :=
  s.serve h 0x0A02 (some .maintainer) fun s =>
    if !s.switchoverAllowed then s.say h 0x0A02 stMode []
    else if !s.tokenValid h 0x0A02 switchoverTarget false token then s.say h 0x0A02 stToken []
    else if s.plink.switchAt.isSome then s.say h 0x0A02 stBusy []
    else
      let s1 := s.spendToken h 0x0A02 switchoverTarget
      (s1.beginSwitchover (some (h.completion 0x0A02 switchoverTarget)) false).say h 0x0A02 stAccepted []

def execRedSwitchoverStep2 (hdr : CmdHdr) (token : Word) (s : State) : Host.Outcome State Fault Refusal :=
  .next (switchoverStep2Op hdr token s)

/-- The resync of a lane in OUT begins; its count of automatic resyncs becomes 0 (R357). A lane that a debugger still halts stays
OUT (R356). -/
def laneResyncOp (h : CmdHdr) (lane : Nat) (s : State) : State :=
  s.serve h 0x0A03 (some .maintainer) fun s =>
    match Lane.all.find? fun l => l.id = lane with
    | none => s.turnAway h 0x0A03 stBadParam
    | some l =>
      if s.laneSt l ≠ .out || (s.lane l).diag.halted then s.say h 0x0A03 stMode []
      else
        ((s.say h 0x0A03 stAccepted []).beginResync l (s.lane l).core.cause).modCore l fun c => { c with
          autoTimes := [], asked := some (h.completion 0x0A03 lane) }

def execRedLaneResync (hdr : CmdHdr) (lane : Byte) (s : State) : Host.Outcome State Fault Refusal :=
  .next (laneResyncOp hdr lane.toNat s)

/-- Takeover rights: a lead forwards the command to its tender and answers once it has confirmed; any other module sets its own,
which flash keeps (R349). -/
def tenderEnableOp (h : CmdHdr) (enable : Nat) (s : State) : State :=
  s.serve h 0x0A04 (some .engineer) fun s =>
    if 1 < enable then s.turnAway h 0x0A04 stBadParam
    else if s.mod.role = .lead then
      if s.plink.enableAsk.isSome then s.say h 0x0A04 stBusy []
      else ({ s with plink := { s.plink with enableAsk := some (h, enable = 1) } } : State).sendControl ctlTenderEnable (leBytes 4 enable) none
    else ({ s with plink := { s.plink with rights := enable = 1 } } : State).say h 0x0A04 stOk []

def execRedTenderEnable (hdr : CmdHdr) (enable : Byte) (s : State) : Host.Outcome State Fault Refusal :=
  .next (tenderEnableOp hdr enable.toNat s)

/-- The answer to a forwarded RED_TENDER_ENABLE. -/
def State.answerEnable (s : State) (status : Nat) : State :=
  match s.plink.enableAsk with
  | none => s
  | some (h, _) => ({ s with plink := { s.plink with enableAsk := none } } : State).say h 0x0A04 status []

/-- Ten cycles without the tender's confirmation (R349). -/
def execTenderEnableTimeout (s : State) : Host.Outcome State Fault Refusal := .next (s.answerEnable stDisagree)

/-! ### Field channels and debug (R350) -/

def ioStatusOp (h : CmdHdr) (first count : Nat) (s : State) : State :=
  s.serve h 0x0B01 (some .maintainer) fun s =>
    if 63 < first || !within 1 64 count || 64 < first + count then s.turnAway h 0x0B01 stBadParam
    else s.replyTagged h 0x0B01 fun l =>
      fields [(4, rdFch s l 0), (1, first), (1, count), (2, 0)]
        ++ (List.range count).flatMap fun i =>
          fields [(4, rdFch s l (0x100 + 4 * (first + i))), (4, rdFch s l (0x200 + 4 * (first + i)))]

def execIoStatus (hdr : CmdHdr) (first count : Byte) (s : State) : Host.Outcome State Fault Refusal :=
  .next (ioStatusOp hdr first.toNat count.toNat s)

/-- The next cycle of a switch test of a channel, 0xFFFF_FFFF where none is scheduled (R262). -/
def State.nextTest (s : State) (ch : Nat) (high : Bool) : Nat :=
  let p := 10 * s.testPeriod ch
  let c := s.mod.cycle.toNat + 1
  if !s.mod.mode.cycles || !s.isOutput ch || p = 0 then 0xFFFFFFFF
  else c + ((if high then ch else ch + p / 2) % p + p - c % p) % p

def ioTestConfigOp (h : CmdHdr) (ch action value : Nat) (s : State) : State :=
  s.serve h 0x0B02 (some .maintainer) fun s =>
    let settable := s.isOutput ch && (Tab.get? s.image.chans ch).any fun d => !d.vital
    if 63 < ch || 1 < action || 100 < value || (action = 1 && !settable) then s.turnAway h 0x0B02 stBadParam
    else
      let s1 : State := if action = 1 then { s with fch := { s.fch with testPeriods := Tab.put s.fch.testPeriods ch value } } else s
      s1.say h 0x0B02 stOk (fields [(1, s1.testPeriod ch), (3, 0), (4, s1.nextTest ch true), (4, s1.nextTest ch false)])

def execIoTestConfig (hdr : CmdHdr) (channel action value : Byte) (s : State) : Host.Outcome State Fault Refusal :=
  .next (ioTestConfigOp hdr channel.toNat action.toNat value.toNat s)

/-- Forces an output on a module with LAB: every voting lane votes VALUE instead of the channel's source (R350). -/
def ioForceOp (h : CmdHdr) (ch value duration : Nat) (s : State) : State :=
  s.serve h 0x0B03 (some .engineer) fun s =>
    if !s.mod.lab || s.mod.mode ≠ .operate then s.say h 0x0B03 stMode []
    else if !s.isOutput ch || 1 < value || !within 1 60000 duration then s.turnAway h 0x0B03 stBadParam
    else
      let f : ForceSt := ⟨value = 1, duration, duration, h.source.toNat⟩
      let s1 : State := { s with fch := { s.fch with forced := Tab.put s.fch.forced ch f } }
      (s1.record 0x0307 (fields [(1, ch), (1, value), (1, 0), (1, 0), (4, duration), (2, h.source.toNat), (2, 0)])).say h 0x0B03 stOk []

def execIoForce (hdr : CmdHdr) (channel value : Byte) (duration : Word) (s : State) : Host.Outcome State Fault Refusal :=
  .next (ioForceOp hdr channel.toNat value.toNat duration.toNat s)

def dbgStatusOp (h : CmdHdr) (s : State) : State :=
  s.serve h 0x0D01 (some .engineer) fun s =>
    if !s.mod.lab then s.say h 0x0D01 stMode []
    else s.say h 0x0D01 stOk (fields [(1, b2n s.mod.sealed), (1, LaneSet.bits (s.lanesWith fun l => l.diag.halted)),
      (1, b2n s.mod.dbgAttached), (1, 0), (4, s.mod.dbgLog)])

def execDbgStatus (hdr : CmdHdr) (s : State) : Host.Outcome State Fault Refusal := .next (dbgStatusOp hdr s)

end Sys2Proof.Machine
end

