-- ==== Sys2Proof/Machine/Recorder.lean ====
section
/-!
DEFINITION. The recorder: its commands (R337, R338, R398–R400), records handed over by a lane, repeats and closing (R388, R390), the
draining of the rings into sillage records (R386, R404–R406, R409), keyframes (R407), and the housekeeper's heartbeat (R16) and
operating time (R394).
-/

namespace Sys2Proof.Machine

/-! ### Reading (R337) -/

/-- The 24-byte store header. -/
def storeHeader (write oldest n : Nat) (frozen gap : Bool) (wear : Nat) : List Byte :=
  fields [(8, write), (8, oldest), (2, n), (1, b2n frozen + 2 * b2n gap), (1, wear), (4, 0)]

/-- The whole records that fit within 1 000 bytes; one that is longer comes alone. -/
def fitting (l : List (List Byte)) : List (List Byte) :=
  match fitRecords 1000 l with
  | 0 => l.take 1
  | n => l.take n

def recReadOp (h : CmdHdr) (index count : Nat) (s : State) : State :=
  s.serve h 0x0401 (some .maintainer) fun s =>
    if 255 < count then s.turnAway h 0x0401 stBadParam
    else
      let r := s.rcd
      let out := fitting (((r.store.filter fun x => index ≤ x.index).take count).map Record.bytes)
      s.say h 0x0401 stOk (storeHeader r.writeIndex r.oldest out.length r.freeze.isSome (index < r.oldest) r.wearEvent ++ out.flatten)

def execRecRead (hdr : CmdHdr) (index : BitVec 64) (count : BitVec 16) (s : State) : Host.Outcome State Fault Refusal :=
  .next (recReadOp hdr index.toNat count.toNat s)

/-- A sillage record's bytes: a 16-byte header with its CRC-32C, and the body (R404). -/
def SilRecord.bytes (r : SilRecord) : List Byte :=
  let head := fields [(4, r.cycle.toNat), (1, r.kind), (1, b2n r.first + 2 * b2n r.last), (2, r.part), (2, 16 + r.body.length), (2, 0)]
  head ++ bytesOf 4 (crc32c (head ++ r.body)) ++ r.body

def silReadOp (h : CmdHdr) (index count : Nat) (s : State) : State :=
  s.serve h 0x0405 (some .maintainer) fun s =>
    if 255 < count then s.turnAway h 0x0405 stBadParam
    else
      let r := s.rcd
      let out := fitting (((r.sil.drop (index - r.silOldest)).take count).map SilRecord.bytes)
      s.say h 0x0405 stOk (storeHeader r.silIndex r.silOldest out.length false (index < r.silOldest) r.wearSil ++ out.flatten)

def execSilRead (hdr : CmdHdr) (index : BitVec 64) (count : BitVec 16) (s : State) : Host.Outcome State Fault Refusal :=
  .next (silReadOp hdr index.toNat count.toNat s)

/-! ### Freeze, thaw, clear (R338, R398–R400) -/

/-- A freeze begins: open records close, and the FREEZE record is the last one written before it. -/
def State.beginFreeze (s : State) (source : Nat) : State :=
  let s1 := (s.closeAll.recordHk 0x0A04 (fields [(1, 0), (1, 0), (2, source), (4, 0)])).closeAll
  { s1 with rcd := { s1.rcd with freeze := some ⟨source, s1.rcd.opTime, [], 0⟩ } }

def recFreezeOp (h : CmdHdr) (s : State) : State :=
  s.serve h 0x0402 (some .maintainer) fun s =>
    (if s.rcd.freeze.isSome then s else s.beginFreeze h.source.toNat).say h 0x0402 stOk []

def execRecFreeze (hdr : CmdHdr) (s : State) : Host.Outcome State Fault Refusal := .next (recFreezeOp hdr s)

/-- A freeze ends with every held record (R399). -/
def State.thaw (s : State) (event : Nat) : State := s.endFreeze event 16384

def recThawOp (h : CmdHdr) (s : State) : State := s.serve h 0x0403 (some .maintainer) fun s => (s.thaw 1).say h 0x0403 stOk []

def execRecThaw (hdr : CmdHdr) (s : State) : Host.Outcome State Fault Refusal := .next (recThawOp hdr s)

/-- Sixty seconds after REC_FREEZE. -/
def freezeTimeoutOp (s : State) : State := if s.rcd.freeze.any fun f => f.since + 60000 ≤ s.rcd.opTime then s.thaw 2 else s

def execFreezeTimeout (s : State) : Host.Outcome State Fault Refusal := .next (freezeTimeoutOp s)

/-- How a REC_CLEAR is refused, if it is. -/
def State.clearRefusal (s : State) (upTo : Nat) : Option Nat :=
  if s.rcd.writeIndex < upTo then some stBadParam else if s.rcd.freeze.isSome then some stBusy else none

/-- The target of a REC_CLEAR's token: the first parameter word (R328). -/
def clearTarget (upTo : Nat) : Nat := upTo % 2 ^ 32

def recClearStep1Op (h : CmdHdr) (upTo : Nat) (s : State) : State :=
  s.serve h 0x0404 (some .custodian) fun s =>
    match s.clearRefusal upTo with
    | some st => s.refuseWith h 0x0404 st
    | none =>
      let r := s.issueToken h 0x0404 (clearTarget upTo) false (some .custodian)
      r.1.say h 0x0404 stOk (bytesOf 4 r.2)

def execRecClearStep1 (hdr : CmdHdr) (upTo : BitVec 64) (s : State) : Host.Outcome State Fault Refusal :=
  .next (recClearStep1Op hdr upTo.toNat s)

/-- Open records close, those below UP_TO are removed, and CLEARED is written at the next index. -/
def State.clearStore (s : State) (h : CmdHdr) (upTo : Nat) : State :=
  let s1 := s.closeAll
  let r := s1.rcd
  let rest := r.store.filter fun x => upTo ≤ x.index
  let s2 : State := { s1 with rcd := { r with store := rest, oldest := (rest.head?.map Record.index).getD r.writeIndex } }
  let slot := ((s.host.sessions.find? fun x => x.role = .custodian).map Session.slot).getD 0
  s2.recordHk 0x0A02 (fields [(1, slot), (1, 0), (2, h.source.toNat), (8, upTo), (8, r.oldest), (8, r.store.length - rest.length), (8, s.nowFor h)])

def recClearStep2Op (h : CmdHdr) (upTo : Nat) (token : Word) (s : State) : State :=
  s.serve h 0x0404 (some .custodian) fun s =>
    if !s.tokenValid h 0x0404 (clearTarget upTo) false token then s.say h 0x0404 stToken []
    else match s.clearRefusal upTo with
    | some st => s.refuseWith h 0x0404 st
    | none => ((s.spendToken h 0x0404 (clearTarget upTo)).clearStore h upTo).say h 0x0404 stOk []

def execRecClearStep2 (hdr : CmdHdr) (upTo : BitVec 64) (token : Word) (s : State) : Host.Outcome State Fault Refusal :=
  .next (recClearStep2Op hdr upTo.toNat token s)

/-- The label waits for the first cycle after intake, whose record's index the reply holds (R338). -/
def silMarkOp (h : CmdHdr) (label : List Byte) (s : State) : State :=
  s.serve h 0x0406 (some .maintainer) fun s =>
    if !s.mod.mode.cycles then s.say h 0x0406 stMode []
    else if s.rcd.mark.isSome then s.say h 0x0406 stBusy []
    else { s with rcd := { s.rcd with mark := some (h, padTo 16 label) } }

def execSilMark (hdr : CmdHdr) (label : List Byte) (s : State) : Host.Outcome State Fault Refusal := .next (silMarkOp hdr label s)

/-! ### Records handed over (R388) -/

/-- A lane hands a record over: a lane-local one is written at once, an identical one once two voting lanes have placed it. -/
def recordHandoverOp (l : Lane) (laneLocal : Bool) (type : Nat) (payload : List Byte) (s : State) : State :=
  let body := payload.take 976
  if !s.mod.mode.lanesRun || s.laneSt l = .hold || s.laneSt l = .failed then s
  else if laneLocal then s.recordLane l type body
  else s.placeRecord l type body

def execRecordHandover (lane : Lane) (laneLocal : Bool) (type : Nat) (payload : List Byte) (s : State) :
    Host.Outcome State Fault Refusal :=
  .next (recordHandoverOp lane laneLocal type payload s)

/-- Copies without a match within 20 ms are written lane by lane, with RECORD_DISAGREE for each type. -/
def recordCopyTimeoutOp (s : State) : State :=
  let old (p : PendingCopy) : Bool := p.since + 20 ≤ s.rcd.opTime
  let due := s.rcd.pending.filter fun p => old p && LaneSet.count p.lanes < 2
  let s1 := ({ s with rcd := { s.rcd with pending := s.rcd.pending.filter fun p => !old p } } : State).each due fun s p =>
    s.forLanes p.lanes fun s l => s.writeRecord p.type p.payload (some l) false
  s1.each (due.map PendingCopy.type).eraseDups fun s t =>
    let ls := (due.filter fun p => p.type = t).foldl (fun a p => LaneSet.union a p.lanes) LaneSet.none
    s.recordHk 0x0A08 (fields [(2, t), (1, LaneSet.bits ls), (1, 0)])

def execRecordCopyTimeout (s : State) : Host.Outcome State Fault Refusal := .next (recordCopyTimeoutOp s)

/-- A second has passed without a repeat (R390); outside cycles the record is sent on to its subscribers at once. -/
def recordCloseOp (index : Nat) (s : State) : State :=
  let s1 := if s.rcd.opened.any fun o => o.index = index && o.last + 1000 ≤ s.rcd.opTime then s.closeRecord index else s
  if s1.mod.mode.cycles then s1 else s1.sendRecords

def execRecordClose (index : Nat) (s : State) : Host.Outcome State Fault Refusal := .next (recordCloseOp index s)

/-! ### Draining the rings (R386, R404–R406) -/

/-- The bodies of a stream, at most 984 bytes each. -/
def silBodies (stream : List Byte) : List (List Byte) := chunks 984 (ceilDiv stream.length 984) stream

/-- A stream as sillage records. -/
def silRecords (cycle : Word) (kind : Nat) (stream : List Byte) : List SilRecord :=
  let l := silBodies stream
  l.zipIdx.map fun p => ⟨cycle, kind, p.2 = 0, p.2 + 1 = l.length, p.2, p.1⟩

/-- Bytes of the sillage partition (R385). -/
def silPartition : Nat := 30064771072

/-- The oldest records go while the partition holds more than its size (R408). -/
def silTrim : Nat → Nat → List SilRecord → Nat × List SilRecord
  | _, old, [] => (old, [])
  | total, old, r :: l =>
    let n := 16 + r.body.length
    if silPartition < total then silTrim (total - n) (old + 1) l else (old, r :: l)

/-- Appends a stream to the partition. -/
def State.writeStream (s : State) (cycle : Word) (kind : Nat) (stream : List Byte) : State :=
  let l := silRecords cycle kind stream
  let all := s.rcd.sil ++ l
  let t := silTrim (all.foldl (fun n r => n + 16 + r.body.length) 0) s.rcd.silOldest all
  { s with rcd := { s.rcd with sil := t.2, silOldest := t.1, silIndex := s.rcd.silIndex + l.length } }

/-- A NODE_DATA item. -/
def silNode (n : Nat) (data : List Byte) : List Byte := silItem 0x03 (fields [(2, n), (1, data.length), (1, 0)] ++ data)

/-- A keyframe stream: its head, the lag map, every baseline, the page map and the pages (R404). -/
def keyStream (k : KeyCopy) (baseline : Tab (List Byte)) : List Byte :=
  let map := (List.range 512).map fun i =>
    BitVec.ofNat 8 ((List.range 8).foldl (fun w j => if k.pages.any fun p => p.1 = 8 * i + j then w + 2 ^ j else w) 0)
  silItem 0x10 k.head ++ silItem 0x02 k.lag ++ baseline.flatMap (fun p => silNode p.1 p.2) ++ silItem 0x11 map
    ++ k.pages.flatMap fun p => silItem 0x12 (fields [(2, p.1), (2, 0)] ++ p.2)

/-- A cycle's stream, with the items that its baselines and the last lag map make necessary (R404, R405). -/
def cycleStream (c : SilCopy) (baseline : Tab (List Byte)) (lastLag mark : List Byte) : List Byte :=
  let nodes := c.nodes.filter fun p => Tab.get? baseline p.1 ≠ some p.2
  c.head ++ (if c.lag = lastLag then [] else silItem 0x02 c.lag) ++ nodes.flatMap (fun p => silNode p.1 p.2) ++ c.rest ++ mark

/-- The label of a mark that waits for this cycle is written, and the command answered with the index of the cycle's first
record. -/
def State.answerMark (s : State) (index : Nat) : State :=
  match s.rcd.mark with
  | none => s
  | some (h, _) => ({ s with rcd := { s.rcd with mark := none } } : State).replyHk h 0x0406 stOk (leBytes 8 index)

/-- A cycle's stream is written, with the label of a mark that waits (R404, R405). -/
def State.writeCopy (s : State) (c : SilCopy) : State :=
  let s1 := s.flushGap
  let base := s1.rcd.baseline
  let mark := match s1.rcd.mark with
    | some (h, label) => silItem 0x08 (label ++ fields [(2, h.source.toNat), (2, 0)])
    | none => []
  let index := s1.rcd.silIndex
  let s2 := s1.writeStream c.cycle 1 (cycleStream c base s1.rcd.lastLag mark)
  let s3 : State := { s2 with rcd := { s2.rcd with
    lastLag := c.lag, baseline := c.nodes.foldl (fun t p => Tab.put t p.1 p.2) base } }
  s3.answerMark index

/-- The housekeeper writes one cycle, checked against another lane's copy (R406), and its keyframe if there is one, which comes from
its sender alone (R407). -/
def State.writeCycle (s : State) (c : SilCopy) : State :=
  let base := s.rcd.baseline
  let s1 := if LaneSet.count c.lanes < 2 then s.missCycle c.cycle 2 else s.writeCopy c
  let keys := s1.rcd.keyframes.filter fun k => k.cycle = c.cycle
  let s2 := s1.each keys fun s k => s.writeStream k.cycle 2 (keyStream k base)
  { s2 with rcd := { s2.rcd with keyframes := s2.rcd.keyframes.filter fun k => k.cycle ≠ c.cycle } }

/-- Wear as the store reports it; it never falls. Each first reach of 80, 90 and 100 % is recorded (R385). -/
def State.noteWear (s : State) (sil : Bool) : State :=
  let old := if sil then s.rcd.wearSil else s.rcd.wearEvent
  let new := max old (Config.wear (b2n sil) (if sil then s.rcd.silIndex else s.rcd.writeIndex)).toNat
  let s1 : State := { s with rcd := if sil then { s.rcd with wearSil := new } else { s.rcd with wearEvent := new } }
  ([80, 90, 100].filter fun t => old < t && t ≤ new).foldl (fun s t => s.recordHk 0x0A05 (fields [(1, t), (1, b2n sil), (2, 0)])) s1

/-- The rings are drained: events that had found no room are counted in a LOST record, then every copy is written in cycle order. -/
def ringDrainOp (s : State) : State :=
  if s.mod.hkLost || !s.mod.mode.lanesRun then s
  else
    let copies := s.rcd.copies
    let s1 : State := { s with rcd := { s.rcd with copies := [], lostRing := 0 } }
    let s2 := if s.rcd.lostRing = 0 then s1 else s1.recordHk 0x0A01 (fields [(4, s.rcd.lostRing), (1, 2), (3, 0)])
    let s3 := s2.each copies State.writeCycle
    let s4 := match s3.rcd.mark with
      | some (h, _) =>
        if s3.mod.mode.cycles then s3 else ({ s3 with rcd := { s3.rcd with mark := none } } : State).replyHk h 0x0406 stMode []
      | none => s3
    let s5 := s4.mapLanes fun _ x => { x with diag := { x.diag with ringFill := 0, keyframeBusy := false } }
    (s5.noteWear false).noteWear true

def execRingDrain (s : State) : Host.Outcome State Fault Refusal := .next (ringDrainOp s)

/-! ### Keyframes (R407) -/

/-- KEYFRAME_SKIPPED. -/
def State.skipKeyframe (s : State) (cycle reason : Nat) : State := s.record 0x0A06 (fields [(4, cycle), (1, reason), (3, 0)])

/-- An essence page as the executive has filled it: its bytes beyond what the model keeps apart are free (log entry 36). -/
def freePage (ctr p : Nat) : List Byte := (List.range 1024).map fun i => Config.freeByte (4194304 * ctr + 1024 * p + i)

/-- An essence page: of pages 1280 to 3327 the instance state records, 128 to a page in index order (R161, R441). -/
def State.essencePage (s : State) (p : Nat) : List Byte :=
  if 1280 ≤ p && p < 3328 then
    (List.range 128).flatMap fun j => ((Tab.get? s.sheets.blocks (128 * (p - 1280) + j)).map BlockSt.bytes).getD (List.replicate 8 0)
  else freePage s.freeCtr p

/-- The page hash of R359: the CRC-64 of each page with its number as the seed tag, combined by exclusive-or. -/
def pageHash (pages : List (Nat × List Byte)) : BitVec 64 :=
  (List.range 4096).foldl (fun h p =>
    let body := ((pages.find? fun x => x.1 = p).map Prod.snd).getD (List.replicate 1024 0)
    h ^^^ crc64 (leBytes 8 p ++ body)) 0

/-- The sender takes the keyframe of a cycle: essence as it stood at the end of the cycle before. -/
def State.takeKeyframe (s : State) (l : Lane) : State :=
  let pages := ((List.range 4096).map fun p => (p, s.essencePage p)).filter fun p => p.2.any (· ≠ 0)
  let head := bytesOf 8 Config.serial ++ fields [(1, s.mod.sid), (1, s.mod.pos)] ++ s.levels ++ leBytes 2 0
    ++ fields [(4, s.rcd.powerCycles), (4, s.net.claim.toNat)] ++ padTo 64 s.img.runDigest ++ bytesOf 8 (pageHash pages)
    ++ leBytes 8 s.acc.accorded.time
  let k : KeyCopy := ⟨s.mod.cycle, head, s.lagMap, pages⟩
  let used := s.rcd.copies.foldl (fun n x => n + x.size) 0
  if recorderRing < used + 1032 * pages.length then s.bump.skipKeyframe s.mod.cycle.toNat 1
  else
    let s1 : State := { s.bump with rcd := { s.rcd with keyframes := s.rcd.keyframes ++ [k] } }
    (s1.modDiag l fun d => { d with keyframe := s.mod.cycle, keyframeBusy := true }).modMmu l fun m => { m with sentPages := [], snapBuf := [] }

/-- T₀ of a cycle at which a keyframe is due, or still due. -/
def keyframeDueOp (s : State) : State :=
  let c := s.mod.cycle.toNat
  let fresh := c % 1000 = 0
  if s.mod.mode = .operate && s.acc.tick = 0 && (fresh || s.rcd.keyframeDue.isSome) then
    let s1 := match s.rcd.keyframeDue with
      | some d => if fresh && d < c then s.skipKeyframe d (if s.copyRuns then 0 else 2) else s
      | none => s
    let s2 : State := { s1 with rcd := { s1.rcd with keyframeDue := none } }
    if s2.copyRuns then
      { s2 with rcd := { s2.rcd with keyframeDue := some (if fresh then c else s.rcd.keyframeDue.getD c) } }
    else match LaneSet.first s2.votingLanes with
    | some l => s2.takeKeyframe l
    | none => s2
  else s

def execKeyframeDue (s : State) : Host.Outcome State Fault Refusal := .next (keyframeDueOp s)

/-! ### The housekeeper (R16, R394) -/

/-- What still waits in the rings when recording stops is missing from the sillage. -/
def State.stopRecording (s : State) : State :=
  let due := s.rcd.copies
  let s1 := s.each due fun s c => s.missCycle c.cycle 1
  { s1 with mod := { s1.mod with hkLost := true }, rcd := { s1.rcd with copies := [], keyframes := [], mark := none } }

/-- The heartbeat has been missing for 100 ms: a reset of the housekeeper, or HOUSEKEEPER_LOST after three within 10 minutes that
have not brought it back. -/
def heartbeatMissingOp (s : State) : State :=
  if s.mod.mode.cycles && !s.mod.hkLost then
    let s1 := s.mapLanes fun _ x => { x with diag := { x.diag with hkAlive := false } }
    if 3 ≤ countWithin s.rcd.opTime 600000 s.mod.hkResets then s1.stopRecording
    else { s1 with mod := { s1.mod with hkResets := s.rcd.opTime :: s.mod.hkResets } }
  else s

def execHousekeeperHeartbeatMissing (s : State) : Host.Outcome State Fault Refusal := .next (heartbeatMissingOp s)

/-- Sixty seconds after HOUSEKEEPER_LOST, where the image requires the recorder. -/
def housekeeperTimeoutOp (s : State) : State :=
  if s.mod.hkLost && s.mod.mode.cycles && s.image.decl.recorderRequired then s.enterSafe 19 else s

def execHousekeeperLostTimeout (s : State) : Host.Outcome State Fault Refusal := .next (housekeeperTimeoutOp s)

/-- Ten seconds of operating time have passed since it was last persisted. -/
def operatingTimeOp (s : State) : State :=
  if s.mod.mode = .off then s
  else
    let t := max s.rcd.opTime (s.rcd.persistOp + 10000)
    { s with rcd := { s.rcd with opTime := t, persistOp := t } }

def execOperatingTimePersist (s : State) : Host.Outcome State Fault Refusal := .next (operatingTimeOp s)

end Sys2Proof.Machine
end

