-- ==== Sys2Proof/Machine/Lanes.lean ====
section
/-!
DEFINITION. A lane on its way back into the vote: the bogie's compare (R353), the steps of a resync (R356–R361) with the essence copy
(R358, R359), and the return of a lane that left for POWER.
-/

namespace Sys2Proof.Machine

/-- A bogie compare finds a difference or times out: the compare buffer is discarded, and the lane leaves the vote (R353). -/
def bogieMismatchOp (l : Lane) (s : State) : State :=
  if !s.mod.mode.lanesRun || s.laneSt l = .hold || s.laneSt l = .failed || s.laneSt l = .out then s
  else (s.modCore l fun c => { c with mismatch := true, cmpBuf := [] }).leaveVote l 1 0

def execBogieMismatch (lane : Lane) (_timeout : Bool) (s : State) : Host.Outcome State Fault Refusal := .next (bogieMismatchOp lane s)

/-- Step 1 ends: the image has been reloaded, and its digest checked; a wrong one is reloaded from the majority (R361, R432). -/
def imageReloadOp (l : Lane) (digestOk reloadOk : Bool) (s : State) : State :=
  let r := (s.lane l).core.resync
  if !s.inStep l 1 || (r.waitClock && r.syncRounds < 10) then s
  else
    let go (s : State) : State := s.modResync l fun r =>
      if r.needsTest then { r with step := 2, reloaded := !digestOk } else { r.toCopy 1 with reloaded := !digestOk }
    if digestOk then go s
    else if reloadOk then go (s.record 0x0607 (fields [(1, l.id), (1, 0), (2, 0)]))
    else (s.record 0x0607 (fields [(1, l.id), (1, 1), (2, 0)])).failResync l .out

/-- Step 2 ends (R361). -/
def resyncTestOp (l : Lane) (passed : Bool) (s : State) : State :=
  if !s.inStep l 2 then s
  else if passed then s.modResync l fun r => r.toCopy 1
  else s.failResync l .failed

/-! ### The copy (R358, R359) -/

/-- The bytes of a lane's essence. -/
def MmuS.essence (m : MmuS) : List (Nat × Byte) := m.bytes.filter fun p => 0x10000000 ≤ p.1 && p.1 < 0x10400000

/-- A memory with its essence replaced. -/
def MmuS.withEssence (m : MmuS) (e : List (Nat × Byte)) : MmuS :=
  { m with bytes := (m.bytes.filter fun p => p.1 < 0x10000000) ++ e ++ m.bytes.filter fun p => 0x10400000 ≤ p.1 }

/-- T₀: the copy is armed; the receiver's stored cycles begin with this one (R358, R360). -/
def copyArmedOp (l : Lane) (s : State) : State :=
  let r := (s.lane l).core.resync
  if s.mod.mode.cycles && s.acc.tick = 0 && s.inStep l 3 && r.armWait = 0 && !r.copyRunning then
    match LaneSet.first s.votingLanes with
    | none => s
    | some m =>
      let s1 := s.modMmu m MmuS.clearSent
      let s2 := s1.modMmu l fun k => { k with incoming := (s.lane m).mmu.essence }
      (s2.modResync l fun r => { r with copyRunning := true, pages := 0, behind := 0 }).modCore l fun c => { c with stored := 0 }
  else s

/-- A write reaches a page that has not been sent: the page goes to the snapshot buffer first (R358). The buffer holds 1 024 pages;
older ones have been sent, or RESYNC_COPY_FAILED reports its overflow. -/
def copyBeforeWriteOp (m : Lane) (page : Nat) (s : State) : State :=
  let copies := (Lane.all.any s.receiving && LaneSet.first s.votingLanes = some m) || (s.lane m).diag.keyframeBusy
  if copies && !(s.lane m).mmu.sentPages.contains page then
    s.modMmu m fun k => { k with sentPages := insertNat page k.sentPages, snapBuf := (page :: k.snapBuf).take 1024 }
  else s

def execCopyBeforeWrite (sender : Lane) (page : Fin 4096) (s : State) : Host.Outcome State Fault Refusal :=
  .next (copyBeforeWriteOp sender page.val s)

/-- The pages that a lane has received (R358). -/
def MmuS.receivedPages (m : MmuS) : List (Nat × List Byte) :=
  (List.range 4096).map fun p => (p, (List.range 1024).map fun i =>
    ((m.incoming.find? fun c => c.1 = 0x10000000 + 1024 * p + i).map Prod.snd).getD 0)

/-- The copy has reached its end: equal page hashes bring the lane to catch-up at P0 (R359, R361). -/
def copyCompleteOp (l : Lane) (senderHash : BitVec 64) (s : State) : State :=
  if !s.receiving l then s
  else if senderHash ≠ pageHash (s.lane l).mmu.receivedPages then s.copyFails l
  else
    let s1 := s.mapLanes fun _ x => { x with mmu := x.mmu.clearSent }
    let s2 := s1.modMmu l fun m => { m.withEssence m.incoming with incoming := [] }
    let s3 := s2.modResync l fun r => { r with step := 4, copyRunning := false, pages := 4096 }
    let s4 := s3.commitBogie l 6 1
    if (s4.lane l).pwr.level = 0 then s4 else s4.stepUp l

/-! ### Catch-up and probation (R361) -/

/-- The stored cycles have been run. -/
def catchUpOp (l : Lane) (s : State) : State :=
  let cycles := (s.lane l).core.resync.behind
  if s.inStep l 4 then
    if cycles ≤ 3000 then (s.endCatchUp l).modResync l fun r => { r with step := 5, behind := 0, caughtUp := cycles, probation := 0 }
    else s.failResync l .out
  else s

/-- Three thousand cycles without having caught up. -/
def catchUpTimeoutOp (l : Lane) (s : State) : State := if s.inStep l 4 then s.failResync l .out else s

/-- Three consecutive probation cycles have been in step: the lane rejoins at the next T₀. The output accord counts them, and takes a
lane with a difference back to step 3. -/
def probationOp (l : Lane) (s : State) : State :=
  if s.inStep l 5 && 3 ≤ (s.lane l).core.resync.probation then s.modResync l fun r => { r with step := 6 } else s

/-- Thirty seconds have passed since the lane entered RESYNC; they do not count while it waits for a mode with cycles (R356). -/
def resyncTimeoutOp (l : Lane) (s : State) : State :=
  if s.mod.mode.cycles && s.laneSt l = .resync && !(s.lane l).core.resync.waiting then s.failResync l .out else s

/-- Rails and canary have been good for 60 s, the canary with 1.25 times the required speed at P0, read or estimated (R59): a lane that is OUT for POWER enters RESYNC, within the limit of R357 (R356). -/
def powerRecoveryOp (l : Lane) (s : State) : State :=
  if s.mod.mode.lanesRun && s.laneSt l = .out && (s.lane l).core.cause = 8 && s.autoResyncs l < 3
      && s.required * 125 ≤ (s.lane l).speedAtLevel 0 * 100 then
    (s.modPwr l fun p => { p with railFault := false }).beginResync l 8
  else s

def execPowerRecovery (lane : Lane) (s : State) : Host.Outcome State Fault Refusal := .next (powerRecoveryOp lane s)

/-- An image activation or a sheet switch takes effect: resyncs under way start again at step 1 (R361). -/
def State.restartResyncs (s : State) : State :=
  (s.each Lane.all State.endCatchUp).mapLanes fun _ x =>
    if x.core.st = .resync then
      let r := x.core.resync
      let q : ResyncS := { ResyncS.none with
        step := 1, needsTest := r.needsTest, waitClock := r.waitClock, syncRounds := r.syncRounds, since := r.since, waiting := r.waiting }
      { x with core := { x.core with stored := 0, resync := q }, mmu := { x.mmu.clearSent with incoming := [] } }
    else x

end Sys2Proof.Machine
end

