-- ==== Sys2Proof/Machine/Memory.lean ====
section
/-!
DEFINITION. Memory errors by region class (R443, R444, R457), faults of translation and of the guard windows (R446–R448, R454–R456),
and the ends of a DMA channel's transfers (R450–R455).
-/

namespace Sys2Proof.Machine

/-! ### Memory errors -/

/-- Essence 0, DRAM 1 (R460). -/
def memoryCode (a : Nat) : Nat := if inEssence a then 0 else 1

/-- What the register space shows of a memory error (R458). -/
def MmuS.countEcc (m : MmuS) (a : Nat) (corrected : Bool) : MmuS :=
  match inEssence a, corrected with
  | true, true => { m with essCorr := satAdd 0xFFFF m.essCorr 1, corrected := insertNat ((a - 0x10000000) / 8) m.corrected }
  | true, false => { m with essUnc := satAdd 0xFFFF m.essUnc 1, eccAddr := BitVec.ofNat 32 (a / 16), poisoned := insertNat (a / 8) m.poisoned }
  | false, true => { m with dramCorr := satAdd 0xFFFF m.dramCorr 1 }
  | false, false => { m with dramUnc := satAdd 0xFFFF m.dramUnc 1, eccAddr := BitVec.ofNat 32 (a / 16), poisoned := insertNat (a / 8) m.poisoned }

/-- A locked sequence ends at its failing access (R466). -/
def ArbS.failAccess (a : ArbS) (requester : Option Nat) : ArbS := if a.locked && requester = some a.owner then a.unlock else a

/-- The item of an INPUT region that a lane does not hold after an error (R444): a received frame, a command or a partner block. Which
item lies at an address is the executive's layout, so its index is a free value (log entry 42). -/
def State.dropInput (s : State) (l : Lane) (a : Nat) : State :=
  let i := (Config.freeWord s.freeCtr).toNat
  if a < 0x4A100000 then
    let keys := Tab.keys (s.acc.bufs.get l)
    let drop (t : Tab NodeBuf) : Tab NodeBuf :=
      match keys[i % (keys.length + 1)]? with
      | some n => Tab.modify t n fun b => { b with newer := none }
      | none => t
    { s.bump with acc := { s.acc with bufs := s.acc.bufs.modify l drop } }
  else if a < 0x4A500000 then
    let keys := Tab.keys (s.host.rings.get l)
    let drop (t : Tab (List RingCmd)) : Tab (List RingCmd) :=
      match keys[i % (keys.length + 1)]? with
      | some q => Tab.modify t q fun r => r.eraseIdx (i / (keys.length + 1) % (r.length + 1))
      | none => t
    { s.bump with host := { s.host with rings := s.host.rings.modify l drop } }
  else { s with plink := { s.plink with block := s.plink.block.set l none } }

/-- The lane writes no reply: the oldest reply that waits loses this lane's copy, and R310 applies. -/
def State.dropReply (s : State) (l : Lane) : State :=
  match s.host.replies.findIdx? fun r => (r.lanes.get l).isSome with
  | some i => { s with host := { s.host with replies := s.host.replies.modify i fun r => { r with lanes := r.lanes.set l none } } }
  | none => s

/-- ECC_UNCORRECTED (R460). -/
def State.recordUncorrected (s : State) (l : Lane) (a : Nat) (requester : Option Nat) : State :=
  s.recordLane l 0x0131 (fields [(1, memoryCode a), (1, if inEssence a then 0 else dramClass a), (1, requester.getD 0xFF), (1, 0), (4, a / 16)])

/-- An uncorrectable error (R444, R457, R466). -/
def eccUncorrectableOp (l : Lane) (requester : Option Nat) (a : Nat) (afterProposal isReply : Bool) (s : State) : State :=
  if s.mod.mode.lanesRun && inRam a then
    let s1 := s.modLane l fun x =>
      let y := { x with mmu := x.mmu.countEcc a false }
      if inEssence a then { y with arbE := y.arbE.failAccess requester } else { y with arbD := y.arbD.failAccess requester }
    let s2 := s1.recordUncorrected l a requester
    if inEssence a || dramClass a = 1 then s2.leaveVote l 2 0
    else if dramClass a = 2 then
      if isReply then s2.dropReply l else if afterProposal then s2.leaveVote l 2 0 else s2.dropInput l a
    else if a < 0x4D000000 then s2.modDiag l fun d => { d with dropSil := satAdd 0xFFFF d.dropSil 1 }
    else if a < 0x4D010000 then s2.modPerf l fun p => { p with lost := p.lost + 1 }
    else s2
  else s

def execEccUncorrectable (lane : Lane) (requester : Option (Fin 8)) (addr : BitVec 36) (afterProposal isReply : Bool) (s : State) :
    Host.Outcome State Fault Refusal :=
  .next (eccUncorrectableOp lane (requester.map Fin.val) addr.toNat afterProposal isReply s)

/-- A single-bit error is corrected and written back: a lane-local event (R36, R443). -/
def eccCorrectedOp (l : Lane) (a : Nat) (s : State) : State :=
  if s.mod.mode.lanesRun && inRam a then
    let s1 := s.modMmu l fun m => m.countEcc a true
    (s1.recordLane l 0x0130 (fields [(1, memoryCode a), (3, 0), (4, a / 16)])).countEvent l 0x0303 1 none (some a)
  else s

def execEccCorrected (lane : Lane) (addr : BitVec 36) (s : State) : Host.Outcome State Fault Refusal :=
  .next (eccCorrectedOp lane addr.toNat s)

/-- Words of DRAM that one scrub pass reads (R438: 512 MiB). -/
def scrubWords : Nat := 67108864

/-- The scrubber reads the next word; a poisoned word reports its error again (R443, R444). It rests in self-refresh. -/
def scrubReadOp (l : Lane) (s : State) : State :=
  if s.mod.mode.lanesRun && s.mod.mode ≠ .dormant && (s.lane l).clk.gateDram then
    let w := (s.lane l).mmu.scrubWord
    let s1 := s.modMmu l fun m =>
      if w + 1 = scrubWords then { m with scrubWord := 0, scrubPasses := satAdd 0xFFFF m.scrubPasses 1 } else { m with scrubWord := w + 1 }
    let a := 0x40000000 + 8 * w
    if (s.lane l).mmu.bad a then eccUncorrectableOp l none a false false s1 else s1
  else s

def execScrubRead (lane : Lane) (s : State) : Host.Outcome State Fault Refusal := .next (scrubReadOp lane s)

/-! ### Access faults (R446, R454, R456) -/

/-- Read 0, write 1, fetch 2 (R460). -/
def accessCode : Access → Nat
  | .read => 0
  | .write => 1
  | .fetch => 2

/-- The current run goes on with the next block instance; the one that it was at keeps its outputs and its record (R456). -/
def State.skipBlock (s : State) : State :=
  match s.sheets.current with
  | some t => match (s.image.taskBlocks t)[(s.taskSt t).next]? with
    | some p => ({ s with sheets := { s.sheets with charged := s.sheets.charged + blockCharge p.2.type p.2.inputs.length } } : State).modTask t
        fun x => { x with next := x.next + 1 }
    | none => s
  | none => s

/-- The run pre-empted last is abandoned: its buffers are discarded, and its instances keep their state (R181, R456). -/
def State.dropPreempted (s : State) : State :=
  match s.sheets.preempted with
  | t :: rest => ({ s with sheets := { s.sheets with preempted := rest } } : State).modTask t fun x =>
      { x with running := false, ready := false, next := 0, buf := .empty }
  | [] => s

/-- A verdict with one entry carried from the previous resolved vector (R456). -/
def State.carried (s : State) (v : Verdict) (isRoute : Bool) (id : Nat) : Verdict :=
  if isRoute then { v with routes := Tab.put v.routes id (s.ixl.resolved.route id) }
  else { v with elems := Tab.put v.elems id (s.ixl.resolved.elem id) }

/-- What a data-caused fault does where it strikes (R456). -/
def State.strike (s : State) (site : FaultSite) : State :=
  match site with
  | .elsewhere => s
  | .graph r i => if s.formsRun && !s.ixl.graphDone then { s with ixl := { s.ixl with graphV := s.carried s.ixl.graphV r i } } else s
  | .engine r i => if s.formsRun then { s with ixl := { s.ixl with tableV := s.carried s.ixl.tableV r i } } else s
  | .block => s.skipBlock
  | .command => { s with host := { s.host with spoilt := true } }
  | .context => s.dropPreempted

/-- An address translation ends with a cause: the registers, the record, and what it does where it strikes. Every lane meets a data-caused
fault at the same access (R454), so the first voting lane's stands for all of them (log entry 43). The DMA group's faults stand in its
channel's registers. -/
def translationFaultOp (l : Lane) (master : Master) (acc : Access) (va : Nat) (site : FaultSite) (s : State) : State :=
  let m := (s.lane l).mmu
  match m.translate master.code va acc with
  | .ok _ => s
  | .error c =>
    if !s.mod.mode.lanesRun || master = .dma then s
    else
      let s1 := s.modMmu l fun m => { m with
        faultVa := BitVec.ofNat 32 va, faultCause := c, faultMaster := master.code, faultWrite := acc = .write, faultFetch := acc = .fetch }
      let s2 := s1.placeRecord l 0x0132 (fields [(1, c), (1, master.code), (1, accessCode acc), (1, 0), (4, va)])
      if LaneSet.first s.votingLanes = some l then s2.strike site else s2

def execTranslationFault (lane : Lane) (master : Master) (access : Access) (fault : FaultPlace) (s : State) :
    Host.Outcome State Fault Refusal :=
  .next (translationFaultOp lane master access fault.va.toNat fault.site s)

/-- The entry of a TLB for a page, as a new walk finds it, newest first; at most 64 entries (R447). -/
def MmuS.refill (m : MmuS) (master vpn : Nat) : MmuS :=
  let rest (r : MmuMaster) : List TlbEntry := r.tlb.filter fun e => e.vpn ≠ vpn
  m.modMaster master fun r =>
    match m.walk r.root (vpn * 4096) with
    | .ok e => { r with tlb := (e :: rest r).take 64 }
    | .error _ => { r with tlb := rest r }

/-- A TLB entry with a parity error is discarded and walked again (R447). -/
def tlbParityOp (l : Lane) (master vpn : Nat) (s : State) : State :=
  if s.mod.mode.lanesRun then
    let s1 := s.modMmu l fun m => { m.refill master vpn with tlbPerr := satAdd 0xFFFFFFFF m.tlbPerr 1 }
    let pa := match (s.lane l).mmu.translate master (vpn * 4096) .read with
      | .ok a => a / 16
      | .error _ => 0
    s1.recordLane l 0x0130 (fields [(1, 2), (3, 0), (4, pa)])
  else s

def execTlbParityError (lane : Lane) (master : Master) (vpn : BitVec 20) (s : State) : Host.Outcome State Fault Refusal :=
  .next (tlbParityOp lane master.code vpn.toNat s)

/-- The guard window of a requester with physical addresses (R448): the accord link reaches essence and the partner and message
buffers, the recorder path its ring, the debug master what the main core reaches, on a module with LAB. -/
def State.guardAllows (s : State) (requester a : Nat) : Bool :=
  match requester with
  | 5 => inEssence a || (0x4A000000 ≤ a && a < 0x4A900000)
  | 6 => 0x4B000000 ≤ a && a < 0x4D000000
  | 7 => s.mod.lab && !(s.mod.sealed && !s.mod.bench) && inMap a
  | _ => true

/-- An access outside the window: refused and recorded, with the requester's number in the place of a master; the lane keeps voting. -/
def State.guardRefuse (s : State) (l : Lane) (requester a write : Nat) : State :=
  (s.modMmu l fun m => { m with guardRefused := satAdd 0xFFFF m.guardRefused 1 }).recordLane l 0x0132
    (fields [(1, 8), (1, requester), (1, write), (1, 0), (4, a)])

def guardFaultOp (l : Lane) (requester a : Nat) (s : State) : State :=
  if s.mod.mode.lanesRun && (s.lane l).mmu.guardLocked && !s.guardAllows requester a then s.guardRefuse l requester a 0 else s

def execGuardFault (lane : Lane) (requester : Fin 8) (addr : BitVec 36) (s : State) : Host.Outcome State Fault Refusal :=
  .next (guardFaultOp lane requester.val addr.toNat s)

/-! ### DMA (R450–R455) -/

/-- Bytes that a stream in brings: free values. -/
def streamBytes (ctr n : Nat) : List Byte := (List.range n).map fun i => Config.freeByte (4194304 * ctr + i)

/-- A transfer moves up to a count of bytes of its descriptor, if none of them faults. -/
def State.dmaMove (s : State) (l : Lane) (c upTo : Nat) : Option State :=
  let x := s.lane l
  let h := x.chan c
  let n := upTo - h.moved
  match x.advance c n (streamBytes s.freeCtr n) with
  | none => none
  | some y =>
    let t : State := { s with freeCtr := s.freeCtr + 4, lanes := s.lanes.set l y }
    let cvu := if h.bound.isSome then n else 0
    some ((t.countEvent l 0x0401 n none none).countEvent l 0x0403 cvu none none)

/-- STATUS with its result and cause, and OWN cleared (R450). -/
def LaneS.postStatus (x : LaneS) (c result cause : Nat) : LaneS :=
  let h := x.chan c
  let va := h.slotVa h.head
  match x.dmaRead va 1 with
  | some [b] =>
    let y := (x.dmaWrite va [b &&& 0xFE]).getD x
    (y.dmaWrite (va + 24) (leBytes 4 (result + 4 * cause))).getD y
  | _ => x

/-- HEAD passes the descriptor. -/
def LaneS.passHead (x : LaneS) (c : Nat) : LaneS :=
  x.modChan c fun h => { h with head := (h.head + 1) % max 1 h.size, cur := none, moved := 0, waiting := false, saved := false }

/-- A channel finishes its descriptor: the data, the completion, and the next descriptor. One of LENGTH 0 touches no unit (R451). -/
def dmaCompleteOp (l : Lane) (c : Nat) (s : State) : State :=
  let h := (s.lane l).chan c
  match h.cur with
  | some d =>
    if s.mod.mode.lanesRun && h.st = .running && !h.waiting && d.good then
      match s.dmaMove l c d.length with
      | none => s
      | some t =>
        let u := t.modLane l fun x =>
          let y := ((x.postStatus c 1 0).unbindUnit c).passHead c
          (y.modChan c fun h => { h with done := (h.done + 1) % 65536, notified := h.notified || d.notify }).startNext c
        u.countEvent l 0x0402 1 none none
    else s
  | none => s

def execDmaDescriptorComplete (lane : Lane) (channel : Fin 8) (s : State) : Host.Outcome State Fault Refusal :=
  .next (dmaCompleteOp lane channel.val s)

/-- The fault registers of a channel (R455, R459). -/
def LaneS.faultChan (x : LaneS) (c cause va : Nat) (write : Bool) : LaneS :=
  let pa := match x.mmu.translate 5 va (if write then .write else .read) with
    | .ok a => some (a / 4096)
    | .error 2 | .error 4 => match (Tab.get? x.mmu.masters 5).map fun (r : MmuMaster) => x.mmu.walk r.root va with
      | some (.ok e) => some e.frame
      | _ => none
    | .error _ => none
  (x.saveChan c).modChan c fun h => { h with
    st := .faulted, cause := cause, faultVa := BitVec.ofNat 32 va, faultFrame := pa.getD 0, faultValid := pa.isSome
    infoCause := cause, infoMaster := dmaRequester c, infoWrite := write, waiting := false }

/-- DMA_FAULT (R460): a data-caused fault is identical in every lane (R454). -/
def State.recordDma (s : State) (l : Lane) (c cause va : Nat) : State :=
  let h := (s.lane l).chan c
  let body := fields [(1, c), (1, cause), (1, dmaRequester c), (1, h.saveDesc), (4, va), (4, h.remain)]
  if cause ≤ 5 then s.placeRecord l 0x0133 body else s.recordLane l 0x0133 body

/-- A keyframe that the faulting transfer was taking is skipped (R456). -/
def State.spoilKeyframe (s : State) (l : Lane) (c cause : Nat) : State :=
  let d := (s.lane l).diag
  if c = 5 && cause ≤ 5 && d.keyframeBusy then
    let t := s.modDiag l fun d => { d with keyframeBusy := false }
    { t with rcd := { t.rcd with keyframes := t.rcd.keyframes.filter fun k => k.cycle ≠ d.keyframe } }
  else s

/-- What a data-caused fault of a channel costs (R456): the items of the transfer count as not held, a node has no CMD frame in the cycle (which,
is a free value, log entry 42), or the operation that needed the transfer fails. -/
def State.spoilTransfer (s : State) (l : Lane) (c : Nat) : State :=
  match c with
  | 0 => s.dropInput l 0x4A000000
  | 2 => s.dropInput l 0x4A100000
  | 3 => s.dropInput l 0x4A500000
  | 1 =>
    let keys := Tab.keys s.image.nodes
    match keys[(Config.freeWord s.freeCtr).toNat % (keys.length + 1)]? with
    | some n => { s.bump with net := { s.net with noFrame := insertNat n s.net.noFrame } }
    | none => s.bump
  | 4 =>
    let t : State := { s with img := { s.img with armed := s.img.armed.set l false } }
    t.modDiag l fun d => { d with dmaFailed := insertNat 4 d.dmaFailed }
  | 6 => { s with img := { s.img with judged := none } }
  | 7 => s.modDiag l fun d => { d with dmaFailed := insertNat 7 d.dmaFailed }
  | _ => s

/-- A channel meets a fault at the byte after `done`: it stops precisely there (R455). A fault takes precedence over a suspend. -/
def dmaFaultOp (l : Lane) (c cause va done : Nat) (write : Bool) (s : State) : State :=
  let h := (s.lane l).chan c
  let live := h.st = .running || h.st = .suspending
  if s.mod.mode.lanesRun && live && 1 ≤ cause && cause ≤ 7 then
    let len := (h.cur.map Descriptor.length).getD 0
    let good := h.cur.any Descriptor.good
    let s1 := if good && h.moved ≤ done && done < len then (s.dmaMove l c done).getD s else s
    let s2 := s1.modLane l fun x => x.faultChan c cause va write
    let s3 := (s2.recordDma l c cause va).spoilKeyframe l c cause
    if cause ≤ 5 then s3.spoilTransfer l c else s3
  else s

def execDmaFault (lane : Lane) (channel : Fin 8) (cause : AccessCause) (va : Word) (done : Nat) (write : Bool) (s : State) :
    Host.Outcome State Fault Refusal :=
  .next (dmaFaultOp lane channel.val cause.code va.toNat done write s)

/-- A suspend takes effect at the end of the burst, with `done` bytes moved (R453). -/
def dmaSuspendedOp (l : Lane) (c done : Nat) (s : State) : State :=
  let h := (s.lane l).chan c
  if s.mod.mode.lanesRun && h.st = .suspending then
    let len := (h.cur.map Descriptor.length).getD 0
    let s1 := if h.cur.any Descriptor.good && h.moved ≤ done && done ≤ len then (s.dmaMove l c done).getD s else s
    s1.modLane l fun x => (x.saveChan c).modChan c fun h => { h with st := .suspended }
  else s

def execDmaSuspended (lane : Lane) (channel : Fin 8) (done : Nat) (s : State) : Host.Outcome State Fault Refusal :=
  .next (dmaSuspendedOp lane channel.val done s)

end Sys2Proof.Machine
end

