-- ==== Sys2Proof/Machine/Sheets.lean ====
section
/-!
DEFINITION. Logic sheets at work: values and blocks (R154–R163, R166, R167, R169), tasks, dispatch points and runs (R35, R170–R174,
R176), and the retained state (R177).
-/

namespace Sys2Proof.Machine

/-! ### Values (R154, R155) -/

/-- Sheet time: ten ticks a cycle, modulo 2³² (R155). -/
def State.sheetTime (s : State) : Nat := (10 * s.mod.cycle.toNat + s.acc.tick) % 2 ^ 32

/-- The state record of a block. -/
def BlockSt.zero : BlockSt := ⟨0, 0, false, false, false, false, false, []⟩

def State.blockSt (s : State) (i : Nat) : BlockSt := Tab.getD s.sheets.blocks i .zero

/-- a − b on 32 bits. -/
def sub32 (a b : Nat) : Nat := (a + 2 ^ 32 - b % 2 ^ 32) % 2 ^ 32

/-- ET of a timer (R159). -/
def elapsed (x : BlockSt) (t : Nat) : Nat := if x.running then min (sub32 t x.a.toNat) x.b else if x.expired then x.b else 0

/-- The value of an output of a block (R157, R161). ST of a request block reads 0xFFFF until a request has been judged (R165). -/
def State.output (s : State) (i n : Nat) : Nat :=
  match Tab.get? s.image.blocks i with
  | none => 0
  | some d =>
    let x := s.blockSt i
    match d.type, n with
    | 0x18, 0 | 0x2B, 0 => x.a.toNat
    | 0x09, 1 | 0x0A, 1 | 0x0B, 1 => elapsed x (s.taskSt d.task).runTick
    | 0x22, 1 | 0x23, 1 => if x.init then x.a.toNat % 65536 else 0xFFFF
    | 0x29, 1 => x.b % 65536
    | 0x29, k + 2 => ((x.data[k]?).getD 0).toNat
    | _, 0 => b2n x.q
    | _, 1 => x.a.toNat
    | _, _ => 0

/-- The value of a reference word for an input of a type (R154, R155). -/
def State.refValue (s : State) (task w : Nat) (want : Option Nat) : Nat :=
  let bool (v : Nat) (isBool : Bool) : Nat := if isBool && bitOf w 27 then 1 - min 1 v else v
  match w / 2 ^ 28 with
  | 0x0 =>
    let isBool := ((Tab.get? s.image.blocks (bits w 17 0)).bind fun b => outType b (bits w 21 18)) = some tBool
    bool (s.output (bits w 17 0) (bits w 21 18)) isBool
  | 0x1 =>
    let v := bits w 26 0
    if want = some tBool then bool (min 1 v) true
    else if want = some tDint then (signed 27 v % (2 ^ 32 : Int)).toNat
    else v
  | 0x2 =>
    let ch := bits w 5 0
    if bitOf w 6 then Tab.getD s.acc.accorded.counts ch 0 else bool (b2n (s.acc.accorded.chans.getLsbD ch)) true
  | 0x3 => bool (s.fieldRef w) (bits w 23 19 = 0)
  | 0x6 =>
    match bits w 7 0 with
    | 0 => bool (b2n !(s.taskSt task).ran) true
    | 1 => s.sheetTime
    | 2 => bool (b2n s.degraded) true
    | 3 => bool (b2n !(s.agedOut (bits w 16 8) 6)) true
    | _ => 0
  | _ => 0

/-! ### Blocks (R158–R163) -/

/-- What a timer's evaluation gives (R159): START, PT_ACT, RUNNING, EXPIRED, Q, PREV. -/
def timerStep (type pt t : Nat) (inp : Bool) (x : BlockSt) : BlockSt :=
  let done (y : BlockSt) : Bool := y.running && y.b ≤ sub32 t y.a.toNat
  let start (y : BlockSt) : BlockSt := { y with running := true, a := BitVec.ofNat 32 t }
  let y : BlockSt :=
    match type with
    | 0x09 =>
      let y := if !inp then { x with running := false, expired := false } else if !x.running && !x.expired then start x else x
      let z := if done y then { y with running := false, expired := true } else y
      { z with q := z.expired }
    | 0x0A =>
      let y := if inp then { x with running := false, expired := false, q := true } else if x.q && !x.running then start x else x
      if done y then { y with running := false, expired := true, q := false } else y
    | _ =>
      let y := if !x.running && !x.expired && inp && !x.prev then start x else x
      let y := if done y then { y with running := false, expired := true } else y
      let z := if y.expired && !inp then { y with expired := false } else y
      { z with q := z.running, prev := inp }
  if y.running then y else { y with b := pt }

/-- A counter's value, saturating at the DINT limits (R160). -/
def countUp (a : Word) : Word := if a = 0x7FFFFFFF then a else a + 1
def countDown (a : Word) : Word := if a = 0x80000000 then a else a - 1

/-- A comparison of two values of a type (R158). -/
def compareOp (type dtype a b : Nat) : Bool :=
  let x : Int := if dtype = tDint then signed 32 a else a
  let y : Int := if dtype = tDint then signed 32 b else b
  match type with
  | 0x10 => decide (x = y)
  | 0x11 => decide (x ≠ y)
  | 0x12 => decide (x < y)
  | 0x13 => decide (x ≤ y)
  | 0x14 => decide (y < x)
  | _ => decide (y ≤ x)

/-- The field of an element that ELEM_COND reads (R162). -/
def condField (x : ElemSt) (sel : Nat) : Nat :=
  match sel with
  | 0 => x.state
  | 1 => b2n x.fa
  | 2 => b2n x.fb
  | 3 => b2n x.fc
  | 4 => b2n x.unproven
  | 5 => x.cmd
  | 6 => b2n x.reserved
  | _ => x.holders

/-- Types whose first evaluation takes PREV from the current input (R160). -/
def takesPrev (type : Nat) : Bool := type = 0x07 || type = 0x08 || type = 0x0B || type = 0x0C || type = 0x0D || type = 0x28

/-- What one evaluation gives beside its record: a request, an output value, a message, an event (R163, R166, R167, R174). -/
structure BlockOut where
  st   : BlockSt
  req  : Bool
  out  : Option Nat
  msg  : Option (List Word)
  evt  : Option Nat
deriving DecidableEq, Repr

/-- One block's evaluation (R156–R163, R166, R167, R169). The spec does not say what Q of MSG_SEND shows: it is TRUE in the evaluation
that sends and FALSE otherwise (DESIGN CHOICE, log entry 143). -/
def State.evalBlock (s : State) (task i : Nat) (d : BlockDef) : BlockOut :=
  let ins := d.inputs.zipIdx.map fun p => s.refValue task p.1 (inType d p.2)
  let inp (n : Nat) : Nat := (ins[n]?).getD 0
  let on (n : Nat) : Bool := inp n ≠ 0
  let old := s.blockSt i
  let x0 : BlockSt := if !old.init && takesPrev d.type then { old with prev := on 0 } else old
  let x : BlockSt := { x0 with init := true }
  let t := (s.taskSt task).runTick
  let only (y : BlockSt) : BlockOut := ⟨y, false, none, none, none⟩
  let q (b : Bool) : BlockOut := only { x with q := b }
  let edge (b : Bool) : BlockOut := only { x with q := b, prev := on 0 }
  match d.type with
  | 0x01 => q (!on 0)
  | 0x02 => q (ins.all (· ≠ 0))
  | 0x03 => q (ins.any (· ≠ 0))
  | 0x04 => q ((ins.filter (· ≠ 0)).length % 2 = 1)
  | 0x05 => q (on 0 || (!on 1 && x.q))
  | 0x06 => q (!on 1 && (on 0 || x.q))
  | 0x07 => edge (on 0 && !x.prev)
  | 0x08 => edge (x.prev && !on 0)
  | 0x09 | 0x0A | 0x0B => only (timerStep d.type d.param t (on 0) (if old.init then x else { x with b := d.param }))
  | 0x0C =>
    let cv := if on 1 then 0 else if on 0 && !x.prev then countUp x.a else x.a
    only { x with a := cv, prev := on 0, q := decide (signed 32 d.param ≤ signed 32 cv.toNat) }
  | 0x0D =>
    let cv := if on 1 then BitVec.ofNat 32 d.param else if on 0 && !x.prev then countDown x.a else x.a
    only { x with a := cv, prev := on 0, q := decide (signed 32 cv.toNat ≤ 0) }
  | 0x10 | 0x11 | 0x12 | 0x13 | 0x14 | 0x15 =>
    let b := compareOp d.type d.dtype (inp 0) (inp 1)
    only { x with q := b, a := BitVec.ofNat 32 (b2n b) }
  | 0x18 => only { x with a := BitVec.ofNat 32 (if inp 0 + 1 < ins.length then inp (inp 0 + 1) else 0) }
  | 0x20 =>
    let v := condField (s.ixl.resolved.elem (bits d.param 12 0)) (bits d.param 15 13)
    only { x with a := BitVec.ofNat 32 v, q := decide (v = bits d.param 19 16) != bitOf d.param 20 }
  | 0x21 =>
    let v := (s.ixl.resolved.route (bits d.param 11 0)).st.code
    only { x with a := BitVec.ofNat 32 v, q := decide (v = bits d.param 15 12) != bitOf d.param 16 }
  | 0x22 | 0x23 =>
    let st := Tab.getD s.sheets.status i 0xFFFF
    ⟨{ x with a := BitVec.ofNat 32 st, q := st = stOk || st = stAccepted }, on 0, none, none, none⟩
  | 0x28 =>
    let go := on 0 && !x.prev
    ⟨{ x with q := go, prev := on 0 }, false, none, if go then some ((ins.drop 1).map (BitVec.ofNat 32)) else none, none⟩
  | 0x29 =>
    match Tab.get? s.sheets.inboxes (bits d.param 15 0) with
    | none => q false
    | some box =>
      if box.seq = x.a then q false
      else only { x with q := true, a := box.seq, b := sat16 ((box.seq - x.a).toNat - 1)
                         data := (List.range 8).map fun k => (box.data[k]?).getD 0 }
  | 0x2A => ⟨{ x with q := on 0 }, false, none, none, if on 0 then some (d.param % 8) else none⟩
  | 0x2B => ⟨{ x with q := on 0, a := BitVec.ofNat 32 (inp 0) }, false, some (inp 0), none, none⟩
  | _ => only x

/-- One evaluation and what it leaves: the record, the run's buffers, raised events, and a retained state that has changed. -/
def State.runBlock (s : State) (task i : Nat) (d : BlockDef) : State :=
  let o := s.evalBlock task i d
  let x := s.sheets
  let dirty := d.retain && o.st ≠ s.blockSt i
  let s1 : State := { s with sheets := { x with
    blocks := Tab.put x.blocks i o.st
    charged := x.charged + blockCharge d.type d.inputs.length
    raised := (o.evt.toList).foldl (fun l e => insertNat e l) x.raised
    retainDirty := x.retainDirty || dirty } }
  s1.modTask task fun t => { t with
    next := t.next + 1
    buf := { reqs := if o.req then t.buf.reqs ++ [i] else t.buf.reqs
             outs := t.buf.outs ++ o.out.toList.map fun v => (i, v)
             msgs := t.buf.msgs ++ o.msg.toList.map fun m => (i, m) } }

/-! ### The schedule (R171–R174) -/

/-- The task of highest rank in a list (R172). -/
def State.top (s : State) (l : List Nat) : Option Nat :=
  l.find? fun t => l.all fun u => u = t || !s.image.ranksAbove u t

def State.isEvent (s : State) (t : Nat) : Bool := (Tab.get? s.image.tasks t).any fun d => d.kind = 2

/-- A run starts, or a pre-empted one resumes with its state as it was. -/
def State.startTask (s : State) (t : Nat) : State :=
  let x := s.taskSt t
  let s1 : State := { s with sheets := { s.sheets with current := some t, preempted := removeNat t s.sheets.preempted } }
  if x.running then s1
  else
    let s2 : State := { s1 with sheets := { s1.sheets with charged := s1.sheets.charged + 40 } }
    s2.modTask t fun x => { x with
      ready := false, running := true, next := 0, runTick := x.release, startedIn := some s.mod.cycle.toNat, buf := .empty }

/-- The start of a run fits into what is left of the tick's application work, or the run has started before (R173). -/
def State.mayStart (s : State) (t : Nat) : Bool := (s.taskSt t).running || s.sheets.charged + 40 ≤ tickBudget s.acc.tick

/-- The executive chooses the ready task of highest rank (R172): nothing runs, or an event task comes in place of a periodic one. Where
the start of the chosen run does not fit, the start waits for the next tick, and no lower task runs meanwhile (log entry 141). -/
def State.choose (s : State) : State :=
  let start (s : State) (t : Nat) : State := if s.mayStart t then s.startTask t else s
  match s.sheets.current with
  | none =>
    match s.top (s.readyTasks ++ s.sheets.preempted) with
    | some t => start s t
    | none => s
  | some c =>
    if s.isEvent c then s
    else match s.top (s.readyTasks.filter s.isEvent) with
      | some t => start { s with sheets := { s.sheets with current := none, preempted := c :: s.sheets.preempted } } t
      | none => s

/-- Blocks of the current run, one after the other, while the work up to the next dispatch point and the tick's budget allow. -/
def evalFrom (task limit : Nat) : List (Nat × BlockDef) → State → State
  | [], s => s
  | (i, d) :: r, s =>
    let c := blockCharge d.type d.inputs.length
    if s.sheets.charged < limit && s.sheets.charged + c ≤ tickBudget s.acc.tick then evalFrom task limit r (s.runBlock task i d) else s

/-- A periodic task is released at T₃ (R171, R172, R176). -/
def taskReleaseOp (t : Nat) (s : State) : State :=
  match Tab.get? s.image.tasks t with
  | none => s
  | some d =>
    let c := s.mod.cycle.toNat
    if s.mod.mode = .operate && s.acc.tick = 3 && d.kind = 1 && d.period ≠ 0 && (c % d.period = d.phase || s.sheets.releaseAll = some c) then
      let x := s.taskSt t
      if x.ready || x.running then s.record 0x0420 (fields [(1, t), (3, 0), (4, c)])
      else
        let s1 := s.modTask t fun x => { x with ready := true, release := 10 * c + 3 }
        match s1.sheets.current with
        | some u =>
          if !s1.isEvent u && s1.image.ranksAbove t u then
            { s1 with sheets := { s1.sheets with current := none, preempted := u :: s1.sheets.preempted } }
          else s1
        | none => s1
    else s

def execTaskRelease (task : Fin 16) (s : State) : Host.Outcome State Fault Refusal := .next (taskReleaseOp task.val s)

/-- The current run goes on up to the next dispatch point of the grid: 2 000 work units after the one reached last (R35). -/
def State.runOn (s : State) : State :=
  match s.sheets.current with
  | some t => evalFrom t (2000 * s.sheets.point) ((s.image.taskBlocks t).drop (s.taskSt t).next) s
  | none => s

/-- The current run has evaluated every block before the next dispatch point, and its completion fits: it completes first. -/
def State.runEnds (s : State) : Bool :=
  s.tasksRun && match s.sheets.current with
    | some t => (s.taskSt t).running && (s.taskSt t).next = (s.image.taskBlocks t).length && s.sheets.charged < 2000 * s.sheets.point
        && s.sheets.charged + 40 ≤ tickBudget s.acc.tick
    | none => false

/-- A dispatch point: the choice, and the work up to the next point (R35, R172, R173). -/
def dispatchOp (s : State) : State :=
  if s.tasksRun && s.sheets.point < 20 && !s.runEnds then
    let s1 := s.choose
    ({ s1 with sheets := { s1.sheets with point := s1.sheets.point + 1 } } : State).runOn
  else s

/-- Block instances that the executive has evaluated of the run it is in, in one command; `ended` is a run that completed in it. -/
def evaluatedIn (before after : State) (ended : Option Nat) : Nat :=
  match after.sheets.current with
  | some k => (after.taskSt k).next - (if ended = some k then 0 else (before.taskSt k).next)
  | none => 0

/-- Every lane of the vote counts its task switch and the block instances evaluated (R477). -/
def State.countRun (before after : State) (ended : Option Nat) : State :=
  let turn := b2n (decide (after.sheets.current ≠ before.sheets.current))
  let n := evaluatedIn before after ended
  after.forLanes after.votingLanes fun s l => (s.countEvent l 0x0105 turn none none).countEvent l 0x0501 n none none

/-- A dispatch point in real time. -/
def dispatchPointOp (s : State) : State := s.countRun (dispatchOp s) none

def execDispatchPoint (s : State) : Host.Outcome State Fault Refusal := .next (dispatchPointOp s)

/-- The current run has evaluated every block: its buffers are published, and the next task is chosen and runs on to the next dispatch
point (R164, R166, R167, R172). -/
def runCompleteOp (t : Nat) (s : State) : State :=
  let x := s.taskSt t
  if s.runEnds && s.sheets.current = some t then
    let y := s.sheets
    let s1 : State := { s with sheets := { y with
      current := none, charged := y.charged + 40
      publishing := y.publishing ++ x.buf.reqs.filterMap fun i => (Tab.get? s.image.blocks i).map fun b => ⟨t, i, i, b.type, b.param⟩
      outDone := x.buf.outs.foldl (fun o p => match Tab.get? s.image.blocks p.1 with
        | some b => putPlace o b.param p.2
        | none => o) y.outDone
      msgs := y.msgs ++ x.buf.msgs.filterMap fun m => (Tab.get? s.image.blocks m.1).map fun b => ⟨b.param, b.id, s.mod.cycle.toNat, m.2⟩ } }
    (s1.modTask t fun x => { x with running := false, ran := true, next := 0, buf := .empty }).choose.runOn
  else s

/-- The end of a run in real time. -/
def runEndOp (t : Nat) (s : State) : State := s.countRun (runCompleteOp t s) (some t)

def execRunComplete (task : Fin 24) (s : State) : Host.Outcome State Fault Refusal := .next (runEndOp task.val s)

/-! ### Events (R174) -/

/-- An event latches for a task at a boundary. -/
def State.latchEvent (s : State) (t : Nat) : State :=
  let x := s.taskSt t
  if x.ready || x.running || x.startedIn = some s.mod.cycle.toNat then
    let s1 := s.modTask t fun x => { x with pending := true }
    if x.pending then s1.record 0x0425 (fields [(1, t), (3, 0)]) else s1
  else s.modTask t fun x => { x with ready := true, release := 10 * s.mod.cycle.toNat + s.acc.tick }

/-- Events are latched at a tick boundary; at T₃ once the cycle's vector has been resolved (R162, R174). -/
def eventLatchOp (s : State) : State :=
  if s.mod.mode = .operate && (s.acc.tick ≠ 3 || s.ixl.cmpDone) then
    let evs := s.image.tasks.filter fun p => p.2.kind = 2
    let at3 := s.acc.tick = 3
    let waiting := if at3 then evs.filter fun p => let x := s.taskSt p.1; x.pending && !x.ready && !x.running else []
    let s1 := s.each waiting fun s p =>
      s.modTask p.1 fun x => { x with pending := false, ready := true, release := 10 * s.mod.cycle.toNat + 3 }
    let changed (p : Nat × TaskDef) : Bool :=
      at3 && 1 ≤ p.2.evSrc && p.2.evSrc ≤ 5 && (p.2.evSrc = 3 || s.mod.cycle ≠ 0)
        && Tab.getD s.sheets.evPrev p.1 0 ≠ s.eventSource p.2
    let due := evs.filter fun p => s.sheets.raised.contains (p.1 - 16) || changed p
    let s2 := s1.each due fun s p => s.latchEvent p.1
    { s2 with sheets := { s2.sheets with
      raised := []
      evPrev := if at3 then Tab.mapV evs fun _ d => s.eventSource d else s2.sheets.evPrev } }
  else s

def execEventLatch (s : State) : Host.Outcome State Fault Refusal := .next (eventLatchOp s)

/-! ### Retained state (R177) -/

/-- The retained states are written to flash, at most once in 10 s while they change. -/
def retainedWriteOp (s : State) : State :=
  if s.mod.mode = .operate && s.sheets.retainDirty && (s.sheets.retainSince = 0 || s.sheets.retainSince + 10000 ≤ s.rcd.opTime) then
    { s with sheets := { s.sheets with retained := s.retainedNow, retainDirty := false, retainSince := s.rcd.opTime } }
  else s

def execRetainedStateWrite (s : State) : Host.Outcome State Fault Refusal := .next (retainedWriteOp s)

end Sys2Proof.Machine
end

