-- ==== Sys2Proof/Machine/Rerun.lean ====
section
/-!
DEFINITION. A stored cycle run again without real time: from its accorded set alone, through the supervisors, both forms, the
comparison and the sheets (R57, R360, R371, R411). Catch-up after a partner resync and replay use it.
-/

namespace Sys2Proof.Machine

/-- The vital state that essence carries from one cycle to the next (R358, R441), as the model holds it. -/
structure Vital where
  ixl    : IxlS
  sheets : SheetS
  sup    : SupS
deriving DecidableEq, Repr

/-- What 4 096 essence pages hold as vital state: the executive's layout within R441 is not published, so this is a constant
without a body (log entry 36). -/
opaque Config.essenceVital : List (Nat × List Byte) → Option Vital

/-- The instance state records that pages hold: record i stands at 8 × i in its range, 128 to a page; a page that is absent is zeros
(R161, R407, R441). -/
def pageRecord (pages : List (Nat × List Byte)) (i : Nat) : List Byte :=
  (((((pages.find? fun p => p.1 = 1280 + i / 128).map Prod.snd).getD []).drop (8 * (i % 128))).take 8)

/-- The vital state that pages hold takes the place of the state's own; pages that hold none leave it. The instances' state records are read
where R441 puts them. -/
def State.loadEssence (s : State) (pages : List (Nat × List Byte)) : State :=
  let t : State := match Config.essenceVital pages with
    | some v => { s with ixl := v.ixl, sheets := v.sheets, sup := v.sup }
    | none => s
  let record (i : Nat) (_ : BlockDef) : BlockSt := BlockSt.ofBytes (padTo 8 (pageRecord pages i)) (Tab.getD t.sheets.blocks i .zero).data
  { t with sheets := { t.sheets with blocks := Tab.mapV t.image.blocks record } }

/-- The runs that end before the next dispatch point complete, each as soon as it has evaluated its blocks. -/
def State.endRuns : Nat → State → State
  | 0, s => s
  | n + 1, s =>
    match s.sheets.current with
    | some c => if s.runEnds then State.endRuns n (runCompleteOp c s) else s
    | none => s

/-- One dispatch point of a tick, with the runs that end before the next: at most 25, as a run is charged at least 80 work units. -/
def State.pointOf (s : State) : State := State.endRuns 25 (dispatchOp s)

/-- The sheet work of one tick: releases and events at its boundary, then its twenty dispatch points (R35, R171–R174). -/
def State.sheetTick (s : State) (k : Nat) : State :=
  let s1 : State := { s with acc := { s.acc with tick := k }, sheets := { s.sheets with charged := 0, point := 0 } }
  let s2 := if k = 3 then s1.each (List.range 16) fun s t => taskReleaseOp t s else s1
  (eventLatchOp s2).each (List.range 20) fun s _ => s.pointOf

/-- A cycle computed from its accorded set; `intake` is what non-vital commands of the cycle do. -/
def State.runCycle (s : State) (cycle : Word) (a : Accorded) (intake : State → State) : State :=
  let t0 : State := { s with
    mod := { s.mod with mode := .operate, cycle := cycle }
    acc := { s.acc with accorded := a, tick := 0, isOpen := false, judged := [] }
    sup := { s.sup with passed := false, stopStaged := [] }
    ixl := { s.ixl with phase := 1, graphDone := false, cmpDone := false } }
  let t1 := cycleEvaluationOp (supervisorPassOp 0 ((eventLatchOp t0).ageNodes a))
  let r := resolve t1.image t1.ixl.tableV t1.ixl.graphV
  let items := diffItems t1.ixl.tableV t1.ixl.graphV r
  let t2 := if 64 < items.length then t1.flood items 0 else t1.compare items r 0
  let t3 : State := { t2 with sheets := { t2.sheets with outStaged := t2.sheets.outDone, outApplied := t2.sheets.outDone } }
  let t4 := (intake t3).each [3, 4, 5, 6, 7, 8, 9] State.sheetTick
  t4.cycleCompletions.sendMsgs

/-- The vital state of another state is taken over, with the ages of its nodes. -/
def State.takeVital (s t : State) : State := { s with ixl := t.ixl, sheets := t.sheets, sup := t.sup }

end Sys2Proof.Machine
end

