-- ==== Sys2Proof/Machine/ReplayStart.lean ====
section
/-!
DEFINITION. Entry to REPLAY: the item streams of the sillage read back (R404), the range that can be replayed (R410), and the
keyframe's essence and identity (R411 steps 2 to 4).
-/

namespace Sys2Proof.Machine

/-- The items of a stream: type and data; none where the stream is damaged (R404). -/
def parseItems : Nat → List Byte → Option (List (Nat × List Byte))
  | _, [] => some []
  | 0, _ :: _ => none
  | f + 1, bs =>
    let n := leAt bs 2 2
    if bs.length < 4 + n then none
    else (parseItems f (bs.drop (4 + n))).map fun l => (byteAt bs 0, (bs.drop 4).take n) :: l

/-- The joined bodies of one cycle and kind; none where a PART is missing (R404, R410). -/
def silStream (sil : List SilRecord) (cycle : Word) (kind : Nat) : Option (List Byte) :=
  let rs := (sil.filter fun r => r.cycle = cycle && r.kind = kind).mergeSort fun x y => x.part ≤ y.part
  let whole := rs.zipIdx.all fun p => p.1.part = p.2 && (p.1.first = (p.2 = 0 : Bool)) && (p.1.last = (p.2 + 1 = rs.length : Bool))
  if rs.isEmpty || !whole then none else some (rs.flatMap SilRecord.body)

/-- The items of one cycle and kind. -/
def silItems (sil : List SilRecord) (cycle : Word) (kind : Nat) : Option (List (Nat × List Byte)) :=
  (silStream sil cycle kind).bind fun b => parseItems b.length b

/-- The first item of a type. -/
def itemOf (l : List (Nat × List Byte)) (type : Nat) : Option (List Byte) := (l.find? fun p => p.1 = type).map Prod.snd

/-- CYCLE_HEAD of a cycle that belongs to a range: first item, the image's digest, a mode word of OPERATE (R404, R410). -/
def State.replayHead (s : State) (cycle : Word) : Option (List Byte) :=
  match silItems s.rcd.sil cycle 1 with
  | some ((1, h) :: _) =>
    if (h.drop 12).take 8 = padTo 8 s.img.runDigest && byteAt h 8 % 16 = Mode.operate.code then some h else none
  | _ => none

/-- The consecutive cycles of the range, from one on (R410). -/
def State.replayRange (s : State) : Nat → Word → List Word
  | 0, _ => []
  | n + 1, c => if (s.replayHead c).isSome then c :: s.replayRange n (c + 1) else []

/-- REPLAY_RESULT, and the end of the run (R410, R413). -/
def State.endReplay (s : State) (code : Nat) (differs : Word) (recorded replayed : BitVec 64) : State :=
  ({ s with rcd := { s.rcd with replayResult := code, replayRunning := false, replayLeft := [] } } : State).record 0x0A07
    (fields [(1, code), (3, 0), (4, s.rcd.replayFirst.toNat), (4, s.rcd.replayCycle.toNat), (4, differs.toNat)] ++ bytesOf 8 recorded
      ++ bytesOf 8 replayed)

/-- The pages of a keyframe; none where a page of its map is missing. -/
def keyPages (l : List (Nat × List Byte)) : Option (List (Nat × List Byte)) :=
  let map := (itemOf l 0x11).getD []
  let pages := l.filterMap fun p => if p.1 = 0x12 then some (leAt p.2 0 2, p.2.drop 4) else none
  let named := below 4096 fun p => bitOf (byteAt map (p / 8)) (p % 8)
  if map.length = 512 && named.all fun p => pages.any fun x => x.1 = p && x.2.length = 1024 then some pages else none

/-- The node data of a stream. -/
def nodeData (l : List (Nat × List Byte)) : Tab (List Byte) :=
  Tab.ofList (l.filterMap fun p => if p.1 = 0x03 then some (leAt p.2 0 2, (p.2.drop 4).take (byteAt p.2 2)) else none)

/-- A keyframe is loaded: essence, baselines, the lag map and the identity (R405, R411 step 4). -/
def State.loadKey (s : State) (cycle : Word) (head : List Byte) (items pages : List (Nat × List Byte)) : State :=
  let s1 := s.loadEssence pages
  let id : ReplayId := ⟨BitVec.ofNat 64 (leAt head 0 8), byteAt head 8, byteAt head 9, leAt head 16 4, BitVec.ofNat 32 (leAt head 20 4)⟩
  { s1 with rcd := { s1.rcd with
    replayId := some id, baseline := nodeData items, lastLag := (itemOf items 0x02).getD [], replayRunning := true
    replayFirst := cycle, replayLeft := s1.replayRange s1.rcd.sil.length cycle } }

/-- R411 steps 3 and 4: the first keyframe, its digest and levels, its pages and their hash, and a first cycle. -/
def State.startReplay (s : State) : State :=
  match s.rcd.sil.find? fun r => r.kind = 2 && r.first with
  | none => s.endReplay 4 0xFFFFFFFF 0 0
  | some r =>
    let t : State := { s with rcd := { s.rcd with replayFirst := r.cycle } }
    match silItems s.rcd.sil r.cycle 2 with
    | some ((0x10, h) :: l) =>
      if (h.drop 24).take 64 ≠ padTo 64 s.img.runDigest then t.endReplay 2 0xFFFFFFFF 0 0
      else if (h.drop 10).take 4 ≠ s.levels then t.endReplay 3 0xFFFFFFFF 0 0
      else match keyPages l with
      | none => t.endReplay 4 0xFFFFFFFF 0 0
      | some pages =>
        if (h.drop 88).take 8 ≠ bytesOf 8 (pageHash pages) || (s.replayHead r.cycle).isNone then t.endReplay 4 0xFFFFFFFF 0 0
        else t.loadKey r.cycle h l pages
    | _ => t.endReplay 4 0xFFFFFFFF 0 0

/-- MODE_REQUEST with target REPLAY takes effect (R20, R411 step 2). -/
def State.enterReplay (s : State) : State := (s.toMode .replay 5).startReplay

end Sys2Proof.Machine
end

