-- ==== Sys2Proof/Machine/Update.lean ====
section
/-!
DEFINITION. Images: transfer, verification and schedule (R339, R340, R421, R425), activation outside cycles (R426) and in OPERATE
(R427–R431), and the online change of a sheet set (R178–R182, R341).
-/

namespace Sys2Proof.Machine

/-! ### The activation class (R425) -/

/-- Section types that may differ in a LIVE image. -/
def liveMayDiffer (t : Nat) : Bool :=
  within 0x0101 0x0301 t || within 0x0401 0x0404 t || t = 0x0502 || t = 0x0C01 || t = 0x0B01 || t = 0x0B02

/-- The sections outside some types are byte-identical. -/
def sameBut (differ : Nat → Bool) (a b : List Section) : Bool :=
  (a.filter fun x => !differ x.type) = b.filter fun x => !differ x.type

/-- The number that stands for an identifier without a correspondent. -/
def noObject : Nat := 0x1FFFF

/-- The kinds of an image's objects. -/
def Image.kinds (img : Image) : Tab Kind := Tab.mapV img.elems fun _ e => e.kind

/-- How identifiers of an image correspond in one that replaces it (R424). -/
def mapObject (old new : Image) (o : Nat) : Nat := (corresponds new.migration new old.kinds false o).getD noObject
def mapRoute (old new : Image) (r : Nat) : Nat := (corresponds new.migration new old.kinds true r).getD noObject

def mapPool (f : Nat → Nat) (p : PoolEntry) : PoolEntry := { p with object := f p.object }

def sortNat (l : List Nat) : List Nat := l.foldl (fun a x => insertNat x a) []

/-- Objects that a route's lists name. -/
def RouteDef.objects (r : RouteDef) : List Nat :=
  r.path.map PoolEntry.object ++ r.ovList.map Prod.fst ++ r.flank.flatten.map PoolEntry.object ++ r.appr

/-- Every element of a route: entry, exit, path, overlap and flank. -/
def RouteDef.elements (r : RouteDef) : List Nat := r.entry :: r.exit :: r.overlap.toList ++ r.objects

/-- All that an image says of one object, with its references carried over: entry, pieces, vertices, and the lists it stands in. -/
def Image.about (img : Image) (f g : Nat → Nat) (o : Nat) : Option ElemDef × List Piece × List Vertex × List Nat × List Nat :=
  ((Tab.get? img.elems o).map fun e =>
      { e with homeTs := e.homeTs.map f, ky := e.ky.map f, sa := e.sa.map f, ez := e.ez.map f, list := e.list.map fun p => (f p.1, p.2) },
   (img.pieces.vals.filter fun p => p.ts = o).map fun p => { p with ts := f p.ts, lx := p.lx.map f },
   (img.vertices.vals.filter fun v => v.object = some o || v.sgUp = some o || v.sgDn = some o).map fun v =>
      { v with object := v.object.map f, sgUp := v.sgUp.map f, sgDn := v.sgDn.map f },
   sortNat ((img.elems.filter fun p => p.2.list.any fun x => x.1 = o).map fun p => f p.1),
   sortNat ((img.routes.filter fun p => p.2.objects.contains o).map fun p => g p.1))

/-- All that an image says of one route. -/
def Image.aboutRoute (img : Image) (f g : Nat → Nat) (r : Nat) : Option RouteDef × List Nat × Option GraphRoute :=
  ((Tab.get? img.routes r).map fun d =>
      { d with entry := f d.entry, exit := f d.exit, overlap := d.overlap.map f, path := d.path.map (mapPool f)
               ovList := d.ovList.map (fun p => (f p.1, p.2)), flank := d.flank.map (fun l => l.map (mapPool f)), appr := d.appr.map f
               apprTs := d.apprTs.map f, saOwner := d.saOwner.map f },
   sortNat ((Tab.getD img.conflict r []).map g),
   (Tab.get? img.graph r).map fun d => { d with ovId := d.ovId.map f, apprTs := d.apprTs.map f, saOwner := d.saOwner.map f })

/-- Changed objects, each with its area (R425). -/
def changedObjects (old new : Image) : List (Nat × Nat) :=
  let f := mapObject old new
  let g := mapRoute old new
  let carried := old.elems.filter fun p => f p.1 = noObject || old.about f g p.1 ≠ new.about id id (f p.1)
  let fresh := new.elems.filter fun p => !(Tab.keys old.elems).any fun o => f o = p.1
  (carried.map fun p => (p.1, ((Tab.get? new.elems (f p.1)).map ElemDef.area).getD p.2.area)) ++ fresh.map fun p => (p.1, p.2.area)

/-- Changed routes, as identifiers of the old image and of the new. -/
def changedRoutes (old new : Image) : List Nat × List Nat :=
  let f := mapObject old new
  let g := mapRoute old new
  ((Tab.keys old.routes).filter fun r => g r = noObject || old.aboutRoute f g r ≠ new.aboutRoute id id (g r),
   (Tab.keys new.routes).filter fun r => !(Tab.keys old.routes).any fun o => g o = r && old.aboutRoute f g o = new.aboutRoute id id r)

/-- A route of an image has an element in one of some areas. -/
def Image.touches (img : Image) (areas : BitVec 64) (r : Nat) : Bool :=
  (Tab.get? img.routes r).any fun d => d.elements.any fun o => (Tab.get? img.elems o).any fun e => areas.getLsbD e.area

/-- The class of a verified station image is LIVE (R425). -/
def liveClass (old new : Image) (oldSecs newSecs : List Section) : Bool :=
  let areas := new.decl.changed
  let r := changedRoutes old new
  sameBut liveMayDiffer oldSecs newSecs
    && ((changedObjects old new).all fun p => areas.getLsbD p.2)
    && (r.1.all fun x => old.touches areas x || new.touches areas (mapRoute old new x)) && r.2.all (new.touches areas)

/-! ### Transfer and verification (R339, R421) -/

def State.modPending (s : State) (f : Slot → Slot) : State := { s with img := { s.img with pending := f s.img.pending } }

/-- A sheet change is prepared, being prepared or committed. -/
def State.sheetsHeld (s : State) : Bool := s.sheets.change.isSome

/-- A Q6 command that PENDING's use keeps out: BUSY while it is under verification; other commands run. -/
def State.serveImage (s : State) (h : CmdHdr) (opcode : Nat) (role : Role) (body : State → State) : State :=
  s.serve h opcode (some role) fun s => if s.img.pending.st = .verifying then s.say h opcode stBusy [] else body s

def imgBeginOp (h : CmdHdr) (type length blocks version : Nat) (s : State) : State :=
  s.serveImage h 0x0501 .engineer fun s =>
    if !within 1 3 type || 67108864 < length || blocks ≠ ceilDiv length 4096 then s.turnAway h 0x0501 stBadParam
    else if s.img.pending.st = .scheduled || s.sheetsHeld then s.say h 0x0501 stBusy []
    else (s.modPending fun _ => { Slot.empty with st := .loading, type := type, version := version, blocks := blocks }).say h 0x0501 stOk []

def execImgBegin (hdr : CmdHdr) (type : Byte) (length blocks version : Word) (s : State) : Host.Outcome State Fault Refusal :=
  .next (imgBeginOp hdr type.toNat length.toNat blocks.toNat version.toNat s)

/-- A slot with a part of a block stored; whether the block's check has failed. -/
def Slot.store (x : Slot) (block part : Nat) (data : List Byte) : Slot × Bool :=
  let y : Slot := { x with
    parts := Tab.put x.parts (8 * block + part) (padTo 512 data), image := none, live := false, digest := [], romMin := 0, romMax := 0, iface := 0 }
  let whole := (List.range 8).all fun p => (Tab.get? y.parts (8 * block + p)).isSome
  let good := (crc32c ((y.block block).take 4092)).toNat = leAt (y.block block) 4092 4
  let done := removeNat block y.done
  let z : Slot :=
    if !whole then { y with done := done }
    else if good then { y with done := insertNat block done }
    else { y with done := done, parts := y.parts.filter fun p => p.1 / 8 ≠ block }
  ({ z with st := if z.done.length = z.blocks then .loaded else .loading }, whole && !good)

def imgBlockOp (h : CmdHdr) (block part : Nat) (data : List Byte) (s : State) : State :=
  s.serveImage h 0x0502 .engineer fun s =>
    let p := s.img.pending
    if 7 < part || p.st = .empty || p.blocks ≤ block then s.turnAway h 0x0502 stBadParam
    else if p.st = .scheduled || s.sheetsHeld then s.say h 0x0502 stBusy []
    else
      let r := p.store block part data
      (s.modPending fun _ => r.1).say h 0x0502 (if r.2 then stBadParam else stOk) (leBytes 4 r.1.done.length)

def execImgBlock (hdr : CmdHdr) (block : Word) (part : Byte) (data : List Byte) (s : State) : Host.Outcome State Fault Refusal :=
  .next (imgBlockOp hdr block.toNat part.toNat data s)

def imgVerifyOp (h : CmdHdr) (s : State) : State :=
  s.serveImage h 0x0503 .engineer fun s =>
    if s.img.pending.st = .empty then s.turnAway h 0x0503 stBadParam
    else if s.img.pending.st = .scheduled || s.sheetsHeld then s.say h 0x0503 stBusy []
    else (s.modPending fun p => { p with st := .verifying, owner := some (h.completion 0x0503 0) }).say h 0x0503 stAccepted []

def execImgVerify (hdr : CmdHdr) (s : State) : Host.Outcome State Fault Refusal := .next (imgVerifyOp hdr s)

/-- Verification ends (R421): VERIFIED with its class, or LOADED again. -/
def imgVerifyCompleteOp (s : State) : State :=
  let p := s.img.pending
  if p.st ≠ .verifying then s
  else
    let r := s.checkSlot p s.img.active.image
    let ok := decide (r.status = 0)
    let f := p.flacon
    let hd := flaconHdr f
    let live := match s.img.active.st, s.img.active.image, r.image, s.img.active.sections, p.sections with
      | .active, some old, some new, some a, some b => liveClass old new a b
      | _, _, _, _, _ => false
    let q : Slot := if ok then
        { p with st := .verified, image := r.image, live := live, digest := flaconDigest f, romMin := hd.romMin, romMax := hd.romMax
                 iface := hd.iface, owner := none }
      else { p with st := .loaded, owner := none }
    let s1 := (s.modPending fun _ => q).record 0x0601 (fields [(1, p.type), (1, r.status % 256), (1, r.reason), (1, b2n (!live))]
      ++ padTo 8 (flaconDigest f))
    match p.owner with
    | some c => s1.complete c r.status (fields [(1, r.reason), (3, 0)])
    | none => s1

def execImgVerifyComplete (s : State) : Host.Outcome State Fault Refusal := .next (imgVerifyCompleteOp s)

/-! ### The schedule (R339, R426, R429) -/

/-- A schedule ends without a switch: PENDING is VERIFIED again, and the completion carries activation cycle 0. -/
def State.endSchedule (s : State) (status : Nat) : State :=
  let owner := s.img.pending.owner
  let s1 : State := { s with
    ixl := { s.ixl with areaHold := 0 }
    img := { s.img with armed := LaneSet.none, judged := none, tenderConfirmed := false, postponedSince := none
                        pending := { s.img.pending with st := .verified, at_ := 0, owner := none } } }
  match owner with
  | some c => s1.complete c status (fields [(4, 0), (8, s.netNow)])
  | none => s1

/-- ACTIVATION_REFUSED. -/
def State.recordRefusal (s : State) (reason route : Nat) : State := s.record 0x0604 (fields [(1, reason), (1, 0), (2, route)])

/-- A tender takes a schedule only while its link is down, or while its digest differs from the lead's (R429). -/
def State.mayScheduleHere (s : State) : Bool :=
  s.mod.mode ≠ .operate || s.mod.role ≠ .tender || !s.plink.up
    || (s.mod.cond = .unsynced && s.plink.partnerDigest ≠ s.img.runDigest)

/-- A lead whose tender has no condition waits for its confirmation (R429). -/
def State.needsConfirm (s : State) : Bool := s.mod.role = .lead && s.tenderReady

/-- The schedule as it goes to the tender: time, flags (bit 0 POSTPONE, bit 1 a sheet change), DIGEST. -/
def State.forwardSchedule (s : State) (time flags : Nat) : State :=
  if s.mod.mode = .operate && s.needsConfirm then
    s.sendControl ctlSchedule (fields [(8, time), (1, flags)] ++ padTo 64 s.img.pending.digest) none
  else s

def imgScheduleOp (h : CmdHdr) (time flags : Nat) (s : State) : State :=
  s.serveImage h 0x0504 .engineer fun s =>
    let p := s.img.pending
    if 1 < flags || p.type = 3 || (p.st ≠ .verified && p.st ≠ .scheduled) || time < s.nowFor h + 500000 then s.turnAway h 0x0504 stBadParam
    else if p.st = .scheduled || s.sheetsHeld then s.say h 0x0504 stBusy []
    else if !s.mayScheduleHere then s.say h 0x0504 stMode []
    else
      let s1 := s.modPending fun p => { p with
        st := .scheduled, at_ := time, postpone := flags = 1, owner := some (h.completion 0x0504 0) }
      let s2 := (s1.record 0x0602 (fields [(1, p.type), (1, flags), (2, 0), (8, time)] ++ padTo 8 p.digest)).say h 0x0504 stAccepted []
      if s.mod.mode.cycles && (p.type = 2 || !p.live) then (s2.recordRefusal 3 0xFFFF).endSchedule stMode
      else s2.forwardSchedule time flags

def execImgSchedule (hdr : CmdHdr) (netTime : BitVec 64) (iflags : Byte) (s : State) : Host.Outcome State Fault Refusal :=
  .next (imgScheduleOp hdr netTime.toNat iflags.toNat s)

/-- IMG_ABORT ends whatever uses PENDING, and erases it; a command that was still to complete completes now. -/
def imgAbortOp (h : CmdHdr) (s : State) : State :=
  s.serve h 0x0505 (some .engineer) fun s =>
    if LaneSet.count s.img.armed ≠ 0 then s.say h 0x0505 stBusy []
    else
      let s1 := s.cancelSheets 1
      let owner := s1.img.pending.owner
      let s2 := s1.modPending fun _ => .empty
      let s3 : State := { s2 with ixl := { s2.ixl with areaHold := 0 }, img := { s2.img with postponedSince := none, judged := none } }
      let s4 := match owner with
        | some c =>
          if c.opcode = 0x0503 then s3.complete c stBadParam (fields [(1, 0), (3, 0)])
          else s3.complete c stMode (fields [(4, 0), (8, s.nowFor h)])
        | none => s3
      s4.say h 0x0505 stOk []

def execImgAbort (hdr : CmdHdr) (s : State) : Host.Outcome State Fault Refusal := .next (imgAbortOp hdr s)

/-- A slot's entry of IMG_QUERY (R340). -/
def Slot.entry (x : Slot) : List Byte :=
  fields [(1, x.st.code), (1, x.type), (2, 0), (4, x.version)] ++ padTo 16 x.digest
    ++ fields [(1, x.romMin), (1, x.romMax), (1, x.iface), (1, 0), (4, x.done.length), (4, x.blocks),
      (4, if x.st = .scheduled then x.at_ / 1000 else 0)]

def imgQueryOp (h : CmdHdr) (s : State) : State :=
  s.serve h 0x0506 (some .maintainer) fun s => s.say h 0x0506 stOk (s.levels ++ s.img.active.entry ++ s.img.pending.entry)

def execImgQuery (hdr : CmdHdr) (s : State) : Host.Outcome State Fault Refusal := .next (imgQueryOp hdr s)

/-- The named time is reached outside INTEGRATE and OPERATE (R426): a station image exchanges with ACTIVE, a patch goes to the
patch store. -/
def activationTimeOp (s : State) : State :=
  let p := s.img.pending
  let m := s.mod.mode
  if p.st = .scheduled && (m = .loaded || m = .safe || m = .recovery) then
    let old := s.img.active
    let s1 : State :=
      if p.type = 2 then
        let hd := flaconHdr p.flacon
        { s with img := { s.img with patch := if hd.minor = 0 && hd.len = 0 then none else some (hd.minor, p.digest)
                                     pending := { p with st := .verified, at_ := 0, owner := none } } }
      else
        let t := s.exchangeSlots
        let due := match p.image, old.image with
          | some new, some o => [(new.migration, o.kinds)]
          | _, _ => []
        { t with img := { t.img with migrateDue := t.img.migrateDue ++ due, active := { t.img.active with at_ := 0 } } }
    let s2 := s1.record 0x0603 (fields [(1, p.type), (3, 0), (4, 0)] ++ padTo 8 old.digest ++ padTo 8 p.digest)
    match p.owner with
    | some c => s2.complete c stOk (fields [(4, 0), (8, p.at_)])
    | none => s2
  else s

def execActivationTimeReached (s : State) : Host.Outcome State Fault Refusal := .next (activationTimeOp s)

/-! ### Activation in OPERATE (R427–R431) -/

/-- A lane has loaded PENDING and checked its digest; a fault of the transfer keeps it from arming (R456). A tender whose lanes have all armed confirms to its lead (R429). -/
def activationArmedOp (l : Lane) (digestOk : Bool) (s : State) : State :=
  if (s.lane l).diag.dmaFailed.contains 4 then s.modDiag l fun d => { d with dmaFailed := removeNat 4 d.dmaFailed }
  else if s.mod.mode = .operate && s.img.pending.st = .scheduled && digestOk && s.laneSt l = .voting && !s.img.armed.get l then
    let s1 : State := { s with img := { s.img with armed := s.img.armed.set l true } }
    let all := LaneSet.count (LaneSet.diff s1.votingLanes s1.img.armed) = 0
    if all && s1.mod.role = .tender && s1.img.pending.owner.isNone then s1.sendControl ctlConfirm (leBytes 1 ctlSchedule) none else s1
  else s

def execActivationArmed (lane : Lane) (digestOk : Bool) (s : State) : Host.Outcome State Fault Refusal :=
  .next (activationArmedOp lane digestOk s)

/-- Ten cycles before the switch a lane that has not armed leaves the vote (R427). -/
def armDeadlineOp (l : Lane) (s : State) : State :=
  if s.mod.mode = .operate && s.img.pending.st = .scheduled && s.laneSt l = .voting && !s.img.armed.get l
      && s.img.pending.at_ ≤ s.netNow + 110000 then s.leaveVote l 7 0
  else s

def execActivationArmDeadline (lane : Lane) (s : State) : Host.Outcome State Fault Refusal := .next (armDeadlineOp lane s)

/-- The routes that keep an activation from taking place, by the resolved vector (R428). -/
def State.holdingRoutes (s : State) (new : Image) : List Nat :=
  let changed := (changedRoutes s.image new).1
  (s.ixl.resolved.routes.filter fun p => p.2.st ≠ .idle && (s.image.touches new.decl.changed p.1 || changed.contains p.1)).map Prod.fst

/-- The vector with every entry moved to its corresponding identifier, and defaults in place of those that RULE 0 names (R431). -/
def moveVector (old new : Image) (v : Verdict) : Verdict :=
  let defaults (r : Bool) (id : Nat) : Bool := new.migration.any fun e => e.isRoute = r && !e.carry && e.new = id
  { v with
    areas := v.areas.filter fun p => !new.decl.changed.getLsbD p.1
    routes := Tab.ofList (v.routes.filterMap fun p =>
      let n := mapRoute old new p.1
      if n = noObject || defaults true n then none else some (n, { p.2 with withheld := false }))
    elems := Tab.ofList (v.elems.filterMap fun p =>
      let n := mapObject old new p.1
      if n = noObject || defaults false n then none else some (n, p.2)) }

/-- T₃ of a cycle before one that may be the switch cycle (R428). -/
def activationJudgementOp (s : State) : State :=
  let p := s.img.pending
  if s.mod.mode = .operate && s.acc.tick = 3 && p.st = .scheduled && !s.sheetsHeld && p.at_ ≤ s.netNow + 20000 then
    match p.image with
    | none => (s.recordRefusal 3 0xFFFF).endSchedule stMode
    | some new =>
      if !p.live then (s.recordRefusal 3 0xFFFF).endSchedule stMode
      else if s.needsConfirm && !s.img.tenderConfirmed then (s.recordRefusal 2 0xFFFF).endSchedule stMode
      else
        let alone := s.mod.role = .tender && p.owner.isSome
        match if alone then [] else s.holdingRoutes new with
        | [] => { s with img := { s.img with judged := some (moveVector s.image new s.ixl.resolved) } }
        | r :: _ =>
          let s1 := s.recordRefusal 1 r
          if p.postpone then
            { s1 with img := { s1.img with judged := none, postponedSince := some (s1.img.postponedSince.getD p.at_) }
                      ixl := { s1.ixl with areaHold := new.decl.changed } }
          else s1.endSchedule stLocked
  else s

def execActivationJudgement (s : State) : Host.Outcome State Fault Refusal := .next (activationJudgementOp s)

/-- Twenty-four hours past the named time (R428). -/
def postponementOp (s : State) : State :=
  if s.img.pending.st = .scheduled && s.img.postponedSince.isSome && s.img.pending.at_ + 86400000000 ≤ s.netNow then (s.recordRefusal 4 0xFFFF).endSchedule stLocked else s

def execPostponementExpired (s : State) : Host.Outcome State Fault Refusal := .next (postponementOp s)

/-! ### The sheet set carried over (R180, R181) -/

/-- The block of the old set that a block of the new set is paired with. -/
def pairOfBlock (old : Image) (d : BlockDef) : Option (Nat × BlockDef) :=
  old.blocks.find? fun p => p.2.id = d.id && p.2.type = d.type && p.2.dtype = d.dtype

/-- Where a block of the old set stands in the new one. -/
def newIndex (old new : Image) (i : Nat) : Option Nat :=
  (Tab.get? old.blocks i).bind fun e => (new.blocks.find? fun p => p.2.id = e.id && p.2.type = e.type && p.2.dtype = e.dtype).map Prod.fst

/-- Paired instances, new ones, deleted ones. -/
def carryCounts (old new : Image) : Nat × Nat × Nat :=
  let paired := (new.blocks.filter fun p => (pairOfBlock old p.2).isSome).length
  (paired, new.blocks.length - paired, old.blocks.length - paired)

def isTimer (type : Nat) : Bool := type = 0x09 || type = 0x0A || type = 0x0B

/-- A running timer takes a new preset that is not below its active one. -/
def carryBlock (d : BlockDef) (x : BlockSt) : BlockSt :=
  if isTimer d.type && x.running && x.b ≤ d.param then { x with b := d.param } else x

/-- A running timer that keeps the old preset. -/
def keepsPreset (d : BlockDef) (x : BlockSt) : Bool := isTimer d.type && x.running && d.param < x.b

/-- The state records that the new set starts with. -/
def carriedBlocks (old new : Image) (blocks : Tab BlockSt) : Tab BlockSt :=
  new.blocks.filterMap fun p => ((pairOfBlock old p.2).bind fun q => Tab.get? blocks q.1).map fun x => (p.1, carryBlock p.2 x)

/-- Timers kept on the old preset. -/
def keptTimers (old new : Image) (blocks : Tab BlockSt) : Nat :=
  (new.blocks.filter fun p => ((pairOfBlock old p.2).bind fun q => Tab.get? blocks q.1).any (keepsPreset p.2)).length

/-- The sheets at the switch; the image is already the new one. What completed runs of the old set have published takes effect in this cycle
(R181), with the statuses of requests for the instances that go on. A task starts anew, with the release tick of its latest run
(R159, R180); an event source that the accorded set gives is compared with what it was in the cycle before (R174). -/
def State.carrySheets (s : State) (old : Image) : State :=
  let new := s.image
  let x := s.sheets
  let move (t : Tab Nat) : Tab Nat := Tab.ofList (t.filterMap fun p => (newIndex old new p.1).map fun i => (i, p.2))
  let readsInbox (id : Nat) : Bool := new.blocks.any fun p => p.2.type = 0x29 && bits p.2.param 15 0 = id
  let s1 : State := { s with sheets := { x with
    blocks := carriedBlocks old new x.blocks, tasks := Tab.mapV x.tasks fun _ t => { TaskSt.idle with runTick := t.runTick }
    current := none, preempted := [], raised := []
    inboxes := x.inboxes.filter fun p => readsInbox p.1
    publishing := x.publishing.map fun r => { r with block := (newIndex old new r.block).getD (0x40000 + r.block) }
    status := move x.status, releaseAll := some s.mod.cycle.toNat, retainDirty := true } }
  let source (t : Nat) (d : TaskDef) : Nat := if 4 ≤ d.evSrc then Tab.getD x.evBefore t (s1.eventSource d) else s1.eventSource d
  { s1 with sheets := { s1.sheets with evPrev := Tab.mapV (new.tasks.filter fun p => p.2.kind = 2) source } }

/-! ### The switch (R179, R430, R431) -/

/-- The accorded time of the cycle has confirmed a switch named for a time; the cycle has not been evaluated. -/
def State.confirms (s : State) (time : Nat) : Bool := s.mod.mode = .operate && s.evalDue && s.acc.tick = 0 && time ≤ s.acc.accorded.time

/-- The slots exchange and the new image governs. -/
def State.takeImage (s : State) (new : Image) : State :=
  let t := s.exchangeSlots
  { t with
    img := { t.img with
      running := some new, runDigest := s.img.pending.digest, armed := LaneSet.none, judged := none, tenderConfirmed := false
      postponedSince := none, active := { t.img.active with at_ := 0 } }
    rcd := { t.rcd with keyframeDue := some t.mod.cycle.toNat } }

/-- A completion's target under the new identifiers. -/
def Completion.moved (c : Completion) (f g : Nat → Nat) : Completion :=
  if c.opcode = 0x0101 || c.opcode = 0x0103 then { c with target := g c.target }
  else if c.opcode = 0x0201 then { c with target := f c.target } else c

/-- What the interlocking carries to the new identifiers beside its vector. -/
def IxlS.moved (x : IxlS) (v : Verdict) (f g : Nat → Nat) : IxlS :=
  let list (l : List Nat) : List Nat := (l.map g).filter (· ≠ noObject)
  let use (u : RouteUse) : RouteUse := { u with flank := u.flank.map fun o => o.map (mapPool f) }
  let uses (t : Tab RouteUse) : Tab RouteUse := Tab.ofList ((t.map fun p => (g p.1, use p.2)).filter fun p => p.1 ≠ noObject)
  { x with
    resolved := v, tableV := v, graphV := v, stored := list x.stored, resets := list x.resets, withheld := [], divergeRun := []
    use := uses x.use, graphUse := uses x.graphUse
    nbr := Tab.ofList ((x.nbr.map fun p => (f p.1, p.2)).filter fun p => p.1 ≠ noObject)
    completions := x.completions.map fun c => c.moved f g, areaHold := 0, bbSent := [], leaves := [] }

/-- Every object in a CHANGED area, and every one that RULE 0 names, takes its restart state; marks and blocks are those that
migrated. -/
def State.restartChanged (s : State) (v : Verdict) : Verdict :=
  let img := s.image
  let dflt (o : Nat) : Bool := img.migration.any fun e => !e.isRoute && !e.carry && e.new = o
  { v with
    digest := padTo 8 s.img.runDigest
    routes := (sortNat (Tab.keys v.routes ++ s.ixl.autos)).map fun r => (r, { v.route r with auto := s.ixl.autos.contains r })
    elems := img.elems.map fun p =>
      (p.1, if img.decl.changed.getLsbD p.2.area || dflt p.1 then restartElem s.ixl.blockedTs s.ixl.blockedPt p.1 p.2 else v.elem p.1) }

/-- The two modules exchange their levels (R434). -/
def State.sendLevels (s : State) : State :=
  if s.mod.pos ≠ 0 && s.plink.up then
    s.sendControl ctlLevels (fields [(1, s.mod.pos)] ++ s.levels ++ padTo 64 s.img.runDigest ++ bytesOf 4 s.image.decl.partnerMinors) none
  else s

/-- The T₀ of s: the lanes take up the new image and the migrated vector, or the judgement is discarded (R428, R430). -/
def imageSwitchOp (s : State) : State :=
  let p := s.img.pending
  match p.image, s.img.judged with
  | some new, some v =>
    if p.st ≠ .scheduled || s.sheetsHeld || s.mod.mode ≠ .operate || !s.evalDue then s
    else if !s.confirms p.at_ then { s with img := { s.img with judged := none } }
    else
      let old := s.image
      let f := mapObject old new
      let g := mapRoute old new
      let secs := s.img.active.sections
      let s1 := s.takeImage new
      let s2 := ({ s1 with ixl := s1.ixl.moved v f g } : State).migrate new.migration old.kinds
      let w := s2.restartChanged v
      let s3 : State := { s2 with ixl := { s2.ixl with resolved := w, tableV := w, graphV := w } }
      let same := match secs, p.sections with
        | some a, some b => sameBut (fun t => !within 0x0401 0x0404 t) a b
        | _, _ => true
      let s4 := if same then s3 else s3.carrySheets old
      let s5 := s4.restartResyncs.record 0x0603
        (fields [(1, p.type), (3, 0), (4, s.mod.cycle.toNat)] ++ padTo 8 s.img.active.digest ++ padTo 8 p.digest)
      let s6 := match p.owner with
        | some c => s5.complete c stOk (fields [(4, s.mod.cycle.toNat), (8, s.netNow)])
        | none => s5
      s6.sendLevels
  | _, _ => s

def execImageSwitch (s : State) : Host.Outcome State Fault Refusal := .next (imageSwitchOp s)

/-! ### Online change of the sheets (R178–R182) -/

def isSheetType (t : Nat) : Bool := within 0x0401 0x0404 t

/-- PENDING holds a verified image that differs from the active one in its sheet sections alone. -/
def State.sheetOnly (s : State) : Bool :=
  let p := s.img.pending
  (p.st = .verified || p.st = .scheduled) && p.type = 1 && match s.img.active.sections, p.sections with
    | some a, some b => sameBut isSheetType a b
    | _, _ => false

def sheetPrepareOp (h : CmdHdr) (s : State) : State :=
  s.serveImage h 0x0507 .engineer fun s =>
    if !s.sheetOnly then s.turnAway h 0x0507 stBadParam
    else if s.mod.mode ≠ .operate then s.say h 0x0507 stMode []
    else if s.sheetsHeld || s.img.pending.st = .scheduled then s.say h 0x0507 stBusy []
    else
      let c : SheetChange := ⟨[], 0, 0, s.rcd.opTime, none, h.source.toNat, h.queue.val, h.seq, true⟩
      ({ s with sheets := { s.sheets with change := some c } } : State).say h 0x0507 stAccepted []

def execSheetPrepare (hdr : CmdHdr) (s : State) : Host.Outcome State Fault Refusal := .next (sheetPrepareOp hdr s)

/-- The pairs of the carry map. -/
def carryMap (old new : Image) : List (Nat × Nat) := new.blocks.filterMap fun p => (pairOfBlock old p.2).map fun q => (q.1, p.1)

/-- The new set keeps R155 and R175. -/
def State.setPasses (s : State) (new : Image) : Bool := (s.img.pending.sections).any fun l => new.sheetRule l

/-- Checking and loading of the new set ends; a set that fails its check ends the preparation with BAD_PARAMETER (R178). -/
def sheetPrepareCompleteOp (s : State) : State :=
  match s.sheets.change, s.img.pending.image with
  | some c, some new =>
    if !c.preparing then s
    else
      let done : Completion := ⟨0x0507, c.source, c.queue, c.seq, 0, 0⟩
      if !s.setPasses new then
        ({ s with sheets := { s.sheets with change := none } } : State).complete done stBadParam (fields [(4, 0), (4, 0), (4, 0)])
      else
        let n := carryCounts s.image new
        let d : SheetChange := { c with preparing := false, paired := carryMap s.image new, newN := n.2.1, deleted := n.2.2, since := s.rcd.opTime }
        let s1 : State := { s with sheets := { s.sheets with change := some d } }
        let data := fields [(4, n.1), (4, n.2.1), (4, n.2.2)]
        (s1.record 0x0421 (padTo 8 s.img.pending.digest ++ data)).complete done stOk data
  | _, _ => s

def execSheetPrepareComplete (s : State) : Host.Outcome State Fault Refusal := .next (sheetPrepareCompleteOp s)

def sheetCommitOp (h : CmdHdr) (time : Nat) (s : State) : State :=
  s.serveImage h 0x0508 .engineer fun s =>
    if time < s.nowFor h + 500000 then s.turnAway h 0x0508 stBadParam
    else if s.mod.mode ≠ .operate then s.say h 0x0508 stMode []
    else match s.sheets.change with
    | none => s.turnAway h 0x0508 stBadParam
    | some c =>
      if c.preparing || c.commit.isSome then s.say h 0x0508 stBusy []
      else
        let d : SheetChange := { c with commit := some time, source := h.source.toNat, queue := h.queue.val, seq := h.seq }
        let s1 : State := { s with sheets := { s.sheets with change := some d } }
        let s2 := s1.modPending fun p => { p with st := .scheduled, at_ := time, postpone := false }
        (s2.forwardSchedule time 2).say h 0x0508 stAccepted []

def execSheetCommit (hdr : CmdHdr) (netTime : BitVec 64) (s : State) : Host.Outcome State Fault Refusal :=
  .next (sheetCommitOp hdr netTime.toNat s)

/-- The T₀ of s: the new set takes effect; a lead whose tender has not confirmed cancels it (R179–R181, R429). -/
def sheetSwitchOp (s : State) : State :=
  match s.sheets.change, s.img.pending.image with
  | some c, some new =>
    match c.commit with
    | none => s
    | some t =>
      if !s.confirms t then s
      else if s.needsConfirm && !s.img.tenderConfirmed then s.cancelSheets 0
      else
        let old := s.image
        let kept := keptTimers old new s.sheets.blocks
        let runs := (s.sheets.tasks.filter fun p => p.2.running).length
        let s1 := (s.takeImage new).carrySheets old
        let s2 : State := { s1 with sheets := { s1.sheets with change := none } }
        let cyc := s.mod.cycle.toNat
        let s3 := s2.restartResyncs.record 0x0422
          (padTo 8 s.img.runDigest ++ padTo 8 s.img.pending.digest ++ fields [(4, cyc), (1, runs), (2, kept), (1, 0)])
        (if c.source = 0xFFFF then s3 else s3.complete ⟨0x0508, c.source, c.queue, c.seq, 0, 0⟩ stOk (leBytes 4 cyc)).sendLevels
  | _, _ => s

def execSheetSwitch (s : State) : Host.Outcome State Fault Refusal := .next (sheetSwitchOp s)

/-- Thirty minutes without a commit (R182). -/
def sheetTimeoutOp (s : State) : State :=
  match s.sheets.change with
  | some c => if c.commit.isNone && !c.preparing && c.since + 1800000 ≤ s.rcd.opTime then s.cancelSheets 1 else s
  | none => s

def execSheetPrepareTimeout (s : State) : Host.Outcome State Fault Refusal := .next (sheetTimeoutOp s)

/-- A tender without condition follows a schedule of its lead when its own PENDING holds the same image (R429). A change that it
follows is marked by source 0xFFFF, and owes no completion. -/
def State.followSchedule (s : State) (time flags : Nat) (digest : List Byte) : State :=
  let p := s.img.pending
  if s.mod.mode = .operate && s.mod.role = .tender && s.mod.cond = .none && p.st = .verified && padTo 64 p.digest = digest && !s.sheetsHeld then
    let s1 := s.modPending fun p => { p with st := .scheduled, at_ := time, postpone := flags % 2 = 1, owner := none }
    if flags / 2 % 2 = 1 then
      let n := carryCounts s.image (p.image.getD .empty)
      let c : SheetChange := ⟨carryMap s.image (p.image.getD .empty), n.2.1, n.2.2, s.rcd.opTime, some time, 0xFFFF, 0, 0, false⟩
      { s1 with sheets := { s1.sheets with change := some c } }
    else s1
  else s

end Sys2Proof.Machine
end

