-- ==== Sys2Proof/Machine/Packets.lean ====
section
/-!
DEFINITION. The host ports (chapter 10): link and network layers (R293–R296, R299), the ordered checks of an arriving packet (R301,
R304–R307, R537), its parameters as its opcode's command (R323, chapter 11), the two non-vital services (R309, R312, R538) and the
reply selector (R310).
-/

namespace Sys2Proof.Machine

/-! ### Link and network layers -/

/-- The ports are silent (R18). -/
def State.portsSilent (s : State) (p : HostPort) : Bool :=
  s.mod.mode = .off || s.mod.mode = .reset || (s.mod.mode = .dormant && p = .b)

/-- A frame that the port accepts (R293), and, when it carries IPv4, a datagram that it accepts (R294). -/
def ethAccepted (f : EthFrame) (vlan : Nat) : Bool :=
  let arp := f.etherType = 0x0806
  let ip := f.etherType = 0x0800
  let datagram := f.ipVersion = 4 && f.ipHdrWords = 5 && f.ipHdrOk && f.ipLengthOk && !f.moreFrags && f.fragOffset = 0 && f.toOwnIp
    && (f.protocol = 1 || (f.protocol = 17 && f.udpPort = 4862 && f.udpSumOk))
  (f.toOwnMac || (f.broadcast && arp)) && (arp || ip) && (match f.tag with
    | none => vlan = 0 && f.length ≤ 1518
    | some t => vlan ≠ 0 && t = vlan && f.length ≤ 1522) && f.fcsOk && (arp || datagram)

/-- One more packet dropped at steps 1 and 2 on a port (R321). -/
def HostS.drop (h : HostS) (p : HostPort) : HostS :=
  match p with
  | .a => { h with dropA := satAdd 0xFFFF h.dropA 1 }
  | .b => { h with dropB := satAdd 0xFFFF h.dropB 1 }

def ethernetFrameOp (p : HostPort) (f : EthFrame) (s : State) : State :=
  if s.portsSilent p || ethAccepted f (s.portVlan p) then s else { s with host := s.host.drop p }

def execEthernetFrame (port : HostPort) (frame : EthFrame) (s : State) : Host.Outcome State Fault Refusal :=
  .next (ethernetFrameOp port frame s)

def arpRequestOp (p : HostPort) (target : Nat) (s : State) : State :=
  if s.portsSilent p || target ≠ s.portAddress p then s
  else { s with host := { s.host with arpSent := s.host.arpSent ++ [(p, target)] } }

def execArpRequest (port : HostPort) (target : Word) (s : State) : Host.Outcome State Fault Refusal :=
  .next (arpRequestOp port target.toNat s)

/-- An echo request, stamped at its arrival in µs, is answered up to 1 024 data bytes and 10 times per second and port (R295); the table counts a second's answers as
16 × second + answers. -/
def icmpEchoOp (p : HostPort) (n stamp : Nat) (s : State) : State :=
  let sec := stamp / 1000000
  let v := Tab.getD s.host.icmp p.code 0
  let k := if v / 16 = sec then v % 16 else 0
  if s.portsSilent p || 1024 < n || 10 ≤ k then s
  else { s with host := { s.host with icmp := Tab.put s.host.icmp p.code (16 * sec + k + 1), icmpSent := s.host.icmpSent ++ [(p, n)] } }

def execIcmpEcho (port : HostPort) (request : EchoRequest) (s : State) : Host.Outcome State Fault Refusal :=
  .next (icmpEchoOp port request.dataBytes request.stamp s)

/-- A port's link as HQ_STATUS shows it (R321). -/
def HostS.setLink (h : HostS) (p : HostPort) (up : Bool) : HostS :=
  match p with
  | .a => { h with linkA := up }
  | .b => { h with linkB := up }

/-- LINK_STATE (R320). -/
def State.recordLink (s : State) (p : HostPort) (up : Bool) : State :=
  s.recordHk 0x0508 (fields [(1, p.code), (1, b2n up), (2, 0)])

/-- A link comes up, with one gratuitous ARP where the port is not silent (R295). -/
def linkUpOp (p : HostPort) (s : State) : State :=
  if s.mod.mode = .off then s
  else
    let s1 : State := { s with host := s.host.setLink p true }
    if s1.mod.mode = .reset then s1
    else
      let s2 := s1.recordLink p true
      if s2.portsSilent p then s2 else { s2 with host := { s2.host with arpSent := s2.host.arpSent ++ [(p, s2.portAddress p)] } }

def execLinkUp (port : HostPort) (s : State) : Host.Outcome State Fault Refusal := .next (linkUpOp port s)

def linkDownOp (p : HostPort) (s : State) : State :=
  if s.mod.mode = .off then s
  else
    let s1 : State := { s with host := s.host.setLink p false }
    if s1.mod.mode = .reset then s1 else s1.recordLink p false

def execLinkDown (port : HostPort) (s : State) : Host.Outcome State Fault Refusal := .next (linkDownOp port s)

/-! ### Opcodes (R323) -/

/-- Whether a parameter length suits the opcode. -/
def plenOk (o : Nat) (p : List Byte) : Bool :=
  let n := p.length
  match o with
  | 0x0101 | 0x0102 | 0x0103 | 0x0105 | 0x0201 | 0x0202 | 0x0203 | 0x0204 | 0x0205 | 0x0206 | 0x0207 => n = 8
  | 0x0104 | 0x0208 => n = 2
  | 0x0301 | 0x0402 | 0x0403 | 0x0503 | 0x0505 | 0x0506 | 0x0507 | 0x0602 | 0x0705 | 0x0802 | 0x0A01 | 0x0D01 => n = 0
  | 0x0303 | 0x0701 | 0x0703 | 0x0704 | 0x0708 | 0x0902 | 0x0905 | 0x0A03 | 0x0A04 | 0x0B01 | 0x0B02 => n = 4
  | 0x0304 | 0x0508 | 0x0706 | 0x0707 | 0x0803 | 0x0901 | 0x0904 | 0x0A02 | 0x0B03 => n = 8
  | 0x0302 | 0x0401 | 0x0405 | 0x0504 => n = 12
  | 0x0404 | 0x0406 | 0x0501 | 0x0F01 => n = 16
  | 0x0502 => n = 520
  | 0x0601 => n = 20
  | 0x0702 => n = 84
  | 0x0801 => n = 24
  | 0x0903 => n = 8 + 4 * leAt p 4 2
  | 0x0C01 => n = 4 + 4 * byteAt p 2
  | _ => false

/-- The reserved bytes of an opcode's parameters (chapter 11). -/
def reservedBytes (o : Nat) : List Nat :=
  match o with
  | 0x0302 => [2, 3, 10, 11]
  | 0x0303 | 0x0501 | 0x0701 | 0x0703 | 0x0704 | 0x0905 | 0x0A02 | 0x0A03 | 0x0A04 => [1, 2, 3]
  | 0x0304 => [1]
  | 0x0401 | 0x0405 => [10, 11]
  | 0x0404 | 0x0504 => [9, 10, 11]
  | 0x0502 | 0x0803 => [5, 6, 7]
  | 0x0702 | 0x0708 | 0x0902 | 0x0B01 | 0x0B03 => [2, 3]
  | 0x0706 | 0x0801 | 0x0901 => [6, 7]
  | 0x0707 | 0x0B02 => [3]
  | 0x0903 => [1, 6, 7]
  | _ => []

def reservedOk (o : Nat) (p : List Byte) : Bool :=
  (reservedBytes o).all (fun i => byteAt p i = 0) && (o ≠ 0x0801 || (byteAt p 21 = 0 && byteAt p 22 = 0 && byteAt p 23 = 0))

/-- The values of a PERF_CONFIG (R347). -/
def perfParams (p : List Byte) : PerfConfig :=
  { counter := byteAt p 0, enable := byteAt p 1, event := leAt p 2 2, priv := byteAt p 4, master := byteAt p 5
    addrLo := BitVec.ofNat 32 (leAt p 8 4), addrHi := BitVec.ofNat 32 (leAt p 12 4), sample := BitVec.ofNat 32 (leAt p 16 4)
    window := byteAt p 20 }

/-- A command from its ring, or from a packet that the housekeeper serves at once: its parameters as the operands of its opcode's
command (chapter 11). A reserved byte or an undefined ACTION, STEP or TARGET is answered BAD_PARAMETER (R324). -/
def State.perform (c : RingCmd) (s : State) : State :=
  let h := c.hdr
  let o := c.opcode
  let p := c.params
  let bad (s : State) : State := s.serve h o ((opcodeRole o).getD none) fun s => s.turnAway h o stBadParam
  let word (i : Nat) : Word := BitVec.ofNat 32 (leAt p i 4)
  if !reservedOk o p then bad s
  else match o with
  | 0x0104 => routeQueryOp h (leAt p 0 2) s
  | 0x0208 => elementQueryOp h (leAt p 0 2) s
  | 0x0301 => statusModuleOp h s
  | 0x0302 => subscribeOp h (byteAt p 0) (byteAt p 1) (leAt p 4 2) (leAt p 6 2) (leAt p 8 2) s
  | 0x0303 => unsubscribeOp h (byteAt p 0) s
  | 0x0304 => match byteAt p 0 with
    | 1 => snapshotCopyOp h (leAt p 2 2) (leAt p 4 4) s
    | 2 => snapshotReadOp h (leAt p 2 2) (leAt p 4 4) s
    | _ => bad s
  | 0x0401 => recReadOp h (leAt p 0 8) (leAt p 8 2) s
  | 0x0402 => recFreezeOp h s
  | 0x0403 => recThawOp h s
  | 0x0404 => match byteAt p 8 with
    | 1 => recClearStep1Op h (leAt p 0 8) s
    | 2 => recClearStep2Op h (leAt p 0 8) (word 12) s
    | _ => bad s
  | 0x0405 => silReadOp h (leAt p 0 8) (leAt p 8 2) s
  | 0x0406 => silMarkOp h p s
  | 0x0501 => imgBeginOp h (byteAt p 0) (leAt p 4 4) (leAt p 8 4) (leAt p 12 4) s
  | 0x0502 => imgBlockOp h (leAt p 0 4) (byteAt p 4) (p.drop 8) s
  | 0x0503 => imgVerifyOp h s
  | 0x0504 => imgScheduleOp h (leAt p 0 8) (byteAt p 8) s
  | 0x0505 => imgAbortOp h s
  | 0x0506 => imgQueryOp h s
  | 0x0507 => sheetPrepareOp h s
  | 0x0508 => sheetCommitOp h (leAt p 0 8) s
  | 0x0601 => timeCorrelateOp h (leAt p 0 8) (leAt p 8 4) (leAt p 12 8) s
  | 0x0602 => timeQueryOp h s
  | 0x0701 => sessionChallengeOp h (byteAt p 0) s
  | 0x0702 => sessionOpenOp h (byteAt p 0) (byteAt p 1) ((p.drop 4).take 16) (p.drop 20) s
  | 0x0703 => sessionCloseOp h (byteAt p 0) s
  | 0x0704 => match byteAt p 0 with
    | 1 => modeRequestOp h .safe s
    | 2 => modeRequestOp h .reset s
    | 3 => modeRequestOp h .dormant s
    | 4 => modeRequestWakeOp h s
    | 5 => modeRequestOp h .replay s
    | _ => bad s
  | 0x0705 => selftestQueryOp h s
  | 0x0706 => regReadOp h (leAt p 0 4) (leAt p 4 2) s
  | 0x0707 => match byteAt p 2 with
    | 1 => sealFuseStep1Op h (byteAt p 0) (byteAt p 1) s
    | 2 => sealFuseStep2Op h (byteAt p 0) (byteAt p 1) (word 4) s
    | _ => bad s
  | 0x0708 => withheldClearOp h (leAt p 0 2) s
  | 0x0801 => perfConfigOp h (perfParams p) s
  | 0x0802 => perfReadOp h s
  | 0x0803 => perfSamplesOp h (leAt p 0 4) (byteAt p 4) s
  | 0x0901 => netStatusOp h (byteAt p 0) (byteAt p 1) (leAt p 2 2) (leAt p 4 2) s
  | 0x0902 => netPortControlOp h (byteAt p 0) (byteAt p 1) s
  | 0x0903 => netBankWriteOp h (byteAt p 0) (leAt p 2 2) ((List.range (leAt p 4 2)).map fun i => word (8 + 4 * i)) s
  | 0x0904 => netBankSwitchOp h (word 0) (word 4) s
  | 0x0905 => netPolicyOp h (byteAt p 0) s
  | 0x0A01 => redStatusOp h s
  | 0x0A02 => match byteAt p 0 with
    | 1 => switchoverStep1Op h s
    | 2 => switchoverStep2Op h (word 4) s
    | _ => bad s
  | 0x0A03 => laneResyncOp h (byteAt p 0) s
  | 0x0A04 => tenderEnableOp h (byteAt p 0) s
  | 0x0B01 => ioStatusOp h (byteAt p 0) (byteAt p 1) s
  | 0x0B02 => ioTestConfigOp h (byteAt p 0) (byteAt p 1) (byteAt p 2) s
  | 0x0B03 => ioForceOp h (byteAt p 0) (byteAt p 1) (leAt p 4 4) s
  | 0x0D01 => dbgStatusOp h s
  | _ => s.judgeAlone c.vital

/-! ### An arriving packet (R300–R307, R537) -/

/-- A packet that has passed steps 1 to 3 of R306: where and when it arrived, from whom, in which lanes' memory, and its bytes. -/
structure Arrival where
  port   : HostPort
  peer   : HostPeer
  stamp  : Nat
  source : Nat
  lanes  : LaneSet
  bytes  : List Byte
deriving DecidableEq, Repr

def Arrival.queueByte (a : Arrival) : Nat := byteAt a.bytes 1
def Arrival.queue (a : Arrival) : Nat := a.queueByte % 16
def Arrival.opcode (a : Arrival) : Nat := leAt a.bytes 2 2
def Arrival.seq (a : Arrival) : Word := BitVec.ofNat 32 (leAt a.bytes 4 4)
def Arrival.plen (a : Arrival) : Nat := leAt a.bytes 8 2
def Arrival.flags (a : Arrival) : Nat := leAt a.bytes 10 2
def Arrival.mac (a : Arrival) : Bool := bitOf a.flags 0
def Arrival.hostTime (a : Arrival) : Word := BitVec.ofNat 32 (leAt a.bytes 12 4)
def Arrival.params (a : Arrival) : List Byte := (a.bytes.drop 16).take a.plen
def Arrival.code (a : Arrival) : BitVec 64 := BitVec.ofNat 64 (leAt a.bytes (16 + a.plen) 8)

/-- What the safety code covers: the virtual header of a command and bytes 0 to 15 + PLEN (R301). -/
def Arrival.covered (a : Arrival) (identity : Nat) : List Byte :=
  fields [(2, a.source), (2, identity), (1, a.queueByte), (3, 0), (4, a.seq.toNat)] ++ a.bytes.take (16 + a.plen)

/-- The safety code that the packet should carry. -/
def Arrival.safety (a : Arrival) (identity : Nat) : BitVec 64 := crc64 (a.covered identity)

def Arrival.cmd (a : Arrival) : RingCmd :=
  ⟨a.stamp, a.port, a.source, a.queue, a.opcode, a.seq, a.mac, a.hostTime, a.code, a.params⟩

/-- The key of LAST for a packet (R304). -/
def Arrival.key (a : Arrival) : Nat := 65536 * a.queue + a.source

/-- LAST of a source and queue; 10 000 where no value has been persisted (R304). -/
def State.lastOf (s : State) (a : Arrival) : Word := Tab.getD s.host.lastSeq a.key 10000

/-- The housekeeper judges and answers the packet: it serves the mode, or the packet is for Q5 (R312). -/
def State.hkJudges (s : State) (a : Arrival) : Bool := s.mod.mode.hkAnswers || a.queue = 5

/-- The answer to a packet that does not enter its ring, on the port of its arrival (R306, R537). -/
def State.answer (s : State) (a : Arrival) (own : Bool) (status : Nat) (params : List Byte) : State :=
  let p := { replyTo a.cmd.hdr a.opcode status params with mac := a.mac, own := own, ports := [a.port], peers := [(a.port.code, a.peer)] }
  if s.hkJudges a then if s.mod.hkLost then s.holdReply LaneSet.none p else s.sendPacket p
  else s.holdReply (LaneSet.inter s.writers a.lanes) p

/-- A record about a packet, by whoever judges it. -/
def State.recordArrival (s : State) (a : Arrival) (type : Nat) (payload : List Byte) : State :=
  if s.hkJudges a then s.recordHk type payload else s.hostRecord type payload

/-- An answer that PACKET_REJECTED records (R319). -/
def State.rejectArrival (s : State) (a : Arrival) (own : Bool) (status : Nat) (params : List Byte) : State :=
  (s.recordArrival a 0x0501 (fields [(2, a.source), (1, a.queueByte), (1, 0), (2, a.opcode), (2, status), (4, a.seq.toNat)])).answer
    a own status params

/-- The packet consumes its sequence (R304). -/
def State.consume (s : State) (a : Arrival) (ring : Bool) : State :=
  { s with host := { s.host with
    lastSeq := Tab.put s.host.lastSeq a.key a.seq
    consumed := s.host.consumed ++ [⟨a.source, a.queue, a.seq, a.code, a.port, a.stamp, a.opcode, a.hostTime, a.mac, [], [a.port], ring,
      [(a.port.code, a.peer)], if a.mac then s.sessionKey a.opcode a.source else none⟩] } }

/-- A failure that consumes the sequence (R306 steps 9, 10 and 12). -/
def State.failConsumed (s : State) (a : Arrival) (status : Nat) : State := (s.consume a false).rejectArrival a true status []

/-- Consumed packets without a due reply are forgotten 1 s after their consumption (R305). -/
def HostS.forget (h : HostS) (now : Nat) : HostS :=
  { h with consumed := h.consumed.filter fun c => now ≤ c.time + 1000000 || (c.ring && c.replies.isEmpty) }

/-- A copy of a consumed packet within 1 s (R305): its reply again on the port of the copy, or nothing while the reply is still due. -/
def State.copyArrives (s : State) (a : Arrival) (c : Consumed) : State :=
  let again := !c.replies.isEmpty
  let s1 := if c.port = a.port
    then (({ s with host := { s.host with resent := if again then satAdd 0xFFFF s.host.resent 1 else s.host.resent } } : State).recordArrival a
      0x0505 (fields [(2, a.source), (1, a.queueByte), (1, 0), (4, a.seq.toNat)]))
    else { s with host := { s.host with twins := satAdd 0xFFFF s.host.twins 1 } }
  let same (d : Consumed) : Bool := d.source = c.source && d.queue = c.queue && d.seq = c.seq
  let add (d : Consumed) : Consumed :=
    if same d then { d with ports := if again || d.ports.contains a.port then d.ports else d.ports ++ [a.port], peers := Tab.put d.peers a.port.code a.peer }
    else d
  let s2 : State := { s1 with host := { s1.host with consumed := s1.host.consumed.map add } }
  if again then s2.each c.replies fun s p => s.resendPacket c { p with ports := [a.port], peers := [(a.port.code, a.peer)] } else s2

/-- Whether the session MAC verifies (R316). -/
def Arrival.macOk (a : Arrival) (identity : Nat) (x : Session) : Bool :=
  (hashBytes 32 (hmacSha256 x.key (a.covered identity ++ bytesOf 8 a.code))).take 16 = a.bytes.drop (24 + a.plen)

/-- A MAC that does not verify: MAC_BAD; the third within 60 s ends the session (R317, R319). -/
def State.macBad (s : State) (a : Arrival) (x : Session) : State :=
  let times := (x.macBad.filter fun t => a.stamp ≤ t + 60000000) ++ [a.stamp]
  let y := { x with macBad := times }
  let put (z : Session) : Session := if z = x then y else z
  let s1 := s.recordArrival a 0x0904 (fields [(1, x.role.code), (1, 0), (2, a.source), (4, a.seq.toNat)])
  let s2 : State := { s1 with host := { s1.host with sessions := s1.host.sessions.map put, hkSession := s1.host.hkSession.map put } }
  (if 3 ≤ times.length then s2.endSession y 2 else s2).answer a false stMac []

/-- Commands of some rings, each once, by ring and in stamp order within a ring. -/
def State.queued (s : State) (keys : List Nat) : List RingCmd :=
  keys.flatMap fun k => ((Lane.all.flatMap fun l => Tab.getD (s.host.rings.get l) k []).foldl
    (fun acc c => if acc.any fun d => d.same c then acc else acc ++ [c]) []).mergeSort fun x y => x.stamp ≤ y.stamp

/-- The rings of the non-vital intake in queue number order; STATUS_MODULE's own stands with Q4 (R298, R309). -/
def intakeRings : List Nat := [16, 4, 6, 7, 8, 9, 10, 11, 12, 13, 14, 15]

/-- The non-vital commands that the intake of the cycle takes: up to 16 stamped before the accorded cycle network time (R309). -/
def State.intakeDue (s : State) (time : Nat) : List RingCmd :=
  ((s.queued intakeRings).filter fun c => c.stamp < time).take 16

/-- Commands still in their rings that an accord or an intake of the cycle takes with an accorded cycle network time before a stamp: a
lane judges step 13 of the packet only after them (R537). -/
def State.leaving (s : State) (stamp : Nat) : List RingCmd :=
  let a := s.cycleSet
  if s.mod.mode.cycles && a.time < stamp then
    (if s.accordOpen then a.cmds else []) ++ (if s.accordOpen || !s.host.intakeDone then s.intakeDue a.time else [])
  else []

/-- Packets of a ring with an earlier stamp in any lane, each once, without those that leave it first (R537). -/
def State.ringFill (s : State) (key stamp : Nat) : Nat :=
  ((s.queued [key]).filter fun c => c.stamp ≤ stamp && !(s.leaving stamp).any fun d => d.same c).length

/-- The depth of a ring: 4 for STATUS_MODULE's own (R298). -/
def State.ringDepth (s : State) (key : Nat) : Nat := if key = 16 then 4 else s.queueDepth key

/-- Steps 13 and 14: the command enters its ring, with a place of the reply ring reserved (R311); Q5 also waits at the housekeeper for
the lanes' confirmation (R312). -/
def State.enterRing (s : State) (a : Arrival) : State :=
  let k := ringKey a.queue a.opcode
  if s.ringDepth k ≤ s.ringFill k a.stamp then
    ({ s with host := { s.host with fullCnt := Tab.upd s.host.fullCnt a.queue 0 (· + 1) } } : State).answer a false stQueueFull []
  else
    let s1 := s.consume a true
    let put (l : Lane) (t : Tab (List RingCmd)) : Tab (List RingCmd) := if a.lanes.get l then Tab.upd t k [] (· ++ [a.cmd]) else t
    { s1 with host := { s1.host with
      rings := s1.host.rings.mapL put
      reserved := Tab.upd s1.host.reserved k 0 (· + 1)
      q5 := if a.queue = 5 then s1.host.q5 ++ [a.cmd] else s1.host.q5 } }

/-- Step 12 and those after it. In the modes that the housekeeper serves it answers at once (R312). -/
def State.step12 (s : State) (a : Arrival) : State :=
  if !plenOk a.opcode a.params then s.failConsumed a stBadLength
  else if s.mod.mode.hkAnswers then (s.consume a false).perform a.cmd
  else s.enterRing a

/-- Step 11: QUEUES, session and MAC (R313, R316). -/
def State.step11 (s : State) (a : Arrival) (role : Option Role) : State :=
  let allowed := s.host.recoveryAddr || (s.image.sources.find? fun d => d.id = a.source).any fun d => bitOf d.queues a.queue
  if !allowed then s.rejectArrival a false stNotAuth []
  else match role with
  | none => if a.mac then s.rejectArrival a false stBadParam [] else s.step12 a
  | some r =>
    if !a.mac then s.rejectArrival a false stNotAuth []
    else match s.sessionOf r a.source with
    | none => s.rejectArrival a false stNotAuth []
    | some x => if a.macOk s.mod.sid x then s.step12 a else s.macBad a x

/-- What DORMANT does not serve of the opcodes that it serves: targets other than WAKE, roles other than MAINTAINER (R18). -/
def State.dormantRefuses (s : State) (a : Arrival) : Bool :=
  s.mod.mode = .dormant && ((a.opcode = 0x0704 && byteAt a.params 0 ≠ 4)
    || (a.opcode = 0x0701 && Role.ofCode (byteAt a.params 0) ≠ some .maintainer)
    || (a.opcode = 0x0702 && Role.ofCode (byteAt a.params 1) ≠ some .maintainer))

/-- Steps 9 and 10: the queue, the opcode, and the service in this mode and role. -/
def State.step9 (s : State) (a : Arrival) : State :=
  let enabled := s.queueDepth a.queue ≠ 0 || (a.queue = 4 && a.opcode = 0x0301)
  match opcodeRole a.opcode with
  | none => s.failConsumed a stUnknown
  | some role =>
    if !enabled || !(opcodeQueue a.opcode = a.queue || (a.opcode = 0x0F01 && a.queue = 3)) then s.failConsumed a stWrongQueue
    else if s.enteringDormant then (s.consume a false).answer a true stBusy []
    else match s.service a.queue a.opcode with
    | .lanes | .housekeeper => if s.dormantRefuses a then s.failConsumed a stMode else s.step11 a role
    | _ => s.failConsumed a stMode

/-- Step 8: a new sequence, or a copy (R304, R305, R307). -/
def State.step8 (s : State) (a : Arrival) : State :=
  if newer a.seq (s.lastOf a) then s.step9 a
  else
    match s.host.consumed.find? fun c => c.source = a.source && c.queue = a.queue && c.seq = a.seq && c.code = a.code
      && a.stamp ≤ c.time + 1000000 with
    | some c => s.copyArrives a c
    | none => s.rejectArrival a false stSequence (bytesOf 4 (s.lastOf a + 1))

/-- Steps 4 to 7: version, length, safety code and reserved bits. -/
def State.step4 (s : State) (a : Arrival) : State :=
  if byteAt a.bytes 0 ≠ 2 then s.rejectArrival a false stBadVersion []
  else if a.bytes.length ≠ 24 + a.plen + (if a.mac then 16 else 0) || 1024 < a.plen then s.rejectArrival a false stBadLength []
  else if a.code ≠ a.safety s.mod.sid then
    let h := s.host
    let s1 : State := { s with host := match a.port with
      | .a => { h with safetyA := satAdd 0xFFFF h.safetyA 1 }
      | .b => { h with safetyB := satAdd 0xFFFF h.safetyB 1 } }
    s1.recordArrival a 0x0502 (fields [(2, a.source), (1, a.port.code), (1, a.queueByte), (4, a.seq.toNat)])
  else
    let s1 : State := { s with host := { s.host with peers := Tab.put s.host.peers (2 * a.source + a.port.code) a.peer } }
    if 16 ≤ a.queueByte || 4 ≤ a.flags then s1.rejectArrival a false stBadParam [] else s1.step8 a

/-- HOST_FLOOD of every source that passed 1 000 packets, once its second is over (R306 step 3, R320). -/
def State.closeFlood (s : State) (second : Nat) : State :=
  if second = s.host.floodSecond then s
  else
    let s1 := s.each (s.host.flood.filter fun p => 1000 < p.2) fun s p => s.recordHk 0x0503 (fields [(2, p.1), (2, 0), (4, p.2 - 1001)])
    { s1 with host := { s1.host with flood := [], floodSecond := second } }

/-- The source of a sending address on a port (R298, R299). -/
def State.sourceAt (s : State) (p : HostPort) (addr : Nat) : Option Nat :=
  if s.host.recoveryAddr then some 0xFFFF
  else (s.image.sources.find? fun d => addr ≠ 0 && (match p with | .a => d.addrA | .b => d.addrB) = addr).map SourceDef.id

/-- Steps 1 to 3 of R306, judged once by the shared host MAC (R537), and the lanes' steps after them. -/
def hostPacketOp (p : HostPort) (sender : HostPeer) (stamp : Nat) (lanes : LaneSet) (bytes : List Byte) (s : State) : State :=
  let addr := sender.addr.toNat
  if s.portsSilent p then s
  else match s.sourceAt p addr with
  | none => ({ s with host := s.host.drop p } : State).recordHk 0x0504 (fields [(1, p.code), (3, 0), (4, addr)])
  | some src =>
    let a : Arrival := ⟨p, sender, stamp, src, lanes, bytes⟩
    let s1 := s.closeFlood (stamp / 1000000)
    let n := Tab.getD s1.host.flood src 0 + 1
    let s2 : State := { s1 with host := HostS.forget { s1.host with flood := Tab.put s1.host.flood src n } stamp }
    if n ≤ 1000 then s2.step4 a
    else if n = 1001 then
      ({ s2 with host := { s2.host with fullCnt := Tab.upd s2.host.fullCnt a.queue 0 (· + 1) } } : State).sendPacket
        { replyTo a.cmd.hdr a.opcode stQueueFull [] with own := false, ports := [p], peers := [(p.code, sender)] }
    else { s2 with host := { s2.host with floodDropped := satAdd 0xFFFF s2.host.floodDropped 1 } }

def execHostPacket (port : HostPort) (sender : HostPeer) (stamp : Nat) (lanes : LaneSet) (bytes : List Byte) (s : State) :
    Host.Outcome State Fault Refusal :=
  .next (hostPacketOp port sender stamp lanes bytes s)

/-! ### Non-vital service (R309, R312, R538) -/

/-- The writing lanes that hold a command. -/
def State.holders (s : State) (c : RingCmd) : LaneSet :=
  LaneSet.inter s.writers (s.host.rings.map fun t => t.any fun q => q.2.any fun d => d.same c)

/-- A command leaves the ring of every lane. -/
def State.dropCmd (s : State) (c : RingCmd) : State :=
  { s with host := { s.host with
    rings := s.host.rings.map fun t => Tab.mapV t fun _ l => l.filter fun d => !d.same c
    q5 := s.host.q5.filter fun d => !d.same c } }

/-- The reply copies that a service has added, kept for the lanes that held the command. -/
def HostS.onlyFrom (h before : HostS) (ls : LaneSet) : HostS :=
  let n := before.replies.length
  let keep (r : LaneReplies) : LaneReplies := { r with lanes := r.lanes.mapL fun l p => if ls.get l then p else none }
  let m := before.sent.length
  let of (p : Packet) : Bool := match Lane.all.find? fun l => l.id + 1 = p.lane with
    | some l => ls.get l
    | none => true
  { h with replies := h.replies.take n ++ (h.replies.drop n).map keep, sent := h.sent.take m ++ (h.sent.drop m).filter of }

/-- A command is served. Its effect is that of at least two lanes that hold it; what a single lane computes shows only in its own
reply, which the selector does not send (R310). -/
def State.serveRing (s : State) (c : RingCmd) : State :=
  let ls := s.holders c
  let s0 := s.dropCmd c
  let s1 := s0.perform c
  if 2 ≤ LaneSet.count ls then { s1 with host := s1.host.onlyFrom s0.host ls }
  else { s0 with host := { s0.host with replies := (s1.host.onlyFrom s0.host ls).replies } }

/-- The housekeeper serves the Q5 commands that two lanes confirm (R312). -/
def State.serveQ5 (s : State) (ready : RingCmd → Bool) : State :=
  if s.mod.hkLost then s
  else s.each (s.host.q5.filter fun c => ready c && 2 ≤ LaneSet.count (s.holders c)) fun s c => (s.dropCmd c).perform c

/-- The non-vital intake at T₃ (R309): up to 16 commands stamped before the accorded cycle network time, served in logical time. -/
def intakeOp (s : State) : State :=
  if s.mod.mode.cycles && s.acc.tick = 3 && !s.host.intakeDone then
    let early (c : RingCmd) : Bool := c.stamp < s.acc.accorded.time
    let taken := s.intakeDue s.acc.accorded.time
    let s1 : State := { s with host := { s.host with
      intakeDone := true, intake := taken, intakeLast := taken.length, intakeMax := max s.host.intakeMax taken.length } }
    (s1.each taken State.serveRing).serveQ5 early
  else s

def execNonvitalIntake (s : State) : Host.Outcome State Fault Refusal := .next (intakeOp s)

/-- The modes in which the lanes serve commands without cycles (R538). -/
def Mode.offCycle : Mode → Bool
  | .loaded | .safe | .recovery | .replay => true
  | _ => false

/-- Every command in a ring is served, in stamp order across the queues (R538). -/
def offCycleOp (s : State) : State :=
  if s.mod.mode.offCycle then
    let all := (s.queued ((List.range 17).filter (· ≠ 5))).mergeSort fun x y => x.stamp ≤ y.stamp
    (s.each all State.serveRing).serveQ5 fun _ => true
  else s

def execOffCycleService (s : State) : Host.Outcome State Fault Refusal := .next (offCycleOp s)

/-! ### The reply selector (R310) -/

/-- Bytes that two lanes have written alike. -/
def LaneReplies.agreed (r : LaneReplies) : Option Packet :=
  match r.lanes.a, r.lanes.b, r.lanes.c with
  | some p, some q, c => if p = q then some p else if c = some p || c = some q then c else none
  | some p, none, some q | none, some p, some q => if p = q then some p else none
  | _, _, _ => none

/-- The transition of an allowed MODE_REQUEST, once its reply, or what is sent in its place, has been sent (R310, R344). -/
def State.carryMode (s : State) (p : Packet) : State :=
  match s.mod.modeDue with
  | some m =>
    if p.opcode ≠ 0x0704 || !(p.status = stOk || p.status = stDisagree) then s
    else
      let s1 : State := { s with mod := { s.mod with modeDue := none } }
      if !s1.modeAllowed m then s1
      else match m with
      | .safe => s1.enterSafe 5
      | .reset => s1.enterReset 5
      | .dormant => s1.beginDormant
      | .replay => s1.enterReplay
      | _ => s1
  | none => s

/-- The reply to a command has been sent already, the selector's own included. -/
def State.answered (s : State) (cmd : CmdRef) : Bool :=
  s.host.consumed.any fun c => c.source = cmd.source.toNat && c.queue = cmd.queue.val && c.seq = cmd.seq && c.ring && !c.replies.isEmpty

/-- Takes the first entry of the selector that passes. -/
def State.takeReply (s : State) (p : LaneReplies → Bool) : Option (LaneReplies × State) :=
  match s.host.replies.findIdx? p, s.host.replies.find? p with
  | some i, some r => some (r, { s with host := { s.host with replies := s.host.replies.eraseIdx i } })
  | _, _ => none

def replyAgreedOp (cmd : CmdRef) (s : State) : State :=
  match s.takeReply fun r => r.ref = cmd && r.agreed.isSome with
  | some (r, s1) =>
    match r.agreed with
    | some p => ((if p.own && s.answered cmd then s1 else s1.sendPacket p).carryMode p)
    | none => s
  | none => s

def execReplyAgreed (cmd : CmdRef) (s : State) : Host.Outcome State Fault Refusal := .next (replyAgreedOp cmd s)

/-- LANE_DISAGREE in place of a reply, with REPLY_DISAGREE (R310, R320). -/
def State.substitute (s : State) (p : Packet) (wrote : Nat) : State :=
  let s1 : State := { s with host := { s.host with disagree := satAdd 0xFFFF s.host.disagree 1 } }
  (((s1.recordHk 0x0507 (fields [(1, p.queue), (1, wrote), (2, p.opcode), (4, p.seq.toNat)])).sendPacket p).carryMode p)

/-- 20 ms without two identical replies (R310). -/
def replyDisagreeOp (cmd : CmdRef) (s : State) : State :=
  let wrote (r : LaneReplies) : LaneSet := r.lanes.map Option.isSome
  match s.takeReply fun r => r.ref = cmd && r.agreed.isNone && LaneSet.count (wrote r) ≠ 0 with
  | some (r, s1) => s1.substitute r.proto (LaneSet.bits (wrote r))
  | none => s

def execReplyDisagreeTimeout (cmd : CmdRef) (s : State) : Host.Outcome State Fault Refusal := .next (replyDisagreeOp cmd s)

/-- A command that entered its ring and that nobody has answered yet. -/
def State.unanswered (s : State) (cmd : CmdRef) : Option Consumed :=
  if s.host.replies.any (fun r => r.ref = cmd) || (!s.mod.hkLost && s.host.q5.any fun c => c.hdr.ref = cmd) then none
  else s.host.consumed.find? fun c =>
    c.source = cmd.source.toNat && c.queue = cmd.queue.val && c.seq = cmd.seq && c.ring && c.replies.isEmpty

/-- 200 ms without any reply (R310). -/
def replyMissingOp (cmd : CmdRef) (s : State) : State :=
  match s.takeReply fun r => r.ref = cmd && r.lanes = ⟨none, none, none⟩ with
  | some (r, s1) => s1.substitute r.proto 0
  | none =>
    match s.unanswered cmd with
    | some c => s.substitute (replyTo ⟨cmd.source, cmd.queue, cmd.seq, c.hostTime, c.time, c.mac⟩ c.opcode stDisagree []) 0
    | none => s

def execReplyMissingTimeout (cmd : CmdRef) (s : State) : Host.Outcome State Fault Refusal := .next (replyMissingOp cmd s)

/-- A Q5 command that the lanes have not confirmed within 100 ms (R312). -/
def q5TimeoutOp (cmd : CmdRef) (s : State) : State :=
  match s.host.q5.find? fun c => c.hdr.ref = cmd with
  | some c =>
    let s1 := s.dropCmd c
    if s1.mod.hkLost then s1 else s1.replyHk c.hdr c.opcode stNotAuth []
  | none => s

def execQ5ConfirmTimeout (cmd : CmdRef) (s : State) : Host.Outcome State Fault Refusal := .next (q5TimeoutOp cmd s)

/-! ### Time limits and persistence -/

/-- A challenge passes its 30 s (R314). -/
def execChallengeExpired (source : BitVec 16) (role : Role) (s : State) : Host.Outcome State Fault Refusal :=
  .next { s with host := { s.host with challenges := s.host.challenges.filter fun c => !(c.source = source.toNat && c.role = role) } }

/-- Sessions of a role end 30 minutes after they opened (R317). -/
def sessionExpiredOp (r : Role) (s : State) : State :=
  s.each ((s.host.sessions ++ s.host.hkSession.toList).filter fun x => x.role = r) fun s x => s.endSession x 1

def execSessionExpired (role : Role) (s : State) : Host.Outcome State Fault Refusal := .next (sessionExpiredOp role s)

/-- The sequences and the counters of unsolicited packets and challenges are persisted (R304, R314). -/
def sequencePersistOp (s : State) : State :=
  if s.mod.mode = .off then s
  else
    let s1 := s.closeFlood (s.netNow / 1000000)
    { s1 with host := { s1.host with
      persistSeq := s1.host.lastSeq, persistUnsol := s1.host.unsolCtr, persistChalLanes := s1.host.chalLanes, persistChalHk := s1.host.chalHk } }

def execSequencePersist (s : State) : Host.Outcome State Fault Refusal := .next (sequencePersistOp s)

end Sys2Proof.Machine
end

