-- ==== Sys2Proof/Machine/PartnerOps.lean ====
section
/-!
DEFINITION. The partner link and the tender: messages and their checks (R364–R366), the levels' exchange (R434), the steps of a resync
for a lane and for a tender (R361, R371), takeover (R372–R375), holding (R370) and the planned switchover (R376). The codes and field
orders of the messages that the spec names without a layout are the model's own (log entry 14).
-/

namespace Sys2Proof.Machine

/-! ### Arriving messages -/

/-- A word of a message body. -/
def wordAt (bs : List Byte) (ofs : Nat) : Word := BitVec.ofNat 32 (leAt bs ofs 4)

/-- A 64-bit value of a message body. -/
def longAt (bs : List Byte) (ofs : Nat) : BitVec 64 := BitVec.ofNat 64 (leAt bs ofs 8)

/-- The key under which the sequences of a message type and sender are counted. -/
def messageKey (m : PartnerMsg) : Nat := m.type * 4 + m.sender % 4

/-- A valid message: its CRC is right and its sequence is new for its type (R364). -/
def State.partnerValid (s : State) (m : PartnerMsg) : Bool :=
  m.crcOk && (Tab.get? s.plink.seqs (messageKey m)).all fun q => newer m.seq q

/-- The round strobe of a partner that runs a network: a module that listens takes its time and integrates as TENDER (R221). -/
def State.gotStrobe (s : State) (body : List Byte) : State :=
  if s.mod.mode.cycles && s.net.phase = .listening then
    let delay := if s.plink.delay = 0xFFFF then 0 else s.plink.delay / 400
    let t := leAt body 0 8 - delay
    let s1 : State := { s with
      mod := { s.mod with role := .tender }
      net := { s.net with netTime := t, round := roundOf t, running := true, phase := .running, claim := wordAt body 8 }
      acc := { s.acc with accorded := { s.acc.accorded with time := t } }
      plink := { s.plink with leadChannelY := byteAt body 12 = 1 } }
    s1.serveByRole
  else s

/-- Voted bytes of the lead for this tender's hub: sent at the vote instant of the slot, or at once where that has passed and they are not
late (R210). -/
def State.gotDownlink (s : State) (body : List Byte) : State :=
  if s.obeys then
    let n := leAt body 0 2
    let s1 : State := { s with net := { s.net with partnerBytes := Tab.put s.net.partnerBytes n (wordAt body 2, body.drop 6) } }
    if s.net.awaited.contains n then s1.sendLead n else s1
  else s

/-- The greater of two claims. -/
def maxClaim (a b : Word) : Word := if a.toNat < b.toNat then b else a

/-- What a heartbeat or a status says of the partner. -/
def State.heardPartner (s : State) (modeWord cond : Nat) (claim : Word) : State :=
  { s with
    plink := { s.plink with partnerMode := modeWord, partnerCond := cond, partnerClaim := claim }
    net := { s.net with otherClaim := maxClaim s.net.otherClaim claim } }

/-- The mode word of a lead with cycles (R372). -/
def leadWord (w : Nat) : Bool := (w % 16 = 5 || w % 16 = 6) && w / 64 = 1

/-- The network time of a HEARTBEAT that arrives now, at the start of the tick under way (log entry 151). -/
def State.beatTime (s : State) : Nat :=
  if s.mod.mode.cycles then s.netNow + (if s.accordOpen then 10000 else 1000 * s.acc.tick) else s.netNow

/-- A heartbeat (R364, R370, R372). A lead's counts against silence; one that returns ends the holding. -/
def State.gotHeartbeat (s : State) (body : List Byte) : State :=
  let w := byteAt body 1
  let lane := Lane.all.find? fun l => l.id = byteAt body 0
  let s1 := s.heardPartner w (byteAt body 13) (wordAt body 8)
  let hearing := match lane with
    | some l => s1.plink.hearing.set l true
    | none => s1.plink.hearing
  let s2 : State := { s1 with plink := { s1.plink with hearing := hearing, partnerRights := byteAt body 14 = 1 } }
  if leadWord w then
    let s3 : State := { s2 with
      plink := { s2.plink with beat := true, lastBeat := s.beatTime }
      net := if s.mod.role = .tender && s.net.running then { s2.net with claim := wordAt body 8 } else s2.net }
    if s3.mod.role = .tender && s3.plink.holding then
      (({ s3 with plink := { s3.plink with holding := false } } : State).setCond .unsynced 1).beginPartnerResync
    else s3
  else s2

/-- A block for the next T₀ of every lane: a newer cycle takes the place of an older one (R368). -/
def State.gotBlock (s : State) (body : List Byte) : State :=
  let b : PartnerBlk := ⟨wordAt body 0, crc32c body, body⟩
  let take (o : Option PartnerBlk) : Option PartnerBlk :=
    match o with
    | some x => if newer b.cycle x.cycle then some b else some x
    | none => some b
  { s with plink := { s.plink with block := s.plink.block.map take } }

/-- The tender's status (R364). -/
def State.gotStatus (s : State) (body : List Byte) : State :=
  let s1 := s.heardPartner (byteAt body 4) (byteAt body 5) (wordAt body 7)
  ({ s1 with plink := { s1.plink with partnerShadow := byteAt body 6 }
             net := { s1.net with otherClaim := maxClaim s1.net.otherClaim (wordAt body 11) } } : State).gotBlock body

/-- A verdict of one of the lead's lanes; two equal ones are the lead's (R369). -/
def State.gotVerdict (s : State) (sender : Nat) (body : List Byte) : State :=
  let v := (wordAt body 0, longAt body 4)
  match Lane.all.find? fun l => l.id = sender with
  | none => s
  | some l =>
    let vs := s.plink.verdicts.set l (some v)
    let equal := (Lane.all.filter fun k => vs.get k = some v).length
    { s with plink := { s.plink with verdicts := vs, leadVerdict := if 2 ≤ equal then some v else s.plink.leadVerdict } }

/-- A page of a copy (R358, R371): all three lanes of the tender receive it. -/
def State.gotPage (s : State) (body : List Byte) : State :=
  if s.plink.resync && s.plink.resyncStep = 3 && s.plink.copying then
    { s with plink := { s.plink with pages := Tab.put s.plink.pages (leAt body 0 2 % 4096) (body.drop 4) } }
  else s

/-! ### CONTROL -/

/-- What the partner reports of itself (R434). -/
def State.takeLevels (s : State) (pos : Nat) (levels : List Nat) (digest : List Byte) (minors : Word) : State :=
  { s with plink := { s.plink with partnerPos := some pos, partnerLevels := levels, partnerDigest := digest, partnerMinors := minors } }

/-- The tender names its readiness for the switch cycle (R376). -/
def State.followSwitchover (s : State) (cycle : Nat) : State :=
  if s.mod.mode = .operate && s.mod.role = .tender then
    let s1 : State := { s with plink := { s.plink with switchAt := some cycle } }
    if s.mod.cond = .none && s.plink.rights then s1.sendControl ctlConfirm (leBytes 1 ctlSwitchover ++ leBytes 4 cycle) none else s1
  else s

/-- The tender's confirmation of an operation; that of a schedule counts before the T₀ ten cycles ahead of the named time (R427, R429). -/
def State.gotConfirm (s : State) (kind : Nat) : State :=
  if kind = ctlTenderEnable then s.answerEnable stOk
  else if kind = ctlSwitchover then { s with plink := { s.plink with switchConfirmed := s.plink.switchAt.isSome } }
  else if kind = ctlSchedule then
    { s with img := { s.img with tenderConfirmed := s.img.tenderConfirmed || s.netNow + 100000 < s.img.pending.at_ } }
  else s

/-- The operation that a CONTROL message carries, at its receiver (R235, R237, R238, R349, R364, R376, R429, R434). -/
def State.actControl (s : State) (kind : Nat) (b : List Byte) : State :=
  if kind = ctlBankWrite then
    let n := leAt b 4 2
    let entries := (List.range n).map fun i => wordAt b (8 + 4 * i)
    if s.net.frozen then s else { s with net := s.net.setInactive (writeBank s.net.inactive (byteAt b 0) (leAt b 2 2) entries) }
  else if kind = ctlBankSwitch then (if s.net.frozen then s else s.armSwitch (wordAt b 0) (wordAt b 4) none)
  else if kind = ctlGrant then
    match Tab.get? s.image.nodes (leAt b 0 2) with
    | some d => s.applyGrant (leAt b 0 2) d (leAt b 2 2) (leAt b 4 2) (wordAt b 6)
    | none => s
  else if kind = ctlRefused then s.queueRefused (leAt b 2 2) (byteAt b 0) (byteAt b 1)
  else if kind = ctlBankCrc then
    match s.net.switchRound with
    | some (r, _) => if s.net.frozen then s.judgeBank r (wordAt b 0) true else s
    | none => s
  else if kind = ctlTenderEnable then
    ({ s with plink := { s.plink with rights := leAt b 0 4 = 1 } } : State).sendControl ctlConfirm (leBytes 1 ctlTenderEnable) none
  else if kind = ctlSchedule then s.followSchedule (leAt b 0 8) (byteAt b 8) ((b.drop 9).take 64)
  else if kind = ctlSwitchover then s.followSwitchover (leAt b 0 4)
  else if kind = ctlLevels then
    (s.takeLevels (byteAt b 0) [byteAt b 1, byteAt b 2, byteAt b 3, byteAt b 4] ((b.drop 5).take 64) (wordAt b 69)).judgeLevels
  else if kind = ctlConfirm then s.gotConfirm (byteAt b 0)
  else s

/-- A CONTROL message: an acknowledgement ends its retransmission; any other is acknowledged, and acts once (R364). -/
def State.gotControl (s : State) (body : List Byte) : State :=
  let kind := byteAt body 0
  let seq := wordAt body 1
  if kind = ctlAck then { s with plink := { s.plink with control := s.plink.control.filter fun c => c.seq ≠ seq } }
  else
    let s1 := s.sendPartner 8 (leBytes 1 ctlAck ++ bytesOf 4 seq)
    if s1.plink.ctlSeen.contains seq then s1
    else ({ s1 with plink := { s1.plink with ctlSeen := (seq :: s1.plink.ctlSeen).take 64 } } : State).actControl kind (body.drop 5)

/-! ### The row -/

/-- What a valid message does, by its type (R364). -/
def State.usePartner (s : State) (m : PartnerMsg) : State :=
  match m.type with
  | 1 => s.gotStrobe m.body
  | 2 => s.gotDownlink m.body
  | 3 => s.gotHeartbeat m.body
  | 4 => if s.mod.mode.cycles && s.net.running then s.busReceive (byteAt m.body 0) (leAt m.body 1 2) (byteAt m.body 3 = 1) (m.body.drop 4) else s
  | 5 => s.gotBlock m.body
  | 6 => s.gotStatus m.body
  | 7 => s.gotVerdict m.sender m.body
  | 8 => s.gotControl m.body
  | 9 => s.gotPage m.body
  | _ => s

/-- A partner message arrives: a bad CRC, or a sequence that is not new for its type, discards it, counted in PLK_ERR (R364). -/
def partnerMessageOp (m : PartnerMsg) (s : State) : State :=
  if s.mod.pos = 0 || !s.mod.mode.lanesRun then s
  else if !s.partnerValid m then { s with plink := { s.plink with crcErr := satAdd 0xFFFF s.plink.crcErr 1 } }
  else
    let s1 : State := { s with plink := { s.plink with seqs := Tab.put s.plink.seqs (messageKey m) m.seq, quiet := 0 } }
    s1.usePartner m

def execPartnerMessage (msg : PartnerMsg) (s : State) : Host.Outcome State Fault Refusal := .next (partnerMessageOp msg s)

/-- The operation of a CONTROL message that was sent three times again without an answer fails with LANE_DISAGREE (R364). A schedule
that is not confirmed is judged at its own deadline (R429). -/
def State.failControl (s : State) (c : ControlMsg) : State :=
  let s1 : State := { s with plink := { s.plink with control := s.plink.control.filter fun d => d.seq ≠ c.seq } }
  if c.kind = ctlTenderEnable then s1.answerEnable stDisagree
  else if c.kind = ctlSwitchover then s1.abandonSwitchover
  else if c.kind = ctlBankSwitch then
    match s1.net.switchRound with
    | some (r, crc) => s1.endSwitch 3 r crc
    | none => s1
  else s1

/-- One millisecond without the acknowledgement of the oldest CONTROL message: it leaves again, at most three times (R364). -/
def controlRetransmitOp (s : State) : State :=
  match s.plink.control with
  | [] => s
  | c :: rest =>
    if c.tries < 3 then
      ({ s with plink := { s.plink with control := { c with tries := c.tries + 1 } :: rest } } : State).sendPartner 8
        (leBytes 1 c.kind ++ bytesOf 4 c.seq ++ c.body)
    else s.failControl c

def execControlRetransmit (s : State) : Host.Outcome State Fault Refusal := .next (controlRetransmitOp s)

/-! ### The link comes up and goes down (R366, R434) -/

def partnerLinkUpOp (pos rom major minor iface : Nat) (digest : List Byte) (minors : Word) (s : State) : State :=
  if s.mod.pos ≠ 0 && s.mod.mode.lanesRun && !s.plink.up && 3 ≤ s.plink.live then
    let s1 : State := { s with
      mod := { s.mod with isolatedFault := false }
      plink := { s.plink with up := true, quiet := 0 }
      net := match s.net.phase with
        | .abandoned _ => { s.net with phase := .listening }
        | _ => s.net }
    let s2 := (s1.takeLevels pos [rom, major, minor, iface] digest minors).record 0x0123 (fields [(1, 1), (3, 0)])
    let s3 := if s2.samePosition then s2.recordStrap 3 else s2
    s3.sendLevels.judgeLevels
  else s

def execPartnerLinkUp (pos romLevel execMajor execMinor iface : Nat) (digest : List Byte) (minors : Word) (s : State) :
    Host.Outcome State Fault Refusal :=
  .next (partnerLinkUpOp pos romLevel execMajor execMinor iface digest minors s)

def partnerLinkDownOp (s : State) : State :=
  if s.plink.up && 3 ≤ s.plink.quiet then
    let s1 : State := { s with plink := { s.plink with up := false, partnerPos := none } }
    let s2 := s1.record 0x0123 (fields [(1, 0), (3, 0)])
    s2.lostPartner
  else s

def execPartnerLinkDown (s : State) : Host.Outcome State Fault Refusal := .next (partnerLinkDownOp s)

/-! ### The steps of a resync, of a lane or of the tender (R361, R371) -/

/-- A partner resync is in a step. -/
def State.partnerStep (s : State) (step : Nat) : Bool := s.plink.resync && s.plink.resyncStep = step

/-- A partner resync that fails for good: the tender keeps its condition (R371, R384: lane 3 stands for the tender). -/
def State.failPartnerResync (s : State) : State :=
  let s1 := s.record 0x0112 (fields [(1, 3), (1, s.plink.resyncStep), (2, 0)])
  { s1 with plink := { s1.plink with resync := false, resyncStep := 0, copying := false, pages := [], stored := [] } }

/-- Step 1 of a partner resync: the tender's image digest against the lead's. -/
def State.partnerDigestStep (s : State) (ok : Bool) : State :=
  if ok && (s.plink.partnerDigest = [] || s.plink.partnerDigest = s.img.runDigest) then s.partnerToCopy 1 else s.digestDiffers

def resyncReloadOp (l : Lane) (digestOk reloadOk : Bool) (s : State) : State :=
  if s.inStep l 1 then imageReloadOp l digestOk reloadOk s
  else if s.partnerStep 1 then s.partnerDigestStep digestOk
  else s

def execResyncImageReload (lane : Lane) (digestOk reloadOk : Bool) (s : State) : Host.Outcome State Fault Refusal :=
  .next (resyncReloadOp lane digestOk reloadOk s)

def execResyncSelftestComplete (lane : Lane) (passed : Bool) (s : State) : Host.Outcome State Fault Refusal :=
  .next (resyncTestOp lane passed s)

/-- The lead's first voting lane sends every page over the partner link (R371). -/
def State.sendPages (s : State) : State :=
  let pages := (List.range 4096).map fun p => (9, fields [(2, p), (2, 0)] ++ s.essencePage p)
  { s.bump with plink := { s.plink with sent := s.plink.sent ++ pages } }

/-- The lead has an unsynced tender of its own digest to copy to. -/
def State.mayCopyOut (s : State) : Bool :=
  s.mod.role = .lead && s.plink.up && s.plink.partnerCond = 1 && s.plink.partnerDigest = s.img.runDigest

def resyncArmedOp (l : Lane) (s : State) : State :=
  if s.inStep l 3 then copyArmedOp l s
  else if s.mod.mode = .operate && s.acc.tick = 0 then
    if s.partnerStep 3 && s.mod.role = .tender && s.plink.copyWait = 0 && !s.plink.copying then
      { s with plink := { s.plink with copying := true, pages := [], stored := [] } }
    else if s.mayCopyOut && LaneSet.first s.votingLanes = some l then (s.modMmu l MmuS.clearSent).sendPages
    else s
  else s

def execResyncCopyArmed (lane : Lane) (s : State) : Host.Outcome State Fault Refusal := .next (resyncArmedOp lane s)

/-- A copy of a partner resync fails: armed again at the second T₀, and given up at the ninth failure (R359, R361). -/
def State.partnerCopyFails (s : State) : State :=
  let s1 := s.partnerToCopy 2
  let s2 : State := { s1 with plink := { s1.plink with copyFailed := s1.plink.copyFailed + 1 } }
  if 9 ≤ s2.plink.copyFailed then s2.failPartnerResync else s2

def resyncCopyOp (l : Lane) (senderHash : BitVec 64) (s : State) : State :=
  if s.receiving l then copyCompleteOp l senderHash s
  else if s.partnerStep 3 && s.plink.copying then
    if senderHash = pageHash s.plink.pages then
      let s1 := s.loadEssence s.plink.pages
      let s2 : State := { s1 with plink := { s1.plink with resyncStep := 4, copying := false } }
      s2.forLanes s2.votingLanes fun s l => s.commitBogie l 6 1
    else s.partnerCopyFails
  else s

/-- The sender's page hash comes as its two halves (R359). -/
def execResyncCopyComplete (lane : Lane) (senderHigh senderLow : Word) (s : State) : Host.Outcome State Fault Refusal :=
  .next (resyncCopyOp lane (senderHigh ++ senderLow) s)

def resyncCopyFailedOp (l : Lane) (s : State) : State :=
  if s.receiving l then s.copyFails l
  else if s.partnerStep 3 && s.plink.copying then s.partnerCopyFails
  else s

def execResyncCopyFailed (lane : Lane) (s : State) : Host.Outcome State Fault Refusal := .next (resyncCopyFailedOp lane s)

/-- Catch-up of a tender: the stored cycles run from their accorded sets, and their vital state becomes the tender's (R371). -/
def State.partnerCatchUp (s : State) : State :=
  let s0 := s.forLanes s.votingLanes fun s l => s.commitBogie l 4 2
  let s1 := s0.each s.plink.stored fun s p => s.takeVital (s.runCycle p.1 p.2 id)
  { s1 with plink := { s1.plink with resyncStep := 5, stored := [], probation := 0 } }

def resyncCatchUpOp (l : Lane) (s : State) : State :=
  if s.inStep l 4 then catchUpOp l s
  else if s.partnerStep 4 then (if s.plink.stored.length ≤ 3000 then s.partnerCatchUp else s.failPartnerResync)
  else s

/-- Stored cycles that a lane, or else the tender, has to run (R360, R361, R371). -/
def State.cyclesStored (s : State) (l : Lane) : Nat := if s.inStep l 4 then (s.lane l).core.resync.behind else s.plink.stored.length

/-- Catch-up ends once all the stored cycles have been run (R361). -/
def execCatchUpComplete (lane : Lane) (run : Nat) (s : State) : Host.Outcome State Fault Refusal :=
  .next (if run = s.cyclesStored lane then resyncCatchUpOp lane s else s)

def resyncCatchUpTimeoutOp (l : Lane) (s : State) : State :=
  if s.inStep l 4 then catchUpTimeoutOp l s else if s.partnerStep 4 then s.failPartnerResync else s

def execCatchUpTimeout (lane : Lane) (s : State) : Host.Outcome State Fault Refusal := .next (resyncCatchUpTimeoutOp lane s)

/-- The tender is in step: it has no condition any more, and counts the lead's cycles (R367, R371). -/
def State.partnerInStep (s : State) : State :=
  let c := (s.plink.leadVerdict.map Prod.fst).getD s.mod.cycle
  let s1 : State := { s with
    mod := { s.mod with cycle := c }
    plink := { s.plink with resync := false, resyncStep := 0, copying := false, pages := [], stored := [], shadow := .equal } }
  s1.setCond .none 0

def resyncProbationOp (l : Lane) (s : State) : State :=
  if s.inStep l 5 then probationOp l s
  else if s.partnerStep 5 && 3 ≤ s.plink.probation then s.partnerInStep
  else s

/-- Consecutive probation cycles in step of a lane, or else of the tender (R361, R371). -/
def State.cyclesInStep (s : State) (l : Lane) : Nat := if s.inStep l 5 then (s.lane l).core.resync.probation else s.plink.probation

/-- Probation ends with as many cycles in step as the state has counted, three at least (R361). -/
def execProbationComplete (lane : Lane) (counted : Nat) (s : State) : Host.Outcome State Fault Refusal :=
  .next (if counted = s.cyclesInStep lane then resyncProbationOp lane s else s)

def resyncEndOp (l : Lane) (s : State) : State :=
  if s.laneSt l = .resync then resyncTimeoutOp l s else if s.plink.resync then s.failPartnerResync else s

def execResyncTimeout (lane : Lane) (s : State) : Host.Outcome State Fault Refusal := .next (resyncEndOp lane s)

/-! ### Takeover (R370, R372–R375) -/

/-- The generation after the highest claim heard (R373). -/
def State.nextGeneration (s : State) : Nat :=
  (maxClaim (maxClaim s.net.otherClaim s.plink.partnerClaim) s.net.claim).toNat / 256 + 1

/-- TAKEOVER (R384). -/
def State.recordTakeover (s : State) (result : Nat) (old new : Word) : State :=
  s.record 0x0121 (fields [(1, result), (3, 0), (4, old.toNat), (4, new.toNat), (4, s.mod.cycle.toNat)])

/-- The roles of the hubs exchange: the channel that the new lead's hub serves is the lead channel. -/
def State.turnChannel (s : State) : State :=
  ({ s with plink := { s.plink with leadChannelY := !s.plink.leadChannelY } } : State).serveByRole

/-- The module is LEAD under a claim of a new generation, which flash holds before the hub sends it (R373). -/
def State.becomeLead (s : State) (g : Nat) (result : Nat) : State :=
  let old := s.net.claim
  let new := BitVec.ofNat 32 (g * 256 + s.mod.pos)
  let s1 : State := { s with
    mod := { s.mod with role := .lead, cond := .none }
    net := { s.net with generation := g, claim := new }
    plink := { s.plink with holding := false, resync := false, resyncStep := 0, shadow := .notCompared, switchAt := none } }
  s1.turnChannel.recordTakeover result old new

/-- The tender takes over in this cycle, unless the generations are used up (R373, R374). -/
def State.takeOver (s : State) : State :=
  let g := s.nextGeneration
  if 0xFFFFFF < g then s.recordTakeover 2 s.net.claim 0
  else (s.declareLost s.plink.leadChannelY).becomeLead g 0

/-- A tender is isolated (R370, R372). -/
def State.isolate (s : State) (reason : Nat) : State :=
  let s1 : State := { s with plink := { s.plink with holding := false, resync := false, resyncStep := 0 } }
  s1.setCond .isolated reason

/-- The quiet counts for the lead channel that the cycle's accorded frames of the rounds in question carry in their claim report bytes
(R240, R372): of the rounds that began at least 11 ms after the last heartbeat arrived. -/
def State.quietCounts (s : State) : List Nat :=
  let a := s.cycleSet
  a.frames.filterMap fun p =>
    match Tab.get? s.image.nodes p.1 with
    | some d =>
      let began := (a.time / 10000 - (roundOf a.time - p.2.round).toNat) * 10000
      let report := byteAt p.2.data (d.upLen - 5)
      if s.plink.lastBeat + 11000 ≤ began then some (if s.plink.leadChannelY then bits report 3 2 else bits report 1 0) else none
    | none => none

/-- The lead channel is reported quiet (R372): `counts` are the quiet counts of the frames that the rule asks. -/
def State.reportedQuiet (s : State) (counts : List Nat) : Bool :=
  !counts.contains 0 && min 2 s.image.nodeCount ≤ counts.length

def takeoverJudgementOp (s : State) : State :=
  let counts := s.quietCounts
  if s.mod.mode = .operate && s.mod.role = .tender && s.acc.tick = 0 && 3 ≤ s.plink.silent then
    if counts.contains 0 then
      let t := s.isolate 2
      { t with mod := { t.mod with isolatedFault := true } }
    else if s.reportedQuiet counts && s.rightsNow && s.mod.cond = .none then s.takeOver
    else s
  else s

/-- The judgement names the boundaries in a row at which no heartbeat had come, as the state counts them (R372). -/
def execTakeoverJudgement (silent : Nat) (s : State) : Host.Outcome State Fault Refusal :=
  .next (if silent = s.plink.silent then takeoverJudgementOp s else s)

/-- A hundred milliseconds of holding without another outcome (R370). -/
def holdingTimeoutOp (s : State) : State :=
  if s.mod.role = .tender && s.plink.holding && 100 ≤ s.plink.holdMs then s.isolate 3 else s

def execHoldingTimeout (s : State) : Host.Outcome State Fault Refusal := .next (holdingTimeoutOp s)

/-- A lead hears a higher claim (R375): with the link up it obeys that claim and resyncs, otherwise it stops transmitting and only
listens. -/
def takeoverLostOp (higher : Word) (s : State) : State :=
  if s.mod.mode.cycles && s.mod.role = .lead && s.net.claim.toNat < higher.toNat then
    let s1 := s.loseLead higher
    if s1.plink.up then
      (({ s1 with net := { s1.net with claim := higher } } : State).turnChannel).judgeLevels
    else { s1 with net := { s1.net with running := false, phase := .abandoned 0 } }
  else s

def execTakeoverLost (higherClaim : Word) (s : State) : Host.Outcome State Fault Refusal := .next (takeoverLostOp higherClaim s)

/-! ### Planned switchover (R376) -/

/-- Cycle s − 5 without the tender's confirmation: the switchover is abandoned; a handover at degraded expiry leads to SAFE then
(R23). -/
def confirmDeadlineOp (s : State) : State :=
  match s.plink.switchAt with
  | some c =>
    if s.mod.mode = .operate && s.mod.role = .lead && !s.plink.switchConfirmed && c ≤ s.mod.cycle.toNat + 5 then
      if s.plink.safeAfter then s.enterSafe 18 else s.abandonSwitchover
    else s
  | none => s

def execSwitchoverConfirmDeadline (s : State) : Host.Outcome State Fault Refusal := .next (confirmDeadlineOp s)

/-- The old lead's side at its T₀ of s: TENDER under the new claim; its supervisors are HALTED (R283). -/
def State.yieldLead (s : State) : State :=
  let old := s.net.claim
  let new := BitVec.ofNat 32 ((old.toNat / 256 + 1) * 256 + s.plink.partnerPos.getD 0)
  let done := s.plink.switchDone
  let s1 := ({ s with
    mod := { s.mod with role := .tender, cond := .none }
    net := { s.net with claim := new }
    plink := { s.plink with switchAt := none, switchConfirmed := false, switchDone := none, shadow := .notCompared } } : State).haltSups
  let s2 := s1.turnChannel.recordTakeover 1 old new
  match done with
  | some c => s2.complete c stOk (bytesOf 4 new)
  | none => s2

/-- The exchange: the lead only with a confirmation and equal shadow hashes, the tender only with equal hashes (R376). -/
def switchoverOp (s : State) : State :=
  match s.plink.switchAt with
  | some c =>
    if s.mod.mode = .operate && s.acc.tick = 0 && c ≤ s.mod.cycle.toNat then
      match s.mod.role with
      | .lead =>
        let g := s.net.claim.toNat / 256 + 1
        if s.plink.switchConfirmed && s.plink.partnerShadow = 0 && g ≤ 0xFFFFFF then s.yieldLead
        else if s.plink.safeAfter then s.enterSafe 18 else s.abandonSwitchover
      | .tender =>
        let g := s.nextGeneration
        if s.mod.cond = .none && s.plink.rights && s.plink.shadow = .equal then
          if 0xFFFFFF < g then (s.recordTakeover 2 s.net.claim 0).abandonSwitchover else s.becomeLead g 1
        else s.abandonSwitchover
      | .solo => s
    else s
  | none => s

def execSwitchover (s : State) : Host.Outcome State Fault Refusal := .next (switchoverOp s)

end Sys2Proof.Machine
end

