-- ==== Sys2Proof/Machine/Registers.lean ====
section
/-!
DEFINITION. Writes to a lane's registers by their access types (R7), and the registers whose writes and reads have effects of their own:
the slot tables (R214), ARB_COMMIT (R470), the check-value units (R474–R476), the DMA channels (R450, R453, R455, R459), the MMU (R447,
R458) and the time base (R512).
-/

namespace Sys2Proof.Machine

/-! ### HUB (R198, R214) -/

/-- HUB_SLOT_ADDR: the entry addressed, and REFUSED cleared by a 1. -/
def HubRegs.setAddr (r : HubRegs) (v : Word) : HubRegs :=
  { r with addrSlot := bits v.toNat 9 0, addrPort := bits v.toNat 15 10, addrBank := v.getLsbD 16
           refused := r.refused && !v.getLsbD 31 }

/-- HUB_SLOT_DATA: an entry is written, or the write is refused for the active or the frozen bank or a slot above 999. -/
def slotDataOp (l : Lane) (entry : Word) (s : State) : State :=
  if s.regsRun l then
    let n := s.net
    let r := n.regs.get l
    if r.addrBank = n.activeBank1 || n.frozen || 999 < r.addrSlot then
      { s with net := { n with regs := n.regs.modify l fun r => { r with refused := true } } }
    else
      let b := writeBank n.inactive r.addrPort r.addrSlot [entry]
      let m := n.setInactive b
      { s with net := { m with regs := m.regs.modify l fun r => { r with refused := false } } }
  else s

def execHubSlotDataWrite (lane : Lane) (entry : Word) (s : State) : Host.Outcome State Fault Refusal := .next (s.regWrite lane 0x80024 entry (slotDataOp lane entry))

/-- HUB_SWITCH_ROUND: the lane requests the switch with the CRC that it has set, and the inactive bank is frozen. -/
def switchRoundOp (l : Lane) (round : Word) (s : State) : State :=
  if s.regsRun l then s.requestSwitch l round (s.net.regs.get l).crc else s

def execHubSwitchRoundWrite (lane : Lane) (round : Word) (s : State) : Host.Outcome State Fault Refusal := .next (s.regWrite lane 0x80028 round (switchRoundOp lane round))

def switchCrcOp (l : Lane) (crc : Word) (s : State) : State :=
  if s.regsRun l then { s with net := { s.net with regs := s.net.regs.modify l fun r => { r with crc := crc } } } else s

def execHubSwitchCrcWrite (lane : Lane) (crc : Word) (s : State) : Host.Outcome State Fault Refusal := .next (s.regWrite lane 0x8002C crc (switchCrcOp lane crc))

/-- HUB_SWITCH_CANCEL: the lane's request is gone; with fewer than two left the bank is unfrozen, and a completion that the switch
owed carries that it has not taken place. -/
def switchCancelOp (l : Lane) (value : Word) (s : State) : State :=
  if s.regsRun l && value.getLsbD 0 then
    let regs := s.net.regs.modify l fun r => { r with request := none }
    let left := (Lane.all.filter fun k => (regs.get k).request.isSome).length
    let s1 : State := { s with net := { s.net with regs := regs } }
    if left < 2 && s1.net.frozen then
      match s.net.switchDone, s.net.switchRound with
      | some _, some (r, c) => s1.endSwitch 1 r c
      | _, _ => { s1 with net := { s1.net with frozen := false } }
    else s1
  else s

def execHubSwitchCancel (lane : Lane) (value : Word) (s : State) : Host.Outcome State Fault Refusal := .next (s.regWrite lane 0x80034 value (switchCancelOp lane value))

/-! ### ARB (R470, R471) -/

/-- ARB_COMMIT: the whole shadow comes into force. -/
def arbCommitOp (l : Lane) (p : MemPort) (value : Word) (reason : Nat) (s : State) : State :=
  if s.regsRun l && value.getLsbD 0 then
    let s1 := s.modLane l fun x => x.modArb p fun a => { a with active := a.shadow }
    s1.placeRecord l 0x0141 (fields [(1, portCode p), (1, 0), (2, reason), (4, ((s1.lane l).arb p).active.toNat)])
  else s

def execArbCommit (lane : Lane) (port : MemPort) (value : Word) (reason : BitVec 16) (s : State) : Host.Outcome State Fault Refusal :=
  .next (s.regWrite lane (if port = .essence then 0x50008 else 0x50108) value (arbCommitOp lane port value reason.toNat))

/-! ### CVU (R474–R476) -/

/-- A write to an unbound unit, or its refusal (R475). -/
def State.writeUnit (s : State) (l : Lane) (u ofs : Nat) (f : CvuS → CvuS) : State :=
  if s.regsRun l then
    let v := (s.lane l).unit u
    if v.bound then
      (s.modLane l fun x => x.modUnit u fun v => { v with refused := true }).recordLane l 0x0142 (fields [(1, u), (1, ofs), (1, v.channel), (1, 0)])
    else s.modLane l fun x => x.modUnit u f
  else s

def cvuLoadOp (l : Lane) (u poly : Nat) (s : State) : State := s.writeUnit l u 0x00 fun v => { v with poly := poly }.load

def execCvuLoad (lane : Lane) (unit : Fin 8) (poly : BitVec 2) (s : State) : Host.Outcome State Fault Refusal :=
  .next (s.regWrite lane (0x60000 + 0x40 * unit.val) (BitVec.ofNat 32 (poly.toNat + 4)) (cvuLoadOp lane unit.val poly.toNat))

def cvuSeedOp (l : Lane) (u : Nat) (s : State) : State := s.writeUnit l u 0x00 fun v => v.feed (bytesOf 4 v.seedLo ++ bytesOf 4 v.seedHi)

def execCvuSeedNow (lane : Lane) (unit : Fin 8) (s : State) : Host.Outcome State Fault Refusal := .next (s.regWrite lane (0x60000 + 0x40 * unit.val) 8 (cvuSeedOp lane unit.val))

def cvuFeedOp (l : Lane) (u : Nat) (data : Word) (s : State) : State := s.writeUnit l u 0x10 fun v => v.feed (bytesOf 4 data)

def execCvuFeed (lane : Lane) (unit : Fin 8) (data : Word) (s : State) : Host.Outcome State Fault Refusal :=
  .next (s.regWrite lane (0x60010 + 0x40 * unit.val) data (cvuFeedOp lane unit.val data))

/-- One half of the running value replaced; bits above the unit's width are ignored (R472). -/
def CvuS.setHalf (v : CvuS) (high : Bool) (w : Word) : CvuS :=
  let lo := v.value.toNat % 2 ^ 32
  let hi := v.value.toNat / 2 ^ 32
  let n := if high then w.toNat * 2 ^ 32 + lo else hi * 2 ^ 32 + w.toNat
  { v with value := cvuMask v.poly (BitVec.ofNat 64 n) }

def cvuValueOp (l : Lane) (u : Nat) (high : Bool) (w : Word) (s : State) : State :=
  s.writeUnit l u (if high then 0x1C else 0x18) fun v => v.setHalf high w

def execCvuValueWrite (lane : Lane) (unit : Fin 8) (high : Bool) (value : Word) (s : State) : Host.Outcome State Fault Refusal :=
  .next (s.regWrite lane ((if high then 0x6001C else 0x60018) + 0x40 * unit.val) value (cvuValueOp lane unit.val high value))

/-! ### DMA (R450, R453, R455, R459) -/

/-- The offset of a channel's register from 0x2000_0000 (R439, R459). -/
def dmaReg (c ofs : Nat) : Nat := 0x40100 + 0x40 * c + ofs

/-- A change to a lane's channels. -/
def State.onChannels (s : State) (l : Lane) (f : LaneS → LaneS) : State := if s.regsRun l then s.modLane l f else s

/-- ENABLE: an enabled channel takes the next descriptor; a disabled one drops its transfer, and its unit is left incomplete. -/
def LaneS.enableChan (x : LaneS) (c : Nat) (on : Bool) : LaneS :=
  let h := x.chan c
  if on then
    let y := x.modChan c fun h => { h with enable := true }
    if h.st = .idle then y.startNext c else y
  else
    let y := match h.bound with
      | some u => x.modUnit u fun v => { v with incomplete := true }
      | none => x
    (y.unbindUnit c).modChan c fun h => { h with enable := false, st := .idle, cur := none, moved := 0, waiting := false, saved := false }

def dmaEnableOp (l : Lane) (c : Nat) (on : Bool) (s : State) : State := s.onChannels l fun x => x.enableChan c on

def execDmaEnable (lane : Lane) (channel : Fin 8) (enable : Bool) (s : State) : Host.Outcome State Fault Refusal :=
  .next (s.regWrite lane (dmaReg channel.val 0) (BitVec.ofNat 32 (b2n enable)) (dmaEnableOp lane channel.val enable))

/-- SUSPEND: requested; it takes effect at the end of the burst. -/
def LaneS.suspendChan (x : LaneS) (c : Nat) : LaneS :=
  x.modChan c fun h => if h.st = .running || h.st = .idle then { h with st := .suspending } else h

def dmaSuspendOp (l : Lane) (c : Nat) (s : State) : State := s.onChannels l fun x => x.suspendChan c

def execDmaSuspend (lane : Lane) (channel : Fin 8) (s : State) : Host.Outcome State Fault Refusal := .next (s.regWrite lane (dmaReg channel.val 0) 2 (dmaSuspendOp lane channel.val))

/-- RESUME from SUSPENDED or FAULTED. -/
def LaneS.resumeReq (x : LaneS) (c : Nat) : LaneS :=
  let t := (x.chan c).st
  if t = .suspended || t = .faulted then x.resumeChan c else x

def dmaResumeOp (l : Lane) (c : Nat) (s : State) : State := s.onChannels l fun x => x.resumeReq c

def execDmaResume (lane : Lane) (channel : Fin 8) (s : State) : Host.Outcome State Fault Refusal := .next (s.regWrite lane (dmaReg channel.val 0) 4 (dmaResumeOp lane channel.val))

/-- ABORT: RESULT 2 after a fault, otherwise 3; the unit keeps its value, marked incomplete; the next descriptor follows. -/
def LaneS.abortChan (x : LaneS) (c : Nat) : LaneS :=
  let h := x.chan c
  if h.st = .idle then x
  else
    let fault := h.st = .faulted
    let y := match h.cur with
      | some d => if d.snoop && d.length ≠ 0 then x.modUnit d.cvu fun v => { v with incomplete := true } else x
      | none => x
    let z := ((y.postStatus c (if fault then 2 else 3) (if fault then h.cause else 0)).unbindUnit c).passHead c
    (z.modChan c fun h => { h with cause := 0, st := .idle }).startNext c

def dmaAbortOp (l : Lane) (c : Nat) (s : State) : State := s.onChannels l fun x => x.abortChan c

def execDmaAbort (lane : Lane) (channel : Fin 8) (s : State) : Host.Outcome State Fault Refusal := .next (s.regWrite lane (dmaReg channel.val 0) 8 (dmaAbortOp lane channel.val))

/-- DMA_TAIL: further descriptors are offered. -/
def LaneS.offer (x : LaneS) (c tail : Nat) : LaneS :=
  let y := x.modChan c fun h => { h with tail := tail }
  if (y.chan c).st = .idle then y.startNext c else y

def dmaTailOp (l : Lane) (c tail : Nat) (s : State) : State := s.onChannels l fun x => x.offer c tail

def execDmaTailWrite (lane : Lane) (channel : Fin 8) (tail : Byte) (s : State) : Host.Outcome State Fault Refusal :=
  .next (s.regWrite lane (dmaReg channel.val 0x14) (BitVec.ofNat 32 tail.toNat) (dmaTailOp lane channel.val tail.toNat))

/-! ### MMU (R447, R458) -/

/-- MMU_ROOT: the master's root and ENABLE, and its whole TLB invalid. -/
def mmuRootOp (l : Lane) (master : Nat) (v : Word) (s : State) : State :=
  if s.regsRun l then s.modMmu l fun m => m.modMaster master fun _ => ⟨bits v.toNat 21 0, v.getLsbD 31, []⟩ else s

def execMmuRootWrite (lane : Lane) (master : Master) (value : Word) (s : State) : Host.Outcome State Fault Refusal :=
  .next (s.regWrite lane (0x30010 + 4 * master.code) value (mmuRootOp lane master.code value))

/-- MMU_INVAL: one page, or every entry, of the masters named. -/
def mmuInvalOp (l : Lane) (v : Word) (s : State) : State :=
  if s.regsRun l then
    let vpn := bits v.toNat 19 0
    let all := v.getLsbD 26
    s.modMmu l fun m => (below 6 fun k => v.getLsbD (20 + k)).foldl (fun m k =>
      { m with masters := Tab.modify m.masters k fun r => { r with tlb := if all then [] else r.tlb.filter fun e => e.vpn ≠ vpn } }) m
  else s

def execMmuInval (lane : Lane) (value : Word) (s : State) : Host.Outcome State Fault Refusal := .next (s.regWrite lane 0x30030 value (mmuInvalOp lane value))

/-! ### TBS (R512) -/

/-- A read of TBS_NET_LO latches the rest of the network time. -/
def latchOp (l : Lane) (net : BitVec 64) (frac : Nat) (s : State) : State :=
  if s.regsRun l then
    s.modTbs l fun t => { t with
      latchLo := BitVec.ofNat 32 net.toNat, latchHi := BitVec.ofNat 32 (net.toNat / 2 ^ 32), latchFrac := frac % 400 }
  else s

def execTbsNetLoRead (lane : Lane) (net : BitVec 64) (frac : BitVec 9) (s : State) : Host.Outcome State Fault Refusal :=
  .next (latchOp lane net frac.toNat s)

/-! ### Every other register (R7) -/

def clr (b : Bool) (v : Word) (n : Nat) : Bool := b && !v.getLsbD n

/-- W1C bits of LANE, ACC, BST, REC and PWR. -/
def LaneS.writeOwn (x : LaneS) (block ofs : Nat) (v : Word) : LaneS :=
  match block, ofs with
  | 0x00, 0x004 => { x with core := { x.core with mismatch := clr x.core.mismatch v 8 } }
  | 0x01, 0x000 => { x with core := { x.core with
      outMismatch := clr x.core.outMismatch v 13, late := clr x.core.late v 14, lone := clr x.core.lone v 15, fetched := clr x.core.fetched v 16 } }
  | 0x0C, 0x000 => { x with clk := { x.clk with forced := clr x.clk.forced v 5, tripped := clr x.clk.tripped v 6 } }
  | 0x0C, 0x010 => { x with clk := { x.clk with merged := x.clk.merged &&& ~~~(BitVec.ofNat 8 v.toNat) } }
  | 0x0D, 0x000 => { x with pwr := { x.pwr with railFault := clr x.pwr.railFault v 6 } }
  | 0x0E, 0x000 => { x with diag := { x.diag with bstFail := clr x.diag.bstFail v 13 } }
  | 0x0F, 0x000 => { x with diag := { x.diag with ringFull := clr x.diag.ringFull v 4, silDropped := clr x.diag.silDropped v 5 } }
  | _, _ => x

/-- DMA registers without a row of their own. -/
def LaneS.writeDma (x : LaneS) (ofs : Nat) (v : Word) : LaneS :=
  if ofs < 0x100 || 0x300 ≤ ofs then x
  else
    let c := (ofs - 0x100) / 0x40
    match (ofs - 0x100) % 0x40 with
    | 0x04 => x.modChan c fun h => { h with notified := clr h.notified v 3 }
    | 0x08 => x.modChan c fun h => { h with base := v }
    | 0x0C => x.modChan c fun h => { h with size := bits v.toNat 8 0 }
    | _ => x

/-- ARB registers without a row of their own. -/
def LaneS.writeArb (x : LaneS) (ofs : Nat) (v : Word) : LaneS :=
  if 0x200 ≤ ofs then x
  else
    let p : MemPort := if ofs < 0x100 then .essence else .dram
    match ofs % 0x100 with
    | 0x000 => x.modArb p fun a => { a with shadow := BitVec.ofNat 24 v.toNat }
    | 0x010 => x.modArb p fun a => { a with faultOver := clr a.faultOver v 0, faultIdle := clr a.faultIdle v 1 }
    | _ => x

/-- PMC registers. -/
def LaneS.writePmc (x : LaneS) (ofs : Nat) (v : Word) : LaneS :=
  let mod (k : Nat) (f : PmcS → PmcS) : LaneS := { x with perf := { x.perf with ctr := Tab.upd x.perf.ctr k .reset f } }
  if ofs < 0x100 then
    match ofs % 0x10 with
    | 0x0 => mod (ofs / 0x10) fun k => { k with
        event := bits v.toNat 15 0, priv := bits v.toNat 17 16, master := bits v.toNat 20 18, anyMaster := v.getLsbD 21
        enable := v.getLsbD 22, ovf := clr k.ovf v 23 }
    | 0x4 => mod (ofs / 0x10) fun k => { k with addrLo := v }
    | 0x8 => mod (ofs / 0x10) fun k => { k with addrHi := v }
    | 0xC => mod (ofs / 0x10) fun k => { k with sampleN := v }
    | _ => x
  else if ofs = 0x200 then { x with perf := { x.perf with window := bits v.toNat 1 0 } }
  else x

/-- The seed registers of a unit, refused while it is bound, and REFUSED cleared by a 1 (R475, R476). -/
def State.writeCvu (s : State) (l : Lane) (ofs : Nat) (v : Word) : State :=
  let u := ofs / 0x40
  if 0x200 ≤ ofs then s
  else match ofs % 0x40 with
  | 0x04 => s.modLane l fun x => x.modUnit u fun c => { c with refused := clr c.refused v 5 }
  | 0x08 => s.writeUnit l u 0x08 fun c => { c with seedLo := v }
  | 0x0C => s.writeUnit l u 0x0C fun c => { c with seedHi := v }
  | 0x10 => cvuFeedOp l u v s
  | 0x18 => cvuValueOp l u false v s
  | 0x1C => cvuValueOp l u true v s
  | 0x00 =>
    let s1 := s.writeUnit l u 0x00 fun c => { c with poly := bits v.toNat 1 0 }
    let s2 := if v.getLsbD 2 then cvuLoadOp l u (bits v.toNat 1 0) s1 else s1
    if v.getLsbD 3 then cvuSeedOp l u s2 else s2
  | _ => s

/-- DMA_CTRL written as a word: each set bit acts as its own row does. -/
def State.writeDmaCtrl (s : State) (l : Lane) (c : Nat) (v : Word) : State :=
  let s1 := if v.getLsbD 0 = ((s.lane l).chan c).enable then s else dmaEnableOp l c (v.getLsbD 0) s
  let s2 := if v.getLsbD 1 then dmaSuspendOp l c s1 else s1
  let s3 := if v.getLsbD 2 then dmaResumeOp l c s2 else s2
  if v.getLsbD 3 then dmaAbortOp l c s3 else s3

/-- HUB registers. -/
def State.writeHub (s : State) (l : Lane) (ofs : Nat) (v : Word) : State :=
  match ofs with
  | 0x010 =>
    let c := s.net.counts
    let m := c.txMinority
    { s with net := { s.net with counts := { c with
      txMinority := ⟨clr m.a v 0, clr m.b v 1, clr m.c v 2⟩, noMajority := clr c.noMajority v 3 } } }
  | 0x020 => { s with net := { s.net with regs := s.net.regs.modify l fun r => r.setAddr v } }
  | 0x024 => slotDataOp l v s
  | 0x028 => switchRoundOp l v s
  | 0x02C => switchCrcOp l v s
  | 0x034 => switchCancelOp l v s
  | _ => s

/-- FCH registers: MERGED, and MINORITY and SENSE_FAULT of each channel. -/
def State.writeFch (s : State) (l : Lane) (ofs : Nat) (v : Word) : State :=
  if ofs = 0x000 then
    { s with fch := { s.fch with lanes := s.fch.lanes.modify l fun x => { x with merged := clr x.merged v 22 } } }
  else if 0x100 ≤ ofs && ofs < 0x200 && ofs % 4 = 0 then
    let ch := (ofs - 0x100) / 4
    { s with fch := { s.fch with lanes := s.fch.lanes.modify l fun x =>
      { x with chans := Tab.modify x.chans ch fun c => { c with
        senseFault := clr c.senseFault v 15, minority := ⟨clr c.minority.a v 12, clr c.minority.b v 13, clr c.minority.c v 14⟩ } } } }
  else s

/-- Offsets in the register space at which a register stands of which every field is read-only (R63, R64, R150, R213, R214, R272, R291, R382,
R383, R413, R458, R459, R471, R475, R481, R494, R501, R512); an offset that no register occupies is none of them (R438). -/
def roPlace (ofs : Nat) : Bool :=
  let o := ofs % 0x10000
  let words (lo hi : Nat) : Bool := lo ≤ o && o < hi
  o % 4 = 0 && match ofs / 0x10000 with
  | 0x00 => o = 0 || words 0x008 0x010
  | 0x01 => words 0x004 0x018
  | 0x02 => words 0x004 0x020
  | 0x03 => words 0x040 0x048 || words 0x050 0x068 || o = 0x070
  | 0x04 => words 0x100 0x300 && (o % 0x40 = 0x10 || (0x18 ≤ o % 0x40 && o % 0x40 < 0x34))
  | 0x05 =>
    let r := o % 0x100
    o < 0x200 && (r = 0x004 || r = 0x00C || r = 0x014 || (0x40 ≤ r && r < 0x60))
  | 0x06 => o < 0x200 && (0x20 ≤ o % 0x40 && o % 0x40 < 0x2C)
  | 0x07 => words 0x100 0x180 || words 0x220 0x260 || words 0x280 0x288
  | 0x08 => words 0 0x010 || words 0x014 0x020 || o = 0x030 || o = 0x040 || words 0x100 0x140
  | 0x09 => o = 0x008 || words 0x010 0x030 || words 0x200 0x400
  | 0x0A => o = 0x004 || words 0x100 0x300
  | 0x0B => words 0 0x014
  | 0x0C => o = 0x004 || o = 0x014
  | 0x0D => words 0x004 0x014
  | 0x0E => words 0x004 0x010
  | 0x0F => words 0x004 0x01C
  | 0x10 => words 0 0x018 || words 0x100 0x140
  | 0x11 => words 0 0x010
  | 0x12 => words 0 0x008
  | _ => false

/-- A write to a lane's register space at an offset from 0x2000_0000, by the access type of what stands there (R7). -/
def State.writeReg (s : State) (l : Lane) (ofs : Nat) (v : Word) : State :=
  let o := ofs % 0x10000
  match ofs / 0x10000 with
  | 0x02 => if o = 0 then s.modRte l fun r => { r with flood := clr r.flood v 6, late := clr r.late v 7 } else s
  | 0x03 =>
    if 0x010 ≤ o && o < 0x028 && o % 4 = 0 then mmuRootOp l ((o - 0x010) / 4) v s
    else if o = 0x030 then mmuInvalOp l v s else s
  | 0x04 =>
    if 0x100 ≤ o && o < 0x300 && o % 0x40 = 0 then s.writeDmaCtrl l ((o - 0x100) / 0x40) v
    else if 0x100 ≤ o && o < 0x300 && o % 0x40 = 0x14 then dmaTailOp l ((o - 0x100) / 0x40) (bits v.toNat 7 0) s
    else s.modLane l fun x => x.writeDma o v
  | 0x05 =>
    if o = 0x008 then arbCommitOp l .essence v 0 s
    else if o = 0x108 then arbCommitOp l .dram v 0 s
    else s.modLane l fun x => x.writeArb o v
  | 0x06 => s.writeCvu l o v
  | 0x07 => s.modLane l fun x => x.writePmc o v
  | 0x08 => s.writeHub l o v
  | 0x09 => s.writeFch l o v
  | 0x0A =>
    if o = 0 then
      let off (x : LaneSet) (bit : Nat) : LaneSet := x.set l (clr (x.get l) v bit)
      { s with sup := { s.sup with strobeUsed := off s.sup.strobeUsed 23, strobeShort := off s.sup.strobeShort 24 } }
    else s
  | 0x0C =>
    if o = 0x008 then gateWriteOp l v s
    else if o = 0x00C then xresetOp l v s
    else s.modLane l fun x => x.writeOwn 0x0C o v
  | b => s.modLane l fun x => x.writeOwn b o v

/-- A lane's write is refused with a cause: ACCESS_FAULT of the main core (R456, R460). -/
def State.writeFault (s : State) (l : Lane) (a cause : Nat) : State := s.placeRecord l 0x0132 (fields [(1, cause), (1, 0), (1, 1), (1, 0), (4, a)])

/-- An aligned 32-bit write to register space passes the compare buffer (R352); a read-only place ignores it and it is recorded (R7; log entry
45). In that space any other alignment ends with cause BUS (R438). -/
def registerWriteOp (l : Lane) (a : Nat) (v : Word) (s : State) : State :=
  if s.regsRun l && inRegs a then
    if a % 4 ≠ 0 then s.writeFault l a 4
    else s.regWrite l (a - 0x20000000) v fun s =>
      if roPlace (a - 0x20000000) then s.writeFault l a 2 else s.writeReg l (a - 0x20000000) v
  else s

def execRegisterWrite (lane : Lane) (addr : BitVec 36) (value : Word) (s : State) : Host.Outcome State Fault Refusal :=
  .next (registerWriteOp lane addr.toNat value s)

end Sys2Proof.Machine
end

