-- ==== Sys2Proof/Machine/Replay.lean ====
section
/-!
DEFINITION. A cycle of a replay (R411 step 5): its accorded set rebuilt from the items of its stream, its non-vital commands, the
computation in logical time, and the comparison of its output hash.
-/

namespace Sys2Proof.Machine

/-- A COMMAND item as the command that the cycle took, and whether it is non-vital (R404). -/
def replayCmd (d : List Byte) : RingCmd × Bool :=
  let o := leAt d 8 2
  (⟨0, .a, leAt d 2 2, byteAt d 0 % 16, o, BitVec.ofNat 32 (leAt d 4 4), ((opcodeRole o).getD none).isSome, 0, 0,
    (d.drop 12).take (leAt d 10 2)⟩, byteAt d 1 = 1)

/-- The commands of a stream, vital or non-vital. -/
def replayCmds (l : List (Nat × List Byte)) (nonvital : Bool) : List RingCmd :=
  (l.filterMap fun p => if p.1 = 0x05 then some (replayCmd p.2) else none).filterMap fun c => if c.2 = nonvital then some c.1 else none

/-- The frames of a cycle from its lag map and the baselines (R404, R405). -/
def replayFrames (time : Nat) (lag : List Byte) (base : Tab (List Byte)) : Tab Frame :=
  base.filterMap fun p =>
    let g := byteAt lag p.1
    if lag.length ≤ p.1 || g = 0xFF then none else some (p.1, ⟨roundOf time - BitVec.ofNat 32 g, 0, p.2⟩)

/-- The accorded set that the items of a cycle give (R411 step 5). -/
def State.replaySet (s : State) (head : List Byte) (l : List (Nat × List Byte)) : Accorded :=
  let time := leAt head 0 8
  let ch := (itemOf l 0x04).getD []
  let counts := (s.image.chans.filter fun p => p.2.mode = .count).zipIdx.map fun p => (p.1.1, leAt ch (8 + 4 * p.2) 4)
  { used := s.writers, frames := replayFrames time s.rcd.lastLag s.rcd.baseline, chans := BitVec.ofNat 64 (leAt ch 0 8), counts := counts
    cmds := replayCmds l false, time := time
    partner := (itemOf l 0x06).map fun d => ⟨BitVec.ofNat 32 (leAt d 0 4), 0, d.drop 4⟩ }

/-- Sessions of every role for a source: a replayed command passes no arrival checks (R411). -/
def replaySessions (source : Nat) : List Session := [.maintainer, .engineer, .custodian].map fun r => ⟨r, source, 0, [], 0, []⟩

/-- The cycle's non-vital commands, served as its lanes served them. -/
def State.replayIntake (s : State) (l : List RingCmd) : State :=
  s.each l fun s c => ({ s with host := { s.host with sessions := replaySessions c.source } } : State).perform c

/-- The module as the recorded cycle had it: identity of the keyframe, and of CYCLE_HEAD its role, LAB and voting set. -/
def State.asRecorded (s : State) (head : List Byte) : State :=
  let w := byteAt head 8
  let vote := byteAt head 9
  let s1 := match s.rcd.replayId with
    | some i => { s with
        mod := { s.mod with sid := i.sid, pos := i.pos }, rcd := { s.rcd with powerCycles := i.powerCycles }
        net := { s.net with claim := i.claim } }
    | none => s
  let role : PairRole := match w / 64 with
    | 1 => .lead
    | 2 => .tender
    | _ => .solo
  ({ s1 with mod := { s1.mod with role := role, lab := bitOf w 5 } } : State).mapLanes fun l x =>
    { x with core := { x.core with st := if bitOf vote l.id then .voting else .out } }

/-- One cycle: the vital state of the computed cycle is taken over, and its output hash compared (R410, R411). -/
def State.replayOne (s : State) (c : Word) (rest : List Word) (head : List Byte) (items : List (Nat × List Byte)) : State :=
  let data := nodeData items
  let s1 : State := { s with rcd := { s.rcd with
    baseline := data.foldl (fun t p => Tab.put t p.1 p.2) s.rcd.baseline, lastLag := (itemOf items 0x02).getD s.rcd.lastLag } }
  let a := s1.replaySet head items
  let t := (s1.asRecorded head).runCycle c a fun s => s.replayIntake (replayCmds items true)
  let s2 := s1.takeVital t
  let s3 : State := { s2 with
    net := { s2.net with nodes := t.net.nodes }, acc := { s2.acc with accorded := a, outHash := t.acc.outHash }
    rcd := { s2.rcd with replayCycle := c, replayLeft := rest } }
  let recorded : BitVec 64 := BitVec.ofNat 64 (leAt head 20 8)
  if recorded ≠ t.acc.outHash then s3.endReplay 1 c recorded t.acc.outHash
  else if rest.isEmpty then s3.endReplay 0 0xFFFFFFFF recorded t.acc.outHash
  else s3

/-- The next cycle of a replay; with fewer than two replaying lanes no hashes agree (R411). -/
def replayCycleOp (s : State) : State :=
  if s.mod.mode ≠ .replay || !s.rcd.replayRunning then s
  else match s.rcd.replayLeft with
  | [] => s.endReplay 0 0xFFFFFFFF 0 0
  | c :: rest =>
    if LaneSet.count s.writers < 2 then s.endReplay 5 0xFFFFFFFF 0 0
    else match s.replayHead c, silItems s.rcd.sil c 1 with
    | some head, some items => s.replayOne c rest head items
    | _, _ => s.endReplay 0 0xFFFFFFFF 0 0

def execReplayCycle (s : State) : Host.Outcome State Fault Refusal := .next (replayCycleOp s)

end Sys2Proof.Machine
end

