-- ==== Sys2Proof/Machine/TapOps.lean ====
section
/-!
DEFINITION. The test access port (R509, R516, R518) and its debug commands (R381, R510).
-/

namespace Sys2Proof.Machine

/-! ### Instructions -/

/-- The instruction register takes a code. -/
def State.selectTap (s : State) (ir : Nat) : State := { s with tap := { s.tap with ir := ir } }

/-- TRST_N low: Test-Logic-Reset, which selects IDCODE (R509, R518). -/
def execTrstNLow (s : State) : Host.Outcome State Fault Refusal := .next (s.selectTap 0x01)

/-- What IDCODE reads (R509). -/
def idcodeWord : Word := 0x1306436B

def idcodeOp (s : State) : State :=
  let t := s.selectTap 0x01
  { t with tap := { t.tap with data := idcodeWord } }

def execIdcode (s : State) : Host.Outcome State Fault Refusal := .next (idcodeOp s)

/-- SAMPLE captures the 148 cells; it drives no contact (R509, R516). -/
def sampleOp (cells : List Bool) (s : State) : State :=
  let t := s.selectTap 0x02
  { t with tap := { t.tap with boundary := (cells ++ List.replicate 148 false).take 148 } }

def execSample (cells : List Bool) (s : State) : Host.Outcome State Fault Refusal := .next (sampleOp cells s)

/-- BYPASS and every code that is not listed (R509). -/
def bypassOp (code : Nat) (s : State) : State := if code = 0x01 || code = 0x02 || code = 0x08 then s else s.selectTap 0x1F

def execBypass (code : BitVec 5) (s : State) : Host.Outcome State Fault Refusal := .next (bypassOp code.toNat s)

/-- A sealed DXL-3064-T offers no debug access; a bench module has no seal fuse (R509, R511). -/
def State.sealedT (s : State) : Bool := s.mod.sealed && !s.mod.bench

def dbgInstructionOp (s : State) : State := s.selectTap (if s.sealedT then 0x1F else 0x08)

def execDbgInstruction (s : State) : Host.Outcome State Fault Refusal := .next (dbgInstructionOp s)

/-! ### Debug commands (R510) -/

/-- The result and data that the next Capture-DR returns: 0 OK, 1 BUSY, 2 REFUSED, 3 FAULT. -/
def State.dbgResult (s : State) (result : Nat) (data : Word) : State := { s with tap := { s.tap with result := result, data := data } }

/-- A command of the debug register: without DBG selected it is not one; during RESET it returns BUSY (R518); otherwise its condition
decides. -/
def State.dbg (s : State) (ok : Bool) (f : State → State) : State :=
  if s.tap.ir ≠ 0x08 || s.mod.mode = .off || s.sealedT then s
  else if s.mod.mode = .reset then s.dbgResult 1 0
  else if ok then f s
  else s.dbgResult 2 0

/-- A logged action (R381). -/
def State.logDebug (s : State) : State := { s with mod := { s.mod with dbgLog := s.mod.dbgLog + 1 } }

/-- DEBUG_ACTION: 0 attach, 1 halt, 2 release, 3 write (R384); the lane byte of an attach is 0xFF (log entry 46). -/
def State.recordDebug (s : State) (lane action : Nat) : State :=
  let t := s.logDebug
  t.record 0x0910 (fields [(1, lane), (1, action), (2, 0), (4, t.mod.dbgLog)])

def execDbgNop (s : State) : Host.Outcome State Fault Refusal := .next (s.dbg true id)

/-- A 32-bit read through the debug master. Register space takes aligned words alone (R438). -/
def State.dbgRead (s : State) (l : Lane) (a : Nat) : State :=
  if !s.guardAllows 7 a then (s.guardRefuse l 7 a 0).dbgResult 3 0
  else if inRegs a then
    if a % 4 = 0 then
      let t := if a = 0x200B0000 then latchOp l (BitVec.ofNat 64 s.netNow) ((Config.freeWord s.freeCtr).toNat % 400) s.bump else s
      t.dbgResult 0 (BitVec.ofNat 32 (readReg t l (a - 0x20000000)))
    else s.dbgResult 3 0
  else
    let m := (s.lane l).mmu
    if !inMap (a + 3) then s.dbgResult 3 0
    else match ((List.range 4).map (a + ·)).find? m.bad with
    | some b => (eccUncorrectableOp l (some 7) b false false s).dbgResult 3 0
    | none => s.dbgResult 0 (BitVec.ofNat 32 (ofLe ((List.range 4).map fun i => m.byte (a + i))))

def execDbgRead (lane : Lane) (addr : BitVec 36) (s : State) : Host.Outcome State Fault Refusal :=
  .next (s.dbg s.mod.dbgAttached fun s => s.dbgRead lane addr.toNat)

/-- A 32-bit write through the debug master changes that lane's state only (R381). -/
def State.dbgWrite (s : State) (l : Lane) (a : Nat) (v : Word) : State :=
  if !s.guardAllows 7 a then (s.guardRefuse l 7 a 1).dbgResult 3 0
  else if inRegs a then
    if a % 4 = 0 then (((s.recordDebug l.id 3).writeReg l (a - 0x20000000) v)).dbgResult 0 0 else s.dbgResult 3 0
  else if inRam a && inRam (a + 3) then
    ((s.recordDebug l.id 3).modMmu l fun m => m.write ((bytesOf 4 v).zipIdx.map fun p => (a + p.2, p.1))).dbgResult 0 0
  else s.dbgResult 3 0

def execDbgWrite (lane : Lane) (addr : BitVec 36) (data : Word) (s : State) : Host.Outcome State Fault Refusal :=
  .next (s.dbg s.mod.dbgAttached fun s => s.dbgWrite lane addr.toNat data)

/-- HALT: the main core stops, so that the lane misses its tick deadline (R381). -/
def State.dbgHalt (s : State) (l : Lane) : State :=
  ((s.modDiag l fun d => { d with halted := true }).recordDebug l.id 1).dbgResult 0 0

def execDbgHalt (lane : Lane) (s : State) : Host.Outcome State Fault Refusal :=
  .next (s.dbg s.mod.dbgAttached fun s => s.dbgHalt lane)

/-- RESUME: the core runs again; a lane that left stays OUT until RED_LANE_RESYNC. -/
def State.dbgRelease (s : State) (l : Lane) : State :=
  ((s.modDiag l fun d => { d with halted := false }).recordDebug l.id 2).dbgResult 0 0

def execDbgResume (lane : Lane) (s : State) : Host.Outcome State Fault Refusal :=
  .next (s.dbg s.mod.dbgAttached fun s => s.dbgRelease lane)

/-- STEP of a halted core: one instruction, logged; a core that runs is not stepped. -/
def State.dbgStep (s : State) (l : Lane) : State :=
  if (s.lane l).diag.halted then (s.logDebug.countEvent l 0x0101 1 none none).dbgResult 0 0 else s.dbgResult 2 0

def execDbgStep (lane : Lane) (s : State) : Host.Outcome State Fault Refusal :=
  .next (s.dbg s.mod.dbgAttached fun s => s.dbgStep lane)

def execTapDbgStatus (lane : Lane) (s : State) : Host.Outcome State Fault Refusal :=
  .next (s.dbg true fun s => s.dbgResult 0 (BitVec.ofNat 32 (rdDbg s lane 0)))

/-- SIL_BEGIN erases the sillage partition of a bench module in LOADED. -/
def State.silBegin (s : State) : State :=
  let r := s.rcd
  ({ s with rcd := { r with sil := [], silIndex := 0, silOldest := 0, gap := none, silOpen := true, silRaw := [] } } : State).dbgResult 0 0

def execSilBegin (s : State) : Host.Outcome State Fault Refusal :=
  .next (s.dbg (s.mod.bench && s.mod.mode = .loaded) State.silBegin)

def State.silWrite (s : State) (v : Word) : State :=
  ({ s with rcd := { s.rcd with silRaw := s.rcd.silRaw ++ bytesOf 4 v } } : State).dbgResult 0 0

def execSilWrite (data : Word) (s : State) : Host.Outcome State Fault Refusal :=
  .next (s.dbg s.rcd.silOpen fun s => s.silWrite data)

/-- The records that bytes spell: each of 16 to 1 000 bytes with a right CRC; the first that is not ends them (R404). -/
def silParse : Nat → List Byte → List SilRecord
  | 0, _ => []
  | n + 1, bs =>
    let len := leAt bs 8 2
    let body := (bs.drop 16).take (len - 16)
    let crc := crc32c (bs.take 12 ++ body)
    if bs.length < 16 || len < 16 || 1000 < len || bs.length < len || leAt bs 12 4 ≠ crc.toNat then []
    else
      ⟨BitVec.ofNat 32 (leAt bs 0 4), byteAt bs 4, bitOf (byteAt bs 5) 0, bitOf (byteAt bs 5) 1, leAt bs 6 2, body⟩ :: silParse n (bs.drop len)

/-- SIL_END closes the partition for replay (R410, R411). -/
def State.silEnd (s : State) : State :=
  let l := silParse s.rcd.silRaw.length s.rcd.silRaw
  ({ s with rcd := { s.rcd with sil := l, silIndex := l.length, silOldest := 0, silOpen := false } } : State).dbgResult 0 0

def execSilEnd (s : State) : Host.Outcome State Fault Refusal := .next (s.dbg s.rcd.silOpen State.silEnd)

def State.dbgAttach (s : State) : State :=
  (({ s with mod := { s.mod with dbgAttached := true } } : State).recordDebug 0xFF 0).dbgResult 0 0

def execDbgAttach (s : State) : Host.Outcome State Fault Refusal := .next (s.dbg true State.dbgAttach)

def State.dbgDetach (s : State) : State :=
  ({ s with mod := { s.mod with dbgAttached := false } } : State).logDebug.dbgResult 0 0

def execDbgDetach (s : State) : Host.Outcome State Fault Refusal := .next (s.dbg true State.dbgDetach)

end Sys2Proof.Machine
end

