-- ==== Sys2Proof/Machine/Timers.lean ====
section
/-!
DEFINITION. Timers of the interlocking that run out, each as a step of its own: the item's timer is brought to its last count
and the item takes the step that R67 to R69 give it, on the resolved state (R70, R76, R79, R82, R86, R97, R102, R106, R107,
R110, R111, R114, R115, R140, R211, R328; log entry 35).
-/

namespace Sys2Proof.Machine

/-- The table form on the resolved state, with no request of the cycle; a timer that runs out does so after cycle 0 (R112). -/
def State.timerForm (s : State) : Ev := { s.form false with reqs := .empty, nbrFresh := [], first := false }

/-- What a timer's step leaves: the resolved state, with the cycle's list as it was. -/
def State.adoptTimer (s : State) (e : Ev) : State :=
  let t := s.adopt e
  { t with ixl := { t.ixl with reqList := s.ixl.reqList, nbrFresh := s.ixl.nbrFresh } }

/-- Commands, locks and aspects after a timer's step. -/
def Ev.afterTimer (e : Ev) : Ev := (e.boundaryZones.commands).trim

/-- A timer that runs is one count from its end; one that does not stays as it is. -/
def lastCount (t : Nat) : Nat := if t = 0xFFFF then t else 1

/-- A timer that another item's step must not move. -/
def heldTimer (t : Nat) : Nat := if t = 0xFFFF || t = 0 then t else t + 1

/-- One element of some kinds takes its step with timer A at its end. -/
def timerElem (o : Nat) (ks : List Kind) (p : ElemSt → Bool) (s : State) : State :=
  match Tab.get? s.image.elems o with
  | none => s
  | some d =>
    let x := s.ixl.resolved.elem o
    if s.mod.mode.cycles && ks.contains d.kind && x.ta ≠ 0xFFFF && p x then
      let e := s.timerForm
      let y := e.stepElem o d { x with ta := lastCount x.ta, tb := heldTimer x.tb }
      s.adoptTimer (e.modElem o fun _ => y).afterTimer
    else s

/-- The restart time of an area expires (R114). -/
def restartTimeOp (a : Nat) (s : State) : State :=
  if s.mod.mode.cycles && (s.ixl.resolved.area a).timer ≠ 0xFFFF then s.modArea a fun _ => ⟨0xFFFF, true⟩ else s

def execRestartTimeExpired (area : Fin 64) (s : State) : Host.Outcome State Fault Refusal := .next (restartTimeOp area.val s)

/-- The settle time of a section expires (R70). -/
def execSettleTimeExpired (elem : BitVec 13) (s : State) : Host.Outcome State Fault Refusal :=
  .next (timerElem elem.toNat [.ts] (fun x => x.state = 0) s)

/-- The throw-time limit of a point expires (R76). -/
def execThrowTimeLimitExpired (elem : BitVec 13) (s : State) : Host.Outcome State Fault Refusal :=
  .next (timerElem elem.toNat [.pt, .de] (fun x => x.cmd ≠ 0) s)

/-- The proving time of a signal expires (R79). -/
def execProvingTimeExpired (elem : BitVec 13) (s : State) : Host.Outcome State Fault Refusal :=
  .next (timerElem elem.toNat [.sg] (fun _ => true) s)

/-- The closing limit of a level crossing expires (R97). -/
def execClosingLimitExpired (elem : BitVec 13) (s : State) : Host.Outcome State Fault Refusal :=
  .next (timerElem elem.toNat [.lx] (fun x => x.state = 3) s)

/-- The boundary timeout runs out (R110). -/
def execBoundaryTimeout (bb : BitVec 13) (s : State) : Host.Outcome State Fault Refusal :=
  .next (timerElem bb.toNat [.bb] (fun _ => true) s)

/-- The back-off of a boundary request ends (R111). -/
def boundaryBackoffOp (o : Nat) (s : State) : State :=
  let x := s.ixl.resolved.elem o
  if s.mod.mode.cycles && s.isElem o [.bb] && x.tb ≠ 0xFFFF then
    s.adoptTimer (s.timerForm.modElem o fun x => { x with tb := 0xFFFF }).afterTimer
  else s

def execBoundaryBackoffExpired (bb : BitVec 13) (s : State) : Host.Outcome State Fault Refusal := .next (boundaryBackoffOp bb.toNat s)

/-- A route in a state takes its slot with its timer at its end. -/
def timerRoute (r : Nat) (p : RSt → Bool) (slot : Ev → Nat → Ev) (s : State) : State :=
  let x := s.ixl.resolved.route r
  if s.mod.mode.cycles && p x.st && x.timer ≠ 0xFFFF then
    let e := s.timerForm.modRoute r fun x => { x with timer := 1 }
    (s.adoptTimer (slot e r).afterTimer)
  else s

/-- The storage time of a request expires (R86). -/
def execStorageTimeExpired (route : BitVec 12) (s : State) : Host.Outcome State Fault Refusal :=
  .next (timerRoute route.toNat (· = .requested) Ev.candidateSlot s)

/-- The approach control time expires (R82). -/
def execApproachControlTimeExpired (route : BitVec 12) (s : State) : Host.Outcome State Fault Refusal :=
  .next (timerRoute route.toNat RSt.approaching Ev.activeSlot s)

/-- The approach locking time expires (R102). -/
def execApproachLockingTimeExpired (route : BitVec 12) (s : State) : Host.Outcome State Fault Refusal :=
  .next (timerRoute route.toNat (· = .apprLocked) Ev.activeSlot s)

/-- The emergency release time expires (R107). -/
def execEmergencyReleaseTimeExpired (route : BitVec 12) (s : State) : Host.Outcome State Fault Refusal :=
  .next (timerRoute route.toNat (· = .emerg) Ev.activeSlot s)

/-- The overlap release time expires: the overlap and the routes that use it in passage (R106). -/
def overlapReleaseOp (o : Nat) (s : State) : State :=
  let x := s.ixl.resolved.elem o
  if s.mod.mode.cycles && s.isElem o [.ov] && x.ta ≠ 0xFFFF then
    let e := s.timerForm.modElem o fun x => { x with ta := 0 }
    let rs := e.actives.filter fun r => ((e.route r).st = .inUse || (e.route r).st = .releasing) && (e.def? r).any fun d => d.overlap = some o
    s.adoptTimer ((e.each rs Ev.activeSlot).afterTimer)
  else s

def execOverlapReleaseTimeExpired (elem : BitVec 13) (s : State) : Host.Outcome State Fault Refusal :=
  .next (overlapReleaseOp elem.toNat s)

/-- A node's data age passes the limit of a row (R115, R211): its objects of that row become UNPROVEN. -/
def dataAgeOp (n row : Nat) (s : State) : State :=
  let x := Tab.getD s.net.nodes n .none
  match x.age with
  | none => s
  | some a =>
    if s.mod.mode.cycles then
      let old := max a (1000 * Tab.getD s.image.ages row 0 + 1)
      let s1 : State := { s with net := { s.net with nodes := Tab.put s.net.nodes n { x with age := some old } } }
      let e := s1.timerForm
      let due := s1.image.elems.filter fun p => p.2.src = .node n && p.2.kind.hasInput && s.image.ageRow n p.2.kind = row
      s1.adoptTimer ((e.each due fun e p => e.modElem p.1 fun y => e.stepElem p.1 p.2 { y with ta := heldTimer y.ta }).afterTimer)
    else s

def execDataAgeExceeded (node : Fin 512) (row : Fin 8) (s : State) : Host.Outcome State Fault Refusal :=
  .next (dataAgeOp node.val row.val s)

/-- A token is 30 s old (R328). -/
def tokenExpiredOp (source opcode target : Nat) (s : State) : State :=
  { s with ixl := { s.ixl with tokens := s.ixl.tokens.filter fun t => !(t.source = source && t.opcode = opcode && t.target = target) } }

def execTokenExpired (source : BitVec 16) (opcode : BitVec 16) (target : Word) (s : State) : Host.Outcome State Fault Refusal :=
  .next (tokenExpiredOp source.toNat opcode.toNat target.toNat s)

end Sys2Proof.Machine
end

