-- ==== Sys2Proof/Machine/Dispatch.lean ====
section
/-! DEFINITION. One arm per command: a direct call of its meaning. -/

namespace Sys2Proof.Machine

/-- The effect of a command on everything but the queue. -/
def exec (i : Instr) (s : State) : Host.Outcome State Fault Refusal :=
  match i with
  | .vinApplied mv => Sys2Proof.Machine.execVinApplied mv s
  | .powerFailWarning mv => Sys2Proof.Machine.execPowerFailWarning mv s
  | .holdUpExhausted => Sys2Proof.Machine.execHoldUpExhausted s
  | .vinRestored mv => Sys2Proof.Machine.execVinRestored mv s
  | .inputCutOff mv => Sys2Proof.Machine.execInputCutOff mv s
  | .inputCutOffClosed mv => Sys2Proof.Machine.execInputCutOffClosed mv s
  | .rstNLow => Sys2Proof.Machine.execRstNLow s
  | .resetRelease s1 s2 s3 => Sys2Proof.Machine.execResetRelease s1 s2 s3 s
  | .railFault rail lane mv => Sys2Proof.Machine.execRailFault rail lane mv s
  | .startInterlock lane xtStable rcStable railsOk nref => Sys2Proof.Machine.execStartInterlock lane xtStable rcStable railsOk nref s
  | .romBootComplete romOk => Sys2Proof.Machine.execRomBootComplete romOk s
  | .selftestComplete tests vrd => Sys2Proof.Machine.execSelftestComplete tests vrd s
  | .imageCheck loadOk reloadOk => Sys2Proof.Machine.execImageCheck loadOk reloadOk s
  | .accordFormed views => Sys2Proof.Machine.execAccordFormed views s
  | .accordFormationTimeout views => Sys2Proof.Machine.execAccordFormationTimeout views s
  | .loadedConditionsMet => Sys2Proof.Machine.execLoadedConditionsMet s
  | .integrationComplete => Sys2Proof.Machine.execIntegrationComplete s
  | .degradedTimeExpired => Sys2Proof.Machine.execDegradedTimeExpired s
  | .degradedTimeRestored => Sys2Proof.Machine.execDegradedTimeRestored s
  | .dormantEntryComplete ms => Sys2Proof.Machine.execDormantEntryComplete ms s
  | .wakeComplete hashOk blocksOk formed => Sys2Proof.Machine.execWakeComplete hashOk blocksOk formed s
  | .wakeNLow => Sys2Proof.Machine.execWakeNLow s
  | .trstNLow => Sys2Proof.Machine.execTrstNLow s
  | .oscillatorStable lane osc => Sys2Proof.Machine.execOscillatorStable lane osc s
  | .oscillatorUnstable lane osc => Sys2Proof.Machine.execOscillatorUnstable lane osc s
  | .monitorWindow lane count => Sys2Proof.Machine.execMonitorWindow lane count s
  | .nrefUpdate lane rcEdges => Sys2Proof.Machine.execNrefUpdate lane rcEdges s
  | .sourceSwitchComplete lane handshake => Sys2Proof.Machine.execSourceSwitchComplete lane handshake s
  | .rcRestartTimeout lane => Sys2Proof.Machine.execRcRestartTimeout lane s
  | .holdTimeout lane => Sys2Proof.Machine.execHoldTimeout lane s
  | .rateAcquisitionComplete lane drifts => Sys2Proof.Machine.execRateAcquisitionComplete lane drifts s
  | .stallWatchdog lane crossing addr => Sys2Proof.Machine.execStallWatchdog lane crossing addr s
  | .canaryReading lane speed => Sys2Proof.Machine.execCanaryReading lane speed s
  | .governorStepDown lane => Sys2Proof.Machine.execGovernorStepDown lane s
  | .levelStepComplete lane => Sys2Proof.Machine.execLevelStepComplete lane s
  | .railGoodTimeout lane => Sys2Proof.Machine.execRailGoodTimeout lane s
  | .diagnosticEvent lane ch inAck => Sys2Proof.Machine.execDiagnosticEvent lane ch inAck s
  | .laneTickComplete lane health work marginUs => Sys2Proof.Machine.execLaneTickComplete lane health work marginUs s
  | .tickDeadline lane => Sys2Proof.Machine.execTickDeadline lane s
  | .tickBoundary marks views clock => Sys2Proof.Machine.execTickBoundary marks views clock s
  | .accordMessageReceived receiver sender kind bytes => Sys2Proof.Machine.execAccordMessageReceived receiver sender kind bytes s
  | .proposalSend lane => Sys2Proof.Machine.execProposalSend lane s
  | .accordedSetCompute received => Sys2Proof.Machine.execAccordedSetCompute received s
  | .fetchTimeout lane => Sys2Proof.Machine.execFetchTimeout lane s
  | .inputAccordClose sent wrong units => Sys2Proof.Machine.execInputAccordClose sent wrong units s
  | .commandUnaccorded cmd => Sys2Proof.Machine.execCommandUnaccorded cmd s
  | .cycleEvaluation => Sys2Proof.Machine.execCycleEvaluation s
  | .restartTimerStart area => Sys2Proof.Machine.execRestartTimerStart area s
  | .routeEngineComplete lane us steps faults => Sys2Proof.Machine.execRouteEngineComplete lane us steps faults s
  | .graphSolverComplete faults => Sys2Proof.Machine.execGraphSolverComplete faults s
  | .outputAccord sent wrong units => Sys2Proof.Machine.execOutputAccord sent wrong units s
  | .applyStrobe strobes => Sys2Proof.Machine.execApplyStrobe strobes s
  | .voteRefresh tick sense groups => Sys2Proof.Machine.execVoteRefresh tick sense groups s
  | .selftestSlice misr passSeconds => Sys2Proof.Machine.execSelftestSlice misr passSeconds s
  | .restartTimeExpired area => Sys2Proof.Machine.execRestartTimeExpired area s
  | .settleTimeExpired elem => Sys2Proof.Machine.execSettleTimeExpired elem s
  | .throwTimeLimitExpired elem => Sys2Proof.Machine.execThrowTimeLimitExpired elem s
  | .provingTimeExpired elem => Sys2Proof.Machine.execProvingTimeExpired elem s
  | .closingLimitExpired elem => Sys2Proof.Machine.execClosingLimitExpired elem s
  | .storageTimeExpired route => Sys2Proof.Machine.execStorageTimeExpired route s
  | .approachControlTimeExpired route => Sys2Proof.Machine.execApproachControlTimeExpired route s
  | .approachLockingTimeExpired route => Sys2Proof.Machine.execApproachLockingTimeExpired route s
  | .overlapReleaseTimeExpired elem => Sys2Proof.Machine.execOverlapReleaseTimeExpired elem s
  | .emergencyReleaseTimeExpired route => Sys2Proof.Machine.execEmergencyReleaseTimeExpired route s
  | .boundaryTimeout bb => Sys2Proof.Machine.execBoundaryTimeout bb s
  | .boundaryBackoffExpired bb => Sys2Proof.Machine.execBoundaryBackoffExpired bb s
  | .dataAgeExceeded node row => Sys2Proof.Machine.execDataAgeExceeded node row s
  | .tokenExpired source opcode target => Sys2Proof.Machine.execTokenExpired source opcode target s
  | .taskRelease task => Sys2Proof.Machine.execTaskRelease task s
  | .dispatchPoint => Sys2Proof.Machine.execDispatchPoint s
  | .runComplete task => Sys2Proof.Machine.execRunComplete task s
  | .eventLatch => Sys2Proof.Machine.execEventLatch s
  | .sheetPrepareComplete => Sys2Proof.Machine.execSheetPrepareComplete s
  | .sheetSwitch => Sys2Proof.Machine.execSheetSwitch s
  | .sheetPrepareTimeout => Sys2Proof.Machine.execSheetPrepareTimeout s
  | .retainedStateWrite => Sys2Proof.Machine.execRetainedStateWrite s
  | .roundStart round devs roundTrip => Sys2Proof.Machine.execRoundStart round devs roundTrip s
  | .rateUpdate lane => Sys2Proof.Machine.execRateUpdate lane s
  | .slotVote node faults => Sys2Proof.Machine.execSlotVote node faults s
  | .partnerLate node => Sys2Proof.Machine.execPartnerLate node s
  | .frameReceived port slot sofNs endNs note bytes => Sys2Proof.Machine.execFrameReceived port slot sofNs endNs note bytes s
  | .accessClosureHoldEnd node ch => Sys2Proof.Machine.execAccessClosureHoldEnd node ch s
  | .pairingDeadline node => Sys2Proof.Machine.execPairingDeadline node s
  | .membershipLost node ch => Sys2Proof.Machine.execMembershipLost node ch s
  | .channelLossEnd node ch => Sys2Proof.Machine.execChannelLossEnd node ch s
  | .grantWindow port => Sys2Proof.Machine.execGrantWindow port s
  | .probeReply port arrival bytes => Sys2Proof.Machine.execProbeReply port arrival bytes s
  | .rangingWindowEnd port tooLong => Sys2Proof.Machine.execRangingWindowEnd port tooLong s
  | .claimReceived port bytes => Sys2Proof.Machine.execClaimReceived port bytes s
  | .grantReleased node => Sys2Proof.Machine.execGrantReleased node s
  | .bankSwitch => Sys2Proof.Machine.execBankSwitch s
  | .bankCrcExchange partnerCrc partnerArmed => Sys2Proof.Machine.execBankCrcExchange partnerCrc partnerArmed s
  | .beaconSend => Sys2Proof.Machine.execBeaconSend s
  | .partnerListenTimeout => Sys2Proof.Machine.execPartnerListenTimeout s
  | .coldstartRoundsComplete => Sys2Proof.Machine.execColdstartRoundsComplete s
  | .coldstartCollision partnerClaim => Sys2Proof.Machine.execColdstartCollision partnerClaim s
  | .collisionBackoffExpired => Sys2Proof.Machine.execCollisionBackoffExpired s
  | .coldstartAbandoned otherClaim => Sys2Proof.Machine.execColdstartAbandoned otherClaim s
  | .networkSilence => Sys2Proof.Machine.execNetworkSilence s
  | .networkTimePersist => Sys2Proof.Machine.execNetworkTimePersist s
  | .dynamicFrame lane highInWindow crossLow => Sys2Proof.Machine.execDynamicFrame lane highInWindow crossLow s
  | .discrepancyTimeExpired lane pair => Sys2Proof.Machine.execDiscrepancyTimeExpired lane pair s
  | .discrepancyCleared lane pair => Sys2Proof.Machine.execDiscrepancyCleared lane pair s
  | .vfldLost lane g vfld => Sys2Proof.Machine.execVfldLost lane g vfld s
  | .vfldRestored lane g vfld => Sys2Proof.Machine.execVfldRestored lane g vfld s
  | .switchTest ch highSide senders => Sys2Proof.Machine.execSwitchTest ch highSide senders s
  | .onTestAbort lane ch highSide => Sys2Proof.Machine.execOnTestAbort lane ch highSide s
  | .testRevert ch highSide => Sys2Proof.Machine.execTestRevert ch highSide s
  | .testResult ch highSide readings => Sys2Proof.Machine.execTestResult ch highSide readings s
  | .voterTest unchanged reported => Sys2Proof.Machine.execVoterTest unchanged reported s
  | .silentTimeout lane ch => Sys2Proof.Machine.execSilentTimeout lane ch s
  | .voteWithdraw lane => Sys2Proof.Machine.execVoteWithdraw lane s
  | .minorityReportExpired lane ch => Sys2Proof.Machine.execMinorityReportExpired lane ch s
  | .channelOverload ch => Sys2Proof.Machine.execChannelOverload ch s
  | .groupOverload g ma => Sys2Proof.Machine.execGroupOverload g ma s
  | .moduleOverload groupMa => Sys2Proof.Machine.execModuleOverload groupMa s
  | .overloadReenable unit => Sys2Proof.Machine.execOverloadReenable unit s
  | .switchOvertemperature ch => Sys2Proof.Machine.execSwitchOvertemperature ch s
  | .vrdToken lane parity offsetUs => Sys2Proof.Machine.execVrdToken lane parity offsetUs s
  | .vrdTokenTimeout => Sys2Proof.Machine.execVrdTokenTimeout s
  | .ioForceEnd ch => Sys2Proof.Machine.execIoForceEnd ch s
  | .supervisorPass units => Sys2Proof.Machine.execSupervisorPass units s
  | .stopStrobe strobes => Sys2Proof.Machine.execStopStrobe strobes s
  | .ethernetFrame port frame => Sys2Proof.Machine.execEthernetFrame port frame s
  | .arpRequest port target => Sys2Proof.Machine.execArpRequest port target s
  | .icmpEcho port request => Sys2Proof.Machine.execIcmpEcho port request s
  | .linkUp port => Sys2Proof.Machine.execLinkUp port s
  | .linkDown port => Sys2Proof.Machine.execLinkDown port s
  | .hostPacket port sender stamp lanes bytes => Sys2Proof.Machine.execHostPacket port sender stamp lanes bytes s
  | .nonvitalIntake => Sys2Proof.Machine.execNonvitalIntake s
  | .offCycleService => Sys2Proof.Machine.execOffCycleService s
  | .replyAgreed cmd => Sys2Proof.Machine.execReplyAgreed cmd s
  | .replyDisagreeTimeout cmd => Sys2Proof.Machine.execReplyDisagreeTimeout cmd s
  | .replyMissingTimeout cmd => Sys2Proof.Machine.execReplyMissingTimeout cmd s
  | .q5ConfirmTimeout cmd => Sys2Proof.Machine.execQ5ConfirmTimeout cmd s
  | .challengeExpired source role => Sys2Proof.Machine.execChallengeExpired source role s
  | .sessionExpired role => Sys2Proof.Machine.execSessionExpired role s
  | .sequencePersist => Sys2Proof.Machine.execSequencePersist s
  | .routeSet hdr route action => Sys2Proof.Machine.execRouteSet hdr route action s
  | .routeCancel hdr route => Sys2Proof.Machine.execRouteCancel hdr route s
  | .routeEmergencyReleaseStep1 hdr route => Sys2Proof.Machine.execRouteEmergencyReleaseStep1 hdr route s
  | .routeEmergencyReleaseStep2 hdr route token => Sys2Proof.Machine.execRouteEmergencyReleaseStep2 hdr route token s
  | .routeQuery hdr route => Sys2Proof.Machine.execRouteQuery hdr route s
  | .routeAuto hdr route action => Sys2Proof.Machine.execRouteAuto hdr route action s
  | .pointMove hdr elem action => Sys2Proof.Machine.execPointMove hdr elem action s
  | .pointBlock hdr elem action => Sys2Proof.Machine.execPointBlock hdr elem action s
  | .signalReplace hdr elem => Sys2Proof.Machine.execSignalReplace hdr elem s
  | .sectionBlock hdr elem action => Sys2Proof.Machine.execSectionBlock hdr elem action s
  | .sectionRestoreStep1 hdr elem => Sys2Proof.Machine.execSectionRestoreStep1 hdr elem s
  | .sectionRestoreStep2 hdr elem token => Sys2Proof.Machine.execSectionRestoreStep2 hdr elem token s
  | .keyRelease hdr elem => Sys2Proof.Machine.execKeyRelease hdr elem s
  | .lxCommand hdr elem action => Sys2Proof.Machine.execLxCommand hdr elem action s
  | .elementQuery hdr elem => Sys2Proof.Machine.execElementQuery hdr elem s
  | .statusModule hdr => Sys2Proof.Machine.execStatusModule hdr s
  | .subscribe hdr subId kind first count classMask => Sys2Proof.Machine.execSubscribe hdr subId kind first count classMask s
  | .unsubscribe hdr subId => Sys2Proof.Machine.execUnsubscribe hdr subId s
  | .statusSnapshotCopy hdr count offset => Sys2Proof.Machine.execStatusSnapshotCopy hdr count offset s
  | .statusSnapshotRead hdr count offset => Sys2Proof.Machine.execStatusSnapshotRead hdr count offset s
  | .recRead hdr index count => Sys2Proof.Machine.execRecRead hdr index count s
  | .recFreeze hdr => Sys2Proof.Machine.execRecFreeze hdr s
  | .recThaw hdr => Sys2Proof.Machine.execRecThaw hdr s
  | .recClearStep1 hdr upTo => Sys2Proof.Machine.execRecClearStep1 hdr upTo s
  | .recClearStep2 hdr upTo token => Sys2Proof.Machine.execRecClearStep2 hdr upTo token s
  | .silRead hdr index count => Sys2Proof.Machine.execSilRead hdr index count s
  | .silMark hdr label => Sys2Proof.Machine.execSilMark hdr label s
  | .imgBegin hdr type length blocks version => Sys2Proof.Machine.execImgBegin hdr type length blocks version s
  | .imgBlock hdr block part data => Sys2Proof.Machine.execImgBlock hdr block part data s
  | .imgVerify hdr => Sys2Proof.Machine.execImgVerify hdr s
  | .imgVerifyComplete => Sys2Proof.Machine.execImgVerifyComplete s
  | .imgSchedule hdr netTime iflags => Sys2Proof.Machine.execImgSchedule hdr netTime iflags s
  | .imgAbort hdr => Sys2Proof.Machine.execImgAbort hdr s
  | .imgQuery hdr => Sys2Proof.Machine.execImgQuery hdr s
  | .sheetPrepare hdr => Sys2Proof.Machine.execSheetPrepare hdr s
  | .sheetCommit hdr netTime => Sys2Proof.Machine.execSheetCommit hdr netTime s
  | .timeCorrelate hdr utcS utcNs netTime => Sys2Proof.Machine.execTimeCorrelate hdr utcS utcNs netTime s
  | .timeQuery hdr => Sys2Proof.Machine.execTimeQuery hdr s
  | .sessionChallenge hdr role => Sys2Proof.Machine.execSessionChallenge hdr role s
  | .sessionOpen hdr slot role nonce signature => Sys2Proof.Machine.execSessionOpen hdr slot role nonce signature s
  | .sessionClose hdr role => Sys2Proof.Machine.execSessionClose hdr role s
  | .modeRequestSafe hdr => Sys2Proof.Machine.execModeRequestSafe hdr s
  | .modeRequestRestart hdr => Sys2Proof.Machine.execModeRequestRestart hdr s
  | .modeRequestDormant hdr => Sys2Proof.Machine.execModeRequestDormant hdr s
  | .modeRequestWake hdr => Sys2Proof.Machine.execModeRequestWake hdr s
  | .modeRequestReplay hdr => Sys2Proof.Machine.execModeRequestReplay hdr s
  | .selftestQuery hdr => Sys2Proof.Machine.execSelftestQuery hdr s
  | .regRead hdr address count => Sys2Proof.Machine.execRegRead hdr address count s
  | .sealFuseStep1 hdr op slot => Sys2Proof.Machine.execSealFuseStep1 hdr op slot s
  | .sealFuseBlow hdr slot token => Sys2Proof.Machine.execSealFuseBlow hdr slot token s
  | .sealFuseProgramSlot hdr slot token => Sys2Proof.Machine.execSealFuseProgramSlot hdr slot token s
  | .sealFuseRevokeSlot hdr slot token => Sys2Proof.Machine.execSealFuseRevokeSlot hdr slot token s
  | .withheldClear hdr route => Sys2Proof.Machine.execWithheldClear hdr route s
  | .perfConfig hdr cfg => Sys2Proof.Machine.execPerfConfig hdr cfg s
  | .perfRead hdr => Sys2Proof.Machine.execPerfRead hdr s
  | .perfSamples hdr start count => Sys2Proof.Machine.execPerfSamples hdr start count s
  | .netStatus hdr select channel first count => Sys2Proof.Machine.execNetStatus hdr select channel first count s
  | .netPortControl hdr port action => Sys2Proof.Machine.execNetPortControl hdr port action s
  | .netBankWrite hdr port firstSlot entries => Sys2Proof.Machine.execNetBankWrite hdr port firstSlot entries s
  | .netBankSwitch hdr round crc => Sys2Proof.Machine.execNetBankSwitch hdr round crc s
  | .netLatecomerPolicy hdr enable => Sys2Proof.Machine.execNetLatecomerPolicy hdr enable s
  | .redStatus hdr => Sys2Proof.Machine.execRedStatus hdr s
  | .redSwitchoverStep1 hdr => Sys2Proof.Machine.execRedSwitchoverStep1 hdr s
  | .redSwitchoverStep2 hdr token => Sys2Proof.Machine.execRedSwitchoverStep2 hdr token s
  | .redLaneResync hdr lane => Sys2Proof.Machine.execRedLaneResync hdr lane s
  | .redTenderEnable hdr enable => Sys2Proof.Machine.execRedTenderEnable hdr enable s
  | .tenderEnableTimeout => Sys2Proof.Machine.execTenderEnableTimeout s
  | .ioStatus hdr first count => Sys2Proof.Machine.execIoStatus hdr first count s
  | .ioTestConfig hdr channel action value => Sys2Proof.Machine.execIoTestConfig hdr channel action value s
  | .ioForce hdr channel value duration => Sys2Proof.Machine.execIoForce hdr channel value duration s
  | .appMsgSend hdr identifier n words => Sys2Proof.Machine.execAppMsgSend hdr identifier n words s
  | .dbgStatus hdr => Sys2Proof.Machine.execDbgStatus hdr s
  | .boundaryFrame hdr targetBb sourceBb dir bflags exitAspect senderCycle => Sys2Proof.Machine.execBoundaryFrame hdr targetBb sourceBb dir bflags exitAspect senderCycle s
  | .bogieMismatch lane timeout => Sys2Proof.Machine.execBogieMismatch lane timeout s
  | .resyncImageReload lane digestOk reloadOk => Sys2Proof.Machine.execResyncImageReload lane digestOk reloadOk s
  | .resyncSelftestComplete lane passed => Sys2Proof.Machine.execResyncSelftestComplete lane passed s
  | .resyncCopyArmed lane => Sys2Proof.Machine.execResyncCopyArmed lane s
  | .copyBeforeWrite sender page => Sys2Proof.Machine.execCopyBeforeWrite sender page s
  | .resyncCopyComplete lane senderHigh senderLow => Sys2Proof.Machine.execResyncCopyComplete lane senderHigh senderLow s
  | .resyncCopyFailed lane => Sys2Proof.Machine.execResyncCopyFailed lane s
  | .catchUpComplete lane run => Sys2Proof.Machine.execCatchUpComplete lane run s
  | .catchUpTimeout lane => Sys2Proof.Machine.execCatchUpTimeout lane s
  | .probationComplete lane counted => Sys2Proof.Machine.execProbationComplete lane counted s
  | .resyncTimeout lane => Sys2Proof.Machine.execResyncTimeout lane s
  | .powerRecovery lane => Sys2Proof.Machine.execPowerRecovery lane s
  | .partnerMessage msg => Sys2Proof.Machine.execPartnerMessage msg s
  | .controlRetransmit => Sys2Proof.Machine.execControlRetransmit s
  | .partnerLinkUp pos romLevel execMajor execMinor iface digest minors => Sys2Proof.Machine.execPartnerLinkUp pos romLevel execMajor execMinor iface digest minors s
  | .partnerLinkDown => Sys2Proof.Machine.execPartnerLinkDown s
  | .takeoverJudgement silent => Sys2Proof.Machine.execTakeoverJudgement silent s
  | .holdingTimeout => Sys2Proof.Machine.execHoldingTimeout s
  | .takeoverLost higherClaim => Sys2Proof.Machine.execTakeoverLost higherClaim s
  | .switchoverConfirmDeadline => Sys2Proof.Machine.execSwitchoverConfirmDeadline s
  | .switchover => Sys2Proof.Machine.execSwitchover s
  | .recordHandover lane laneLocal type payload => Sys2Proof.Machine.execRecordHandover lane laneLocal type payload s
  | .recordCopyTimeout => Sys2Proof.Machine.execRecordCopyTimeout s
  | .recordClose index => Sys2Proof.Machine.execRecordClose index s
  | .freezeTimeout => Sys2Proof.Machine.execFreezeTimeout s
  | .ringDrain => Sys2Proof.Machine.execRingDrain s
  | .housekeeperHeartbeatMissing => Sys2Proof.Machine.execHousekeeperHeartbeatMissing s
  | .housekeeperLostTimeout => Sys2Proof.Machine.execHousekeeperLostTimeout s
  | .keyframeDue => Sys2Proof.Machine.execKeyframeDue s
  | .operatingTimePersist => Sys2Proof.Machine.execOperatingTimePersist s
  | .replayCycle => Sys2Proof.Machine.execReplayCycle s
  | .activationTimeReached => Sys2Proof.Machine.execActivationTimeReached s
  | .activationArmed lane digestOk => Sys2Proof.Machine.execActivationArmed lane digestOk s
  | .activationArmDeadline lane => Sys2Proof.Machine.execActivationArmDeadline lane s
  | .activationJudgement => Sys2Proof.Machine.execActivationJudgement s
  | .postponementExpired => Sys2Proof.Machine.execPostponementExpired s
  | .imageSwitch => Sys2Proof.Machine.execImageSwitch s
  | .eccUncorrectable lane requester addr afterProposal isReply => Sys2Proof.Machine.execEccUncorrectable lane requester addr afterProposal isReply s
  | .eccCorrected lane addr => Sys2Proof.Machine.execEccCorrected lane addr s
  | .scrubRead lane => Sys2Proof.Machine.execScrubRead lane s
  | .translationFault lane master access fault => Sys2Proof.Machine.execTranslationFault lane master access fault s
  | .tlbParityError lane master vpn => Sys2Proof.Machine.execTlbParityError lane master vpn s
  | .guardFault lane requester addr => Sys2Proof.Machine.execGuardFault lane requester addr s
  | .dmaDescriptorComplete lane channel => Sys2Proof.Machine.execDmaDescriptorComplete lane channel s
  | .dmaFault lane channel cause va done write => Sys2Proof.Machine.execDmaFault lane channel cause va done write s
  | .dmaSuspended lane channel done => Sys2Proof.Machine.execDmaSuspended lane channel done s
  | .arbiterDecision lane port requests => Sys2Proof.Machine.execArbiterDecision lane port requests s
  | .lockOverrun lane port => Sys2Proof.Machine.execLockOverrun lane port s
  | .lockIdleTimeout lane port => Sys2Proof.Machine.execLockIdleTimeout lane port s
  | .perfSample lane counter location sflags master latency address time => Sys2Proof.Machine.execPerfSample lane counter location sflags master latency address time s
  | .bandwidthWindow lane => Sys2Proof.Machine.execBandwidthWindow lane s
  | .hubSlotDataWrite lane entry => Sys2Proof.Machine.execHubSlotDataWrite lane entry s
  | .hubSwitchRoundWrite lane round => Sys2Proof.Machine.execHubSwitchRoundWrite lane round s
  | .hubSwitchCrcWrite lane crc => Sys2Proof.Machine.execHubSwitchCrcWrite lane crc s
  | .hubSwitchCancel lane value => Sys2Proof.Machine.execHubSwitchCancel lane value s
  | .arbCommit lane port value reason => Sys2Proof.Machine.execArbCommit lane port value reason s
  | .cvuLoad lane unit poly => Sys2Proof.Machine.execCvuLoad lane unit poly s
  | .cvuSeedNow lane unit => Sys2Proof.Machine.execCvuSeedNow lane unit s
  | .cvuFeed lane unit data => Sys2Proof.Machine.execCvuFeed lane unit data s
  | .cvuValueWrite lane unit high value => Sys2Proof.Machine.execCvuValueWrite lane unit high value s
  | .dmaEnable lane channel enable => Sys2Proof.Machine.execDmaEnable lane channel enable s
  | .dmaSuspend lane channel => Sys2Proof.Machine.execDmaSuspend lane channel s
  | .dmaResume lane channel => Sys2Proof.Machine.execDmaResume lane channel s
  | .dmaAbort lane channel => Sys2Proof.Machine.execDmaAbort lane channel s
  | .dmaTailWrite lane channel tail => Sys2Proof.Machine.execDmaTailWrite lane channel tail s
  | .mmuRootWrite lane master value => Sys2Proof.Machine.execMmuRootWrite lane master value s
  | .mmuInval lane value => Sys2Proof.Machine.execMmuInval lane value s
  | .clkXreset lane value => Sys2Proof.Machine.execClkXreset lane value s
  | .clkGateWrite lane value => Sys2Proof.Machine.execClkGateWrite lane value s
  | .tbsNetLoRead lane net frac => Sys2Proof.Machine.execTbsNetLoRead lane net frac s
  | .registerWrite lane addr value => Sys2Proof.Machine.execRegisterWrite lane addr value s
  | .idcode => Sys2Proof.Machine.execIdcode s
  | .sample cells => Sys2Proof.Machine.execSample cells s
  | .bypass code => Sys2Proof.Machine.execBypass code s
  | .dbgInstruction => Sys2Proof.Machine.execDbgInstruction s
  | .dbgNop => Sys2Proof.Machine.execDbgNop s
  | .dbgRead lane addr => Sys2Proof.Machine.execDbgRead lane addr s
  | .dbgWrite lane addr data => Sys2Proof.Machine.execDbgWrite lane addr data s
  | .dbgHalt lane => Sys2Proof.Machine.execDbgHalt lane s
  | .dbgResume lane => Sys2Proof.Machine.execDbgResume lane s
  | .dbgStep lane => Sys2Proof.Machine.execDbgStep lane s
  | .tapDbgStatus lane => Sys2Proof.Machine.execTapDbgStatus lane s
  | .silBegin => Sys2Proof.Machine.execSilBegin s
  | .silWrite data => Sys2Proof.Machine.execSilWrite data s
  | .silEnd => Sys2Proof.Machine.execSilEnd s
  | .dbgAttach => Sys2Proof.Machine.execDbgAttach s
  | .dbgDetach => Sys2Proof.Machine.execDbgDetach s
  | .comparatorSample levels halfUs => Sys2Proof.Machine.execComparatorSample levels halfUs s
  | .fuseOperationComplete readbackOk => Sys2Proof.Machine.execFuseOperationComplete readbackOk s

end Sys2Proof.Machine
end

