-- ==== Sys2Proof/Safety.lean ====
section
/-!
DEFINITION. The terms in which statements speak: a command that completes, a host command that is accepted and its answer, the parts of the
state and which of them a command may change, the canonical form of every lane's memory, the transitions of R19, and a check
value by its parameter set alone.
-/

namespace Sys2Proof.Machine

/-! ### Completion -/

/-- The command answers a next state, and that state has a property. -/
def Runs (c : Instr) (s : State) (P : State → Prop) : Prop := ∃ t, exec c s = .next t ∧ P t

/-- DBG is selected, the module is neither off nor in RESET, and no seal is blown. -/
abbrev DebugReady (s : State) : Prop := s.tap.ir = 0x08 ∧ s.mod.mode ≠ .off ∧ s.mod.mode ≠ .reset ∧ s.sealedT = false

/-- A host command that stands alone gets past steps 10 and 11 of R306: the mode serves it, no entry to DORMANT runs, no fault strikes its
handling (R456), and its session is held where the row needs one, or it carries no MAC where it needs none. -/
def State.accepts (s : State) (h : CmdHdr) (op : Nat) (need : Option Role) : Bool :=
  (s.service (opcodeQueue op) op = .lanes || s.service (opcodeQueue op) op = .housekeeper) && !s.enteringDormant && !s.host.spoilt &&
    (match need with
     | none => !h.mac
     | some r => s.holds r h.source.toNat)

abbrev Accepts (s : State) (h : CmdHdr) (op : Nat) (need : Option Role) : Prop := s.accepts h op need = true

/-- The reply selector holds the command's reply, written by the lanes that write replies, behind those it held. -/
abbrev Answered (s t : State) (h : CmdHdr) (op st : Nat) (ps : List Byte) : Prop := t.host.replies = (s.reply h op st ps).host.replies

/-- A register write of a lane that runs finds room in its bogie's buffer (R352). -/
abbrev RegisterRoom (s : State) (l : Lane) : Prop := s.regsRun l = true → (s.lane l).core.cmpBuf.length < 8

/-- What a vital command that stands alone is judged on. -/
def State.standing (s : State) : Ev := ({ s.form false with reqs := .empty, nbrFresh := [] } : Ev).boundaryZones

/-- A packet that needs no role and passes steps 4 to 12 of R306. -/
def State.admits (s : State) (a : Arrival) : Bool :=
  byteAt a.bytes 0 = 2 && a.bytes.length = 24 + a.plen && a.plen ≤ 1024 && a.code = a.safety s.mod.sid && a.queueByte < 16 && a.flags < 4 &&
    !a.mac && newer a.seq (s.lastOf a) && opcodeRole a.opcode = some none &&
    (s.queueDepth a.queue ≠ 0 || (a.queue = 4 && a.opcode = 0x0301)) &&
    (opcodeQueue a.opcode = a.queue || (a.opcode = 0x0F01 && a.queue = 3)) && !s.enteringDormant &&
    (s.service a.queue a.opcode = .lanes || s.service a.queue a.opcode = .housekeeper) &&
    (s.host.recoveryAddr || (s.image.sources.find? fun d => d.id = a.source).any fun d => bitOf d.queues a.queue) &&
    plenOk a.opcode a.params

abbrev Admissible (s : State) (a : Arrival) : Prop := s.admits a = true

/-! ### Frames -/

/-- The parts of the state: the parts of State, the parts of a lane over all three lanes, and, within the module's and a lane's parts, the
mode, the seals and the bytes of memory. -/
inductive Part where
  | freeCtr | mod | mode | seals | core | clk | pwr | tbs | diag | mmu | memory | dma | arbE | arbD | cvu | perf | rte | acc | img | ixl
  | sheets | net | fch | sup | host | rcd | plink | tap
deriving DecidableEq, Repr

def Part.all : List Part :=
  [.freeCtr, .mod, .mode, .seals, .core, .clk, .pwr, .tbs, .diag, .mmu, .memory, .dma, .arbE, .arbD, .cvu, .perf, .rte, .acc, .img, .ixl,
   .sheets, .net, .fch, .sup, .host, .rcd, .plink, .tap]

/-- A part is the same in two states; of memory, every byte of every lane reads the same. -/
def Part.same (p : Part) (t s : State) : Prop :=
  match p with
  | .freeCtr => t.freeCtr = s.freeCtr
  | .mod => t.mod = s.mod
  | .mode => t.mod.mode = s.mod.mode
  | .seals => t.mod.sealed = s.mod.sealed
  | .core => ∀ l, (t.lane l).core = (s.lane l).core
  | .clk => ∀ l, (t.lane l).clk = (s.lane l).clk
  | .pwr => ∀ l, (t.lane l).pwr = (s.lane l).pwr
  | .tbs => ∀ l, (t.lane l).tbs = (s.lane l).tbs
  | .diag => ∀ l, (t.lane l).diag = (s.lane l).diag
  | .mmu => ∀ l, (t.lane l).mmu = (s.lane l).mmu
  | .memory => ∀ l a, (t.lane l).mmu.byte a = (s.lane l).mmu.byte a
  | .dma => ∀ l, (t.lane l).dma = (s.lane l).dma
  | .arbE => ∀ l, (t.lane l).arbE = (s.lane l).arbE
  | .arbD => ∀ l, (t.lane l).arbD = (s.lane l).arbD
  | .cvu => ∀ l, (t.lane l).cvu = (s.lane l).cvu
  | .perf => ∀ l, (t.lane l).perf = (s.lane l).perf
  | .rte => ∀ l, (t.lane l).rte = (s.lane l).rte
  | .acc => t.acc = s.acc
  | .img => t.img = s.img
  | .ixl => t.ixl = s.ixl
  | .sheets => t.sheets = s.sheets
  | .net => t.net = s.net
  | .fch => t.fch = s.fch
  | .sup => t.sup = s.sup
  | .host => t.host = s.host
  | .rcd => t.rcd = s.rcd
  | .plink => t.plink = s.plink
  | .tap => t.tap = s.tap

/-- The parts that a command may change, whatever its operands and the state: those that the spec's rules of the row write, with the
records, replies, refusals and fault reactions that can follow. -/
def mayChange (c : Instr) : List Part :=
  match c with
  | .vinApplied .. =>
    [.mod, .mode, .diag, .host, .rcd]
  | .powerFailWarning .. | .holdUpExhausted | .rstNLow | .wakeNLow | .hostPacket .. | .nonvitalIntake | .offCycleService
  | .replyAgreed .. | .replyDisagreeTimeout .. | .replyMissingTimeout .. | .modeRequestWake .. | .replayCycle =>
    Part.all
  | .vinRestored .. | .inputCutOff .. =>
    [.mod, .host, .rcd]
  | .inputCutOffClosed .. | .degradedTimeRestored =>
    [.mod]
  | .resetRelease .. =>
    [.mod, .mode, .core, .diag, .mmu, .arbE, .arbD, .img, .host, .rcd]
  | .railFault .. | .imageCheck .. | .canaryReading .. | .railGoodTimeout .. =>
    [.mod, .mode, .core, .clk, .pwr, .diag, .mmu, .arbE, .arbD, .acc, .img, .ixl, .sheets, .net, .fch, .sup, .host, .rcd, .plink]
  | .startInterlock .. =>
    [.core, .clk, .pwr, .diag, .acc, .net, .fch, .host, .rcd]
  | .romBootComplete .. =>
    [.mod, .mode, .core, .diag, .acc, .img, .net, .fch, .host, .rcd]
  | .selftestComplete .. | .degradedTimeExpired | .wakeComplete .. | .switchoverConfirmDeadline | .switchover
  | .housekeeperLostTimeout =>
    [.mod, .mode, .core, .clk, .diag, .arbE, .arbD, .acc, .img, .ixl, .sheets, .net, .fch, .sup, .host, .rcd, .plink]
  | .accordFormed .. | .accordMessageReceived .. =>
    [.core, .acc]
  | .accordFormationTimeout .. | .recordHandover .. =>
    [.core, .diag, .host, .rcd]
  | .loadedConditionsMet =>
    [.mod, .mode, .clk, .diag, .acc, .ixl, .sheets, .net, .sup, .host, .rcd, .plink]
  | .integrationComplete =>
    [.mod, .mode, .core, .pwr, .diag, .rte, .acc, .img, .ixl, .sheets, .net, .sup, .host, .rcd, .plink]
  | .dormantEntryComplete .. =>
    [.mod, .clk, .pwr, .diag, .host, .rcd]
  | .trstNLow | .idcode | .sample .. | .bypass .. | .dbgInstruction | .dbgNop | .tapDbgStatus .. =>
    [.tap]
  | .oscillatorStable .. =>
    [.core, .clk, .tbs, .diag, .arbE, .arbD, .host, .rcd]
  | .oscillatorUnstable .. | .monitorWindow .. | .roundStart .. =>
    [.mod, .mode, .core, .clk, .tbs, .diag, .mmu, .arbE, .arbD, .acc, .img, .ixl, .sheets, .net, .fch, .sup, .host, .rcd, .plink]
  | .nrefUpdate .. | .rcRestartTimeout .. =>
    [.clk]
  | .sourceSwitchComplete .. =>
    [.core, .clk, .diag, .host, .rcd]
  | .holdTimeout .. =>
    [.mod, .core, .diag, .acc, .net, .fch, .host, .rcd]
  | .rateAcquisitionComplete .. | .rateUpdate .. | .tbsNetLoRead .. =>
    [.tbs]
  | .stallWatchdog .. | .tickDeadline .. | .accordedSetCompute .. | .fetchTimeout .. | .voteRefresh .. | .selftestSlice ..
  | .slotVote .. | .bogieMismatch .. | .activationArmDeadline .. | .lockOverrun .. | .lockIdleTimeout .. =>
    [.mod, .mode, .core, .clk, .diag, .mmu, .arbE, .arbD, .acc, .img, .ixl, .sheets, .net, .fch, .sup, .host, .rcd, .plink]
  | .governorStepDown .. =>
    [.pwr]
  | .levelStepComplete .. =>
    [.core, .pwr, .diag, .host, .rcd]
  | .diagnosticEvent .. =>
    [.core, .clk, .diag, .fch, .host, .rcd]
  | .laneTickComplete .. =>
    [.freeCtr, .core, .perf]
  | .tickBoundary .. =>
    [.mod, .mode, .core, .clk, .pwr, .diag, .mmu, .dma, .arbE, .arbD, .perf, .rte, .acc, .img, .ixl, .sheets, .net, .fch, .sup, .host,
      .rcd, .plink]
  | .proposalSend .. =>
    [.freeCtr, .core, .acc]
  | .inputAccordClose .. =>
    [.freeCtr, .mod, .mode, .core, .clk, .diag, .mmu, .dma, .arbE, .arbD, .cvu, .rte, .acc, .img, .ixl, .sheets, .net, .fch, .sup,
      .host, .rcd, .plink]
  | .commandUnaccorded .. =>
    [.diag, .acc, .host, .rcd]
  | .cycleEvaluation =>
    [.freeCtr, .diag, .rte, .acc, .ixl, .sheets, .host, .rcd]
  | .restartTimerStart .. | .restartTimeExpired .. | .settleTimeExpired .. | .throwTimeLimitExpired .. | .provingTimeExpired ..
  | .closingLimitExpired .. | .storageTimeExpired .. | .approachControlTimeExpired .. | .approachLockingTimeExpired ..
  | .overlapReleaseTimeExpired .. | .emergencyReleaseTimeExpired .. | .boundaryTimeout .. | .boundaryBackoffExpired ..
  | .tokenExpired .. =>
    [.ixl]
  | .routeEngineComplete .. =>
    [.mod, .mode, .core, .clk, .diag, .mmu, .arbE, .arbD, .perf, .rte, .acc, .img, .ixl, .sheets, .net, .fch, .sup, .host, .rcd, .plink]
  | .graphSolverComplete .. =>
    [.perf, .rte, .ixl]
  | .outputAccord .. =>
    [.mod, .mode, .core, .clk, .diag, .mmu, .arbE, .arbD, .rte, .acc, .img, .ixl, .sheets, .net, .fch, .sup, .host, .rcd, .plink]
  | .applyStrobe .. =>
    [.core, .diag, .acc, .ixl, .sheets, .net, .fch, .host, .rcd]
  | .dataAgeExceeded .. =>
    [.ixl, .net]
  | .taskRelease .. | .eventLatch | .sheetPrepareComplete | .sheetPrepare .. =>
    [.diag, .sheets, .host, .rcd]
  | .dispatchPoint | .runComplete .. =>
    [.perf, .sheets]
  | .sheetSwitch =>
    [.core, .diag, .mmu, .arbE, .arbD, .img, .sheets, .host, .rcd, .plink]
  | .sheetPrepareTimeout =>
    [.diag, .img, .sheets, .host, .rcd]
  | .retainedStateWrite =>
    [.sheets]
  | .partnerLate .. | .accessClosureHoldEnd .. | .channelLossEnd .. | .grantWindow .. | .probeReply .. | .rangingWindowEnd ..
  | .beaconSend | .collisionBackoffExpired | .networkSilence | .networkTimePersist =>
    [.net]
  | .frameReceived .. | .claimReceived .. | .partnerListenTimeout =>
    [.diag, .acc, .net, .host, .rcd, .plink]
  | .pairingDeadline .. =>
    [.acc, .net]
  | .membershipLost .. | .grantReleased .. | .bankSwitch | .coldstartCollision .. | .netPortControl .. | .netLatecomerPolicy .. =>
    [.diag, .net, .host, .rcd]
  | .bankCrcExchange .. | .netBankWrite .. | .netBankSwitch .. | .controlRetransmit | .partnerLinkDown =>
    [.diag, .net, .host, .rcd, .plink]
  | .coldstartRoundsComplete =>
    [.mod, .diag, .net, .host, .rcd]
  | .coldstartAbandoned .. | .takeoverLost .. =>
    [.mod, .diag, .net, .fch, .sup, .host, .rcd, .plink]
  | .dynamicFrame .. | .discrepancyTimeExpired .. | .discrepancyCleared .. | .voterTest .. | .channelOverload ..
  | .groupOverload .. | .moduleOverload .. | .overloadReenable .. | .switchOvertemperature .. | .vrdToken .. | .vrdTokenTimeout
  | .ioForceEnd .. | .ioTestConfig .. | .ioForce .. =>
    [.diag, .fch, .host, .rcd]
  | .vfldLost .. | .vfldRestored .. | .testResult .. =>
    [.core, .diag, .fch, .host, .rcd]
  | .switchTest .. | .onTestAbort .. | .testRevert .. | .silentTimeout .. | .minorityReportExpired .. | .comparatorSample .. =>
    [.fch]
  | .voteWithdraw .. =>
    [.acc, .net, .fch]
  | .supervisorPass .. =>
    [.diag, .sup, .host, .rcd]
  | .stopStrobe .. =>
    [.diag, .fch, .sup, .host, .rcd]
  | .ethernetFrame .. | .arpRequest .. | .icmpEcho .. | .q5ConfirmTimeout .. | .challengeExpired .. =>
    [.host]
  | .linkUp .. | .linkDown .. | .sequencePersist | .recordCopyTimeout | .recordClose .. | .freezeTimeout =>
    [.host, .rcd]
  | .sessionExpired .. | .recClearStep1 .. | .recClearStep2 .. | .sessionClose .. | .sealFuseStep1 .. | .withheldClear ..
  | .redSwitchoverStep1 .. =>
    [.diag, .ixl, .host, .rcd]
  | .routeSet .. | .routeCancel .. | .routeEmergencyReleaseStep1 .. | .routeEmergencyReleaseStep2 .. | .routeAuto ..
  | .pointMove .. | .pointBlock .. | .signalReplace .. | .sectionBlock .. | .sectionRestoreStep1 .. | .sectionRestoreStep2 ..
  | .keyRelease .. | .lxCommand .. | .appMsgSend .. | .boundaryFrame .. =>
    [.diag, .ixl, .sheets, .host, .rcd]
  | .routeQuery .. | .elementQuery .. | .statusModule .. | .subscribe .. | .unsubscribe .. | .statusSnapshotCopy ..
  | .statusSnapshotRead .. | .recRead .. | .recFreeze .. | .recThaw .. | .silRead .. | .silMark .. | .imgQuery ..
  | .timeCorrelate .. | .timeQuery .. | .sessionChallenge .. | .sessionOpen .. | .selftestQuery .. | .regRead .. | .perfConfig ..
  | .perfRead .. | .perfSamples .. | .netStatus .. | .redStatus .. | .ioStatus .. | .dbgStatus .. | .ringDrain =>
    [.diag, .host, .rcd]
  | .imgBegin .. | .imgBlock .. | .imgVerify .. | .imgVerifyComplete | .activationTimeReached =>
    [.diag, .img, .host, .rcd]
  | .imgSchedule .. =>
    [.diag, .img, .ixl, .host, .rcd, .plink]
  | .imgAbort .. =>
    [.diag, .img, .ixl, .sheets, .host, .rcd]
  | .sheetCommit .. =>
    [.diag, .img, .sheets, .host, .rcd, .plink]
  | .modeRequestSafe .. | .modeRequestRestart .. | .modeRequestDormant .. | .modeRequestReplay .. =>
    [.mod, .diag, .host, .rcd]
  | .sealFuseBlow .. | .sealFuseProgramSlot .. | .sealFuseRevokeSlot .. | .activationJudgement | .postponementExpired =>
    [.diag, .img, .ixl, .host, .rcd]
  | .redSwitchoverStep2 .. =>
    [.diag, .ixl, .host, .rcd, .plink]
  | .redLaneResync .. =>
    [.core, .clk, .diag, .arbE, .arbD, .host, .rcd]
  | .redTenderEnable .. =>
    [.diag, .host, .rcd, .plink]
  | .tenderEnableTimeout =>
    [.host, .plink]
  | .resyncImageReload .. =>
    [.mod, .core, .diag, .mmu, .arbE, .arbD, .host, .rcd, .plink]
  | .resyncSelftestComplete .. =>
    [.core, .diag, .mmu, .arbE, .arbD, .host, .rcd]
  | .resyncCopyArmed .. =>
    [.freeCtr, .core, .mmu, .plink]
  | .copyBeforeWrite .. =>
    [.mmu]
  | .resyncCopyComplete .. =>
    [.core, .pwr, .diag, .mmu, .memory, .arbE, .arbD, .ixl, .sheets, .sup, .host, .rcd, .plink]
  | .resyncCopyFailed .. | .catchUpTimeout .. | .resyncTimeout .. =>
    [.core, .diag, .mmu, .arbE, .arbD, .host, .rcd, .plink]
  | .catchUpComplete .. =>
    [.freeCtr, .mod, .mode, .core, .diag, .mmu, .arbE, .arbD, .rte, .acc, .ixl, .sheets, .net, .sup, .host, .rcd, .plink]
  | .probationComplete .. =>
    [.mod, .core, .diag, .host, .rcd, .plink]
  | .powerRecovery .. =>
    [.core, .clk, .pwr, .diag, .arbE, .arbD, .host, .rcd]
  | .partnerMessage .. =>
    [.mod, .diag, .acc, .img, .sheets, .net, .host, .rcd, .plink]
  | .partnerLinkUp .. =>
    [.mod, .core, .diag, .net, .host, .rcd, .plink]
  | .takeoverJudgement .. =>
    [.mod, .diag, .net, .host, .rcd, .plink]
  | .holdingTimeout =>
    [.mod, .diag, .host, .rcd, .plink]
  | .housekeeperHeartbeatMissing =>
    [.mod, .diag, .rcd]
  | .keyframeDue =>
    [.freeCtr, .diag, .mmu, .host, .rcd]
  | .operatingTimePersist =>
    [.rcd]
  | .activationArmed .. =>
    [.diag, .img, .plink]
  | .imageSwitch =>
    [.core, .diag, .mmu, .arbE, .arbD, .img, .ixl, .sheets, .host, .rcd, .plink]
  | .eccUncorrectable .. | .scrubRead .. | .arbiterDecision .. =>
    [.freeCtr, .mod, .mode, .core, .clk, .diag, .mmu, .arbE, .arbD, .perf, .acc, .img, .ixl, .sheets, .net, .fch, .sup, .host, .rcd,
      .plink]
  | .eccCorrected .. =>
    [.core, .diag, .mmu, .perf, .host, .rcd]
  | .translationFault .. =>
    [.diag, .mmu, .ixl, .sheets, .host, .rcd]
  | .tlbParityError .. | .guardFault .. =>
    [.core, .diag, .mmu, .host, .rcd]
  | .dmaDescriptorComplete .. | .dmaSuspended .. =>
    [.freeCtr, .mmu, .memory, .dma, .cvu, .perf]
  | .dmaFault .. =>
    [.freeCtr, .core, .diag, .mmu, .memory, .dma, .cvu, .perf, .acc, .img, .net, .host, .rcd, .plink]
  | .perfSample .. | .bandwidthWindow .. =>
    [.perf]
  | .hubSlotDataWrite .. | .hubSwitchRoundWrite .. | .hubSwitchCrcWrite .. =>
    [.freeCtr, .core, .net]
  | .hubSwitchCancel .. =>
    [.freeCtr, .core, .diag, .net, .host, .rcd]
  | .arbCommit .. =>
    [.freeCtr, .core, .diag, .arbE, .arbD, .host, .rcd]
  | .cvuLoad .. | .cvuSeedNow .. | .cvuFeed .. | .cvuValueWrite .. =>
    [.freeCtr, .core, .diag, .cvu, .host, .rcd]
  | .dmaEnable .. | .dmaResume .. | .dmaTailWrite .. =>
    [.freeCtr, .core, .dma, .cvu]
  | .dmaSuspend .. =>
    [.freeCtr, .core, .dma]
  | .dmaAbort .. =>
    [.freeCtr, .core, .mmu, .memory, .dma, .cvu]
  | .mmuRootWrite .. | .mmuInval .. =>
    [.freeCtr, .core, .mmu]
  | .clkXreset .. =>
    [.freeCtr, .core, .clk]
  | .clkGateWrite .. =>
    [.freeCtr, .core, .clk, .diag, .host, .rcd]
  | .registerWrite .. =>
    [.freeCtr, .core, .clk, .pwr, .diag, .mmu, .memory, .dma, .arbE, .arbD, .cvu, .perf, .rte, .net, .fch, .sup, .host, .rcd]
  | .dbgRead .. =>
    [.freeCtr, .mod, .mode, .core, .clk, .tbs, .diag, .mmu, .arbE, .arbD, .perf, .acc, .img, .ixl, .sheets, .net, .fch, .sup, .host,
      .rcd, .plink, .tap]
  | .dbgWrite .. =>
    [.mod, .core, .clk, .pwr, .diag, .mmu, .memory, .dma, .arbE, .arbD, .cvu, .perf, .rte, .net, .fch, .sup, .host, .rcd, .tap]
  | .dbgHalt .. | .dbgResume .. | .dbgAttach =>
    [.mod, .diag, .host, .rcd, .tap]
  | .dbgStep .. =>
    [.mod, .perf, .tap]
  | .silBegin | .silWrite .. | .silEnd =>
    [.rcd, .tap]
  | .dbgDetach =>
    [.mod, .tap]
  | .fuseOperationComplete .. =>
    [.mod, .seals, .diag, .img, .ixl, .host, .rcd]

/-! ### Memory -/

/-- Every lane's memory, and the essence that a running copy brings it, has its canonical form, and the latter lies in essence
(R438, R358). -/
def MemoryCanonical (s : State) : Prop :=
  ∀ l, (s.lane l).mmu.wf = true ∧ Memory.wf (s.lane l).mmu.incoming = true ∧
    (s.lane l).mmu.incoming.all (fun p => inEssence p.1) = true

/-- A DMA write of some bytes at a virtual address stores to a physical one. -/
def LaneS.storesAt (x : LaneS) (va n a : Nat) : Prop := ∃ i, i < n ∧ x.mmu.translate 5 (va + i) .write = .ok a

/-! ### Modes -/

/-- The rows of R19's table between different modes, with RESET from OFF at VIN applied. -/
def Mode.mayBecome (m n : Mode) : Bool :=
  match n with
  | .off => true
  | .reset => true
  | .boot => m = .reset
  | .recovery => m = .boot
  | .selftest => m = .boot
  | .loaded => m = .selftest
  | .integrate => m = .loaded || m = .dormant
  | .operate => m = .integrate
  | .safe => m = .selftest || m = .integrate || m = .operate || m = .dormant
  | .dormant => m = .loaded || m = .safe || m = .operate
  | .replay => m = .loaded

/-! ### Check values -/

/-- A parameter set of R8. -/
structure CrcParams where
  width  : Nat
  poly   : Nat
  init   : Nat
  refl   : Bool
  xorOut : Nat

/-- The four rows of R8's table, with the names' check values over "123456789". -/
def Poly.params : Poly → CrcParams
  | .crc16 => ⟨16, 0x1021, 0xFFFF, false, 0⟩
  | .crc32 => ⟨32, 0x04C11DB7, 0xFFFFFFFF, true, 0xFFFFFFFF⟩
  | .crc32c => ⟨32, 0x1EDC6F41, 0xFFFFFFFF, true, 0xFFFFFFFF⟩
  | .crc64 => ⟨64, 0x42F0E1EBA9EA3693, 0, false, 0⟩

/-- One message bit: the register is doubled, and the polynomial subtracted where the bit shifted out differs from the message's. -/
def CrcParams.bit (p : CrcParams) (r : Nat) (b : Bool) : Nat :=
  let up := 2 * r % 2 ^ p.width
  if r.testBit (p.width - 1) != b then up ^^^ p.poly else up

/-- The bits of a message in the order in which a parameter set takes them. -/
def CrcParams.bits (p : CrcParams) (bs : List Byte) : List Bool :=
  bs.flatMap fun b => (List.range 8).map fun i => b.getLsbD (if p.refl then i else 7 - i)

/-- A register read from its other end. -/
def mirror (w r : Nat) : Nat := (List.range w).foldl (fun n i => 2 * n + b2n (r.testBit i)) 0

/-- The check value that a parameter set gives a message. -/
def CrcParams.check (p : CrcParams) (bs : List Byte) : Nat :=
  let r := (p.bits bs).foldl p.bit p.init
  (if p.refl then mirror p.width r else r) ^^^ p.xorOut

end Sys2Proof.Machine
end

