-- ==== Sys2Proof/Certificates/Slice0/Obligations.lean ====
section
/-!
DEFINITION. The statements: what each command does where it completes, what no command may change, the invariants that every step keeps,
and the encodings that the spec fixes. A clause about a host command speaks of one that stands alone and has passed the arrival checks.
-/

open Sys2Proof Sys2Proof.Machine

/-- For every command c and state s, a step of s with c in front of its queue is exec of c on s with the queue's rest; on an empty queue
a step leaves the state as it is (the model's choice, log entry 6).
(98_reader.md) -/
def Obligations.StepRunsFront : Prop :=
  (∀ (c : Instr) q (s : State), step (s.withPending (c :: q)) = exec c (s.withPending q)) ∧
  (∀ s, s.pending = [] → step s = .next s)

/-- At reset the module is OFF with an empty queue, every lane in HOLD with nothing listed in its memory and no translating master
enabled, no route set, no session open, no record in the store, the TAP at IDCODE, and LAST of every source and queue is taken as 10
000. The empty queue, the memory's contents and the empty store are the model's (log entries 2, 3 and 6).
(R19, R304, R447, R509) -/
def Obligations.ResetState : Prop :=
  State.reset.mod.mode = .off ∧ State.reset.pending = [] ∧
    (∀ l, State.reset.laneSt l = .hold ∧ (State.reset.lane l).mmu.bytes = [] ∧ (State.reset.lane l).mmu.masters = []) ∧
    State.reset.ixl.resolved.routes = [] ∧ State.reset.host.sessions = [] ∧ State.reset.rcd.store = [] ∧ State.reset.tap.ir = 1 ∧
    ∀ a, State.reset.lastOf a = 10000

/-- At reset every lane's memory, and what a copy would bring it, has its canonical form: addresses strictly rising and no zero byte
listed.
(R438) -/
def Obligations.MemoryCanonicalAtReset : Prop :=
  MemoryCanonical State.reset

/-- For every command and every state exec answers a next state, never a fault or a refusal, and the queue of waiting commands is
unchanged.
(98_reader.md) -/
def Obligations.EveryCommandCompletes : Prop :=
  ∀ (c : Instr) s, Runs c s fun t => t.pending = s.pending

/-- From every state, reached or not, in which each lane's memory and the essence a copy brings it are canonical and the latter lies in
essence, a step that answers a next state answers one with the same property.
(R358, R438, R440, R449) -/
def Obligations.MemoryStaysCanonical : Prop :=
  ∀ s t, MemoryCanonical s → step s = .next t → MemoryCanonical t

/-- For every state and every command, the mode after a step is the mode before it or one that the table of R19 lets follow it; so SAFE
is left only to RESET, DORMANT or OFF, and OPERATE is reached only from INTEGRATE.
(R19, R22) -/
def Obligations.ModeTransitions : Prop :=
  (∀ s t, step s = .next t → t.mod.mode = s.mod.mode ∨ s.mod.mode.mayBecome t.mod.mode = true) ∧
  (∀ s t, step s = .next t → s.mod.mode = .safe → t.mod.mode ∈ [.safe, .reset, .dormant, .off]) ∧
  (∀ s t, step s = .next t → t.mod.mode = .operate → s.mod.mode = .operate ∨ s.mod.mode = .integrate)

/-- No step clears the seals; on a sealed DXL-3064-T a debug attach, halt, release, read or write changes no lane and no mode, and the
TAP's instruction does not become DBG.
(R509, R510, R511) -/
def Obligations.SealsStayBlown : Prop :=
  (∀ s t, step s = .next t → s.mod.sealed = true → t.mod.sealed = true) ∧
  (∀ c s, s.sealedT = true → c ∈ [Instr.dbgAttach, .dbgDetach, .dbgHalt .a, .dbgHalt .b, .dbgHalt .c, .dbgResume .a, .dbgResume .b, .dbgResume .c] →
     Runs c s fun t => t = s) ∧
  (∀ l (a : BitVec 36) (v : Word) s, s.sealedT = true → exec (.dbgRead l a) s = .next s ∧ exec (.dbgWrite l a v) s = .next s) ∧
  (∀ s, s.sealedT = true → s.tap.ir ≠ 0x08 → Runs .dbgInstruction s fun t => t.tap.ir ≠ 0x08)

/-- Of each lane's registers and memory - core, clocks, power, time base, diagnosis, memory and MMU, every byte of memory, DMA channels,
both arbiters, check-value units and performance counters - a command that the table of changes does not name for a part leaves that
part as it was in all three lanes.
(R63, R377, R438, R449, R461, R472, R477, R488, R497, R219) -/
def Obligations.LaneFrames : Prop :=
  ∀ (c : Instr) (s t : State) (p : Part), exec c s = .next t → p ∈ [Part.core, .clk, .pwr, .tbs, .diag, .mmu, .memory, .dma, .arbE, .arbD, .cvu, .perf, .rte] → p ∉ mayChange c →
    p.same t s

/-- Of the module's mode and registers, the seals, the accord, the images, the interlocking state and the logic sheets, a command that
the table of changes does not name for a part leaves that part as it was.
(R17, R25, R43, R67, R156, R421, R511) -/
def Obligations.ModuleFrames : Prop :=
  ∀ (c : Instr) (s t : State) (p : Part), exec c s = .next t → p ∈ [Part.mod, .mode, .seals, .acc, .img, .ixl, .sheets] → p ∉ mayChange c → p.same t s

/-- Of the network, the field channels, the supervisors, the host ports, the recorder, the partner link, the TAP and the model's counter
of free values, a command that the table of changes does not name for a part leaves that part as it was.
(R213, R257, R272, R275, R304, R364, R386, R509) -/
def Obligations.PortFrames : Prop :=
  ∀ (c : Instr) (s t : State) (p : Part), exec c s = .next t → p ∈ [Part.freeCtr, .net, .fch, .sup, .host, .rcd, .plink, .tap] → p ∉ mayChange c → p.same t s

/-- In a canonical memory a written byte reads back as written, a byte at any other address reads as before, the memory stays canonical,
and two canonical memories that read alike at every address are equal.
(R438, R444) -/
def Obligations.MemoryReadAfterWrite : Prop :=
  (∀ (m : MmuS) a b, m.wf = true → (m.write [(a, b)]).byte a = b ∧ (m.write [(a, b)]).wf = true) ∧
  (∀ (m : MmuS) ws a, m.wf = true → (∀ p ∈ ws, p.1 ≠ a) → (m.write ws).byte a = m.byte a ∧ (m.write ws).wf = true) ∧
  (∀ (m n : MmuS), m.wf = true → n.wf = true → (∀ a, m.byte a = n.byte a) → m.bytes = n.bytes)

/-- When a descriptor completes, every byte of that lane's memory to which neither the destination's remaining bytes nor the OWN and
STATUS bytes of the descriptor translate reads as before; a transfer that is suspended or faults stores only to its destination; the
other lanes' memory is unchanged.
(R449, R450, R453, R455) -/
def Obligations.DmaMemoryFrame : Prop :=
  (∀ l (c : Fin 8) d u a s, (s.lane l).mmu.wf = true → s.mod.mode.lanesRun = true → ((s.lane l).chan c).st = .running →
     ((s.lane l).chan c).waiting = false → ((s.lane l).chan c).cur = some d → d.good = true → s.dmaMove l c d.length = some u →
     (d.kind = 2 ∨ ¬ (s.lane l).storesAt (d.dst.toNat + ((s.lane l).chan c).moved) (d.length - ((s.lane l).chan c).moved) a) →
     ¬ (u.lane l).storesAt (((s.lane l).chan c).slotVa ((s.lane l).chan c).head) 1 a →
     (∀ b, ¬ (((u.lane l).dmaWrite (((s.lane l).chan c).slotVa ((s.lane l).chan c).head) [b]).getD (u.lane l)).storesAt
       (((s.lane l).chan c).slotVa ((s.lane l).chan c).head + 24) 4 a) →
     Runs (.dmaDescriptorComplete l c) s fun t => (t.lane l).mmu.byte a = (s.lane l).mmu.byte a ∧ ∀ m, m ≠ l → (t.lane m).mmu = (s.lane m).mmu) ∧
  (∀ l (c : Fin 8) n d a s, (s.lane l).mmu.wf = true → s.mod.mode.lanesRun = true → ((s.lane l).chan c).st = .suspending →
     ((s.lane l).chan c).cur = some d →
     (d.kind = 2 ∨ ¬ (s.lane l).storesAt (d.dst.toNat + ((s.lane l).chan c).moved) (n - ((s.lane l).chan c).moved) a) →
     Runs (.dmaSuspended l c n) s fun t => (t.lane l).mmu.byte a = (s.lane l).mmu.byte a ∧ ∀ m, m ≠ l → (t.lane m).mmu = (s.lane m).mmu) ∧
  (∀ l (c : Fin 8) k (va : Word) n w d a s, (s.lane l).mmu.wf = true → s.mod.mode.lanesRun = true → ((s.lane l).chan c).st = .running →
     ((s.lane l).chan c).cur = some d →
     (d.kind = 2 ∨ ¬ (s.lane l).storesAt (d.dst.toNat + ((s.lane l).chan c).moved) (n - ((s.lane l).chan c).moved) a) →
     Runs (.dmaFault l c k va n w) s fun t => (t.lane l).mmu.byte a = (s.lane l).mmu.byte a ∧ ∀ m, m ≠ l → (t.lane m).mmu = (s.lane m).mmu)

/-- For every message each of the four check values is the one that its row of the table - width, polynomial, Init, reflection and
XorOut - gives by long division, and over the nine ASCII bytes 123456789 it is the row's check value.
(R8) -/
def Obligations.CheckValues : Prop :=
  (∀ (p : Poly) (bs : List Byte), (Poly.check p bs).toNat = p.params.check bs) ∧
  (Poly.check .crc16 [0x31, 0x32, 0x33, 0x34, 0x35, 0x36, 0x37, 0x38, 0x39] = 0x29B1 ∧
     Poly.check .crc32 [0x31, 0x32, 0x33, 0x34, 0x35, 0x36, 0x37, 0x38, 0x39] = 0xCBF43926 ∧
     Poly.check .crc32c [0x31, 0x32, 0x33, 0x34, 0x35, 0x36, 0x37, 0x38, 0x39] = 0xE3069283 ∧
     Poly.check .crc64 [0x31, 0x32, 0x33, 0x34, 0x35, 0x36, 0x37, 0x38, 0x39] = 0x6C40DF5F0B497347)

/-- For every route whose count of released sections is one the table allows, each field of the route word stands at its bits with its
value, and the reserved bits are 0.
(R138) -/
def Obligations.RouteWordLayout : Prop :=
  (∀ (r : RouteSt), r.released ≤ 96 → r.word % 16 = r.st.code ∧ r.word / 16 % 128 = r.released ∧ r.word.testBit 11 = r.engaged ∧
     r.word.testBit 12 = r.signalled ∧ r.word.testBit 13 = r.auto ∧ r.word.testBit 14 = r.withheld ∧ r.word.testBit 15 = r.kOcc ∧
     r.word.testBit 16 = r.nextSeen ∧ r.word.testBit 17 = r.ovOcc ∧ r.word.testBit 18 = r.firstClear ∧ r.word.testBit 19 = r.halted ∧
     r.word < 2 ^ 20) ∧
  (RSt.code .idle = 0 ∧ RSt.code .requested = 1 ∧ RSt.code .setting = 2 ∧ RSt.code .locked = 3 ∧ RSt.code .proved = 4 ∧ RSt.code .cleared = 5 ∧
     RSt.code .inUse = 6 ∧ RSt.code .releasing = 7 ∧ RSt.code .apprLocked = 8 ∧ RSt.code .emerg = 9)

/-- With v values of which, sorted, the lowest and the highest are discarded - two each with v of 7 or more, one each with v from 3 to
6, none with v = 2 - the correction is the sum of the kept divided by their number, truncated toward zero; with v = 1 it is 0 and
the round does not count as synchronised.
(R217) -/
def Obligations.OffsetCorrection : Prop :=
  (∀ (vals lo kept hi : List Int), vals.Perm (lo ++ kept ++ hi) → 2 ≤ vals.length →
     lo.length = (if 7 ≤ vals.length then 2 else if 3 ≤ vals.length then 1 else 0) → hi.length = lo.length →
     (∀ x ∈ lo, ∀ y ∈ kept, x ≤ y) → (∀ x ∈ kept, ∀ y ∈ hi, x ≤ y) → correction vals = Int.tdiv kept.sum kept.length) ∧
  (∀ (x : Int) (u : TbsS), correction [x] = 0 ∧ (u.correct 1 (correction [x])).synced = false)

/-- With the housekeeper present and no freeze, a record with an open record's type, payload and lane flags raises that record's REPEAT
by 1, sets INTERLEAVED where a later record has been written since, changes none of its times, and closes it at 0xFFFF; with no such
open record a new one is written at the next index with REPEAT 0.
(R391) -/
def Obligations.RecordRepeat : Prop :=
  (∀ ty body (ln : Option Lane) hk o (s : State), s.mod.hkLost = false → s.rcd.freeze = none →
     (s.rcd.opened.find? fun o => s.rcd.store.any fun r => decide (r.index = o.index) && sameRecord r ty body ln) = some o →
     (s.writeRecord ty body ln hk).rcd.store = (s.rcd.store.map fun r => if r.index = o.index then
       { r with rep := r.rep + 1, interleaved := r.interleaved || o.laterSinceRepeat } else r) ∧
     (s.writeRecord ty body ln hk).rcd.writeIndex = s.rcd.writeIndex ∧
     ((∃ r ∈ s.rcd.store, r.index = o.index ∧ r.rep + 1 = 0xFFFF) →
       ∀ p ∈ (s.writeRecord ty body ln hk).rcd.opened, p.index ≠ o.index)) ∧
  (∀ ty body (ln : Option Lane) hk (s : State), s.mod.hkLost = false → s.rcd.freeze = none → body.length ≤ 976 →
     (s.rcd.opened.find? fun o => s.rcd.store.any fun r => decide (r.index = o.index) && sameRecord r ty body ln) = none →
     (s.writeRecord ty body ln hk).rcd.writeIndex = s.rcd.writeIndex + 1 ∧
     ∃ r ∈ (s.writeRecord ty body ln hk).rcd.store, r.index = s.rcd.writeIndex ∧ r.type = ty ∧ r.payload = body ∧ r.lane = ln ∧ r.rep = 0 ∧
       r.opTime = s.rcd.opTime)

/-- The mode word holds the mode's code in bits 0 to 3, DEGRADED in bit 4 exactly in OPERATE with two voting lanes, LAB in bit 5, and in
bits 6 and 7 the role from INTEGRATE on and 0 in every mode before it.
(R17, R539) -/
def Obligations.ModeWordLayout : Prop :=
  (∀ (s : State), s.modeWord % 16 = s.mod.mode.code ∧ s.modeWord.testBit 4 = (decide (s.mod.mode = .operate) && decide (LaneSet.count s.votingLanes = 2)) ∧
     s.modeWord.testBit 5 = s.mod.lab ∧ s.modeWord < 256 ∧
     (s.mod.mode = .integrate ∨ s.mod.mode = .operate → s.modeWord / 64 = s.mod.role.code) ∧
     (s.mod.mode = .boot ∨ s.mod.mode = .selftest ∨ s.mod.mode = .loaded → s.modeWord / 64 = 0)) ∧
  (Mode.code .off = 0 ∧ Mode.code .reset = 1 ∧ Mode.code .boot = 2 ∧ Mode.code .selftest = 3 ∧ Mode.code .loaded = 4 ∧ Mode.code .integrate = 5 ∧
     Mode.code .operate = 6 ∧ Mode.code .safe = 7 ∧ Mode.code .dormant = 8 ∧ Mode.code .recovery = 9 ∧ Mode.code .replay = 10 ∧
     PairRole.code .solo = 0 ∧ PairRole.code .lead = 1 ∧ PairRole.code .tender = 2)

/-- The uplink frame of the network chapter's example carries its header and its safety code; the example packet's header and parameters
read as its fields and parse as an emergency release's first step; the example's deviations give the correction 11; a block followed
by its CRC gives the constant residue.
(R192, R217, R301, R350, R475) -/
def Obligations.WorkedExamples : Prop :=
  (safetyCode 0x13C 0x3C3 0x0071A2C4 none [0x02, 0x00] = 0x22D471E5) ∧
  (∀ (a : Arrival), a.bytes = [0x02, 0x01, 0x03, 0x01, 0x40, 0x2B, 0x00, 0x00, 0x08, 0x00, 0x00, 0x00, 0x20, 0x1C, 0x3F, 0x0A,
       0xF4, 0x01, 0x00, 0x01, 0x00, 0x00, 0x00, 0x00] →
     a.opcode = 0x0103 ∧ a.queue = 1 ∧ a.seq = 0x2B40 ∧ a.hostTime = 0x0A3F1C20 ∧ a.params = [0xF4, 0x01, 0x00, 0x01, 0, 0, 0, 0] ∧
     a.mac = false ∧ opcodeQueue a.opcode = a.queue ∧ plenOk a.opcode a.params = true) ∧
  (correction [-9, -4, 0, 6, 18, 22, 25, 140] = 11) ∧
  (∀ (bs : List Byte), (Poly.check .crc32c (bs ++ bytesOf 4 (crc32c bs))).toNat = 0x48674BC7)

/-- With VIN above the guard the module leaves OFF for RESET and counts a power cycle; the power-fail warning and RST_N bring any mode
but OFF to RESET with every channel open and every lane in its reset state; the hold-up's end brings OFF and keeps the records;
VIN's return ends the hold-up; the cut-off opens above 32.5 V and closes below 32.0 V.
(R19, R26, R500, R501, R502, R504) -/
def Obligations.PowerInputCommands : Prop :=
  (∀ mv s, s.mod.mode = .off → 16300 < mv → Runs (.vinApplied mv) s fun t =>
     t.mod.mode = .reset ∧ t.mod.vin = mv ∧ t.img = s.img) ∧
  (∀ mv s, s.mod.mode ≠ .off → s.mod.holdUp = false → mv < 16300 → Runs (.powerFailWarning mv) s fun t =>
     t.mod.mode = .reset ∧ t.mod.holdUp = true ∧ t.fch = .reset ∧ t.lanes = PerLane.pure .reset) ∧
  (∀ s, s.mod.mode = .reset → s.mod.holdUp = true → Runs .holdUpExhausted s fun t =>
     t.mod.mode = .off ∧ t.mod.holdUp = false ∧ t.rcd.store = s.rcd.store) ∧
  (∀ mv s, s.mod.mode = .reset → s.mod.holdUp = true → 16300 < mv → Runs (.vinRestored mv) s fun t =>
     t.mod = { s.mod with holdUp := false, vin := mv }) ∧
  (∀ mv s, s.mod.mode ≠ .off → s.mod.cutOff = false → 32500 < mv → Runs (.inputCutOff mv) s fun t =>
     t.mod = { s.mod with cutOff := true }) ∧
  (∀ mv s, s.mod.cutOff = true → mv < 32000 →
     exec (.inputCutOffClosed mv) s = .next { s with mod := { s.mod with cutOff := false, vin := mv, vinMin := min s.mod.vinMin mv } }) ∧
  (∀ s, s.mod.mode ≠ .off → Runs .rstNLow s fun t =>
     t.mod.mode = .reset ∧ t.mod.rstLow = true ∧ t.fch = .reset ∧ t.lanes = PerLane.pure .reset)

/-- The end of RESET samples the straps, locks the guard windows, commits the boot priorities of both arbiters and enters BOOT; a lane
whose oscillators, rails and N_REF are good leaves HOLD, another is FAILED; a rail outside its window is flagged in its lane; ROM
boot with RCV_N low, or with no image, enters RECOVERY; three lanes that pass every test enter LOADED, and a VRD that runs where it
must not, or not where it must, fails every lane and brings SAFE; an ACTIVE slot that holds no station flacon lets no lane pass the
image check.
(R19, R27, R354, R432, R433, R448, R470, R503, R505, R511) -/
def Obligations.StartCommands : Prop :=
  (∀ a b c s, s.mod.mode = .reset → s.mod.holdUp = false → Runs (.resetRelease a b c) s fun t =>
     t.mod.mode = .boot ∧ t.mod.pos = a.pos.toNat ∧ t.mod.sid = a.sid.toNat ∧
     ∀ l, (t.lane l).mmu.guardLocked = true ∧ (t.lane l).arbE.active = bootPriorities ∧ (t.lane l).arbD.active = bootPriorities) ∧
  (∀ l mv s, s.mod.mode ≠ .off → Runs (.railFault .vcore l mv) s fun t => (t.lane l).pwr.railFault = true) ∧
  (∀ l mv s, s.mod.mode ≠ .off → Runs (.railFault .vedge l mv) s fun t => t.mod = { s.mod with edgeRails := true }) ∧
  (∀ l nref s, s.mod.mode = .reset → s.laneSt l = .hold → s.mod.holdUp = false → 2413 ≤ nref → nref ≤ 2587 →
     Runs (.startInterlock l true true true nref) s fun t => t.laneSt l = .minority ∧ (t.lane l).clk.started = true) ∧
  (∀ l xt rc rails nref s, s.mod.mode = .reset → s.laneSt l = .hold → s.mod.holdUp = false → (xt && rc && rails) = false →
     Runs (.startInterlock l xt rc rails nref) s fun t => t.laneSt l = .failed) ∧
  (∀ ok s, s.mod.mode = .boot → s.mod.rcvLow = true → Runs (.romBootComplete ok) s fun t => t.mod.mode = .recovery) ∧
  (∀ ok s, s.mod.mode = .boot → s.img.active.st = .empty → s.img.pending.st = .empty →
     Runs (.romBootComplete ok) s fun t => t.mod.mode = .recovery ∧ t.mod.minor = 0) ∧
  (∀ tests vrd s, s.mod.mode = .selftest → s.replyingLanes = LaneSet.full → (∀ l, (PerLane.get tests l).march = true ∧ (tests.get l).fails = []) →
     vrdPassed vrd = true → s.fch.vrdRunning = false →
     Runs (.selftestComplete tests vrd) s fun t => t.mod.mode = .loaded ∧ ∀ l, (t.lane l).core.passed = true) ∧
  (∀ tests vrd s, s.mod.mode = .selftest → vrdPassed vrd = false → Runs (.selftestComplete tests vrd) s fun t =>
     t.mod.mode = .safe ∧ ∀ l, s.replyingLanes.get l = true → t.laneSt l = .failed) ∧
  (∀ loadOk reloadOk s, s.mod.mode = .loaded → s.img.checked = false → s.img.active.type ≠ 1 →
     Runs (.imageCheck loadOk reloadOk) s fun t => t.img.checked = true ∧ t.img.passed = LaneSet.none ∧ t.mod = s.mod)

/-- When readings have been exchanged for 100 ticks, ten boundaries have agreed, and all three lanes can join and heard each other, the
accord forms with all of them voting; its conditions met, LOADED becomes INTEGRATE with cycle 0; three good rounds with three voting
lanes give OPERATE at cycle 0; the end of the degraded time brings SAFE unless a healthy tender can take over, to which the lead
then hands over; sixty minutes of FULL restore it to the declared time.
(R19, R23, R25, R39, R62, R362) -/
def Obligations.AccordAndModeCommands : Prop :=
  (∀ s, s.formationDue = true → s.joinable = LaneSet.full →
     Runs (.accordFormed (PerLane.pure LaneSet.full)) s fun t =>
       (∀ l, t.laneSt l = .voting) ∧ t.acc.voting = LaneSet.full ∧ t.acc.formation.any Formation.formed = true) ∧
  (∀ views s, s.mod.mode = .loaded → s.img.checked = true → s.acc.formation = none →
     Runs (.accordFormationTimeout views) s fun t => ∀ l, s.replyingLanes.get l = true → (t.lane l).core.events = (s.lane l).core.events ||| 1) ∧
  (∀ s, s.mod.mode = .loaded → s.loadedConditions = true → Runs .loadedConditionsMet s fun t =>
     t.mod.mode = .integrate ∧ t.mod.cycle = 0 ∧ t.mod.role = (if s.mod.pos = 0 then .solo else .tender)) ∧
  (∀ s, s.mod.mode = .integrate → 3 ≤ s.acc.goodRounds → LaneSet.count s.votingLanes = 3 → Runs .integrationComplete s fun t =>
     t.mod.mode = .operate ∧ t.mod.cycle = 0) ∧
  (∀ s, s.degraded = true → (s.mod.role ≠ .lead ∨ s.tenderReady = false) → Runs .degradedTimeExpired s fun t => t.mod.mode = .safe) ∧
  (∀ s, s.degraded = true → s.mod.role = .lead → s.tenderReady = true → s.plink.switchAt = none → Runs .degradedTimeExpired s fun t =>
     t.mod.mode = .operate ∧ t.plink.switchAt = some (s.mod.cycle.toNat + 20) ∧ t.plink.safeAfter = true) ∧
  (∀ s, s.mod.mode = .operate → LaneSet.count s.votingLanes = 3 →
     exec .degradedTimeRestored s = .next { s with mod := { s.mod with degradedLeft := s.image.decl.degradedMin * 60000, fullHeld := 0 } })

/-- When the entry to DORMANT ends the gates and lanes that run go to their lowest level; WAKE_N opens the gates and either starts the
wake or, where DORMANT was not entered from a ready module, goes through RESET; 250 ms later two passing lanes give INTEGRATE and
fewer give SAFE with no wake pending; TRST_N detaches the debugger's path.
(R19, R24, R492, R507, R508, R509) -/
def Obligations.DormantCommands : Prop :=
  (∀ ms s, s.mod.mode = .dormant → s.mod.dormant.any DormantS.entering = true → Runs (.dormantEntryComplete ms) s fun t =>
     t.mod.mode = .dormant ∧ t.mod.edgeGate = 0x24 ∧ t.mod.dormant.any DormantS.entering = false ∧
     ∀ l, s.laneSt l = .voting → (t.lane l).pwr.level = 3 ∧ (t.lane l).clk.static = 3) ∧
  (∀ s d, s.mod.mode = .dormant → s.mod.waking = none → s.mod.dormant = some d → (d.fromOperate || d.condsMet) = true →
     Runs .wakeNLow s fun t => t.mod.mode = .dormant ∧ t.mod.waking = some 1 ∧ t.mod.edgeGate = 0x3F) ∧
  (∀ s d, s.mod.mode = .dormant → s.mod.waking = none → s.mod.dormant = some d → (d.fromOperate || d.condsMet) = false →
     Runs .wakeNLow s fun t => t.mod.mode = .reset) ∧
  (∀ s w d, s.mod.mode = .dormant → s.mod.waking = some w → s.mod.dormant = some d → d.voting = LaneSet.full → d.notPassing = LaneSet.none →
     s.votingLanes = LaneSet.full → Runs (.wakeComplete LaneSet.full LaneSet.full LaneSet.full) s fun t =>
       t.mod.mode = .integrate ∧ t.mod.waking = none ∧ t.mod.dormant = none) ∧
  (∀ s w d, s.mod.mode = .dormant → s.mod.waking = some w → s.mod.dormant = some d → d.notPassing = LaneSet.none →
     Runs (.wakeComplete LaneSet.none LaneSet.none LaneSet.none) s fun t => t.mod.mode = .safe ∧ t.mod.waking = none ∧ t.mod.dormant = none)

/-- An oscillator's reports set its flag; an unstable crystal, and a window outside 2 450 to 2 550, trip the monitor and take a lane to
its RC; a window inside only keeps its count; N_REF is the rounded mean; a switch completes with or without force; an RC that does
not restart is disabled, and one that does not rescue a lane in HOLD leaves it FAILED; a lane that leaves HOLD becomes MINORITY with
cause CLOCK and acquires its rate, whose mean drift becomes the base rate.
(R356, R484, R485, R486, R487, R488, R489) -/
def Obligations.OscillatorCommands : Prop :=
  (∀ l s, s.mod.mode.lanesRun = true →
     exec (.oscillatorStable l .crystal) s = .next (s.modClk l fun c => { c with xtStable := true })) ∧
  (∀ l s, s.mod.mode.cycles = true → s.laneSt l = .hold → (s.lane l).clk.started = true → (s.lane l).clk.tripped = true →
     (s.lane l).clk.rcDisabled = false → Runs (.oscillatorStable l .rc) s fun t =>
       t.laneSt l = .minority ∧ (t.lane l).core.cause = 6 ∧ (t.lane l).clk.source = .rc ∧ (t.lane l).tbs.acquiring = true) ∧
  (∀ l s, s.mod.mode.lanesRun = true → (s.lane l).clk.started = true → (s.lane l).clk.tripped = false → (s.lane l).clk.source = .crystal →
     (s.lane l).clk.rcStable = true → (s.lane l).clk.noFallback = false → Runs (.oscillatorUnstable l .crystal) s fun t =>
       (t.lane l).clk.source = .rc ∧ (t.lane l).clk.tripped = true ∧ (t.lane l).clk.xtStable = false ∧ t.laneSt l = s.laneSt l) ∧
  (∀ l s, s.mod.mode.lanesRun = true → (s.lane l).clk.started = true → (s.lane l).clk.source = .crystal → s.laneSt l ≠ .failed →
     Runs (.oscillatorUnstable l .rc) s fun t =>
       (t.lane l).clk.noFallback = true ∧ (t.lane l).clk.rcStable = false ∧ t.laneSt l = s.laneSt l) ∧
  (∀ l n s, s.mod.mode ≠ .off → 2450 ≤ n → n ≤ 2550 → exec (.monitorWindow l n) s = .next (s.modClk l fun c => { c with lastC := n })) ∧
  (∀ l n s, s.mod.mode ≠ .off → n < 2450 ∨ 2550 < n → (s.lane l).clk.started = true → (s.lane l).clk.source = .crystal →
     (s.lane l).clk.rcStable = true → (s.lane l).clk.noFallback = false → (s.lane l).clk.tripped = false →
     Runs (.monitorWindow l n) s fun t => (t.lane l).clk.tripped = true ∧ (t.lane l).clk.source = .rc) ∧
  (∀ l e s, (s.lane l).clk.started = true → (s.lane l).clk.tripped = false →
     exec (.nrefUpdate l e) s = .next (s.modClk l fun c => { c with nref := min 0xFFFF ((e + 5000) / 10000) })) ∧
  (∀ l h s, (s.lane l).clk.switching = true → Runs (.sourceSwitchComplete (some l) h) s fun t =>
     (t.lane l).clk.switching = false ∧ (t.lane l).clk.forced = ((s.lane l).clk.forced || !h)) ∧
  (∀ l s, (s.lane l).clk.rcRestarting = true → (s.lane l).clk.rcStable = false → s.laneSt l ≠ .hold →
     exec (.rcRestartTimeout l) s = .next (s.modClk l fun c => { c with rcRestarting := false, rcDisabled := true })) ∧
  (∀ l s, s.laneSt l = .hold → (s.lane l).clk.started = true → (s.lane l).clk.tripped = true → (s.lane l).clk.rcStable = false →
     Runs (.holdTimeout l) s fun t => t.laneSt l = .failed ∧ (t.lane l).core.cause = 6) ∧
  (∀ l (d : List Int) s, (s.lane l).tbs.acquiring = true → d.length = 8 → exec (.rateAcquisitionComplete l d) s =
     .next (s.modTbs l fun t => { t with acquiring := false, baseDrift := Int.tdiv (d.foldl (· + ·) 0) 8, baseNref := 2500 }))

/-- A stalled access counts, keeps its crossing and takes a voting lane out of a vote of three with cause STALL; a slow canary begins a
step up and a fast one a step down of one level; a completed step changes the level; a step up without rail good keeps the level and
takes the lane out with cause POWER; the gate register gates DRAM and IOS as written and never TB under the tree; a crossing reset
is refused for a running pair and done for a gated one; a register write of a lane whose bogie's compare buffer is full waits.
(R59, R60, R352, R356, R491, R494, R495, R498, R499) -/
def Obligations.SpeedAndStallCommands : Prop :=
  (∀ l (x : Fin 8) a s, s.mod.mode = .operate → s.votingLanes = LaneSet.full → Runs (.stallWatchdog l x a) s fun t =>
     t.laneSt l = .minority ∧ (t.lane l).core.cause = 3 ∧ (t.lane l).clk.stallCross = x.val ∧
     (t.lane l).clk.stallCount = satAdd 0xFFFF (s.lane l).clk.stallCount 1) ∧
  (∀ l v s, s.mod.mode.governed = true → s.laneSt l = .voting → 0 < (s.lane l).pwr.level → (s.lane l).pwr.stepTo = none →
     (s.lane l).pwr.stepped = false → s.mayStep l = true → sat16 v * 100 < s.required * 125 → Runs (.canaryReading l v) s fun t =>
       (t.lane l).pwr.canary = sat16 v ∧ (t.lane l).pwr.stepTo = some ((s.lane l).pwr.level - 1, 0) ∧ (t.lane l).pwr.level = (s.lane l).pwr.level) ∧
  (∀ l v s, s.mod.mode = .operate → s.votingLanes = LaneSet.full → (s.lane l).pwr.level = 0 → sat16 v < s.required →
     Runs (.canaryReading l v) s fun t => t.laneSt l = .minority ∧ (t.lane l).core.cause = 8) ∧
  (∀ l s, s.mod.mode.governed = true → (s.lane l).pwr.level + 1 ≤ (s.lane l).pwr.minLevel → (s.lane l).pwr.level ≤ 1 →
     s.required * 150 ≤ (s.lane l).speedAtLevel ((s.lane l).pwr.level + 1) * 100 → (s.lane l).pwr.stepTo = none → (s.lane l).pwr.stepped = false → s.mayStep l = true →
     exec (.governorStepDown l) s = .next (s.modPwr l fun p => { p with stepTo := some ((s.lane l).pwr.level + 1, 1), stepped := true })) ∧
  (∀ l n r s, (s.lane l).pwr.stepTo = some (n, r) → Runs (.levelStepComplete l) s fun t =>
     (t.lane l).pwr.level = n ∧ (t.lane l).pwr.stepTo = none) ∧
  (∀ l n r s, s.mod.mode = .operate → s.votingLanes = LaneSet.full → (s.lane l).pwr.stepTo = some (n, r) → n < (s.lane l).pwr.level →
     Runs (.railGoodTimeout l) s fun t =>
       t.laneSt l = .minority ∧ (t.lane l).core.cause = 8 ∧ (t.lane l).pwr.level = (s.lane l).pwr.level ∧ (t.lane l).pwr.stepTo = none) ∧
  (∀ l (v : Word) s, RegisterRoom s l → (s.lane l).clk.static = 0 → v.getLsbD 0 = true → Runs (.clkGateWrite l v) s fun t =>
     (t.lane l).clk.gateTb = true ∧ (t.lane l).clk.gateDram = v.getLsbD 1 ∧ (t.lane l).clk.gateIos = v.getLsbD 2) ∧
  (∀ l (v : Word) s, RegisterRoom s l → (s.lane l).clk.static = 0 → v.getLsbD 0 = false → Runs (.clkGateWrite l v) s fun t =>
     (t.lane l).clk.gateRefused = true ∧ (t.lane l).clk.gateTb = (s.lane l).clk.gateTb) ∧
  (∀ l s, RegisterRoom s l → (s.lane l).clk.static ≠ 0 → Runs (.clkXreset l 1) s fun t =>
     (t.lane l).clk = { (s.lane l).clk with ackPhase := (s.lane l).clk.ackPhase &&& 0xFE }) ∧
  (∀ l s, RegisterRoom s l → (s.lane l).clk.static = 0 → (s.lane l).clk.gateDram = true → Runs (.clkXreset l 2) s fun t =>
     (t.lane l).clk = { (s.lane l).clk with gateRefused := true }) ∧
  (∀ l (v : Word) s, s.regsRun l = true → 8 ≤ (s.lane l).core.cmpBuf.length →
     exec (.clkGateWrite l v) s = .next s ∧ exec (.clkXreset l v) s = .next s)

/-- TRST_N selects IDCODE; IDCODE reads 0x1306436B; SAMPLE captures the 148 cells; an unlisted code, and DBG on a sealed module, select
BYPASS; attach, detach, halt, release, step and status return OK with their effect, and during RESET every debug command returns
BUSY; the sillage commands of a bench module erase, append to and close its partition.
(R381, R410, R509, R510, R511, R516, R518) -/
def Obligations.TestAccessCommands : Prop :=
  (∀ s, exec .trstNLow s = .next { s with tap := { s.tap with ir := 0x01 } }) ∧
  (∀ s, exec .idcode s = .next { s with tap := { s.tap with ir := 0x01, data := 0x1306436B } }) ∧
  (∀ (cells : List Bool) s, cells.length = 148 → exec (.sample cells) s = .next { s with tap := { s.tap with ir := 0x02, boundary := cells } }) ∧
  (∀ (code : BitVec 5) s, code ≠ 0x01 → code ≠ 0x02 → code ≠ 0x08 → exec (.bypass code) s = .next { s with tap := { s.tap with ir := 0x1F } }) ∧
  (∀ s, exec .dbgInstruction s = .next { s with tap := { s.tap with ir := if s.sealedT then 0x1F else 0x08 } }) ∧
  (∀ s, s.tap.ir = 0x08 → s.mod.mode = .reset → s.sealedT = false →
     exec .dbgNop s = .next { s with tap := { s.tap with result := 1, data := 0 } } ∧
     exec .dbgAttach s = .next { s with tap := { s.tap with result := 1, data := 0 } } ∧
     ∀ l, exec (.dbgHalt l) s = .next { s with tap := { s.tap with result := 1, data := 0 } }) ∧
  (∀ s, DebugReady s → exec .dbgNop s = .next s) ∧
  (∀ s, DebugReady s → Runs .dbgAttach s fun t => t.mod.dbgAttached = true ∧ t.mod.dbgLog = s.mod.dbgLog + 1 ∧ t.tap.result = 0) ∧
  (∀ s, DebugReady s → exec .dbgDetach s = .next { s with
     mod := { s.mod with dbgAttached := false, dbgLog := s.mod.dbgLog + 1 }, tap := { s.tap with result := 0, data := 0 } }) ∧
  (∀ l s, DebugReady s → s.mod.dbgAttached = true → Runs (.dbgHalt l) s fun t => (t.lane l).diag.halted = true ∧ t.tap.result = 0) ∧
  (∀ l s, DebugReady s → s.mod.dbgAttached = true → Runs (.dbgResume l) s fun t =>
     (t.lane l).diag.halted = false ∧ t.laneSt l = s.laneSt l ∧ t.tap.result = 0) ∧
  (∀ l s, DebugReady s → s.mod.dbgAttached = true → (s.lane l).diag.halted = true → Runs (.dbgStep l) s fun t =>
     (t.lane l).diag.halted = true ∧ t.mod.dbgLog = s.mod.dbgLog + 1 ∧ t.tap.result = 0) ∧
  (∀ l s, DebugReady s → s.mod.dbgAttached = false → exec (.dbgHalt l) s = .next { s with tap := { s.tap with result := 2, data := 0 } }) ∧
  (∀ l s, DebugReady s → exec (.tapDbgStatus l) s = .next { s with tap := { s.tap with result := 0, data := BitVec.ofNat 32 (rdDbg s l 0) } }) ∧
  (∀ s, DebugReady s → s.mod.bench = true → s.mod.mode = .loaded → Runs .silBegin s fun t =>
     t.rcd.sil = [] ∧ t.rcd.silRaw = [] ∧ t.rcd.silOpen = true ∧ t.tap.result = 0) ∧
  (∀ (v : Word) s, DebugReady s → s.rcd.silOpen = true → Runs (.silWrite v) s fun t =>
     t.rcd.silRaw = s.rcd.silRaw ++ bytesOf 4 v ∧ t.rcd.sil = s.rcd.sil ∧ t.tap.result = 0) ∧
  (∀ s, DebugReady s → s.rcd.silOpen = true → Runs .silEnd s fun t =>
     t.rcd.silOpen = false ∧ t.rcd.sil = silParse s.rcd.silRaw.length s.rcd.silRaw ∧ t.tap.result = 0)

/-- An attached debugger on a module with LAB reads the four bytes at an address of RAM, least significant first, and writes them, and
no other byte of any lane's memory changes; outside its window both end with FAULT and nothing is written.
(R381, R438, R439, R448, R510) -/
def Obligations.DebugMemoryCommands : Prop :=
  (∀ l (a : BitVec 36) s, DebugReady s → s.mod.dbgAttached = true → s.mod.lab = true → inRam a.toNat = true → inRam (a.toNat + 3) = true →
     (s.lane l).mmu.poisoned = [] → s.guardAllows 7 a.toNat = true → Runs (.dbgRead l a) s fun t =>
       t.tap.result = 0 ∧ t.tap.data = BitVec.ofNat 32 (ofLe ((List.range 4).map fun i => (s.lane l).mmu.byte (a.toNat + i))) ∧ t.lanes = s.lanes) ∧
  (∀ l (a : BitVec 36) (v : Word) s, DebugReady s → s.mod.dbgAttached = true → inRam a.toNat = true → inRam (a.toNat + 3) = true →
     s.guardAllows 7 a.toNat = true → (s.lane l).mmu.wf = true → Runs (.dbgWrite l a v) s fun t =>
       t.tap.result = 0 ∧ t.mod.dbgLog = s.mod.dbgLog + 1 ∧
       (∀ i, i < 4 → (t.lane l).mmu.byte (a.toNat + i) = BitVec.ofNat 8 (v.toNat / 256 ^ i)) ∧
       (∀ m b, m ≠ l ∨ b < a.toNat ∨ a.toNat + 3 < b → (t.lane m).mmu.byte b = (s.lane m).mmu.byte b)) ∧
  (∀ l (a : BitVec 36) (v : Word) s, DebugReady s → s.mod.dbgAttached = true → s.guardAllows 7 a.toNat = false →
     (Runs (.dbgRead l a) s fun t => t.tap.result = 3 ∧ ∀ m, (t.lane m).mmu.bytes = (s.lane m).mmu.bytes) ∧
     (Runs (.dbgWrite l a v) s fun t => t.tap.result = 3 ∧ ∀ m, (t.lane m).mmu.bytes = (s.lane m).mmu.bytes))

/-- In a lane that runs MMU_ROOT sets a master's root and enable and empties its TLB; MMU_INVAL with ALL empties the TLBs of the masters
named; a read of TBS_NET_LO latches the time; LOAD puts a unit at its polynomial's initial value; a feed and SEED_NOW process their
bytes; a write of the value replaces a half; a bound unit refuses each of these; ARB_COMMIT brings the whole shadow into force; a
register write acts as its own row does, passes the compare buffer and waits while that is full; a misaligned one, and one to a
read-only place, is recorded and changes no register.
(R7, R352, R438, R447, R458, R470, R472, R474, R475, R476, R512) -/
def Obligations.LaneRegisterCommands : Prop :=
  (∀ l (m : Master) (v : Word) s, s.regsRun l = true → RegisterRoom s l → Runs (.mmuRootWrite l m v) s fun t =>
     Tab.get? (t.lane l).mmu.masters m.code = some ⟨bits v.toNat 21 0, v.getLsbD 31, []⟩ ∧ (t.lane l).mmu.bytes = (s.lane l).mmu.bytes) ∧
  (∀ l s, s.regsRun l = true → RegisterRoom s l → Runs (.mmuInval l 0x07F00000) s fun t =>
     ∀ k, k < 6 → ∀ r, Tab.get? (t.lane l).mmu.masters k = some r → r.tlb = []) ∧
  (∀ l (n : BitVec 64) (f : BitVec 9) s, s.regsRun l = true → exec (.tbsNetLoRead l n f) s = .next (s.modTbs l fun t => { t with
     latchLo := BitVec.ofNat 32 n.toNat, latchHi := BitVec.ofNat 32 (n.toNat / 2 ^ 32), latchFrac := f.toNat % 400 })) ∧
  (∀ l (u : Fin 8) (p : BitVec 2) s, s.regsRun l = true → RegisterRoom s l → ((s.lane l).unit u).bound = false → Runs (.cvuLoad l u p) s fun t =>
     ((t.lane l).unit u).value = (Poly.ofCode p.toNat).init ∧ ((t.lane l).unit u).poly = p.toNat) ∧
  (∀ l (u : Fin 8) s, s.regsRun l = true → RegisterRoom s l → ((s.lane l).unit u).bound = false → Runs (.cvuSeedNow l u) s fun t =>
     ((t.lane l).unit u).value = (Poly.ofCode ((s.lane l).unit u).poly).run ((s.lane l).unit u).value
       (bytesOf 4 ((s.lane l).unit u).seedLo ++ bytesOf 4 ((s.lane l).unit u).seedHi)) ∧
  (∀ l (u : Fin 8) (d : Word) s, s.regsRun l = true → RegisterRoom s l → ((s.lane l).unit u).bound = false → Runs (.cvuFeed l u d) s fun t =>
     ((t.lane l).unit u).value = (Poly.ofCode ((s.lane l).unit u).poly).run ((s.lane l).unit u).value (bytesOf 4 d) ∧
     ((t.lane l).unit u).bytes = (((s.lane l).unit u).bytes + 4) % 2 ^ 32) ∧
  (∀ l (u : Fin 8) (v : Word) s, s.regsRun l = true → RegisterRoom s l → ((s.lane l).unit u).bound = false → ((s.lane l).unit u).poly = 3 →
     (Runs (.cvuValueWrite l u true v) s fun t => ((t.lane l).unit u).value.toNat / 2 ^ 32 = v.toNat ∧
       ((t.lane l).unit u).value.toNat % 2 ^ 32 = ((s.lane l).unit u).value.toNat % 2 ^ 32) ∧
     (Runs (.cvuValueWrite l u false v) s fun t => ((t.lane l).unit u).value.toNat % 2 ^ 32 = v.toNat ∧
       ((t.lane l).unit u).value.toNat / 2 ^ 32 = ((s.lane l).unit u).value.toNat / 2 ^ 32)) ∧
  (∀ l (u : Fin 8) (d : Word) s, s.regsRun l = true → RegisterRoom s l → ((s.lane l).unit u).bound = true → Runs (.cvuFeed l u d) s fun t =>
     ((t.lane l).unit u).value = ((s.lane l).unit u).value ∧ ((t.lane l).unit u).refused = true) ∧
  (∀ l (p : MemPort) (r : BitVec 16) s, s.regsRun l = true → RegisterRoom s l → Runs (.arbCommit l p 1 r) s fun t =>
     ((t.lane l).arb p).active = ((s.lane l).arb p).shadow) ∧
  (∀ l (v : Word) s, s.regsRun l = true → exec (.registerWrite l 0x2008002C v) s = exec (.hubSwitchCrcWrite l v) s) ∧
  (∀ l (v : Word) s, s.regsRun l = true → RegisterRoom s l → Runs (.registerWrite l 0x20050000 v) s fun t =>
     (t.lane l).arbE.shadow = BitVec.ofNat 24 v.toNat ∧ (t.lane l).arbE.active = (s.lane l).arbE.active) ∧
  (∀ l (a : BitVec 36) (v : Word) s, s.regsRun l = true → 8 ≤ (s.lane l).core.cmpBuf.length → exec (.registerWrite l a v) s = .next s) ∧
  (∀ l (v : Word) s, s.regsRun l = true → (s.lane l).core.cmpBuf.length < 8 → Runs (.registerWrite l 0x20050000 v) s fun t =>
     (t.lane l).core.cmpBuf = (s.lane l).core.cmpBuf ∧ (s.lane l).core.cmpBuf.length + 1 ≤ (t.lane l).core.cmpMax ∧ (s.lane l).core.cmpMax ≤ (t.lane l).core.cmpMax) ∧
  (∀ l (a : BitVec 36) (v : Word) s, s.regsRun l = true → inRegs a.toNat = true → a.toNat % 4 ≠ 0 →
     exec (.registerWrite l a v) s = .next (s.placeRecord l 0x0132 (fields [(1, 4), (1, 0), (1, 1), (1, 0), (4, a.toNat)]))) ∧
  (∀ l (a : BitVec 36) (v : Word) s, s.regsRun l = true → RegisterRoom s l → inRegs a.toNat = true → a.toNat % 4 = 0 →
     roPlace (a.toNat - 0x20000000) = true → Runs (.registerWrite l a v) s fun t =>
       t.net = s.net ∧ t.fch = s.fch ∧ ∀ m, (t.lane m).mmu = (s.lane m).mmu ∧ (t.lane m).dma = (s.lane m).dma ∧ (t.lane m).clk = (s.lane m).clk ∧
         (t.lane m).arbE = (s.lane m).arbE ∧ (t.lane m).arbD = (s.lane m).arbD ∧ (t.lane m).cvu = (s.lane m).cvu)

/-- An enabled channel runs the descriptor at its head when it owns one and is idle on an empty ring; a disabled one drops its transfer;
SUSPEND is requested and takes effect at the burst's end; RESUME continues; ABORT and completion pass the head, completion counting
it; a fault stops the channel with its cause and address.
(R450, R451, R453, R454, R455, R459, R473) -/
def Obligations.DmaCommands : Prop :=
  (∀ l (c : Fin 8) (bs : List Byte) s, s.regsRun l = true → RegisterRoom s l → ((s.lane l).chan c).st = .idle → 2 ≤ ((s.lane l).chan c).size →
     ((s.lane l).chan c).head ≠ ((s.lane l).chan c).tail % ((s.lane l).chan c).size →
     (s.lane l).dmaRead (((s.lane l).chan c).slotVa ((s.lane l).chan c).head) 32 = some bs → (descriptorOf bs).own = true →
     Runs (.dmaEnable l c true) s fun t => ((t.lane l).chan c).enable = true ∧ ((t.lane l).chan c).st = .running ∧
       ((t.lane l).chan c).cur = some (descriptorOf bs) ∧ ((t.lane l).chan c).moved = 0) ∧
  (∀ l (c : Fin 8) s, s.regsRun l = true → RegisterRoom s l → ((s.lane l).chan c).st = .idle → ((s.lane l).chan c).size < 2 →
     Runs (.dmaEnable l c true) s fun t => ((t.lane l).chan c).enable = true ∧ ((t.lane l).chan c).st = .idle) ∧
  (∀ l (c : Fin 8) s, s.regsRun l = true → RegisterRoom s l → Runs (.dmaEnable l c false) s fun t =>
     ((t.lane l).chan c).enable = false ∧ ((t.lane l).chan c).st = .idle ∧ ((t.lane l).chan c).cur = none) ∧
  (∀ l (c : Fin 8) s, s.regsRun l = true → RegisterRoom s l → ((s.lane l).chan c).st = .running →
     Runs (.dmaSuspend l c) s fun t => (t.lane l).chan c = { (s.lane l).chan c with st := .suspending } ∧ ∀ m, m ≠ l → t.lane m = s.lane m) ∧
  (∀ l (c : Fin 8) n s, s.mod.mode.lanesRun = true → ((s.lane l).chan c).st = .suspending →
     Runs (.dmaSuspended l c n) s fun t => ((t.lane l).chan c).st = .suspended) ∧
  (∀ l (c : Fin 8) d s, s.regsRun l = true → RegisterRoom s l → ((s.lane l).chan c).st = .suspended → ((s.lane l).chan c).cur = some d → d.snoop = false →
     Runs (.dmaResume l c) s fun t => (t.lane l).chan c = { (s.lane l).chan c with st := .running, cause := 0 } ∧ ∀ m, m ≠ l → t.lane m = s.lane m) ∧
  (∀ l (c : Fin 8) s, s.regsRun l = true → RegisterRoom s l → ((s.lane l).chan c).st ≠ .idle → Runs (.dmaAbort l c) s fun t =>
     ((t.lane l).chan c).head = (((s.lane l).chan c).head + 1) % max 1 ((s.lane l).chan c).size ∧ ((t.lane l).chan c).done = ((s.lane l).chan c).done) ∧
  (∀ l (c : Fin 8) (n : Byte) s, s.regsRun l = true → RegisterRoom s l → ((s.lane l).chan c).st ≠ .idle →
     Runs (.dmaTailWrite l c n) s fun t => (t.lane l).chan c = { (s.lane l).chan c with tail := n.toNat } ∧ ∀ m, m ≠ l → t.lane m = s.lane m) ∧
  (∀ l (c : Fin 8) d s, s.mod.mode.lanesRun = true → ((s.lane l).chan c).st = .running → ((s.lane l).chan c).waiting = false →
     ((s.lane l).chan c).cur = some d → d.good = true → (s.dmaMove l c d.length).isSome = true → Runs (.dmaDescriptorComplete l c) s fun t =>
       ((t.lane l).chan c).done = (((s.lane l).chan c).done + 1) % 65536 ∧
       ((t.lane l).chan c).head = (((s.lane l).chan c).head + 1) % max 1 ((s.lane l).chan c).size ∧
       ((t.lane l).chan c).notified = (((s.lane l).chan c).notified || d.notify)) ∧
  (∀ l (c : Fin 8) k (va : Word) n w s, s.mod.mode.lanesRun = true → ((s.lane l).chan c).st = .running → k ≠ .guard →
     Runs (.dmaFault l c k va n w) s fun t => ((t.lane l).chan c).st = .faulted ∧ ((t.lane l).chan c).cause = k.code ∧ ((t.lane l).chan c).faultVa = va)

/-- A corrected word is counted and its lane keeps voting; an uncorrectable error in essence takes a lane out of a vote of three with
cause ECC_UE and keeps its address; one in the recorder's ring only counts a dropped record; the scrubber passes to the next word; a
translation that fails shows its address, cause and master, makes a command answer INTERNAL, and carries the entry of the route
engine that it struck over from the resolved vector; a TLB parity error counts; an access outside a locked guard window is counted
and refused.
(R356, R442, R443, R444, R446, R447, R448, R457, R458, R460) -/
def Obligations.MemoryErrorCommands : Prop :=
  (∀ l (a : BitVec 36) s, s.mod.mode.lanesRun = true → inEssence a.toNat = true → Runs (.eccCorrected l a) s fun t =>
     (t.lane l).mmu.essCorr = satAdd 0xFFFF (s.lane l).mmu.essCorr 1 ∧ (t.lane l).mmu.bytes = (s.lane l).mmu.bytes ∧ t.laneSt l = s.laneSt l) ∧
  (∀ l r (a : BitVec 36) p q s, s.mod.mode = .operate → s.votingLanes = LaneSet.full → inEssence a.toNat = true →
     Runs (.eccUncorrectable l r a p q) s fun t => t.laneSt l = .minority ∧ (t.lane l).core.cause = 2 ∧
       (t.lane l).mmu.essUnc = satAdd 0xFFFF (s.lane l).mmu.essUnc 1 ∧ (t.lane l).mmu.eccAddr = BitVec.ofNat 32 (a.toNat / 16)) ∧
  (∀ l r (a : BitVec 36) p q s, s.mod.mode.lanesRun = true → 0x4A900000 ≤ a.toNat → a.toNat < 0x4D000000 →
     Runs (.eccUncorrectable l r a p q) s fun t => t.laneSt l = s.laneSt l ∧
       (t.lane l).diag.dropSil = satAdd 0xFFFF (s.lane l).diag.dropSil 1 ∧ (t.lane l).mmu.dramUnc = satAdd 0xFFFF (s.lane l).mmu.dramUnc 1) ∧
  (∀ l s, s.mod.mode.lanesRun = true → s.mod.mode ≠ .dormant → (s.lane l).clk.gateDram = true → (s.lane l).mmu.poisoned = [] →
     (s.lane l).mmu.scrubWord + 1 < scrubWords →
     exec (.scrubRead l) s = .next (s.modMmu l fun m => { m with scrubWord := (s.lane l).mmu.scrubWord + 1 })) ∧
  (∀ l (m : Master) k (va : Word) c x s, s.mod.mode.lanesRun = true → m ≠ .dma → (s.lane l).mmu.translate m.code va.toNat k = .error c →
     Runs (.translationFault l m k ⟨va, x⟩) s fun t => (t.lane l).mmu.faultVa = va ∧ (t.lane l).mmu.faultCause = c ∧
       (t.lane l).mmu.faultMaster = m.code ∧ (t.lane l).mmu.faultWrite = decide (k = .write) ∧ t.laneSt l = s.laneSt l) ∧
  (∀ l (m : Master) k (va : Word) c s, s.mod.mode.lanesRun = true → m ≠ .dma → (s.lane l).mmu.translate m.code va.toNat k = .error c →
     LaneSet.first s.votingLanes = some l → Runs (.translationFault l m k ⟨va, .command⟩) s fun t => t.host.spoilt = true) ∧
  (∀ l (m : Master) k (va : Word) c r i s, s.mod.mode.lanesRun = true → m ≠ .dma → (s.lane l).mmu.translate m.code va.toNat k = .error c →
     LaneSet.first s.votingLanes = some l → s.formsRun = true → Runs (.translationFault l m k ⟨va, .engine r i⟩) s fun t =>
       t.ixl = { s.ixl with tableV := s.carried s.ixl.tableV r i }) ∧
  (∀ l (m : Master) (n : BitVec 20) s, s.mod.mode.lanesRun = true → Runs (.tlbParityError l m n) s fun t =>
     (t.lane l).mmu.tlbPerr = satAdd 0xFFFFFFFF (s.lane l).mmu.tlbPerr 1 ∧ (t.lane l).mmu.bytes = (s.lane l).mmu.bytes ∧ t.laneSt l = s.laneSt l) ∧
  (∀ l (r : Fin 8) (a : BitVec 36) s, s.mod.mode.lanesRun = true → (s.lane l).mmu.guardLocked = true → s.guardAllows r a.toNat = false →
     Runs (.guardFault l r a) s fun t => (t.lane l).mmu.guardRefused = satAdd 0xFFFF (s.lane l).mmu.guardRefused 1 ∧
       (t.lane l).mmu.bytes = (s.lane l).mmu.bytes ∧ t.laneSt l = s.laneSt l)

/-- A sole requester is granted, and locks only if it may; of two that do not back off the one of higher priority is granted; a
seventeenth access and an idle lock each end the lock, set their flag and take a lane out of a vote of three; a sample enters the
ring at its index; a window's end hands over its byte counts and begins the next.
(R356, R461, R463, R465, R466, R479, R480) -/
def Obligations.ArbiterCommands : Prop :=
  (∀ l (p : MemPort) n w s, s.mod.mode.lanesRun = true → ((s.lane l).arb p).locked = false → ((s.lane l).arb p).reserved = [] →
     (((s.lane l).arb p).standing w.requester.val).backoff = 0 → Runs (.arbiterDecision l p ⟨n, [w]⟩) s fun t =>
       ((t.lane l).arb p).owner = w.requester.val ∧ ((t.lane l).arb p).locked = (w.lock && mayLock w.requester.val && !w.unlock)) ∧
  (∀ l (p : MemPort) n x y s, s.mod.mode.lanesRun = true → ((s.lane l).arb p).locked = false → ((s.lane l).arb p).reserved = [] →
     (((s.lane l).arb p).standing x.requester.val).backoff = 0 → (((s.lane l).arb p).standing y.requester.val).backoff = 0 →
     ((s.lane l).arb p).prio x.requester.val < ((s.lane l).arb p).prio y.requester.val →
     (Runs (.arbiterDecision l p ⟨n, [x, y]⟩) s fun t => ((t.lane l).arb p).owner = y.requester.val) ∧
     (Runs (.arbiterDecision l p ⟨n, [y, x]⟩) s fun t => ((t.lane l).arb p).owner = y.requester.val)) ∧
  (∀ l (p : MemPort) s, s.mod.mode = .operate → s.votingLanes = LaneSet.full → ((s.lane l).arb p).locked = true → 16 ≤ ((s.lane l).arb p).lockCount →
     Runs (.lockOverrun l p) s fun t => ((t.lane l).arb p).locked = false ∧ ((t.lane l).arb p).faultOver = true ∧
       t.laneSt l = .minority ∧ (t.lane l).core.cause = 7) ∧
  (∀ l (p : MemPort) s, s.mod.mode = .operate → s.votingLanes = LaneSet.full → ((s.lane l).arb p).locked = true →
     Runs (.lockIdleTimeout l p) s fun t => ((t.lane l).arb p).locked = false ∧ ((t.lane l).arb p).faultIdle = true ∧
       t.laneSt l = .minority ∧ (t.lane l).core.cause = 7) ∧
  (∀ l (k : Fin 16) (loc : Word) (f : Byte) (m : Fin 8) (lat a : Word) (tm : BitVec 64) s, s.mod.mode.lanesRun = true →
     (Tab.getD (s.lane l).perf.ctr k .reset).enable = true → (Tab.getD (s.lane l).perf.ctr k .reset).sampleN ≠ 0 →
     (Tab.getD (s.lane l).perf.ctr k .reset).sampleN.toNat ≤ (Tab.getD (s.lane l).perf.ctr k .reset).phase →
     Runs (.perfSample l k loc f m lat a tm) s fun t =>
       Tab.get? (t.lane l).perf.ring ((s.lane l).perf.writeIndex % 2048) =
         some ⟨s.recCycle, s.acc.tick, k, (Tab.getD (s.lane l).perf.ctr k .reset).event, loc, f &&& 0x03, m, lat, a, tm⟩ ∧
       (t.lane l).perf.writeIndex = ((s.lane l).perf.writeIndex + 1) % 2 ^ 32) ∧
  (∀ l s, s.mod.mode.lanesRun = true → (s.lane l).perf.window ≠ 0 → exec (.bandwidthWindow l) s = .next (s.modPerf l fun p =>
     { p with bwEss := (s.lane l).perf.runEss, bwDram := (s.lane l).perf.runDram, runEss := [], runDram := [] }))

/-- A ticking lane that finishes its tick has sent its MARK with its health and work, and has not finished while work is left that the
quantum holds or its bogie's buffer is full; a voting lane without MARK at the deadline leaves a vote of three with cause OVERRUN;
outside cycles a boundary counts a millisecond and clears the marks; a lane whose route engine has not completed at T3 leaves the
vote; with every MARK and VIEW heard a boundary moves to the next tick with the vote unchanged, and the boundary after tick 9 begins
the next cycle with its accord open. An evaluation without commands forms the table verdict and the graph verdict from the same
inputs and waits for the engines; a lane's route engine that completes within its limit with its step count leaves the vote alone
and sets TABLE_DONE with its times; one that needs longer takes a voting lane out of a vote of three as OVERRUN; the graph solver
sets GRAPH_DONE with the work units it charged, in the tick whose quantum holds what is left of them.
(R25, R38, R39, R40, R41, R56, R133, R356, R67, R117, R132, R150) -/
def Obligations.CycleCommands : Prop :=
  (∀ l (h : Byte) w m s, s.mod.mode.lanesRun = true → s.ticking l = true → (s.lane l).diag.halted = false → s.workLeft = false →
     (s.lane l).core.cmpBuf.length < 8 → Runs (.laneTickComplete l h w m) s fun t => (t.lane l).core.markSent = true ∧
       (t.lane l).core.health = h ||| (s.lane l).core.events ∧ (t.lane l).core.events = 0 ∧ (t.lane l).core.work = min 40000 (s.knownWork + w)) ∧
  (∀ l (h : Byte) w m s, s.workLeft = true ∨ 8 ≤ (s.lane l).core.cmpBuf.length → Runs (.laneTickComplete l h w m) s fun t =>
     (t.lane l).core.markSent = (s.lane l).core.markSent) ∧
  (∀ l s, s.mod.mode = .operate → s.votingLanes = LaneSet.full → (s.lane l).core.markSent = false →
     Runs (.tickDeadline l) s fun t => t.laneSt l = .minority ∧ (t.lane l).core.cause = 4 ∧ (t.lane l).core.late = true) ∧
  (∀ marks views clock s, s.mod.mode ≠ .off → s.mod.mode.cycles = false → Runs (.tickBoundary marks views clock) s fun t =>
     t.rcd.opTime = s.rcd.opTime + 1 ∧ t.mod.mode = s.mod.mode ∧ ∀ l, (t.lane l).core.markSent = false ∧ (s.inStep l 4 = false → (t.lane l).pwr.stepped = false)) ∧
  (∀ clock s, s.mod.mode = .operate → (∀ l, s.laneSt l = .voting ∧ (s.lane l).core.markSent = true ∧ (s.lane l).core.lost = []) →
     s.acc.safeAt4 = false → s.acc.safeNext = false → s.acc.tick < 9 →
     (s.acc.tick = 2 → ∀ l, (s.lane l).rte.tableDone = true ∧ (s.lane l).rte.steps = 366601) →
     Runs (.tickBoundary (PerLane.pure LaneSet.full) (PerLane.pure LaneSet.full) clock) s fun t =>
       t.acc.tick = s.acc.tick + 1 ∧ t.acc.voting = LaneSet.full ∧ t.mod.cycle = s.mod.cycle ∧ ∀ l, t.laneSt l = .voting) ∧
  (∀ marks views clock l s, s.mod.mode = .operate → s.votingLanes = LaneSet.full → s.acc.tick = 2 → (s.lane l).rte.tableDone = false →
     (∀ m, m ≠ l → (s.lane m).rte.tableDone = true ∧ (s.lane m).rte.steps = 366601) → Runs (.tickBoundary marks views clock) s fun t =>
       t.laneSt l ≠ .voting ∧ (t.lane l).rte.late = true) ∧
  (∀ clock s, s.mod.mode = .operate → (∀ l, s.laneSt l = .voting ∧ (s.lane l).core.markSent = true ∧ (s.lane l).core.lost = []) →
     s.acc.safeAt4 = false → s.acc.safeNext = false → s.acc.tick = 9 → s.acc.fresh = false → s.plink.safeAfter = false →
     Runs (.tickBoundary (PerLane.pure LaneSet.full) (PerLane.pure LaneSet.full) clock) s fun t =>
       t.acc.tick = 0 ∧ t.mod.cycle = s.mod.cycle + 1 ∧ t.acc.isOpen = true ∧ ∀ l, t.laneSt l = .voting) ∧
  (∀ s, s.evalDue = true → s.acc.accorded.cmds = [] → Runs .cycleEvaluation s fun t => t.ixl.phase = 6 ∧
     t.ixl.tableV = (s.openList.addResets.addSheets.form false).run.v ∧ t.ixl.graphV = (s.openList.addResets.addSheets.form true).run.v) ∧
  (∀ l us s, s.formsRun = true → s.ticking l = true → (s.lane l).rte.tableDone = false → us ≤ 2800 →
     Runs (.routeEngineComplete l us 366601 []) s fun t => (t.lane l).rte.tableDone = true ∧ (t.lane l).rte.lastUs = us ∧
       (t.lane l).rte.maxUs = max (s.lane l).rte.maxUs us ∧ (t.lane l).rte.steps = 366601 ∧ t.ixl.tableV = s.ixl.tableV ∧
       (t.lane l).rte.late = (s.lane l).rte.late ∧ (∀ m, m ≠ l → (t.lane m).rte = (s.lane m).rte) ∧ ∀ k, t.laneSt k = s.laneSt k) ∧
  (∀ l us fs s, s.formsRun = true → s.mod.mode = .operate → s.votingLanes = LaneSet.full → (s.lane l).rte.tableDone = false → 2800 < us →
     Runs (.routeEngineComplete l us 366601 fs) s fun t => (t.lane l).rte.late = true ∧ t.laneSt l = .minority ∧ (t.lane l).core.cause = 4 ∧
       ∀ m, m ≠ l → (t.lane m).rte.late = (s.lane m).rte.late) ∧
  (∀ fs s, s.formsRun = true → s.ixl.graphDone = false → s.ixl.graphLeft ≤ 40000 → Runs (.graphSolverComplete fs) s fun t =>
     t.ixl.graphDone = true ∧ t.ixl.graphV = s.ixl.graphV.withFaults fs ∧
     ∀ l, s.ticking l = true → (t.lane l).rte.graphDone = true ∧ (t.lane l).rte.graphWu = s.graphCharge s.evaluated ∧
       (t.lane l).rte.graphWuMax = max (s.lane l).rte.graphWuMax (s.graphCharge s.evaluated)) ∧
  (∀ fs s, 40000 < s.ixl.graphLeft → exec (.graphSolverComplete fs) s = .next s)

/-- A message with a bad check value is asked for once and is lost the second time; a good one that is awaited ends its request, brings
the item asked of its sender if it is FETCH_DATA, and one of another cycle or lane does nothing; a voting lane's proposal is what it
held at T0, and waits while its bogie's buffer is full; with every proposal received each voting lane computes the accorded set of
all proposals and the items it must fetch; an incomplete fetch at its limit takes the lane out of a vote of three with sub-cause 3,
and a complete one changes nothing; three equal decisions close the accord with that set, and none brings SAFE; a command that one
lane alone held at three accords is deleted everywhere and answered LANE_DISAGREE.
(R41, R43, R44, R45, R46, R48, R57, R352, R356) -/
def Obligations.AccordCommands : Prop :=
  (∀ (r k : Lane) kind (bs : List Byte) s, s.mod.mode.lanesRun = true → r ≠ k → s.ticking r = true →
     ¬ (4 < bs.length ∧ leAt bs (bs.length - 4) 4 = (crc32c (bs.take (bs.length - 4))).toNat) →
     (Runs (.accordMessageReceived r k kind bs) s fun t =>
       (if (s.lane r).core.retry.contains (k, kind) then (t.lane r).core.lost = (k, kind) :: (s.lane r).core.lost
        else (t.lane r).core.retry = (k, kind) :: (s.lane r).core.retry ∧ (t.lane r).core.lost = (s.lane r).core.lost) ∧
       (if k = r.next then (t.lane r).core.nextErr = satAdd 0xFFFF (s.lane r).core.nextErr 1
        else (t.lane r).core.prevErr = satAdd 0xFFFF (s.lane r).core.prevErr 1) ∧
       (∀ m, m ≠ r → t.lane m = s.lane m) ∧ t.acc = s.acc)) ∧
  (∀ (r k : Lane) kind (bs : List Byte) s, s.mod.mode.lanesRun = true → r ≠ k → s.ticking r = true → kind ≠ .fetchData →
     4 < bs.length → leAt bs (bs.length - 4) 4 = (crc32c (bs.take (bs.length - 4))).toNat → s.awaited k kind bs = true →
     exec (.accordMessageReceived r k kind bs) s = .next (s.modCore r fun c => { c with retry := c.retry.filter fun p => p ≠ (k, kind) })) ∧
  (∀ (r k : Lane) (bs : List Byte) s, s.mod.mode.lanesRun = true → r ≠ k → s.ticking r = true →
     4 < bs.length → leAt bs (bs.length - 4) 4 = (crc32c (bs.take (bs.length - 4))).toNat → s.awaited k .fetchData bs = true →
     Runs (.accordMessageReceived r k .fetchData bs) s fun t => t.acc.computed = s.acc.computed ∧
       t.acc.fetching.get r = (s.acc.fetching.get r).filter (fun x => x ≠ (fetchItemOf (bs.drop 6), k)) ∧
       (∀ m, m ≠ r → t.acc.fetching.get m = s.acc.fetching.get m)) ∧
  (∀ (r k : Lane) kind (bs : List Byte) s, s.mod.mode.lanesRun = true → r ≠ k → s.ticking r = true →
     4 < bs.length → leAt bs (bs.length - 4) 4 = (crc32c (bs.take (bs.length - 4))).toNat → s.awaited k kind bs = false →
     exec (.accordMessageReceived r k kind bs) s = .next s) ∧
  (∀ l s, s.accordOpen = true → s.laneSt l = .voting → (s.lane l).core.cmpBuf.length < 8 → Runs (.proposalSend l) s fun t =>
     t.acc = { s.acc with sentProp := s.acc.sentProp.set l (s.acc.snaps.get l) } ∧ (t.lane l).core.cmpBuf = (s.lane l).core.cmpBuf ∧
     ∀ m, m ≠ l → t.lane m = s.lane m) ∧
  (∀ l s, 8 ≤ (s.lane l).core.cmpBuf.length → exec (.proposalSend l) s = .next s) ∧
  (∀ s, s.accordOpen = true → s.votingLanes = LaneSet.full → (∀ l, (s.lane l).core.lost = []) →
     Runs (.accordedSetCompute (PerLane.pure LaneSet.full)) s fun t =>
       (∀ l, t.acc.computed.get l = s.computeFor (Lane.all.filterMap s.acc.sentProp.get)) ∧
       (∀ l a, t.acc.computed.get l = some a → t.acc.fetching.get l = fetches s.acc.sentProp (s.acc.snaps.get l) a)) ∧
  (∀ l s, s.accordOpen = true → s.votingLanes = LaneSet.full → s.acc.fetching.get l ≠ [] → Runs (.fetchTimeout l) s fun t =>
     t.laneSt l = .minority ∧ (t.lane l).core.cause = 5 ∧ (t.lane l).core.sub = 3 ∧ ∀ m, m ≠ l → t.laneSt m = .voting) ∧
  (∀ l s, s.acc.fetching.get l = [] → exec (.fetchTimeout l) s = .next s) ∧
  (∀ a n s, s.accordOpen = true → s.votingLanes = LaneSet.full → (∀ l, s.acc.computed.get l = some a ∧ s.acc.fetching.get l = [] ∧ (s.lane l).core.lost = []) →
     Runs (.inputAccordClose LaneSet.full (PerLane.pure 0) n) s fun t =>
       t.acc.isOpen = false ∧ t.acc.accorded = a ∧ t.acc.voting = LaneSet.full ∧ t.ixl.phase = 1 ∧ t.net.netTime = a.time) ∧
  (∀ wrong n s, s.accordOpen = true → Runs (.inputAccordClose LaneSet.none wrong n) s fun t => t.mod.mode = .safe) ∧
  (∀ (cmd : CmdRef) l n s, s.mod.mode.cycles = true → (cmd, l, n) ∈ s.acc.unaccorded → 3 ≤ n → Runs (.commandUnaccorded cmd) s fun t =>
     t.acc.unaccorded = s.acc.unaccorded.filter (fun u => u.1 ≠ cmd) ∧
     (∀ k, ∀ p ∈ t.host.rings.get k, ∀ c ∈ p.2, ¬ (c.source = cmd.source.toNat ∧ c.queue = cmd.queue.val ∧ c.seq = cmd.seq)) ∧
     Answered s t ⟨cmd.source, cmd.queue, cmd.seq, 0, 0, false⟩ 0 stDisagree [])

/-- An accepted set request for an IDLE route whose setting conditions hold brings it to SETTING with ACCEPTED and a completion due;
cancelling a SETTING route makes it IDLE without its automatic mark; cancelling a locked route whose approach locking is engaged
makes it APPR_LOCKED with its time; the first step of an emergency release answers the token; the second makes the route EMERG with
its time and spends the token; an automatic request sets or clears the mark and is answered OK.
(R85, R86, R92, R102, R107, R108, R325, R327, R328, R329) -/
def Obligations.RouteCommands : Prop :=
  (∀ (h : CmdHdr) (r : BitVec 16) (act : Byte) d s, Accepts s h 0x0101 none → act.toNat < 2 → Tab.get? s.image.routes r.toNat = some d →
     Tab.wf s.ixl.resolved.routes = true → (s.ixl.resolved.route r.toNat).st = .idle → (s.standing.setFail r.toNat d).status = stOk →
     s.standing.full = false →
     Runs (.routeSet h r act) s fun t => (t.ixl.resolved.route r.toNat).st = .setting ∧ Answered s t h 0x0101 stAccepted [] ∧
       h.completion 0x0101 r.toNat ∈ t.ixl.completions) ∧
  (∀ (h : CmdHdr) (r : BitVec 16) d s, Accepts s h 0x0102 none → Tab.get? s.image.routes r.toNat = some d →
     Tab.wf s.ixl.resolved.routes = true → (s.ixl.resolved.route r.toNat).st = .setting →
     Runs (.routeCancel h r) s fun t => (t.ixl.resolved.route r.toNat).st = .idle ∧ (t.ixl.resolved.route r.toNat).auto = false ∧
       Answered s t h 0x0102 stOk []) ∧
  (∀ (h : CmdHdr) (r : BitVec 16) d s, Accepts s h 0x0102 none → Tab.get? s.image.routes r.toNat = some d →
     Tab.wf s.ixl.resolved.routes = true → ((s.ixl.resolved.route r.toNat).st = .locked ∨ (s.ixl.resolved.route r.toNat).st = .proved ∨
       (s.ixl.resolved.route r.toNat).st = .cleared) → s.standing.engaged r.toNat d = true → d.tApprLock ≠ 0 →
     Runs (.routeCancel h r) s fun t => (t.ixl.resolved.route r.toNat).st = .apprLocked ∧
       (t.ixl.resolved.route r.toNat).timer = d.tApprLock ∧ Answered s t h 0x0102 stOk []) ∧
  (∀ (h : CmdHdr) (r : BitVec 16) d s, Accepts s h 0x0103 none → Tab.get? s.image.routes r.toNat = some d →
     3 ≤ (s.ixl.resolved.route r.toNat).st.code → (s.ixl.resolved.route r.toNat).st.code ≤ 8 →
     Runs (.routeEmergencyReleaseStep1 h r) s fun t => Answered s t h 0x0103 stOk (bytesOf 4 (tokenValue s h 0x0103 r.toNat)) ∧
       (s.issueToken h 0x0103 r.toNat true none).1.ixl.tokens = t.ixl.tokens) ∧
  (∀ (h : CmdHdr) (r : BitVec 16) (tok : Word) d s, Accepts s h 0x0103 none → Tab.get? s.image.routes r.toNat = some d →
     Tab.wf s.ixl.resolved.routes = true → 3 ≤ (s.ixl.resolved.route r.toNat).st.code → (s.ixl.resolved.route r.toNat).st.code ≤ 8 →
     s.tokenValid h 0x0103 r.toNat true tok = true → d.tEmerg ≠ 0 →
     Runs (.routeEmergencyReleaseStep2 h r tok) s fun t => (t.ixl.resolved.route r.toNat).st = .emerg ∧
       (t.ixl.resolved.route r.toNat).timer = d.tEmerg ∧ Answered s t h 0x0103 stAccepted [] ∧
       ∀ u ∈ t.ixl.tokens, ¬ (u.source = h.source.toNat ∧ u.opcode = 0x0103 ∧ u.target = r.toNat)) ∧
  (∀ (h : CmdHdr) (r : BitVec 16) (act : Byte) d s, Accepts s h 0x0105 none → act.toNat = 1 ∨ act.toNat = 2 →
     Tab.get? s.image.routes r.toNat = some d → Tab.wf s.ixl.resolved.routes = true →
     Runs (.routeAuto h r act) s fun t => (t.ixl.resolved.route r.toNat).auto = decide (act.toNat = 1) ∧
       (t.ixl.resolved.route r.toNat).st = (s.ixl.resolved.route r.toNat).st ∧ Answered s t h 0x0105 stOk [])

/-- A point that may be moved gets its move command with ACCEPTED and a completion due; blocks of points and sections and the closing of
a crossing take their value; a replaced signal is commanded to aspect 0 and a replaced zone becomes ACTIVE; the first step of a
restoration whose conditions hold answers a token and the second makes the section CLEAR and RESTORED, the zone INACTIVE, spending
the token; a key or shunt area whose elements are free is released; each is answered. A boundary frame that a row of the boundary
table admits gives the boundary its data and is answered OK; an application message for an inbox of the sheet set replaces the
inbox's words, raises its sequence and is answered OK.
(R71, R75, R78, R83, R97, R99, R101, R326, R328, R110, R168, R331) -/
def Obligations.ElementAndBoundaryCommands : Prop :=
  (∀ (h : CmdHdr) (o : BitVec 16) (act : Byte) d s, Accepts s h 0x0201 none → act.toNat = 1 ∨ act.toNat = 2 →
     Tab.get? s.image.elems o.toNat = some d → d.kind = .pt ∨ d.kind = .de → (s.standing.elem o.toNat).state ≠ act.toNat + 1 →
     s.standing.moveFail o.toNat = (false, false) →
     Runs (.pointMove h o act) s fun t => (t.ixl.resolved.elem o.toNat).cmd = act.toNat ∧ Answered s t h 0x0201 stAccepted [] ∧
       { h.completion 0x0201 o.toNat with arg := act.toNat } ∈ t.ixl.completions) ∧
  (∀ (h : CmdHdr) (o : BitVec 16) (act : Byte) d s, Accepts s h 0x0202 none → act.toNat = 1 ∨ act.toNat = 2 →
     Tab.get? s.image.elems o.toNat = some d → d.kind = .pt ∨ d.kind = .de →
     Runs (.pointBlock h o act) s fun t => (t.ixl.resolved.elem o.toNat).fc = decide (act.toNat = 1) ∧ Answered s t h 0x0202 stOk []) ∧
  (∀ (h : CmdHdr) (o : BitVec 16) d s, Accepts s h 0x0203 none → Tab.get? s.image.elems o.toNat = some d → d.kind = .sg ∨ d.kind = .ez →
     Runs (.signalReplace h o) s fun t => Answered s t h 0x0203 stOk [] ∧
       (if d.kind = .sg then (t.ixl.resolved.elem o.toNat).cmd = 0 else (t.ixl.resolved.elem o.toNat).state = 0)) ∧
  (∀ (h : CmdHdr) (o : BitVec 16) (act : Byte) d s, Accepts s h 0x0204 none → act.toNat = 1 ∨ act.toNat = 2 →
     Tab.get? s.image.elems o.toNat = some d → d.kind = .ts →
     Runs (.sectionBlock h o act) s fun t => (t.ixl.resolved.elem o.toNat).fa = decide (act.toNat = 1) ∧ Answered s t h 0x0204 stOk []) ∧
  (∀ (h : CmdHdr) (o : BitVec 16) d s, Accepts s h 0x0205 none → Tab.get? s.image.elems o.toNat = some d → d.kind = .ts ∨ d.kind = .ez →
     s.standing.restoreCheck o.toNat d = stOk →
     Runs (.sectionRestoreStep1 h o) s fun t => Answered s t h 0x0205 stOk (bytesOf 4 (tokenValue s h 0x0205 o.toNat)) ∧
       (s.issueToken h 0x0205 o.toNat true none).1.ixl.tokens = t.ixl.tokens) ∧
  (∀ (h : CmdHdr) (o : BitVec 16) (tok : Word) d s, Accepts s h 0x0205 none → Tab.get? s.image.elems o.toNat = some d →
     d.kind = .ts ∨ d.kind = .ez → s.standing.restoreCheck o.toNat d = stOk → s.tokenValid h 0x0205 o.toNat true tok = true →
     Runs (.sectionRestoreStep2 h o tok) s fun t => Answered s t h 0x0205 stOk [] ∧
       (if d.kind = .ez then (t.ixl.resolved.elem o.toNat).state = 1
        else (t.ixl.resolved.elem o.toNat).state = 2 ∧ (t.ixl.resolved.elem o.toNat).fb = true) ∧
       ∀ u ∈ t.ixl.tokens, ¬ (u.source = h.source.toNat ∧ u.opcode = 0x0205 ∧ u.target = o.toNat)) ∧
  (∀ (h : CmdHdr) (o : BitVec 16) d s, Accepts s h 0x0206 none → Tab.get? s.image.elems o.toNat = some d →
     (d.kind = .ky ∧ (s.standing.elem o.toNat).state = 3 ∧
         s.standing.areaFree ((s.image.elems.filter fun p => p.2.ky = some o.toNat).map Prod.fst) = true) ∨
       (d.kind = .sa ∧ s.standing.areaFree ((s.image.elems.filter fun p => p.2.sa = some o.toNat).map Prod.fst) = true) →
     Runs (.keyRelease h o) s fun t => (t.ixl.resolved.elem o.toNat).state = (if d.kind = .ky then 2 else 0) ∧
       Answered s t h 0x0206 stOk []) ∧
  (∀ (h : CmdHdr) (o : BitVec 16) (act : Byte) d s, Accepts s h 0x0207 none → act.toNat = 1 ∨ (act.toNat = 2 ∧ (s.standing.elem o.toNat).fb = false) →
     Tab.get? s.image.elems o.toNat = some d → d.kind = .lx →
     Runs (.lxCommand h o act) s fun t => (t.ixl.resolved.elem o.toNat).fa = decide (act.toNat = 1) ∧ Answered s t h 0x0207 stOk []) ∧
  (∀ (h : CmdHdr) (bb theirs : BitVec 16) (dir fl ea : Byte) (cyc : Word) s, Accepts s h 0x0F01 none → dir.toNat ≤ 2 → fl.toNat < 64 →
     ea.toNat < 16 → (∃ b ∈ s.image.bounds, b.bb = bb.toNat ∧ b.source = h.source.toNat ∧ b.queue = h.queue.val ∧ b.theirBb = theirs.toNat) →
     Runs (.boundaryFrame h bb theirs dir fl ea cyc) s fun t => Tab.get? t.ixl.nbr bb.toNat =
       some ⟨dir.toNat, bitOf fl.toNat 0, bitOf fl.toNat 1, bitOf fl.toNat 2, bitOf fl.toNat 3, bitOf fl.toNat 4, bitOf fl.toNat 5, ea.toNat, cyc⟩ ∧
       Answered s t h 0x0F01 stOk []) ∧
  (∀ (h : CmdHdr) (box : BitVec 16) (n : Byte) (ws : List Word) s, Accepts s h 0x0C01 none → n.toNat ≤ 8 → ws.length = n.toNat →
     (∃ b ∈ s.image.blocks, b.2.type = 0x29 ∧ bits b.2.param 15 0 = box.toNat) →
     Runs (.appMsgSend h box n ws) s fun t => Tab.get? t.sheets.inboxes box.toNat =
       some ⟨(Tab.getD s.sheets.inboxes box.toNat ⟨0, []⟩).seq + 1, ws⟩ ∧ Answered s t h 0x0C01 stOk [])

/-- An area's restart time that ends opens the area; a non-latching section clears at its settle time; a point's move ends at the
throw-time limit; a signal that shows no proven aspect is FAILED after its proving time; a crossing that does not close is UNKNOWN
at its limit; a boundary without frames is UNPROVEN; its back-off ends; an object whose node's data is too old is UNPROVEN; a token
ends.
(R70, R76, R79, R97, R110, R111, R114, R115, R211, R328) -/
def Obligations.ElementTimerCommands : Prop :=
  (∀ (a : Fin 64) s, s.mod.mode.cycles = true → (s.ixl.resolved.area a.val).timer ≠ 0xFFFF →
     Runs (.restartTimeExpired a) s fun t => t.ixl.resolved.area a.val = ⟨0xFFFF, true⟩) ∧
  (∀ (a : Fin 64) s, s.mod.mode.cycles = true → (s.ixl.resolved.area a.val) = ⟨0xFFFF, false⟩ → (s.form false).areaReady a.val = true →
     Tab.getD s.image.areas a.val 0 ≠ 0 → Tab.wf s.ixl.resolved.areas = true →
     Runs (.restartTimerStart a) s fun t => t.ixl.resolved.area a.val = ⟨Tab.getD s.image.areas a.val 0, false⟩) ∧
  (∀ (o : BitVec 13) d s, s.mod.mode.cycles = true → Tab.get? s.image.elems o.toNat = some d → d.kind = .ts → d.cls ≠ 1 →
     (∀ p ∈ s.image.elems, p.2.ez ≠ some o.toNat) → Tab.wf s.ixl.resolved.elems = true → (s.ixl.resolved.elem o.toNat).state = 0 →
     (s.ixl.resolved.elem o.toNat).ta ≠ 0xFFFF → s.inputs.2.contains o.toNat = false →
     Tab.getD s.inputs.1 o.toNat 0 = 2 ∨ Tab.getD s.inputs.1 o.toNat 0 = 3 →
     Runs (.settleTimeExpired o) s fun t => (t.ixl.resolved.elem o.toNat).state = 2 ∧ (t.ixl.resolved.elem o.toNat).ta = 0xFFFF) ∧
  (∀ (o : BitVec 13) d s, s.mod.mode.cycles = true → Tab.get? s.image.elems o.toNat = some d → d.kind = .pt ∨ d.kind = .de →
     (s.ixl.resolved.elem o.toNat).cmd ≠ 0 → (s.ixl.resolved.elem o.toNat).ta ≠ 0xFFFF → Tab.wf s.ixl.resolved.elems = true →
     Runs (.throwTimeLimitExpired o) s fun t => (t.ixl.resolved.elem o.toNat).cmd = 0 ∧ (t.ixl.resolved.elem o.toNat).ta = 0xFFFF) ∧
  (∀ (o : BitVec 13) d s, s.mod.mode.cycles = true → Tab.get? s.image.elems o.toNat = some d → d.kind = .sg →
     (s.ixl.resolved.elem o.toNat).ta ≠ 0xFFFF → (s.ixl.resolved.elem o.toNat).unproven = false → Tab.wf s.ixl.resolved.elems = true →
     Tab.getD s.inputs.1 o.toNat 0 < 16 →
     Runs (.provingTimeExpired o) s fun t => (t.ixl.resolved.elem o.toNat).fa = true ∧ (t.ixl.resolved.elem o.toNat).cmd = 0) ∧
  (∀ (o : BitVec 13) d s, s.mod.mode.cycles = true → Tab.get? s.image.elems o.toNat = some d → d.kind = .lx →
     (s.ixl.resolved.elem o.toNat).state = 3 → (s.ixl.resolved.elem o.toNat).cmd = 0 → (s.ixl.resolved.elem o.toNat).ta ≠ 0xFFFF →
     Tab.getD s.inputs.1 o.toNat 0 ≠ 2 → Tab.wf s.ixl.resolved.elems = true →
     Runs (.closingLimitExpired o) s fun t => (t.ixl.resolved.elem o.toNat).state = 0) ∧
  (∀ (o : BitVec 13) d s, s.mod.mode.cycles = true → Tab.get? s.image.elems o.toNat = some d → d.kind = .bb →
     (s.ixl.resolved.elem o.toNat).ta ≠ 0xFFFF → Tab.wf s.ixl.resolved.elems = true →
     Runs (.boundaryTimeout o) s fun t => (t.ixl.resolved.elem o.toNat).unproven = true ∧ (t.ixl.resolved.elem o.toNat).fa = false ∧
       (t.ixl.resolved.elem o.toNat).fb = false ∧ (t.ixl.resolved.elem o.toNat).fc = true) ∧
  (∀ (o : BitVec 13) d s, s.mod.mode.cycles = true → Tab.get? s.image.elems o.toNat = some d → d.kind = .bb →
     (s.ixl.resolved.elem o.toNat).tb ≠ 0xFFFF → Tab.wf s.ixl.resolved.elems = true →
     Runs (.boundaryBackoffExpired o) s fun t => (t.ixl.resolved.elem o.toNat).tb = 0xFFFF) ∧
  (∀ (n : Fin 512) (row : Fin 8) a o d s, s.mod.mode.cycles = true → (Tab.getD s.net.nodes n.val .none).age = some a →
     Tab.get? s.image.elems o = some d → d.src = .node n.val → d.kind.hasInput = true → s.image.ageRow n.val d.kind = row.val →
     Tab.wf s.ixl.resolved.elems = true →
     Runs (.dataAgeExceeded n row) s fun t => (Tab.getD t.net.nodes n.val .none).age = some (max a (1000 * Tab.getD s.image.ages row.val 0 + 1)) ∧
       (t.ixl.resolved.elem o).unproven = true) ∧
  (∀ (src op : BitVec 16) (tg : Word) s, exec (.tokenExpired src op tg) s = .next { s with ixl := { s.ixl with
     tokens := s.ixl.tokens.filter fun t => !(t.source = src.toNat && t.opcode = op.toNat && t.target = tg.toNat) } })

/-- A stored request whose conditions do not hold ends at its storage time with the status that says why; approach control is satisfied
when its time ends while the route stays proved and its first section free; an approach-locked route, and a route under emergency
release, become IDLE when their time ends; at the overlap release time the last section and the overlap of a releasing route are
released together and the route becomes IDLE.
(R82, R86, R102, R106, R107) -/
def Obligations.RouteTimerCommands : Prop :=
  (∀ (r : BitVec 12) d s, s.mod.mode.cycles = true → Tab.get? s.image.routes r.toNat = some d → Tab.wf s.ixl.resolved.routes = true →
     (s.ixl.resolved.route r.toNat).st = .requested → (s.ixl.resolved.route r.toNat).timer ≠ 0xFFFF →
     (s.timerForm.setFail r.toNat d).status ≠ stOk →
     Runs (.storageTimeExpired r) s fun t => (t.ixl.resolved.route r.toNat).st = .idle ∧ r.toNat ∉ t.ixl.stored ∧
       Tab.getD t.ixl.leaves r.toNat stOk = (s.timerForm.setFail r.toNat d).status) ∧
  (∀ (r : BitVec 12) d sec s, s.mod.mode.cycles = true → Tab.get? s.image.routes r.toNat = some d → Tab.wf s.ixl.resolved.routes = true →
     Tab.wf s.ixl.use = true → (s.ixl.resolved.route r.toNat).st = .cleared → (s.ixl.resolved.route r.toNat).timer ≠ 0xFFFF →
     d.acMode ≠ 0 → d.apprTs = some sec → s.timerForm.tsOcc sec = true → (s.timerForm.sections d).head?.any s.timerForm.tsOcc = false →
     s.timerForm.proved r.toNat d = true →
     Runs (.approachControlTimeExpired r) s fun t => (t.ixl.resolved.route r.toNat).st = .cleared ∧
       (Tab.getD t.ixl.use r.toNat .none).acDone = true) ∧
  (∀ (r : BitVec 12) d s, s.mod.mode.cycles = true → Tab.get? s.image.routes r.toNat = some d → Tab.wf s.ixl.resolved.routes = true →
     (s.ixl.resolved.route r.toNat).st = .apprLocked → (s.ixl.resolved.route r.toNat).timer ≠ 0xFFFF →
     (s.timerForm.sections d).head?.any s.timerForm.tsOcc = false →
     Runs (.approachLockingTimeExpired r) s fun t => (t.ixl.resolved.route r.toNat).st = .idle) ∧
  (∀ (r : BitVec 12) d s, s.mod.mode.cycles = true → Tab.get? s.image.routes r.toNat = some d → Tab.wf s.ixl.resolved.routes = true →
     (s.ixl.resolved.route r.toNat).st = .emerg → (s.ixl.resolved.route r.toNat).timer ≠ 0xFFFF →
     Runs (.emergencyReleaseTimeExpired r) s fun t => (t.ixl.resolved.route r.toNat).st = .idle) ∧
  (∀ (o : BitVec 13) r x d e s, s.mod.mode.cycles = true → Tab.get? s.image.elems o.toNat = some e → e.kind = .ov →
     (s.ixl.resolved.elem o.toNat).ta ≠ 0xFFFF → s.ixl.resolved.routes = [(r, x)] → x.st = .releasing → x.ovOcc = false →
     Tab.get? s.image.routes r = some d → d.overlap = some o.toNat → x.halted = false →
     (Tab.getD s.ixl.use r .none).ovFreed = false → (Tab.getD s.ixl.use r .none).ovTime = .running → (Tab.getD s.ixl.use r .none).bad = [] →
     x.released + 1 = (s.timerForm.sections d).length → (s.timerForm.sections d).getLast?.any s.timerForm.tsOcc = true →
     (s.timerForm.ovSections d).any s.timerForm.tsOcc = false → Tab.wf s.ixl.resolved.elems = true →
     Runs (.overlapReleaseTimeExpired o) s fun t => (t.ixl.resolved.route r).st = .idle ∧ (t.ixl.resolved.elem o.toNat).ta = 0xFFFF)

/-- In the pass a local supervisor in READY whose rate is below standstill and whose point is commanded goes to THROW with that command
word, and a second pass in the cycle changes nothing; two strobes take the drive enable votes of a staged stop to OFF at once and
show STROBE_USED where a voter switched; fewer leave the votes and record the short strobe. When both forms agree and every voting
lane sends the same hash, the output accord resolves the cycle, stages the outputs with all three lanes and leaves the vote as it
is; when no two hashes agree nothing is staged and SAFE is due at T4; apply strobes of all three lanes make the staged votes and
downlink frames the applied ones; with fewer than two strobes nothing is applied and the votes lapse; a refresh makes the votes of
the voting lanes live, but none after a lapse. When every voting lane reads the ROM's MISR value, a slice outside the bank rotations
counts as run in every lane and the index advances; when one lane reads another value for the first time, that lane keeps the index
as failed and the slice is due again in every lane; where less than a slice's work is left of the tick, or one has run, none runs.
(R280, R281, R283, R287, R291, R292, R51, R52, R53, R54, R141, R257) -/
def Obligations.OutputAndSupervisorCommands : Prop :=
  (∀ units n d s, s.evalDue = true → s.sup.passed = false → s.mod.mode = .operate → s.image.sups = [(n, d)] → d.remote = false →
     (Tab.getD s.sup.sups n SupSt.halted0).st = .ready → ((Tab.getD s.sup.sups n SupSt.halted0).measure s.acc.accorded d).rate < d.still →
     ((s.ixl.resolved.elem d.point).cmd = 1 ∨ (s.ixl.resolved.elem d.point).cmd = 2) → (s.ixl.resolved.elem d.point).state ≠ 0 →
     Runs (.supervisorPass units) s fun t => (Tab.getD t.sup.sups n SupSt.halted0).st = .throw ∧
       (Tab.getD t.sup.sups n SupSt.halted0).cmd = (s.ixl.resolved.elem d.point).cmd ∧ t.sup.passTime = sat16 units ∧ t.sup.passed = true ∧ t.sup.halts = []) ∧
  (∀ units s, s.sup.passed = true → exec (.supervisorPass units) s = .next s) ∧
  (∀ n d o (got : LaneSet) s, s.mod.mode = .operate → s.acc.tick = 1 → s.sup.stopStaged = [n] → Tab.get? s.image.sups n = some d →
     (Tab.getD s.sup.sups n SupSt.halted0).st.enable = false → d.srUsed = false → Tab.get? s.fch.outs d.enCh = some o →
     2 ≤ LaneSet.count (LaneSet.inter got s.votingLanes) →
     Runs (.stopStrobe got) s fun t => t.sup.stopStaged = [] ∧ (if t.fch.switched s.fch then ∀ m, s.laneSt m = .voting → t.sup.strobeUsed.get m = true else t.sup.strobeUsed = s.sup.strobeUsed) ∧
       (Tab.getD t.fch.outs d.enCh .zero).hs.vote = LaneSet.none ∧ (Tab.getD t.fch.outs d.enCh .zero).ls.vote = LaneSet.none) ∧
  (∀ (got : LaneSet) s, s.mod.mode = .operate → s.acc.tick = 1 → s.sup.stopStaged ≠ [] →
     LaneSet.count (LaneSet.inter got s.votingLanes) < 2 →
     Runs (.stopStrobe got) s fun t => t.sup.stopStaged = [] ∧ (∀ m, s.laneSt m = .voting → t.sup.strobeShort.get m = true) ∧ t.fch.outs = s.fch.outs) ∧
  (∀ units s, s.formsRun = true → s.acc.tick = 3 → s.mod.role ≠ .tender → s.ixl.graphV = s.ixl.tableV → s.votingLanes = LaneSet.full →
     (∀ l, (s.lane l).core.lost = []) →
     Runs (.outputAccord LaneSet.full (PerLane.pure 0) units) s fun t => t.acc.staged = LaneSet.full ∧ t.ixl.cmpDone = true ∧
       (∀ l, (t.lane l).rte.cmpDone = true ∧ (t.lane l).rte.diffItems = 0) ∧ t.ixl.resolved = resolve s.image s.ixl.tableV s.ixl.tableV ∧
       t.acc.outHash = t.ixl.resolved.hash ∧ t.votingLanes = LaneSet.full ∧ t.acc.safeAt4 = s.acc.safeAt4) ∧
  (∀ units wrong s, s.formsRun = true → s.acc.tick = 3 → s.ixl.graphV = s.ixl.tableV →
     Runs (.outputAccord LaneSet.none wrong units) s fun t => t.acc.staged = LaneSet.none ∧ t.acc.safeAt4 = true ∧ t.fch.outs = s.fch.outs) ∧
  (∀ s, s.mod.mode.cycles = true → s.acc.tick = 4 → s.ixl.cmpDone = true → s.acc.staged = LaneSet.full →
     Runs (.applyStrobe LaneSet.full) s fun t => t.net.down = s.net.downNext ∧ t.net.contrib = LaneSet.full ∧ t.acc.lapsed = false ∧
       t.acc.staged = LaneSet.none ∧ t.acc.judged = [] ∧ t.sheets.outApplied = s.sheets.outStaged ∧ t.fch.outs = Tab.mapV s.fch.outs fun ch o =>
         ({ o with hs := { o.hs with vote := o.hs.staged }, ls := { o.ls with vote := o.ls.staged } } : ChOut).settle (s.holdCh ch)) ∧
  (∀ (got : LaneSet) s, s.mod.mode.cycles = true → s.acc.tick = 4 → s.ixl.cmpDone = true → s.acc.staged = LaneSet.full →
     LaneSet.count got < 2 → Runs (.applyStrobe got) s fun t => t.net.down = s.net.down ∧ t.net.contrib = LaneSet.none ∧
       t.acc.lapsed = true ∧ t.fch.outs = s.fch.outs ∧ t.sheets.outApplied = s.sheets.outApplied) ∧
  (∀ (k : Fin 10) s, s.mod.mode.refreshes = true → s.acc.lapsed = false → (∀ p ∈ s.fch.outs, ∀ l, p.2.hs.oddRun.get l = 0 ∧ p.2.ls.oddRun.get l = 0) →
     Runs (.voteRefresh k [] []) s fun t => ∀ p ∈ t.fch.outs, ∀ l, s.laneSt l = .voting → (s.lane l).core.rejoining = false →
       p.2.hs.live.get l = true ∧ p.2.ls.live.get l = true) ∧
  (∀ (k : Fin 10) s, s.mod.mode.refreshes = true → s.acc.lapsed = true → Runs (.voteRefresh k [] []) s fun t =>
     t.fch.outs.map (fun p => (p.1, p.2.hs.live, p.2.ls.live)) = s.fch.outs.map (fun p => (p.1, p.2.hs.live, p.2.ls.live))) ∧
  (∀ i secs s, s.mod.mode.cycles = true → s.acc.tick = 9 → s.acc.sliced = false → s.workLeft = false → s.knownWork ≤ 25000 → s.votingLanes = LaneSet.full → isRotation i = false →
     (∀ l, (s.lane l).diag.bstNext = i ∧ (s.lane l).diag.bstRepeat = false ∧ (s.lane l).diag.dmaFailed = []) →
     Runs (.selftestSlice (PerLane.pure (Config.misrExpected i)) secs) s fun t => ∀ l, (t.lane l).diag.bstNext = (i + 1) % 4096 ∧
       (t.lane l).diag.slicesRun = (s.lane l).diag.slicesRun + 1 ∧ (t.lane l).diag.slicesFailed = (s.lane l).diag.slicesFailed ∧
       t.laneSt l = .voting) ∧
  (∀ i secs (misr : PerLane (BitVec 64)) l s, s.mod.mode.cycles = true → s.acc.tick = 9 → s.acc.sliced = false → s.workLeft = false → s.knownWork ≤ 25000 → s.votingLanes = LaneSet.full → isRotation i = false →
     (∀ l, (s.lane l).diag.bstNext = i ∧ (s.lane l).diag.bstRepeat = false ∧ (s.lane l).diag.dmaFailed = [] ∧ (s.lane l).mmu.weakSpare = false) → misr.get l ≠ Config.misrExpected i →
     Runs (.selftestSlice misr secs) s fun t => (t.lane l).diag.bstFail = true ∧ (t.lane l).diag.lastFailed = i ∧
       ∀ k, (t.lane k).diag.bstNext = i ∧ (t.lane k).diag.bstRepeat = true ∧ t.laneSt k = .voting) ∧
  (∀ misr secs s, s.acc.sliced = true ∨ s.workLeft = true ∨ 25000 < s.knownWork → exec (.selftestSlice misr secs) s = .next s)

/-- A bogie mismatch empties the compare buffer and takes a voting lane out of a vote of three for cause 1; a reloaded image with the
right digest leads to the self-test or to the copy; a passed self-test leads to the copy and a failed one to FAILED; an armed copy
takes the sender's essence, a page not yet sent is kept before it is overwritten, and equal page hashes make the copy the lane's
essence and begin the catch-up, and other ones fail it; a failed copy is armed again; a catch-up of at most 3 000 cycles leads to
probation, whose cycles the output accord counts; three in step lead to the wait for the vote, a difference back to the copy; a
time-out leads to OUT; a lane out for POWER begins a resync.
(R59, R352, R353, R356, R357, R358, R359, R360, R361) -/
def Obligations.LaneReturnCommands : Prop :=
  (∀ l tmo s, s.mod.mode = .operate → s.votingLanes = LaneSet.full → Runs (.bogieMismatch l tmo) s fun t =>
     t.laneSt l = .minority ∧ (t.lane l).core.cause = 1 ∧ (t.lane l).core.mismatch = true ∧ (t.lane l).core.cmpBuf = []) ∧
  (∀ l again s, s.inStep l 1 = true → (s.lane l).core.resync.waitClock = false → Runs (.resyncImageReload l true again) s fun t =>
     (t.lane l).core.resync.step = (if (s.lane l).core.resync.needsTest then 2 else 3) ∧ t.laneSt l = .resync) ∧
  (∀ l passed s, s.inStep l 2 = true → (s.lane l).core.asked = none → Runs (.resyncSelftestComplete l passed) s fun t =>
     if passed then t.inStep l 3 = true ∧ (t.lane l).core.resync.armWait = 1 else t.laneSt l = .failed) ∧
  (∀ l m s, s.mod.mode.cycles = true → s.acc.tick = 0 → s.inStep l 3 = true → (s.lane l).core.resync.armWait = 0 →
     (s.lane l).core.resync.copyRunning = false → LaneSet.first s.votingLanes = some m →
     Runs (.resyncCopyArmed l) s fun t => t.receiving l = true ∧ (t.lane l).mmu.incoming = (s.lane m).mmu.essence ∧
       (t.lane l).core.stored = 0 ∧ (t.lane m).mmu.sentPages = []) ∧
  (∀ m (page : Fin 4096) s, (Lane.all.any s.receiving = true ∧ LaneSet.first s.votingLanes = some m) ∨ (s.lane m).diag.keyframeBusy = true →
     (s.lane m).mmu.sentPages.contains page.val = false →
     Runs (.copyBeforeWrite m page) s fun t => (t.lane m).mmu.snapBuf.head? = some page.val ∧
       (t.lane m).mmu.sentPages = insertNat page.val (s.lane m).mmu.sentPages ∧ (t.lane m).mmu.bytes = (s.lane m).mmu.bytes) ∧
  (∀ l (a b : Word) s, s.receiving l = true → a ++ b = pageHash (s.lane l).mmu.receivedPages → Runs (.resyncCopyComplete l a b) s fun t => t.inStep l 4 = true ∧
     (t.lane l).mmu.bytes = ((s.lane l).mmu.withEssence (s.lane l).mmu.incoming).bytes ∧ (t.lane l).mmu.incoming = [] ∧
     (t.lane l).core.resync.pages = 4096) ∧
  (∀ l (a b : Word) s, s.receiving l = true → a ++ b ≠ pageHash (s.lane l).mmu.receivedPages → (s.lane l).core.resync.failedCopies < 8 →
     Runs (.resyncCopyComplete l a b) s fun t => t.inStep l 3 = true ∧ (t.lane l).core.resync.armWait = 2 ∧
       (t.lane l).mmu.bytes = (s.lane l).mmu.bytes ∧ (t.lane l).core.resync.failedCopies = (s.lane l).core.resync.failedCopies + 1) ∧
  (∀ l s, s.receiving l = true → (s.lane l).core.resync.failedCopies < 8 → Runs (.resyncCopyFailed l) s fun t => t.inStep l 3 = true ∧
     t.receiving l = false ∧ (t.lane l).core.resync.failedCopies = (s.lane l).core.resync.failedCopies + 1 ∧
     (t.lane l).core.resync.armWait = 2 ∧ (t.lane l).mmu.incoming = []) ∧
  (∀ l n s, s.inStep l 4 = true → (s.lane l).core.resync.behind = n → n ≤ 3000 → Runs (.catchUpComplete l n) s fun t => t.inStep l 5 = true ∧
     (t.lane l).core.resync.caughtUp = n ∧ (t.lane l).core.resync.probation = 0) ∧
  (∀ l n s, s.inStep l 4 = true → (s.lane l).core.resync.behind = n → 3000 < n → Runs (.catchUpComplete l n) s fun t => t.laneSt l = .out) ∧
  (∀ l s, s.inStep l 4 = true → Runs (.catchUpTimeout l) s fun t => t.laneSt l = .out) ∧
  (∀ l n s, s.inStep l 5 = true → (s.lane l).core.resync.probation = n → 3 ≤ n → Runs (.probationComplete l n) s fun t => t.inStep l 6 = true) ∧
  (∀ l n s, (s.lane l).core.resync.probation < 3 → s.plink.probation < 3 → exec (.probationComplete l n) s = .next s) ∧
  (∀ agreed (wrong : PerLane (BitVec 64)) (l : Lane) (s : State), s.inStep l 5 = true → ((s.laneProbation agreed wrong).lane l).core.resync.probation =
       (if s.acc.outHash ^^^ wrong.get l = agreed then (s.lane l).core.resync.probation + 1 else 0) ∧
     (s.laneProbation agreed wrong).inStep l (if s.acc.outHash ^^^ wrong.get l = agreed then 5 else 3) = true) ∧
  (∀ l s, s.mod.mode.cycles = true → s.laneSt l = .resync → (s.lane l).core.resync.waiting = false →
     Runs (.resyncTimeout l) s fun t => t.laneSt l = .out) ∧
  (∀ l s, s.mod.mode.lanesRun = true → s.laneSt l = .out → (s.lane l).core.cause = 8 → s.autoResyncs l < 3 →
     s.required * 125 ≤ (s.lane l).speedAtLevel 0 * 100 →
     Runs (.powerRecovery l) s fun t => t.inStep l 1 = true ∧ (t.lane l).pwr.railFault = false ∧
       (t.lane l).core.autoTimes = s.rcd.opTime :: (s.lane l).core.autoTimes)

/-- A periodic task that is due at T3 becomes ready with its release tick; a dispatch point with nothing to run only counts; a dispatch
point of the grid of 2 000 work units evaluates the next block of the run under way, writes its record and charges its work; a run
whose blocks are all evaluated ends and its outputs are published; an event latched for an idle task makes it ready; changed
retained states are written when 10 s have passed.
(R35, R156, R164, R166, R171, R172, R173, R174, R177) -/
def Obligations.SheetCommands : Prop :=
  (∀ (k : Fin 16) d s, s.mod.mode = .operate → s.acc.tick = 3 → Tab.get? s.image.tasks k.val = some d → d.kind = 1 → d.period ≠ 0 →
     s.mod.cycle.toNat % d.period = d.phase → (s.taskSt k.val).ready = false → (s.taskSt k.val).running = false →
     Runs (.taskRelease k) s fun t => (t.taskSt k.val).ready = true ∧ (t.taskSt k.val).release = 10 * s.mod.cycle.toNat + 3) ∧
  (∀ (k : Fin 16) d s, s.mod.mode = .operate → s.acc.tick = 3 → Tab.get? s.image.tasks k.val = some d → d.kind = 1 → d.period ≠ 0 →
     s.mod.cycle.toNat % d.period = d.phase → (s.taskSt k.val).ready = true ∨ (s.taskSt k.val).running = true →
     Runs (.taskRelease k) s fun t => t.sheets = s.sheets) ∧
  (∀ s, s.tasksRun = true → s.sheets.point < 20 → s.sheets.current = none → s.readyTasks = [] → s.sheets.preempted = [] →
     Runs .dispatchPoint s fun t => t.sheets = { s.sheets with point := s.sheets.point + 1 }) ∧
  (∀ k i d s, s.tasksRun = true → s.sheets.point < 20 → s.sheets.current = some k → s.isEvent k = true →
     (s.image.taskBlocks k).drop (s.taskSt k).next = [(i, d)] →
     s.sheets.charged < 2000 * (s.sheets.point + 1) → s.sheets.charged + blockCharge d.type d.inputs.length ≤ tickBudget s.acc.tick →
     Runs .dispatchPoint s fun t => Tab.get? t.sheets.blocks i = some (s.evalBlock k i d).st ∧ (t.taskSt k).next = (s.taskSt k).next + 1 ∧
       t.sheets.charged = s.sheets.charged + blockCharge d.type d.inputs.length ∧ t.sheets.point = s.sheets.point + 1) ∧
  (∀ (k : Fin 24) s, s.tasksRun = true → s.sheets.current = some k.val → (s.taskSt k.val).running = true → (s.taskSt k.val).ready = false →
     (s.taskSt k.val).next = (s.image.taskBlocks k.val).length → s.sheets.charged < 2000 * s.sheets.point →
     s.sheets.charged + 40 ≤ tickBudget s.acc.tick → s.readyTasks = [] → s.sheets.preempted = [] →
     Runs (.runComplete k) s fun t => t.sheets.current = none ∧ t.sheets.charged = s.sheets.charged + 40 ∧
       (t.taskSt k.val).running = false ∧ (t.taskSt k.val).ran = true ∧
       t.sheets.outDone = (s.taskSt k.val).buf.outs.foldl
         (fun o p => (Tab.get? s.image.blocks p.1).elim o fun b => putPlace o b.param p.2) s.sheets.outDone) ∧
  (∀ k d s, s.mod.mode = .operate → s.acc.tick ≠ 3 → s.image.tasks = [(k, d)] → d.kind = 2 → s.sheets.raised.contains (k - 16) = true →
     (s.taskSt k).ready = false → (s.taskSt k).running = false → (s.taskSt k).startedIn ≠ some s.mod.cycle.toNat →
     Runs .eventLatch s fun t => (t.taskSt k).ready = true ∧ (t.taskSt k).release = 10 * s.mod.cycle.toNat + s.acc.tick ∧ t.sheets.raised = []) ∧
  (∀ s, s.mod.mode = .operate → s.sheets.retainDirty = true → s.sheets.retainSince = 0 ∨ s.sheets.retainSince + 10000 ≤ s.rcd.opTime → exec .retainedStateWrite s =
     .next { s with sheets := { s.sheets with retained := s.retainedNow, retainDirty := false, retainSince := s.rcd.opTime } })

/-- A round in which the three lanes of a SOLO module agree exactly synchronises each with V = 3 and correction 0 and the network with
them; RATE takes the sum of eight corrections times 32 within its limits; RECOVERY sends one beacon on every port in slot 0 of a
round, and the next round follows; the network time is persisted and never goes back. A module that listened in vain cold-starts
under a new generation from the persisted time plus 60 s; four cold-start rounds on, its network runs and it is SOLO or LEAD, and a
LEAD whose partner link is down counts the partner's channel lost; against a claim that is not lower its cold start collides, and it
listens again after the back-off; it abandons its network when the nodes obey another module and the link is down, and listens again
after 30 full silent rounds.
(R212, R215, R217, R218, R219, R220, R28, R206, R221, R222, R223) -/
def Obligations.NetworkTimeAndStartCommands : Prop :=
  (∀ r s, s.mod.mode = .operate → s.mod.pos = 0 → s.net.running = true → s.net.phase = .running → newer r s.net.round = true →
     s.votingLanes = LaneSet.full →
     Runs (.roundStart r ⟨[(1, 0), (2, 0)], [(0, 0), (2, 0)], [(0, 0), (1, 0)]⟩ none) s fun t => t.net.round = r ∧ t.net.synced = true ∧
       ∀ l, (t.lane l).tbs.synced = true ∧ (t.lane l).tbs.v = 3 ∧ (t.lane l).tbs.lastC = 0 ∧ t.laneSt l = .voting) ∧
  (∀ l s, (s.lane l).tbs.corr.length = 8 → exec (.rateUpdate l) s = .next (s.modTbs l fun t =>
     { t with rate := max (-128000) (min 128000 (t.rate + 32 * t.corr.foldl (· + ·) 0)), corr := [] })) ∧
  (∀ s, s.mod.mode = .recovery → Runs .beaconSend s fun t => t.net.sent.map SentFrame.port = List.range 64 ∧
     (∀ f ∈ t.net.sent, f.slot = 0 ∧ f.round = s.net.round ∧ f.aborted = false) ∧ t.net.round = s.net.round + 1) ∧
  (∀ s, s.net.running = true → exec .networkTimePersist s =
     .next { s with net := { s.net with persistedTime := max s.net.persistedTime s.net.netTime } }) ∧
  (∀ s, s.mod.mode.cycles = true → s.net.phase = .listening → Runs .partnerListenTimeout s fun t => t.net.phase = .coldRounds 4 ∧
     t.net.running = true ∧ t.net.synced = false ∧ t.net.generation = s.net.generation + 1 ∧
     t.netNow = coldTime s.net.persistedTime ∧ t.acc.accorded.time = coldTime s.net.persistedTime ∧ t.net.claim = BitVec.ofNat 32 ((s.net.generation + 1) * 256 + s.mod.pos) ∧ t.net.netTime = coldTime s.net.persistedTime ∧
     t.net.round = roundOf (coldTime s.net.persistedTime) ∧ t.net.servesX = true ∧ t.net.servesY = decide (s.mod.pos = 0)) ∧
  (∀ s, s.mod.mode.cycles = true → s.net.phase = .coldRounds 0 → Runs .coldstartRoundsComplete s fun t => t.net.phase = .running ∧
     t.mod.role = (if s.mod.pos = 0 then .solo else .lead) ∧ t.mod.cond = .none ∧ t.net.collisions = 0 ∧
     t.net.servesX = (decide (s.mod.pos = 0) || !s.plink.leadChannelY) ∧ t.net.servesY = (decide (s.mod.pos = 0) || s.plink.leadChannelY)) ∧
  (∀ n d s, s.mod.mode.cycles = true → s.net.phase = .coldRounds 0 → s.mod.pos ≠ 0 → s.plink.up = false → (n, d) ∈ s.image.nodes → Tab.wf s.net.nodes = true →
     Runs .coldstartRoundsComplete s fun t => t.mod.role = .lead ∧ (if s.plink.leadChannelY then (t.node n).declX else (t.node n).declY) = true) ∧
  (∀ c n s, s.net.phase = .coldRounds n → Runs (.coldstartCollision c) s fun t => t.net.otherClaim = c ∧
     (if c.toNat < s.net.claim.toNat then t.net.phase = s.net.phase ∧ t.net.running = s.net.running
      else t.net.phase = .collided ∧ t.net.running = false ∧ t.net.collisions = s.net.collisions + 1)) ∧
  (∀ s, s.net.phase = .collided → exec .collisionBackoffExpired s = .next { s with net := { s.net with phase := .listening } }) ∧
  (∀ c s, s.mod.mode = .integrate → s.mod.pos ≠ 0 → s.plink.up = false → s.net.running = true → s.othersObeyed = true →
     Runs (.coldstartAbandoned c) s fun t => t.net.phase = .abandoned 0 ∧ t.net.running = false ∧ t.net.otherClaim = c) ∧
  (∀ n s, s.net.phase = .abandoned n → 31 ≤ n → exec .networkSilence s = .next { s with net := { s.net with phase := .listening } })

/-- A downlink slot in which three lanes hold the same bytes for the round sends them on both channels; the tender's hub counts a slot
whose bytes are late; slot c ranges the node whose turn it is; a valid reply gives its delay and a window without one reports it; a
late-comer that claims with its digest is granted the lowest spare pair from the round after its GRANTED frame on, and loses it
after 100 silent rounds.
(R207, R208, R209, R210, R227, R228, R235, R236) -/
def Obligations.HubSendCommands : Prop :=
  (∀ (n : Fin 512) d slot (bs : Lane → List Byte) s, s.mod.mode.cycles = true → s.net.running = true → s.net.phase = .running →
     s.mod.role ≠ .tender → Tab.get? s.image.nodes n.val = some d → s.slotOf d true = some slot → s.net.contrib = LaneSet.full →
     s.serves d.portX = true → s.serves (d.portY + 32) = true → d.portX < 32 →
     (∀ l, ∃ v, Tab.get? (s.net.down.get l) n.val = some v ∧ v.round0 = s.net.round ∧ v.bytes0 = bs .a ∧ v.bytes0.length = d.dnLen + 8) →
     Runs (.slotVote n (PerLane.pure [])) s fun t => t.net.sent = s.net.sent ++
       [⟨d.portX, slot, s.net.round, lineFrame false (bs .a), false⟩, ⟨d.portY + 32, slot, s.net.round, lineFrame true (bs .a), false⟩]) ∧
  (∀ (n : Fin 512) s, s.mod.mode.cycles = true → s.obeys = true → (Tab.get? s.image.nodes n.val).isSome = true →
     (∀ p, Tab.get? s.net.partnerBytes n.val = some p → p.1 ≠ s.net.round) → exec (.partnerLate n) s = .next { s with net := { s.net with
       awaited := s.net.awaited.filter (· ≠ n.val),
       counts := { s.net.counts with partnerLate := satAdd 0xFFFF s.net.counts.partnerLate 1 } } }) ∧
  (∀ (p : Port) c n s, s.mod.mode.cycles = true → s.net.running = true → s.serves p.val = true → s.slotC p.val = some c →
     (Tab.getD s.net.ports p.val .none).grants = [] → (Tab.getD s.net.ports p.val .none).delayMsg = none → s.toProbe p.val = some n →
     Runs (.grantWindow p) s fun t => (Tab.getD t.net.ports p.val .none).probing = some n ∧ (Tab.getD t.net.ports p.val .none).turn = n + 1 ∧
       (Tab.getD t.net.ports p.val .none).probedSlotC = true ∧ t.net.sent.length = s.net.sent.length + 1) ∧
  (∀ (p : Port) arr (bs : List Byte) i c s, (Tab.getD s.net.ports p.val .none).probing = some i → s.slotC p.val = some c → s.net.running = true →
     12 ≤ bs.length → leAt bs (bs.length - 4) 4 = (crc32c (bs.take (bs.length - 4))).toNat → 1727 ≤ arr → arr ≤ 10528 →
     bits (leAt bs 0 8) 17 8 = s.nodeId i → bits (leAt bs 0 8) 41 32 = c →
     Runs (.probeReply p arr bs) s fun t => (Tab.getD t.net.ports p.val .none).delayMsg = some (i, 0, (arr - 1727) / 2) ∧
       ((Tab.getD t.net.nodes i .none).chan (decide (32 ≤ p.val))).delay = some ((arr - 1727) / 2)) ∧
  (∀ (p : Port) long i s, (Tab.getD s.net.ports p.val .none).probing = some i → Runs (.rangingWindowEnd p long) s fun t =>
     (Tab.getD t.net.ports p.val .none).probing = none ∧ (Tab.getD t.net.ports p.val .none).delayMsg = some (i, if long then 2 else 1, 0xFFFF)) ∧
  (∀ (p : Port) (bs dg : List Byte) c n d u w s, s.mod.mode.cycles = true → s.net.running = true → s.serves p.val = true → s.mod.pos = 0 →
     (Tab.getD s.net.ports p.val .none).probedSlotC = false → (Tab.getD s.net.ports p.val .none).closed = false →
     s.slotC p.val = some c → s.mod.role ≠ .tender →
     s.rxKind p.val (Tab.getD s.net.active (1000 * p.val + (c + 1)) 0) = .claim →
     (s.frameCheck p.val (c + 1) (Tab.getD s.net.active (1000 * p.val + (c + 1)) 0) true bs none).1 = 0 →
     s.image.nodes.find? (fun q => q.2.id = bits (leAt bs 0 8) 17 8) = some (n, d) → d.keyDigest = some dg →
     ((bs.drop 8).take (bits (leAt bs 0 8) 30 24)).take 8 = dg → Tab.get? s.net.grants n = none → s.net.grantsOn = true →
     s.net.frozen = false → d.portX = p.val ∨ d.portY + 32 = p.val → s.spareSlot d false = some u → s.spareSlot d true = some w →
     Runs (.claimReceived p bs) s fun t => Tab.get? t.net.grants n = some ⟨u, w, s.fromRound d, 0⟩ ∧ (s.net.grants = [] → s.fromRound d = s.net.round + 2)) ∧
  (∀ (n : Fin 512) g d s, Tab.get? s.net.grants n.val = some g → Tab.get? s.image.nodes n.val = some d → 100 ≤ g.silent → s.net.frozen = false →
     Runs (.grantReleased n) s fun t => t.net.grants = Tab.erase s.net.grants n.val)

/-- A vital frame that the hub admits and that passes every check makes its node a member heard in this round; a single copy below
COMPARE_N is deposited at the deadline and counted; a member silent for three rounds is none any more; four rounds after a closure
frames with INTEGRATE are admitted; a channel declared lost is in use again after 16 agreeing rounds.
(R199, R203, R205, R206, R230, R232) -/
def Obligations.ReceptionCommands : Prop :=
  (∀ (p : Port) slot sof en behind (bs : List Byte) n d s, s.mod.mode.cycles = true → slot < 1000 → s.net.running = true → s.mod.pos = 0 →
     (if p.val < 32 then s.net.servesX else s.net.servesY) = true →
     (s.inClaimWindow p.val slot = true → (Tab.getD s.net.ports p.val .none).probedSlotC = false) →
     s.rxKind p.val (Tab.getD s.net.active (1000 * p.val + slot) 0) = .vital → 70 ≤ sof → sof ≤ 570 → en ≤ 9500 →
     s.slotNode p.val (Tab.getD s.net.active (1000 * p.val + slot) 0) = some (n, d) →
     s.pairClosed p.val .vital (some n) (bitOf (leAt bs 0 8) 22) = false →
     (s.frameCheck p.val slot (Tab.getD s.net.active (1000 * p.val + slot) 0) true bs (some d)).1 = 0 →
     Runs (.frameReceived p slot sof en ⟨false, behind⟩ bs) s fun t => ((t.node n).chan (decide (32 ≤ p.val))).member = true ∧
       ((t.node n).chan (decide (32 ≤ p.val))).seen = true ∧ ((t.node n).chan (decide (32 ≤ p.val))).silent = 0 ∧
       ((t.node n).chan (decide (32 ≤ p.val))).offset = some (arrivalOffset sof)) ∧
  (∀ (n : Fin 512) w d s, (s.node n.val).waiting = some w → Tab.get? s.image.nodes n.val = some d → w.both = false → w.deposited = false →
     w.refused = false → (s.node n.val).declX = false → (s.node n.val).declY = false → (s.node n.val).single < d.compareN →
     Runs (.pairingDeadline n) s fun t => (t.node n.val).single = (s.node n.val).single + 1 ∧
       (t.node n.val).waiting = some { w with deposited := true } ∧ t.net.counts.accepted = satAdd 0xFFFF s.net.counts.accepted 1 ∧
       ∀ l, s.ticking l = true → Tab.get? (t.acc.bufs.get l) n.val =
         some ((Tab.getD (s.acc.bufs.get l) n.val ⟨none, none, none⟩).add w.frame (s.acc.isOpen || s.acc.behind.get l))) ∧
  (∀ (n : Fin 512) ch s, ((s.node n.val).chan (decide (ch = NetChan.y))).member = true → 3 ≤ ((s.node n.val).chan (decide (ch = NetChan.y))).silent →
     Runs (.membershipLost n ch) s fun t => ((t.node n.val).chan (decide (ch = NetChan.y))).member = false ∧
       (t.node n.val).chan (decide (ch ≠ NetChan.y)) = (s.node n.val).chan (decide (ch ≠ NetChan.y))) ∧
  (∀ (n : Fin 512) ch s, ((s.node n.val).chan (decide (ch = NetChan.y))).closed = true → 4 ≤ ((s.node n.val).chan (decide (ch = NetChan.y))).hold →
     Runs (.accessClosureHoldEnd n ch) s fun t => ((t.node n.val).chan (decide (ch = NetChan.y))).admitInteg = true ∧
       ((t.node n.val).chan (decide (ch = NetChan.y))).closed = true) ∧
  (∀ (n : Fin 512) ch s, 16 ≤ (s.node n.val).agreeRun → s.channelBack n.val (decide (ch = NetChan.y)) = true →
     Runs (.channelLossEnd n ch) s fun t => (if ch = NetChan.y then (t.node n.val).declY else (t.node n.val).declX) = false)

/-- An entry written through a lane's window goes to the inactive bank, and a write to the active or the frozen bank is refused; a
request freezes the inactive bank; equal CRCs of an armed partner leave the switch armed; at the named round two lanes with the
right CRC exchange the banks and unfreeze them, but a module of a pair whose partner has not armed keeps its banks; a cancelled
request is gone.
(R198, R214, R238) -/
def Obligations.SlotBankCommands : Prop :=
  (∀ l e s, s.regsRun l = true → RegisterRoom s l → (s.net.regs.get l).addrBank ≠ s.net.activeBank1 → s.net.frozen = false → (s.net.regs.get l).addrSlot ≤ 999 →
     Runs (.hubSlotDataWrite l e) s fun t => t.net.inactive = writeBank s.net.inactive (s.net.regs.get l).addrPort (s.net.regs.get l).addrSlot [e] ∧
       t.net.active = s.net.active ∧ (t.net.regs.get l).refused = false) ∧
  (∀ l e s, s.regsRun l = true → RegisterRoom s l → (s.net.regs.get l).addrBank = s.net.activeBank1 ∨ s.net.frozen = true →
     Runs (.hubSlotDataWrite l e) s fun t => t.net.inactive = s.net.inactive ∧ t.net.active = s.net.active ∧ (t.net.regs.get l).refused = true) ∧
  (∀ l r s, s.regsRun l = true → RegisterRoom s l → Runs (.hubSwitchRoundWrite l r) s fun t => t.net.frozen = true ∧ (t.net.regs.get l).request = some r ∧
     (t.net.regs.get l).crc = (s.net.regs.get l).crc) ∧
  (∀ r c s, s.net.switchRound = some (r, c) → s.net.frozen = true → s.mod.pos ≠ 0 →
     Runs (.bankCrcExchange (bankCrc s.net.inactive) true) s fun t => t.net.partnerArmed = true ∧ t.net.frozen = true) ∧
  (∀ r c s, s.net.switchRound = some (r, c) → s.net.frozen = true → s.net.running = true → newer r s.net.round = false →
     s.mod.pos = 0 ∨ s.net.partnerArmed = true →
     2 ≤ (Lane.all.filter fun l => (s.net.regs.get l).request = some r && (s.net.regs.get l).crc = bankCrc s.net.inactive).length →
     Runs .bankSwitch s fun t => t.net.active = s.net.inactive ∧ t.net.inactive = s.net.inactive ∧ t.net.activeBank1 = !s.net.activeBank1 ∧
       t.net.frozen = false ∧ t.net.switchRound = none) ∧
  (∀ r c s, s.net.switchRound = some (r, c) → s.net.frozen = true → s.net.running = true → newer r s.net.round = false →
     s.mod.pos ≠ 0 → s.net.partnerArmed = false →
     Runs .bankSwitch s fun t => t.net.active = s.net.active ∧ t.net.inactive = s.net.inactive ∧ t.net.activeBank1 = s.net.activeBank1 ∧
       t.net.frozen = false ∧ t.net.switchRound = none) ∧
  (∀ l (v : Word) s, s.regsRun l = true → RegisterRoom s l → v.getLsbD 0 = true → Runs (.hubSwitchCancel l v) s fun t => (t.net.regs.get l).request = none)

/-- A sample changes an INPUT or COUNT channel of a running lane by debounce and own window; a dynamic frame updates the test and cross
findings; an invalid combination that has lasted sets DISCREPANCY of both channels of the pair in the lane and a valid one clears
it; a supply below 15 V is lost and above 16 V back; an event in the acknowledge phase merges and is recorded.
(R243, R249, R250, R252, R253, R496) -/
def Obligations.InputChannelCommands : Prop :=
  (∀ lv at_ l ch d s, s.mod.mode.lanesRun = true → s.laneSt l ≠ .hold → s.laneSt l ≠ .failed → s.image.chans.filter (fun p => p.2.mode = .input || p.2.mode = .count) = [(ch, d)] →
     Runs (.comparatorSample lv at_) s fun t => t.chSense l ch = (s.chSense l ch).sample d ((lv.get l).getLsbD ch) (inOwnWindow at_ ch)) ∧
  (∀ l (hi lo : List Chan) ch d s, s.mod.mode.lanesRun = true → s.laneSt l ≠ .hold → s.laneSt l ≠ .failed → s.image.chans.filter (fun p => p.2.mode = .input) = [(ch, d)] →
     Runs (.dynamicFrame l hi lo) s fun t => t.chSense l ch =
       (s.chSense l ch).dynFrame d.dynamic ((hi.map Fin.val).contains ch) ((lo.map Fin.val).contains ch)) ∧
  (∀ l (p : Fin 32) s, s.mod.mode.lanesRun = true → s.pairValid l p.val = some false → Tab.wf (s.fch.lanes.get l).chans = true →
     Runs (.discrepancyTimeExpired l p) s fun t => (t.chSense l (2 * p.val)).discrepancy = true ∧ (t.chSense l (2 * p.val + 1)).discrepancy = true) ∧
  (∀ l (p : Fin 32) s, s.mod.mode.lanesRun = true → s.pairValid l p.val = some true → Tab.wf (s.fch.lanes.get l).chans = true →
     Runs (.discrepancyCleared l p) s fun t => (t.chSense l (2 * p.val)).discrepancy = false ∧ (t.chSense l (2 * p.val + 1)).discrepancy = false) ∧
  (∀ l (g : Group) v s, s.mod.mode.lanesRun = true → s.laneSt l ≠ .failed → v < 1500 → (s.fch.lanes.get l).groupLost.getLsbD g.val = false →
     Runs (.vfldLost l g v) s fun t => (t.fch.lanes.get l).groupLost.getLsbD g.val = true) ∧
  (∀ l (g : Group) v s, s.mod.mode.lanesRun = true → s.laneSt l ≠ .failed → 1600 < v → (s.fch.lanes.get l).groupLost.getLsbD g.val = true →
     Runs (.vfldRestored l g v) s fun t => (t.fch.lanes.get l).groupLost.getLsbD g.val = false) ∧
  (∀ l ch s, s.mod.mode.lanesRun = true → s.laneSt l ≠ .failed → Runs (.diagnosticEvent l ch true) s fun t =>
     (t.fch.lanes.get l).merged = true ∧ (t.lane l).clk.merged = (s.lane l).clk.merged ||| 4 ∧ (t.lane l).core.events = (s.lane l).core.events ||| 1)

/-- A due test that the live lanes send makes the voter apply the opposite of the channel's state - an OFF-pulse where the readback
shows it energised, an ON-test where it shows the other switch open; an ABORT of a live lane ends an ON-test at once and counts as
its fail; the voter reverts when the pulse ends; readings that all pass leave the switch passed in every lane, readings that fail in
all three live lanes latch FAILED in both voters; a voter test that leaves the switch unchanged and is reported passes, and any
other sets VOTER_FAIL and latches FAILED.
(R261, R262, R263, R264, R265) -/
def Obligations.OutputTestCommands : Prop :=
  (∀ (ch : Chan) hi o s, s.mod.mode.cycles = true → s.acc.tick = 6 → Tab.get? s.fch.outs ch.val = some o → s.testDue ch.val hi = true →
     s.testBarred ch.val o = false → o.energised = true → (∀ l, (s.chSense l ch.val).hsClosed = true ∧ (s.chSense l ch.val).lsClosed = true) →
     (o.voter hi).live = LaneSet.full → s.votingLanes = LaneSet.full →
     Runs (.switchTest ch hi LaneSet.full) s fun t => ((Tab.getD t.fch.outs ch.val .zero).voter hi).test = some false ∧
       ((Tab.getD t.fch.outs ch.val .zero).voter hi).closed = false ∧ (Tab.getD t.fch.outs ch.val .zero).testRun = some (hi, false)) ∧
  (∀ (ch : Chan) hi o s, s.mod.mode.cycles = true → s.acc.tick = 6 → Tab.get? s.fch.outs ch.val = some o → s.testDue ch.val hi = true →
     s.testBarred ch.val o = false → o.energised = false → (∀ l, s.otherOpen l ch.val hi = true) →
     (o.voter hi).live = LaneSet.full → s.votingLanes = LaneSet.full →
     Runs (.switchTest ch hi LaneSet.full) s fun t => ((Tab.getD t.fch.outs ch.val .zero).voter hi).test = some true ∧
       (Tab.getD t.fch.outs ch.val .zero).testRun = some (hi, true)) ∧
  (∀ l (ch : Chan) hi o s, Tab.get? s.fch.outs ch.val = some o → o.testRun = some (hi, true) → (o.voter hi).test = some true →
     (o.voter hi).live.get l = true →
     Runs (.onTestAbort l ch hi) s fun t => ((Tab.getD t.fch.outs ch.val .zero).voter hi).test = none ∧
       (Tab.getD t.fch.outs ch.val .zero).failVotes.get l = true) ∧
  (∀ (ch : Chan) hi o s, Tab.get? s.fch.outs ch.val = some o → Runs (.testRevert ch hi) s fun t =>
     ((Tab.getD t.fch.outs ch.val .zero).voter hi).test = none) ∧
  (∀ (ch : Chan) hi on rd o s, Tab.get? s.fch.outs ch.val = some o → o.testRun = some (hi, on) → (o.voter hi).test = none → o.failVotes = LaneSet.none →
     (∀ l, testPasses (rd.get l) hi on (10 * Tab.getD (s.fch.lanes.get l).vfld (ch.val / 8) 0) = true) →
     Runs (.testResult ch hi rd) s fun t => (Tab.getD t.fch.outs ch.val .zero).testRun = none ∧
       (Tab.getD t.fch.outs ch.val .zero).hs.failed = o.hs.failed ∧
       ∀ l, (t.fch.lanes.get l).lastPass = true ∧ (t.fch.lanes.get l).lastCh = ch.val ∧ (t.chSense l ch.val).swFail = false) ∧
  (∀ (ch : Chan) hi on rd o s, Tab.get? s.fch.outs ch.val = some o → o.testRun = some (hi, on) → (o.voter hi).test = none → o.hs.live = LaneSet.full →
     (∀ l, testPasses (rd.get l) hi on (10 * Tab.getD (s.fch.lanes.get l).vfld (ch.val / 8) 0) = false) →
     Runs (.testResult ch hi rd) s fun t => (Tab.getD t.fch.outs ch.val .zero).hs.failed = true ∧
       (Tab.getD t.fch.outs ch.val .zero).ls.failed = true ∧ (Tab.getD t.fch.outs ch.val .zero).hs.closed = false ∧
       ∀ l, (t.chSense l ch.val).swFail = true) ∧
  (∀ s, s.mod.mode.cycles = true → s.acc.tick = 7 → s.votingLanes = LaneSet.full → Runs (.voterTest true true) s fun t =>
     t.fch.voterPass = true ∧ t.fch.voterIndex = s.mod.cycle.toNat % 128 ∧ t.fch.voterLane = s.mod.cycle.toNat / 128 % 3) ∧
  (∀ un rp s, s.mod.mode.cycles = true → s.acc.tick = 7 → s.votingLanes = LaneSet.full → un = false ∨ rp = false →
     s.liveAt (s.mod.cycle.toNat % 64) = LaneSet.full →
     Runs (.voterTest un rp) s fun t => t.fch.voterPass = false ∧
       (Tab.getD t.fch.outs (s.mod.cycle.toNat % 64) .zero).hs.failed = true ∧ (Tab.getD t.fch.outs (s.mod.cycle.toNat % 64) .zero).ls.failed = true ∧
       ∀ l, (t.chSense l (s.mod.cycle.toNat % 64)).voterFail = true)

/-- A vote older than its time-out stops counting at the channel and a withdrawn lane's votes everywhere; an old minority report ends;
an overload or overtemperature opens a channel, the third in 60 s for good; a group over 4.4 A opens its outputs and a module over
17.6 A sheds from the highest group; an opened channel or group whose votes are ON is enabled again; two lanes' tokens within 20 us
flip VRD, a lone one does not, and a time-out stops it; a forced channel whose duration is used up is released.
(R257, R258, R259, R268, R350, R530) -/
def Obligations.ProtectionCommands : Prop :=
  (∀ l (ch : Chan) o s, Tab.get? s.fch.outs ch.val = some o → Runs (.silentTimeout l ch) s fun t =>
     (Tab.getD t.fch.outs ch.val .zero).hs.live = o.hs.live.set l false ∧ (Tab.getD t.fch.outs ch.val .zero).ls.live = o.ls.live.set l false) ∧
  (∀ l s, s.mod.mode.lanesRun = true → Runs (.voteWithdraw l) s fun t => t.net.contrib = s.net.contrib.set l false ∧
     ∀ p ∈ t.fch.outs, p.2.hs.live.get l = false ∧ p.2.ls.live.get l = false) ∧
  (∀ l (ch : Chan) s, exec (.minorityReportExpired l ch) s = .next { s with fch := { s.fch with
     reports := s.fch.reports.filter fun r => !(r.2.1 = l && r.2.2 = ch.val && r.1 + 100 ≤ s.mod.cycle.toNat) } }) ∧
  (∀ (ch : Chan) o s, s.mod.mode.lanesRun = true → Tab.get? s.fch.outs ch.val = some o → s.isOutput ch.val = true → o.opened = false →
     Runs (.channelOverload ch) s fun t => (Tab.getD t.fch.outs ch.val .zero).opened = true ∧ (Tab.getD t.fch.outs ch.val .zero).overload = true ∧
       (Tab.getD t.fch.outs ch.val .zero).hs.closed = false ∧ (Tab.getD t.fch.outs ch.val .zero).ls.closed = false ∧
       (Tab.getD t.fch.outs ch.val .zero).latched = (o.latched || decide (3 ≤ (openings s.rcd.opTime o.opens).length))) ∧
  (∀ (ch : Chan) o s, s.mod.mode.lanesRun = true → Tab.get? s.fch.outs ch.val = some o → s.isOutput ch.val = true → o.opened = false →
     Runs (.switchOvertemperature ch) s fun t => (Tab.getD t.fch.outs ch.val .zero).opened = true ∧ (Tab.getD t.fch.outs ch.val .zero).overload = true ∧
       (Tab.getD t.fch.outs ch.val .zero).hs.closed = false ∧ (Tab.getD t.fch.outs ch.val .zero).ls.closed = false) ∧
  (∀ (g : Group) ma s, s.mod.mode.lanesRun = true → 4400 < ma → s.fch.groupOver.getLsbD g.val = false →
     Runs (.groupOverload g ma) s fun t => t.fch.groupOver.getLsbD g.val = true ∧
       ∀ p ∈ t.fch.outs, p.1 / 8 = g.val → p.2.grpOpen = true ∧ p.2.hs.closed = false ∧ p.2.ls.closed = false) ∧
  (∀ ma s, s.mod.mode.lanesRun = true → 17600 < (ma.take 8).foldl (· + ·) 0 → 0 < (ma.take 8).getD 7 0 →
     Runs (.moduleOverload ma) s fun t => t.fch.moduleOver = true ∧ t.fch.moduleMa = (ma.take 8).foldl (· + ·) 0 ∧ t.fch.groupOver.getLsbD 7 = true) ∧
  (∀ (ch : Chan) o s, Tab.get? s.fch.outs ch.val = some o → o.opened = true → o.latched = false → o.energised = true →
     Runs (.overloadReenable (.channel ch)) s fun t => (Tab.getD t.fch.outs ch.val .zero).opened = false ∧ (Tab.getD t.fch.outs ch.val .zero).overload = false) ∧
  (∀ (g : Group) s, s.fch.groupOver.getLsbD g.val = true → s.fch.groupLatched.getLsbD g.val = false →
     (∃ p ∈ s.fch.outs, p.1 / 8 = g.val ∧ p.2.energised = true) →
     Runs (.overloadReenable (.group g)) s fun t => t.fch.groupOver.getLsbD g.val = false ∧ ∀ p ∈ t.fch.outs, p.1 / 8 = g.val → p.2.grpOpen = false) ∧
  (∀ l par off s, s.sendsTokens l = true → s.fch.vrdParity.get l ≠ some par → s.fch.vrdTokens = [] →
     Runs (.vrdToken l par off) s fun t => t.fch.vrdLevel = s.fch.vrdLevel ∧ t.fch.vrdRunning = s.fch.vrdRunning ∧ t.fch.vrdTokens = [(l, par, off)]) ∧
  (∀ l k par off o1 s, s.sendsTokens l = true → s.fch.vrdParity.get l ≠ some par → s.fch.vrdTokens = [(k, par, o1)] → k ≠ l →
     off ≤ o1 + 20 → o1 ≤ off + 20 →
     Runs (.vrdToken l par off) s fun t => t.fch.vrdLevel = !s.fch.vrdLevel ∧ t.fch.vrdRunning = true ∧
       t.fch.vrdCarried = (LaneSet.none.set k true).set l true) ∧
  (∀ s, Runs .vrdTokenTimeout s fun t => t.fch.vrdLevel = false ∧ t.fch.vrdRunning = false ∧ t.fch.vrdTokens = []) ∧
  (∀ (ch : Chan) f s, Tab.get? s.fch.forced ch.val = some f → f.left = 0 → Runs (.ioForceEnd ch) s fun t =>
     t.fch.forced = Tab.erase s.fch.forced ch.val)

/-- A message with a bad CRC or an old sequence is only counted; a valid VERDICT of a lead's lane is kept and its sequence noted; an
unacknowledged CONTROL message is sent again at most three times and then given up; a link that comes up brings the partner's
position and levels, and one that is silent for three ticks is down. A tender without condition, with takeover rights, to which the
frames of the cycle report the lead channel quiet, takes over as LEAD under a claim of the next generation; where one reports a
quiet count of 0 it is ISOLATED, as it is after 100 ms of holding; a lead that hears a higher claim becomes TENDER; an unconfirmed
switchover is abandoned at its deadline; in the switch cycle the tender with equal hashes becomes LEAD and the lead with a
confirmation and equal hashes TENDER under the new claim.
(R364, R366, R369, R434, R370, R372, R373, R375, R376) -/
def Obligations.PartnerAndRoleCommands : Prop :=
  (∀ (m : PartnerMsg) s, s.mod.pos ≠ 0 → s.mod.mode.lanesRun = true → s.partnerValid m = false → exec (.partnerMessage m) s =
     .next { s with plink := { s.plink with crcErr := satAdd 0xFFFF s.plink.crcErr 1 } }) ∧
  (∀ (m : PartnerMsg) (l : Lane) s, s.mod.pos ≠ 0 → s.mod.mode.lanesRun = true → s.partnerValid m = true → m.type = 7 → m.sender = l.id →
     Runs (.partnerMessage m) s fun t => t.plink.verdicts.get l = some (wordAt m.body 0, longAt m.body 4) ∧ t.plink.quiet = 0 ∧
       Tab.get? t.plink.seqs (messageKey m) = some m.seq ∧ t.plink.crcErr = s.plink.crcErr) ∧
  (∀ c rest s, s.plink.control = c :: rest → c.tries < 3 → Runs .controlRetransmit s fun t =>
     t.plink.control = { c with tries := c.tries + 1 } :: rest ∧ t.plink.sent = s.plink.sent ++ [(8, leBytes 1 c.kind ++ bytesOf 4 c.seq ++ c.body)]) ∧
  (∀ c rest s, s.plink.control = c :: rest → 3 ≤ c.tries → Runs .controlRetransmit s fun t =>
     t.plink.control = (c :: rest).filter (fun d => d.seq ≠ c.seq) ∧ t.plink.sent = s.plink.sent) ∧
  (∀ pos rom major minor ifc (dg : List Byte) (mi : Word) s, s.mod.pos ≠ 0 → s.mod.mode.lanesRun = true → s.plink.up = false → 3 ≤ s.plink.live →
     Runs (.partnerLinkUp pos rom major minor ifc dg mi) s fun t => t.plink.up = true ∧ t.plink.quiet = 0 ∧ t.plink.partnerPos = some pos ∧
       t.plink.partnerLevels = [rom, major, minor, ifc] ∧ t.plink.partnerDigest = dg ∧ t.mod.isolatedFault = false) ∧
  (∀ s, s.plink.up = true → 3 ≤ s.plink.quiet → Runs .partnerLinkDown s fun t => t.plink.up = false ∧ t.plink.partnerPos = none ∧ t.mod.role = s.mod.role) ∧
  (∀ n s, s.mod.mode = .operate → s.mod.role = .tender → s.acc.tick = 0 → s.plink.silent = n → 3 ≤ n → s.reportedQuiet s.quietCounts = true →
     s.plink.rights = true → s.mod.cond = .none → s.nextGeneration ≤ 0xFFFFFF →
     Runs (.takeoverJudgement n) s fun t => t.mod.role = .lead ∧ t.mod.cond = .none ∧ t.net.generation = s.nextGeneration ∧
       t.net.claim = BitVec.ofNat 32 (s.nextGeneration * 256 + s.mod.pos) ∧ t.plink.leadChannelY = !s.plink.leadChannelY) ∧
  (∀ n s, s.mod.mode = .operate → s.mod.role = .tender → s.acc.tick = 0 → s.plink.silent = n → 3 ≤ n → 0 ∈ s.quietCounts →
     Runs (.takeoverJudgement n) s fun t => t.mod.cond = .isolated ∧ t.mod.isolatedFault = true ∧ t.mod.role = .tender) ∧
  (∀ s, s.mod.role = .tender → s.plink.holding = true → 100 ≤ s.plink.holdMs → Runs .holdingTimeout s fun t => t.mod.cond = .isolated ∧ t.plink.holding = false) ∧
  (∀ (c : Word) s, s.mod.mode.cycles = true → s.mod.role = .lead → s.net.claim.toNat < c.toNat → Runs (.takeoverLost c) s fun t =>
     t.mod.role = .tender ∧ t.net.otherClaim = c ∧ t.net.contrib = LaneSet.none ∧
       (if s.plink.up then t.net.claim = c else t.net.running = false ∧ t.net.phase = .abandoned 0 ∧ t.mod.cond = .isolated)) ∧
  (∀ c s, s.plink.switchAt = some c → s.mod.mode = .operate → s.mod.role = .lead → s.plink.switchConfirmed = false → c ≤ s.mod.cycle.toNat + 5 →
     s.plink.safeAfter = false → Runs .switchoverConfirmDeadline s fun t => t.plink.switchAt = none ∧ t.mod.role = .lead ∧ t.mod.mode = .operate) ∧
  (∀ c s, s.plink.switchAt = some c → s.mod.mode = .operate → s.mod.role = .tender → s.acc.tick = 0 → c ≤ s.mod.cycle.toNat → s.mod.cond = .none →
     s.plink.rights = true → s.plink.shadow = .equal → s.nextGeneration ≤ 0xFFFFFF →
     Runs .switchover s fun t => t.mod.role = .lead ∧ t.net.generation = s.nextGeneration ∧
       t.net.claim = BitVec.ofNat 32 (s.nextGeneration * 256 + s.mod.pos) ∧ t.plink.switchAt = none) ∧
  (∀ c s, s.plink.switchAt = some c → s.mod.mode = .operate → s.mod.role = .lead → s.acc.tick = 0 → c ≤ s.mod.cycle.toNat →
     s.plink.switchConfirmed = true → s.plink.partnerShadow = 0 → s.net.claim.toNat / 256 + 1 ≤ 0xFFFFFF →
     Runs .switchover s fun t => t.mod.role = .tender ∧ t.plink.switchAt = none ∧
       t.net.claim = BitVec.ofNat 32 ((s.net.claim.toNat / 256 + 1) * 256 + s.plink.partnerPos.getD 0))

/-- An accepted IMG_BEGIN empties PENDING for the new image; a block part is stored and answered with the blocks done; verification is
accepted and ends VERIFIED or LOADED with the result; a verified image is scheduled for its time; an abort empties PENDING; a query
answers the levels and both slots.
(R339, R340, R421) -/
def Obligations.ImageTransferCommands : Prop :=
  (∀ (h : CmdHdr) (ty : Byte) (len blocks ver : Word) s, Accepts s h 0x0501 (some .engineer) → 1 ≤ ty.toNat → ty.toNat ≤ 3 →
     len.toNat ≤ 67108864 → blocks.toNat = ceilDiv len.toNat 4096 → s.img.pending.st ≠ .verifying → s.img.pending.st ≠ .scheduled →
     s.sheetsHeld = false →
     Runs (.imgBegin h ty len blocks ver) s fun t => t.img.pending = { Slot.empty with
       st := .loading, type := ty.toNat, version := ver.toNat, blocks := blocks.toNat } ∧ Answered s t h 0x0501 stOk []) ∧
  (∀ (h : CmdHdr) (b : Word) (p : Byte) (data : List Byte) s, Accepts s h 0x0502 (some .engineer) → p.toNat ≤ 7 → b.toNat < s.img.pending.blocks →
     s.img.pending.st ≠ .empty → s.img.pending.st ≠ .verifying → s.img.pending.st ≠ .scheduled → s.sheetsHeld = false →
     Runs (.imgBlock h b p data) s fun t => t.img.pending = (s.img.pending.store b.toNat p.toNat data).1 ∧
       Answered s t h 0x0502 (if (s.img.pending.store b.toNat p.toNat data).2 then stBadParam else stOk) (leBytes 4 t.img.pending.done.length)) ∧
  (∀ (h : CmdHdr) s, Accepts s h 0x0503 (some .engineer) → s.img.pending.st ≠ .empty → s.img.pending.st ≠ .verifying →
     s.img.pending.st ≠ .scheduled → s.sheetsHeld = false →
     Runs (.imgVerify h) s fun t => t.img.pending = { s.img.pending with st := .verifying, owner := some (h.completion 0x0503 0) } ∧
       Answered s t h 0x0503 stAccepted []) ∧
  (∀ s, s.img.pending.st = .verifying → Runs .imgVerifyComplete s fun t => t.img.pending.owner = none ∧
     t.img.pending.st = (if (s.checkSlot s.img.pending s.img.active.image).status = 0 then .verified else .loaded) ∧
     t.img.active = s.img.active) ∧
  (∀ (h : CmdHdr) (time : BitVec 64) (fl : Byte) s, Accepts s h 0x0504 (some .engineer) → fl.toNat ≤ 1 → s.img.pending.st = .verified →
     s.img.pending.type = 1 → s.img.pending.live = true → s.nowFor h + 500000 ≤ time.toNat → s.sheetsHeld = false → s.mayScheduleHere = true →
     Runs (.imgSchedule h time fl) s fun t => t.img.pending.st = .scheduled ∧ t.img.pending.at_ = time.toNat ∧
       t.img.pending.postpone = decide (fl.toNat = 1) ∧ Answered s t h 0x0504 stAccepted []) ∧
  (∀ (h : CmdHdr) s, Accepts s h 0x0505 (some .engineer) → s.img.armed = LaneSet.none →
     Runs (.imgAbort h) s fun t => t.img.pending = Slot.empty ∧ t.sheets.change = none ∧ Answered s t h 0x0505 stOk []) ∧
  (∀ (h : CmdHdr) s, Accepts s h 0x0506 (some .maintainer) → exec (.imgQuery h) s =
     .next (s.reply h 0x0506 stOk (s.levels ++ s.img.active.entry ++ s.img.pending.entry)))

/-- At its time outside cycles a scheduled station image takes the place of ACTIVE; in OPERATE a lane arms with the right digest and one
that has not armed leaves the vote ten cycles before; the judgement finds no holding route and keeps the moved vector, or postpones
with the changed areas held; a postponement ends after 24 hours; in the confirmed switch cycle the new image governs. A preparation
of a verified image that differs in its sheets alone is accepted and ends with the carry map, or where the new set fails its check
with no preparation; a commit schedules the change for its time; in the confirmed switch cycle the new set governs and the change is
over; a prepared set that nobody commits is dropped after 30 minutes.
(R426, R427, R428, R430, R178, R179, R181, R182, R341) -/
def Obligations.ImageAndSheetChangeCommands : Prop :=
  (∀ s, s.img.pending.st = .scheduled → s.img.pending.type = 1 → s.mod.mode = .loaded ∨ s.mod.mode = .safe ∨ s.mod.mode = .recovery →
     Runs .activationTimeReached s fun t => t.img.active = { s.img.pending with st := .active, owner := none, at_ := 0 } ∧
       t.img.pending = (if s.img.active.st = .active then { s.img.active with st := .verified } else Slot.empty)) ∧
  (∀ l s, s.mod.mode = .operate → s.img.pending.st = .scheduled → s.laneSt l = .voting → (s.lane l).diag.dmaFailed.contains 4 = false → Runs (.activationArmed l true) s fun t =>
     t.img.armed = s.img.armed.set l true) ∧
  (∀ l s, s.mod.mode = .operate → s.img.pending.st = .scheduled → s.votingLanes = LaneSet.full → s.img.armed.get l = false →
     s.img.pending.at_ ≤ s.netNow + 110000 → Runs (.activationArmDeadline l) s fun t => t.laneSt l = .minority ∧ (t.lane l).core.cause = 7) ∧
  (∀ new s, s.mod.mode = .operate → s.acc.tick = 3 → s.img.pending.st = .scheduled → s.sheetsHeld = false → s.img.pending.at_ ≤ s.netNow + 20000 →
     s.img.pending.image = some new → s.img.pending.live = true → s.needsConfirm = false → s.holdingRoutes new = [] →
     exec .activationJudgement s = .next { s with img := { s.img with judged := some (moveVector s.image new s.ixl.resolved) } }) ∧
  (∀ new s, s.mod.mode = .operate → s.acc.tick = 3 → s.img.pending.st = .scheduled → s.sheetsHeld = false → s.img.pending.at_ ≤ s.netNow + 20000 →
     s.img.pending.image = some new → s.img.pending.live = true → s.needsConfirm = false → s.mod.role ≠ .tender → s.holdingRoutes new ≠ [] →
     s.img.pending.postpone = true →
     Runs .activationJudgement s fun t => t.img.judged = none ∧ t.ixl.areaHold = new.decl.changed ∧ t.img.pending = s.img.pending) ∧
  (∀ s, s.img.pending.st = .scheduled → s.img.postponedSince.isSome = true → s.img.pending.at_ + 86400000000 ≤ s.netNow → Runs .postponementExpired s fun t =>
     t.img.pending.st = .verified ∧ t.ixl.areaHold = 0 ∧ t.img.postponedSince = none ∧ t.img.judged = none) ∧
  (∀ new v s, s.img.pending.image = some new → s.img.judged = some v → s.img.pending.st = .scheduled → s.sheetsHeld = false → s.evalDue = true →
     s.confirms s.img.pending.at_ = true →
     Runs .imageSwitch s fun t => t.img.running = some new ∧ t.img.runDigest = s.img.pending.digest ∧ t.img.active.st = .active ∧
       t.img.judged = none ∧ t.ixl.areaHold = 0) ∧
  (∀ (h : CmdHdr) s, Accepts s h 0x0507 (some .engineer) → s.mod.mode = .operate → s.sheetOnly = true → s.img.pending.st = .verified →
     s.sheetsHeld = false → Runs (.sheetPrepare h) s fun t =>
       t.sheets.change = some ⟨[], 0, 0, s.rcd.opTime, none, h.source.toNat, h.queue.val, h.seq, true⟩ ∧ Answered s t h 0x0507 stAccepted []) ∧
  (∀ c new s, s.sheets.change = some c → s.img.pending.image = some new → c.preparing = true → s.setPasses new = true → Runs .sheetPrepareComplete s fun t =>
     t.sheets.change = some { c with
         preparing := false, paired := carryMap s.image new, newN := (carryCounts s.image new).2.1,
         deleted := (carryCounts s.image new).2.2, since := s.rcd.opTime }) ∧
  (∀ c new s, s.sheets.change = some c → s.img.pending.image = some new → c.preparing = true → s.setPasses new = false →
     Runs .sheetPrepareComplete s fun t => t.sheets.change = none ∧ t.img.pending = s.img.pending ∧ t.img.running = s.img.running) ∧
  (∀ (h : CmdHdr) (time : BitVec 64) c s, Accepts s h 0x0508 (some .engineer) → s.mod.mode = .operate → s.sheets.change = some c →
     c.preparing = false → c.commit = none → s.nowFor h + 500000 ≤ time.toNat → s.img.pending.st ≠ .verifying →
     Runs (.sheetCommit h time) s fun t => t.sheets.change = some { c with
       commit := some time.toNat, source := h.source.toNat, queue := h.queue.val, seq := h.seq } ∧
       t.img.pending = { s.img.pending with st := .scheduled, at_ := time.toNat, postpone := false } ∧ Answered s t h 0x0508 stAccepted []) ∧
  (∀ c new time s, s.sheets.change = some c → s.img.pending.image = some new → c.commit = some time → s.confirms time = true →
     s.needsConfirm = false → Runs .sheetSwitch s fun t => t.img.running = some new ∧ t.sheets.change = none ∧
       t.sheets.blocks = carriedBlocks s.image new s.sheets.blocks ∧ t.sheets.releaseAll = some s.mod.cycle.toNat) ∧
  (∀ c s, s.sheets.change = some c → c.commit = none → c.preparing = false → c.since + 1800000 ≤ s.rcd.opTime → Runs .sheetPrepareTimeout s fun t => t.sheets.change = none)

/-- An accepted query changes nothing but the replies: ROUTE_QUERY and ELEMENT_QUERY answer from the vector the mode names,
STATUS_MODULE the module's status, TIME_QUERY the time, correlation and synchronized lanes, and SELFTEST_QUERY, REG_READ, PERF_READ
and PERF_SAMPLES each writing lane's own values. An accepted SUBSCRIBE puts its subscription in place of the source's older one with
the identity; an UNSUBSCRIBE takes it away; SNAPSHOT copy keeps the vector for the source and answers cycle and length; SNAPSHOT
read answers the asked bytes of the kept vector.
(R330, R333, R342, R346, R347, R334, R336) -/
def Obligations.QueryAndSubscriptionCommands : Prop :=
  (∀ (h : CmdHdr) (r : BitVec 16) v s, Accepts s h 0x0104 none → s.queryVector = some v → (Tab.get? s.image.routes r.toNat).isSome = true →
     exec (.routeQuery h r) s = .next (s.say h 0x0104 stOk (fields [(4, v.cycle.toNat), (4, (v.route r.toNat).word), (4, (v.route r.toNat).timer)]))) ∧
  (∀ (h : CmdHdr) (o : BitVec 16) v d s, Accepts s h 0x0208 none → s.queryVector = some v → Tab.get? s.image.elems o.toNat = some d →
     exec (.elementQuery h o) s = .next (s.say h 0x0208 stOk
       (fields [(4, v.cycle.toNat), (1, d.kind.code), (3, 0), (4, (v.elem o.toNat).word), (4, (v.elem o.toNat).timerWord)]))) ∧
  (∀ (h : CmdHdr) s, Accepts s h 0x0301 none → exec (.statusModule h) s = .next (s.say h 0x0301 stOk (s.statusModule (s.nowFor h)))) ∧
  (∀ (h : CmdHdr) s, Accepts s h 0x0602 (some .maintainer) → exec (.timeQuery h) s = .next (s.say h 0x0602 stOk (fields [(8, s.nowFor h),
       (6, s.rcd.opTime), (2, 0), (8, (s.host.utc.getD (0, 0, 0)).1), (4, (s.host.utc.getD (0, 0, 0)).2.1), (8, (s.host.utc.getD (0, 0, 0)).2.2),
       (1, LaneSet.bits (s.lanesWith fun l => l.tbs.synced)), (3, 0)]))) ∧
  (∀ (h : CmdHdr) s, Accepts s h 0x0705 (some .maintainer) → exec (.selftestQuery h) s = .next (s.replyTagged h 0x0705 fun l =>
       fields [(4, (s.lane l).diag.slicesRun), (4, (s.lane l).diag.slicesFailed), (2, (s.lane l).diag.bstNext), (2, 4096),
         (4, if (s.lane l).diag.passes = 0 then 0xFFFFFFFF else (s.lane l).diag.passSeconds),
         (2, if (s.lane l).diag.lastFailed = 0x1FFF then 0xFFFF else (s.lane l).diag.lastFailed), (2, 0)])) ∧
  (∀ (h : CmdHdr) (addr : Word) (n : BitVec 16) s, Accepts s h 0x0706 (some .maintainer) → 1 ≤ n.toNat → n.toNat ≤ 128 → addr.toNat % 4 = 0 →
     0x20000000 ≤ addr.toNat → addr.toNat + 4 * n.toNat ≤ 0x20130000 →
     exec (.regRead h addr n) s = .next (s.replyTagged h 0x0706 fun l => fields [(4, addr.toNat), (2, n.toNat), (2, 0)] ++
       (List.range n.toNat).flatMap fun i => leBytes 4 (readReg s l (addr.toNat - 0x20000000 + 4 * i)))) ∧
  (∀ (h : CmdHdr) s, Accepts s h 0x0802 (some .maintainer) → exec (.perfRead h) s = .next (s.replyTagged h 0x0802 fun l =>
       fields [(4, s.cycleFor.toNat), (1, (s.lane l).perf.window), (3, 0)] ++
         ((List.range 16).flatMap fun i => leBytes 6 (Tab.getD (s.lane l).perf.ctr i .reset).count) ++
         (List.range 8).flatMap fun r => leBytes 4 (Tab.getD (s.lane l).perf.bwDram r 0))) ∧
  (∀ (h : CmdHdr) (start : Word) (n : Byte) s, Accepts s h 0x0803 (some .maintainer) → n.toNat ≤ 31 →
     Runs (.perfSamples h start n) s fun t => { t with host := s.host } = s) ∧
  (∀ (h : CmdHdr) c s, Accepts s h 0x0801 (some .maintainer) → perfConfigOk c = true → Runs (.perfConfig h c) s fun t =>
     t.host.perfDue = s.host.perfDue ++ [c] ∧ t.lanes = s.lanes) ∧
  (∀ (h : CmdHdr) (i k : Byte) (first n mask : BitVec 16) s, Accepts s h 0x0302 none →
     subscribeOk i.toNat k.toNat first.toNat n.toNat mask.toNat = true → Runs (.subscribe h i k first n mask) s fun t =>
       t.host.subs = (s.host.subs.filter fun x => !(x.source = h.source.toNat && x.id = i.toNat)) ++
         [⟨h.source.toNat, i.toNat, k.toNat, first.toNat, n.toNat, mask.toNat, decide (k.toNat ≠ 4), none, [], [], 0⟩] ∧ t.ixl = s.ixl) ∧
  (∀ (h : CmdHdr) (i : Byte) s, Accepts s h 0x0303 none → i.toNat < 8 → Runs (.unsubscribe h i) s fun t =>
     t.host.subs = (s.host.subs.filter fun x => !(x.source = h.source.toNat && x.id = i.toNat)) ∧ t.ixl = s.ixl) ∧
  (∀ (h : CmdHdr) v s, Accepts s h 0x0304 none → s.queryVector = some v → Runs (.statusSnapshotCopy h 0 0) s fun t =>
     t.host.snapshots = Tab.put s.host.snapshots h.source.toNat (v.cycle, v) ∧ t.ixl = s.ixl) ∧
  (∀ (h : CmdHdr) (n : BitVec 16) (ofs c : Word) v s, Accepts s h 0x0304 none → Tab.get? s.host.snapshots h.source.toNat = some (c, v) →
     1 ≤ n.toNat → n.toNat ≤ 1008 → ofs.toNat + n.toNat ≤ 98592 → exec (.statusSnapshotRead h n ofs) s = .next (s.say h 0x0304 stOk
       (fields [(4, c.toNat), (4, ofs.toNat), (4, n.toNat), (2, 0)] ++ (v.bytes.drop ofs.toNat).take n.toNat)))

/-- TIME_CORRELATE keeps the correlation; SESSION_CHALLENGE answers and keeps a fresh challenge; SESSION_OPEN with a fresh challenge and
a key that allows the role opens a session with the derived key where the signature verifies; SESSION_CLOSE of a held session ends
it; an allowed MODE_REQUEST holds its transition, in place of a waiting one of lower rank, and any other leaves mode and waiting
transition as they are; WAKE begins only from DORMANT; WITHHELD_CLEAR releases its route.
(R146, R314, R315, R317, R342, R344, R346) -/
def Obligations.SessionCommands : Prop :=
  (∀ (h : CmdHdr) (u : BitVec 64) (ns : Word) (net : BitVec 64) s, Accepts s h 0x0601 (some .maintainer) → ns.toNat < 1000000000 →
     net.toNat ≤ s.nowFor h + 60000000 → s.nowFor h ≤ net.toNat + 60000000 → Runs (.timeCorrelate h u ns net) s fun t =>
       t.host.utc = some (u.toNat, ns.toNat, net.toNat) ∧ t.host.utcFresh = true ∧ t.lanes = s.lanes) ∧
  (∀ (h : CmdHdr) r s, Accepts s h 0x0701 none → s.mod.mode ≠ .dormant → Runs (.sessionChallenge h (BitVec.ofNat 8 r.code)) s fun t =>
     t.host.challenges = (s.host.challenges.filter fun x => !(x.source = h.source.toNat && x.role = r)) ++
       [⟨h.source.toNat, r, s.challengeValue h r false, s.nowFor h, false⟩] ∧ t.host.chalLanes = s.host.chalLanes + 1 ∧ t.host.sessions = s.host.sessions) ∧
  (∀ (h : CmdHdr) (slot : Byte) r nonce sig c k s, Accepts s h 0x0702 none → s.mod.mode ≠ .dormant → slot.toNat < 8 →
     (s.host.challenges.find? fun c => c.source = h.source.toNat && c.role = r) = some c → s.nowFor h ≤ c.time + 30000000 →
     c.housekeeper = false → s.keyAt slot.toNat = some k → s.keyHas slot.toNat (r.code - 1) = true →
     (s.host.sessions ++ s.host.hkSession.toList).any (fun x => x.role = r) = false →
     Runs (.sessionOpen h slot (BitVec.ofNat 8 r.code) nonce sig) s fun t => t.host.sessions = s.host.sessions ++
       if ed25519 k.key (s.sessionMessage h c.value slot.toNat r nonce) (padTo 64 sig) then
         [⟨r, h.source.toNat, slot.toNat, hashBytes 32 (sha256 (s.sessionMessage h c.value slot.toNat r nonce ++ padTo 64 sig)),
           s.nowFor h, []⟩] else []) ∧
  (∀ (h : CmdHdr) r x s, Accepts s h 0x0703 none → s.mod.mode ≠ .dormant → (s.host.sessions.find? fun x => x.role = r && x.source = h.source.toNat) = some x →
     exec (.sessionClose h (BitVec.ofNat 8 r.code)) s = .next ((s.endSession x 0).say h 0x0703 stOk [])) ∧
  (∀ (h : CmdHdr) s, Accepts s h 0x0704 (some .maintainer) → s.transitionUnderWay = false → s.modeAllowed .safe = true →
     (s.mod.modeDue.any fun d => targetRank .safe ≤ targetRank d) = false → Runs (.modeRequestSafe h) s fun t =>
     t.mod = { s.mod with modeDue := some .safe } ∧ t.lanes = s.lanes) ∧
  (∀ (h : CmdHdr) s, Accepts s h 0x0704 (some .maintainer) → s.transitionUnderWay = true ∨ s.modeAllowed .safe = false ∨
     (s.mod.modeDue.any fun d => targetRank .safe ≤ targetRank d) = true → Runs (.modeRequestSafe h) s fun t => t.mod = s.mod ∧ t.lanes = s.lanes) ∧
  (∀ (h : CmdHdr) s, Accepts s h 0x0704 (some .maintainer) → s.transitionUnderWay = false → s.modeAllowed .reset = true →
     (s.mod.modeDue.any fun d => targetRank .reset ≤ targetRank d) = false → Runs (.modeRequestRestart h) s fun t =>
     t.mod = { s.mod with modeDue := some .reset } ∧ t.lanes = s.lanes) ∧
  (∀ (h : CmdHdr) s, Accepts s h 0x0704 (some .maintainer) → s.transitionUnderWay = true ∨ s.modeAllowed .reset = false ∨
     (s.mod.modeDue.any fun d => targetRank .reset ≤ targetRank d) = true → Runs (.modeRequestRestart h) s fun t => t.mod = s.mod ∧ t.lanes = s.lanes) ∧
  (∀ (h : CmdHdr) s, Accepts s h 0x0704 (some .maintainer) → s.transitionUnderWay = false → s.modeAllowed .dormant = true →
     (s.mod.modeDue.any fun d => targetRank .dormant ≤ targetRank d) = false → Runs (.modeRequestDormant h) s fun t =>
     t.mod = { s.mod with modeDue := some .dormant } ∧ t.lanes = s.lanes) ∧
  (∀ (h : CmdHdr) s, Accepts s h 0x0704 (some .maintainer) → s.transitionUnderWay = true ∨ s.modeAllowed .dormant = false ∨
     (s.mod.modeDue.any fun d => targetRank .dormant ≤ targetRank d) = true → Runs (.modeRequestDormant h) s fun t => t.mod = s.mod ∧ t.lanes = s.lanes) ∧
  (∀ (h : CmdHdr) s, Accepts s h 0x0704 (some .maintainer) → s.holds .engineer h.source.toNat = true → s.transitionUnderWay = false → s.modeAllowed .replay = true →
     (s.mod.modeDue.any fun d => targetRank .replay ≤ targetRank d) = false → Runs (.modeRequestReplay h) s fun t =>
     t.mod = { s.mod with modeDue := some .replay } ∧ t.lanes = s.lanes) ∧
  (∀ (h : CmdHdr) s, Accepts s h 0x0704 (some .maintainer) → s.holds .engineer h.source.toNat = true → s.transitionUnderWay = true ∨ s.modeAllowed .replay = false ∨
     (s.mod.modeDue.any fun d => targetRank .replay ≤ targetRank d) = true → Runs (.modeRequestReplay h) s fun t => t.mod = s.mod ∧ t.lanes = s.lanes) ∧
  (∀ (h : CmdHdr) s, Accepts s h 0x0704 (some .maintainer) → s.mod.mode = .dormant → s.mod.waking = none →
     s.mod.dormant.any (fun d => d.fromOperate || d.condsMet) = true → Runs (.modeRequestWake h) s fun t => t.mod.waking = some 2 ∧ t.mod.mode = .dormant) ∧
  (∀ (h : CmdHdr) (r : BitVec 16) s, Accepts s h 0x0708 (some .engineer) → s.ixl.withheld.contains r.toNat = true → Runs (.withheldClear h r) s fun t =>
     t.ixl = { s.ixl with withheld := removeNat r.toNat s.ixl.withheld })

/-- The first step of an allowed fuse operation issues a token for it; a second step with a valid token is accepted and held until its
completion; a completed blow of the seals leaves the module sealed with no debugger and no lane halted; a revocation marks the slot;
a failed readback changes no fuse.
(R327, R328, R345, R511) -/
def Obligations.FuseCommands : Prop :=
  (∀ (h : CmdHdr) (op slot : Byte) s, Accepts s h 0x0707 (some .custodian) → s.fuseRefusal op.toNat slot.toNat = none → s.img.fuseOp = none →
     exec (.sealFuseStep1 h op slot) s = .next ((s.issueToken h 0x0707 (fuseTarget op.toNat slot.toNat) false (some .custodian)).1.say h 0x0707 stOk
       (bytesOf 4 (s.issueToken h 0x0707 (fuseTarget op.toNat slot.toNat) false (some .custodian)).2))) ∧
  (∀ (h : CmdHdr) (slot : Byte) tok s, Accepts s h 0x0707 (some .custodian) → s.tokenValid h 0x0707 (fuseTarget 1 slot.toNat) false tok = true →
     s.fuseRefusal 1 slot.toNat = none → s.img.fuseOp = none → Runs (.sealFuseBlow h slot tok) s fun t =>
       t.img.fuseOp = some ⟨1, slot.toNat, h.source.toNat, h.queue.val, h.seq⟩ ∧ t.mod.sealed = s.mod.sealed ∧ Answered s t h 0x0707 stAccepted []) ∧
  (∀ (h : CmdHdr) (slot : Byte) tok s, Accepts s h 0x0707 (some .custodian) → s.tokenValid h 0x0707 (fuseTarget 2 slot.toNat) false tok = true →
     s.fuseRefusal 2 slot.toNat = none → s.img.fuseOp = none → Runs (.sealFuseProgramSlot h slot tok) s fun t =>
       t.img.fuseOp = some ⟨2, slot.toNat, h.source.toNat, h.queue.val, h.seq⟩ ∧ t.img.keys = s.img.keys ∧ Answered s t h 0x0707 stAccepted []) ∧
  (∀ (h : CmdHdr) (slot : Byte) tok s, Accepts s h 0x0707 (some .custodian) → s.tokenValid h 0x0707 (fuseTarget 3 slot.toNat) false tok = true →
     s.fuseRefusal 3 slot.toNat = none → s.img.fuseOp = none → Runs (.sealFuseRevokeSlot h slot tok) s fun t =>
       t.img.fuseOp = some ⟨3, slot.toNat, h.source.toNat, h.queue.val, h.seq⟩ ∧ t.img.keys = s.img.keys ∧ Answered s t h 0x0707 stAccepted []) ∧
  (∀ f s, s.img.fuseOp = some f → f.op = 1 → Runs (.fuseOperationComplete true) s fun t => t.mod.sealed = true ∧ t.mod.dbgAttached = false ∧
     t.img.fuseOp = none ∧ ∀ l, (t.lane l).diag.halted = false) ∧
  (∀ f k s, s.img.fuseOp = some f → f.op = 3 → s.keyAt f.slot = some k → Runs (.fuseOperationComplete true) s fun t =>
     t.img.keys = Tab.put s.img.keys f.slot { k with revoked := true } ∧ t.img.fuseOp = none) ∧
  (∀ f s, s.img.fuseOp = some f → Runs (.fuseOperationComplete false) s fun t => t.img.keys = s.img.keys ∧ t.mod.sealed = s.mod.sealed ∧
     t.img.fuseOp = none)

/-- A frame the port does not accept is dropped and counted and an accepted one changes nothing here; an ARP request for the port's own
address is answered; an echo request of at most 1 024 bytes is answered up to ten times a second; a link that comes up is shown, and
announced unless its port is silent; one that goes down is shown. A packet without a MAC that passes every step of R306 enters its
ring in each lane whose memory holds it and becomes the newest sequence of its source and queue; with the ring full it is answered
QUEUE_FULL and consumes nothing; from an address of no source it is dropped and recorded; with a wrong safety code it is counted and
not answered.
(R293, R295, R321, R301, R304, R306, R311, R537) -/
def Obligations.HostPortCommands : Prop :=
  (∀ p f s, s.portsSilent p = false → ethAccepted f (s.portVlan p) = false → exec (.ethernetFrame p f) s = .next { s with host := s.host.drop p }) ∧
  (∀ p f s, s.portsSilent p = false → ethAccepted f (s.portVlan p) = true → exec (.ethernetFrame p f) s = .next s) ∧
  (∀ p (a : Word) s, s.portsSilent p = false → a.toNat = s.portAddress p →
     exec (.arpRequest p a) s = .next { s with host := { s.host with arpSent := s.host.arpSent ++ [(p, a.toNat)] } }) ∧
  (∀ p n stamp s, s.portsSilent p = false → n ≤ 1024 → Tab.getD s.host.icmp p.code 0 / 16 = stamp / 1000000 →
     Tab.getD s.host.icmp p.code 0 % 16 < 10 → Runs (.icmpEcho p ⟨n, stamp⟩) s fun t =>
       t.host.icmpSent = s.host.icmpSent ++ [(p, n)] ∧ Tab.getD t.host.icmp p.code 0 = Tab.getD s.host.icmp p.code 0 + 1) ∧
  (∀ p n stamp s, s.portsSilent p = false → n ≤ 1024 → Tab.getD s.host.icmp p.code 0 / 16 ≠ stamp / 1000000 → Runs (.icmpEcho p ⟨n, stamp⟩) s fun t =>
       t.host.icmpSent = s.host.icmpSent ++ [(p, n)] ∧ Tab.getD t.host.icmp p.code 0 = 16 * (stamp / 1000000) + 1) ∧
  (∀ p s, s.portsSilent p = false → Runs (.linkUp p) s fun t => t.host.linkA = (s.host.linkA || decide (p = .a)) ∧
     t.host.linkB = (s.host.linkB || decide (p = .b)) ∧ t.host.arpSent = s.host.arpSent ++ [(p, s.portAddress p)]) ∧
  (∀ p s, s.mod.mode ≠ .off → s.portsSilent p = true → Runs (.linkUp p) s fun t => t.host.linkA = (s.host.linkA || decide (p = .a)) ∧
     t.host.linkB = (s.host.linkB || decide (p = .b)) ∧ t.host.arpSent = s.host.arpSent) ∧
  (∀ p s, s.mod.mode ≠ .off → Runs (.linkDown p) s fun t => t.host.linkA = (s.host.linkA && decide (p ≠ .a)) ∧
     t.host.linkB = (s.host.linkB && decide (p ≠ .b)) ∧ t.host.arpSent = s.host.arpSent) ∧
  (∀ p (peer : HostPeer) stamp lanes bytes src s, s.portsSilent p = false → s.sourceAt p peer.addr.toNat = some src → s.host.floodSecond = stamp / 1000000 →
     Tab.getD s.host.flood src 0 < 1000 → Admissible s ⟨p, peer, stamp, src, lanes, bytes⟩ → s.mod.mode.hkAnswers = false →
     s.ringFill (ringKey (Arrival.queue ⟨p, peer, stamp, src, lanes, bytes⟩) (Arrival.opcode ⟨p, peer, stamp, src, lanes, bytes⟩)) stamp <
       s.ringDepth (ringKey (Arrival.queue ⟨p, peer, stamp, src, lanes, bytes⟩) (Arrival.opcode ⟨p, peer, stamp, src, lanes, bytes⟩)) →
     Runs (.hostPacket p peer stamp lanes bytes) s fun t => t.ixl = s.ixl ∧
       t.host.lastSeq = Tab.put s.host.lastSeq (Arrival.key ⟨p, peer, stamp, src, lanes, bytes⟩) (Arrival.seq ⟨p, peer, stamp, src, lanes, bytes⟩) ∧
       ∀ l, t.host.rings.get l = if lanes.get l then Tab.upd (s.host.rings.get l)
         (ringKey (Arrival.queue ⟨p, peer, stamp, src, lanes, bytes⟩) (Arrival.opcode ⟨p, peer, stamp, src, lanes, bytes⟩)) []
         (· ++ [Arrival.cmd ⟨p, peer, stamp, src, lanes, bytes⟩]) else s.host.rings.get l) ∧
  (∀ p (peer : HostPeer) stamp lanes bytes src s, s.portsSilent p = false → s.sourceAt p peer.addr.toNat = some src → s.host.floodSecond = stamp / 1000000 →
     Tab.getD s.host.flood src 0 < 1000 → Admissible s ⟨p, peer, stamp, src, lanes, bytes⟩ → s.mod.mode.hkAnswers = false →
     s.ringDepth (ringKey (Arrival.queue ⟨p, peer, stamp, src, lanes, bytes⟩) (Arrival.opcode ⟨p, peer, stamp, src, lanes, bytes⟩)) ≤
       s.ringFill (ringKey (Arrival.queue ⟨p, peer, stamp, src, lanes, bytes⟩) (Arrival.opcode ⟨p, peer, stamp, src, lanes, bytes⟩)) stamp →
     Runs (.hostPacket p peer stamp lanes bytes) s fun t => t.host.rings = s.host.rings ∧ t.host.lastSeq = s.host.lastSeq ∧
       t.host.fullCnt = Tab.upd s.host.fullCnt (Arrival.queue ⟨p, peer, stamp, src, lanes, bytes⟩) 0 (· + 1)) ∧
  (∀ p (peer : HostPeer) stamp lanes bytes s, s.portsSilent p = false → s.sourceAt p peer.addr.toNat = none →
     exec (.hostPacket p peer stamp lanes bytes) s = .next (({ s with host := s.host.drop p } : State).recordHk 0x0504
       (fields [(1, p.code), (3, 0), (4, peer.addr.toNat)]))) ∧
  (∀ p (peer : HostPeer) stamp lanes bytes src s, s.portsSilent p = false → s.sourceAt p peer.addr.toNat = some src → s.host.floodSecond = stamp / 1000000 →
     Tab.getD s.host.flood src 0 < 1000 → byteAt bytes 0 = 2 → bytes.length = 24 + Arrival.plen ⟨p, peer, stamp, src, lanes, bytes⟩ →
     Arrival.mac ⟨p, peer, stamp, src, lanes, bytes⟩ = false → Arrival.plen ⟨p, peer, stamp, src, lanes, bytes⟩ ≤ 1024 →
     Arrival.code ⟨p, peer, stamp, src, lanes, bytes⟩ ≠ Arrival.safety ⟨p, peer, stamp, src, lanes, bytes⟩ s.mod.sid →
     Runs (.hostPacket p peer stamp lanes bytes) s fun t => t.host.rings = s.host.rings ∧ t.host.lastSeq = s.host.lastSeq ∧
       t.host.sent = s.host.sent ∧ t.host.replies = s.host.replies ∧
       t.host.safetyA + t.host.safetyB = (match p with | .a => satAdd 0xFFFF s.host.safetyA 1 + s.host.safetyB | .b => s.host.safetyA + satAdd 0xFFFF s.host.safetyB 1))

/-- At T3 the intake takes up to 16 commands stamped before the accorded cycle time, in order, serves them and the confirmed recorder
commands; outside cycles every command in a ring is served in stamp order. A reply that two lanes have written alike leaves the
selector and is sent; without agreement LANE_DISAGREE is sent and counted; without any reply likewise; an unconfirmed recorder
command is answered NOT_AUTHORIZED and leaves every ring; an expired challenge is gone; an expired session is gone; a persistence
keeps sequences and counters.
(R309, R538, R304, R310, R312, R314, R317) -/
def Obligations.HostServiceCommands : Prop :=
  (∀ (s : State), s.mod.mode.cycles = true → s.acc.tick = 3 → s.host.intakeDone = false → exec .nonvitalIntake s = .next
     (((({ s with host := { s.host with
         intakeDone := true, intake := s.intakeDue s.acc.accorded.time,
         intakeLast := (s.intakeDue s.acc.accorded.time).length,
         intakeMax := max s.host.intakeMax (s.intakeDue s.acc.accorded.time).length } } : State).each
       (s.intakeDue s.acc.accorded.time) State.serveRing)).serveQ5 fun (c : RingCmd) => decide (c.stamp < s.acc.accorded.time))) ∧
  (∀ (time : Nat) (s : State), (s.intakeDue time).length ≤ 16 ∧ ∀ c ∈ s.intakeDue time, c.stamp < time) ∧
  (∀ (s : State), s.mod.mode = .loaded ∨ s.mod.mode = .safe ∨ s.mod.mode = .recovery ∨ s.mod.mode = .replay → exec .offCycleService s = .next
     ((s.each ((s.queued ((List.range 17).filter (· ≠ 5))).mergeSort fun x y => x.stamp ≤ y.stamp) State.serveRing).serveQ5 fun _ => true)) ∧
  (∀ cmd r u p s, s.mod.modeDue = none → (s.takeReply fun r => decide (r.ref = cmd) && r.agreed.isSome) = some (r, u) → r.agreed = some p →
     s.answered cmd = false → exec (.replyAgreed cmd) s = .next (u.sendPacket p)) ∧
  (∀ cmd r u s, s.mod.modeDue = none → (s.takeReply fun r => decide (r.ref = cmd) && r.agreed.isNone && decide (LaneSet.count (r.lanes.map Option.isSome) ≠ 0)) = some (r, u) →
     Runs (.replyDisagreeTimeout cmd) s fun t => t.host.disagree = satAdd 0xFFFF s.host.disagree 1 ∧ t.host.replies = u.host.replies) ∧
  (∀ cmd r u s, s.mod.modeDue = none → (s.takeReply fun r => decide (r.ref = cmd) && decide (r.lanes = ⟨none, none, none⟩)) = some (r, u) →
     Runs (.replyMissingTimeout cmd) s fun t => t.host.disagree = satAdd 0xFFFF s.host.disagree 1 ∧ t.host.replies = u.host.replies) ∧
  (∀ cmd c s, s.mod.modeDue = none → (s.takeReply fun r => decide (r.ref = cmd) && decide (r.lanes = ⟨none, none, none⟩)) = none →
     s.unanswered cmd = some c → Runs (.replyMissingTimeout cmd) s fun t => t.host.disagree = satAdd 0xFFFF s.host.disagree 1 ∧ t.host.replies = s.host.replies) ∧
  (∀ cmd c s, s.mod.hkLost = false → (s.host.q5.find? fun c => c.hdr.ref = cmd) = some c → Runs (.q5ConfirmTimeout cmd) s fun t =>
     t.host.q5 = (s.host.q5.filter fun d => !d.same c) ∧
     t.host.rings = s.host.rings.map (fun r => Tab.mapV r fun _ l => l.filter fun d => !d.same c) ∧
     t = ((s.dropCmd c).replyHk c.hdr c.opcode stNotAuth [])) ∧
  (∀ (src : BitVec 16) r s, exec (.challengeExpired src r) s = .next { s with host := { s.host with
     challenges := s.host.challenges.filter fun c => !(c.source = src.toNat && c.role = r) } }) ∧
  (∀ r s, Runs (.sessionExpired r) s fun t => t.host.sessions = (s.host.sessions.filter fun x => x.role ≠ r) ∧
     t.host.hkSession = s.host.hkSession.filter (fun x => x.role ≠ r) ∧ t.mod = s.mod ∧ t.ixl.resolved = s.ixl.resolved) ∧
  (∀ s, s.mod.mode ≠ .off → Runs .sequencePersist s fun t => t.host.persistSeq = s.host.lastSeq ∧ t.host.persistUnsol = s.host.unsolCtr ∧
     t.host.persistChalLanes = s.host.chalLanes ∧ t.host.persistChalHk = s.host.chalHk)

/-- REC_READ and SIL_READ answer the header and the whole records that fit; REC_FREEZE freezes once; REC_THAW and the 60 s limit end the
freeze; REC_CLEAR's first step issues a token and its second leaves no record below UP_TO; SIL_MARK holds its label for the next
cycle.
(R337, R338, R399, R400) -/
def Obligations.RecorderReadCommands : Prop :=
  (∀ (h : CmdHdr) (i : BitVec 64) (n : BitVec 16) s, Accepts s h 0x0401 (some .maintainer) → n.toNat ≤ 255 → exec (.recRead h i n) s = .next
     (s.say h 0x0401 stOk (storeHeader s.rcd.writeIndex s.rcd.oldest
       (fitting (((s.rcd.store.filter fun x => i.toNat ≤ x.index).take n.toNat).map Record.bytes)).length s.rcd.freeze.isSome
       (decide (i.toNat < s.rcd.oldest)) s.rcd.wearEvent ++
       (fitting (((s.rcd.store.filter fun x => i.toNat ≤ x.index).take n.toNat).map Record.bytes)).flatten))) ∧
  (∀ (h : CmdHdr) (i : BitVec 64) (n : BitVec 16) s, Accepts s h 0x0405 (some .maintainer) → n.toNat ≤ 255 → exec (.silRead h i n) s = .next
     (s.say h 0x0405 stOk (storeHeader s.rcd.silIndex s.rcd.silOldest
       (fitting (((s.rcd.sil.drop (i.toNat - s.rcd.silOldest)).take n.toNat).map SilRecord.bytes)).length false
       (decide (i.toNat < s.rcd.silOldest)) s.rcd.wearSil ++
       (fitting (((s.rcd.sil.drop (i.toNat - s.rcd.silOldest)).take n.toNat).map SilRecord.bytes)).flatten))) ∧
  (∀ (h : CmdHdr) s, Accepts s h 0x0402 (some .maintainer) → s.rcd.freeze = none → Runs (.recFreeze h) s fun t =>
     t.rcd.freeze = some ⟨h.source.toNat, s.rcd.opTime, [], 0⟩) ∧
  (∀ (h : CmdHdr) s, Accepts s h 0x0403 (some .maintainer) → Runs (.recThaw h) s fun t => t.rcd.freeze = none ∧ s.rcd.writeIndex ≤ t.rcd.writeIndex) ∧
  (∀ f s, s.rcd.freeze = some f → f.since + 60000 ≤ s.rcd.opTime → Runs .freezeTimeout s fun t => t.rcd.freeze = none ∧ s.rcd.writeIndex ≤ t.rcd.writeIndex) ∧
  (∀ (h : CmdHdr) (u : BitVec 64) s, Accepts s h 0x0404 (some .custodian) → u.toNat ≤ s.rcd.writeIndex → s.rcd.freeze = none →
     exec (.recClearStep1 h u) s = .next ((s.issueToken h 0x0404 (clearTarget u.toNat) false (some .custodian)).1.say h 0x0404 stOk
       (bytesOf 4 (s.issueToken h 0x0404 (clearTarget u.toNat) false (some .custodian)).2))) ∧
  (∀ (h : CmdHdr) (u : BitVec 64) tok s, Accepts s h 0x0404 (some .custodian) → s.mod.hkLost = false →
     s.tokenValid h 0x0404 (clearTarget u.toNat) false tok = true → u.toNat ≤ s.rcd.writeIndex → s.rcd.freeze = none → Runs (.recClearStep2 h u tok) s fun t =>
       (∀ r ∈ t.rcd.store, u.toNat ≤ r.index) ∧ ∃ r ∈ t.rcd.store, r.type = 0x0A02) ∧
  (∀ (h : CmdHdr) label s, Accepts s h 0x0406 (some .maintainer) → s.mod.mode.cycles = true → s.rcd.mark = none →
     exec (.silMark h label) s = .next { s with rcd := { s.rcd with mark := some (h, padTo 16 label) } })

/-- A lane-local record is written at once; an identical one waits for a second lane; copies older than 20 ms are pending no more, and
one that found no match is written with its own lane; a record closes after a second without a repeat; the rings are drained of
every copy; 10 s of operating time are persisted.
(R386, R388, R390, R394) -/
def Obligations.RecordWritingCommands : Prop :=
  (∀ l ty body s, s.mod.mode.lanesRun = true → s.laneSt l ≠ .hold → s.laneSt l ≠ .failed → exec (.recordHandover l true ty body) s =
     .next (s.recordLane l ty (body.take 976))) ∧
  (∀ l ty body s, s.mod.mode.lanesRun = true → s.laneSt l ≠ .hold → s.laneSt l ≠ .failed →
     (∀ p ∈ s.rcd.pending, p.type = ty → p.payload = body.take 976 → p.lanes.get l = true) → Runs (.recordHandover l false ty body) s fun t =>
       t.rcd.pending = s.rcd.pending ++ [⟨ty, body.take 976, LaneSet.single l, s.recCycle, s.rcd.opTime⟩] ∧ t.rcd.store = s.rcd.store ∧ t.lanes = s.lanes) ∧
  (∀ s, Runs .recordCopyTimeout s fun t => t.rcd.pending = s.rcd.pending.filter (fun p => !decide (p.since + 20 ≤ s.rcd.opTime)) ∧ t.mod = s.mod) ∧
  (∀ p s, s.rcd.pending = [p] → p.since + 20 ≤ s.rcd.opTime → LaneSet.count p.lanes = 1 → s.mod.hkLost = false → s.rcd.freeze = none → s.rcd.opened = [] →
     p.payload.length ≤ 976 → storeBytes s.rcd.store ≤ 2147483648 →
     Runs .recordCopyTimeout s fun t => ∃ r ∈ t.rcd.store, r.type = p.type ∧ r.payload = p.payload ∧ r.lane = (LaneSet.first p.lanes)) ∧
  (∀ i s, s.mod.mode.cycles = true → (s.rcd.opened.any fun o => o.index = i && o.last + 1000 ≤ s.rcd.opTime) = true → Runs (.recordClose i) s fun t =>
     t.rcd.opened = (s.rcd.opened.filter fun o => o.index ≠ i) ∧ t.rcd.store = s.rcd.store) ∧
  (∀ s, s.mod.hkLost = false → s.mod.mode.lanesRun = true → Runs .ringDrain s fun t => t.rcd.copies = [] ∧ t.rcd.lostRing = 0 ∧
     s.rcd.silOldest ≤ t.rcd.silOldest ∧ s.rcd.silIndex ≤ t.rcd.silIndex) ∧
  (∀ s, s.mod.mode ≠ .off → exec .operatingTimePersist s = .next { s with rcd := { s.rcd with
     opTime := max s.rcd.opTime (s.rcd.persistOp + 10000), persistOp := max s.rcd.opTime (s.rcd.persistOp + 10000) } })

/-- A missing heartbeat resets the housekeeper, and after three resets within 10 minutes it is lost; 60 s after its loss a module whose
image requires the recorder enters SAFE with cause 19; a keyframe is taken by the first voting lane at a cycle that is a multiple of
1 000 and waits while a resync copy runs. With at least two replaying lanes the next cycle of the range is computed from its
recorded items and its output hash compared; with fewer the replay ends with code 5, and a range without cycles ends with code 0.
(R16, R394, R407, R410, R411) -/
def Obligations.HousekeeperAndReplayCommands : Prop :=
  (∀ s, s.mod.mode.cycles = true → s.mod.hkLost = false → countWithin s.rcd.opTime 600000 s.mod.hkResets < 3 → Runs .housekeeperHeartbeatMissing s fun t =>
     t.mod = { s.mod with hkResets := s.rcd.opTime :: s.mod.hkResets } ∧ ∀ l, (t.lane l).diag.hkAlive = false) ∧
  (∀ s, s.mod.mode.cycles = true → s.mod.hkLost = false → 3 ≤ countWithin s.rcd.opTime 600000 s.mod.hkResets → Runs .housekeeperHeartbeatMissing s fun t =>
     t.mod = { s.mod with hkLost := true } ∧ t.rcd.copies = [] ∧ ∀ l, (t.lane l).diag.hkAlive = false) ∧
  (∀ s, s.mod.hkLost = true → s.mod.mode.cycles = true → s.image.decl.recorderRequired = true → Runs .housekeeperLostTimeout s fun t =>
     t.mod.mode = .safe ∧ t = s.enterSafe 19) ∧
  (∀ l s, s.mod.mode = .operate → s.acc.tick = 0 → s.mod.cycle.toNat % 1000 = 0 → s.rcd.keyframeDue = none → s.copyRuns = false →
     LaneSet.first s.votingLanes = some l → exec .keyframeDue s = .next (s.takeKeyframe l)) ∧
  (∀ s, s.mod.mode = .operate → s.acc.tick = 0 → s.mod.cycle.toNat % 1000 = 0 → s.rcd.keyframeDue = none → s.copyRuns = true →
     exec .keyframeDue s = .next { s with rcd := { s.rcd with keyframeDue := some s.mod.cycle.toNat } }) ∧
  (∀ c rest head items s, s.mod.mode = .replay → s.rcd.replayRunning = true → s.rcd.replayLeft = c :: rest → 2 ≤ LaneSet.count s.writers →
     s.replayHead c = some head → silItems s.rcd.sil c 1 = some items → Runs .replayCycle s fun t =>
     t = s.replayOne c rest head items ∧ (t.rcd.replayRunning = true → t.rcd.replayLeft = rest ∧ rest ≠ [] ∧ t.rcd.replayCycle = c ∧
       t.acc.outHash = BitVec.ofNat 64 (leAt head 20 8)) ∧ t.mod = s.mod) ∧
  (∀ c rest s, s.mod.mode = .replay → s.rcd.replayRunning = true → s.rcd.replayLeft = c :: rest → LaneSet.count s.writers < 2 →
     Runs .replayCycle s fun t => t.rcd.replayRunning = false ∧ t.rcd.replayResult = 5 ∧ t.rcd.replayLeft = []) ∧
  (∀ s, s.mod.mode = .replay → s.rcd.replayRunning = true → s.rcd.replayLeft = [] → Runs .replayCycle s fun t =>
     t.rcd.replayRunning = false ∧ t.rcd.replayResult = 0)

/-- NET_STATUS answers each writing lane's hub registers or the nodes' states; a port taken out of service or returned shows so; an
accepted bank write changes the inactive bank only and answers its CRC; an accepted bank switch freezes the inactive bank and asks
for its round in every writing lane; the policy sets whether late-comers are granted.
(R206, R237, R238, R348) -/
def Obligations.NetworkAdministration : Prop :=
  (∀ (h : CmdHdr) (ch : Byte) (first n : BitVec 16) s, Accepts s h 0x0901 (some .maintainer) → ch.toNat ≤ 1 → 1 ≤ n.toNat → n.toNat ≤ 100 →
     first.toNat < 512 → exec (.netStatus h 0 ch first n) s = .next (s.replyTagged h 0x0901 fun l =>
       fields [(1, 0), (1, ch.toNat), (2, first.toNat), (2, n.toNat), (2, 0)] ++ hubWords.flatMap fun o => leBytes 4 (rdHub s l o))) ∧
  (∀ (h : CmdHdr) (ch : Byte) (first n : BitVec 16) s, Accepts s h 0x0901 (some .maintainer) → ch.toNat ≤ 1 → 1 ≤ n.toNat → n.toNat ≤ 100 →
     first.toNat + n.toNat ≤ 512 → exec (.netStatus h 1 ch first n) s = .next (s.replyTagged h 0x0901 fun _ =>
       fields [(1, 1), (1, ch.toNat), (2, first.toNat), (2, n.toNat), (2, 0)] ++ (List.range n.toNat).flatMap fun i => s.nodeStatus (first.toNat + i))) ∧
  (∀ (h : CmdHdr) (p : Byte) q s, Accepts s h 0x0902 (some .engineer) → p.toNat < 64 → (if p.toNat < 32 then s.net.servesX else s.net.servesY) = true →
     ((s.portNodes p.toNat).any fun q => s.portOut (if p.toNat < 32 then q.2.portY + 32 else q.2.portX)) = false →
     Tab.wf s.net.ports = true → Runs (.netPortControl h p 1) s fun t => t.portOut p.toNat = true ∧ (q ≠ p.toNat → t.portOut q = s.portOut q) ∧ Answered s t h 0x0902 stOk []) ∧
  (∀ (h : CmdHdr) (p : Byte) s, Accepts s h 0x0902 (some .engineer) → p.toNat < 64 → (if p.toNat < 32 then s.net.servesX else s.net.servesY) = true →
     Runs (.netPortControl h p 0) s fun t => t.portOut p.toNat = false ∧ Answered s t h 0x0902 stOk []) ∧
  (∀ (h : CmdHdr) (p : Byte) (first : BitVec 16) es s, Accepts s h 0x0903 (some .engineer) → p.toNat < 64 → 1 ≤ es.length → es.length ≤ 250 →
     first.toNat + es.length ≤ 1000 → s.bankRefusal p.toNat first.toNat es = none → s.mod.role ≠ .lead → Runs (.netBankWrite h p first es) s fun t =>
       t.net = s.net.setInactive (writeBank s.net.inactive p.toNat first.toNat es) ∧
       Answered s t h 0x0903 stOk (bytesOf 4 (bankCrc (writeBank s.net.inactive p.toNat first.toNat es)))) ∧
  (∀ (h : CmdHdr) (r crc : Word) s, Accepts s h 0x0904 (some .engineer) → newer r (s.net.round + 49) = true → s.net.frozen = false → s.mod.role ≠ .lead →
     Runs (.netBankSwitch h r crc) s fun t => t.net.frozen = (decide (LaneSet.count s.writers ≠ 0)) ∧ t.net.round = s.net.round ∧
       (∀ l, s.writers.get l = true → (t.net.regs.get l).request = some r ∧ (t.net.regs.get l).crc = crc) ∧ Answered s t h 0x0904 stAccepted []) ∧
  (∀ (h : CmdHdr) (e : Byte) s, Accepts s h 0x0905 (some .engineer) → e.toNat ≤ 1 → s.mod.role ≠ .tender → Runs (.netLatecomerPolicy h e) s fun t =>
     t.net = { s.net with grantsOn := decide (e.toNat = 1) } ∧ Answered s t h 0x0905 stOk [])

/-- RED_STATUS answers the pair's state; an allowed switchover issues a token and with it is owed 20 cycles later; RED_LANE_RESYNC of a
lane in OUT begins its resync and forgets its automatic ones; a module that is no lead sets its own takeover rights; a forwarded
setting without an answer is answered LANE_DISAGREE.
(R328, R349, R357, R376) -/
def Obligations.RedundancyCommands : Prop :=
  (∀ (h : CmdHdr) s, Accepts s h 0x0A01 (some .maintainer) → exec (.redStatus h) s = .next (s.say h 0x0A01 stOk
     (fields [(1, s.mod.role.code), (1, s.mod.cond.code), (1, b2n s.plink.up), (1, b2n s.rightsNow), (4, s.net.claim.toNat),
       (4, s.plink.partnerClaim.toNat), (1, s.plink.partnerMode), (1, s.plink.shadow.code), (2, 0), (4, s.plink.shadowMis), (1, s.resyncLaneByte),
       (1, s.resyncPct), (2, 0), (4, if s.degraded then s.mod.degradedLeft / 1000 else 0xFFFFFFFF)]))) ∧
  (∀ (h : CmdHdr) s, Accepts s h 0x0A02 (some .maintainer) → s.switchoverAllowed = true → exec (.redSwitchoverStep1 h) s =
     .next ((s.issueToken h 0x0A02 switchoverTarget false (some .maintainer)).1.say h 0x0A02 stOk
       (bytesOf 4 (s.issueToken h 0x0A02 switchoverTarget false (some .maintainer)).2))) ∧
  (∀ (h : CmdHdr) tok s, Accepts s h 0x0A02 (some .maintainer) → s.switchoverAllowed = true → s.tokenValid h 0x0A02 switchoverTarget false tok = true →
     s.plink.switchAt = none → Runs (.redSwitchoverStep2 h tok) s fun t => t.plink.switchAt = some (s.mod.cycle.toNat + 20) ∧
       t.plink.switchDone = some (h.completion 0x0A02 switchoverTarget) ∧ t.mod.role = .lead ∧ Answered s t h 0x0A02 stAccepted []) ∧
  (∀ (h : CmdHdr) l s, Accepts s h 0x0A03 (some .maintainer) → s.laneSt l = .out → (s.lane l).diag.halted = false →
     Runs (.redLaneResync h (BitVec.ofNat 8 l.id)) s fun t => t.laneSt l = .resync ∧ (t.lane l).core.autoTimes = [] ∧
       (t.lane l).core.resync.step = 1 ∧ (∀ k, k ≠ l → t.lane k = s.lane k) ∧ Answered s t h 0x0A03 stAccepted []) ∧
  (∀ (h : CmdHdr) (e : Byte) s, Accepts s h 0x0A04 (some .engineer) → e.toNat ≤ 1 → s.mod.role ≠ .lead → Runs (.redTenderEnable h e) s fun t =>
     t.plink = { s.plink with rights := decide (e.toNat = 1) } ∧ Answered s t h 0x0A04 stOk []) ∧
  (∀ (h : CmdHdr) e s, s.plink.enableAsk = some (h, e) → exec .tenderEnableTimeout s =
     .next (({ s with plink := { s.plink with enableAsk := none } } : State).say h 0x0A04 stDisagree []))

/-- IO_STATUS answers the channel registers of each writing lane; IO_TEST_CONFIG sets the period of a non-vital output and answers it
with the next tests; IO_FORCE forces an output of a module with LAB in OPERATE for its duration; DBG_STATUS answers seals, halted
lanes and the log's count.
(R262, R350) -/
def Obligations.FieldAndDebugQueries : Prop :=
  (∀ (h : CmdHdr) (first n : Byte) s, Accepts s h 0x0B01 (some .maintainer) → 1 ≤ n.toNat → first.toNat + n.toNat ≤ 64 →
     exec (.ioStatus h first n) s = .next (s.replyTagged h 0x0B01 fun l => fields [(4, rdFch s l 0), (1, first.toNat), (1, n.toNat), (2, 0)] ++
       (List.range n.toNat).flatMap fun i => fields [(4, rdFch s l (0x100 + 4 * (first.toNat + i))), (4, rdFch s l (0x200 + 4 * (first.toNat + i)))])) ∧
  (∀ (h : CmdHdr) (ch v : Byte) d k s, Accepts s h 0x0B02 (some .maintainer) → ch.toNat < 64 → v.toNat ≤ 100 → s.isOutput ch.toNat = true →
     Tab.get? s.image.chans ch.toNat = some d → d.vital = false →
     Tab.wf s.fch.testPeriods = true → Runs (.ioTestConfig h ch 1 v) s fun t =>
       t.testPeriod ch.toNat = v.toNat ∧ (k ≠ ch.toNat → t.testPeriod k = s.testPeriod k)) ∧
  (∀ (h : CmdHdr) (ch v : Byte) s, Accepts s h 0x0B02 (some .maintainer) → ch.toNat < 64 → v.toNat ≤ 100 →
     exec (.ioTestConfig h ch 0 v) s = .next (s.say h 0x0B02 stOk (fields [(1, s.testPeriod ch.toNat), (3, 0), (4, s.nextTest ch.toNat true), (4, s.nextTest ch.toNat false)]))) ∧
  (∀ (h : CmdHdr) (ch v : Byte) (d : Word) s, Accepts s h 0x0B03 (some .engineer) → s.mod.lab = true → s.mod.mode = .operate →
     s.isOutput ch.toNat = true → v.toNat ≤ 1 → 1 ≤ d.toNat → d.toNat ≤ 60000 → Runs (.ioForce h ch v d) s fun t =>
       t.fch = { s.fch with forced := Tab.put s.fch.forced ch.toNat ⟨decide (v.toNat = 1), d.toNat, d.toNat, h.source.toNat⟩ }) ∧
  (∀ (h : CmdHdr) s, Accepts s h 0x0D01 (some .engineer) → s.mod.lab = true → exec (.dbgStatus h) s = .next (s.say h 0x0D01 stOk
     (fields [(1, b2n s.mod.sealed), (1, LaneSet.bits (s.lanesWith fun l => l.diag.halted)), (1, b2n s.mod.dbgAttached), (1, 0), (4, s.mod.dbgLog)])))
end

