-- ==== Sys2Proof/Laws/State.lean ====
section
/-!
SUPPORT. Access to the state: what each named update leaves and changes, one lemma for each field, so that no proof unfolds a record update.
`On` and `SameIn` are how the lemmas of Laws name the fields that an operation keeps.
-/

namespace Sys2Proof.Machine

/-- A state has a property; the simplifier reads a lemma `On (f s) fun t => t.x = s.x ∧ …` as its equations. -/
abbrev On (t : State) (P : State → Prop) : Prop := P t

/-- A part of every lane is the same in two states. -/
@[simp] abbrev SameIn {α : Type} (f : LaneS → α) (t s : State) : Prop := ∀ l, f (t.lanes.get l) = f (s.lanes.get l)

/-! ### Lanes -/

@[simp] theorem lane_eq (s : State) (l : Lane) : s.lane l = s.lanes.get l := rfl
@[simp] theorem laneSt_eq (s : State) (l : Lane) : s.laneSt l = (s.lanes.get l).core.st := rfl

@[simp] theorem ite_get {α : Type} (c : Prop) [Decidable c] (x y : PerLane α) (m : Lane) :
    (if c then x else y).get m = if c then x.get m else y.get m := by split <;> rfl

/-! ### modLane -/

@[simp] theorem modLane_pending (s : State) (l : Lane) (f : LaneS → LaneS) : (s.modLane l f).pending = s.pending := rfl
@[simp] theorem modLane_freeCtr (s : State) (l : Lane) (f : LaneS → LaneS) : (s.modLane l f).freeCtr = s.freeCtr := rfl
@[simp] theorem modLane_mod (s : State) (l : Lane) (f : LaneS → LaneS) : (s.modLane l f).mod = s.mod := rfl
@[simp] theorem modLane_acc (s : State) (l : Lane) (f : LaneS → LaneS) : (s.modLane l f).acc = s.acc := rfl
@[simp] theorem modLane_img (s : State) (l : Lane) (f : LaneS → LaneS) : (s.modLane l f).img = s.img := rfl
@[simp] theorem modLane_ixl (s : State) (l : Lane) (f : LaneS → LaneS) : (s.modLane l f).ixl = s.ixl := rfl
@[simp] theorem modLane_sheets (s : State) (l : Lane) (f : LaneS → LaneS) : (s.modLane l f).sheets = s.sheets := rfl
@[simp] theorem modLane_net (s : State) (l : Lane) (f : LaneS → LaneS) : (s.modLane l f).net = s.net := rfl
@[simp] theorem modLane_fch (s : State) (l : Lane) (f : LaneS → LaneS) : (s.modLane l f).fch = s.fch := rfl
@[simp] theorem modLane_sup (s : State) (l : Lane) (f : LaneS → LaneS) : (s.modLane l f).sup = s.sup := rfl
@[simp] theorem modLane_host (s : State) (l : Lane) (f : LaneS → LaneS) : (s.modLane l f).host = s.host := rfl
@[simp] theorem modLane_rcd (s : State) (l : Lane) (f : LaneS → LaneS) : (s.modLane l f).rcd = s.rcd := rfl
@[simp] theorem modLane_plink (s : State) (l : Lane) (f : LaneS → LaneS) : (s.modLane l f).plink = s.plink := rfl
@[simp] theorem modLane_tap (s : State) (l : Lane) (f : LaneS → LaneS) : (s.modLane l f).tap = s.tap := rfl

/-! ### mapLanes -/

@[simp] theorem mapLanes_pending (s : State) (f : Lane → LaneS → LaneS) : (s.mapLanes f).pending = s.pending := rfl
@[simp] theorem mapLanes_freeCtr (s : State) (f : Lane → LaneS → LaneS) : (s.mapLanes f).freeCtr = s.freeCtr := rfl
@[simp] theorem mapLanes_mod (s : State) (f : Lane → LaneS → LaneS) : (s.mapLanes f).mod = s.mod := rfl
@[simp] theorem mapLanes_acc (s : State) (f : Lane → LaneS → LaneS) : (s.mapLanes f).acc = s.acc := rfl
@[simp] theorem mapLanes_img (s : State) (f : Lane → LaneS → LaneS) : (s.mapLanes f).img = s.img := rfl
@[simp] theorem mapLanes_ixl (s : State) (f : Lane → LaneS → LaneS) : (s.mapLanes f).ixl = s.ixl := rfl
@[simp] theorem mapLanes_sheets (s : State) (f : Lane → LaneS → LaneS) : (s.mapLanes f).sheets = s.sheets := rfl
@[simp] theorem mapLanes_net (s : State) (f : Lane → LaneS → LaneS) : (s.mapLanes f).net = s.net := rfl
@[simp] theorem mapLanes_fch (s : State) (f : Lane → LaneS → LaneS) : (s.mapLanes f).fch = s.fch := rfl
@[simp] theorem mapLanes_sup (s : State) (f : Lane → LaneS → LaneS) : (s.mapLanes f).sup = s.sup := rfl
@[simp] theorem mapLanes_host (s : State) (f : Lane → LaneS → LaneS) : (s.mapLanes f).host = s.host := rfl
@[simp] theorem mapLanes_rcd (s : State) (f : Lane → LaneS → LaneS) : (s.mapLanes f).rcd = s.rcd := rfl
@[simp] theorem mapLanes_plink (s : State) (f : Lane → LaneS → LaneS) : (s.mapLanes f).plink = s.plink := rfl
@[simp] theorem mapLanes_tap (s : State) (f : Lane → LaneS → LaneS) : (s.mapLanes f).tap = s.tap := rfl

/-! ### bump -/

@[simp] theorem bump_pending (s : State) : (s.bump).pending = s.pending := rfl
@[simp] theorem bump_mod (s : State) : (s.bump).mod = s.mod := rfl
@[simp] theorem bump_acc (s : State) : (s.bump).acc = s.acc := rfl
@[simp] theorem bump_img (s : State) : (s.bump).img = s.img := rfl
@[simp] theorem bump_ixl (s : State) : (s.bump).ixl = s.ixl := rfl
@[simp] theorem bump_sheets (s : State) : (s.bump).sheets = s.sheets := rfl
@[simp] theorem bump_net (s : State) : (s.bump).net = s.net := rfl
@[simp] theorem bump_fch (s : State) : (s.bump).fch = s.fch := rfl
@[simp] theorem bump_sup (s : State) : (s.bump).sup = s.sup := rfl
@[simp] theorem bump_host (s : State) : (s.bump).host = s.host := rfl
@[simp] theorem bump_rcd (s : State) : (s.bump).rcd = s.rcd := rfl
@[simp] theorem bump_plink (s : State) : (s.bump).plink = s.plink := rfl
@[simp] theorem bump_tap (s : State) : (s.bump).tap = s.tap := rfl
@[simp] theorem bump_freeCtr (s : State) : s.bump.freeCtr = s.freeCtr + 1 := rfl
@[simp] theorem bump_lanes (s : State) : (s.bump).lanes = s.lanes := rfl

/-! ### withPending -/

@[simp] theorem withPending_freeCtr (s : State) (q : List Instr) : (s.withPending q).freeCtr = s.freeCtr := rfl
@[simp] theorem withPending_mod (s : State) (q : List Instr) : (s.withPending q).mod = s.mod := rfl
@[simp] theorem withPending_acc (s : State) (q : List Instr) : (s.withPending q).acc = s.acc := rfl
@[simp] theorem withPending_img (s : State) (q : List Instr) : (s.withPending q).img = s.img := rfl
@[simp] theorem withPending_ixl (s : State) (q : List Instr) : (s.withPending q).ixl = s.ixl := rfl
@[simp] theorem withPending_sheets (s : State) (q : List Instr) : (s.withPending q).sheets = s.sheets := rfl
@[simp] theorem withPending_net (s : State) (q : List Instr) : (s.withPending q).net = s.net := rfl
@[simp] theorem withPending_fch (s : State) (q : List Instr) : (s.withPending q).fch = s.fch := rfl
@[simp] theorem withPending_sup (s : State) (q : List Instr) : (s.withPending q).sup = s.sup := rfl
@[simp] theorem withPending_host (s : State) (q : List Instr) : (s.withPending q).host = s.host := rfl
@[simp] theorem withPending_rcd (s : State) (q : List Instr) : (s.withPending q).rcd = s.rcd := rfl
@[simp] theorem withPending_plink (s : State) (q : List Instr) : (s.withPending q).plink = s.plink := rfl
@[simp] theorem withPending_tap (s : State) (q : List Instr) : (s.withPending q).tap = s.tap := rfl
@[simp] theorem withPending_pending (s : State) (q : List Instr) : (s.withPending q).pending = q := rfl
@[simp] theorem withPending_lanes (s : State) (q : List Instr) : (s.withPending q).lanes = s.lanes := rfl

/-! ### passMs -/

@[simp] theorem passMs_pending (s : State) (ms : Nat) : (s.passMs ms).pending = s.pending := rfl
@[simp] theorem passMs_freeCtr (s : State) (ms : Nat) : (s.passMs ms).freeCtr = s.freeCtr := rfl
@[simp] theorem passMs_mod (s : State) (ms : Nat) : (s.passMs ms).mod = s.mod := rfl
@[simp] theorem passMs_acc (s : State) (ms : Nat) : (s.passMs ms).acc = s.acc := rfl
@[simp] theorem passMs_img (s : State) (ms : Nat) : (s.passMs ms).img = s.img := rfl
@[simp] theorem passMs_ixl (s : State) (ms : Nat) : (s.passMs ms).ixl = s.ixl := rfl
@[simp] theorem passMs_sheets (s : State) (ms : Nat) : (s.passMs ms).sheets = s.sheets := rfl
@[simp] theorem passMs_net (s : State) (ms : Nat) : (s.passMs ms).net = s.net := rfl
@[simp] theorem passMs_fch (s : State) (ms : Nat) : (s.passMs ms).fch = s.fch := rfl
@[simp] theorem passMs_sup (s : State) (ms : Nat) : (s.passMs ms).sup = s.sup := rfl
@[simp] theorem passMs_host (s : State) (ms : Nat) : (s.passMs ms).host = s.host := rfl
@[simp] theorem passMs_plink (s : State) (ms : Nat) : (s.passMs ms).plink = s.plink := rfl
@[simp] theorem passMs_tap (s : State) (ms : Nat) : (s.passMs ms).tap = s.tap := rfl
@[simp] theorem passMs_lanes (s : State) (ms : Nat) : (s.passMs ms).lanes = s.lanes := rfl

/-! ### One lane's part -/

@[simp] theorem get_modLane_same (s : State) (l : Lane) (f : LaneS → LaneS) : (s.modLane l f).lanes.get l = f (s.lanes.get l) := by
  cases l <;> rfl

theorem get_modLane_ne (s : State) (l m : Lane) (f : LaneS → LaneS) (h : m ≠ l) : (s.modLane l f).lanes.get m = s.lanes.get m := by
  cases l <;> cases m <;> first | rfl | exact absurd rfl h

@[simp] theorem get_mapLanes (s : State) (m : Lane) (f : Lane → LaneS → LaneS) : (s.mapLanes f).lanes.get m = f m (s.lanes.get m) := by
  cases m <;> rfl

@[simp] theorem get_modCore_same (s : State) (l : Lane) (f : CoreS → CoreS) :
    ((s.modCore l f).lanes.get l).core = f (s.lanes.get l).core := by cases l <;> rfl
@[simp] theorem get_modClk_same (s : State) (l : Lane) (f : ClkS → ClkS) :
    ((s.modClk l f).lanes.get l).clk = f (s.lanes.get l).clk := by cases l <;> rfl
@[simp] theorem get_modPwr_same (s : State) (l : Lane) (f : PwrS → PwrS) :
    ((s.modPwr l f).lanes.get l).pwr = f (s.lanes.get l).pwr := by cases l <;> rfl
@[simp] theorem get_modTbs_same (s : State) (l : Lane) (f : TbsS → TbsS) :
    ((s.modTbs l f).lanes.get l).tbs = f (s.lanes.get l).tbs := by cases l <;> rfl
@[simp] theorem get_modDiag_same (s : State) (l : Lane) (f : DiagS → DiagS) :
    ((s.modDiag l f).lanes.get l).diag = f (s.lanes.get l).diag := by cases l <;> rfl
@[simp] theorem get_modMmu_same (s : State) (l : Lane) (f : MmuS → MmuS) :
    ((s.modMmu l f).lanes.get l).mmu = f (s.lanes.get l).mmu := by cases l <;> rfl
@[simp] theorem get_modPerf_same (s : State) (l : Lane) (f : PerfS → PerfS) :
    ((s.modPerf l f).lanes.get l).perf = f (s.lanes.get l).perf := by cases l <;> rfl
@[simp] theorem get_modRte_same (s : State) (l : Lane) (f : RteS → RteS) :
    ((s.modRte l f).lanes.get l).rte = f (s.lanes.get l).rte := by cases l <;> rfl

@[simp] theorem modLane_l_core (s : State) (l m : Lane) (f : LaneS → LaneS) (h : ∀ x, (f x).core = x.core) :
    ((s.modLane l f).lanes.get m).core = (s.lanes.get m).core := by
  cases l <;> cases m <;> first | rfl | exact h _
@[simp] theorem mapLanes_l_core (s : State) (m : Lane) (f : Lane → LaneS → LaneS) (h : ∀ l x, (f l x).core = x.core) :
    ((s.mapLanes f).lanes.get m).core = (s.lanes.get m).core := by cases m <;> exact h _ _
@[simp] theorem iteL_core (c : Prop) [Decidable c] (x y : LaneS) : (if c then x else y).core = if c then x.core else y.core := by split <;> rfl
@[simp] theorem modLane_l_clk (s : State) (l m : Lane) (f : LaneS → LaneS) (h : ∀ x, (f x).clk = x.clk) :
    ((s.modLane l f).lanes.get m).clk = (s.lanes.get m).clk := by
  cases l <;> cases m <;> first | rfl | exact h _
@[simp] theorem mapLanes_l_clk (s : State) (m : Lane) (f : Lane → LaneS → LaneS) (h : ∀ l x, (f l x).clk = x.clk) :
    ((s.mapLanes f).lanes.get m).clk = (s.lanes.get m).clk := by cases m <;> exact h _ _
@[simp] theorem iteL_clk (c : Prop) [Decidable c] (x y : LaneS) : (if c then x else y).clk = if c then x.clk else y.clk := by split <;> rfl
@[simp] theorem modLane_l_pwr (s : State) (l m : Lane) (f : LaneS → LaneS) (h : ∀ x, (f x).pwr = x.pwr) :
    ((s.modLane l f).lanes.get m).pwr = (s.lanes.get m).pwr := by
  cases l <;> cases m <;> first | rfl | exact h _
@[simp] theorem mapLanes_l_pwr (s : State) (m : Lane) (f : Lane → LaneS → LaneS) (h : ∀ l x, (f l x).pwr = x.pwr) :
    ((s.mapLanes f).lanes.get m).pwr = (s.lanes.get m).pwr := by cases m <;> exact h _ _
@[simp] theorem iteL_pwr (c : Prop) [Decidable c] (x y : LaneS) : (if c then x else y).pwr = if c then x.pwr else y.pwr := by split <;> rfl
@[simp] theorem modLane_l_tbs (s : State) (l m : Lane) (f : LaneS → LaneS) (h : ∀ x, (f x).tbs = x.tbs) :
    ((s.modLane l f).lanes.get m).tbs = (s.lanes.get m).tbs := by
  cases l <;> cases m <;> first | rfl | exact h _
@[simp] theorem mapLanes_l_tbs (s : State) (m : Lane) (f : Lane → LaneS → LaneS) (h : ∀ l x, (f l x).tbs = x.tbs) :
    ((s.mapLanes f).lanes.get m).tbs = (s.lanes.get m).tbs := by cases m <;> exact h _ _
@[simp] theorem iteL_tbs (c : Prop) [Decidable c] (x y : LaneS) : (if c then x else y).tbs = if c then x.tbs else y.tbs := by split <;> rfl
@[simp] theorem modLane_l_diag (s : State) (l m : Lane) (f : LaneS → LaneS) (h : ∀ x, (f x).diag = x.diag) :
    ((s.modLane l f).lanes.get m).diag = (s.lanes.get m).diag := by
  cases l <;> cases m <;> first | rfl | exact h _
@[simp] theorem mapLanes_l_diag (s : State) (m : Lane) (f : Lane → LaneS → LaneS) (h : ∀ l x, (f l x).diag = x.diag) :
    ((s.mapLanes f).lanes.get m).diag = (s.lanes.get m).diag := by cases m <;> exact h _ _
@[simp] theorem iteL_diag (c : Prop) [Decidable c] (x y : LaneS) : (if c then x else y).diag = if c then x.diag else y.diag := by split <;> rfl
@[simp] theorem modLane_l_mmu (s : State) (l m : Lane) (f : LaneS → LaneS) (h : ∀ x, (f x).mmu = x.mmu) :
    ((s.modLane l f).lanes.get m).mmu = (s.lanes.get m).mmu := by
  cases l <;> cases m <;> first | rfl | exact h _
@[simp] theorem mapLanes_l_mmu (s : State) (m : Lane) (f : Lane → LaneS → LaneS) (h : ∀ l x, (f l x).mmu = x.mmu) :
    ((s.mapLanes f).lanes.get m).mmu = (s.lanes.get m).mmu := by cases m <;> exact h _ _
@[simp] theorem iteL_mmu (c : Prop) [Decidable c] (x y : LaneS) : (if c then x else y).mmu = if c then x.mmu else y.mmu := by split <;> rfl
@[simp] theorem modLane_l_dma (s : State) (l m : Lane) (f : LaneS → LaneS) (h : ∀ x, (f x).dma = x.dma) :
    ((s.modLane l f).lanes.get m).dma = (s.lanes.get m).dma := by
  cases l <;> cases m <;> first | rfl | exact h _
@[simp] theorem mapLanes_l_dma (s : State) (m : Lane) (f : Lane → LaneS → LaneS) (h : ∀ l x, (f l x).dma = x.dma) :
    ((s.mapLanes f).lanes.get m).dma = (s.lanes.get m).dma := by cases m <;> exact h _ _
@[simp] theorem iteL_dma (c : Prop) [Decidable c] (x y : LaneS) : (if c then x else y).dma = if c then x.dma else y.dma := by split <;> rfl
@[simp] theorem modLane_l_arbE (s : State) (l m : Lane) (f : LaneS → LaneS) (h : ∀ x, (f x).arbE = x.arbE) :
    ((s.modLane l f).lanes.get m).arbE = (s.lanes.get m).arbE := by
  cases l <;> cases m <;> first | rfl | exact h _
@[simp] theorem mapLanes_l_arbE (s : State) (m : Lane) (f : Lane → LaneS → LaneS) (h : ∀ l x, (f l x).arbE = x.arbE) :
    ((s.mapLanes f).lanes.get m).arbE = (s.lanes.get m).arbE := by cases m <;> exact h _ _
@[simp] theorem iteL_arbE (c : Prop) [Decidable c] (x y : LaneS) : (if c then x else y).arbE = if c then x.arbE else y.arbE := by split <;> rfl
@[simp] theorem modLane_l_arbD (s : State) (l m : Lane) (f : LaneS → LaneS) (h : ∀ x, (f x).arbD = x.arbD) :
    ((s.modLane l f).lanes.get m).arbD = (s.lanes.get m).arbD := by
  cases l <;> cases m <;> first | rfl | exact h _
@[simp] theorem mapLanes_l_arbD (s : State) (m : Lane) (f : Lane → LaneS → LaneS) (h : ∀ l x, (f l x).arbD = x.arbD) :
    ((s.mapLanes f).lanes.get m).arbD = (s.lanes.get m).arbD := by cases m <;> exact h _ _
@[simp] theorem iteL_arbD (c : Prop) [Decidable c] (x y : LaneS) : (if c then x else y).arbD = if c then x.arbD else y.arbD := by split <;> rfl
@[simp] theorem modLane_l_cvu (s : State) (l m : Lane) (f : LaneS → LaneS) (h : ∀ x, (f x).cvu = x.cvu) :
    ((s.modLane l f).lanes.get m).cvu = (s.lanes.get m).cvu := by
  cases l <;> cases m <;> first | rfl | exact h _
@[simp] theorem mapLanes_l_cvu (s : State) (m : Lane) (f : Lane → LaneS → LaneS) (h : ∀ l x, (f l x).cvu = x.cvu) :
    ((s.mapLanes f).lanes.get m).cvu = (s.lanes.get m).cvu := by cases m <;> exact h _ _
@[simp] theorem iteL_cvu (c : Prop) [Decidable c] (x y : LaneS) : (if c then x else y).cvu = if c then x.cvu else y.cvu := by split <;> rfl
@[simp] theorem modLane_l_perf (s : State) (l m : Lane) (f : LaneS → LaneS) (h : ∀ x, (f x).perf = x.perf) :
    ((s.modLane l f).lanes.get m).perf = (s.lanes.get m).perf := by
  cases l <;> cases m <;> first | rfl | exact h _
@[simp] theorem mapLanes_l_perf (s : State) (m : Lane) (f : Lane → LaneS → LaneS) (h : ∀ l x, (f l x).perf = x.perf) :
    ((s.mapLanes f).lanes.get m).perf = (s.lanes.get m).perf := by cases m <;> exact h _ _
@[simp] theorem iteL_perf (c : Prop) [Decidable c] (x y : LaneS) : (if c then x else y).perf = if c then x.perf else y.perf := by split <;> rfl
@[simp] theorem modLane_l_rte (s : State) (l m : Lane) (f : LaneS → LaneS) (h : ∀ x, (f x).rte = x.rte) :
    ((s.modLane l f).lanes.get m).rte = (s.lanes.get m).rte := by
  cases l <;> cases m <;> first | rfl | exact h _
@[simp] theorem mapLanes_l_rte (s : State) (m : Lane) (f : Lane → LaneS → LaneS) (h : ∀ l x, (f l x).rte = x.rte) :
    ((s.mapLanes f).lanes.get m).rte = (s.lanes.get m).rte := by cases m <;> exact h _ _
@[simp] theorem iteL_rte (c : Prop) [Decidable c] (x y : LaneS) : (if c then x else y).rte = if c then x.rte else y.rte := by split <;> rfl

end Sys2Proof.Machine
end

