-- ==== Sys2Proof/Laws/Fold.lean ====
section
/-!
SUPPORT. A part of the state that each step of a fold keeps is kept by the fold: for every part, over lists, over lanes and over a choice.
-/

namespace Sys2Proof.Machine

theorem keep_foldl {α β : Type} (g : State → β) (f : State → α → State) (h : ∀ s x, g (f s x) = g s) (l : List α) (s : State) :
    g (l.foldl f s) = g s := by
  induction l generalizing s with
  | nil => rfl
  | cons x r ih => simp only [List.foldl_cons, ih, h]

theorem keep_foldr {α β : Type} (g : State → β) (f : α → State → State) (h : ∀ s x, g (f x s) = g s) (l : List α) (s : State) :
    g (l.foldr f s) = g s := by
  induction l with
  | nil => rfl
  | cons x r ih => simp only [List.foldr_cons, ih, h]

@[simp] theorem foldl_freeCtr {α : Type} (f : State → α → State) (h : ∀ s x, (f s x).freeCtr = s.freeCtr) (l : List α) (s : State) :
    (l.foldl f s).freeCtr = s.freeCtr := keep_foldl (·.freeCtr) f h l s
@[simp] theorem each_freeCtr {α : Type} (f : State → α → State) (h : ∀ s x, (f s x).freeCtr = s.freeCtr) (l : List α) (s : State) :
    (s.each l f).freeCtr = s.freeCtr := keep_foldl (·.freeCtr) f h l s
@[simp] theorem foldr_freeCtr {α : Type} (f : α → State → State) (h : ∀ s x, (f x s).freeCtr = s.freeCtr) (l : List α) (s : State) :
    (l.foldr f s).freeCtr = s.freeCtr := keep_foldr (·.freeCtr) f h l s
@[simp] theorem forLanes_freeCtr (f : State → Lane → State) (h : ∀ s x, (f s x).freeCtr = s.freeCtr) (ls : LaneSet) (s : State) :
    (s.forLanes ls f).freeCtr = s.freeCtr := keep_foldl (·.freeCtr) f h _ s
@[simp] theorem ite_freeCtr (c : Prop) [Decidable c] (x y : State) : (if c then x else y).freeCtr = if c then x.freeCtr else y.freeCtr := by split <;> rfl

@[simp] theorem foldl_mod {α : Type} (f : State → α → State) (h : ∀ s x, (f s x).mod = s.mod) (l : List α) (s : State) :
    (l.foldl f s).mod = s.mod := keep_foldl (·.mod) f h l s
@[simp] theorem each_mod {α : Type} (f : State → α → State) (h : ∀ s x, (f s x).mod = s.mod) (l : List α) (s : State) :
    (s.each l f).mod = s.mod := keep_foldl (·.mod) f h l s
@[simp] theorem foldr_mod {α : Type} (f : α → State → State) (h : ∀ s x, (f x s).mod = s.mod) (l : List α) (s : State) :
    (l.foldr f s).mod = s.mod := keep_foldr (·.mod) f h l s
@[simp] theorem forLanes_mod (f : State → Lane → State) (h : ∀ s x, (f s x).mod = s.mod) (ls : LaneSet) (s : State) :
    (s.forLanes ls f).mod = s.mod := keep_foldl (·.mod) f h _ s
@[simp] theorem ite_mod (c : Prop) [Decidable c] (x y : State) : (if c then x else y).mod = if c then x.mod else y.mod := by split <;> rfl

@[simp] theorem foldl_lanes {α : Type} (f : State → α → State) (h : ∀ s x, (f s x).lanes = s.lanes) (l : List α) (s : State) :
    (l.foldl f s).lanes = s.lanes := keep_foldl (·.lanes) f h l s
@[simp] theorem each_lanes {α : Type} (f : State → α → State) (h : ∀ s x, (f s x).lanes = s.lanes) (l : List α) (s : State) :
    (s.each l f).lanes = s.lanes := keep_foldl (·.lanes) f h l s
@[simp] theorem foldr_lanes {α : Type} (f : α → State → State) (h : ∀ s x, (f x s).lanes = s.lanes) (l : List α) (s : State) :
    (l.foldr f s).lanes = s.lanes := keep_foldr (·.lanes) f h l s
@[simp] theorem forLanes_lanes (f : State → Lane → State) (h : ∀ s x, (f s x).lanes = s.lanes) (ls : LaneSet) (s : State) :
    (s.forLanes ls f).lanes = s.lanes := keep_foldl (·.lanes) f h _ s
@[simp] theorem ite_lanes (c : Prop) [Decidable c] (x y : State) : (if c then x else y).lanes = if c then x.lanes else y.lanes := by split <;> rfl

@[simp] theorem foldl_acc {α : Type} (f : State → α → State) (h : ∀ s x, (f s x).acc = s.acc) (l : List α) (s : State) :
    (l.foldl f s).acc = s.acc := keep_foldl (·.acc) f h l s
@[simp] theorem each_acc {α : Type} (f : State → α → State) (h : ∀ s x, (f s x).acc = s.acc) (l : List α) (s : State) :
    (s.each l f).acc = s.acc := keep_foldl (·.acc) f h l s
@[simp] theorem foldr_acc {α : Type} (f : α → State → State) (h : ∀ s x, (f x s).acc = s.acc) (l : List α) (s : State) :
    (l.foldr f s).acc = s.acc := keep_foldr (·.acc) f h l s
@[simp] theorem forLanes_acc (f : State → Lane → State) (h : ∀ s x, (f s x).acc = s.acc) (ls : LaneSet) (s : State) :
    (s.forLanes ls f).acc = s.acc := keep_foldl (·.acc) f h _ s
@[simp] theorem ite_acc (c : Prop) [Decidable c] (x y : State) : (if c then x else y).acc = if c then x.acc else y.acc := by split <;> rfl

@[simp] theorem foldl_img {α : Type} (f : State → α → State) (h : ∀ s x, (f s x).img = s.img) (l : List α) (s : State) :
    (l.foldl f s).img = s.img := keep_foldl (·.img) f h l s
@[simp] theorem each_img {α : Type} (f : State → α → State) (h : ∀ s x, (f s x).img = s.img) (l : List α) (s : State) :
    (s.each l f).img = s.img := keep_foldl (·.img) f h l s
@[simp] theorem foldr_img {α : Type} (f : α → State → State) (h : ∀ s x, (f x s).img = s.img) (l : List α) (s : State) :
    (l.foldr f s).img = s.img := keep_foldr (·.img) f h l s
@[simp] theorem forLanes_img (f : State → Lane → State) (h : ∀ s x, (f s x).img = s.img) (ls : LaneSet) (s : State) :
    (s.forLanes ls f).img = s.img := keep_foldl (·.img) f h _ s
@[simp] theorem ite_img (c : Prop) [Decidable c] (x y : State) : (if c then x else y).img = if c then x.img else y.img := by split <;> rfl

@[simp] theorem foldl_ixl {α : Type} (f : State → α → State) (h : ∀ s x, (f s x).ixl = s.ixl) (l : List α) (s : State) :
    (l.foldl f s).ixl = s.ixl := keep_foldl (·.ixl) f h l s
@[simp] theorem each_ixl {α : Type} (f : State → α → State) (h : ∀ s x, (f s x).ixl = s.ixl) (l : List α) (s : State) :
    (s.each l f).ixl = s.ixl := keep_foldl (·.ixl) f h l s
@[simp] theorem foldr_ixl {α : Type} (f : α → State → State) (h : ∀ s x, (f x s).ixl = s.ixl) (l : List α) (s : State) :
    (l.foldr f s).ixl = s.ixl := keep_foldr (·.ixl) f h l s
@[simp] theorem forLanes_ixl (f : State → Lane → State) (h : ∀ s x, (f s x).ixl = s.ixl) (ls : LaneSet) (s : State) :
    (s.forLanes ls f).ixl = s.ixl := keep_foldl (·.ixl) f h _ s
@[simp] theorem ite_ixl (c : Prop) [Decidable c] (x y : State) : (if c then x else y).ixl = if c then x.ixl else y.ixl := by split <;> rfl

@[simp] theorem foldl_sheets {α : Type} (f : State → α → State) (h : ∀ s x, (f s x).sheets = s.sheets) (l : List α) (s : State) :
    (l.foldl f s).sheets = s.sheets := keep_foldl (·.sheets) f h l s
@[simp] theorem each_sheets {α : Type} (f : State → α → State) (h : ∀ s x, (f s x).sheets = s.sheets) (l : List α) (s : State) :
    (s.each l f).sheets = s.sheets := keep_foldl (·.sheets) f h l s
@[simp] theorem foldr_sheets {α : Type} (f : α → State → State) (h : ∀ s x, (f x s).sheets = s.sheets) (l : List α) (s : State) :
    (l.foldr f s).sheets = s.sheets := keep_foldr (·.sheets) f h l s
@[simp] theorem forLanes_sheets (f : State → Lane → State) (h : ∀ s x, (f s x).sheets = s.sheets) (ls : LaneSet) (s : State) :
    (s.forLanes ls f).sheets = s.sheets := keep_foldl (·.sheets) f h _ s
@[simp] theorem ite_sheets (c : Prop) [Decidable c] (x y : State) : (if c then x else y).sheets = if c then x.sheets else y.sheets := by split <;> rfl

@[simp] theorem foldl_net {α : Type} (f : State → α → State) (h : ∀ s x, (f s x).net = s.net) (l : List α) (s : State) :
    (l.foldl f s).net = s.net := keep_foldl (·.net) f h l s
@[simp] theorem each_net {α : Type} (f : State → α → State) (h : ∀ s x, (f s x).net = s.net) (l : List α) (s : State) :
    (s.each l f).net = s.net := keep_foldl (·.net) f h l s
@[simp] theorem foldr_net {α : Type} (f : α → State → State) (h : ∀ s x, (f x s).net = s.net) (l : List α) (s : State) :
    (l.foldr f s).net = s.net := keep_foldr (·.net) f h l s
@[simp] theorem forLanes_net (f : State → Lane → State) (h : ∀ s x, (f s x).net = s.net) (ls : LaneSet) (s : State) :
    (s.forLanes ls f).net = s.net := keep_foldl (·.net) f h _ s
@[simp] theorem ite_net (c : Prop) [Decidable c] (x y : State) : (if c then x else y).net = if c then x.net else y.net := by split <;> rfl

@[simp] theorem foldl_fch {α : Type} (f : State → α → State) (h : ∀ s x, (f s x).fch = s.fch) (l : List α) (s : State) :
    (l.foldl f s).fch = s.fch := keep_foldl (·.fch) f h l s
@[simp] theorem each_fch {α : Type} (f : State → α → State) (h : ∀ s x, (f s x).fch = s.fch) (l : List α) (s : State) :
    (s.each l f).fch = s.fch := keep_foldl (·.fch) f h l s
@[simp] theorem foldr_fch {α : Type} (f : α → State → State) (h : ∀ s x, (f x s).fch = s.fch) (l : List α) (s : State) :
    (l.foldr f s).fch = s.fch := keep_foldr (·.fch) f h l s
@[simp] theorem forLanes_fch (f : State → Lane → State) (h : ∀ s x, (f s x).fch = s.fch) (ls : LaneSet) (s : State) :
    (s.forLanes ls f).fch = s.fch := keep_foldl (·.fch) f h _ s
@[simp] theorem ite_fch (c : Prop) [Decidable c] (x y : State) : (if c then x else y).fch = if c then x.fch else y.fch := by split <;> rfl

@[simp] theorem foldl_sup {α : Type} (f : State → α → State) (h : ∀ s x, (f s x).sup = s.sup) (l : List α) (s : State) :
    (l.foldl f s).sup = s.sup := keep_foldl (·.sup) f h l s
@[simp] theorem each_sup {α : Type} (f : State → α → State) (h : ∀ s x, (f s x).sup = s.sup) (l : List α) (s : State) :
    (s.each l f).sup = s.sup := keep_foldl (·.sup) f h l s
@[simp] theorem foldr_sup {α : Type} (f : α → State → State) (h : ∀ s x, (f x s).sup = s.sup) (l : List α) (s : State) :
    (l.foldr f s).sup = s.sup := keep_foldr (·.sup) f h l s
@[simp] theorem forLanes_sup (f : State → Lane → State) (h : ∀ s x, (f s x).sup = s.sup) (ls : LaneSet) (s : State) :
    (s.forLanes ls f).sup = s.sup := keep_foldl (·.sup) f h _ s
@[simp] theorem ite_sup (c : Prop) [Decidable c] (x y : State) : (if c then x else y).sup = if c then x.sup else y.sup := by split <;> rfl

@[simp] theorem foldl_host {α : Type} (f : State → α → State) (h : ∀ s x, (f s x).host = s.host) (l : List α) (s : State) :
    (l.foldl f s).host = s.host := keep_foldl (·.host) f h l s
@[simp] theorem each_host {α : Type} (f : State → α → State) (h : ∀ s x, (f s x).host = s.host) (l : List α) (s : State) :
    (s.each l f).host = s.host := keep_foldl (·.host) f h l s
@[simp] theorem foldr_host {α : Type} (f : α → State → State) (h : ∀ s x, (f x s).host = s.host) (l : List α) (s : State) :
    (l.foldr f s).host = s.host := keep_foldr (·.host) f h l s
@[simp] theorem forLanes_host (f : State → Lane → State) (h : ∀ s x, (f s x).host = s.host) (ls : LaneSet) (s : State) :
    (s.forLanes ls f).host = s.host := keep_foldl (·.host) f h _ s
@[simp] theorem ite_host (c : Prop) [Decidable c] (x y : State) : (if c then x else y).host = if c then x.host else y.host := by split <;> rfl

@[simp] theorem foldl_rcd {α : Type} (f : State → α → State) (h : ∀ s x, (f s x).rcd = s.rcd) (l : List α) (s : State) :
    (l.foldl f s).rcd = s.rcd := keep_foldl (·.rcd) f h l s
@[simp] theorem each_rcd {α : Type} (f : State → α → State) (h : ∀ s x, (f s x).rcd = s.rcd) (l : List α) (s : State) :
    (s.each l f).rcd = s.rcd := keep_foldl (·.rcd) f h l s
@[simp] theorem foldr_rcd {α : Type} (f : α → State → State) (h : ∀ s x, (f x s).rcd = s.rcd) (l : List α) (s : State) :
    (l.foldr f s).rcd = s.rcd := keep_foldr (·.rcd) f h l s
@[simp] theorem forLanes_rcd (f : State → Lane → State) (h : ∀ s x, (f s x).rcd = s.rcd) (ls : LaneSet) (s : State) :
    (s.forLanes ls f).rcd = s.rcd := keep_foldl (·.rcd) f h _ s
@[simp] theorem ite_rcd (c : Prop) [Decidable c] (x y : State) : (if c then x else y).rcd = if c then x.rcd else y.rcd := by split <;> rfl

@[simp] theorem foldl_plink {α : Type} (f : State → α → State) (h : ∀ s x, (f s x).plink = s.plink) (l : List α) (s : State) :
    (l.foldl f s).plink = s.plink := keep_foldl (·.plink) f h l s
@[simp] theorem each_plink {α : Type} (f : State → α → State) (h : ∀ s x, (f s x).plink = s.plink) (l : List α) (s : State) :
    (s.each l f).plink = s.plink := keep_foldl (·.plink) f h l s
@[simp] theorem foldr_plink {α : Type} (f : α → State → State) (h : ∀ s x, (f x s).plink = s.plink) (l : List α) (s : State) :
    (l.foldr f s).plink = s.plink := keep_foldr (·.plink) f h l s
@[simp] theorem forLanes_plink (f : State → Lane → State) (h : ∀ s x, (f s x).plink = s.plink) (ls : LaneSet) (s : State) :
    (s.forLanes ls f).plink = s.plink := keep_foldl (·.plink) f h _ s
@[simp] theorem ite_plink (c : Prop) [Decidable c] (x y : State) : (if c then x else y).plink = if c then x.plink else y.plink := by split <;> rfl

@[simp] theorem foldl_tap {α : Type} (f : State → α → State) (h : ∀ s x, (f s x).tap = s.tap) (l : List α) (s : State) :
    (l.foldl f s).tap = s.tap := keep_foldl (·.tap) f h l s
@[simp] theorem each_tap {α : Type} (f : State → α → State) (h : ∀ s x, (f s x).tap = s.tap) (l : List α) (s : State) :
    (s.each l f).tap = s.tap := keep_foldl (·.tap) f h l s
@[simp] theorem foldr_tap {α : Type} (f : α → State → State) (h : ∀ s x, (f x s).tap = s.tap) (l : List α) (s : State) :
    (l.foldr f s).tap = s.tap := keep_foldr (·.tap) f h l s
@[simp] theorem forLanes_tap (f : State → Lane → State) (h : ∀ s x, (f s x).tap = s.tap) (ls : LaneSet) (s : State) :
    (s.forLanes ls f).tap = s.tap := keep_foldl (·.tap) f h _ s
@[simp] theorem ite_tap (c : Prop) [Decidable c] (x y : State) : (if c then x else y).tap = if c then x.tap else y.tap := by split <;> rfl

@[simp] theorem foldl_pending {α : Type} (f : State → α → State) (h : ∀ s x, (f s x).pending = s.pending) (l : List α) (s : State) :
    (l.foldl f s).pending = s.pending := keep_foldl (·.pending) f h l s
@[simp] theorem each_pending {α : Type} (f : State → α → State) (h : ∀ s x, (f s x).pending = s.pending) (l : List α) (s : State) :
    (s.each l f).pending = s.pending := keep_foldl (·.pending) f h l s
@[simp] theorem foldr_pending {α : Type} (f : α → State → State) (h : ∀ s x, (f x s).pending = s.pending) (l : List α) (s : State) :
    (l.foldr f s).pending = s.pending := keep_foldr (·.pending) f h l s
@[simp] theorem forLanes_pending (f : State → Lane → State) (h : ∀ s x, (f s x).pending = s.pending) (ls : LaneSet) (s : State) :
    (s.forLanes ls f).pending = s.pending := keep_foldl (·.pending) f h _ s
@[simp] theorem ite_pending (c : Prop) [Decidable c] (x y : State) : (if c then x else y).pending = if c then x.pending else y.pending := by split <;> rfl

@[simp] theorem foldl_mode {α : Type} (f : State → α → State) (h : ∀ s x, (f s x).mod.mode = s.mod.mode) (l : List α) (s : State) :
    (l.foldl f s).mod.mode = s.mod.mode := keep_foldl (·.mod.mode) f h l s
@[simp] theorem each_mode {α : Type} (f : State → α → State) (h : ∀ s x, (f s x).mod.mode = s.mod.mode) (l : List α) (s : State) :
    (s.each l f).mod.mode = s.mod.mode := keep_foldl (·.mod.mode) f h l s
@[simp] theorem foldr_mode {α : Type} (f : α → State → State) (h : ∀ s x, (f x s).mod.mode = s.mod.mode) (l : List α) (s : State) :
    (l.foldr f s).mod.mode = s.mod.mode := keep_foldr (·.mod.mode) f h l s
@[simp] theorem forLanes_mode (f : State → Lane → State) (h : ∀ s x, (f s x).mod.mode = s.mod.mode) (ls : LaneSet) (s : State) :
    (s.forLanes ls f).mod.mode = s.mod.mode := keep_foldl (·.mod.mode) f h _ s
@[simp] theorem ite_mode (c : Prop) [Decidable c] (x y : State) : (if c then x else y).mod.mode = if c then x.mod.mode else y.mod.mode := by split <;> rfl

@[simp] theorem foldl_l_core {α : Type} (m : Lane) (f : State → α → State) (h : ∀ s x, ((f s x).lanes.get m).core = (s.lanes.get m).core) (l : List α)
    (s : State) : ((l.foldl f s).lanes.get m).core = (s.lanes.get m).core := keep_foldl (fun s => (s.lanes.get m).core) f h l s
@[simp] theorem each_l_core {α : Type} (m : Lane) (f : State → α → State) (h : ∀ s x, ((f s x).lanes.get m).core = (s.lanes.get m).core) (l : List α)
    (s : State) : ((s.each l f).lanes.get m).core = (s.lanes.get m).core := keep_foldl (fun s => (s.lanes.get m).core) f h l s
@[simp] theorem foldr_l_core {α : Type} (m : Lane) (f : α → State → State) (h : ∀ s x, ((f x s).lanes.get m).core = (s.lanes.get m).core) (l : List α)
    (s : State) : ((l.foldr f s).lanes.get m).core = (s.lanes.get m).core := keep_foldr (fun s => (s.lanes.get m).core) f h l s
@[simp] theorem forLanes_l_core (m : Lane) (f : State → Lane → State) (h : ∀ s x, ((f s x).lanes.get m).core = (s.lanes.get m).core) (ls : LaneSet) (s : State) :
    ((s.forLanes ls f).lanes.get m).core = (s.lanes.get m).core := keep_foldl (fun s => (s.lanes.get m).core) f h _ s

@[simp] theorem foldl_l_clk {α : Type} (m : Lane) (f : State → α → State) (h : ∀ s x, ((f s x).lanes.get m).clk = (s.lanes.get m).clk) (l : List α)
    (s : State) : ((l.foldl f s).lanes.get m).clk = (s.lanes.get m).clk := keep_foldl (fun s => (s.lanes.get m).clk) f h l s
@[simp] theorem each_l_clk {α : Type} (m : Lane) (f : State → α → State) (h : ∀ s x, ((f s x).lanes.get m).clk = (s.lanes.get m).clk) (l : List α)
    (s : State) : ((s.each l f).lanes.get m).clk = (s.lanes.get m).clk := keep_foldl (fun s => (s.lanes.get m).clk) f h l s
@[simp] theorem foldr_l_clk {α : Type} (m : Lane) (f : α → State → State) (h : ∀ s x, ((f x s).lanes.get m).clk = (s.lanes.get m).clk) (l : List α)
    (s : State) : ((l.foldr f s).lanes.get m).clk = (s.lanes.get m).clk := keep_foldr (fun s => (s.lanes.get m).clk) f h l s
@[simp] theorem forLanes_l_clk (m : Lane) (f : State → Lane → State) (h : ∀ s x, ((f s x).lanes.get m).clk = (s.lanes.get m).clk) (ls : LaneSet) (s : State) :
    ((s.forLanes ls f).lanes.get m).clk = (s.lanes.get m).clk := keep_foldl (fun s => (s.lanes.get m).clk) f h _ s

@[simp] theorem foldl_l_pwr {α : Type} (m : Lane) (f : State → α → State) (h : ∀ s x, ((f s x).lanes.get m).pwr = (s.lanes.get m).pwr) (l : List α)
    (s : State) : ((l.foldl f s).lanes.get m).pwr = (s.lanes.get m).pwr := keep_foldl (fun s => (s.lanes.get m).pwr) f h l s
@[simp] theorem each_l_pwr {α : Type} (m : Lane) (f : State → α → State) (h : ∀ s x, ((f s x).lanes.get m).pwr = (s.lanes.get m).pwr) (l : List α)
    (s : State) : ((s.each l f).lanes.get m).pwr = (s.lanes.get m).pwr := keep_foldl (fun s => (s.lanes.get m).pwr) f h l s
@[simp] theorem foldr_l_pwr {α : Type} (m : Lane) (f : α → State → State) (h : ∀ s x, ((f x s).lanes.get m).pwr = (s.lanes.get m).pwr) (l : List α)
    (s : State) : ((l.foldr f s).lanes.get m).pwr = (s.lanes.get m).pwr := keep_foldr (fun s => (s.lanes.get m).pwr) f h l s
@[simp] theorem forLanes_l_pwr (m : Lane) (f : State → Lane → State) (h : ∀ s x, ((f s x).lanes.get m).pwr = (s.lanes.get m).pwr) (ls : LaneSet) (s : State) :
    ((s.forLanes ls f).lanes.get m).pwr = (s.lanes.get m).pwr := keep_foldl (fun s => (s.lanes.get m).pwr) f h _ s

@[simp] theorem foldl_l_tbs {α : Type} (m : Lane) (f : State → α → State) (h : ∀ s x, ((f s x).lanes.get m).tbs = (s.lanes.get m).tbs) (l : List α)
    (s : State) : ((l.foldl f s).lanes.get m).tbs = (s.lanes.get m).tbs := keep_foldl (fun s => (s.lanes.get m).tbs) f h l s
@[simp] theorem each_l_tbs {α : Type} (m : Lane) (f : State → α → State) (h : ∀ s x, ((f s x).lanes.get m).tbs = (s.lanes.get m).tbs) (l : List α)
    (s : State) : ((s.each l f).lanes.get m).tbs = (s.lanes.get m).tbs := keep_foldl (fun s => (s.lanes.get m).tbs) f h l s
@[simp] theorem foldr_l_tbs {α : Type} (m : Lane) (f : α → State → State) (h : ∀ s x, ((f x s).lanes.get m).tbs = (s.lanes.get m).tbs) (l : List α)
    (s : State) : ((l.foldr f s).lanes.get m).tbs = (s.lanes.get m).tbs := keep_foldr (fun s => (s.lanes.get m).tbs) f h l s
@[simp] theorem forLanes_l_tbs (m : Lane) (f : State → Lane → State) (h : ∀ s x, ((f s x).lanes.get m).tbs = (s.lanes.get m).tbs) (ls : LaneSet) (s : State) :
    ((s.forLanes ls f).lanes.get m).tbs = (s.lanes.get m).tbs := keep_foldl (fun s => (s.lanes.get m).tbs) f h _ s

@[simp] theorem foldl_l_diag {α : Type} (m : Lane) (f : State → α → State) (h : ∀ s x, ((f s x).lanes.get m).diag = (s.lanes.get m).diag) (l : List α)
    (s : State) : ((l.foldl f s).lanes.get m).diag = (s.lanes.get m).diag := keep_foldl (fun s => (s.lanes.get m).diag) f h l s
@[simp] theorem each_l_diag {α : Type} (m : Lane) (f : State → α → State) (h : ∀ s x, ((f s x).lanes.get m).diag = (s.lanes.get m).diag) (l : List α)
    (s : State) : ((s.each l f).lanes.get m).diag = (s.lanes.get m).diag := keep_foldl (fun s => (s.lanes.get m).diag) f h l s
@[simp] theorem foldr_l_diag {α : Type} (m : Lane) (f : α → State → State) (h : ∀ s x, ((f x s).lanes.get m).diag = (s.lanes.get m).diag) (l : List α)
    (s : State) : ((l.foldr f s).lanes.get m).diag = (s.lanes.get m).diag := keep_foldr (fun s => (s.lanes.get m).diag) f h l s
@[simp] theorem forLanes_l_diag (m : Lane) (f : State → Lane → State) (h : ∀ s x, ((f s x).lanes.get m).diag = (s.lanes.get m).diag) (ls : LaneSet) (s : State) :
    ((s.forLanes ls f).lanes.get m).diag = (s.lanes.get m).diag := keep_foldl (fun s => (s.lanes.get m).diag) f h _ s

@[simp] theorem foldl_l_mmu {α : Type} (m : Lane) (f : State → α → State) (h : ∀ s x, ((f s x).lanes.get m).mmu = (s.lanes.get m).mmu) (l : List α)
    (s : State) : ((l.foldl f s).lanes.get m).mmu = (s.lanes.get m).mmu := keep_foldl (fun s => (s.lanes.get m).mmu) f h l s
@[simp] theorem each_l_mmu {α : Type} (m : Lane) (f : State → α → State) (h : ∀ s x, ((f s x).lanes.get m).mmu = (s.lanes.get m).mmu) (l : List α)
    (s : State) : ((s.each l f).lanes.get m).mmu = (s.lanes.get m).mmu := keep_foldl (fun s => (s.lanes.get m).mmu) f h l s
@[simp] theorem foldr_l_mmu {α : Type} (m : Lane) (f : α → State → State) (h : ∀ s x, ((f x s).lanes.get m).mmu = (s.lanes.get m).mmu) (l : List α)
    (s : State) : ((l.foldr f s).lanes.get m).mmu = (s.lanes.get m).mmu := keep_foldr (fun s => (s.lanes.get m).mmu) f h l s
@[simp] theorem forLanes_l_mmu (m : Lane) (f : State → Lane → State) (h : ∀ s x, ((f s x).lanes.get m).mmu = (s.lanes.get m).mmu) (ls : LaneSet) (s : State) :
    ((s.forLanes ls f).lanes.get m).mmu = (s.lanes.get m).mmu := keep_foldl (fun s => (s.lanes.get m).mmu) f h _ s

@[simp] theorem foldl_l_dma {α : Type} (m : Lane) (f : State → α → State) (h : ∀ s x, ((f s x).lanes.get m).dma = (s.lanes.get m).dma) (l : List α)
    (s : State) : ((l.foldl f s).lanes.get m).dma = (s.lanes.get m).dma := keep_foldl (fun s => (s.lanes.get m).dma) f h l s
@[simp] theorem each_l_dma {α : Type} (m : Lane) (f : State → α → State) (h : ∀ s x, ((f s x).lanes.get m).dma = (s.lanes.get m).dma) (l : List α)
    (s : State) : ((s.each l f).lanes.get m).dma = (s.lanes.get m).dma := keep_foldl (fun s => (s.lanes.get m).dma) f h l s
@[simp] theorem foldr_l_dma {α : Type} (m : Lane) (f : α → State → State) (h : ∀ s x, ((f x s).lanes.get m).dma = (s.lanes.get m).dma) (l : List α)
    (s : State) : ((l.foldr f s).lanes.get m).dma = (s.lanes.get m).dma := keep_foldr (fun s => (s.lanes.get m).dma) f h l s
@[simp] theorem forLanes_l_dma (m : Lane) (f : State → Lane → State) (h : ∀ s x, ((f s x).lanes.get m).dma = (s.lanes.get m).dma) (ls : LaneSet) (s : State) :
    ((s.forLanes ls f).lanes.get m).dma = (s.lanes.get m).dma := keep_foldl (fun s => (s.lanes.get m).dma) f h _ s

@[simp] theorem foldl_l_arbE {α : Type} (m : Lane) (f : State → α → State) (h : ∀ s x, ((f s x).lanes.get m).arbE = (s.lanes.get m).arbE) (l : List α)
    (s : State) : ((l.foldl f s).lanes.get m).arbE = (s.lanes.get m).arbE := keep_foldl (fun s => (s.lanes.get m).arbE) f h l s
@[simp] theorem each_l_arbE {α : Type} (m : Lane) (f : State → α → State) (h : ∀ s x, ((f s x).lanes.get m).arbE = (s.lanes.get m).arbE) (l : List α)
    (s : State) : ((s.each l f).lanes.get m).arbE = (s.lanes.get m).arbE := keep_foldl (fun s => (s.lanes.get m).arbE) f h l s
@[simp] theorem foldr_l_arbE {α : Type} (m : Lane) (f : α → State → State) (h : ∀ s x, ((f x s).lanes.get m).arbE = (s.lanes.get m).arbE) (l : List α)
    (s : State) : ((l.foldr f s).lanes.get m).arbE = (s.lanes.get m).arbE := keep_foldr (fun s => (s.lanes.get m).arbE) f h l s
@[simp] theorem forLanes_l_arbE (m : Lane) (f : State → Lane → State) (h : ∀ s x, ((f s x).lanes.get m).arbE = (s.lanes.get m).arbE) (ls : LaneSet) (s : State) :
    ((s.forLanes ls f).lanes.get m).arbE = (s.lanes.get m).arbE := keep_foldl (fun s => (s.lanes.get m).arbE) f h _ s

@[simp] theorem foldl_l_arbD {α : Type} (m : Lane) (f : State → α → State) (h : ∀ s x, ((f s x).lanes.get m).arbD = (s.lanes.get m).arbD) (l : List α)
    (s : State) : ((l.foldl f s).lanes.get m).arbD = (s.lanes.get m).arbD := keep_foldl (fun s => (s.lanes.get m).arbD) f h l s
@[simp] theorem each_l_arbD {α : Type} (m : Lane) (f : State → α → State) (h : ∀ s x, ((f s x).lanes.get m).arbD = (s.lanes.get m).arbD) (l : List α)
    (s : State) : ((s.each l f).lanes.get m).arbD = (s.lanes.get m).arbD := keep_foldl (fun s => (s.lanes.get m).arbD) f h l s
@[simp] theorem foldr_l_arbD {α : Type} (m : Lane) (f : α → State → State) (h : ∀ s x, ((f x s).lanes.get m).arbD = (s.lanes.get m).arbD) (l : List α)
    (s : State) : ((l.foldr f s).lanes.get m).arbD = (s.lanes.get m).arbD := keep_foldr (fun s => (s.lanes.get m).arbD) f h l s
@[simp] theorem forLanes_l_arbD (m : Lane) (f : State → Lane → State) (h : ∀ s x, ((f s x).lanes.get m).arbD = (s.lanes.get m).arbD) (ls : LaneSet) (s : State) :
    ((s.forLanes ls f).lanes.get m).arbD = (s.lanes.get m).arbD := keep_foldl (fun s => (s.lanes.get m).arbD) f h _ s

@[simp] theorem foldl_l_cvu {α : Type} (m : Lane) (f : State → α → State) (h : ∀ s x, ((f s x).lanes.get m).cvu = (s.lanes.get m).cvu) (l : List α)
    (s : State) : ((l.foldl f s).lanes.get m).cvu = (s.lanes.get m).cvu := keep_foldl (fun s => (s.lanes.get m).cvu) f h l s
@[simp] theorem each_l_cvu {α : Type} (m : Lane) (f : State → α → State) (h : ∀ s x, ((f s x).lanes.get m).cvu = (s.lanes.get m).cvu) (l : List α)
    (s : State) : ((s.each l f).lanes.get m).cvu = (s.lanes.get m).cvu := keep_foldl (fun s => (s.lanes.get m).cvu) f h l s
@[simp] theorem foldr_l_cvu {α : Type} (m : Lane) (f : α → State → State) (h : ∀ s x, ((f x s).lanes.get m).cvu = (s.lanes.get m).cvu) (l : List α)
    (s : State) : ((l.foldr f s).lanes.get m).cvu = (s.lanes.get m).cvu := keep_foldr (fun s => (s.lanes.get m).cvu) f h l s
@[simp] theorem forLanes_l_cvu (m : Lane) (f : State → Lane → State) (h : ∀ s x, ((f s x).lanes.get m).cvu = (s.lanes.get m).cvu) (ls : LaneSet) (s : State) :
    ((s.forLanes ls f).lanes.get m).cvu = (s.lanes.get m).cvu := keep_foldl (fun s => (s.lanes.get m).cvu) f h _ s

@[simp] theorem foldl_l_perf {α : Type} (m : Lane) (f : State → α → State) (h : ∀ s x, ((f s x).lanes.get m).perf = (s.lanes.get m).perf) (l : List α)
    (s : State) : ((l.foldl f s).lanes.get m).perf = (s.lanes.get m).perf := keep_foldl (fun s => (s.lanes.get m).perf) f h l s
@[simp] theorem each_l_perf {α : Type} (m : Lane) (f : State → α → State) (h : ∀ s x, ((f s x).lanes.get m).perf = (s.lanes.get m).perf) (l : List α)
    (s : State) : ((s.each l f).lanes.get m).perf = (s.lanes.get m).perf := keep_foldl (fun s => (s.lanes.get m).perf) f h l s
@[simp] theorem foldr_l_perf {α : Type} (m : Lane) (f : α → State → State) (h : ∀ s x, ((f x s).lanes.get m).perf = (s.lanes.get m).perf) (l : List α)
    (s : State) : ((l.foldr f s).lanes.get m).perf = (s.lanes.get m).perf := keep_foldr (fun s => (s.lanes.get m).perf) f h l s
@[simp] theorem forLanes_l_perf (m : Lane) (f : State → Lane → State) (h : ∀ s x, ((f s x).lanes.get m).perf = (s.lanes.get m).perf) (ls : LaneSet) (s : State) :
    ((s.forLanes ls f).lanes.get m).perf = (s.lanes.get m).perf := keep_foldl (fun s => (s.lanes.get m).perf) f h _ s

@[simp] theorem foldl_l_rte {α : Type} (m : Lane) (f : State → α → State) (h : ∀ s x, ((f s x).lanes.get m).rte = (s.lanes.get m).rte) (l : List α)
    (s : State) : ((l.foldl f s).lanes.get m).rte = (s.lanes.get m).rte := keep_foldl (fun s => (s.lanes.get m).rte) f h l s
@[simp] theorem each_l_rte {α : Type} (m : Lane) (f : State → α → State) (h : ∀ s x, ((f s x).lanes.get m).rte = (s.lanes.get m).rte) (l : List α)
    (s : State) : ((s.each l f).lanes.get m).rte = (s.lanes.get m).rte := keep_foldl (fun s => (s.lanes.get m).rte) f h l s
@[simp] theorem foldr_l_rte {α : Type} (m : Lane) (f : α → State → State) (h : ∀ s x, ((f x s).lanes.get m).rte = (s.lanes.get m).rte) (l : List α)
    (s : State) : ((l.foldr f s).lanes.get m).rte = (s.lanes.get m).rte := keep_foldr (fun s => (s.lanes.get m).rte) f h l s
@[simp] theorem forLanes_l_rte (m : Lane) (f : State → Lane → State) (h : ∀ s x, ((f s x).lanes.get m).rte = (s.lanes.get m).rte) (ls : LaneSet) (s : State) :
    ((s.forLanes ls f).lanes.get m).rte = (s.lanes.get m).rte := keep_foldl (fun s => (s.lanes.get m).rte) f h _ s

end Sys2Proof.Machine
end

