-- ==== Sys2Proof/Laws/Frame.lean ====
section
/-!
SUPPORT. What each operation of the machine leaves unchanged: one frame lemma per operation, stating every part of the state, and every part
of the lanes, that the operation keeps. Proofs cite these and do not unfold the operation.
-/

set_option maxRecDepth 4000
set_option Elab.async false

namespace Sys2Proof.Machine

open Sys2Proof

@[simp] theorem State_modCore_frame (s : State) (l : Lane) (f : CoreS → CoreS) : On (State.modCore s l f) fun t =>
    t.freeCtr = s.freeCtr ∧ t.mod = s.mod ∧ t.acc = s.acc ∧ t.img = s.img ∧ t.ixl = s.ixl ∧ t.sheets = s.sheets ∧ t.net = s.net ∧
    t.fch = s.fch ∧ t.sup = s.sup ∧ t.host = s.host ∧ t.rcd = s.rcd ∧ t.plink = s.plink ∧ t.tap = s.tap ∧ t.pending = s.pending ∧
    SameIn (·.clk) t s ∧ SameIn (·.pwr) t s ∧ SameIn (·.tbs) t s ∧ SameIn (·.diag) t s ∧ SameIn (·.mmu) t s ∧ SameIn (·.dma) t s ∧
    SameIn (·.arbE) t s ∧ SameIn (·.arbD) t s ∧ SameIn (·.cvu) t s ∧ SameIn (·.perf) t s ∧ SameIn (·.rte) t s := by
  unfold On State.modCore
  simp

@[simp] theorem State_modClk_frame (s : State) (l : Lane) (f : ClkS → ClkS) : On (State.modClk s l f) fun t =>
    t.freeCtr = s.freeCtr ∧ t.mod = s.mod ∧ t.acc = s.acc ∧ t.img = s.img ∧ t.ixl = s.ixl ∧ t.sheets = s.sheets ∧ t.net = s.net ∧
    t.fch = s.fch ∧ t.sup = s.sup ∧ t.host = s.host ∧ t.rcd = s.rcd ∧ t.plink = s.plink ∧ t.tap = s.tap ∧ t.pending = s.pending ∧
    SameIn (·.core) t s ∧ SameIn (·.pwr) t s ∧ SameIn (·.tbs) t s ∧ SameIn (·.diag) t s ∧ SameIn (·.mmu) t s ∧ SameIn (·.dma) t s ∧
    SameIn (·.arbE) t s ∧ SameIn (·.arbD) t s ∧ SameIn (·.cvu) t s ∧ SameIn (·.perf) t s ∧ SameIn (·.rte) t s := by
  unfold On State.modClk
  simp

@[simp] theorem State_modPwr_frame (s : State) (l : Lane) (f : PwrS → PwrS) : On (State.modPwr s l f) fun t =>
    t.freeCtr = s.freeCtr ∧ t.mod = s.mod ∧ t.acc = s.acc ∧ t.img = s.img ∧ t.ixl = s.ixl ∧ t.sheets = s.sheets ∧ t.net = s.net ∧
    t.fch = s.fch ∧ t.sup = s.sup ∧ t.host = s.host ∧ t.rcd = s.rcd ∧ t.plink = s.plink ∧ t.tap = s.tap ∧ t.pending = s.pending ∧
    SameIn (·.core) t s ∧ SameIn (·.clk) t s ∧ SameIn (·.tbs) t s ∧ SameIn (·.diag) t s ∧ SameIn (·.mmu) t s ∧ SameIn (·.dma) t s ∧
    SameIn (·.arbE) t s ∧ SameIn (·.arbD) t s ∧ SameIn (·.cvu) t s ∧ SameIn (·.perf) t s ∧ SameIn (·.rte) t s := by
  unfold On State.modPwr
  simp

@[simp] theorem State_modTbs_frame (s : State) (l : Lane) (f : TbsS → TbsS) : On (State.modTbs s l f) fun t =>
    t.freeCtr = s.freeCtr ∧ t.mod = s.mod ∧ t.acc = s.acc ∧ t.img = s.img ∧ t.ixl = s.ixl ∧ t.sheets = s.sheets ∧ t.net = s.net ∧
    t.fch = s.fch ∧ t.sup = s.sup ∧ t.host = s.host ∧ t.rcd = s.rcd ∧ t.plink = s.plink ∧ t.tap = s.tap ∧ t.pending = s.pending ∧
    SameIn (·.core) t s ∧ SameIn (·.clk) t s ∧ SameIn (·.pwr) t s ∧ SameIn (·.diag) t s ∧ SameIn (·.mmu) t s ∧ SameIn (·.dma) t s ∧
    SameIn (·.arbE) t s ∧ SameIn (·.arbD) t s ∧ SameIn (·.cvu) t s ∧ SameIn (·.perf) t s ∧ SameIn (·.rte) t s := by
  unfold On State.modTbs
  simp

@[simp] theorem State_modDiag_frame (s : State) (l : Lane) (f : DiagS → DiagS) : On (State.modDiag s l f) fun t =>
    t.freeCtr = s.freeCtr ∧ t.mod = s.mod ∧ t.acc = s.acc ∧ t.img = s.img ∧ t.ixl = s.ixl ∧ t.sheets = s.sheets ∧ t.net = s.net ∧
    t.fch = s.fch ∧ t.sup = s.sup ∧ t.host = s.host ∧ t.rcd = s.rcd ∧ t.plink = s.plink ∧ t.tap = s.tap ∧ t.pending = s.pending ∧
    SameIn (·.core) t s ∧ SameIn (·.clk) t s ∧ SameIn (·.pwr) t s ∧ SameIn (·.tbs) t s ∧ SameIn (·.mmu) t s ∧ SameIn (·.dma) t s ∧
    SameIn (·.arbE) t s ∧ SameIn (·.arbD) t s ∧ SameIn (·.cvu) t s ∧ SameIn (·.perf) t s ∧ SameIn (·.rte) t s := by
  unfold On State.modDiag
  simp

@[simp] theorem State_modMmu_frame (s : State) (l : Lane) (f : MmuS → MmuS) : On (State.modMmu s l f) fun t =>
    t.freeCtr = s.freeCtr ∧ t.mod = s.mod ∧ t.acc = s.acc ∧ t.img = s.img ∧ t.ixl = s.ixl ∧ t.sheets = s.sheets ∧ t.net = s.net ∧
    t.fch = s.fch ∧ t.sup = s.sup ∧ t.host = s.host ∧ t.rcd = s.rcd ∧ t.plink = s.plink ∧ t.tap = s.tap ∧ t.pending = s.pending ∧
    SameIn (·.core) t s ∧ SameIn (·.clk) t s ∧ SameIn (·.pwr) t s ∧ SameIn (·.tbs) t s ∧ SameIn (·.diag) t s ∧ SameIn (·.dma) t s ∧
    SameIn (·.arbE) t s ∧ SameIn (·.arbD) t s ∧ SameIn (·.cvu) t s ∧ SameIn (·.perf) t s ∧ SameIn (·.rte) t s := by
  unfold On State.modMmu
  simp

@[simp] theorem State_modRte_frame (s : State) (l : Lane) (f : RteS → RteS) : On (State.modRte s l f) fun t =>
    t.freeCtr = s.freeCtr ∧ t.mod = s.mod ∧ t.acc = s.acc ∧ t.img = s.img ∧ t.ixl = s.ixl ∧ t.sheets = s.sheets ∧ t.net = s.net ∧
    t.fch = s.fch ∧ t.sup = s.sup ∧ t.host = s.host ∧ t.rcd = s.rcd ∧ t.plink = s.plink ∧ t.tap = s.tap ∧ t.pending = s.pending ∧
    SameIn (·.core) t s ∧ SameIn (·.clk) t s ∧ SameIn (·.pwr) t s ∧ SameIn (·.tbs) t s ∧ SameIn (·.diag) t s ∧ SameIn (·.mmu) t s ∧
    SameIn (·.dma) t s ∧ SameIn (·.arbE) t s ∧ SameIn (·.arbD) t s ∧ SameIn (·.cvu) t s ∧ SameIn (·.perf) t s := by
  unfold On State.modRte
  simp

@[simp] theorem State_modPerf_frame (s : State) (l : Lane) (f : PerfS → PerfS) : On (State.modPerf s l f) fun t =>
    t.freeCtr = s.freeCtr ∧ t.mod = s.mod ∧ t.acc = s.acc ∧ t.img = s.img ∧ t.ixl = s.ixl ∧ t.sheets = s.sheets ∧ t.net = s.net ∧
    t.fch = s.fch ∧ t.sup = s.sup ∧ t.host = s.host ∧ t.rcd = s.rcd ∧ t.plink = s.plink ∧ t.tap = s.tap ∧ t.pending = s.pending ∧
    SameIn (·.core) t s ∧ SameIn (·.clk) t s ∧ SameIn (·.pwr) t s ∧ SameIn (·.tbs) t s ∧ SameIn (·.diag) t s ∧ SameIn (·.mmu) t s ∧
    SameIn (·.dma) t s ∧ SameIn (·.arbE) t s ∧ SameIn (·.arbD) t s ∧ SameIn (·.cvu) t s ∧ SameIn (·.rte) t s := by
  unfold On State.modPerf
  simp

@[simp] theorem State_bump_frame (s : State) : On (State.bump s) fun t =>
    t.mod = s.mod ∧ t.lanes = s.lanes ∧ t.acc = s.acc ∧ t.img = s.img ∧ t.ixl = s.ixl ∧ t.sheets = s.sheets ∧ t.net = s.net ∧ t.fch
    = s.fch ∧ t.sup = s.sup ∧ t.host = s.host ∧ t.rcd = s.rcd ∧ t.plink = s.plink ∧ t.tap = s.tap ∧ t.pending = s.pending := by
  unfold On State.bump
  simp

@[simp] theorem State_noteEvent_frame (s : State) (l : Lane) : On (State.noteEvent s l) fun t =>
    t.freeCtr = s.freeCtr ∧ t.mod = s.mod ∧ t.acc = s.acc ∧ t.img = s.img ∧ t.ixl = s.ixl ∧ t.sheets = s.sheets ∧ t.net = s.net ∧
    t.fch = s.fch ∧ t.sup = s.sup ∧ t.host = s.host ∧ t.rcd = s.rcd ∧ t.plink = s.plink ∧ t.tap = s.tap ∧ t.pending = s.pending ∧
    SameIn (·.clk) t s ∧ SameIn (·.pwr) t s ∧ SameIn (·.tbs) t s ∧ SameIn (·.diag) t s ∧ SameIn (·.mmu) t s ∧ SameIn (·.dma) t s ∧
    SameIn (·.arbE) t s ∧ SameIn (·.arbD) t s ∧ SameIn (·.cvu) t s ∧ SameIn (·.perf) t s ∧ SameIn (·.rte) t s := by
  unfold On State.noteEvent
  simp

@[simp] theorem State_phaseAmong_frame (s : State) (l : Lane) (first : ℕ) (n : ℕ) : On (State.phaseAmong s l first n) fun t =>
    t.mod = s.mod ∧ t.acc = s.acc ∧ t.img = s.img ∧ t.ixl = s.ixl ∧ t.sheets = s.sheets ∧ t.net = s.net ∧ t.fch = s.fch ∧ t.sup =
    s.sup ∧ t.host = s.host ∧ t.rcd = s.rcd ∧ t.plink = s.plink ∧ t.tap = s.tap ∧ t.pending = s.pending ∧ SameIn (·.core) t s ∧
    SameIn (·.clk) t s ∧ SameIn (·.pwr) t s ∧ SameIn (·.tbs) t s ∧ SameIn (·.diag) t s ∧ SameIn (·.mmu) t s ∧ SameIn (·.dma) t s ∧
    SameIn (·.arbE) t s ∧ SameIn (·.arbD) t s ∧ SameIn (·.cvu) t s ∧ SameIn (·.perf) t s := by
  unfold On State.phaseAmong
  simp

@[simp] theorem State_passMs_frame (s : State) (ms : ℕ) : On (State.passMs s ms) fun t =>
    t.freeCtr = s.freeCtr ∧ t.mod = s.mod ∧ t.lanes = s.lanes ∧ t.acc = s.acc ∧ t.img = s.img ∧ t.ixl = s.ixl ∧ t.sheets = s.sheets
    ∧ t.net = s.net ∧ t.fch = s.fch ∧ t.sup = s.sup ∧ t.host = s.host ∧ t.plink = s.plink ∧ t.tap = s.tap ∧ t.pending = s.pending := by
  unfold On State.passMs
  simp

@[simp] theorem State_closeRecord_frame (s : State) (index : ℕ) : On (State.closeRecord s index) fun t =>
    t.freeCtr = s.freeCtr ∧ t.mod = s.mod ∧ t.lanes = s.lanes ∧ t.acc = s.acc ∧ t.img = s.img ∧ t.ixl = s.ixl ∧ t.sheets = s.sheets
    ∧ t.net = s.net ∧ t.fch = s.fch ∧ t.sup = s.sup ∧ t.plink = s.plink ∧ t.tap = s.tap ∧ t.pending = s.pending := by
  unfold On State.closeRecord
  simp

@[simp] theorem State_closeAll_frame (s : State) : On (State.closeAll s) fun t =>
    t.freeCtr = s.freeCtr ∧ t.mod = s.mod ∧ t.lanes = s.lanes ∧ t.acc = s.acc ∧ t.img = s.img ∧ t.ixl = s.ixl ∧ t.sheets = s.sheets
    ∧ t.net = s.net ∧ t.fch = s.fch ∧ t.sup = s.sup ∧ t.plink = s.plink ∧ t.tap = s.tap ∧ t.pending = s.pending := by
  unfold On State.closeAll
  simp

@[simp] theorem State_appendRecord_frame (s : State) (r : Record) : On (State.appendRecord s r) fun t =>
    t.freeCtr = s.freeCtr ∧ t.mod = s.mod ∧ t.lanes = s.lanes ∧ t.acc = s.acc ∧ t.img = s.img ∧ t.ixl = s.ixl ∧ t.sheets = s.sheets
    ∧ t.net = s.net ∧ t.fch = s.fch ∧ t.sup = s.sup ∧ t.plink = s.plink ∧ t.tap = s.tap ∧ t.pending = s.pending := by
  unfold On State.appendRecord
  simp

@[simp] theorem State_writeRecord_frame (s : State) (type : ℕ) (payload : List Byte) (lane : Option Lane) (hk : Bool) : On
    (State.writeRecord s type payload lane hk) fun t =>
    t.freeCtr = s.freeCtr ∧ t.mod = s.mod ∧ t.lanes = s.lanes ∧ t.acc = s.acc ∧ t.img = s.img ∧ t.ixl = s.ixl ∧ t.sheets = s.sheets
    ∧ t.net = s.net ∧ t.fch = s.fch ∧ t.sup = s.sup ∧ t.plink = s.plink ∧ t.tap = s.tap ∧ t.pending = s.pending := by
  unfold On State.writeRecord
  dsimp only
  (repeat' split) <;> simp

@[simp] theorem State_takeSnapshot_frame (s : State) (l : Lane) (entry : ℕ) (d : SnapDef) (trigger : ℕ) : On (State.takeSnapshot s l
    entry d trigger) fun t =>
    t.freeCtr = s.freeCtr ∧ t.mod = s.mod ∧ t.acc = s.acc ∧ t.img = s.img ∧ t.ixl = s.ixl ∧ t.sheets = s.sheets ∧ t.net = s.net ∧
    t.fch = s.fch ∧ t.sup = s.sup ∧ t.plink = s.plink ∧ t.tap = s.tap ∧ t.pending = s.pending ∧ SameIn (·.core) t s ∧ SameIn
    (·.clk) t s ∧ SameIn (·.pwr) t s ∧ SameIn (·.tbs) t s ∧ SameIn (·.mmu) t s ∧ SameIn (·.dma) t s ∧ SameIn (·.arbE) t s ∧ SameIn
    (·.arbD) t s ∧ SameIn (·.cvu) t s ∧ SameIn (·.perf) t s ∧ SameIn (·.rte) t s := by
  unfold On State.takeSnapshot
  dsimp only
  (repeat' split) <;> simp

@[simp] theorem State_snapshots_frame (s : State) (before : State) (ls : LaneSet) (type : ℕ) : On (State.snapshots s before ls type)
    fun t =>
    t.freeCtr = s.freeCtr ∧ t.mod = s.mod ∧ t.acc = s.acc ∧ t.img = s.img ∧ t.ixl = s.ixl ∧ t.sheets = s.sheets ∧ t.net = s.net ∧
    t.fch = s.fch ∧ t.sup = s.sup ∧ t.plink = s.plink ∧ t.tap = s.tap ∧ t.pending = s.pending ∧ SameIn (·.core) t s ∧ SameIn
    (·.clk) t s ∧ SameIn (·.pwr) t s ∧ SameIn (·.tbs) t s ∧ SameIn (·.mmu) t s ∧ SameIn (·.dma) t s ∧ SameIn (·.arbE) t s ∧ SameIn
    (·.arbD) t s ∧ SameIn (·.cvu) t s ∧ SameIn (·.perf) t s ∧ SameIn (·.rte) t s := by
  unfold On State.snapshots
  dsimp only
  (repeat' split) <;> simp

@[simp] theorem State_record_frame (s : State) (type : ℕ) (payload : List Byte) : On (State.record s type payload) fun t =>
    t.freeCtr = s.freeCtr ∧ t.mod = s.mod ∧ t.acc = s.acc ∧ t.img = s.img ∧ t.ixl = s.ixl ∧ t.sheets = s.sheets ∧ t.net = s.net ∧
    t.fch = s.fch ∧ t.sup = s.sup ∧ t.plink = s.plink ∧ t.tap = s.tap ∧ t.pending = s.pending ∧ SameIn (·.core) t s ∧ SameIn
    (·.clk) t s ∧ SameIn (·.pwr) t s ∧ SameIn (·.tbs) t s ∧ SameIn (·.mmu) t s ∧ SameIn (·.dma) t s ∧ SameIn (·.arbE) t s ∧ SameIn
    (·.arbD) t s ∧ SameIn (·.cvu) t s ∧ SameIn (·.perf) t s ∧ SameIn (·.rte) t s := by
  unfold On State.record
  simp

@[simp] theorem State_recordLane_frame (s : State) (l : Lane) (type : ℕ) (payload : List Byte) : On (State.recordLane s l type payload)
    fun t =>
    t.freeCtr = s.freeCtr ∧ t.mod = s.mod ∧ t.acc = s.acc ∧ t.img = s.img ∧ t.ixl = s.ixl ∧ t.sheets = s.sheets ∧ t.net = s.net ∧
    t.fch = s.fch ∧ t.sup = s.sup ∧ t.plink = s.plink ∧ t.tap = s.tap ∧ t.pending = s.pending ∧ SameIn (·.clk) t s ∧ SameIn (·.pwr)
    t s ∧ SameIn (·.tbs) t s ∧ SameIn (·.mmu) t s ∧ SameIn (·.dma) t s ∧ SameIn (·.arbE) t s ∧ SameIn (·.arbD) t s ∧ SameIn (·.cvu)
    t s ∧ SameIn (·.perf) t s ∧ SameIn (·.rte) t s := by
  unfold On State.recordLane
  simp

@[simp] theorem State_placeRecord_frame (s : State) (l : Lane) (type : ℕ) (payload : List Byte) : On (State.placeRecord s l type
    payload) fun t =>
    t.freeCtr = s.freeCtr ∧ t.mod = s.mod ∧ t.acc = s.acc ∧ t.img = s.img ∧ t.ixl = s.ixl ∧ t.sheets = s.sheets ∧ t.net = s.net ∧
    t.fch = s.fch ∧ t.sup = s.sup ∧ t.plink = s.plink ∧ t.tap = s.tap ∧ t.pending = s.pending ∧ SameIn (·.core) t s ∧ SameIn
    (·.clk) t s ∧ SameIn (·.pwr) t s ∧ SameIn (·.tbs) t s ∧ SameIn (·.mmu) t s ∧ SameIn (·.dma) t s ∧ SameIn (·.arbE) t s ∧ SameIn
    (·.arbD) t s ∧ SameIn (·.cvu) t s ∧ SameIn (·.perf) t s ∧ SameIn (·.rte) t s := by
  unfold On State.placeRecord
  dsimp only
  (repeat' split) <;> simp

@[simp] theorem State_recordHk_frame (s : State) (type : ℕ) (payload : List Byte) : On (State.recordHk s type payload) fun t =>
    t.freeCtr = s.freeCtr ∧ t.mod = s.mod ∧ t.lanes = s.lanes ∧ t.acc = s.acc ∧ t.img = s.img ∧ t.ixl = s.ixl ∧ t.sheets = s.sheets
    ∧ t.net = s.net ∧ t.fch = s.fch ∧ t.sup = s.sup ∧ t.plink = s.plink ∧ t.tap = s.tap ∧ t.pending = s.pending := by
  unfold On State.recordHk
  simp

/-- What goes through the bogie's buffer passes on what its effect, the buffer and the free counter leave alone. -/
theorem keep_throughBogie {β : Type} (g : State → β) (s : State) (l : Lane) (e : CmpEntry) (effect : State → State)
    (hb : ∀ s, g (s.bump) = g s) (hc : ∀ s f, g (State.modCore s l f) = g s) (he : ∀ s, g (effect s) = g s) :
    g (s.throughBogie l e effect) = g s := by
  unfold State.throughBogie
  dsimp only
  split
  · rfl
  · rw [hc, he, hc, hb]

/-- A register write passes on what its effect, the bogie's buffer and the free counter leave alone. -/
theorem keep_regWrite {β : Type} (g : State → β) (s : State) (l : Lane) (ofs : Nat) (v : Word) (effect : State → State)
    (hb : ∀ s, g (s.bump) = g s) (hc : ∀ s f, g (State.modCore s l f) = g s) (he : ∀ s, g (effect s) = g s) :
    g (s.regWrite l ofs v effect) = g s := by
  unfold State.regWrite
  split
  · exact keep_throughBogie g s l _ effect hb hc he
  · exact he s

@[simp] theorem throughBogie_mod (s : State) (l : Lane) (e : CmpEntry) (effect : State → State)
    (h : ∀ s, (effect s).mod = s.mod) : (s.throughBogie l e effect).mod = s.mod :=
  keep_throughBogie (·.mod) s l e effect (by simp) (by simp) h

@[simp] theorem regWrite_mod (s : State) (l : Lane) (ofs : Nat) (v : Word) (effect : State → State)
    (h : ∀ s, (effect s).mod = s.mod) : (s.regWrite l ofs v effect).mod = s.mod :=
  keep_regWrite (·.mod) s l ofs v effect (by simp) (by simp) h

@[simp] theorem throughBogie_acc (s : State) (l : Lane) (e : CmpEntry) (effect : State → State)
    (h : ∀ s, (effect s).acc = s.acc) : (s.throughBogie l e effect).acc = s.acc :=
  keep_throughBogie (·.acc) s l e effect (by simp) (by simp) h

@[simp] theorem regWrite_acc (s : State) (l : Lane) (ofs : Nat) (v : Word) (effect : State → State)
    (h : ∀ s, (effect s).acc = s.acc) : (s.regWrite l ofs v effect).acc = s.acc :=
  keep_regWrite (·.acc) s l ofs v effect (by simp) (by simp) h

@[simp] theorem throughBogie_img (s : State) (l : Lane) (e : CmpEntry) (effect : State → State)
    (h : ∀ s, (effect s).img = s.img) : (s.throughBogie l e effect).img = s.img :=
  keep_throughBogie (·.img) s l e effect (by simp) (by simp) h

@[simp] theorem regWrite_img (s : State) (l : Lane) (ofs : Nat) (v : Word) (effect : State → State)
    (h : ∀ s, (effect s).img = s.img) : (s.regWrite l ofs v effect).img = s.img :=
  keep_regWrite (·.img) s l ofs v effect (by simp) (by simp) h

@[simp] theorem throughBogie_ixl (s : State) (l : Lane) (e : CmpEntry) (effect : State → State)
    (h : ∀ s, (effect s).ixl = s.ixl) : (s.throughBogie l e effect).ixl = s.ixl :=
  keep_throughBogie (·.ixl) s l e effect (by simp) (by simp) h

@[simp] theorem regWrite_ixl (s : State) (l : Lane) (ofs : Nat) (v : Word) (effect : State → State)
    (h : ∀ s, (effect s).ixl = s.ixl) : (s.regWrite l ofs v effect).ixl = s.ixl :=
  keep_regWrite (·.ixl) s l ofs v effect (by simp) (by simp) h

@[simp] theorem throughBogie_sheets (s : State) (l : Lane) (e : CmpEntry) (effect : State → State)
    (h : ∀ s, (effect s).sheets = s.sheets) : (s.throughBogie l e effect).sheets = s.sheets :=
  keep_throughBogie (·.sheets) s l e effect (by simp) (by simp) h

@[simp] theorem regWrite_sheets (s : State) (l : Lane) (ofs : Nat) (v : Word) (effect : State → State)
    (h : ∀ s, (effect s).sheets = s.sheets) : (s.regWrite l ofs v effect).sheets = s.sheets :=
  keep_regWrite (·.sheets) s l ofs v effect (by simp) (by simp) h

@[simp] theorem throughBogie_net (s : State) (l : Lane) (e : CmpEntry) (effect : State → State)
    (h : ∀ s, (effect s).net = s.net) : (s.throughBogie l e effect).net = s.net :=
  keep_throughBogie (·.net) s l e effect (by simp) (by simp) h

@[simp] theorem regWrite_net (s : State) (l : Lane) (ofs : Nat) (v : Word) (effect : State → State)
    (h : ∀ s, (effect s).net = s.net) : (s.regWrite l ofs v effect).net = s.net :=
  keep_regWrite (·.net) s l ofs v effect (by simp) (by simp) h

@[simp] theorem throughBogie_fch (s : State) (l : Lane) (e : CmpEntry) (effect : State → State)
    (h : ∀ s, (effect s).fch = s.fch) : (s.throughBogie l e effect).fch = s.fch :=
  keep_throughBogie (·.fch) s l e effect (by simp) (by simp) h

@[simp] theorem regWrite_fch (s : State) (l : Lane) (ofs : Nat) (v : Word) (effect : State → State)
    (h : ∀ s, (effect s).fch = s.fch) : (s.regWrite l ofs v effect).fch = s.fch :=
  keep_regWrite (·.fch) s l ofs v effect (by simp) (by simp) h

@[simp] theorem throughBogie_sup (s : State) (l : Lane) (e : CmpEntry) (effect : State → State)
    (h : ∀ s, (effect s).sup = s.sup) : (s.throughBogie l e effect).sup = s.sup :=
  keep_throughBogie (·.sup) s l e effect (by simp) (by simp) h

@[simp] theorem regWrite_sup (s : State) (l : Lane) (ofs : Nat) (v : Word) (effect : State → State)
    (h : ∀ s, (effect s).sup = s.sup) : (s.regWrite l ofs v effect).sup = s.sup :=
  keep_regWrite (·.sup) s l ofs v effect (by simp) (by simp) h

@[simp] theorem throughBogie_host (s : State) (l : Lane) (e : CmpEntry) (effect : State → State)
    (h : ∀ s, (effect s).host = s.host) : (s.throughBogie l e effect).host = s.host :=
  keep_throughBogie (·.host) s l e effect (by simp) (by simp) h

@[simp] theorem regWrite_host (s : State) (l : Lane) (ofs : Nat) (v : Word) (effect : State → State)
    (h : ∀ s, (effect s).host = s.host) : (s.regWrite l ofs v effect).host = s.host :=
  keep_regWrite (·.host) s l ofs v effect (by simp) (by simp) h

@[simp] theorem throughBogie_rcd (s : State) (l : Lane) (e : CmpEntry) (effect : State → State)
    (h : ∀ s, (effect s).rcd = s.rcd) : (s.throughBogie l e effect).rcd = s.rcd :=
  keep_throughBogie (·.rcd) s l e effect (by simp) (by simp) h

@[simp] theorem regWrite_rcd (s : State) (l : Lane) (ofs : Nat) (v : Word) (effect : State → State)
    (h : ∀ s, (effect s).rcd = s.rcd) : (s.regWrite l ofs v effect).rcd = s.rcd :=
  keep_regWrite (·.rcd) s l ofs v effect (by simp) (by simp) h

@[simp] theorem throughBogie_plink (s : State) (l : Lane) (e : CmpEntry) (effect : State → State)
    (h : ∀ s, (effect s).plink = s.plink) : (s.throughBogie l e effect).plink = s.plink :=
  keep_throughBogie (·.plink) s l e effect (by simp) (by simp) h

@[simp] theorem regWrite_plink (s : State) (l : Lane) (ofs : Nat) (v : Word) (effect : State → State)
    (h : ∀ s, (effect s).plink = s.plink) : (s.regWrite l ofs v effect).plink = s.plink :=
  keep_regWrite (·.plink) s l ofs v effect (by simp) (by simp) h

@[simp] theorem throughBogie_tap (s : State) (l : Lane) (e : CmpEntry) (effect : State → State)
    (h : ∀ s, (effect s).tap = s.tap) : (s.throughBogie l e effect).tap = s.tap :=
  keep_throughBogie (·.tap) s l e effect (by simp) (by simp) h

@[simp] theorem regWrite_tap (s : State) (l : Lane) (ofs : Nat) (v : Word) (effect : State → State)
    (h : ∀ s, (effect s).tap = s.tap) : (s.regWrite l ofs v effect).tap = s.tap :=
  keep_regWrite (·.tap) s l ofs v effect (by simp) (by simp) h

@[simp] theorem throughBogie_pending (s : State) (l : Lane) (e : CmpEntry) (effect : State → State)
    (h : ∀ s, (effect s).pending = s.pending) : (s.throughBogie l e effect).pending = s.pending :=
  keep_throughBogie (·.pending) s l e effect (by simp) (by simp) h

@[simp] theorem regWrite_pending (s : State) (l : Lane) (ofs : Nat) (v : Word) (effect : State → State)
    (h : ∀ s, (effect s).pending = s.pending) : (s.regWrite l ofs v effect).pending = s.pending :=
  keep_regWrite (·.pending) s l ofs v effect (by simp) (by simp) h

@[simp] theorem throughBogie_l_clk (m : Lane) (s : State) (l : Lane) (e : CmpEntry) (effect : State → State)
    (h : ∀ s, ((effect s).lanes.get m).clk = (s.lanes.get m).clk) :
    ((s.throughBogie l e effect).lanes.get m).clk = (s.lanes.get m).clk :=
  keep_throughBogie (fun t => (t.lanes.get m).clk) s l e effect (by simp) (by simp) h

@[simp] theorem regWrite_l_clk (m : Lane) (s : State) (l : Lane) (ofs : Nat) (v : Word) (effect : State → State)
    (h : ∀ s, ((effect s).lanes.get m).clk = (s.lanes.get m).clk) :
    ((s.regWrite l ofs v effect).lanes.get m).clk = (s.lanes.get m).clk :=
  keep_regWrite (fun t => (t.lanes.get m).clk) s l ofs v effect (by simp) (by simp) h

@[simp] theorem throughBogie_l_pwr (m : Lane) (s : State) (l : Lane) (e : CmpEntry) (effect : State → State)
    (h : ∀ s, ((effect s).lanes.get m).pwr = (s.lanes.get m).pwr) :
    ((s.throughBogie l e effect).lanes.get m).pwr = (s.lanes.get m).pwr :=
  keep_throughBogie (fun t => (t.lanes.get m).pwr) s l e effect (by simp) (by simp) h

@[simp] theorem regWrite_l_pwr (m : Lane) (s : State) (l : Lane) (ofs : Nat) (v : Word) (effect : State → State)
    (h : ∀ s, ((effect s).lanes.get m).pwr = (s.lanes.get m).pwr) :
    ((s.regWrite l ofs v effect).lanes.get m).pwr = (s.lanes.get m).pwr :=
  keep_regWrite (fun t => (t.lanes.get m).pwr) s l ofs v effect (by simp) (by simp) h

@[simp] theorem throughBogie_l_tbs (m : Lane) (s : State) (l : Lane) (e : CmpEntry) (effect : State → State)
    (h : ∀ s, ((effect s).lanes.get m).tbs = (s.lanes.get m).tbs) :
    ((s.throughBogie l e effect).lanes.get m).tbs = (s.lanes.get m).tbs :=
  keep_throughBogie (fun t => (t.lanes.get m).tbs) s l e effect (by simp) (by simp) h

@[simp] theorem regWrite_l_tbs (m : Lane) (s : State) (l : Lane) (ofs : Nat) (v : Word) (effect : State → State)
    (h : ∀ s, ((effect s).lanes.get m).tbs = (s.lanes.get m).tbs) :
    ((s.regWrite l ofs v effect).lanes.get m).tbs = (s.lanes.get m).tbs :=
  keep_regWrite (fun t => (t.lanes.get m).tbs) s l ofs v effect (by simp) (by simp) h

@[simp] theorem throughBogie_l_diag (m : Lane) (s : State) (l : Lane) (e : CmpEntry) (effect : State → State)
    (h : ∀ s, ((effect s).lanes.get m).diag = (s.lanes.get m).diag) :
    ((s.throughBogie l e effect).lanes.get m).diag = (s.lanes.get m).diag :=
  keep_throughBogie (fun t => (t.lanes.get m).diag) s l e effect (by simp) (by simp) h

@[simp] theorem regWrite_l_diag (m : Lane) (s : State) (l : Lane) (ofs : Nat) (v : Word) (effect : State → State)
    (h : ∀ s, ((effect s).lanes.get m).diag = (s.lanes.get m).diag) :
    ((s.regWrite l ofs v effect).lanes.get m).diag = (s.lanes.get m).diag :=
  keep_regWrite (fun t => (t.lanes.get m).diag) s l ofs v effect (by simp) (by simp) h

@[simp] theorem throughBogie_l_mmu (m : Lane) (s : State) (l : Lane) (e : CmpEntry) (effect : State → State)
    (h : ∀ s, ((effect s).lanes.get m).mmu = (s.lanes.get m).mmu) :
    ((s.throughBogie l e effect).lanes.get m).mmu = (s.lanes.get m).mmu :=
  keep_throughBogie (fun t => (t.lanes.get m).mmu) s l e effect (by simp) (by simp) h

@[simp] theorem regWrite_l_mmu (m : Lane) (s : State) (l : Lane) (ofs : Nat) (v : Word) (effect : State → State)
    (h : ∀ s, ((effect s).lanes.get m).mmu = (s.lanes.get m).mmu) :
    ((s.regWrite l ofs v effect).lanes.get m).mmu = (s.lanes.get m).mmu :=
  keep_regWrite (fun t => (t.lanes.get m).mmu) s l ofs v effect (by simp) (by simp) h

@[simp] theorem throughBogie_l_dma (m : Lane) (s : State) (l : Lane) (e : CmpEntry) (effect : State → State)
    (h : ∀ s, ((effect s).lanes.get m).dma = (s.lanes.get m).dma) :
    ((s.throughBogie l e effect).lanes.get m).dma = (s.lanes.get m).dma :=
  keep_throughBogie (fun t => (t.lanes.get m).dma) s l e effect (by simp) (by simp) h

@[simp] theorem regWrite_l_dma (m : Lane) (s : State) (l : Lane) (ofs : Nat) (v : Word) (effect : State → State)
    (h : ∀ s, ((effect s).lanes.get m).dma = (s.lanes.get m).dma) :
    ((s.regWrite l ofs v effect).lanes.get m).dma = (s.lanes.get m).dma :=
  keep_regWrite (fun t => (t.lanes.get m).dma) s l ofs v effect (by simp) (by simp) h

@[simp] theorem throughBogie_l_arbE (m : Lane) (s : State) (l : Lane) (e : CmpEntry) (effect : State → State)
    (h : ∀ s, ((effect s).lanes.get m).arbE = (s.lanes.get m).arbE) :
    ((s.throughBogie l e effect).lanes.get m).arbE = (s.lanes.get m).arbE :=
  keep_throughBogie (fun t => (t.lanes.get m).arbE) s l e effect (by simp) (by simp) h

@[simp] theorem regWrite_l_arbE (m : Lane) (s : State) (l : Lane) (ofs : Nat) (v : Word) (effect : State → State)
    (h : ∀ s, ((effect s).lanes.get m).arbE = (s.lanes.get m).arbE) :
    ((s.regWrite l ofs v effect).lanes.get m).arbE = (s.lanes.get m).arbE :=
  keep_regWrite (fun t => (t.lanes.get m).arbE) s l ofs v effect (by simp) (by simp) h

@[simp] theorem throughBogie_l_arbD (m : Lane) (s : State) (l : Lane) (e : CmpEntry) (effect : State → State)
    (h : ∀ s, ((effect s).lanes.get m).arbD = (s.lanes.get m).arbD) :
    ((s.throughBogie l e effect).lanes.get m).arbD = (s.lanes.get m).arbD :=
  keep_throughBogie (fun t => (t.lanes.get m).arbD) s l e effect (by simp) (by simp) h

@[simp] theorem regWrite_l_arbD (m : Lane) (s : State) (l : Lane) (ofs : Nat) (v : Word) (effect : State → State)
    (h : ∀ s, ((effect s).lanes.get m).arbD = (s.lanes.get m).arbD) :
    ((s.regWrite l ofs v effect).lanes.get m).arbD = (s.lanes.get m).arbD :=
  keep_regWrite (fun t => (t.lanes.get m).arbD) s l ofs v effect (by simp) (by simp) h

@[simp] theorem throughBogie_l_cvu (m : Lane) (s : State) (l : Lane) (e : CmpEntry) (effect : State → State)
    (h : ∀ s, ((effect s).lanes.get m).cvu = (s.lanes.get m).cvu) :
    ((s.throughBogie l e effect).lanes.get m).cvu = (s.lanes.get m).cvu :=
  keep_throughBogie (fun t => (t.lanes.get m).cvu) s l e effect (by simp) (by simp) h

@[simp] theorem regWrite_l_cvu (m : Lane) (s : State) (l : Lane) (ofs : Nat) (v : Word) (effect : State → State)
    (h : ∀ s, ((effect s).lanes.get m).cvu = (s.lanes.get m).cvu) :
    ((s.regWrite l ofs v effect).lanes.get m).cvu = (s.lanes.get m).cvu :=
  keep_regWrite (fun t => (t.lanes.get m).cvu) s l ofs v effect (by simp) (by simp) h

@[simp] theorem throughBogie_l_perf (m : Lane) (s : State) (l : Lane) (e : CmpEntry) (effect : State → State)
    (h : ∀ s, ((effect s).lanes.get m).perf = (s.lanes.get m).perf) :
    ((s.throughBogie l e effect).lanes.get m).perf = (s.lanes.get m).perf :=
  keep_throughBogie (fun t => (t.lanes.get m).perf) s l e effect (by simp) (by simp) h

@[simp] theorem regWrite_l_perf (m : Lane) (s : State) (l : Lane) (ofs : Nat) (v : Word) (effect : State → State)
    (h : ∀ s, ((effect s).lanes.get m).perf = (s.lanes.get m).perf) :
    ((s.regWrite l ofs v effect).lanes.get m).perf = (s.lanes.get m).perf :=
  keep_regWrite (fun t => (t.lanes.get m).perf) s l ofs v effect (by simp) (by simp) h

@[simp] theorem throughBogie_l_rte (m : Lane) (s : State) (l : Lane) (e : CmpEntry) (effect : State → State)
    (h : ∀ s, ((effect s).lanes.get m).rte = (s.lanes.get m).rte) :
    ((s.throughBogie l e effect).lanes.get m).rte = (s.lanes.get m).rte :=
  keep_throughBogie (fun t => (t.lanes.get m).rte) s l e effect (by simp) (by simp) h

@[simp] theorem regWrite_l_rte (m : Lane) (s : State) (l : Lane) (ofs : Nat) (v : Word) (effect : State → State)
    (h : ∀ s, ((effect s).lanes.get m).rte = (s.lanes.get m).rte) :
    ((s.regWrite l ofs v effect).lanes.get m).rte = (s.lanes.get m).rte :=
  keep_regWrite (fun t => (t.lanes.get m).rte) s l ofs v effect (by simp) (by simp) h

@[simp] theorem State_emit_frame (s : State) (p : Packet) (ports : List HostPort) (command : Tab HostPeer) (key : Option (List Byte)) :
    On (State.emit s p ports command key) fun t =>
    t.freeCtr = s.freeCtr ∧ t.mod = s.mod ∧ t.lanes = s.lanes ∧ t.acc = s.acc ∧ t.img = s.img ∧ t.ixl = s.ixl ∧ t.sheets = s.sheets
    ∧ t.net = s.net ∧ t.fch = s.fch ∧ t.sup = s.sup ∧ t.rcd = s.rcd ∧ t.plink = s.plink ∧ t.tap = s.tap ∧ t.pending = s.pending := by
  unfold On State.emit
  simp

@[simp] theorem State_sendPacket_frame (s : State) (p : Packet) : On (State.sendPacket s p) fun t =>
    t.freeCtr = s.freeCtr ∧ t.mod = s.mod ∧ t.lanes = s.lanes ∧ t.acc = s.acc ∧ t.img = s.img ∧ t.ixl = s.ixl ∧ t.sheets = s.sheets
    ∧ t.net = s.net ∧ t.fch = s.fch ∧ t.sup = s.sup ∧ t.rcd = s.rcd ∧ t.plink = s.plink ∧ t.tap = s.tap ∧ t.pending = s.pending := by
  unfold On State.sendPacket
  dsimp only
  (repeat' split) <;> simp

@[simp] theorem State_resendPacket_frame (s : State) (c : Consumed) (p : Packet) : On (State.resendPacket s c p) fun t =>
    t.freeCtr = s.freeCtr ∧ t.mod = s.mod ∧ t.lanes = s.lanes ∧ t.acc = s.acc ∧ t.img = s.img ∧ t.ixl = s.ixl ∧ t.sheets = s.sheets
    ∧ t.net = s.net ∧ t.fch = s.fch ∧ t.sup = s.sup ∧ t.rcd = s.rcd ∧ t.plink = s.plink ∧ t.tap = s.tap ∧ t.pending = s.pending := by
  unfold On State.resendPacket
  simp

@[simp] theorem State_holdReply_frame (s : State) (ls : LaneSet) (p : Packet) : On (State.holdReply s ls p) fun t =>
    t.freeCtr = s.freeCtr ∧ t.mod = s.mod ∧ t.lanes = s.lanes ∧ t.acc = s.acc ∧ t.img = s.img ∧ t.ixl = s.ixl ∧ t.sheets = s.sheets
    ∧ t.net = s.net ∧ t.fch = s.fch ∧ t.sup = s.sup ∧ t.rcd = s.rcd ∧ t.plink = s.plink ∧ t.tap = s.tap ∧ t.pending = s.pending := by
  unfold On State.holdReply
  simp

@[simp] theorem State_reply_frame (s : State) (h : CmdHdr) (opcode : ℕ) (status : ℕ) (params : List Byte) : On (State.reply s h opcode
    status params) fun t =>
    t.freeCtr = s.freeCtr ∧ t.mod = s.mod ∧ t.lanes = s.lanes ∧ t.acc = s.acc ∧ t.img = s.img ∧ t.ixl = s.ixl ∧ t.sheets = s.sheets
    ∧ t.net = s.net ∧ t.fch = s.fch ∧ t.sup = s.sup ∧ t.rcd = s.rcd ∧ t.plink = s.plink ∧ t.tap = s.tap ∧ t.pending = s.pending := by
  unfold On State.reply
  simp

@[simp] theorem State_replyTagged_frame (s : State) (h : CmdHdr) (opcode : ℕ) (params : Lane → List Byte) : On (State.replyTagged s h
    opcode params) fun t =>
    t.freeCtr = s.freeCtr ∧ t.mod = s.mod ∧ t.lanes = s.lanes ∧ t.acc = s.acc ∧ t.img = s.img ∧ t.ixl = s.ixl ∧ t.sheets = s.sheets
    ∧ t.net = s.net ∧ t.fch = s.fch ∧ t.sup = s.sup ∧ t.rcd = s.rcd ∧ t.plink = s.plink ∧ t.tap = s.tap ∧ t.pending = s.pending := by
  unfold On State.replyTagged
  simp

@[simp] theorem State_replyHk_frame (s : State) (h : CmdHdr) (opcode : ℕ) (status : ℕ) (params : List Byte) : On (State.replyHk s h
    opcode status params) fun t =>
    t.freeCtr = s.freeCtr ∧ t.mod = s.mod ∧ t.lanes = s.lanes ∧ t.acc = s.acc ∧ t.img = s.img ∧ t.ixl = s.ixl ∧ t.sheets = s.sheets
    ∧ t.net = s.net ∧ t.fch = s.fch ∧ t.sup = s.sup ∧ t.rcd = s.rcd ∧ t.plink = s.plink ∧ t.tap = s.tap ∧ t.pending = s.pending := by
  unfold On State.replyHk
  simp

@[simp] theorem State_recordReject_frame (s : State) (h : CmdHdr) (opcode : ℕ) (status : ℕ) : On (State.recordReject s h opcode status)
    fun t =>
    t.freeCtr = s.freeCtr ∧ t.mod = s.mod ∧ t.acc = s.acc ∧ t.img = s.img ∧ t.ixl = s.ixl ∧ t.sheets = s.sheets ∧ t.net = s.net ∧
    t.fch = s.fch ∧ t.sup = s.sup ∧ t.plink = s.plink ∧ t.tap = s.tap ∧ t.pending = s.pending ∧ SameIn (·.core) t s ∧ SameIn
    (·.clk) t s ∧ SameIn (·.pwr) t s ∧ SameIn (·.tbs) t s ∧ SameIn (·.mmu) t s ∧ SameIn (·.dma) t s ∧ SameIn (·.arbE) t s ∧ SameIn
    (·.arbD) t s ∧ SameIn (·.cvu) t s ∧ SameIn (·.perf) t s ∧ SameIn (·.rte) t s := by
  unfold On State.recordReject
  simp

@[simp] theorem State_reject_frame (s : State) (h : CmdHdr) (opcode : ℕ) (status : ℕ) : On (State.reject s h opcode status) fun t =>
    t.freeCtr = s.freeCtr ∧ t.mod = s.mod ∧ t.acc = s.acc ∧ t.img = s.img ∧ t.ixl = s.ixl ∧ t.sheets = s.sheets ∧ t.net = s.net ∧
    t.fch = s.fch ∧ t.sup = s.sup ∧ t.plink = s.plink ∧ t.tap = s.tap ∧ t.pending = s.pending ∧ SameIn (·.core) t s ∧ SameIn
    (·.clk) t s ∧ SameIn (·.pwr) t s ∧ SameIn (·.tbs) t s ∧ SameIn (·.mmu) t s ∧ SameIn (·.dma) t s ∧ SameIn (·.arbE) t s ∧ SameIn
    (·.arbD) t s ∧ SameIn (·.cvu) t s ∧ SameIn (·.perf) t s ∧ SameIn (·.rte) t s := by
  unfold On State.reject
  simp

@[simp] theorem State_unsol_frame (s : State) (source : ℕ) (queue : ℕ) (opcode : ℕ) (status : ℕ) (params : List Byte) : On (State.unsol
    s source queue opcode status params) fun t =>
    t.freeCtr = s.freeCtr ∧ t.mod = s.mod ∧ t.lanes = s.lanes ∧ t.acc = s.acc ∧ t.img = s.img ∧ t.ixl = s.ixl ∧ t.sheets = s.sheets
    ∧ t.net = s.net ∧ t.fch = s.fch ∧ t.sup = s.sup ∧ t.rcd = s.rcd ∧ t.plink = s.plink ∧ t.tap = s.tap ∧ t.pending = s.pending := by
  unfold On State.unsol
  simp

@[simp] theorem State_complete_frame (s : State) (c : Completion) (status : ℕ) (data : List Byte) : On (State.complete s c status data)
    fun t =>
    t.freeCtr = s.freeCtr ∧ t.mod = s.mod ∧ t.lanes = s.lanes ∧ t.acc = s.acc ∧ t.img = s.img ∧ t.ixl = s.ixl ∧ t.sheets = s.sheets
    ∧ t.net = s.net ∧ t.fch = s.fch ∧ t.sup = s.sup ∧ t.rcd = s.rcd ∧ t.plink = s.plink ∧ t.tap = s.tap ∧ t.pending = s.pending := by
  unfold On State.complete
  simp

@[simp] theorem State_issueToken_frame (s : State) (h : CmdHdr) (opcode : Nat) (target : Nat) (station : Bool) (role : Option Role) :
    On ((State.issueToken s h opcode target station role).1) fun t =>
    t.freeCtr = s.freeCtr ∧ t.mod = s.mod ∧ t.lanes = s.lanes ∧ t.acc = s.acc ∧ t.img = s.img ∧ t.sheets = s.sheets ∧ t.net = s.net
    ∧ t.fch = s.fch ∧ t.sup = s.sup ∧ t.host = s.host ∧ t.rcd = s.rcd ∧ t.plink = s.plink ∧ t.tap = s.tap ∧ t.pending = s.pending := by
  unfold On State.issueToken
  simp

@[simp] theorem State_spendToken_frame (s : State) (h : CmdHdr) (opcode : ℕ) (target : ℕ) : On (State.spendToken s h opcode target) fun
    t =>
    t.freeCtr = s.freeCtr ∧ t.mod = s.mod ∧ t.lanes = s.lanes ∧ t.acc = s.acc ∧ t.img = s.img ∧ t.sheets = s.sheets ∧ t.net = s.net
    ∧ t.fch = s.fch ∧ t.sup = s.sup ∧ t.host = s.host ∧ t.rcd = s.rcd ∧ t.plink = s.plink ∧ t.tap = s.tap ∧ t.pending = s.pending := by
  unfold On State.spendToken
  simp

@[simp] theorem State_mapOuts_frame (s : State) (f : ℕ → ChOut → ChOut) : On (State.mapOuts s f) fun t =>
    t.freeCtr = s.freeCtr ∧ t.mod = s.mod ∧ t.lanes = s.lanes ∧ t.acc = s.acc ∧ t.img = s.img ∧ t.ixl = s.ixl ∧ t.sheets = s.sheets
    ∧ t.net = s.net ∧ t.sup = s.sup ∧ t.host = s.host ∧ t.rcd = s.rcd ∧ t.plink = s.plink ∧ t.tap = s.tap ∧ t.pending = s.pending := by
  unfold On State.mapOuts
  simp

@[simp] theorem State_modOut_frame (s : State) (ch : ℕ) (f : ChOut → ChOut) : On (State.modOut s ch f) fun t =>
    t.freeCtr = s.freeCtr ∧ t.mod = s.mod ∧ t.lanes = s.lanes ∧ t.acc = s.acc ∧ t.img = s.img ∧ t.ixl = s.ixl ∧ t.sheets = s.sheets
    ∧ t.net = s.net ∧ t.sup = s.sup ∧ t.host = s.host ∧ t.rcd = s.rcd ∧ t.plink = s.plink ∧ t.tap = s.tap ∧ t.pending = s.pending := by
  unfold On State.modOut
  simp

@[simp] theorem State_openAll_frame (s : State) : On (State.openAll s) fun t =>
    t.freeCtr = s.freeCtr ∧ t.mod = s.mod ∧ t.lanes = s.lanes ∧ t.acc = s.acc ∧ t.img = s.img ∧ t.ixl = s.ixl ∧ t.sheets = s.sheets
    ∧ t.net = s.net ∧ t.sup = s.sup ∧ t.host = s.host ∧ t.rcd = s.rcd ∧ t.plink = s.plink ∧ t.tap = s.tap ∧ t.pending = s.pending := by
  unfold On State.openAll
  simp

@[simp] theorem State_stopVrd_frame (s : State) : On (State.stopVrd s) fun t =>
    t.freeCtr = s.freeCtr ∧ t.mod = s.mod ∧ t.acc = s.acc ∧ t.img = s.img ∧ t.ixl = s.ixl ∧ t.sheets = s.sheets ∧ t.net = s.net ∧
    t.sup = s.sup ∧ t.plink = s.plink ∧ t.tap = s.tap ∧ t.pending = s.pending ∧ SameIn (·.core) t s ∧ SameIn (·.clk) t s ∧ SameIn
    (·.pwr) t s ∧ SameIn (·.tbs) t s ∧ SameIn (·.mmu) t s ∧ SameIn (·.dma) t s ∧ SameIn (·.arbE) t s ∧ SameIn (·.arbD) t s ∧ SameIn
    (·.cvu) t s ∧ SameIn (·.perf) t s ∧ SameIn (·.rte) t s := by
  unfold On State.stopVrd
  simp

@[simp] theorem State_withdraw_frame (s : State) (l : Lane) : On (State.withdraw s l) fun t =>
    t.freeCtr = s.freeCtr ∧ t.mod = s.mod ∧ t.lanes = s.lanes ∧ t.img = s.img ∧ t.ixl = s.ixl ∧ t.sheets = s.sheets ∧ t.sup = s.sup
    ∧ t.host = s.host ∧ t.rcd = s.rcd ∧ t.plink = s.plink ∧ t.tap = s.tap ∧ t.pending = s.pending := by
  unfold On State.withdraw
  simp

@[simp] theorem State_commitBogie_frame (s : State) (l : Lane) (prio : ℕ) (reason : ℕ) : On (State.commitBogie s l prio reason) fun t
    =>
    t.freeCtr = s.freeCtr ∧ t.mod = s.mod ∧ t.acc = s.acc ∧ t.img = s.img ∧ t.ixl = s.ixl ∧ t.sheets = s.sheets ∧ t.net = s.net ∧
    t.fch = s.fch ∧ t.sup = s.sup ∧ t.plink = s.plink ∧ t.tap = s.tap ∧ t.pending = s.pending ∧ SameIn (·.core) t s ∧ SameIn
    (·.clk) t s ∧ SameIn (·.pwr) t s ∧ SameIn (·.tbs) t s ∧ SameIn (·.mmu) t s ∧ SameIn (·.dma) t s ∧ SameIn (·.cvu) t s ∧ SameIn
    (·.perf) t s ∧ SameIn (·.rte) t s := by
  unfold On State.commitBogie
  simp

@[simp] theorem State_endCatchUp_frame (s : State) (l : Lane) : On (State.endCatchUp s l) fun t =>
    t.freeCtr = s.freeCtr ∧ t.mod = s.mod ∧ t.acc = s.acc ∧ t.img = s.img ∧ t.ixl = s.ixl ∧ t.sheets = s.sheets ∧ t.net = s.net ∧
    t.fch = s.fch ∧ t.sup = s.sup ∧ t.plink = s.plink ∧ t.tap = s.tap ∧ t.pending = s.pending ∧ SameIn (·.core) t s ∧ SameIn
    (·.clk) t s ∧ SameIn (·.pwr) t s ∧ SameIn (·.tbs) t s ∧ SameIn (·.mmu) t s ∧ SameIn (·.dma) t s ∧ SameIn (·.cvu) t s ∧ SameIn
    (·.perf) t s ∧ SameIn (·.rte) t s := by
  unfold On State.endCatchUp
  simp

@[simp] theorem State_beginResync_frame (s : State) (l : Lane) (cause : ℕ) : On (State.beginResync s l cause) fun t =>
    t.freeCtr = s.freeCtr ∧ t.mod = s.mod ∧ t.acc = s.acc ∧ t.img = s.img ∧ t.ixl = s.ixl ∧ t.sheets = s.sheets ∧ t.net = s.net ∧
    t.fch = s.fch ∧ t.sup = s.sup ∧ t.plink = s.plink ∧ t.tap = s.tap ∧ t.pending = s.pending ∧ SameIn (·.pwr) t s ∧ SameIn (·.tbs)
    t s ∧ SameIn (·.mmu) t s ∧ SameIn (·.dma) t s ∧ SameIn (·.cvu) t s ∧ SameIn (·.perf) t s ∧ SameIn (·.rte) t s := by
  unfold On State.beginResync
  simp

@[simp] theorem State_takeNext_frame (s : State) (l : Lane) : On (State.takeNext s l) fun t =>
    t.freeCtr = s.freeCtr ∧ t.mod = s.mod ∧ t.acc = s.acc ∧ t.img = s.img ∧ t.ixl = s.ixl ∧ t.sheets = s.sheets ∧ t.net = s.net ∧
    t.fch = s.fch ∧ t.sup = s.sup ∧ t.plink = s.plink ∧ t.tap = s.tap ∧ t.pending = s.pending ∧ SameIn (·.pwr) t s ∧ SameIn (·.tbs)
    t s ∧ SameIn (·.mmu) t s ∧ SameIn (·.dma) t s ∧ SameIn (·.cvu) t s ∧ SameIn (·.perf) t s ∧ SameIn (·.rte) t s := by
  unfold On State.takeNext
  dsimp only
  (repeat' split) <;> simp

@[simp] theorem State_answerAsked_frame (s : State) (l : Lane) (status : ℕ) : On (State.answerAsked s l status) fun t =>
    t.freeCtr = s.freeCtr ∧ t.mod = s.mod ∧ t.acc = s.acc ∧ t.img = s.img ∧ t.ixl = s.ixl ∧ t.sheets = s.sheets ∧ t.net = s.net ∧
    t.fch = s.fch ∧ t.sup = s.sup ∧ t.rcd = s.rcd ∧ t.plink = s.plink ∧ t.tap = s.tap ∧ t.pending = s.pending ∧ SameIn (·.clk) t s
    ∧ SameIn (·.pwr) t s ∧ SameIn (·.tbs) t s ∧ SameIn (·.diag) t s ∧ SameIn (·.mmu) t s ∧ SameIn (·.dma) t s ∧ SameIn (·.arbE) t s
    ∧ SameIn (·.arbD) t s ∧ SameIn (·.cvu) t s ∧ SameIn (·.perf) t s ∧ SameIn (·.rte) t s := by
  unfold On State.answerAsked
  dsimp only
  (repeat' split) <;> simp

@[simp] theorem State_modResync_frame (s : State) (l : Lane) (f : ResyncS → ResyncS) : On (State.modResync s l f) fun t =>
    t.freeCtr = s.freeCtr ∧ t.mod = s.mod ∧ t.acc = s.acc ∧ t.img = s.img ∧ t.ixl = s.ixl ∧ t.sheets = s.sheets ∧ t.net = s.net ∧
    t.fch = s.fch ∧ t.sup = s.sup ∧ t.host = s.host ∧ t.rcd = s.rcd ∧ t.plink = s.plink ∧ t.tap = s.tap ∧ t.pending = s.pending ∧
    SameIn (·.clk) t s ∧ SameIn (·.pwr) t s ∧ SameIn (·.tbs) t s ∧ SameIn (·.diag) t s ∧ SameIn (·.mmu) t s ∧ SameIn (·.dma) t s ∧
    SameIn (·.arbE) t s ∧ SameIn (·.arbD) t s ∧ SameIn (·.cvu) t s ∧ SameIn (·.perf) t s ∧ SameIn (·.rte) t s := by
  unfold On State.modResync
  simp

@[simp] theorem State_failResync_frame (s : State) (l : Lane) (st : LaneSt) : On (State.failResync s l st) fun t =>
    t.freeCtr = s.freeCtr ∧ t.mod = s.mod ∧ t.acc = s.acc ∧ t.img = s.img ∧ t.ixl = s.ixl ∧ t.sheets = s.sheets ∧ t.net = s.net ∧
    t.fch = s.fch ∧ t.sup = s.sup ∧ t.plink = s.plink ∧ t.tap = s.tap ∧ t.pending = s.pending ∧ SameIn (·.clk) t s ∧ SameIn (·.pwr)
    t s ∧ SameIn (·.tbs) t s ∧ SameIn (·.dma) t s ∧ SameIn (·.cvu) t s ∧ SameIn (·.perf) t s ∧ SameIn (·.rte) t s := by
  unfold On State.failResync
  simp

@[simp] theorem State_copyFails_frame (s : State) (l : Lane) : On (State.copyFails s l) fun t =>
    t.freeCtr = s.freeCtr ∧ t.mod = s.mod ∧ t.acc = s.acc ∧ t.img = s.img ∧ t.ixl = s.ixl ∧ t.sheets = s.sheets ∧ t.net = s.net ∧
    t.fch = s.fch ∧ t.sup = s.sup ∧ t.plink = s.plink ∧ t.tap = s.tap ∧ t.pending = s.pending ∧ SameIn (·.clk) t s ∧ SameIn (·.pwr)
    t s ∧ SameIn (·.tbs) t s ∧ SameIn (·.dma) t s ∧ SameIn (·.cvu) t s ∧ SameIn (·.perf) t s ∧ SameIn (·.rte) t s := by
  unfold On State.copyFails
  dsimp only
  (repeat' split) <;> simp

@[simp] theorem State_dropSender_frame (s : State) (l : Lane) : On (State.dropSender s l) fun t =>
    t.freeCtr = s.freeCtr ∧ t.mod = s.mod ∧ t.acc = s.acc ∧ t.img = s.img ∧ t.ixl = s.ixl ∧ t.sheets = s.sheets ∧ t.net = s.net ∧
    t.fch = s.fch ∧ t.sup = s.sup ∧ t.plink = s.plink ∧ t.tap = s.tap ∧ t.pending = s.pending ∧ SameIn (·.clk) t s ∧ SameIn (·.pwr)
    t s ∧ SameIn (·.tbs) t s ∧ SameIn (·.dma) t s ∧ SameIn (·.cvu) t s ∧ SameIn (·.perf) t s ∧ SameIn (·.rte) t s := by
  unfold On State.dropSender
  simp

@[simp] theorem State_leave_frame (s : State) (l : Lane) (cause : ℕ) (sub : ℕ) : On (State.leave s l cause sub) fun t =>
    t.freeCtr = s.freeCtr ∧ t.mod = s.mod ∧ t.img = s.img ∧ t.ixl = s.ixl ∧ t.sheets = s.sheets ∧ t.sup = s.sup ∧ t.plink = s.plink
    ∧ t.tap = s.tap ∧ t.pending = s.pending ∧ SameIn (·.pwr) t s ∧ SameIn (·.tbs) t s ∧ SameIn (·.dma) t s ∧ SameIn (·.cvu) t s ∧
    SameIn (·.perf) t s ∧ SameIn (·.rte) t s := by
  unfold On State.leave
  dsimp only
  (repeat' split) <;> simp

@[simp] theorem State_failLane_frame (s : State) (l : Lane) (cause : ℕ) : On (State.failLane s l cause) fun t =>
    t.freeCtr = s.freeCtr ∧ t.mod = s.mod ∧ t.img = s.img ∧ t.ixl = s.ixl ∧ t.sheets = s.sheets ∧ t.sup = s.sup ∧ t.rcd = s.rcd ∧
    t.plink = s.plink ∧ t.tap = s.tap ∧ t.pending = s.pending ∧ SameIn (·.clk) t s ∧ SameIn (·.pwr) t s ∧ SameIn (·.tbs) t s ∧
    SameIn (·.diag) t s ∧ SameIn (·.mmu) t s ∧ SameIn (·.dma) t s ∧ SameIn (·.arbE) t s ∧ SameIn (·.arbD) t s ∧ SameIn (·.cvu) t s
    ∧ SameIn (·.perf) t s ∧ SameIn (·.rte) t s := by
  unfold On State.failLane
  simp

@[simp] theorem State_toMode_frame (s : State) (m : Mode) (trigger : ℕ) : On (State.toMode s m trigger) fun t =>
    t.freeCtr = s.freeCtr ∧ t.acc = s.acc ∧ t.img = s.img ∧ t.ixl = s.ixl ∧ t.sheets = s.sheets ∧ t.net = s.net ∧ t.fch = s.fch ∧
    t.sup = s.sup ∧ t.plink = s.plink ∧ t.tap = s.tap ∧ t.pending = s.pending ∧ SameIn (·.core) t s ∧ SameIn (·.clk) t s ∧ SameIn
    (·.pwr) t s ∧ SameIn (·.tbs) t s ∧ SameIn (·.mmu) t s ∧ SameIn (·.dma) t s ∧ SameIn (·.arbE) t s ∧ SameIn (·.arbD) t s ∧ SameIn
    (·.cvu) t s ∧ SameIn (·.perf) t s ∧ SameIn (·.rte) t s := by
  unfold On State.toMode
  simp

@[simp] theorem State_noteDegraded_frame (s : State) (oldWord : ℕ) (trigger : ℕ) : On (State.noteDegraded s oldWord trigger) fun t =>
    t.freeCtr = s.freeCtr ∧ t.mod = s.mod ∧ t.acc = s.acc ∧ t.img = s.img ∧ t.ixl = s.ixl ∧ t.sheets = s.sheets ∧ t.net = s.net ∧
    t.fch = s.fch ∧ t.sup = s.sup ∧ t.plink = s.plink ∧ t.tap = s.tap ∧ t.pending = s.pending ∧ SameIn (·.core) t s ∧ SameIn
    (·.clk) t s ∧ SameIn (·.pwr) t s ∧ SameIn (·.tbs) t s ∧ SameIn (·.mmu) t s ∧ SameIn (·.dma) t s ∧ SameIn (·.arbE) t s ∧ SameIn
    (·.arbD) t s ∧ SameIn (·.cvu) t s ∧ SameIn (·.perf) t s ∧ SameIn (·.rte) t s := by
  unfold On State.noteDegraded
  simp

@[simp] theorem State_countEvent_frame (s : State) (l : Lane) (ev : ℕ) (n : ℕ) (master : Option ℕ) (addr : Option ℕ) : On
    (State.countEvent s l ev n master addr) fun t =>
    t.freeCtr = s.freeCtr ∧ t.mod = s.mod ∧ t.acc = s.acc ∧ t.img = s.img ∧ t.ixl = s.ixl ∧ t.sheets = s.sheets ∧ t.net = s.net ∧
    t.fch = s.fch ∧ t.sup = s.sup ∧ t.host = s.host ∧ t.rcd = s.rcd ∧ t.plink = s.plink ∧ t.tap = s.tap ∧ t.pending = s.pending ∧
    SameIn (·.core) t s ∧ SameIn (·.clk) t s ∧ SameIn (·.pwr) t s ∧ SameIn (·.tbs) t s ∧ SameIn (·.diag) t s ∧ SameIn (·.mmu) t s ∧
    SameIn (·.dma) t s ∧ SameIn (·.arbE) t s ∧ SameIn (·.arbD) t s ∧ SameIn (·.cvu) t s ∧ SameIn (·.rte) t s := by
  unfold On State.countEvent
  simp

@[simp] theorem State_endSession_frame (s : State) (x : Session) (reason : ℕ) : On (State.endSession s x reason) fun t =>
    t.freeCtr = s.freeCtr ∧ t.mod = s.mod ∧ t.acc = s.acc ∧ t.img = s.img ∧ t.sheets = s.sheets ∧ t.net = s.net ∧ t.fch = s.fch ∧
    t.sup = s.sup ∧ t.plink = s.plink ∧ t.tap = s.tap ∧ t.pending = s.pending ∧ SameIn (·.core) t s ∧ SameIn (·.clk) t s ∧ SameIn
    (·.pwr) t s ∧ SameIn (·.tbs) t s ∧ SameIn (·.mmu) t s ∧ SameIn (·.dma) t s ∧ SameIn (·.arbE) t s ∧ SameIn (·.arbD) t s ∧ SameIn
    (·.cvu) t s ∧ SameIn (·.perf) t s ∧ SameIn (·.rte) t s := by
  unfold On State.endSession
  simp

@[simp] theorem State_endSessions_frame (s : State) : On (State.endSessions s) fun t =>
    t.freeCtr = s.freeCtr ∧ t.mod = s.mod ∧ t.acc = s.acc ∧ t.img = s.img ∧ t.sheets = s.sheets ∧ t.net = s.net ∧ t.fch = s.fch ∧
    t.sup = s.sup ∧ t.plink = s.plink ∧ t.tap = s.tap ∧ t.pending = s.pending ∧ SameIn (·.core) t s ∧ SameIn (·.clk) t s ∧ SameIn
    (·.pwr) t s ∧ SameIn (·.tbs) t s ∧ SameIn (·.mmu) t s ∧ SameIn (·.dma) t s ∧ SameIn (·.arbE) t s ∧ SameIn (·.arbD) t s ∧ SameIn
    (·.cvu) t s ∧ SameIn (·.perf) t s ∧ SameIn (·.rte) t s := by
  unfold On State.endSessions
  simp

@[simp] theorem State_endForce_frame (s : State) (ch : ℕ) (event : ℕ) : On (State.endForce s ch event) fun t =>
    t.freeCtr = s.freeCtr ∧ t.mod = s.mod ∧ t.acc = s.acc ∧ t.img = s.img ∧ t.ixl = s.ixl ∧ t.sheets = s.sheets ∧ t.net = s.net ∧
    t.sup = s.sup ∧ t.plink = s.plink ∧ t.tap = s.tap ∧ t.pending = s.pending ∧ SameIn (·.core) t s ∧ SameIn (·.clk) t s ∧ SameIn
    (·.pwr) t s ∧ SameIn (·.tbs) t s ∧ SameIn (·.mmu) t s ∧ SameIn (·.dma) t s ∧ SameIn (·.arbE) t s ∧ SameIn (·.arbD) t s ∧ SameIn
    (·.cvu) t s ∧ SameIn (·.perf) t s ∧ SameIn (·.rte) t s := by
  unfold On State.endForce
  dsimp only
  (repeat' split) <;> simp

@[simp] theorem State_cancelSheets_frame (s : State) (reason : ℕ) : On (State.cancelSheets s reason) fun t =>
    t.freeCtr = s.freeCtr ∧ t.mod = s.mod ∧ t.acc = s.acc ∧ t.ixl = s.ixl ∧ t.net = s.net ∧ t.fch = s.fch ∧ t.sup = s.sup ∧ t.plink
    = s.plink ∧ t.tap = s.tap ∧ t.pending = s.pending ∧ SameIn (·.core) t s ∧ SameIn (·.clk) t s ∧ SameIn (·.pwr) t s ∧ SameIn
    (·.tbs) t s ∧ SameIn (·.mmu) t s ∧ SameIn (·.dma) t s ∧ SameIn (·.arbE) t s ∧ SameIn (·.arbD) t s ∧ SameIn (·.cvu) t s ∧ SameIn
    (·.perf) t s ∧ SameIn (·.rte) t s := by
  unfold On State.cancelSheets
  dsimp only
  (repeat' split) <;> simp

@[simp] theorem State_haltSups_frame (s : State) : On (State.haltSups s) fun t =>
    t.freeCtr = s.freeCtr ∧ t.mod = s.mod ∧ t.acc = s.acc ∧ t.img = s.img ∧ t.ixl = s.ixl ∧ t.sheets = s.sheets ∧ t.net = s.net ∧
    t.fch = s.fch ∧ t.plink = s.plink ∧ t.tap = s.tap ∧ t.pending = s.pending ∧ SameIn (·.core) t s ∧ SameIn (·.clk) t s ∧ SameIn
    (·.pwr) t s ∧ SameIn (·.tbs) t s ∧ SameIn (·.mmu) t s ∧ SameIn (·.dma) t s ∧ SameIn (·.arbE) t s ∧ SameIn (·.arbD) t s ∧ SameIn
    (·.cvu) t s ∧ SameIn (·.perf) t s ∧ SameIn (·.rte) t s := by
  unfold On State.haltSups
  simp

@[simp] theorem State_stopOperate_frame (s : State) : On (State.stopOperate s) fun t =>
    t.freeCtr = s.freeCtr ∧ t.mod = s.mod ∧ t.acc = s.acc ∧ t.net = s.net ∧ t.plink = s.plink ∧ t.tap = s.tap ∧ t.pending =
    s.pending ∧ SameIn (·.core) t s ∧ SameIn (·.clk) t s ∧ SameIn (·.pwr) t s ∧ SameIn (·.tbs) t s ∧ SameIn (·.mmu) t s ∧ SameIn
    (·.dma) t s ∧ SameIn (·.arbE) t s ∧ SameIn (·.arbD) t s ∧ SameIn (·.cvu) t s ∧ SameIn (·.perf) t s ∧ SameIn (·.rte) t s := by
  unfold On State.stopOperate
  simp

@[simp] theorem State_persistAll_frame (s : State) : On (State.persistAll s) fun t =>
    t.freeCtr = s.freeCtr ∧ t.mod = s.mod ∧ t.lanes = s.lanes ∧ t.acc = s.acc ∧ t.img = s.img ∧ t.ixl = s.ixl ∧ t.net = s.net ∧
    t.fch = s.fch ∧ t.sup = s.sup ∧ t.rcd = s.rcd ∧ t.plink = s.plink ∧ t.tap = s.tap ∧ t.pending = s.pending := by
  unfold On State.persistAll
  simp

@[simp] theorem State_endSwitch_frame (s : State) (result : ℕ) (round : Word) (crc : Word) : On (State.endSwitch s result round crc)
    fun t =>
    t.freeCtr = s.freeCtr ∧ t.mod = s.mod ∧ t.acc = s.acc ∧ t.img = s.img ∧ t.ixl = s.ixl ∧ t.sheets = s.sheets ∧ t.fch = s.fch ∧
    t.sup = s.sup ∧ t.plink = s.plink ∧ t.tap = s.tap ∧ t.pending = s.pending ∧ SameIn (·.core) t s ∧ SameIn (·.clk) t s ∧ SameIn
    (·.pwr) t s ∧ SameIn (·.tbs) t s ∧ SameIn (·.mmu) t s ∧ SameIn (·.dma) t s ∧ SameIn (·.arbE) t s ∧ SameIn (·.arbD) t s ∧ SameIn
    (·.cvu) t s ∧ SameIn (·.perf) t s ∧ SameIn (·.rte) t s := by
  unfold On State.endSwitch
  dsimp only
  (repeat' split) <;> simp

@[simp] theorem State_silence_frame (s : State) : On (State.silence s) fun t =>
    t.freeCtr = s.freeCtr ∧ t.mod = s.mod ∧ t.acc = s.acc ∧ t.img = s.img ∧ t.ixl = s.ixl ∧ t.sheets = s.sheets ∧ t.fch = s.fch ∧
    t.sup = s.sup ∧ t.plink = s.plink ∧ t.tap = s.tap ∧ t.pending = s.pending ∧ SameIn (·.core) t s ∧ SameIn (·.clk) t s ∧ SameIn
    (·.pwr) t s ∧ SameIn (·.tbs) t s ∧ SameIn (·.mmu) t s ∧ SameIn (·.dma) t s ∧ SameIn (·.arbE) t s ∧ SameIn (·.arbD) t s ∧ SameIn
    (·.cvu) t s ∧ SameIn (·.perf) t s ∧ SameIn (·.rte) t s := by
  unfold On State.silence
  dsimp only
  (repeat' split) <;> simp

@[simp] theorem State_votesOff_frame (s : State) (all : Bool) : On (State.votesOff s all) fun t =>
    t.freeCtr = s.freeCtr ∧ t.mod = s.mod ∧ t.lanes = s.lanes ∧ t.acc = s.acc ∧ t.img = s.img ∧ t.ixl = s.ixl ∧ t.sheets = s.sheets
    ∧ t.net = s.net ∧ t.sup = s.sup ∧ t.host = s.host ∧ t.rcd = s.rcd ∧ t.plink = s.plink ∧ t.tap = s.tap ∧ t.pending = s.pending := by
  unfold On State.votesOff
  simp

@[simp] theorem State_settleMinority_frame (s : State) : On (State.settleMinority s) fun t =>
    t.freeCtr = s.freeCtr ∧ t.mod = s.mod ∧ t.acc = s.acc ∧ t.img = s.img ∧ t.ixl = s.ixl ∧ t.sheets = s.sheets ∧ t.net = s.net ∧
    t.fch = s.fch ∧ t.sup = s.sup ∧ t.plink = s.plink ∧ t.tap = s.tap ∧ t.pending = s.pending ∧ SameIn (·.pwr) t s ∧ SameIn (·.tbs)
    t s ∧ SameIn (·.mmu) t s ∧ SameIn (·.dma) t s ∧ SameIn (·.cvu) t s ∧ SameIn (·.perf) t s ∧ SameIn (·.rte) t s := by
  unfold On State.settleMinority
  simp

@[simp] theorem State_refuseTaken_frame (s : State) : On (State.refuseTaken s) fun t =>
    t.freeCtr = s.freeCtr ∧ t.mod = s.mod ∧ t.lanes = s.lanes ∧ t.img = s.img ∧ t.sheets = s.sheets ∧ t.net = s.net ∧ t.fch = s.fch
    ∧ t.sup = s.sup ∧ t.rcd = s.rcd ∧ t.plink = s.plink ∧ t.tap = s.tap ∧ t.pending = s.pending := by
  unfold On State.refuseTaken
  simp

@[simp] theorem State_abandonSwitchover_frame (s : State) : On (State.abandonSwitchover s) fun t =>
    t.freeCtr = s.freeCtr ∧ t.mod = s.mod ∧ t.lanes = s.lanes ∧ t.acc = s.acc ∧ t.img = s.img ∧ t.ixl = s.ixl ∧ t.sheets = s.sheets
    ∧ t.net = s.net ∧ t.fch = s.fch ∧ t.sup = s.sup ∧ t.rcd = s.rcd ∧ t.tap = s.tap ∧ t.pending = s.pending := by
  unfold On State.abandonSwitchover
  dsimp only
  (repeat' split) <;> simp

@[simp] theorem State_loseModeRequest_frame (s : State) : On (State.loseModeRequest s) fun t =>
    t.freeCtr = s.freeCtr ∧ t.mod.mode = s.mod.mode ∧ t.lanes = s.lanes ∧ t.acc = s.acc ∧ t.img = s.img ∧ t.ixl = s.ixl ∧ t.sheets
    = s.sheets ∧ t.net = s.net ∧ t.fch = s.fch ∧ t.sup = s.sup ∧ t.rcd = s.rcd ∧ t.plink = s.plink ∧ t.tap = s.tap ∧ t.pending =
    s.pending := by
  unfold On State.loseModeRequest
  dsimp only
  (repeat' split) <;> simp

@[simp] theorem State_enterSafe_frame (s : State) (trigger : ℕ) : On (State.enterSafe s trigger) fun t =>
    t.freeCtr = s.freeCtr ∧ t.tap = s.tap ∧ t.pending = s.pending ∧ SameIn (·.pwr) t s ∧ SameIn (·.tbs) t s ∧ SameIn (·.mmu) t s ∧
    SameIn (·.dma) t s ∧ SameIn (·.cvu) t s ∧ SameIn (·.perf) t s ∧ SameIn (·.rte) t s := by
  unfold On State.enterSafe
  simp

@[simp] theorem State_endFreeze_frame (s : State) (event : ℕ) (keep : ℕ) : On (State.endFreeze s event keep) fun t =>
    t.freeCtr = s.freeCtr ∧ t.mod = s.mod ∧ t.lanes = s.lanes ∧ t.acc = s.acc ∧ t.img = s.img ∧ t.ixl = s.ixl ∧ t.sheets = s.sheets
    ∧ t.net = s.net ∧ t.fch = s.fch ∧ t.sup = s.sup ∧ t.plink = s.plink ∧ t.tap = s.tap ∧ t.pending = s.pending := by
  unfold On State.endFreeze
  dsimp only
  (repeat' split) <;> simp

@[simp] theorem State_flushGap_frame (s : State) : On (State.flushGap s) fun t =>
    t.freeCtr = s.freeCtr ∧ t.mod = s.mod ∧ t.lanes = s.lanes ∧ t.acc = s.acc ∧ t.img = s.img ∧ t.ixl = s.ixl ∧ t.sheets = s.sheets
    ∧ t.net = s.net ∧ t.fch = s.fch ∧ t.sup = s.sup ∧ t.plink = s.plink ∧ t.tap = s.tap ∧ t.pending = s.pending := by
  unfold On State.flushGap
  dsimp only
  (repeat' split) <;> simp

@[simp] theorem State_leaveVote_frame (s : State) (l : Lane) (cause : ℕ) (sub : ℕ) : On (State.leaveVote s l cause sub) fun t =>
    t.freeCtr = s.freeCtr ∧ t.tap = s.tap ∧ t.pending = s.pending ∧ SameIn (·.pwr) t s ∧ SameIn (·.tbs) t s ∧ SameIn (·.dma) t s ∧
    SameIn (·.cvu) t s ∧ SameIn (·.perf) t s ∧ SameIn (·.rte) t s := by
  unfold On State.leaveVote
  simp

@[simp] theorem State_leaveAll_frame (s : State) (ls : LaneSet) (cause : ℕ) (sub : ℕ) : On (State.leaveAll s ls cause sub) fun t =>
    t.freeCtr = s.freeCtr ∧ t.tap = s.tap ∧ t.pending = s.pending ∧ SameIn (·.pwr) t s ∧ SameIn (·.tbs) t s ∧ SameIn (·.dma) t s ∧
    SameIn (·.cvu) t s ∧ SameIn (·.perf) t s ∧ SameIn (·.rte) t s := by
  unfold On State.leaveAll
  simp

@[simp] theorem State_recordCold_frame (s : State) (event : ℕ) (other : Word) : On (State.recordCold s event other) fun t =>
    t.freeCtr = s.freeCtr ∧ t.mod = s.mod ∧ t.acc = s.acc ∧ t.img = s.img ∧ t.ixl = s.ixl ∧ t.sheets = s.sheets ∧ t.net = s.net ∧
    t.fch = s.fch ∧ t.sup = s.sup ∧ t.plink = s.plink ∧ t.tap = s.tap ∧ t.pending = s.pending ∧ SameIn (·.core) t s ∧ SameIn
    (·.clk) t s ∧ SameIn (·.pwr) t s ∧ SameIn (·.tbs) t s ∧ SameIn (·.mmu) t s ∧ SameIn (·.dma) t s ∧ SameIn (·.arbE) t s ∧ SameIn
    (·.arbD) t s ∧ SameIn (·.cvu) t s ∧ SameIn (·.perf) t s ∧ SameIn (·.rte) t s := by
  unfold On State.recordCold
  simp

@[simp] theorem State_coldStart_frame (s : State) : On (State.coldStart s) fun t =>
    t.freeCtr = s.freeCtr ∧ t.mod = s.mod ∧ t.img = s.img ∧ t.ixl = s.ixl ∧ t.sheets = s.sheets ∧ t.fch = s.fch ∧ t.sup = s.sup ∧
    t.tap = s.tap ∧ t.pending = s.pending ∧ SameIn (·.core) t s ∧ SameIn (·.clk) t s ∧ SameIn (·.pwr) t s ∧ SameIn (·.tbs) t s ∧
    SameIn (·.mmu) t s ∧ SameIn (·.dma) t s ∧ SameIn (·.arbE) t s ∧ SameIn (·.arbD) t s ∧ SameIn (·.cvu) t s ∧ SameIn (·.perf) t s
    ∧ SameIn (·.rte) t s := by
  unfold On State.coldStart
  simp

@[simp] theorem State_serveByRole_frame (s : State) : On (State.serveByRole s) fun t =>
    t.freeCtr = s.freeCtr ∧ t.mod = s.mod ∧ t.lanes = s.lanes ∧ t.acc = s.acc ∧ t.img = s.img ∧ t.ixl = s.ixl ∧ t.sheets = s.sheets
    ∧ t.fch = s.fch ∧ t.sup = s.sup ∧ t.host = s.host ∧ t.rcd = s.rcd ∧ t.plink = s.plink ∧ t.tap = s.tap ∧ t.pending = s.pending := by
  unfold On State.serveByRole
  simp

@[simp] theorem State_startNetwork_frame (s : State) : On (State.startNetwork s) fun t =>
    t.freeCtr = s.freeCtr ∧ t.mod = s.mod ∧ t.img = s.img ∧ t.ixl = s.ixl ∧ t.sheets = s.sheets ∧ t.fch = s.fch ∧ t.sup = s.sup ∧
    t.tap = s.tap ∧ t.pending = s.pending ∧ SameIn (·.core) t s ∧ SameIn (·.clk) t s ∧ SameIn (·.pwr) t s ∧ SameIn (·.tbs) t s ∧
    SameIn (·.mmu) t s ∧ SameIn (·.dma) t s ∧ SameIn (·.arbE) t s ∧ SameIn (·.arbD) t s ∧ SameIn (·.cvu) t s ∧ SameIn (·.perf) t s
    ∧ SameIn (·.rte) t s := by
  unfold On State.startNetwork
  simp

@[simp] theorem State_restartStation_frame (s : State) : On (State.restartStation s) fun t =>
    t.freeCtr = s.freeCtr ∧ t.mod = s.mod ∧ t.lanes = s.lanes ∧ t.acc = s.acc ∧ t.img = s.img ∧ t.net = s.net ∧ t.fch = s.fch ∧
    t.sup = s.sup ∧ t.host = s.host ∧ t.rcd = s.rcd ∧ t.plink = s.plink ∧ t.tap = s.tap ∧ t.pending = s.pending := by
  unfold On State.restartStation
  simp

@[simp] theorem State_restartSups_frame (s : State) : On (State.restartSups s) fun t =>
    t.freeCtr = s.freeCtr ∧ t.mod = s.mod ∧ t.lanes = s.lanes ∧ t.acc = s.acc ∧ t.img = s.img ∧ t.ixl = s.ixl ∧ t.sheets = s.sheets
    ∧ t.net = s.net ∧ t.fch = s.fch ∧ t.host = s.host ∧ t.rcd = s.rcd ∧ t.plink = s.plink ∧ t.tap = s.tap ∧ t.pending = s.pending := by
  unfold On State.restartSups
  simp

@[simp] theorem State_restartCounts_frame (s : State) : On (State.restartCounts s) fun t =>
    t.freeCtr = s.freeCtr ∧ t.mod = s.mod ∧ t.acc = s.acc ∧ t.img = s.img ∧ t.ixl = s.ixl ∧ t.sheets = s.sheets ∧ t.fch = s.fch ∧
    t.sup = s.sup ∧ t.host = s.host ∧ t.rcd = s.rcd ∧ t.tap = s.tap ∧ t.pending = s.pending ∧ SameIn (·.clk) t s ∧ SameIn (·.tbs) t
    s ∧ SameIn (·.mmu) t s ∧ SameIn (·.dma) t s ∧ SameIn (·.arbE) t s ∧ SameIn (·.arbD) t s ∧ SameIn (·.cvu) t s ∧ SameIn (·.perf)
    t s := by
  unfold On State.restartCounts
  simp

@[simp] theorem State_enterIntegrate_freeCtr_frame (s : State) (trigger : ℕ) : On (State.enterIntegrate s trigger) fun t =>
    t.freeCtr = s.freeCtr := by
  unfold On State.enterIntegrate
  dsimp only
  (repeat' split) <;> simp

@[simp] theorem State_enterIntegrate_img_frame (s : State) (trigger : ℕ) : On (State.enterIntegrate s trigger) fun t =>
    t.img = s.img := by
  unfold On State.enterIntegrate
  dsimp only
  (repeat' split) <;> simp

@[simp] theorem State_enterIntegrate_fch_frame (s : State) (trigger : ℕ) : On (State.enterIntegrate s trigger) fun t =>
    t.fch = s.fch := by
  unfold On State.enterIntegrate
  dsimp only
  (repeat' split) <;> simp

@[simp] theorem State_enterIntegrate_tap_frame (s : State) (trigger : ℕ) : On (State.enterIntegrate s trigger) fun t =>
    t.tap = s.tap := by
  unfold On State.enterIntegrate
  dsimp only
  (repeat' split) <;> simp

@[simp] theorem State_enterIntegrate_pending_frame (s : State) (trigger : ℕ) : On (State.enterIntegrate s trigger) fun t =>
    t.pending = s.pending := by
  unfold On State.enterIntegrate
  dsimp only
  (repeat' split) <;> simp

@[simp] theorem State_migrate_frame (s : State) (m : List MapEntry) (oldKinds : Tab Kind) : On (State.migrate s m oldKinds) fun t =>
    t.freeCtr = s.freeCtr ∧ t.mod = s.mod ∧ t.acc = s.acc ∧ t.img = s.img ∧ t.sheets = s.sheets ∧ t.net = s.net ∧ t.fch = s.fch ∧
    t.sup = s.sup ∧ t.plink = s.plink ∧ t.tap = s.tap ∧ t.pending = s.pending ∧ SameIn (·.core) t s ∧ SameIn (·.clk) t s ∧ SameIn
    (·.pwr) t s ∧ SameIn (·.tbs) t s ∧ SameIn (·.mmu) t s ∧ SameIn (·.dma) t s ∧ SameIn (·.arbE) t s ∧ SameIn (·.arbD) t s ∧ SameIn
    (·.cvu) t s ∧ SameIn (·.perf) t s ∧ SameIn (·.rte) t s := by
  unfold On State.migrate
  simp

@[simp] theorem State_setCond_frame (s : State) (c : Cond) (reason : ℕ) : On (State.setCond s c reason) fun t =>
    t.freeCtr = s.freeCtr ∧ t.mod.mode = s.mod.mode ∧ t.acc = s.acc ∧ t.img = s.img ∧ t.ixl = s.ixl ∧ t.sheets = s.sheets ∧ t.net =
    s.net ∧ t.fch = s.fch ∧ t.sup = s.sup ∧ t.plink = s.plink ∧ t.tap = s.tap ∧ t.pending = s.pending ∧ SameIn (·.core) t s ∧
    SameIn (·.clk) t s ∧ SameIn (·.pwr) t s ∧ SameIn (·.tbs) t s ∧ SameIn (·.mmu) t s ∧ SameIn (·.dma) t s ∧ SameIn (·.arbE) t s ∧
    SameIn (·.arbD) t s ∧ SameIn (·.cvu) t s ∧ SameIn (·.perf) t s ∧ SameIn (·.rte) t s := by
  unfold On State.setCond
  dsimp only
  (repeat' split) <;> simp

@[simp] theorem State_beginPartnerResync_frame (s : State) : On (State.beginPartnerResync s) fun t =>
    t.freeCtr = s.freeCtr ∧ t.mod = s.mod ∧ t.lanes = s.lanes ∧ t.acc = s.acc ∧ t.img = s.img ∧ t.ixl = s.ixl ∧ t.sheets = s.sheets
    ∧ t.net = s.net ∧ t.fch = s.fch ∧ t.sup = s.sup ∧ t.host = s.host ∧ t.rcd = s.rcd ∧ t.tap = s.tap ∧ t.pending = s.pending := by
  unfold On State.beginPartnerResync
  simp

@[simp] theorem State_partnerToCopy_frame (s : State) (wait : ℕ) : On (State.partnerToCopy s wait) fun t =>
    t.freeCtr = s.freeCtr ∧ t.mod = s.mod ∧ t.lanes = s.lanes ∧ t.acc = s.acc ∧ t.img = s.img ∧ t.ixl = s.ixl ∧ t.sheets = s.sheets
    ∧ t.net = s.net ∧ t.fch = s.fch ∧ t.sup = s.sup ∧ t.host = s.host ∧ t.rcd = s.rcd ∧ t.tap = s.tap ∧ t.pending = s.pending := by
  unfold On State.partnerToCopy
  simp

@[simp] theorem State_digestDiffers_frame (s : State) : On (State.digestDiffers s) fun t =>
    t.freeCtr = s.freeCtr ∧ t.mod.mode = s.mod.mode ∧ t.acc = s.acc ∧ t.img = s.img ∧ t.ixl = s.ixl ∧ t.sheets = s.sheets ∧ t.net =
    s.net ∧ t.fch = s.fch ∧ t.sup = s.sup ∧ t.tap = s.tap ∧ t.pending = s.pending ∧ SameIn (·.core) t s ∧ SameIn (·.clk) t s ∧
    SameIn (·.pwr) t s ∧ SameIn (·.tbs) t s ∧ SameIn (·.mmu) t s ∧ SameIn (·.dma) t s ∧ SameIn (·.arbE) t s ∧ SameIn (·.arbD) t s ∧
    SameIn (·.cvu) t s ∧ SameIn (·.perf) t s ∧ SameIn (·.rte) t s := by
  unfold On State.digestDiffers
  simp

@[simp] theorem State_judgeLevels_frame (s : State) : On (State.judgeLevels s) fun t =>
    t.freeCtr = s.freeCtr ∧ t.mod.mode = s.mod.mode ∧ t.acc = s.acc ∧ t.img = s.img ∧ t.ixl = s.ixl ∧ t.sheets = s.sheets ∧ t.net =
    s.net ∧ t.fch = s.fch ∧ t.sup = s.sup ∧ t.tap = s.tap ∧ t.pending = s.pending ∧ SameIn (·.core) t s ∧ SameIn (·.clk) t s ∧
    SameIn (·.pwr) t s ∧ SameIn (·.tbs) t s ∧ SameIn (·.mmu) t s ∧ SameIn (·.dma) t s ∧ SameIn (·.arbE) t s ∧ SameIn (·.arbD) t s ∧
    SameIn (·.cvu) t s ∧ SameIn (·.perf) t s ∧ SameIn (·.rte) t s := by
  unfold On State.judgeLevels
  dsimp only
  (repeat' split) <;> simp

@[simp] theorem State_enterOperate_frame (s : State) : On (State.enterOperate s) fun t =>
    t.freeCtr = s.freeCtr ∧ t.fch = s.fch ∧ t.tap = s.tap ∧ t.pending = s.pending ∧ SameIn (·.clk) t s ∧ SameIn (·.tbs) t s ∧
    SameIn (·.mmu) t s ∧ SameIn (·.dma) t s ∧ SameIn (·.arbE) t s ∧ SameIn (·.arbD) t s ∧ SameIn (·.cvu) t s ∧ SameIn (·.perf) t s := by
  unfold On State.enterOperate
  simp

@[simp] theorem State_sendPartner_frame (s : State) (type : ℕ) (body : List Byte) : On (State.sendPartner s type body) fun t =>
    t.freeCtr = s.freeCtr ∧ t.mod = s.mod ∧ t.lanes = s.lanes ∧ t.acc = s.acc ∧ t.img = s.img ∧ t.ixl = s.ixl ∧ t.sheets = s.sheets
    ∧ t.net = s.net ∧ t.fch = s.fch ∧ t.sup = s.sup ∧ t.host = s.host ∧ t.rcd = s.rcd ∧ t.tap = s.tap ∧ t.pending = s.pending := by
  unfold On State.sendPartner
  simp

@[simp] theorem State_sendControl_frame (s : State) (kind : ℕ) (body : List Byte) (done : Option Completion) : On (State.sendControl s
    kind body done) fun t =>
    t.freeCtr = s.freeCtr ∧ t.mod = s.mod ∧ t.lanes = s.lanes ∧ t.acc = s.acc ∧ t.img = s.img ∧ t.ixl = s.ixl ∧ t.sheets = s.sheets
    ∧ t.net = s.net ∧ t.fch = s.fch ∧ t.sup = s.sup ∧ t.host = s.host ∧ t.rcd = s.rcd ∧ t.tap = s.tap ∧ t.pending = s.pending := by
  unfold On State.sendControl
  simp

@[simp] theorem State_beginSwitchover_frame (s : State) (done : Option Completion) (safe : Bool) : On (State.beginSwitchover s done
    safe) fun t =>
    t.freeCtr = s.freeCtr ∧ t.mod = s.mod ∧ t.lanes = s.lanes ∧ t.acc = s.acc ∧ t.img = s.img ∧ t.ixl = s.ixl ∧ t.sheets = s.sheets
    ∧ t.net = s.net ∧ t.fch = s.fch ∧ t.sup = s.sup ∧ t.host = s.host ∧ t.rcd = s.rcd ∧ t.tap = s.tap ∧ t.pending = s.pending := by
  unfold On State.beginSwitchover
  simp

@[simp] theorem State_modTask_frame (s : State) (t : ℕ) (f : TaskSt → TaskSt) : On (State.modTask s t f) fun t =>
    t.freeCtr = s.freeCtr ∧ t.mod = s.mod ∧ t.lanes = s.lanes ∧ t.acc = s.acc ∧ t.img = s.img ∧ t.ixl = s.ixl ∧ t.net = s.net ∧
    t.fch = s.fch ∧ t.sup = s.sup ∧ t.host = s.host ∧ t.rcd = s.rcd ∧ t.plink = s.plink ∧ t.tap = s.tap ∧ t.pending = s.pending := by
  unfold On State.modTask
  simp

@[simp] theorem vinAppliedOp_frame (mv : ℕ) (s : State) : On (vinAppliedOp mv s) fun t =>
    t.freeCtr = s.freeCtr ∧ t.acc = s.acc ∧ t.img = s.img ∧ t.ixl = s.ixl ∧ t.sheets = s.sheets ∧ t.net = s.net ∧ t.fch = s.fch ∧
    t.sup = s.sup ∧ t.plink = s.plink ∧ t.tap = s.tap ∧ t.pending = s.pending ∧ SameIn (·.core) t s ∧ SameIn (·.clk) t s ∧ SameIn
    (·.pwr) t s ∧ SameIn (·.tbs) t s ∧ SameIn (·.mmu) t s ∧ SameIn (·.dma) t s ∧ SameIn (·.arbE) t s ∧ SameIn (·.arbD) t s ∧ SameIn
    (·.cvu) t s ∧ SameIn (·.perf) t s ∧ SameIn (·.rte) t s := by
  unfold On vinAppliedOp
  simp

@[simp] theorem vinRestoredOp_frame (mv : ℕ) (s : State) : On (vinRestoredOp mv s) fun t =>
    t.freeCtr = s.freeCtr ∧ t.mod.mode = s.mod.mode ∧ t.lanes = s.lanes ∧ t.acc = s.acc ∧ t.img = s.img ∧ t.ixl = s.ixl ∧ t.sheets
    = s.sheets ∧ t.net = s.net ∧ t.fch = s.fch ∧ t.sup = s.sup ∧ t.plink = s.plink ∧ t.tap = s.tap ∧ t.pending = s.pending := by
  unfold On vinRestoredOp
  dsimp only
  (repeat' split) <;> simp

@[simp] theorem inputCutOffOp_frame (mv : ℕ) (s : State) : On (inputCutOffOp mv s) fun t =>
    t.freeCtr = s.freeCtr ∧ t.mod.mode = s.mod.mode ∧ t.lanes = s.lanes ∧ t.acc = s.acc ∧ t.img = s.img ∧ t.ixl = s.ixl ∧ t.sheets
    = s.sheets ∧ t.net = s.net ∧ t.fch = s.fch ∧ t.sup = s.sup ∧ t.plink = s.plink ∧ t.tap = s.tap ∧ t.pending = s.pending := by
  unfold On inputCutOffOp
  dsimp only
  (repeat' split) <;> simp

@[simp] theorem inputCutOffClosedOp_frame (mv : ℕ) (s : State) : On (inputCutOffClosedOp mv s) fun t =>
    t.freeCtr = s.freeCtr ∧ t.mod.mode = s.mod.mode ∧ t.lanes = s.lanes ∧ t.acc = s.acc ∧ t.img = s.img ∧ t.ixl = s.ixl ∧ t.sheets
    = s.sheets ∧ t.net = s.net ∧ t.fch = s.fch ∧ t.sup = s.sup ∧ t.host = s.host ∧ t.rcd = s.rcd ∧ t.plink = s.plink ∧ t.tap =
    s.tap ∧ t.pending = s.pending := by
  unfold On inputCutOffClosedOp
  dsimp only
  (repeat' split) <;> simp

@[simp] theorem State_recordStrap_frame (s : State) (cause : ℕ) : On (State.recordStrap s cause) fun t =>
    t.freeCtr = s.freeCtr ∧ t.mod.mode = s.mod.mode ∧ t.acc = s.acc ∧ t.img = s.img ∧ t.ixl = s.ixl ∧ t.sheets = s.sheets ∧ t.net =
    s.net ∧ t.fch = s.fch ∧ t.sup = s.sup ∧ t.plink = s.plink ∧ t.tap = s.tap ∧ t.pending = s.pending ∧ SameIn (·.clk) t s ∧ SameIn
    (·.pwr) t s ∧ SameIn (·.tbs) t s ∧ SameIn (·.mmu) t s ∧ SameIn (·.dma) t s ∧ SameIn (·.arbE) t s ∧ SameIn (·.arbD) t s ∧ SameIn
    (·.cvu) t s ∧ SameIn (·.perf) t s ∧ SameIn (·.rte) t s := by
  unfold On State.recordStrap
  dsimp only
  (repeat' split) <;> simp

@[simp] theorem State_bootArbiters_frame (s : State) : On (State.bootArbiters s) fun t =>
    t.freeCtr = s.freeCtr ∧ t.mod = s.mod ∧ t.acc = s.acc ∧ t.img = s.img ∧ t.ixl = s.ixl ∧ t.sheets = s.sheets ∧ t.net = s.net ∧
    t.fch = s.fch ∧ t.sup = s.sup ∧ t.plink = s.plink ∧ t.tap = s.tap ∧ t.pending = s.pending ∧ SameIn (·.core) t s ∧ SameIn
    (·.clk) t s ∧ SameIn (·.pwr) t s ∧ SameIn (·.tbs) t s ∧ SameIn (·.dma) t s ∧ SameIn (·.cvu) t s ∧ SameIn (·.perf) t s ∧ SameIn
    (·.rte) t s := by
  unfold On State.bootArbiters
  simp

@[simp] theorem resetReleaseOp_frame (a : StrapSample) (b : StrapSample) (c : StrapSample) (s : State) : On (resetReleaseOp a b c s)
    fun t =>
    t.freeCtr = s.freeCtr ∧ t.acc = s.acc ∧ t.ixl = s.ixl ∧ t.sheets = s.sheets ∧ t.net = s.net ∧ t.fch = s.fch ∧ t.sup = s.sup ∧
    t.plink = s.plink ∧ t.tap = s.tap ∧ t.pending = s.pending ∧ SameIn (·.clk) t s ∧ SameIn (·.pwr) t s ∧ SameIn (·.tbs) t s ∧
    SameIn (·.dma) t s ∧ SameIn (·.cvu) t s ∧ SameIn (·.perf) t s ∧ SameIn (·.rte) t s := by
  unfold On resetReleaseOp
  simp

@[simp] theorem railFaultOp_frame (rail : Rail) (l : Lane) (mv : ℕ) (s : State) : On (railFaultOp rail l mv s) fun t =>
    t.freeCtr = s.freeCtr ∧ t.tap = s.tap ∧ t.pending = s.pending ∧ SameIn (·.tbs) t s ∧ SameIn (·.dma) t s ∧ SameIn (·.cvu) t s ∧
    SameIn (·.perf) t s ∧ SameIn (·.rte) t s := by
  unfold On railFaultOp
  dsimp only
  (repeat' split) <;> simp

@[simp] theorem State_recordClock_frame (s : State) (l : Lane) (event : ℕ) : On (State.recordClock s l event) fun t =>
    t.freeCtr = s.freeCtr ∧ t.mod = s.mod ∧ t.acc = s.acc ∧ t.img = s.img ∧ t.ixl = s.ixl ∧ t.sheets = s.sheets ∧ t.net = s.net ∧
    t.fch = s.fch ∧ t.sup = s.sup ∧ t.plink = s.plink ∧ t.tap = s.tap ∧ t.pending = s.pending ∧ SameIn (·.clk) t s ∧ SameIn (·.pwr)
    t s ∧ SameIn (·.tbs) t s ∧ SameIn (·.mmu) t s ∧ SameIn (·.dma) t s ∧ SameIn (·.arbE) t s ∧ SameIn (·.arbD) t s ∧ SameIn (·.cvu)
    t s ∧ SameIn (·.perf) t s ∧ SameIn (·.rte) t s := by
  unfold On State.recordClock
  simp

@[simp] theorem startInterlockOp_frame (l : Lane) (xt : Bool) (rc : Bool) (rails : Bool) (nref : ℕ) (s : State) : On (startInterlockOp
    l xt rc rails nref s) fun t =>
    t.freeCtr = s.freeCtr ∧ t.mod = s.mod ∧ t.img = s.img ∧ t.ixl = s.ixl ∧ t.sheets = s.sheets ∧ t.sup = s.sup ∧ t.plink = s.plink
    ∧ t.tap = s.tap ∧ t.pending = s.pending ∧ SameIn (·.tbs) t s ∧ SameIn (·.mmu) t s ∧ SameIn (·.dma) t s ∧ SameIn (·.arbE) t s ∧
    SameIn (·.arbD) t s ∧ SameIn (·.cvu) t s ∧ SameIn (·.perf) t s ∧ SameIn (·.rte) t s := by
  unfold On startInterlockOp
  simp

@[simp] theorem State_exchangeSlots_frame (s : State) : On (State.exchangeSlots s) fun t =>
    t.freeCtr = s.freeCtr ∧ t.mod = s.mod ∧ t.lanes = s.lanes ∧ t.acc = s.acc ∧ t.ixl = s.ixl ∧ t.sheets = s.sheets ∧ t.net = s.net
    ∧ t.fch = s.fch ∧ t.sup = s.sup ∧ t.host = s.host ∧ t.rcd = s.rcd ∧ t.plink = s.plink ∧ t.tap = s.tap ∧ t.pending = s.pending := by
  unfold On State.exchangeSlots
  simp

@[simp] theorem selftestCompleteOp_frame (tests : PerLane StartTest) (vrd : VrdCheck) (s : State) : On (selftestCompleteOp tests vrd s)
    fun t =>
    t.freeCtr = s.freeCtr ∧ t.tap = s.tap ∧ t.pending = s.pending ∧ SameIn (·.pwr) t s ∧ SameIn (·.tbs) t s ∧ SameIn (·.mmu) t s ∧
    SameIn (·.dma) t s ∧ SameIn (·.cvu) t s ∧ SameIn (·.perf) t s ∧ SameIn (·.rte) t s := by
  unfold On selftestCompleteOp
  simp

@[simp] theorem State_recordGovernor_frame (s : State) (l : Lane) (old : ℕ) (new : ℕ) (reason : ℕ) : On (State.recordGovernor s l old
    new reason) fun t =>
    t.freeCtr = s.freeCtr ∧ t.mod = s.mod ∧ t.acc = s.acc ∧ t.img = s.img ∧ t.ixl = s.ixl ∧ t.sheets = s.sheets ∧ t.net = s.net ∧
    t.fch = s.fch ∧ t.sup = s.sup ∧ t.plink = s.plink ∧ t.tap = s.tap ∧ t.pending = s.pending ∧ SameIn (·.clk) t s ∧ SameIn (·.pwr)
    t s ∧ SameIn (·.tbs) t s ∧ SameIn (·.mmu) t s ∧ SameIn (·.dma) t s ∧ SameIn (·.arbE) t s ∧ SameIn (·.arbD) t s ∧ SameIn (·.cvu)
    t s ∧ SameIn (·.perf) t s ∧ SameIn (·.rte) t s := by
  unfold On State.recordGovernor
  simp

@[simp] theorem State_startLevel_frame (s : State) (l : Lane) : On (State.startLevel s l) fun t =>
    t.freeCtr = s.freeCtr ∧ t.tap = s.tap ∧ t.pending = s.pending ∧ SameIn (·.tbs) t s ∧ SameIn (·.dma) t s ∧ SameIn (·.cvu) t s ∧
    SameIn (·.perf) t s ∧ SameIn (·.rte) t s := by
  unfold On State.startLevel
  dsimp only
  (repeat' split) <;> simp

@[simp] theorem State_applyChannels_frame (s : State) : On (State.applyChannels s) fun t =>
    t.freeCtr = s.freeCtr ∧ t.mod = s.mod ∧ t.lanes = s.lanes ∧ t.acc = s.acc ∧ t.img = s.img ∧ t.ixl = s.ixl ∧ t.sheets = s.sheets
    ∧ t.net = s.net ∧ t.sup = s.sup ∧ t.host = s.host ∧ t.rcd = s.rcd ∧ t.plink = s.plink ∧ t.tap = s.tap ∧ t.pending = s.pending := by
  unfold On State.applyChannels
  simp

@[simp] theorem imageCheckOp_frame (loadOk : LaneSet) (reloadOk : LaneSet) (s : State) : On (imageCheckOp loadOk reloadOk s) fun t =>
    t.freeCtr = s.freeCtr ∧ t.tap = s.tap ∧ t.pending = s.pending ∧ SameIn (·.tbs) t s ∧ SameIn (·.dma) t s ∧ SameIn (·.cvu) t s ∧
    SameIn (·.perf) t s ∧ SameIn (·.rte) t s := by
  unfold On imageCheckOp
  simp

@[simp] theorem accordFormedOp_frame (views : PerLane LaneSet) (s : State) : On (accordFormedOp views s) fun t =>
    t.freeCtr = s.freeCtr ∧ t.mod = s.mod ∧ t.img = s.img ∧ t.ixl = s.ixl ∧ t.sheets = s.sheets ∧ t.net = s.net ∧ t.fch = s.fch ∧
    t.sup = s.sup ∧ t.host = s.host ∧ t.rcd = s.rcd ∧ t.plink = s.plink ∧ t.tap = s.tap ∧ t.pending = s.pending ∧ SameIn (·.clk) t
    s ∧ SameIn (·.pwr) t s ∧ SameIn (·.tbs) t s ∧ SameIn (·.diag) t s ∧ SameIn (·.mmu) t s ∧ SameIn (·.dma) t s ∧ SameIn (·.arbE) t
    s ∧ SameIn (·.arbD) t s ∧ SameIn (·.cvu) t s ∧ SameIn (·.perf) t s ∧ SameIn (·.rte) t s := by
  unfold On accordFormedOp
  dsimp only
  (repeat' split) <;> simp

@[simp] theorem accordFormationTimeoutOp_frame (views : PerLane (PerLane LaneSet)) (s : State) : On (accordFormationTimeoutOp views s)
    fun t =>
    t.freeCtr = s.freeCtr ∧ t.mod = s.mod ∧ t.acc = s.acc ∧ t.img = s.img ∧ t.ixl = s.ixl ∧ t.sheets = s.sheets ∧ t.net = s.net ∧
    t.fch = s.fch ∧ t.sup = s.sup ∧ t.plink = s.plink ∧ t.tap = s.tap ∧ t.pending = s.pending ∧ SameIn (·.clk) t s ∧ SameIn (·.pwr)
    t s ∧ SameIn (·.tbs) t s ∧ SameIn (·.mmu) t s ∧ SameIn (·.dma) t s ∧ SameIn (·.arbE) t s ∧ SameIn (·.arbD) t s ∧ SameIn (·.cvu)
    t s ∧ SameIn (·.perf) t s ∧ SameIn (·.rte) t s := by
  unfold On accordFormationTimeoutOp
  simp

@[simp] theorem loadedConditionsMetOp_freeCtr_frame (s : State) : On (loadedConditionsMetOp s) fun t =>
    t.freeCtr = s.freeCtr := by
  unfold On loadedConditionsMetOp
  dsimp only
  (repeat' split) <;> simp

@[simp] theorem loadedConditionsMetOp_img_frame (s : State) : On (loadedConditionsMetOp s) fun t =>
    t.img = s.img := by
  unfold On loadedConditionsMetOp
  dsimp only
  (repeat' split) <;> simp

@[simp] theorem loadedConditionsMetOp_fch_frame (s : State) : On (loadedConditionsMetOp s) fun t =>
    t.fch = s.fch := by
  unfold On loadedConditionsMetOp
  dsimp only
  (repeat' split) <;> simp

@[simp] theorem loadedConditionsMetOp_tap_frame (s : State) : On (loadedConditionsMetOp s) fun t =>
    t.tap = s.tap := by
  unfold On loadedConditionsMetOp
  dsimp only
  (repeat' split) <;> simp

@[simp] theorem loadedConditionsMetOp_pending_frame (s : State) : On (loadedConditionsMetOp s) fun t =>
    t.pending = s.pending := by
  unfold On loadedConditionsMetOp
  dsimp only
  (repeat' split) <;> simp

@[simp] theorem integrationCompleteOp_frame (s : State) : On (integrationCompleteOp s) fun t =>
    t.freeCtr = s.freeCtr ∧ t.fch = s.fch ∧ t.tap = s.tap ∧ t.pending = s.pending ∧ SameIn (·.clk) t s ∧ SameIn (·.tbs) t s ∧
    SameIn (·.mmu) t s ∧ SameIn (·.dma) t s ∧ SameIn (·.arbE) t s ∧ SameIn (·.arbD) t s ∧ SameIn (·.cvu) t s ∧ SameIn (·.perf) t s := by
  unfold On integrationCompleteOp
  simp

@[simp] theorem degradedExpire_frame (s : State) : On (degradedExpire s) fun t =>
    t.freeCtr = s.freeCtr ∧ t.tap = s.tap ∧ t.pending = s.pending ∧ SameIn (·.pwr) t s ∧ SameIn (·.tbs) t s ∧ SameIn (·.mmu) t s ∧
    SameIn (·.dma) t s ∧ SameIn (·.cvu) t s ∧ SameIn (·.perf) t s ∧ SameIn (·.rte) t s := by
  unfold On degradedExpire
  simp

@[simp] theorem degradedRestoreOp_frame (s : State) : On (degradedRestoreOp s) fun t =>
    t.freeCtr = s.freeCtr ∧ t.mod.mode = s.mod.mode ∧ t.lanes = s.lanes ∧ t.acc = s.acc ∧ t.img = s.img ∧ t.ixl = s.ixl ∧ t.sheets
    = s.sheets ∧ t.net = s.net ∧ t.fch = s.fch ∧ t.sup = s.sup ∧ t.host = s.host ∧ t.rcd = s.rcd ∧ t.plink = s.plink ∧ t.tap =
    s.tap ∧ t.pending = s.pending := by
  unfold On degradedRestoreOp
  dsimp only
  (repeat' split) <;> simp

@[simp] theorem State_beginDormant_frame (s : State) : On (State.beginDormant s) fun t =>
    t.freeCtr = s.freeCtr ∧ t.acc = s.acc ∧ t.plink = s.plink ∧ t.tap = s.tap ∧ t.pending = s.pending ∧ SameIn (·.tbs) t s ∧ SameIn
    (·.mmu) t s ∧ SameIn (·.dma) t s ∧ SameIn (·.cvu) t s ∧ SameIn (·.perf) t s ∧ SameIn (·.rte) t s := by
  unfold On State.beginDormant
  simp

@[simp] theorem dormantEntryCompleteOp_freeCtr_frame (ms : ℕ) (s : State) : On (dormantEntryCompleteOp ms s) fun t =>
    t.freeCtr = s.freeCtr := by
  unfold On dormantEntryCompleteOp
  dsimp only
  (repeat' split) <;> simp

@[simp] theorem dormantEntryCompleteOp_acc_frame (ms : ℕ) (s : State) : On (dormantEntryCompleteOp ms s) fun t =>
    t.acc = s.acc := by
  unfold On dormantEntryCompleteOp
  dsimp only
  (repeat' split) <;> simp

@[simp] theorem dormantEntryCompleteOp_img_frame (ms : ℕ) (s : State) : On (dormantEntryCompleteOp ms s) fun t =>
    t.img = s.img := by
  unfold On dormantEntryCompleteOp
  dsimp only
  (repeat' split) <;> simp

@[simp] theorem dormantEntryCompleteOp_ixl_frame (ms : ℕ) (s : State) : On (dormantEntryCompleteOp ms s) fun t =>
    t.ixl = s.ixl := by
  unfold On dormantEntryCompleteOp
  dsimp only
  (repeat' split) <;> simp

@[simp] theorem dormantEntryCompleteOp_sheets_frame (ms : ℕ) (s : State) : On (dormantEntryCompleteOp ms s) fun t =>
    t.sheets = s.sheets := by
  unfold On dormantEntryCompleteOp
  dsimp only
  (repeat' split) <;> simp

@[simp] theorem dormantEntryCompleteOp_net_frame (ms : ℕ) (s : State) : On (dormantEntryCompleteOp ms s) fun t =>
    t.net = s.net := by
  unfold On dormantEntryCompleteOp
  dsimp only
  (repeat' split) <;> simp

@[simp] theorem dormantEntryCompleteOp_fch_frame (ms : ℕ) (s : State) : On (dormantEntryCompleteOp ms s) fun t =>
    t.fch = s.fch := by
  unfold On dormantEntryCompleteOp
  dsimp only
  (repeat' split) <;> simp

@[simp] theorem dormantEntryCompleteOp_sup_frame (ms : ℕ) (s : State) : On (dormantEntryCompleteOp ms s) fun t =>
    t.sup = s.sup := by
  unfold On dormantEntryCompleteOp
  dsimp only
  (repeat' split) <;> simp

@[simp] theorem dormantEntryCompleteOp_plink_frame (ms : ℕ) (s : State) : On (dormantEntryCompleteOp ms s) fun t =>
    t.plink = s.plink := by
  unfold On dormantEntryCompleteOp
  dsimp only
  (repeat' split) <;> simp

@[simp] theorem dormantEntryCompleteOp_tap_frame (ms : ℕ) (s : State) : On (dormantEntryCompleteOp ms s) fun t =>
    t.tap = s.tap := by
  unfold On dormantEntryCompleteOp
  dsimp only
  (repeat' split) <;> simp

@[simp] theorem dormantEntryCompleteOp_pending_frame (ms : ℕ) (s : State) : On (dormantEntryCompleteOp ms s) fun t =>
    t.pending = s.pending := by
  unfold On dormantEntryCompleteOp
  dsimp only
  (repeat' split) <;> simp

@[simp] theorem dormantEntryCompleteOp_mode_frame (ms : ℕ) (s : State) : On (dormantEntryCompleteOp ms s) fun t =>
    t.mod.mode = s.mod.mode := by
  unfold On dormantEntryCompleteOp
  dsimp only
  (repeat' split) <;> simp

@[simp] theorem wakeCompleteOp_freeCtr_frame (hashOk : LaneSet) (blocksOk : LaneSet) (formed : LaneSet) (s : State) : On
    (wakeCompleteOp hashOk blocksOk formed s) fun t =>
    t.freeCtr = s.freeCtr := by
  unfold On wakeCompleteOp
  dsimp only
  (repeat' split) <;> simp

@[simp] theorem wakeCompleteOp_tap_frame (hashOk : LaneSet) (blocksOk : LaneSet) (formed : LaneSet) (s : State) : On (wakeCompleteOp
    hashOk blocksOk formed s) fun t =>
    t.tap = s.tap := by
  unfold On wakeCompleteOp
  dsimp only
  (repeat' split) <;> simp

@[simp] theorem wakeCompleteOp_pending_frame (hashOk : LaneSet) (blocksOk : LaneSet) (formed : LaneSet) (s : State) : On
    (wakeCompleteOp hashOk blocksOk formed s) fun t =>
    t.pending = s.pending := by
  unfold On wakeCompleteOp
  dsimp only
  (repeat' split) <;> simp

@[simp] theorem State_edgeSelect_frame (s : State) : On (State.edgeSelect s) fun t =>
    t.freeCtr = s.freeCtr ∧ t.mod.mode = s.mod.mode ∧ t.acc = s.acc ∧ t.img = s.img ∧ t.ixl = s.ixl ∧ t.sheets = s.sheets ∧ t.net =
    s.net ∧ t.fch = s.fch ∧ t.sup = s.sup ∧ t.plink = s.plink ∧ t.tap = s.tap ∧ t.pending = s.pending ∧ SameIn (·.clk) t s ∧ SameIn
    (·.pwr) t s ∧ SameIn (·.tbs) t s ∧ SameIn (·.mmu) t s ∧ SameIn (·.dma) t s ∧ SameIn (·.arbE) t s ∧ SameIn (·.arbD) t s ∧ SameIn
    (·.cvu) t s ∧ SameIn (·.perf) t s ∧ SameIn (·.rte) t s := by
  unfold On State.edgeSelect
  dsimp only
  (repeat' split) <;> simp

@[simp] theorem State_failClock_frame (s : State) (l : Lane) : On (State.failClock s l) fun t =>
    t.freeCtr = s.freeCtr ∧ t.tap = s.tap ∧ t.pending = s.pending ∧ SameIn (·.pwr) t s ∧ SameIn (·.tbs) t s ∧ SameIn (·.dma) t s ∧
    SameIn (·.cvu) t s ∧ SameIn (·.perf) t s ∧ SameIn (·.rte) t s := by
  unfold On State.failClock
  simp

@[simp] theorem State_enterHold_frame (s : State) (l : Lane) : On (State.enterHold s l) fun t =>
    t.freeCtr = s.freeCtr ∧ t.tap = s.tap ∧ t.pending = s.pending ∧ SameIn (·.pwr) t s ∧ SameIn (·.tbs) t s ∧ SameIn (·.mmu) t s ∧
    SameIn (·.dma) t s ∧ SameIn (·.cvu) t s ∧ SameIn (·.perf) t s ∧ SameIn (·.rte) t s := by
  unfold On State.enterHold
  simp

@[simp] theorem State_clockTrip_frame (s : State) (l : Lane) : On (State.clockTrip s l) fun t =>
    t.freeCtr = s.freeCtr ∧ t.tap = s.tap ∧ t.pending = s.pending ∧ SameIn (·.pwr) t s ∧ SameIn (·.dma) t s ∧ SameIn (·.cvu) t s ∧
    SameIn (·.perf) t s ∧ SameIn (·.rte) t s := by
  unfold On State.clockTrip
  dsimp only
  (repeat' split) <;> simp

@[simp] theorem State_leaveHold_frame (s : State) (l : Lane) : On (State.leaveHold s l) fun t =>
    t.freeCtr = s.freeCtr ∧ t.mod = s.mod ∧ t.acc = s.acc ∧ t.img = s.img ∧ t.ixl = s.ixl ∧ t.sheets = s.sheets ∧ t.net = s.net ∧
    t.fch = s.fch ∧ t.sup = s.sup ∧ t.plink = s.plink ∧ t.tap = s.tap ∧ t.pending = s.pending ∧ SameIn (·.pwr) t s ∧ SameIn (·.mmu)
    t s ∧ SameIn (·.dma) t s ∧ SameIn (·.cvu) t s ∧ SameIn (·.perf) t s ∧ SameIn (·.rte) t s := by
  unfold On State.leaveHold
  simp

@[simp] theorem oscillatorStableOp_frame (l : Lane) (osc : Osc) (s : State) : On (oscillatorStableOp l osc s) fun t =>
    t.freeCtr = s.freeCtr ∧ t.mod = s.mod ∧ t.acc = s.acc ∧ t.img = s.img ∧ t.ixl = s.ixl ∧ t.sheets = s.sheets ∧ t.net = s.net ∧
    t.fch = s.fch ∧ t.sup = s.sup ∧ t.plink = s.plink ∧ t.tap = s.tap ∧ t.pending = s.pending ∧ SameIn (·.pwr) t s ∧ SameIn (·.mmu)
    t s ∧ SameIn (·.dma) t s ∧ SameIn (·.cvu) t s ∧ SameIn (·.perf) t s ∧ SameIn (·.rte) t s := by
  unfold On oscillatorStableOp
  dsimp only
  (repeat' split) <;> simp

@[simp] theorem oscillatorUnstableOp_frame (l : Lane) (osc : Osc) (s : State) : On (oscillatorUnstableOp l osc s) fun t =>
    t.freeCtr = s.freeCtr ∧ t.tap = s.tap ∧ t.pending = s.pending ∧ SameIn (·.pwr) t s ∧ SameIn (·.dma) t s ∧ SameIn (·.cvu) t s ∧
    SameIn (·.perf) t s ∧ SameIn (·.rte) t s := by
  unfold On oscillatorUnstableOp
  dsimp only
  (repeat' split) <;> simp

@[simp] theorem monitorWindowOp_frame (l : Lane) (count : ℕ) (s : State) : On (monitorWindowOp l count s) fun t =>
    t.freeCtr = s.freeCtr ∧ t.tap = s.tap ∧ t.pending = s.pending ∧ SameIn (·.pwr) t s ∧ SameIn (·.dma) t s ∧ SameIn (·.cvu) t s ∧
    SameIn (·.perf) t s ∧ SameIn (·.rte) t s := by
  unfold On monitorWindowOp
  simp

@[simp] theorem nrefUpdateOp_frame (l : Lane) (rcEdges : ℕ) (s : State) : On (nrefUpdateOp l rcEdges s) fun t =>
    t.freeCtr = s.freeCtr ∧ t.mod = s.mod ∧ t.acc = s.acc ∧ t.img = s.img ∧ t.ixl = s.ixl ∧ t.sheets = s.sheets ∧ t.net = s.net ∧
    t.fch = s.fch ∧ t.sup = s.sup ∧ t.host = s.host ∧ t.rcd = s.rcd ∧ t.plink = s.plink ∧ t.tap = s.tap ∧ t.pending = s.pending ∧
    SameIn (·.core) t s ∧ SameIn (·.pwr) t s ∧ SameIn (·.tbs) t s ∧ SameIn (·.diag) t s ∧ SameIn (·.mmu) t s ∧ SameIn (·.dma) t s ∧
    SameIn (·.arbE) t s ∧ SameIn (·.arbD) t s ∧ SameIn (·.cvu) t s ∧ SameIn (·.perf) t s ∧ SameIn (·.rte) t s := by
  unfold On nrefUpdateOp
  simp

@[simp] theorem sourceSwitchOp_frame (lane : Option Lane) (handshake : Bool) (s : State) : On (sourceSwitchOp lane handshake s) fun t
    =>
    t.freeCtr = s.freeCtr ∧ t.mod = s.mod ∧ t.acc = s.acc ∧ t.img = s.img ∧ t.ixl = s.ixl ∧ t.sheets = s.sheets ∧ t.net = s.net ∧
    t.fch = s.fch ∧ t.sup = s.sup ∧ t.plink = s.plink ∧ t.tap = s.tap ∧ t.pending = s.pending ∧ SameIn (·.pwr) t s ∧ SameIn (·.tbs)
    t s ∧ SameIn (·.mmu) t s ∧ SameIn (·.dma) t s ∧ SameIn (·.arbE) t s ∧ SameIn (·.arbD) t s ∧ SameIn (·.cvu) t s ∧ SameIn
    (·.perf) t s ∧ SameIn (·.rte) t s := by
  unfold On sourceSwitchOp
  dsimp only
  (repeat' split) <;> simp

@[simp] theorem rcRestartTimeoutOp_frame (l : Lane) (s : State) : On (rcRestartTimeoutOp l s) fun t =>
    t.freeCtr = s.freeCtr ∧ t.mod = s.mod ∧ t.acc = s.acc ∧ t.img = s.img ∧ t.ixl = s.ixl ∧ t.sheets = s.sheets ∧ t.net = s.net ∧
    t.fch = s.fch ∧ t.sup = s.sup ∧ t.host = s.host ∧ t.rcd = s.rcd ∧ t.plink = s.plink ∧ t.tap = s.tap ∧ t.pending = s.pending ∧
    SameIn (·.core) t s ∧ SameIn (·.pwr) t s ∧ SameIn (·.tbs) t s ∧ SameIn (·.diag) t s ∧ SameIn (·.mmu) t s ∧ SameIn (·.dma) t s ∧
    SameIn (·.arbE) t s ∧ SameIn (·.arbD) t s ∧ SameIn (·.cvu) t s ∧ SameIn (·.perf) t s ∧ SameIn (·.rte) t s := by
  unfold On rcRestartTimeoutOp
  simp

@[simp] theorem holdTimeoutOp_frame (l : Lane) (s : State) : On (holdTimeoutOp l s) fun t =>
    t.freeCtr = s.freeCtr ∧ t.mod.mode = s.mod.mode ∧ t.img = s.img ∧ t.ixl = s.ixl ∧ t.sheets = s.sheets ∧ t.sup = s.sup ∧ t.plink
    = s.plink ∧ t.tap = s.tap ∧ t.pending = s.pending ∧ SameIn (·.clk) t s ∧ SameIn (·.pwr) t s ∧ SameIn (·.tbs) t s ∧ SameIn
    (·.mmu) t s ∧ SameIn (·.dma) t s ∧ SameIn (·.arbE) t s ∧ SameIn (·.arbD) t s ∧ SameIn (·.cvu) t s ∧ SameIn (·.perf) t s ∧
    SameIn (·.rte) t s := by
  unfold On holdTimeoutOp
  dsimp only
  (repeat' split) <;> simp

@[simp] theorem rateAcquisitionOp_frame (l : Lane) (drifts : List ℤ) (s : State) : On (rateAcquisitionOp l drifts s) fun t =>
    t.freeCtr = s.freeCtr ∧ t.mod = s.mod ∧ t.acc = s.acc ∧ t.img = s.img ∧ t.ixl = s.ixl ∧ t.sheets = s.sheets ∧ t.net = s.net ∧
    t.fch = s.fch ∧ t.sup = s.sup ∧ t.host = s.host ∧ t.rcd = s.rcd ∧ t.plink = s.plink ∧ t.tap = s.tap ∧ t.pending = s.pending ∧
    SameIn (·.core) t s ∧ SameIn (·.clk) t s ∧ SameIn (·.pwr) t s ∧ SameIn (·.diag) t s ∧ SameIn (·.mmu) t s ∧ SameIn (·.dma) t s ∧
    SameIn (·.arbE) t s ∧ SameIn (·.arbD) t s ∧ SameIn (·.cvu) t s ∧ SameIn (·.perf) t s ∧ SameIn (·.rte) t s := by
  unfold On rateAcquisitionOp
  simp

@[simp] theorem stallOp_frame (l : Lane) (crossing : ℕ) (addr : BitVec 36) (s : State) : On (stallOp l crossing addr s) fun t =>
    t.freeCtr = s.freeCtr ∧ t.tap = s.tap ∧ t.pending = s.pending ∧ SameIn (·.pwr) t s ∧ SameIn (·.tbs) t s ∧ SameIn (·.dma) t s ∧
    SameIn (·.cvu) t s ∧ SameIn (·.perf) t s ∧ SameIn (·.rte) t s := by
  unfold On stallOp
  simp

@[simp] theorem State_beginStep_frame (s : State) (l : Lane) (level : ℕ) (reason : ℕ) : On (State.beginStep s l level reason) fun t =>
    t.freeCtr = s.freeCtr ∧ t.mod = s.mod ∧ t.acc = s.acc ∧ t.img = s.img ∧ t.ixl = s.ixl ∧ t.sheets = s.sheets ∧ t.net = s.net ∧
    t.fch = s.fch ∧ t.sup = s.sup ∧ t.host = s.host ∧ t.rcd = s.rcd ∧ t.plink = s.plink ∧ t.tap = s.tap ∧ t.pending = s.pending ∧
    SameIn (·.core) t s ∧ SameIn (·.clk) t s ∧ SameIn (·.tbs) t s ∧ SameIn (·.diag) t s ∧ SameIn (·.mmu) t s ∧ SameIn (·.dma) t s ∧
    SameIn (·.arbE) t s ∧ SameIn (·.arbD) t s ∧ SameIn (·.cvu) t s ∧ SameIn (·.perf) t s ∧ SameIn (·.rte) t s := by
  unfold On State.beginStep
  simp

@[simp] theorem State_stepUp_frame (s : State) (l : Lane) : On (State.stepUp s l) fun t =>
    t.freeCtr = s.freeCtr ∧ t.mod = s.mod ∧ t.acc = s.acc ∧ t.img = s.img ∧ t.ixl = s.ixl ∧ t.sheets = s.sheets ∧ t.net = s.net ∧
    t.fch = s.fch ∧ t.sup = s.sup ∧ t.host = s.host ∧ t.rcd = s.rcd ∧ t.plink = s.plink ∧ t.tap = s.tap ∧ t.pending = s.pending ∧
    SameIn (·.core) t s ∧ SameIn (·.clk) t s ∧ SameIn (·.tbs) t s ∧ SameIn (·.diag) t s ∧ SameIn (·.mmu) t s ∧ SameIn (·.dma) t s ∧
    SameIn (·.arbE) t s ∧ SameIn (·.arbD) t s ∧ SameIn (·.cvu) t s ∧ SameIn (·.perf) t s ∧ SameIn (·.rte) t s := by
  unfold On State.stepUp
  simp

@[simp] theorem stepDownOp_frame (l : Lane) (s : State) : On (stepDownOp l s) fun t =>
    t.freeCtr = s.freeCtr ∧ t.mod = s.mod ∧ t.acc = s.acc ∧ t.img = s.img ∧ t.ixl = s.ixl ∧ t.sheets = s.sheets ∧ t.net = s.net ∧
    t.fch = s.fch ∧ t.sup = s.sup ∧ t.host = s.host ∧ t.rcd = s.rcd ∧ t.plink = s.plink ∧ t.tap = s.tap ∧ t.pending = s.pending ∧
    SameIn (·.core) t s ∧ SameIn (·.clk) t s ∧ SameIn (·.tbs) t s ∧ SameIn (·.diag) t s ∧ SameIn (·.mmu) t s ∧ SameIn (·.dma) t s ∧
    SameIn (·.arbE) t s ∧ SameIn (·.arbD) t s ∧ SameIn (·.cvu) t s ∧ SameIn (·.perf) t s ∧ SameIn (·.rte) t s := by
  unfold On stepDownOp
  simp

@[simp] theorem stepCompleteOp_frame (l : Lane) (s : State) : On (stepCompleteOp l s) fun t =>
    t.freeCtr = s.freeCtr ∧ t.mod = s.mod ∧ t.acc = s.acc ∧ t.img = s.img ∧ t.ixl = s.ixl ∧ t.sheets = s.sheets ∧ t.net = s.net ∧
    t.fch = s.fch ∧ t.sup = s.sup ∧ t.plink = s.plink ∧ t.tap = s.tap ∧ t.pending = s.pending ∧ SameIn (·.clk) t s ∧ SameIn (·.tbs)
    t s ∧ SameIn (·.mmu) t s ∧ SameIn (·.dma) t s ∧ SameIn (·.arbE) t s ∧ SameIn (·.arbD) t s ∧ SameIn (·.cvu) t s ∧ SameIn
    (·.perf) t s ∧ SameIn (·.rte) t s := by
  unfold On stepCompleteOp
  dsimp only
  (repeat' split) <;> simp

@[simp] theorem railGoodTimeoutOp_frame (l : Lane) (s : State) : On (railGoodTimeoutOp l s) fun t =>
    t.freeCtr = s.freeCtr ∧ t.tap = s.tap ∧ t.pending = s.pending ∧ SameIn (·.tbs) t s ∧ SameIn (·.dma) t s ∧ SameIn (·.cvu) t s ∧
    SameIn (·.perf) t s ∧ SameIn (·.rte) t s := by
  unfold On railGoodTimeoutOp
  dsimp only
  (repeat' split) <;> simp

@[simp] theorem xresetOp_frame (l : Lane) (value : Word) (s : State) : On (xresetOp l value s) fun t =>
    t.freeCtr = s.freeCtr ∧ t.mod = s.mod ∧ t.acc = s.acc ∧ t.img = s.img ∧ t.ixl = s.ixl ∧ t.sheets = s.sheets ∧ t.net = s.net ∧
    t.fch = s.fch ∧ t.sup = s.sup ∧ t.host = s.host ∧ t.rcd = s.rcd ∧ t.plink = s.plink ∧ t.tap = s.tap ∧ t.pending = s.pending ∧
    SameIn (·.core) t s ∧ SameIn (·.pwr) t s ∧ SameIn (·.tbs) t s ∧ SameIn (·.diag) t s ∧ SameIn (·.mmu) t s ∧ SameIn (·.dma) t s ∧
    SameIn (·.arbE) t s ∧ SameIn (·.arbD) t s ∧ SameIn (·.cvu) t s ∧ SameIn (·.perf) t s ∧ SameIn (·.rte) t s := by
  unfold On xresetOp
  simp

@[simp] theorem gateWriteOp_frame (l : Lane) (value : Word) (s : State) : On (gateWriteOp l value s) fun t =>
    t.freeCtr = s.freeCtr ∧ t.mod = s.mod ∧ t.acc = s.acc ∧ t.img = s.img ∧ t.ixl = s.ixl ∧ t.sheets = s.sheets ∧ t.net = s.net ∧
    t.fch = s.fch ∧ t.sup = s.sup ∧ t.plink = s.plink ∧ t.tap = s.tap ∧ t.pending = s.pending ∧ SameIn (·.pwr) t s ∧ SameIn (·.tbs)
    t s ∧ SameIn (·.mmu) t s ∧ SameIn (·.dma) t s ∧ SameIn (·.arbE) t s ∧ SameIn (·.arbD) t s ∧ SameIn (·.cvu) t s ∧ SameIn
    (·.perf) t s ∧ SameIn (·.rte) t s := by
  unfold On gateWriteOp
  simp

@[simp] theorem laneTickOp_frame (l : Lane) (health : Byte) (work : ℕ) (marginUs : ℕ) (s : State) : On (laneTickOp l health work
    marginUs s) fun t =>
    t.mod = s.mod ∧ t.acc = s.acc ∧ t.img = s.img ∧ t.ixl = s.ixl ∧ t.sheets = s.sheets ∧ t.net = s.net ∧ t.fch = s.fch ∧ t.sup =
    s.sup ∧ t.host = s.host ∧ t.rcd = s.rcd ∧ t.plink = s.plink ∧ t.tap = s.tap ∧ t.pending = s.pending ∧ SameIn (·.clk) t s ∧
    SameIn (·.pwr) t s ∧ SameIn (·.tbs) t s ∧ SameIn (·.diag) t s ∧ SameIn (·.mmu) t s ∧ SameIn (·.dma) t s ∧ SameIn (·.arbE) t s ∧
    SameIn (·.arbD) t s ∧ SameIn (·.cvu) t s ∧ SameIn (·.rte) t s := by
  unfold On laneTickOp
  dsimp only
  (repeat' split) <;> simp

@[simp] theorem State_overrun_frame (s : State) (l : Lane) : On (State.overrun s l) fun t =>
    t.freeCtr = s.freeCtr ∧ t.tap = s.tap ∧ t.pending = s.pending ∧ SameIn (·.pwr) t s ∧ SameIn (·.tbs) t s ∧ SameIn (·.dma) t s ∧
    SameIn (·.cvu) t s ∧ SameIn (·.perf) t s ∧ SameIn (·.rte) t s := by
  unfold On State.overrun
  simp

@[simp] theorem tickDeadlineOp_frame (l : Lane) (s : State) : On (tickDeadlineOp l s) fun t =>
    t.freeCtr = s.freeCtr ∧ t.tap = s.tap ∧ t.pending = s.pending ∧ SameIn (·.pwr) t s ∧ SameIn (·.tbs) t s ∧ SameIn (·.dma) t s ∧
    SameIn (·.cvu) t s ∧ SameIn (·.perf) t s ∧ SameIn (·.rte) t s := by
  unfold On tickDeadlineOp
  simp

@[simp] theorem State_handOver_frame (s : State) : On (State.handOver s) fun t =>
    t.freeCtr = s.freeCtr ∧ t.mod = s.mod ∧ t.lanes = s.lanes ∧ t.acc = s.acc ∧ t.img = s.img ∧ t.ixl = s.ixl ∧ t.sheets = s.sheets
    ∧ t.net = s.net ∧ t.sup = s.sup ∧ t.host = s.host ∧ t.rcd = s.rcd ∧ t.plink = s.plink ∧ t.tap = s.tap ∧ t.pending = s.pending := by
  unfold On State.handOver
  simp

@[simp] theorem State_applyPerf_frame (s : State) : On (State.applyPerf s) fun t =>
    t.freeCtr = s.freeCtr ∧ t.mod = s.mod ∧ t.acc = s.acc ∧ t.img = s.img ∧ t.ixl = s.ixl ∧ t.sheets = s.sheets ∧ t.net = s.net ∧
    t.fch = s.fch ∧ t.sup = s.sup ∧ t.rcd = s.rcd ∧ t.plink = s.plink ∧ t.tap = s.tap ∧ t.pending = s.pending ∧ SameIn (·.core) t s
    ∧ SameIn (·.clk) t s ∧ SameIn (·.pwr) t s ∧ SameIn (·.tbs) t s ∧ SameIn (·.diag) t s ∧ SameIn (·.mmu) t s ∧ SameIn (·.dma) t s
    ∧ SameIn (·.arbE) t s ∧ SameIn (·.arbD) t s ∧ SameIn (·.cvu) t s ∧ SameIn (·.rte) t s := by
  unfold On State.applyPerf
  simp

@[simp] theorem State_passTick_frame (s : State) : On (State.passTick s) fun t =>
    t.freeCtr = s.freeCtr ∧ t.mod.mode = s.mod.mode ∧ t.acc = s.acc ∧ t.img = s.img ∧ t.ixl = s.ixl ∧ t.sheets = s.sheets ∧ t.net =
    s.net ∧ t.fch = s.fch ∧ t.sup = s.sup ∧ t.host = s.host ∧ t.tap = s.tap ∧ t.pending = s.pending ∧ SameIn (·.core) t s ∧ SameIn
    (·.clk) t s ∧ SameIn (·.tbs) t s ∧ SameIn (·.diag) t s ∧ SameIn (·.mmu) t s ∧ SameIn (·.dma) t s ∧ SameIn (·.arbE) t s ∧ SameIn
    (·.arbD) t s ∧ SameIn (·.cvu) t s ∧ SameIn (·.perf) t s ∧ SameIn (·.rte) t s := by
  unfold On State.passTick
  simp

@[simp] theorem State_formTick_frame (s : State) (table : PerLane LaneSet) (clock : PerLane (BitVec 64)) : On (State.formTick s table
    clock) fun t =>
    t.freeCtr = s.freeCtr ∧ t.mod = s.mod ∧ t.img = s.img ∧ t.ixl = s.ixl ∧ t.sheets = s.sheets ∧ t.net = s.net ∧ t.fch = s.fch ∧
    t.sup = s.sup ∧ t.host = s.host ∧ t.rcd = s.rcd ∧ t.plink = s.plink ∧ t.tap = s.tap ∧ t.pending = s.pending ∧ SameIn (·.clk) t
    s ∧ SameIn (·.pwr) t s ∧ SameIn (·.tbs) t s ∧ SameIn (·.diag) t s ∧ SameIn (·.mmu) t s ∧ SameIn (·.dma) t s ∧ SameIn (·.arbE) t
    s ∧ SameIn (·.arbD) t s ∧ SameIn (·.cvu) t s ∧ SameIn (·.perf) t s ∧ SameIn (·.rte) t s := by
  unfold On State.formTick
  simp

@[simp] theorem State_heartbeats_frame (s : State) : On (State.heartbeats s) fun t =>
    t.freeCtr = s.freeCtr ∧ t.mod = s.mod ∧ t.lanes = s.lanes ∧ t.acc = s.acc ∧ t.img = s.img ∧ t.ixl = s.ixl ∧ t.sheets = s.sheets
    ∧ t.net = s.net ∧ t.fch = s.fch ∧ t.sup = s.sup ∧ t.host = s.host ∧ t.rcd = s.rcd ∧ t.tap = s.tap ∧ t.pending = s.pending := by
  unfold On State.heartbeats
  simp

@[simp] theorem State_rejoin_frame (s : State) (l : Lane) : On (State.rejoin s l) fun t =>
    t.freeCtr = s.freeCtr ∧ t.mod = s.mod ∧ t.img = s.img ∧ t.ixl = s.ixl ∧ t.sheets = s.sheets ∧ t.net = s.net ∧ t.fch = s.fch ∧
    t.sup = s.sup ∧ t.plink = s.plink ∧ t.tap = s.tap ∧ t.pending = s.pending ∧ SameIn (·.clk) t s ∧ SameIn (·.pwr) t s ∧ SameIn
    (·.tbs) t s ∧ SameIn (·.mmu) t s ∧ SameIn (·.dma) t s ∧ SameIn (·.arbE) t s ∧ SameIn (·.arbD) t s ∧ SameIn (·.cvu) t s ∧ SameIn
    (·.perf) t s ∧ SameIn (·.rte) t s := by
  unfold On State.rejoin
  simp

@[simp] theorem State_tick0_freeCtr_frame (s : State) (clock : PerLane (BitVec 64)) : On (State.tick0 s clock) fun t =>
    t.freeCtr = s.freeCtr := by
  unfold On State.tick0
  dsimp only
  (repeat' split) <;> simp

@[simp] theorem State_tick0_tap_frame (s : State) (clock : PerLane (BitVec 64)) : On (State.tick0 s clock) fun t =>
    t.tap = s.tap := by
  unfold On State.tick0
  dsimp only
  (repeat' split) <;> simp

@[simp] theorem State_tick0_pending_frame (s : State) (clock : PerLane (BitVec 64)) : On (State.tick0 s clock) fun t =>
    t.pending = s.pending := by
  unfold On State.tick0
  dsimp only
  (repeat' split) <;> simp

@[simp] theorem accordMessageOp_frame (receiver : Lane) (sender : Lane) (kind : AccordKind) (bytes : List Byte) (s : State) : On
    (accordMessageOp receiver sender kind bytes s) fun t =>
    t.freeCtr = s.freeCtr ∧ t.mod = s.mod ∧ t.img = s.img ∧ t.ixl = s.ixl ∧ t.sheets = s.sheets ∧ t.net = s.net ∧ t.fch = s.fch ∧
    t.sup = s.sup ∧ t.host = s.host ∧ t.rcd = s.rcd ∧ t.plink = s.plink ∧ t.tap = s.tap ∧ t.pending = s.pending ∧ SameIn (·.clk) t
    s ∧ SameIn (·.pwr) t s ∧ SameIn (·.tbs) t s ∧ SameIn (·.diag) t s ∧ SameIn (·.mmu) t s ∧ SameIn (·.dma) t s ∧ SameIn (·.arbE) t
    s ∧ SameIn (·.arbD) t s ∧ SameIn (·.cvu) t s ∧ SameIn (·.perf) t s ∧ SameIn (·.rte) t s := by
  unfold On accordMessageOp
  simp

@[simp] theorem State_dropLost_frame (s : State) (kinds : List AccordKind) : On (State.dropLost s kinds) fun t =>
    t.freeCtr = s.freeCtr ∧ t.mod = s.mod ∧ t.acc = s.acc ∧ t.img = s.img ∧ t.ixl = s.ixl ∧ t.sheets = s.sheets ∧ t.net = s.net ∧
    t.fch = s.fch ∧ t.sup = s.sup ∧ t.host = s.host ∧ t.rcd = s.rcd ∧ t.plink = s.plink ∧ t.tap = s.tap ∧ t.pending = s.pending ∧
    SameIn (·.clk) t s ∧ SameIn (·.pwr) t s ∧ SameIn (·.tbs) t s ∧ SameIn (·.diag) t s ∧ SameIn (·.mmu) t s ∧ SameIn (·.dma) t s ∧
    SameIn (·.arbE) t s ∧ SameIn (·.arbD) t s ∧ SameIn (·.cvu) t s ∧ SameIn (·.perf) t s ∧ SameIn (·.rte) t s := by
  unfold On State.dropLost
  simp

@[simp] theorem proposalSendOp_frame (l : Lane) (s : State) : On (proposalSendOp l s) fun t =>
    t.mod = s.mod ∧ t.img = s.img ∧ t.ixl = s.ixl ∧ t.sheets = s.sheets ∧ t.net = s.net ∧ t.fch = s.fch ∧ t.sup = s.sup ∧ t.host =
    s.host ∧ t.rcd = s.rcd ∧ t.plink = s.plink ∧ t.tap = s.tap ∧ t.pending = s.pending ∧ SameIn (·.clk) t s ∧ SameIn (·.pwr) t s ∧
    SameIn (·.tbs) t s ∧ SameIn (·.diag) t s ∧ SameIn (·.mmu) t s ∧ SameIn (·.dma) t s ∧ SameIn (·.arbE) t s ∧ SameIn (·.arbD) t s
    ∧ SameIn (·.cvu) t s ∧ SameIn (·.perf) t s ∧ SameIn (·.rte) t s := by
  unfold On proposalSendOp
  dsimp only
  (repeat' split) <;> simp

@[simp] theorem State_rxMismatch_frame (s : State) (l : Lane) (x : ℕ × ℕ × ℕ) : On (State.rxMismatch s l x) fun t =>
    t.freeCtr = s.freeCtr ∧ t.tap = s.tap ∧ t.pending = s.pending ∧ SameIn (·.pwr) t s ∧ SameIn (·.tbs) t s ∧ SameIn (·.dma) t s ∧
    SameIn (·.cvu) t s ∧ SameIn (·.perf) t s ∧ SameIn (·.rte) t s := by
  unfold On State.rxMismatch
  dsimp only
  (repeat' split) <;> simp

@[simp] theorem State_senseCheck_frame (s : State) (a : Accorded) (p : Proposal) : On (State.senseCheck s a p) fun t =>
    t.freeCtr = s.freeCtr ∧ t.mod = s.mod ∧ t.img = s.img ∧ t.ixl = s.ixl ∧ t.sheets = s.sheets ∧ t.net = s.net ∧ t.sup = s.sup ∧
    t.plink = s.plink ∧ t.tap = s.tap ∧ t.pending = s.pending ∧ SameIn (·.clk) t s ∧ SameIn (·.pwr) t s ∧ SameIn (·.tbs) t s ∧
    SameIn (·.mmu) t s ∧ SameIn (·.dma) t s ∧ SameIn (·.arbE) t s ∧ SameIn (·.arbD) t s ∧ SameIn (·.cvu) t s ∧ SameIn (·.perf) t s
    ∧ SameIn (·.rte) t s := by
  unfold On State.senseCheck
  simp

@[simp] theorem fetchTimeoutOp_frame (l : Lane) (s : State) : On (fetchTimeoutOp l s) fun t =>
    t.freeCtr = s.freeCtr ∧ t.tap = s.tap ∧ t.pending = s.pending ∧ SameIn (·.pwr) t s ∧ SameIn (·.tbs) t s ∧ SameIn (·.dma) t s ∧
    SameIn (·.cvu) t s ∧ SameIn (·.perf) t s ∧ SameIn (·.rte) t s := by
  unfold On fetchTimeoutOp
  simp

@[simp] theorem State_ageNodes_frame (s : State) (a : Accorded) : On (State.ageNodes s a) fun t =>
    t.freeCtr = s.freeCtr ∧ t.mod = s.mod ∧ t.lanes = s.lanes ∧ t.acc = s.acc ∧ t.img = s.img ∧ t.ixl = s.ixl ∧ t.sheets = s.sheets
    ∧ t.fch = s.fch ∧ t.sup = s.sup ∧ t.host = s.host ∧ t.rcd = s.rcd ∧ t.plink = s.plink ∧ t.tap = s.tap ∧ t.pending = s.pending := by
  unfold On State.ageNodes
  simp

@[simp] theorem State_countLone_frame (s : State) (a : Accorded) : On (State.countLone s a) fun t =>
    t.freeCtr = s.freeCtr ∧ t.mod = s.mod ∧ t.lanes = s.lanes ∧ t.img = s.img ∧ t.ixl = s.ixl ∧ t.sheets = s.sheets ∧ t.net = s.net
    ∧ t.fch = s.fch ∧ t.sup = s.sup ∧ t.host = s.host ∧ t.rcd = s.rcd ∧ t.plink = s.plink ∧ t.tap = s.tap ∧ t.pending = s.pending := by
  unfold On State.countLone
  simp

@[simp] theorem State_takeAccorded_frame (s : State) (a : Accorded) : On (State.takeAccorded s a) fun t =>
    t.freeCtr = s.freeCtr ∧ t.mod = s.mod ∧ t.lanes = s.lanes ∧ t.acc = s.acc ∧ t.img = s.img ∧ t.ixl = s.ixl ∧ t.sheets = s.sheets
    ∧ t.net = s.net ∧ t.fch = s.fch ∧ t.sup = s.sup ∧ t.rcd = s.rcd ∧ t.plink = s.plink ∧ t.tap = s.tap ∧ t.pending = s.pending := by
  unfold On State.takeAccorded
  simp

@[simp] theorem State_sendBlock_frame (s : State) (before : Tab Frame) (a : Accorded) : On (State.sendBlock s before a) fun t =>
    t.freeCtr = s.freeCtr ∧ t.mod = s.mod ∧ t.lanes = s.lanes ∧ t.acc = s.acc ∧ t.img = s.img ∧ t.ixl = s.ixl ∧ t.sheets = s.sheets
    ∧ t.net = s.net ∧ t.fch = s.fch ∧ t.sup = s.sup ∧ t.host = s.host ∧ t.rcd = s.rcd ∧ t.tap = s.tap ∧ t.pending = s.pending := by
  unfold On State.sendBlock
  dsimp only
  (repeat' split) <;> simp

@[simp] theorem State_tenderInput_frame (s : State) (a : Accorded) : On (State.tenderInput s a) fun t =>
    t.freeCtr = s.freeCtr ∧ t.mod.mode = s.mod.mode ∧ t.acc = s.acc ∧ t.img = s.img ∧ t.ixl = s.ixl ∧ t.sheets = s.sheets ∧ t.net =
    s.net ∧ t.fch = s.fch ∧ t.sup = s.sup ∧ t.tap = s.tap ∧ t.pending = s.pending ∧ SameIn (·.core) t s ∧ SameIn (·.clk) t s ∧
    SameIn (·.pwr) t s ∧ SameIn (·.tbs) t s ∧ SameIn (·.mmu) t s ∧ SameIn (·.dma) t s ∧ SameIn (·.arbE) t s ∧ SameIn (·.arbD) t s ∧
    SameIn (·.cvu) t s ∧ SameIn (·.perf) t s ∧ SameIn (·.rte) t s := by
  unfold On State.tenderInput
  dsimp only
  (repeat' split) <;> simp

@[simp] theorem State_closeWith_img_frame (s : State) (v : LaneSet) (a : Accorded) (units : ℕ) : On (State.closeWith s v a units) fun t
    =>
    t.img = s.img := by
  unfold On State.closeWith
  dsimp only
  (repeat' split) <;> simp

@[simp] theorem State_closeWith_fch_frame (s : State) (v : LaneSet) (a : Accorded) (units : ℕ) : On (State.closeWith s v a units) fun t
    =>
    t.fch = s.fch := by
  unfold On State.closeWith
  dsimp only
  (repeat' split) <;> simp

@[simp] theorem State_closeWith_tap_frame (s : State) (v : LaneSet) (a : Accorded) (units : ℕ) : On (State.closeWith s v a units) fun t
    =>
    t.tap = s.tap := by
  unfold On State.closeWith
  dsimp only
  (repeat' split) <;> simp

@[simp] theorem State_closeWith_pending_frame (s : State) (v : LaneSet) (a : Accorded) (units : ℕ) : On (State.closeWith s v a units)
    fun t =>
    t.pending = s.pending := by
  unfold On State.closeWith
  dsimp only
  (repeat' split) <;> simp

@[simp] theorem State_closeWith_mode_frame (s : State) (v : LaneSet) (a : Accorded) (units : ℕ) : On (State.closeWith s v a units) fun
    t =>
    t.mod.mode = s.mod.mode := by
  unfold On State.closeWith
  dsimp only
  (repeat' split) <;> simp

@[simp] theorem inputAccordOp_tap_frame (sent : LaneSet) (wrong : PerLane (BitVec 64)) (units : ℕ) (s : State) : On (inputAccordOp sent
    wrong units s) fun t =>
    t.tap = s.tap := by
  unfold On inputAccordOp
  dsimp only
  (repeat' split) <;> simp

@[simp] theorem inputAccordOp_pending_frame (sent : LaneSet) (wrong : PerLane (BitVec 64)) (units : ℕ) (s : State) : On (inputAccordOp
    sent wrong units s) fun t =>
    t.pending = s.pending := by
  unfold On inputAccordOp
  dsimp only
  (repeat' split) <;> simp

@[simp] theorem commandUnaccordedOp_frame (cmd : CmdRef) (s : State) : On (commandUnaccordedOp cmd s) fun t =>
    t.freeCtr = s.freeCtr ∧ t.mod = s.mod ∧ t.img = s.img ∧ t.ixl = s.ixl ∧ t.sheets = s.sheets ∧ t.net = s.net ∧ t.fch = s.fch ∧
    t.sup = s.sup ∧ t.plink = s.plink ∧ t.tap = s.tap ∧ t.pending = s.pending ∧ SameIn (·.core) t s ∧ SameIn (·.clk) t s ∧ SameIn
    (·.pwr) t s ∧ SameIn (·.tbs) t s ∧ SameIn (·.mmu) t s ∧ SameIn (·.dma) t s ∧ SameIn (·.arbE) t s ∧ SameIn (·.arbD) t s ∧ SameIn
    (·.cvu) t s ∧ SameIn (·.perf) t s ∧ SameIn (·.rte) t s := by
  unfold On commandUnaccordedOp
  dsimp only
  (repeat' split) <;> simp

@[simp] theorem State_forceRelease_freeCtr_frame (s : State) (l : Lane) (p : MemPort) (kind : ℕ) : On (State.forceRelease s l p kind)
    fun t =>
    t.freeCtr = s.freeCtr := by
  unfold On State.forceRelease
  dsimp only
  (repeat' split) <;> simp

@[simp] theorem State_forceRelease_tap_frame (s : State) (l : Lane) (p : MemPort) (kind : ℕ) : On (State.forceRelease s l p kind) fun t
    =>
    t.tap = s.tap := by
  unfold On State.forceRelease
  dsimp only
  (repeat' split) <;> simp

@[simp] theorem State_forceRelease_pending_frame (s : State) (l : Lane) (p : MemPort) (kind : ℕ) : On (State.forceRelease s l p kind)
    fun t =>
    t.pending = s.pending := by
  unfold On State.forceRelease
  dsimp only
  (repeat' split) <;> simp

@[simp] theorem State_countDecision_frame (s : State) (l : Lane) (p : MemPort) (before : ArbS) (w : ArbRequest) (present : List
    ArbRequest) : On (State.countDecision s l p before w present) fun t =>
    t.freeCtr = s.freeCtr ∧ t.mod = s.mod ∧ t.acc = s.acc ∧ t.img = s.img ∧ t.ixl = s.ixl ∧ t.sheets = s.sheets ∧ t.net = s.net ∧
    t.fch = s.fch ∧ t.sup = s.sup ∧ t.host = s.host ∧ t.rcd = s.rcd ∧ t.plink = s.plink ∧ t.tap = s.tap ∧ t.pending = s.pending ∧
    SameIn (·.core) t s ∧ SameIn (·.clk) t s ∧ SameIn (·.pwr) t s ∧ SameIn (·.tbs) t s ∧ SameIn (·.diag) t s ∧ SameIn (·.mmu) t s ∧
    SameIn (·.dma) t s ∧ SameIn (·.arbE) t s ∧ SameIn (·.arbD) t s ∧ SameIn (·.cvu) t s ∧ SameIn (·.rte) t s := by
  unfold On State.countDecision
  simp

@[simp] theorem arbiterOp_tap_frame (l : Lane) (p : MemPort) (idle : ℕ) (present : List ArbRequest) (s0 : State) : On (arbiterOp l p
    idle present s0) fun t =>
    t.tap = s0.tap := by
  unfold On arbiterOp
  dsimp only
  (repeat' split) <;> simp

@[simp] theorem arbiterOp_pending_frame (l : Lane) (p : MemPort) (idle : ℕ) (present : List ArbRequest) (s0 : State) : On (arbiterOp l
    p idle present s0) fun t =>
    t.pending = s0.pending := by
  unfold On arbiterOp
  dsimp only
  (repeat' split) <;> simp

@[simp] theorem lockOverrunOp_freeCtr_frame (l : Lane) (p : MemPort) (s : State) : On (lockOverrunOp l p s) fun t =>
    t.freeCtr = s.freeCtr := by
  unfold On lockOverrunOp
  dsimp only
  (repeat' split) <;> simp

@[simp] theorem lockOverrunOp_tap_frame (l : Lane) (p : MemPort) (s : State) : On (lockOverrunOp l p s) fun t =>
    t.tap = s.tap := by
  unfold On lockOverrunOp
  dsimp only
  (repeat' split) <;> simp

@[simp] theorem lockOverrunOp_pending_frame (l : Lane) (p : MemPort) (s : State) : On (lockOverrunOp l p s) fun t =>
    t.pending = s.pending := by
  unfold On lockOverrunOp
  dsimp only
  (repeat' split) <;> simp

@[simp] theorem lockIdleOp_freeCtr_frame (l : Lane) (p : MemPort) (s : State) : On (lockIdleOp l p s) fun t =>
    t.freeCtr = s.freeCtr := by
  unfold On lockIdleOp
  dsimp only
  (repeat' split) <;> simp

@[simp] theorem lockIdleOp_tap_frame (l : Lane) (p : MemPort) (s : State) : On (lockIdleOp l p s) fun t =>
    t.tap = s.tap := by
  unfold On lockIdleOp
  dsimp only
  (repeat' split) <;> simp

@[simp] theorem lockIdleOp_pending_frame (l : Lane) (p : MemPort) (s : State) : On (lockIdleOp l p s) fun t =>
    t.pending = s.pending := by
  unfold On lockIdleOp
  dsimp only
  (repeat' split) <;> simp

@[simp] theorem perfSampleOp_frame (l : Lane) (k : ℕ) (location : Word) (sflags : Byte) (master : ℕ) (latency : Word) (address : Word)
    (time : BitVec 64) (s : State) : On (perfSampleOp l k location sflags master latency address time s) fun t =>
    t.freeCtr = s.freeCtr ∧ t.mod = s.mod ∧ t.acc = s.acc ∧ t.img = s.img ∧ t.ixl = s.ixl ∧ t.sheets = s.sheets ∧ t.net = s.net ∧
    t.fch = s.fch ∧ t.sup = s.sup ∧ t.host = s.host ∧ t.rcd = s.rcd ∧ t.plink = s.plink ∧ t.tap = s.tap ∧ t.pending = s.pending ∧
    SameIn (·.core) t s ∧ SameIn (·.clk) t s ∧ SameIn (·.pwr) t s ∧ SameIn (·.tbs) t s ∧ SameIn (·.diag) t s ∧ SameIn (·.mmu) t s ∧
    SameIn (·.dma) t s ∧ SameIn (·.arbE) t s ∧ SameIn (·.arbD) t s ∧ SameIn (·.cvu) t s ∧ SameIn (·.rte) t s := by
  unfold On perfSampleOp
  simp

@[simp] theorem bandwidthOp_frame (l : Lane) (s : State) : On (bandwidthOp l s) fun t =>
    t.freeCtr = s.freeCtr ∧ t.mod = s.mod ∧ t.acc = s.acc ∧ t.img = s.img ∧ t.ixl = s.ixl ∧ t.sheets = s.sheets ∧ t.net = s.net ∧
    t.fch = s.fch ∧ t.sup = s.sup ∧ t.host = s.host ∧ t.rcd = s.rcd ∧ t.plink = s.plink ∧ t.tap = s.tap ∧ t.pending = s.pending ∧
    SameIn (·.core) t s ∧ SameIn (·.clk) t s ∧ SameIn (·.pwr) t s ∧ SameIn (·.tbs) t s ∧ SameIn (·.diag) t s ∧ SameIn (·.mmu) t s ∧
    SameIn (·.dma) t s ∧ SameIn (·.arbE) t s ∧ SameIn (·.arbD) t s ∧ SameIn (·.cvu) t s ∧ SameIn (·.rte) t s := by
  unfold On bandwidthOp
  simp

@[simp] theorem State_supSlot_frame (s : State) (n : ℕ) (d : SupDef) : On (State.supSlot s n d) fun t =>
    t.freeCtr = s.freeCtr ∧ t.mod = s.mod ∧ t.acc = s.acc ∧ t.img = s.img ∧ t.ixl = s.ixl ∧ t.sheets = s.sheets ∧ t.net = s.net ∧
    t.fch = s.fch ∧ t.plink = s.plink ∧ t.tap = s.tap ∧ t.pending = s.pending ∧ SameIn (·.core) t s ∧ SameIn (·.clk) t s ∧ SameIn
    (·.pwr) t s ∧ SameIn (·.tbs) t s ∧ SameIn (·.mmu) t s ∧ SameIn (·.dma) t s ∧ SameIn (·.arbE) t s ∧ SameIn (·.arbD) t s ∧ SameIn
    (·.cvu) t s ∧ SameIn (·.perf) t s ∧ SameIn (·.rte) t s := by
  unfold On State.supSlot
  dsimp only
  (repeat' split) <;> simp

@[simp] theorem supervisorPassOp_frame (units : ℕ) (s : State) : On (supervisorPassOp units s) fun t =>
    t.freeCtr = s.freeCtr ∧ t.mod = s.mod ∧ t.acc = s.acc ∧ t.img = s.img ∧ t.ixl = s.ixl ∧ t.sheets = s.sheets ∧ t.net = s.net ∧
    t.fch = s.fch ∧ t.plink = s.plink ∧ t.tap = s.tap ∧ t.pending = s.pending ∧ SameIn (·.core) t s ∧ SameIn (·.clk) t s ∧ SameIn
    (·.pwr) t s ∧ SameIn (·.tbs) t s ∧ SameIn (·.mmu) t s ∧ SameIn (·.dma) t s ∧ SameIn (·.arbE) t s ∧ SameIn (·.arbD) t s ∧ SameIn
    (·.cvu) t s ∧ SameIn (·.perf) t s ∧ SameIn (·.rte) t s := by
  unfold On supervisorPassOp
  simp

@[simp] theorem State_voteOff_frame (s : State) (ch : ℕ) : On (State.voteOff s ch) fun t =>
    t.freeCtr = s.freeCtr ∧ t.mod = s.mod ∧ t.lanes = s.lanes ∧ t.acc = s.acc ∧ t.img = s.img ∧ t.ixl = s.ixl ∧ t.sheets = s.sheets
    ∧ t.net = s.net ∧ t.sup = s.sup ∧ t.host = s.host ∧ t.rcd = s.rcd ∧ t.plink = s.plink ∧ t.tap = s.tap ∧ t.pending = s.pending := by
  unfold On State.voteOff
  simp

@[simp] theorem State_recordDiff_frame (s : State) (x : DiffItem) : On (State.recordDiff s x) fun t =>
    t.freeCtr = s.freeCtr ∧ t.mod = s.mod ∧ t.acc = s.acc ∧ t.img = s.img ∧ t.ixl = s.ixl ∧ t.sheets = s.sheets ∧ t.net = s.net ∧
    t.fch = s.fch ∧ t.sup = s.sup ∧ t.plink = s.plink ∧ t.tap = s.tap ∧ t.pending = s.pending ∧ SameIn (·.core) t s ∧ SameIn
    (·.clk) t s ∧ SameIn (·.pwr) t s ∧ SameIn (·.tbs) t s ∧ SameIn (·.mmu) t s ∧ SameIn (·.dma) t s ∧ SameIn (·.arbE) t s ∧ SameIn
    (·.arbD) t s ∧ SameIn (·.cvu) t s ∧ SameIn (·.perf) t s ∧ SameIn (·.rte) t s := by
  unfold On State.recordDiff
  simp

@[simp] theorem State_countDivergence_frame (s : State) (div : List ℕ) : On (State.countDivergence s div) fun t =>
    t.freeCtr = s.freeCtr ∧ t.mod = s.mod ∧ t.acc = s.acc ∧ t.img = s.img ∧ t.sheets = s.sheets ∧ t.net = s.net ∧ t.fch = s.fch ∧
    t.sup = s.sup ∧ t.plink = s.plink ∧ t.tap = s.tap ∧ t.pending = s.pending ∧ SameIn (·.core) t s ∧ SameIn (·.clk) t s ∧ SameIn
    (·.pwr) t s ∧ SameIn (·.tbs) t s ∧ SameIn (·.mmu) t s ∧ SameIn (·.dma) t s ∧ SameIn (·.arbE) t s ∧ SameIn (·.arbD) t s ∧ SameIn
    (·.cvu) t s ∧ SameIn (·.perf) t s ∧ SameIn (·.rte) t s := by
  unfold On State.countDivergence
  simp

@[simp] theorem State_keepMarks_frame (s : State) : On (State.keepMarks s) fun t =>
    t.freeCtr = s.freeCtr ∧ t.mod = s.mod ∧ t.lanes = s.lanes ∧ t.acc = s.acc ∧ t.img = s.img ∧ t.sheets = s.sheets ∧ t.net = s.net
    ∧ t.fch = s.fch ∧ t.sup = s.sup ∧ t.host = s.host ∧ t.rcd = s.rcd ∧ t.plink = s.plink ∧ t.tap = s.tap ∧ t.pending = s.pending := by
  unfold On State.keepMarks
  simp

@[simp] theorem State_sendCompletions_frame (s : State) : On (State.sendCompletions s) fun t =>
    t.freeCtr = s.freeCtr ∧ t.mod = s.mod ∧ t.lanes = s.lanes ∧ t.acc = s.acc ∧ t.img = s.img ∧ t.sheets = s.sheets ∧ t.net = s.net
    ∧ t.fch = s.fch ∧ t.sup = s.sup ∧ t.rcd = s.rcd ∧ t.plink = s.plink ∧ t.tap = s.tap ∧ t.pending = s.pending := by
  unfold On State.sendCompletions
  simp

@[simp] theorem State_keepUse_frame (s : State) : On (State.keepUse s) fun t =>
    t.freeCtr = s.freeCtr ∧ t.mod = s.mod ∧ t.lanes = s.lanes ∧ t.acc = s.acc ∧ t.img = s.img ∧ t.sheets = s.sheets ∧ t.net = s.net
    ∧ t.fch = s.fch ∧ t.sup = s.sup ∧ t.host = s.host ∧ t.rcd = s.rcd ∧ t.plink = s.plink ∧ t.tap = s.tap ∧ t.pending = s.pending := by
  unfold On State.keepUse
  simp

@[simp] theorem State_say_frame (s : State) (h : CmdHdr) (opcode : ℕ) (status : ℕ) (params : List Byte) : On (State.say s h opcode
    status params) fun t =>
    t.freeCtr = s.freeCtr ∧ t.mod = s.mod ∧ t.lanes = s.lanes ∧ t.acc = s.acc ∧ t.img = s.img ∧ t.ixl = s.ixl ∧ t.sheets = s.sheets
    ∧ t.net = s.net ∧ t.fch = s.fch ∧ t.sup = s.sup ∧ t.rcd = s.rcd ∧ t.plink = s.plink ∧ t.tap = s.tap ∧ t.pending = s.pending := by
  unfold On State.say
  dsimp only
  (repeat' split) <;> simp

@[simp] theorem State_turnAway_frame (s : State) (h : CmdHdr) (opcode : ℕ) (status : ℕ) : On (State.turnAway s h opcode status) fun t
    =>
    t.freeCtr = s.freeCtr ∧ t.mod = s.mod ∧ t.acc = s.acc ∧ t.img = s.img ∧ t.ixl = s.ixl ∧ t.sheets = s.sheets ∧ t.net = s.net ∧
    t.fch = s.fch ∧ t.sup = s.sup ∧ t.plink = s.plink ∧ t.tap = s.tap ∧ t.pending = s.pending ∧ SameIn (·.core) t s ∧ SameIn
    (·.clk) t s ∧ SameIn (·.pwr) t s ∧ SameIn (·.tbs) t s ∧ SameIn (·.mmu) t s ∧ SameIn (·.dma) t s ∧ SameIn (·.arbE) t s ∧ SameIn
    (·.arbD) t s ∧ SameIn (·.cvu) t s ∧ SameIn (·.perf) t s ∧ SameIn (·.rte) t s := by
  unfold On State.turnAway
  dsimp only
  (repeat' split) <;> simp

@[simp] theorem State_decodeOne_frame (s : State) (c : VitalCmd) : On ((State.decodeOne s c).1) fun t =>
    t.freeCtr = s.freeCtr ∧ t.mod = s.mod ∧ t.acc = s.acc ∧ t.img = s.img ∧ t.net = s.net ∧ t.fch = s.fch ∧ t.sup = s.sup ∧ t.plink
    = s.plink ∧ t.tap = s.tap ∧ t.pending = s.pending ∧ SameIn (·.core) t s ∧ SameIn (·.clk) t s ∧ SameIn (·.pwr) t s ∧ SameIn
    (·.tbs) t s ∧ SameIn (·.mmu) t s ∧ SameIn (·.dma) t s ∧ SameIn (·.arbE) t s ∧ SameIn (·.arbD) t s ∧ SameIn (·.cvu) t s ∧ SameIn
    (·.perf) t s ∧ SameIn (·.rte) t s := by
  unfold On State.decodeOne
  dsimp only
  (repeat' split) <;> simp

@[simp] theorem State_settleOne_frame (s : State) (d : Decoded) (answers : List (Origin × Nat)) : On ((State.settleOne s d answers).1)
    fun t =>
    t.freeCtr = s.freeCtr ∧ t.mod = s.mod ∧ t.lanes = s.lanes ∧ t.acc = s.acc ∧ t.img = s.img ∧ t.sheets = s.sheets ∧ t.net = s.net
    ∧ t.fch = s.fch ∧ t.sup = s.sup ∧ t.host = s.host ∧ t.rcd = s.rcd ∧ t.plink = s.plink ∧ t.tap = s.tap ∧ t.pending = s.pending := by
  unfold On State.settleOne
  dsimp only
  (repeat' split) <;> simp

@[simp] theorem State_adopt_frame (s : State) (e : Ev) : On (State.adopt s e) fun t =>
    t.freeCtr = s.freeCtr ∧ t.mod = s.mod ∧ t.lanes = s.lanes ∧ t.acc = s.acc ∧ t.img = s.img ∧ t.sheets = s.sheets ∧ t.net = s.net
    ∧ t.fch = s.fch ∧ t.sup = s.sup ∧ t.host = s.host ∧ t.rcd = s.rcd ∧ t.plink = s.plink ∧ t.tap = s.tap ∧ t.pending = s.pending := by
  unfold On State.adopt
  simp

@[simp] theorem State_modSub_frame (s : State) (u : Subscription) (f : Subscription → Subscription) : On (State.modSub s u f) fun t =>
    t.freeCtr = s.freeCtr ∧ t.mod = s.mod ∧ t.lanes = s.lanes ∧ t.acc = s.acc ∧ t.img = s.img ∧ t.ixl = s.ixl ∧ t.sheets = s.sheets
    ∧ t.net = s.net ∧ t.fch = s.fch ∧ t.sup = s.sup ∧ t.rcd = s.rcd ∧ t.plink = s.plink ∧ t.tap = s.tap ∧ t.pending = s.pending := by
  unfold On State.modSub
  simp

@[simp] theorem State_sendItems_frame (s : State) (u : Subscription) (items : List (ℕ × ℕ)) (full : Bool) (more : Bool) : On
    (State.sendItems s u items full more) fun t =>
    t.freeCtr = s.freeCtr ∧ t.mod = s.mod ∧ t.lanes = s.lanes ∧ t.acc = s.acc ∧ t.img = s.img ∧ t.ixl = s.ixl ∧ t.sheets = s.sheets
    ∧ t.net = s.net ∧ t.fch = s.fch ∧ t.sup = s.sup ∧ t.rcd = s.rcd ∧ t.plink = s.plink ∧ t.tap = s.tap ∧ t.pending = s.pending := by
  unfold On State.sendItems
  simp

@[simp] theorem State_updateSub_frame (s : State) (u : Subscription) : On (State.updateSub s u) fun t =>
    t.freeCtr = s.freeCtr ∧ t.mod = s.mod ∧ t.lanes = s.lanes ∧ t.acc = s.acc ∧ t.img = s.img ∧ t.ixl = s.ixl ∧ t.sheets = s.sheets
    ∧ t.net = s.net ∧ t.fch = s.fch ∧ t.sup = s.sup ∧ t.rcd = s.rcd ∧ t.plink = s.plink ∧ t.tap = s.tap ∧ t.pending = s.pending := by
  unfold On State.updateSub
  dsimp only
  (repeat' split) <;> simp

@[simp] theorem State_sendUpdates_frame (s : State) : On (State.sendUpdates s) fun t =>
    t.freeCtr = s.freeCtr ∧ t.mod = s.mod ∧ t.lanes = s.lanes ∧ t.acc = s.acc ∧ t.img = s.img ∧ t.ixl = s.ixl ∧ t.sheets = s.sheets
    ∧ t.net = s.net ∧ t.fch = s.fch ∧ t.sup = s.sup ∧ t.rcd = s.rcd ∧ t.plink = s.plink ∧ t.tap = s.tap ∧ t.pending = s.pending := by
  unfold On State.sendUpdates
  simp

@[simp] theorem State_recordPacket_frame (s : State) (u : Subscription) : On (State.recordPacket s u) fun t =>
    t.freeCtr = s.freeCtr ∧ t.mod = s.mod ∧ t.lanes = s.lanes ∧ t.acc = s.acc ∧ t.img = s.img ∧ t.ixl = s.ixl ∧ t.sheets = s.sheets
    ∧ t.net = s.net ∧ t.fch = s.fch ∧ t.sup = s.sup ∧ t.rcd = s.rcd ∧ t.plink = s.plink ∧ t.tap = s.tap ∧ t.pending = s.pending := by
  unfold On State.recordPacket
  simp

@[simp] theorem State_sendRecords_frame (s : State) : On (State.sendRecords s) fun t =>
    t.freeCtr = s.freeCtr ∧ t.mod = s.mod ∧ t.lanes = s.lanes ∧ t.acc = s.acc ∧ t.img = s.img ∧ t.ixl = s.ixl ∧ t.sheets = s.sheets
    ∧ t.net = s.net ∧ t.fch = s.fch ∧ t.sup = s.sup ∧ t.rcd = s.rcd ∧ t.plink = s.plink ∧ t.tap = s.tap ∧ t.pending = s.pending := by
  unfold On State.sendRecords
  simp

@[simp] theorem State_addResets_frame (s : State) : On (State.addResets s) fun t =>
    t.freeCtr = s.freeCtr ∧ t.mod = s.mod ∧ t.lanes = s.lanes ∧ t.acc = s.acc ∧ t.img = s.img ∧ t.sheets = s.sheets ∧ t.net = s.net
    ∧ t.fch = s.fch ∧ t.sup = s.sup ∧ t.host = s.host ∧ t.rcd = s.rcd ∧ t.plink = s.plink ∧ t.tap = s.tap ∧ t.pending = s.pending := by
  unfold On State.addResets
  simp

@[simp] theorem State_dropSheetReq_frame (s : State) (task : ℕ) (block : ℕ) (kind : ℕ) (id : ℕ) : On (State.dropSheetReq s task block
    kind id) fun t =>
    t.freeCtr = s.freeCtr ∧ t.mod = s.mod ∧ t.acc = s.acc ∧ t.img = s.img ∧ t.ixl = s.ixl ∧ t.net = s.net ∧ t.fch = s.fch ∧ t.sup =
    s.sup ∧ t.plink = s.plink ∧ t.tap = s.tap ∧ t.pending = s.pending ∧ SameIn (·.core) t s ∧ SameIn (·.clk) t s ∧ SameIn (·.pwr) t
    s ∧ SameIn (·.tbs) t s ∧ SameIn (·.mmu) t s ∧ SameIn (·.dma) t s ∧ SameIn (·.arbE) t s ∧ SameIn (·.arbD) t s ∧ SameIn (·.cvu) t
    s ∧ SameIn (·.perf) t s ∧ SameIn (·.rte) t s := by
  unfold On State.dropSheetReq
  simp

@[simp] theorem State_addSheetReq_frame (base : ℕ) (s : State) (p : ReqOut) : On (State.addSheetReq base s p) fun t =>
    t.freeCtr = s.freeCtr ∧ t.mod = s.mod ∧ t.acc = s.acc ∧ t.img = s.img ∧ t.net = s.net ∧ t.fch = s.fch ∧ t.sup = s.sup ∧ t.plink
    = s.plink ∧ t.tap = s.tap ∧ t.pending = s.pending ∧ SameIn (·.core) t s ∧ SameIn (·.clk) t s ∧ SameIn (·.pwr) t s ∧ SameIn
    (·.tbs) t s ∧ SameIn (·.mmu) t s ∧ SameIn (·.dma) t s ∧ SameIn (·.arbE) t s ∧ SameIn (·.arbD) t s ∧ SameIn (·.cvu) t s ∧ SameIn
    (·.perf) t s ∧ SameIn (·.rte) t s := by
  unfold On State.addSheetReq
  dsimp only
  (repeat' split) <;> simp

@[simp] theorem State_addSheets_frame (s : State) : On (State.addSheets s) fun t =>
    t.freeCtr = s.freeCtr ∧ t.mod = s.mod ∧ t.acc = s.acc ∧ t.img = s.img ∧ t.net = s.net ∧ t.fch = s.fch ∧ t.sup = s.sup ∧ t.plink
    = s.plink ∧ t.tap = s.tap ∧ t.pending = s.pending ∧ SameIn (·.core) t s ∧ SameIn (·.clk) t s ∧ SameIn (·.pwr) t s ∧ SameIn
    (·.tbs) t s ∧ SameIn (·.mmu) t s ∧ SameIn (·.dma) t s ∧ SameIn (·.arbE) t s ∧ SameIn (·.arbD) t s ∧ SameIn (·.cvu) t s ∧ SameIn
    (·.perf) t s ∧ SameIn (·.rte) t s := by
  unfold On State.addSheets
  simp

@[simp] theorem State_openList_frame (s : State) : On (State.openList s) fun t =>
    t.freeCtr = s.freeCtr ∧ t.mod = s.mod ∧ t.lanes = s.lanes ∧ t.acc = s.acc ∧ t.img = s.img ∧ t.sheets = s.sheets ∧ t.net = s.net
    ∧ t.fch = s.fch ∧ t.sup = s.sup ∧ t.host = s.host ∧ t.rcd = s.rcd ∧ t.plink = s.plink ∧ t.tap = s.tap ∧ t.pending = s.pending := by
  unfold On State.openList
  simp

@[simp] theorem State_commit_frame (s : State) (t : Ev) (g : Ev) : On (State.commit s t g) fun t =>
    t.freeCtr = s.freeCtr ∧ t.mod = s.mod ∧ t.lanes = s.lanes ∧ t.acc = s.acc ∧ t.img = s.img ∧ t.net = s.net ∧ t.fch = s.fch ∧
    t.sup = s.sup ∧ t.host = s.host ∧ t.rcd = s.rcd ∧ t.plink = s.plink ∧ t.tap = s.tap ∧ t.pending = s.pending := by
  unfold On State.commit
  simp

@[simp] theorem routeEngineOp_frame (l : Lane) (us : ℕ) (steps : ℕ) (faults : List ItemFault) (s : State) : On (routeEngineOp l us
    steps faults s) fun t =>
    t.freeCtr = s.freeCtr ∧ t.tap = s.tap ∧ t.pending = s.pending ∧ SameIn (·.pwr) t s ∧ SameIn (·.tbs) t s ∧ SameIn (·.dma) t s ∧
    SameIn (·.cvu) t s := by
  unfold On routeEngineOp
  simp

@[simp] theorem graphSolverOp_frame (faults : List ItemFault) (s : State) : On (graphSolverOp faults s) fun t =>
    t.freeCtr = s.freeCtr ∧ t.mod = s.mod ∧ t.acc = s.acc ∧ t.img = s.img ∧ t.sheets = s.sheets ∧ t.net = s.net ∧ t.fch = s.fch ∧
    t.sup = s.sup ∧ t.host = s.host ∧ t.rcd = s.rcd ∧ t.plink = s.plink ∧ t.tap = s.tap ∧ t.pending = s.pending ∧ SameIn (·.core) t
    s ∧ SameIn (·.clk) t s ∧ SameIn (·.pwr) t s ∧ SameIn (·.tbs) t s ∧ SameIn (·.diag) t s ∧ SameIn (·.mmu) t s ∧ SameIn (·.dma) t
    s ∧ SameIn (·.arbE) t s ∧ SameIn (·.arbD) t s ∧ SameIn (·.cvu) t s := by
  unfold On graphSolverOp
  simp

@[simp] theorem State_modArea_frame (s : State) (a : ℕ) (f : AreaSt → AreaSt) : On (State.modArea s a f) fun t =>
    t.freeCtr = s.freeCtr ∧ t.mod = s.mod ∧ t.lanes = s.lanes ∧ t.acc = s.acc ∧ t.img = s.img ∧ t.sheets = s.sheets ∧ t.net = s.net
    ∧ t.fch = s.fch ∧ t.sup = s.sup ∧ t.host = s.host ∧ t.rcd = s.rcd ∧ t.plink = s.plink ∧ t.tap = s.tap ∧ t.pending = s.pending := by
  unfold On State.modArea
  simp

@[simp] theorem restartTimerStartOp_frame (a : ℕ) (s : State) : On (restartTimerStartOp a s) fun t =>
    t.freeCtr = s.freeCtr ∧ t.mod = s.mod ∧ t.lanes = s.lanes ∧ t.acc = s.acc ∧ t.img = s.img ∧ t.sheets = s.sheets ∧ t.net = s.net
    ∧ t.fch = s.fch ∧ t.sup = s.sup ∧ t.host = s.host ∧ t.rcd = s.rcd ∧ t.plink = s.plink ∧ t.tap = s.tap ∧ t.pending = s.pending := by
  unfold On restartTimerStartOp
  simp

@[simp] theorem State_stageVotes_frame (s : State) (v : LaneSet) : On (State.stageVotes s v) fun t =>
    t.freeCtr = s.freeCtr ∧ t.mod = s.mod ∧ t.lanes = s.lanes ∧ t.acc = s.acc ∧ t.img = s.img ∧ t.ixl = s.ixl ∧ t.sheets = s.sheets
    ∧ t.net = s.net ∧ t.sup = s.sup ∧ t.host = s.host ∧ t.rcd = s.rcd ∧ t.plink = s.plink ∧ t.tap = s.tap ∧ t.pending = s.pending := by
  unfold On State.stageVotes
  simp

@[simp] theorem State_flood_frame (s : State) (items : List DiffItem) (units : ℕ) : On (State.flood s items units) fun t =>
    t.freeCtr = s.freeCtr ∧ t.mod = s.mod ∧ t.img = s.img ∧ t.sheets = s.sheets ∧ t.net = s.net ∧ t.fch = s.fch ∧ t.sup = s.sup ∧
    t.plink = s.plink ∧ t.tap = s.tap ∧ t.pending = s.pending ∧ SameIn (·.core) t s ∧ SameIn (·.clk) t s ∧ SameIn (·.pwr) t s ∧
    SameIn (·.tbs) t s ∧ SameIn (·.mmu) t s ∧ SameIn (·.dma) t s ∧ SameIn (·.arbE) t s ∧ SameIn (·.arbD) t s ∧ SameIn (·.cvu) t s ∧
    SameIn (·.perf) t s := by
  unfold On State.flood
  simp

@[simp] theorem State_compare_frame (s : State) (items : List DiffItem) (r : Verdict) (units : ℕ) : On (State.compare s items r units)
    fun t =>
    t.freeCtr = s.freeCtr ∧ t.mod = s.mod ∧ t.img = s.img ∧ t.sheets = s.sheets ∧ t.net = s.net ∧ t.fch = s.fch ∧ t.sup = s.sup ∧
    t.plink = s.plink ∧ t.tap = s.tap ∧ t.pending = s.pending ∧ SameIn (·.core) t s ∧ SameIn (·.clk) t s ∧ SameIn (·.pwr) t s ∧
    SameIn (·.tbs) t s ∧ SameIn (·.mmu) t s ∧ SameIn (·.dma) t s ∧ SameIn (·.arbE) t s ∧ SameIn (·.arbD) t s ∧ SameIn (·.cvu) t s ∧
    SameIn (·.perf) t s := by
  unfold On State.compare
  simp

@[simp] theorem State_shadowCompare_frame (s : State) : On (State.shadowCompare s) fun t =>
    t.freeCtr = s.freeCtr ∧ t.mod.mode = s.mod.mode ∧ t.acc = s.acc ∧ t.img = s.img ∧ t.ixl = s.ixl ∧ t.sheets = s.sheets ∧ t.net =
    s.net ∧ t.fch = s.fch ∧ t.sup = s.sup ∧ t.tap = s.tap ∧ t.pending = s.pending ∧ SameIn (·.core) t s ∧ SameIn (·.clk) t s ∧
    SameIn (·.pwr) t s ∧ SameIn (·.tbs) t s ∧ SameIn (·.mmu) t s ∧ SameIn (·.dma) t s ∧ SameIn (·.arbE) t s ∧ SameIn (·.arbD) t s ∧
    SameIn (·.cvu) t s ∧ SameIn (·.perf) t s ∧ SameIn (·.rte) t s := by
  unfold On State.shadowCompare
  dsimp only
  (repeat' split) <;> simp

@[simp] theorem State_partnerProbation_frame (s : State) : On (State.partnerProbation s) fun t =>
    t.freeCtr = s.freeCtr ∧ t.mod = s.mod ∧ t.lanes = s.lanes ∧ t.acc = s.acc ∧ t.img = s.img ∧ t.ixl = s.ixl ∧ t.sheets = s.sheets
    ∧ t.net = s.net ∧ t.fch = s.fch ∧ t.sup = s.sup ∧ t.host = s.host ∧ t.rcd = s.rcd ∧ t.tap = s.tap ∧ t.pending = s.pending := by
  unfold On State.partnerProbation
  dsimp only
  (repeat' split) <;> simp

@[simp] theorem State_laneProbation_frame (s : State) (agreed : BitVec 64) (wrong : PerLane (BitVec 64)) : On (State.laneProbation s
    agreed wrong) fun t =>
    t.freeCtr = s.freeCtr ∧ t.mod = s.mod ∧ t.acc = s.acc ∧ t.img = s.img ∧ t.ixl = s.ixl ∧ t.sheets = s.sheets ∧ t.net = s.net ∧
    t.fch = s.fch ∧ t.sup = s.sup ∧ t.host = s.host ∧ t.rcd = s.rcd ∧ t.plink = s.plink ∧ t.tap = s.tap ∧ t.pending = s.pending ∧
    SameIn (·.clk) t s ∧ SameIn (·.pwr) t s ∧ SameIn (·.tbs) t s ∧ SameIn (·.diag) t s ∧ SameIn (·.mmu) t s ∧ SameIn (·.dma) t s ∧
    SameIn (·.arbE) t s ∧ SameIn (·.arbD) t s ∧ SameIn (·.cvu) t s ∧ SameIn (·.perf) t s ∧ SameIn (·.rte) t s := by
  unfold On State.laneProbation
  simp

@[simp] theorem State_stage_frame (s : State) (v : LaneSet) : On (State.stage s v) fun t =>
    t.freeCtr = s.freeCtr ∧ t.mod.mode = s.mod.mode ∧ t.img = s.img ∧ t.ixl = s.ixl ∧ t.sup = s.sup ∧ t.tap = s.tap ∧ t.pending =
    s.pending ∧ SameIn (·.core) t s ∧ SameIn (·.clk) t s ∧ SameIn (·.pwr) t s ∧ SameIn (·.tbs) t s ∧ SameIn (·.mmu) t s ∧ SameIn
    (·.dma) t s ∧ SameIn (·.arbE) t s ∧ SameIn (·.arbD) t s ∧ SameIn (·.cvu) t s ∧ SameIn (·.perf) t s ∧ SameIn (·.rte) t s := by
  unfold On State.stage
  simp

@[simp] theorem State_outAccord_frame (s : State) (sent : LaneSet) (wrong : PerLane (BitVec 64)) : On (State.outAccord s sent wrong)
    fun t =>
    t.freeCtr = s.freeCtr ∧ t.tap = s.tap ∧ t.pending = s.pending ∧ SameIn (·.pwr) t s ∧ SameIn (·.tbs) t s ∧ SameIn (·.dma) t s ∧
    SameIn (·.cvu) t s ∧ SameIn (·.perf) t s ∧ SameIn (·.rte) t s := by
  unfold On State.outAccord
  dsimp only
  (repeat' split) <;> simp

@[simp] theorem outputAccordOp_frame (sent : LaneSet) (wrong : PerLane (BitVec 64)) (units : ℕ) (s : State) : On (outputAccordOp sent
    wrong units s) fun t =>
    t.freeCtr = s.freeCtr ∧ t.tap = s.tap ∧ t.pending = s.pending ∧ SameIn (·.pwr) t s ∧ SameIn (·.tbs) t s ∧ SameIn (·.dma) t s ∧
    SameIn (·.cvu) t s ∧ SameIn (·.perf) t s := by
  unfold On outputAccordOp
  dsimp only
  (repeat' split) <;> simp

@[simp] theorem State_missCycle_frame (s : State) (cycle : Word) (cause : ℕ) : On (State.missCycle s cycle cause) fun t =>
    t.freeCtr = s.freeCtr ∧ t.mod = s.mod ∧ t.lanes = s.lanes ∧ t.acc = s.acc ∧ t.img = s.img ∧ t.ixl = s.ixl ∧ t.sheets = s.sheets
    ∧ t.net = s.net ∧ t.fch = s.fch ∧ t.sup = s.sup ∧ t.host = s.host ∧ t.plink = s.plink ∧ t.tap = s.tap ∧ t.pending = s.pending := by
  unfold On State.missCycle
  simp

@[simp] theorem State_placeCopy_frame (s : State) : On (State.placeCopy s) fun t =>
    t.freeCtr = s.freeCtr ∧ t.mod = s.mod ∧ t.acc = s.acc ∧ t.img = s.img ∧ t.ixl = s.ixl ∧ t.sheets = s.sheets ∧ t.net = s.net ∧
    t.fch = s.fch ∧ t.sup = s.sup ∧ t.plink = s.plink ∧ t.tap = s.tap ∧ t.pending = s.pending ∧ SameIn (·.core) t s ∧ SameIn
    (·.clk) t s ∧ SameIn (·.pwr) t s ∧ SameIn (·.tbs) t s ∧ SameIn (·.mmu) t s ∧ SameIn (·.dma) t s ∧ SameIn (·.arbE) t s ∧ SameIn
    (·.arbD) t s ∧ SameIn (·.cvu) t s ∧ SameIn (·.perf) t s ∧ SameIn (·.rte) t s := by
  unfold On State.placeCopy
  simp

@[simp] theorem State_sendMsg_frame (s : State) (m : MsgOut) : On (State.sendMsg s m) fun t =>
    t.freeCtr = s.freeCtr ∧ t.mod = s.mod ∧ t.acc = s.acc ∧ t.img = s.img ∧ t.ixl = s.ixl ∧ t.sheets = s.sheets ∧ t.net = s.net ∧
    t.fch = s.fch ∧ t.sup = s.sup ∧ t.plink = s.plink ∧ t.tap = s.tap ∧ t.pending = s.pending ∧ SameIn (·.core) t s ∧ SameIn
    (·.clk) t s ∧ SameIn (·.pwr) t s ∧ SameIn (·.tbs) t s ∧ SameIn (·.mmu) t s ∧ SameIn (·.dma) t s ∧ SameIn (·.arbE) t s ∧ SameIn
    (·.arbD) t s ∧ SameIn (·.cvu) t s ∧ SameIn (·.perf) t s ∧ SameIn (·.rte) t s := by
  unfold On State.sendMsg
  simp

@[simp] theorem State_sendMsgs_frame (s : State) : On (State.sendMsgs s) fun t =>
    t.freeCtr = s.freeCtr ∧ t.mod = s.mod ∧ t.acc = s.acc ∧ t.img = s.img ∧ t.ixl = s.ixl ∧ t.net = s.net ∧ t.fch = s.fch ∧ t.sup =
    s.sup ∧ t.plink = s.plink ∧ t.tap = s.tap ∧ t.pending = s.pending ∧ SameIn (·.core) t s ∧ SameIn (·.clk) t s ∧ SameIn (·.pwr) t
    s ∧ SameIn (·.tbs) t s ∧ SameIn (·.mmu) t s ∧ SameIn (·.dma) t s ∧ SameIn (·.arbE) t s ∧ SameIn (·.arbD) t s ∧ SameIn (·.cvu) t
    s ∧ SameIn (·.perf) t s ∧ SameIn (·.rte) t s := by
  unfold On State.sendMsgs
  simp

@[simp] theorem State_sendBoundaries_frame (s : State) : On (State.sendBoundaries s) fun t =>
    t.freeCtr = s.freeCtr ∧ t.mod = s.mod ∧ t.lanes = s.lanes ∧ t.acc = s.acc ∧ t.img = s.img ∧ t.sheets = s.sheets ∧ t.net = s.net
    ∧ t.fch = s.fch ∧ t.sup = s.sup ∧ t.rcd = s.rcd ∧ t.plink = s.plink ∧ t.tap = s.tap ∧ t.pending = s.pending := by
  unfold On State.sendBoundaries
  simp

@[simp] theorem State_answerJudged_frame (s : State) : On (State.answerJudged s) fun t =>
    t.freeCtr = s.freeCtr ∧ t.mod = s.mod ∧ t.lanes = s.lanes ∧ t.img = s.img ∧ t.ixl = s.ixl ∧ t.sheets = s.sheets ∧ t.net = s.net
    ∧ t.fch = s.fch ∧ t.sup = s.sup ∧ t.rcd = s.rcd ∧ t.plink = s.plink ∧ t.tap = s.tap ∧ t.pending = s.pending := by
  unfold On State.answerJudged
  simp

@[simp] theorem State_cycleCompletions_frame (s : State) : On (State.cycleCompletions s) fun t =>
    t.freeCtr = s.freeCtr ∧ t.mod = s.mod ∧ t.lanes = s.lanes ∧ t.acc = s.acc ∧ t.img = s.img ∧ t.sheets = s.sheets ∧ t.net = s.net
    ∧ t.fch = s.fch ∧ t.sup = s.sup ∧ t.rcd = s.rcd ∧ t.plink = s.plink ∧ t.tap = s.tap ∧ t.pending = s.pending := by
  unfold On State.cycleCompletions
  simp

@[simp] theorem applyStrobeOp_frame (strobes : LaneSet) (s : State) : On (applyStrobeOp strobes s) fun t =>
    t.freeCtr = s.freeCtr ∧ t.mod = s.mod ∧ t.img = s.img ∧ t.sup = s.sup ∧ t.plink = s.plink ∧ t.tap = s.tap ∧ t.pending =
    s.pending ∧ SameIn (·.clk) t s ∧ SameIn (·.pwr) t s ∧ SameIn (·.tbs) t s ∧ SameIn (·.mmu) t s ∧ SameIn (·.dma) t s ∧ SameIn
    (·.arbE) t s ∧ SameIn (·.arbD) t s ∧ SameIn (·.cvu) t s ∧ SameIn (·.perf) t s ∧ SameIn (·.rte) t s := by
  unfold On applyStrobeOp
  simp

@[simp] theorem State_modSense_frame (s : State) (l : Lane) (ch : ℕ) (f : ChSense → ChSense) : On (State.modSense s l ch f) fun t =>
    t.freeCtr = s.freeCtr ∧ t.mod = s.mod ∧ t.lanes = s.lanes ∧ t.acc = s.acc ∧ t.img = s.img ∧ t.ixl = s.ixl ∧ t.sheets = s.sheets
    ∧ t.net = s.net ∧ t.sup = s.sup ∧ t.host = s.host ∧ t.rcd = s.rcd ∧ t.plink = s.plink ∧ t.tap = s.tap ∧ t.pending = s.pending := by
  unfold On State.modSense
  simp

@[simp] theorem State_recordFault_frame (s : State) (ch : ℕ) (bit : ℕ) (ls : LaneSet) (switch : ℕ) : On (State.recordFault s ch bit ls
    switch) fun t =>
    t.freeCtr = s.freeCtr ∧ t.mod = s.mod ∧ t.acc = s.acc ∧ t.img = s.img ∧ t.ixl = s.ixl ∧ t.sheets = s.sheets ∧ t.net = s.net ∧
    t.fch = s.fch ∧ t.sup = s.sup ∧ t.plink = s.plink ∧ t.tap = s.tap ∧ t.pending = s.pending ∧ SameIn (·.core) t s ∧ SameIn
    (·.clk) t s ∧ SameIn (·.pwr) t s ∧ SameIn (·.tbs) t s ∧ SameIn (·.mmu) t s ∧ SameIn (·.dma) t s ∧ SameIn (·.arbE) t s ∧ SameIn
    (·.arbD) t s ∧ SameIn (·.cvu) t s ∧ SameIn (·.perf) t s ∧ SameIn (·.rte) t s := by
  unfold On State.recordFault
  simp

@[simp] theorem State_recordCleared_frame (s : State) (ch : ℕ) (bit : ℕ) : On (State.recordCleared s ch bit) fun t =>
    t.freeCtr = s.freeCtr ∧ t.mod = s.mod ∧ t.acc = s.acc ∧ t.img = s.img ∧ t.ixl = s.ixl ∧ t.sheets = s.sheets ∧ t.net = s.net ∧
    t.fch = s.fch ∧ t.sup = s.sup ∧ t.plink = s.plink ∧ t.tap = s.tap ∧ t.pending = s.pending ∧ SameIn (·.core) t s ∧ SameIn
    (·.clk) t s ∧ SameIn (·.pwr) t s ∧ SameIn (·.tbs) t s ∧ SameIn (·.mmu) t s ∧ SameIn (·.dma) t s ∧ SameIn (·.arbE) t s ∧ SameIn
    (·.arbD) t s ∧ SameIn (·.cvu) t s ∧ SameIn (·.perf) t s ∧ SameIn (·.rte) t s := by
  unfold On State.recordCleared
  simp

@[simp] theorem State_failSignals_frame (s : State) (ch : ℕ) (fails : LaneSet) (switch : ℕ) : On (State.failSignals s ch fails switch)
    fun t =>
    t.freeCtr = s.freeCtr ∧ t.mod = s.mod ∧ t.acc = s.acc ∧ t.img = s.img ∧ t.ixl = s.ixl ∧ t.sheets = s.sheets ∧ t.net = s.net ∧
    t.sup = s.sup ∧ t.plink = s.plink ∧ t.tap = s.tap ∧ t.pending = s.pending ∧ SameIn (·.core) t s ∧ SameIn (·.clk) t s ∧ SameIn
    (·.pwr) t s ∧ SameIn (·.tbs) t s ∧ SameIn (·.mmu) t s ∧ SameIn (·.dma) t s ∧ SameIn (·.arbE) t s ∧ SameIn (·.arbD) t s ∧ SameIn
    (·.cvu) t s ∧ SameIn (·.perf) t s ∧ SameIn (·.rte) t s := by
  unfold On State.failSignals
  simp

@[simp] theorem State_oddVerdict_frame (s : State) (ch : ℕ) (verdict : PerLane ℕ) : On (State.oddVerdict s ch verdict) fun t =>
    t.freeCtr = s.freeCtr ∧ t.mod = s.mod ∧ t.acc = s.acc ∧ t.img = s.img ∧ t.ixl = s.ixl ∧ t.sheets = s.sheets ∧ t.net = s.net ∧
    t.sup = s.sup ∧ t.plink = s.plink ∧ t.tap = s.tap ∧ t.pending = s.pending ∧ SameIn (·.clk) t s ∧ SameIn (·.pwr) t s ∧ SameIn
    (·.tbs) t s ∧ SameIn (·.mmu) t s ∧ SameIn (·.dma) t s ∧ SameIn (·.arbE) t s ∧ SameIn (·.arbD) t s ∧ SameIn (·.cvu) t s ∧ SameIn
    (·.perf) t s ∧ SameIn (·.rte) t s := by
  unfold On State.oddVerdict
  simp

@[simp] theorem State_readSense_frame (s : State) (r : SenseReading) : On (State.readSense s r) fun t =>
    t.freeCtr = s.freeCtr ∧ t.mod = s.mod ∧ t.lanes = s.lanes ∧ t.acc = s.acc ∧ t.img = s.img ∧ t.ixl = s.ixl ∧ t.sheets = s.sheets
    ∧ t.net = s.net ∧ t.sup = s.sup ∧ t.host = s.host ∧ t.rcd = s.rcd ∧ t.plink = s.plink ∧ t.tap = s.tap ∧ t.pending = s.pending := by
  unfold On State.readSense
  dsimp only
  (repeat' split) <;> simp

@[simp] theorem State_judgeRefresh_frame (s : State) (before : State) (ch : ℕ) : On (State.judgeRefresh s before ch) fun t =>
    t.freeCtr = s.freeCtr ∧ t.mod = s.mod ∧ t.acc = s.acc ∧ t.img = s.img ∧ t.ixl = s.ixl ∧ t.sheets = s.sheets ∧ t.net = s.net ∧
    t.sup = s.sup ∧ t.plink = s.plink ∧ t.tap = s.tap ∧ t.pending = s.pending ∧ SameIn (·.clk) t s ∧ SameIn (·.pwr) t s ∧ SameIn
    (·.tbs) t s ∧ SameIn (·.mmu) t s ∧ SameIn (·.dma) t s ∧ SameIn (·.arbE) t s ∧ SameIn (·.arbD) t s ∧ SameIn (·.cvu) t s ∧ SameIn
    (·.perf) t s ∧ SameIn (·.rte) t s := by
  unfold On State.judgeRefresh
  dsimp only
  (repeat' split) <;> simp

@[simp] theorem State_mapSense_frame (s : State) (ch : ℕ) (f : ChSense → ChSense) : On (State.mapSense s ch f) fun t =>
    t.freeCtr = s.freeCtr ∧ t.mod = s.mod ∧ t.lanes = s.lanes ∧ t.acc = s.acc ∧ t.img = s.img ∧ t.ixl = s.ixl ∧ t.sheets = s.sheets
    ∧ t.net = s.net ∧ t.sup = s.sup ∧ t.host = s.host ∧ t.rcd = s.rcd ∧ t.plink = s.plink ∧ t.tap = s.tap ∧ t.pending = s.pending := by
  unfold On State.mapSense
  simp

@[simp] theorem State_markMinority_frame (s : State) (ch : ℕ) (l : Lane) : On (State.markMinority s ch l) fun t =>
    t.freeCtr = s.freeCtr ∧ t.mod = s.mod ∧ t.lanes = s.lanes ∧ t.acc = s.acc ∧ t.img = s.img ∧ t.ixl = s.ixl ∧ t.sheets = s.sheets
    ∧ t.net = s.net ∧ t.sup = s.sup ∧ t.host = s.host ∧ t.rcd = s.rcd ∧ t.plink = s.plink ∧ t.tap = s.tap ∧ t.pending = s.pending := by
  unfold On State.markMinority
  simp

@[simp] theorem State_reportMinority_frame (s : State) (ch : ℕ) (l : Lane) : On (State.reportMinority s ch l) fun t =>
    t.freeCtr = s.freeCtr ∧ t.tap = s.tap ∧ t.pending = s.pending ∧ SameIn (·.pwr) t s ∧ SameIn (·.tbs) t s ∧ SameIn (·.dma) t s ∧
    SameIn (·.cvu) t s ∧ SameIn (·.perf) t s ∧ SameIn (·.rte) t s := by
  unfold On State.reportMinority
  simp

@[simp] theorem State_showGroups_frame (s : State) : On (State.showGroups s) fun t =>
    t.freeCtr = s.freeCtr ∧ t.mod = s.mod ∧ t.lanes = s.lanes ∧ t.acc = s.acc ∧ t.img = s.img ∧ t.ixl = s.ixl ∧ t.sheets = s.sheets
    ∧ t.net = s.net ∧ t.sup = s.sup ∧ t.host = s.host ∧ t.rcd = s.rcd ∧ t.plink = s.plink ∧ t.tap = s.tap ∧ t.pending = s.pending := by
  unfold On State.showGroups
  simp

@[simp] theorem State_recordRotation_frame (s : State) (l : Lane) (i : ℕ) : On (State.recordRotation s l i) fun t =>
    t.freeCtr = s.freeCtr ∧ t.mod = s.mod ∧ t.acc = s.acc ∧ t.img = s.img ∧ t.ixl = s.ixl ∧ t.sheets = s.sheets ∧ t.net = s.net ∧
    t.fch = s.fch ∧ t.sup = s.sup ∧ t.plink = s.plink ∧ t.tap = s.tap ∧ t.pending = s.pending ∧ SameIn (·.core) t s ∧ SameIn
    (·.clk) t s ∧ SameIn (·.pwr) t s ∧ SameIn (·.tbs) t s ∧ SameIn (·.mmu) t s ∧ SameIn (·.dma) t s ∧ SameIn (·.arbE) t s ∧ SameIn
    (·.arbD) t s ∧ SameIn (·.cvu) t s ∧ SameIn (·.perf) t s ∧ SameIn (·.rte) t s := by
  unfold On State.recordRotation
  dsimp only
  (repeat' split) <;> simp

@[simp] theorem State_runSlice_frame (s : State) (l : Lane) (misr : BitVec 64) (passSeconds : ℕ) (again : Bool) : On (State.runSlice s
    l misr passSeconds again) fun t =>
    t.freeCtr = s.freeCtr ∧ t.tap = s.tap ∧ t.pending = s.pending ∧ SameIn (·.pwr) t s ∧ SameIn (·.tbs) t s ∧ SameIn (·.dma) t s ∧
    SameIn (·.cvu) t s ∧ SameIn (·.perf) t s ∧ SameIn (·.rte) t s := by
  unfold On State.runSlice
  dsimp only
  (repeat' split) <;> simp

@[simp] theorem selftestSliceOp_frame (misr : PerLane (BitVec 64)) (passSeconds : ℕ) (s : State) : On (selftestSliceOp misr passSeconds
    s) fun t =>
    t.freeCtr = s.freeCtr ∧ t.tap = s.tap ∧ t.pending = s.pending ∧ SameIn (·.pwr) t s ∧ SameIn (·.tbs) t s ∧ SameIn (·.dma) t s ∧
    SameIn (·.cvu) t s ∧ SameIn (·.perf) t s ∧ SameIn (·.rte) t s := by
  unfold On selftestSliceOp
  simp

@[simp] theorem State_modPort_frame (s : State) (port : ℕ) (f : PortSt → PortSt) : On (State.modPort s port f) fun t =>
    t.freeCtr = s.freeCtr ∧ t.mod = s.mod ∧ t.lanes = s.lanes ∧ t.acc = s.acc ∧ t.img = s.img ∧ t.ixl = s.ixl ∧ t.sheets = s.sheets
    ∧ t.fch = s.fch ∧ t.sup = s.sup ∧ t.host = s.host ∧ t.rcd = s.rcd ∧ t.plink = s.plink ∧ t.tap = s.tap ∧ t.pending = s.pending := by
  unfold On State.modPort
  simp

@[simp] theorem State_hubSend_frame (s : State) (port : ℕ) (slot : ℕ) (body : List Byte) : On (State.hubSend s port slot body) fun t =>
    t.freeCtr = s.freeCtr ∧ t.mod = s.mod ∧ t.lanes = s.lanes ∧ t.acc = s.acc ∧ t.img = s.img ∧ t.ixl = s.ixl ∧ t.sheets = s.sheets
    ∧ t.fch = s.fch ∧ t.sup = s.sup ∧ t.host = s.host ∧ t.rcd = s.rcd ∧ t.plink = s.plink ∧ t.tap = s.tap ∧ t.pending = s.pending := by
  unfold On State.hubSend
  simp

@[simp] theorem State_sendSync_frame (s : State) (cold : Bool) : On (State.sendSync s cold) fun t =>
    t.freeCtr = s.freeCtr ∧ t.mod = s.mod ∧ t.lanes = s.lanes ∧ t.acc = s.acc ∧ t.img = s.img ∧ t.ixl = s.ixl ∧ t.sheets = s.sheets
    ∧ t.fch = s.fch ∧ t.sup = s.sup ∧ t.host = s.host ∧ t.rcd = s.rcd ∧ t.plink = s.plink ∧ t.tap = s.tap ∧ t.pending = s.pending := by
  unfold On State.sendSync
  simp

@[simp] theorem State_modNode_frame (s : State) (n : ℕ) (f : NodeSt → NodeSt) : On (State.modNode s n f) fun t =>
    t.freeCtr = s.freeCtr ∧ t.mod = s.mod ∧ t.lanes = s.lanes ∧ t.acc = s.acc ∧ t.img = s.img ∧ t.ixl = s.ixl ∧ t.sheets = s.sheets
    ∧ t.fch = s.fch ∧ t.sup = s.sup ∧ t.host = s.host ∧ t.rcd = s.rcd ∧ t.plink = s.plink ∧ t.tap = s.tap ∧ t.pending = s.pending := by
  unfold On State.modNode
  simp

@[simp] theorem State_syncLane_frame (s : State) (l : Lane) (devs : List (ℕ × ℤ)) : On (State.syncLane s l devs) fun t =>
    t.freeCtr = s.freeCtr ∧ t.mod = s.mod ∧ t.acc = s.acc ∧ t.img = s.img ∧ t.ixl = s.ixl ∧ t.sheets = s.sheets ∧ t.net = s.net ∧
    t.fch = s.fch ∧ t.sup = s.sup ∧ t.plink = s.plink ∧ t.tap = s.tap ∧ t.pending = s.pending ∧ SameIn (·.clk) t s ∧ SameIn (·.pwr)
    t s ∧ SameIn (·.mmu) t s ∧ SameIn (·.dma) t s ∧ SameIn (·.arbE) t s ∧ SameIn (·.arbD) t s ∧ SameIn (·.cvu) t s ∧ SameIn
    (·.perf) t s ∧ SameIn (·.rte) t s := by
  unfold On State.syncLane
  simp

@[simp] theorem State_loneClock_frame (s : State) (l : Lane) : On (State.loneClock s l) fun t =>
    t.freeCtr = s.freeCtr ∧ t.tap = s.tap ∧ t.pending = s.pending ∧ SameIn (·.pwr) t s ∧ SameIn (·.dma) t s ∧ SameIn (·.cvu) t s ∧
    SameIn (·.perf) t s ∧ SameIn (·.rte) t s := by
  unfold On State.loneClock
  simp

@[simp] theorem State_syncState_frame (s : State) : On (State.syncState s) fun t =>
    t.freeCtr = s.freeCtr ∧ t.mod = s.mod ∧ t.acc = s.acc ∧ t.img = s.img ∧ t.ixl = s.ixl ∧ t.sheets = s.sheets ∧ t.fch = s.fch ∧
    t.sup = s.sup ∧ t.plink = s.plink ∧ t.tap = s.tap ∧ t.pending = s.pending ∧ SameIn (·.core) t s ∧ SameIn (·.clk) t s ∧ SameIn
    (·.pwr) t s ∧ SameIn (·.tbs) t s ∧ SameIn (·.mmu) t s ∧ SameIn (·.dma) t s ∧ SameIn (·.arbE) t s ∧ SameIn (·.arbD) t s ∧ SameIn
    (·.cvu) t s ∧ SameIn (·.perf) t s ∧ SameIn (·.rte) t s := by
  unfold On State.syncState
  dsimp only
  (repeat' split) <;> simp

@[simp] theorem State_closeRound_frame (s : State) (round : Word) : On (State.closeRound s round) fun t =>
    t.freeCtr = s.freeCtr ∧ t.mod = s.mod ∧ t.lanes = s.lanes ∧ t.acc = s.acc ∧ t.img = s.img ∧ t.ixl = s.ixl ∧ t.sheets = s.sheets
    ∧ t.fch = s.fch ∧ t.sup = s.sup ∧ t.host = s.host ∧ t.rcd = s.rcd ∧ t.plink = s.plink ∧ t.tap = s.tap ∧ t.pending = s.pending := by
  unfold On State.closeRound
  simp

@[simp] theorem State_linkDelay_frame (s : State) (roundTrip : Option ℕ) : On (State.linkDelay s roundTrip) fun t =>
    t.freeCtr = s.freeCtr ∧ t.mod = s.mod ∧ t.lanes = s.lanes ∧ t.acc = s.acc ∧ t.img = s.img ∧ t.ixl = s.ixl ∧ t.sheets = s.sheets
    ∧ t.net = s.net ∧ t.fch = s.fch ∧ t.sup = s.sup ∧ t.host = s.host ∧ t.rcd = s.rcd ∧ t.tap = s.tap ∧ t.pending = s.pending := by
  unfold On State.linkDelay
  simp

@[simp] theorem State_startSlots_frame (s : State) : On (State.startSlots s) fun t =>
    t.freeCtr = s.freeCtr ∧ t.mod = s.mod ∧ t.lanes = s.lanes ∧ t.acc = s.acc ∧ t.img = s.img ∧ t.ixl = s.ixl ∧ t.sheets = s.sheets
    ∧ t.fch = s.fch ∧ t.sup = s.sup ∧ t.host = s.host ∧ t.rcd = s.rcd ∧ t.plink = s.plink ∧ t.tap = s.tap ∧ t.pending = s.pending := by
  unfold On State.startSlots
  dsimp only
  (repeat' split) <;> simp

@[simp] theorem State_strobes_frame (s : State) : On (State.strobes s) fun t =>
    t.freeCtr = s.freeCtr ∧ t.mod = s.mod ∧ t.lanes = s.lanes ∧ t.acc = s.acc ∧ t.img = s.img ∧ t.ixl = s.ixl ∧ t.sheets = s.sheets
    ∧ t.net = s.net ∧ t.fch = s.fch ∧ t.sup = s.sup ∧ t.host = s.host ∧ t.rcd = s.rcd ∧ t.tap = s.tap ∧ t.pending = s.pending := by
  unfold On State.strobes
  simp

@[simp] theorem roundStartOp_frame (round : Word) (devs : PerLane (List (ℕ × ℤ))) (roundTrip : Option ℕ) (s : State) : On (roundStartOp
    round devs roundTrip s) fun t =>
    t.freeCtr = s.freeCtr ∧ t.tap = s.tap ∧ t.pending = s.pending ∧ SameIn (·.pwr) t s ∧ SameIn (·.dma) t s ∧ SameIn (·.cvu) t s ∧
    SameIn (·.perf) t s ∧ SameIn (·.rte) t s := by
  unfold On roundStartOp
  simp

@[simp] theorem rateUpdateOp_frame (l : Lane) (s : State) : On (rateUpdateOp l s) fun t =>
    t.freeCtr = s.freeCtr ∧ t.mod = s.mod ∧ t.acc = s.acc ∧ t.img = s.img ∧ t.ixl = s.ixl ∧ t.sheets = s.sheets ∧ t.net = s.net ∧
    t.fch = s.fch ∧ t.sup = s.sup ∧ t.host = s.host ∧ t.rcd = s.rcd ∧ t.plink = s.plink ∧ t.tap = s.tap ∧ t.pending = s.pending ∧
    SameIn (·.core) t s ∧ SameIn (·.clk) t s ∧ SameIn (·.pwr) t s ∧ SameIn (·.diag) t s ∧ SameIn (·.mmu) t s ∧ SameIn (·.dma) t s ∧
    SameIn (·.arbE) t s ∧ SameIn (·.arbD) t s ∧ SameIn (·.cvu) t s ∧ SameIn (·.perf) t s ∧ SameIn (·.rte) t s := by
  unfold On rateUpdateOp
  dsimp only
  (repeat' split) <;> simp

@[simp] theorem beaconSendOp_frame (s : State) : On (beaconSendOp s) fun t =>
    t.freeCtr = s.freeCtr ∧ t.mod = s.mod ∧ t.lanes = s.lanes ∧ t.acc = s.acc ∧ t.img = s.img ∧ t.ixl = s.ixl ∧ t.sheets = s.sheets
    ∧ t.fch = s.fch ∧ t.sup = s.sup ∧ t.host = s.host ∧ t.rcd = s.rcd ∧ t.plink = s.plink ∧ t.tap = s.tap ∧ t.pending = s.pending := by
  unfold On beaconSendOp
  simp

@[simp] theorem listenTimeoutOp_frame (s : State) : On (listenTimeoutOp s) fun t =>
    t.freeCtr = s.freeCtr ∧ t.mod = s.mod ∧ t.img = s.img ∧ t.ixl = s.ixl ∧ t.sheets = s.sheets ∧ t.fch = s.fch ∧ t.sup = s.sup ∧
    t.tap = s.tap ∧ t.pending = s.pending ∧ SameIn (·.core) t s ∧ SameIn (·.clk) t s ∧ SameIn (·.pwr) t s ∧ SameIn (·.tbs) t s ∧
    SameIn (·.mmu) t s ∧ SameIn (·.dma) t s ∧ SameIn (·.arbE) t s ∧ SameIn (·.arbD) t s ∧ SameIn (·.cvu) t s ∧ SameIn (·.perf) t s
    ∧ SameIn (·.rte) t s := by
  unfold On listenTimeoutOp
  simp

@[simp] theorem State_declareLost_frame (s : State) (chY : Bool) : On (State.declareLost s chY) fun t =>
    t.freeCtr = s.freeCtr ∧ t.mod = s.mod ∧ t.lanes = s.lanes ∧ t.acc = s.acc ∧ t.img = s.img ∧ t.ixl = s.ixl ∧ t.sheets = s.sheets
    ∧ t.fch = s.fch ∧ t.sup = s.sup ∧ t.host = s.host ∧ t.rcd = s.rcd ∧ t.plink = s.plink ∧ t.tap = s.tap ∧ t.pending = s.pending := by
  unfold On State.declareLost
  simp

@[simp] theorem State_lostPartner_frame (s : State) : On (State.lostPartner s) fun t =>
    t.freeCtr = s.freeCtr ∧ t.mod = s.mod ∧ t.lanes = s.lanes ∧ t.acc = s.acc ∧ t.img = s.img ∧ t.ixl = s.ixl ∧ t.sheets = s.sheets
    ∧ t.fch = s.fch ∧ t.sup = s.sup ∧ t.host = s.host ∧ t.rcd = s.rcd ∧ t.plink = s.plink ∧ t.tap = s.tap ∧ t.pending = s.pending := by
  unfold On State.lostPartner
  simp

@[simp] theorem coldRoundsCompleteOp_frame (s : State) : On (coldRoundsCompleteOp s) fun t =>
    t.freeCtr = s.freeCtr ∧ t.mod.mode = s.mod.mode ∧ t.acc = s.acc ∧ t.img = s.img ∧ t.ixl = s.ixl ∧ t.sheets = s.sheets ∧ t.fch =
    s.fch ∧ t.sup = s.sup ∧ t.plink = s.plink ∧ t.tap = s.tap ∧ t.pending = s.pending ∧ SameIn (·.core) t s ∧ SameIn (·.clk) t s ∧
    SameIn (·.pwr) t s ∧ SameIn (·.tbs) t s ∧ SameIn (·.mmu) t s ∧ SameIn (·.dma) t s ∧ SameIn (·.arbE) t s ∧ SameIn (·.arbD) t s ∧
    SameIn (·.cvu) t s ∧ SameIn (·.perf) t s ∧ SameIn (·.rte) t s := by
  unfold On coldRoundsCompleteOp
  dsimp only
  (repeat' split) <;> simp

@[simp] theorem collisionOp_frame (partnerClaim : Word) (s : State) : On (collisionOp partnerClaim s) fun t =>
    t.freeCtr = s.freeCtr ∧ t.mod = s.mod ∧ t.acc = s.acc ∧ t.img = s.img ∧ t.ixl = s.ixl ∧ t.sheets = s.sheets ∧ t.fch = s.fch ∧
    t.sup = s.sup ∧ t.plink = s.plink ∧ t.tap = s.tap ∧ t.pending = s.pending ∧ SameIn (·.core) t s ∧ SameIn (·.clk) t s ∧ SameIn
    (·.pwr) t s ∧ SameIn (·.tbs) t s ∧ SameIn (·.mmu) t s ∧ SameIn (·.dma) t s ∧ SameIn (·.arbE) t s ∧ SameIn (·.arbD) t s ∧ SameIn
    (·.cvu) t s ∧ SameIn (·.perf) t s ∧ SameIn (·.rte) t s := by
  unfold On collisionOp
  dsimp only
  (repeat' split) <;> simp

@[simp] theorem backoffExpiredOp_frame (s : State) : On (backoffExpiredOp s) fun t =>
    t.freeCtr = s.freeCtr ∧ t.mod = s.mod ∧ t.lanes = s.lanes ∧ t.acc = s.acc ∧ t.img = s.img ∧ t.ixl = s.ixl ∧ t.sheets = s.sheets
    ∧ t.fch = s.fch ∧ t.sup = s.sup ∧ t.host = s.host ∧ t.rcd = s.rcd ∧ t.plink = s.plink ∧ t.tap = s.tap ∧ t.pending = s.pending := by
  unfold On backoffExpiredOp
  simp

@[simp] theorem State_loseLead_frame (s : State) (higher : Word) : On (State.loseLead s higher) fun t =>
    t.freeCtr = s.freeCtr ∧ t.mod.mode = s.mod.mode ∧ t.acc = s.acc ∧ t.img = s.img ∧ t.ixl = s.ixl ∧ t.sheets = s.sheets ∧ t.tap =
    s.tap ∧ t.pending = s.pending ∧ SameIn (·.core) t s ∧ SameIn (·.clk) t s ∧ SameIn (·.pwr) t s ∧ SameIn (·.tbs) t s ∧ SameIn
    (·.mmu) t s ∧ SameIn (·.dma) t s ∧ SameIn (·.arbE) t s ∧ SameIn (·.arbD) t s ∧ SameIn (·.cvu) t s ∧ SameIn (·.perf) t s ∧
    SameIn (·.rte) t s := by
  unfold On State.loseLead
  dsimp only
  (repeat' split) <;> simp

@[simp] theorem abandonedOp_frame (otherClaim : Word) (s : State) : On (abandonedOp otherClaim s) fun t =>
    t.freeCtr = s.freeCtr ∧ t.mod.mode = s.mod.mode ∧ t.acc = s.acc ∧ t.img = s.img ∧ t.ixl = s.ixl ∧ t.sheets = s.sheets ∧ t.tap =
    s.tap ∧ t.pending = s.pending ∧ SameIn (·.core) t s ∧ SameIn (·.clk) t s ∧ SameIn (·.pwr) t s ∧ SameIn (·.tbs) t s ∧ SameIn
    (·.mmu) t s ∧ SameIn (·.dma) t s ∧ SameIn (·.arbE) t s ∧ SameIn (·.arbD) t s ∧ SameIn (·.cvu) t s ∧ SameIn (·.perf) t s ∧
    SameIn (·.rte) t s := by
  unfold On abandonedOp
  dsimp only
  (repeat' split) <;> simp

@[simp] theorem networkSilenceOp_frame (s : State) : On (networkSilenceOp s) fun t =>
    t.freeCtr = s.freeCtr ∧ t.mod = s.mod ∧ t.lanes = s.lanes ∧ t.acc = s.acc ∧ t.img = s.img ∧ t.ixl = s.ixl ∧ t.sheets = s.sheets
    ∧ t.fch = s.fch ∧ t.sup = s.sup ∧ t.host = s.host ∧ t.rcd = s.rcd ∧ t.plink = s.plink ∧ t.tap = s.tap ∧ t.pending = s.pending := by
  unfold On networkSilenceOp
  dsimp only
  (repeat' split) <;> simp

@[simp] theorem networkTimePersistOp_frame (s : State) : On (networkTimePersistOp s) fun t =>
    t.freeCtr = s.freeCtr ∧ t.mod = s.mod ∧ t.lanes = s.lanes ∧ t.acc = s.acc ∧ t.img = s.img ∧ t.ixl = s.ixl ∧ t.sheets = s.sheets
    ∧ t.fch = s.fch ∧ t.sup = s.sup ∧ t.host = s.host ∧ t.rcd = s.rcd ∧ t.plink = s.plink ∧ t.tap = s.tap ∧ t.pending = s.pending := by
  unfold On networkTimePersistOp
  simp

@[simp] theorem State_hubAbort_frame (s : State) (port : ℕ) (slot : ℕ) (bytes : List Byte) : On (State.hubAbort s port slot bytes) fun
    t =>
    t.freeCtr = s.freeCtr ∧ t.mod = s.mod ∧ t.lanes = s.lanes ∧ t.acc = s.acc ∧ t.img = s.img ∧ t.ixl = s.ixl ∧ t.sheets = s.sheets
    ∧ t.fch = s.fch ∧ t.sup = s.sup ∧ t.host = s.host ∧ t.rcd = s.rcd ∧ t.plink = s.plink ∧ t.tap = s.tap ∧ t.pending = s.pending := by
  unfold On State.hubAbort
  simp

@[simp] theorem State_flagTx_frame (s : State) (l : Lane) : On (State.flagTx s l) fun t =>
    t.freeCtr = s.freeCtr ∧ t.tap = s.tap ∧ t.pending = s.pending ∧ SameIn (·.pwr) t s ∧ SameIn (·.tbs) t s ∧ SameIn (·.dma) t s ∧
    SameIn (·.cvu) t s ∧ SameIn (·.perf) t s ∧ SameIn (·.rte) t s := by
  unfold On State.flagTx
  dsimp only
  (repeat' split) <;> simp

@[simp] theorem State_noMajority_frame (s : State) (node : ℕ) (d : NodeDef) (slot : ℕ) (ofs : ℕ) (bytes : List Byte) : On
    (State.noMajority s node d slot ofs bytes) fun t =>
    t.freeCtr = s.freeCtr ∧ t.mod = s.mod ∧ t.img = s.img ∧ t.ixl = s.ixl ∧ t.sheets = s.sheets ∧ t.fch = s.fch ∧ t.sup = s.sup ∧
    t.plink = s.plink ∧ t.tap = s.tap ∧ t.pending = s.pending ∧ SameIn (·.core) t s ∧ SameIn (·.clk) t s ∧ SameIn (·.pwr) t s ∧
    SameIn (·.tbs) t s ∧ SameIn (·.mmu) t s ∧ SameIn (·.dma) t s ∧ SameIn (·.arbE) t s ∧ SameIn (·.arbD) t s ∧ SameIn (·.cvu) t s ∧
    SameIn (·.perf) t s ∧ SameIn (·.rte) t s := by
  unfold On State.noMajority
  simp

@[simp] theorem State_shareVoted_frame (s : State) (node : ℕ) (bytes : List Byte) : On (State.shareVoted s node bytes) fun t =>
    t.freeCtr = s.freeCtr ∧ t.mod = s.mod ∧ t.lanes = s.lanes ∧ t.acc = s.acc ∧ t.img = s.img ∧ t.ixl = s.ixl ∧ t.sheets = s.sheets
    ∧ t.net = s.net ∧ t.fch = s.fch ∧ t.sup = s.sup ∧ t.host = s.host ∧ t.rcd = s.rcd ∧ t.tap = s.tap ∧ t.pending = s.pending := by
  unfold On State.shareVoted
  simp

@[simp] theorem State_voteSlot_frame (s : State) (node : ℕ) (d : NodeDef) (slot : ℕ) (faults : PerLane (List (ℕ × Byte))) : On
    (State.voteSlot s node d slot faults) fun t =>
    t.freeCtr = s.freeCtr ∧ t.tap = s.tap ∧ t.pending = s.pending ∧ SameIn (·.pwr) t s ∧ SameIn (·.tbs) t s ∧ SameIn (·.dma) t s ∧
    SameIn (·.cvu) t s ∧ SameIn (·.perf) t s ∧ SameIn (·.rte) t s := by
  unfold On State.voteSlot
  dsimp only
  (repeat' split) <;> simp

@[simp] theorem State_sendLead_frame (s : State) (node : ℕ) : On (State.sendLead s node) fun t =>
    t.freeCtr = s.freeCtr ∧ t.mod = s.mod ∧ t.lanes = s.lanes ∧ t.acc = s.acc ∧ t.img = s.img ∧ t.ixl = s.ixl ∧ t.sheets = s.sheets
    ∧ t.fch = s.fch ∧ t.sup = s.sup ∧ t.host = s.host ∧ t.rcd = s.rcd ∧ t.plink = s.plink ∧ t.tap = s.tap ∧ t.pending = s.pending := by
  unfold On State.sendLead
  dsimp only
  (repeat' split) <;> simp

@[simp] theorem slotVoteOp_frame (node : ℕ) (faults : PerLane (List (ℕ × Byte))) (s : State) : On (slotVoteOp node faults s) fun t =>
    t.freeCtr = s.freeCtr ∧ t.tap = s.tap ∧ t.pending = s.pending ∧ SameIn (·.pwr) t s ∧ SameIn (·.tbs) t s ∧ SameIn (·.dma) t s ∧
    SameIn (·.cvu) t s ∧ SameIn (·.perf) t s ∧ SameIn (·.rte) t s := by
  unfold On slotVoteOp
  dsimp only
  (repeat' split) <;> simp

@[simp] theorem partnerLateOp_frame (node : ℕ) (s : State) : On (partnerLateOp node s) fun t =>
    t.freeCtr = s.freeCtr ∧ t.mod = s.mod ∧ t.lanes = s.lanes ∧ t.acc = s.acc ∧ t.img = s.img ∧ t.ixl = s.ixl ∧ t.sheets = s.sheets
    ∧ t.fch = s.fch ∧ t.sup = s.sup ∧ t.host = s.host ∧ t.rcd = s.rcd ∧ t.plink = s.plink ∧ t.tap = s.tap ∧ t.pending = s.pending := by
  unfold On partnerLateOp
  simp

@[simp] theorem State_sendGrant_frame (s : State) (port : ℕ) (slot : ℕ) (node : ℕ) (data : List Byte) : On (State.sendGrant s port slot
    node data) fun t =>
    t.freeCtr = s.freeCtr ∧ t.mod = s.mod ∧ t.lanes = s.lanes ∧ t.acc = s.acc ∧ t.img = s.img ∧ t.ixl = s.ixl ∧ t.sheets = s.sheets
    ∧ t.fch = s.fch ∧ t.sup = s.sup ∧ t.host = s.host ∧ t.rcd = s.rcd ∧ t.plink = s.plink ∧ t.tap = s.tap ∧ t.pending = s.pending := by
  unfold On State.sendGrant
  simp

@[simp] theorem grantWindowOp_frame (port : ℕ) (s : State) : On (grantWindowOp port s) fun t =>
    t.freeCtr = s.freeCtr ∧ t.mod = s.mod ∧ t.lanes = s.lanes ∧ t.acc = s.acc ∧ t.img = s.img ∧ t.ixl = s.ixl ∧ t.sheets = s.sheets
    ∧ t.fch = s.fch ∧ t.sup = s.sup ∧ t.host = s.host ∧ t.rcd = s.rcd ∧ t.plink = s.plink ∧ t.tap = s.tap ∧ t.pending = s.pending := by
  unfold On grantWindowOp
  dsimp only
  (repeat' split) <;> simp

@[simp] theorem probeReplyOp_frame (port : ℕ) (arrival : ℕ) (bytes : List Byte) (s : State) : On (probeReplyOp port arrival bytes s)
    fun t =>
    t.freeCtr = s.freeCtr ∧ t.mod = s.mod ∧ t.lanes = s.lanes ∧ t.acc = s.acc ∧ t.img = s.img ∧ t.ixl = s.ixl ∧ t.sheets = s.sheets
    ∧ t.fch = s.fch ∧ t.sup = s.sup ∧ t.host = s.host ∧ t.rcd = s.rcd ∧ t.plink = s.plink ∧ t.tap = s.tap ∧ t.pending = s.pending := by
  unfold On probeReplyOp
  dsimp only
  (repeat' split) <;> simp

@[simp] theorem rangingEndOp_frame (port : ℕ) (tooLong : Bool) (s : State) : On (rangingEndOp port tooLong s) fun t =>
    t.freeCtr = s.freeCtr ∧ t.mod = s.mod ∧ t.lanes = s.lanes ∧ t.acc = s.acc ∧ t.img = s.img ∧ t.ixl = s.ixl ∧ t.sheets = s.sheets
    ∧ t.fch = s.fch ∧ t.sup = s.sup ∧ t.host = s.host ∧ t.rcd = s.rcd ∧ t.plink = s.plink ∧ t.tap = s.tap ∧ t.pending = s.pending := by
  unfold On rangingEndOp
  dsimp only
  (repeat' split) <;> simp

@[simp] theorem State_modSpare_frame (s : State) (d : NodeDef) (slots : List ℕ) (f : Word → Word) : On (State.modSpare s d slots f) fun
    t =>
    t.freeCtr = s.freeCtr ∧ t.mod = s.mod ∧ t.lanes = s.lanes ∧ t.acc = s.acc ∧ t.img = s.img ∧ t.ixl = s.ixl ∧ t.sheets = s.sheets
    ∧ t.fch = s.fch ∧ t.sup = s.sup ∧ t.host = s.host ∧ t.rcd = s.rcd ∧ t.plink = s.plink ∧ t.tap = s.tap ∧ t.pending = s.pending := by
  unfold On State.modSpare
  simp

@[simp] theorem State_queueGrant_frame (s : State) (port : ℕ) (node : ℕ) (data : List Byte) : On (State.queueGrant s port node data)
    fun t =>
    t.freeCtr = s.freeCtr ∧ t.mod = s.mod ∧ t.lanes = s.lanes ∧ t.acc = s.acc ∧ t.img = s.img ∧ t.ixl = s.ixl ∧ t.sheets = s.sheets
    ∧ t.fch = s.fch ∧ t.sup = s.sup ∧ t.host = s.host ∧ t.rcd = s.rcd ∧ t.plink = s.plink ∧ t.tap = s.tap ∧ t.pending = s.pending := by
  unfold On State.queueGrant
  simp

@[simp] theorem State_applyGrant_frame (s : State) (n : ℕ) (d : NodeDef) (u : ℕ) (w : ℕ) (fromRound : Word) : On (State.applyGrant s n
    d u w fromRound) fun t =>
    t.freeCtr = s.freeCtr ∧ t.mod = s.mod ∧ t.acc = s.acc ∧ t.img = s.img ∧ t.ixl = s.ixl ∧ t.sheets = s.sheets ∧ t.fch = s.fch ∧
    t.sup = s.sup ∧ t.plink = s.plink ∧ t.tap = s.tap ∧ t.pending = s.pending ∧ SameIn (·.core) t s ∧ SameIn (·.clk) t s ∧ SameIn
    (·.pwr) t s ∧ SameIn (·.tbs) t s ∧ SameIn (·.mmu) t s ∧ SameIn (·.dma) t s ∧ SameIn (·.arbE) t s ∧ SameIn (·.arbD) t s ∧ SameIn
    (·.cvu) t s ∧ SameIn (·.perf) t s ∧ SameIn (·.rte) t s := by
  unfold On State.applyGrant
  simp

@[simp] theorem State_recordRefused_frame (s : State) (id : ℕ) (port : ℕ) (reason : ℕ) : On (State.recordRefused s id port reason) fun
    t =>
    t.freeCtr = s.freeCtr ∧ t.mod = s.mod ∧ t.acc = s.acc ∧ t.img = s.img ∧ t.ixl = s.ixl ∧ t.sheets = s.sheets ∧ t.net = s.net ∧
    t.fch = s.fch ∧ t.sup = s.sup ∧ t.plink = s.plink ∧ t.tap = s.tap ∧ t.pending = s.pending ∧ SameIn (·.core) t s ∧ SameIn
    (·.clk) t s ∧ SameIn (·.pwr) t s ∧ SameIn (·.tbs) t s ∧ SameIn (·.mmu) t s ∧ SameIn (·.dma) t s ∧ SameIn (·.arbE) t s ∧ SameIn
    (·.arbD) t s ∧ SameIn (·.cvu) t s ∧ SameIn (·.perf) t s ∧ SameIn (·.rte) t s := by
  unfold On State.recordRefused
  simp

@[simp] theorem State_queueRefused_frame (s : State) (id : ℕ) (port : ℕ) (reason : ℕ) : On (State.queueRefused s id port reason) fun t
    =>
    t.freeCtr = s.freeCtr ∧ t.mod = s.mod ∧ t.lanes = s.lanes ∧ t.acc = s.acc ∧ t.img = s.img ∧ t.ixl = s.ixl ∧ t.sheets = s.sheets
    ∧ t.fch = s.fch ∧ t.sup = s.sup ∧ t.host = s.host ∧ t.rcd = s.rcd ∧ t.plink = s.plink ∧ t.tap = s.tap ∧ t.pending = s.pending := by
  unfold On State.queueRefused
  simp

@[simp] theorem State_refuseClaim_frame (s : State) (id : ℕ) (port : ℕ) (reason : ℕ) : On (State.refuseClaim s id port reason) fun t =>
    t.freeCtr = s.freeCtr ∧ t.mod = s.mod ∧ t.acc = s.acc ∧ t.img = s.img ∧ t.ixl = s.ixl ∧ t.sheets = s.sheets ∧ t.fch = s.fch ∧
    t.sup = s.sup ∧ t.tap = s.tap ∧ t.pending = s.pending ∧ SameIn (·.core) t s ∧ SameIn (·.clk) t s ∧ SameIn (·.pwr) t s ∧ SameIn
    (·.tbs) t s ∧ SameIn (·.mmu) t s ∧ SameIn (·.dma) t s ∧ SameIn (·.arbE) t s ∧ SameIn (·.arbD) t s ∧ SameIn (·.cvu) t s ∧ SameIn
    (·.perf) t s ∧ SameIn (·.rte) t s := by
  unfold On State.refuseClaim
  simp

@[simp] theorem grantReleasedOp_frame (n : ℕ) (s : State) : On (grantReleasedOp n s) fun t =>
    t.freeCtr = s.freeCtr ∧ t.mod = s.mod ∧ t.acc = s.acc ∧ t.img = s.img ∧ t.ixl = s.ixl ∧ t.sheets = s.sheets ∧ t.fch = s.fch ∧
    t.sup = s.sup ∧ t.plink = s.plink ∧ t.tap = s.tap ∧ t.pending = s.pending ∧ SameIn (·.core) t s ∧ SameIn (·.clk) t s ∧ SameIn
    (·.pwr) t s ∧ SameIn (·.tbs) t s ∧ SameIn (·.mmu) t s ∧ SameIn (·.dma) t s ∧ SameIn (·.arbE) t s ∧ SameIn (·.arbD) t s ∧ SameIn
    (·.cvu) t s ∧ SameIn (·.perf) t s ∧ SameIn (·.rte) t s := by
  unfold On grantReleasedOp
  dsimp only
  (repeat' split) <;> simp

@[simp] theorem bankSwitchOp_frame (s : State) : On (bankSwitchOp s) fun t =>
    t.freeCtr = s.freeCtr ∧ t.mod = s.mod ∧ t.acc = s.acc ∧ t.img = s.img ∧ t.ixl = s.ixl ∧ t.sheets = s.sheets ∧ t.fch = s.fch ∧
    t.sup = s.sup ∧ t.plink = s.plink ∧ t.tap = s.tap ∧ t.pending = s.pending ∧ SameIn (·.core) t s ∧ SameIn (·.clk) t s ∧ SameIn
    (·.pwr) t s ∧ SameIn (·.tbs) t s ∧ SameIn (·.mmu) t s ∧ SameIn (·.dma) t s ∧ SameIn (·.arbE) t s ∧ SameIn (·.arbD) t s ∧ SameIn
    (·.cvu) t s ∧ SameIn (·.perf) t s ∧ SameIn (·.rte) t s := by
  unfold On bankSwitchOp
  dsimp only
  (repeat' split) <;> simp

@[simp] theorem State_judgeBank_frame (s : State) (round : Word) (partnerCrc : Word) (armed : Bool) : On (State.judgeBank s round
    partnerCrc armed) fun t =>
    t.freeCtr = s.freeCtr ∧ t.mod = s.mod ∧ t.acc = s.acc ∧ t.img = s.img ∧ t.ixl = s.ixl ∧ t.sheets = s.sheets ∧ t.fch = s.fch ∧
    t.sup = s.sup ∧ t.plink = s.plink ∧ t.tap = s.tap ∧ t.pending = s.pending ∧ SameIn (·.core) t s ∧ SameIn (·.clk) t s ∧ SameIn
    (·.pwr) t s ∧ SameIn (·.tbs) t s ∧ SameIn (·.mmu) t s ∧ SameIn (·.dma) t s ∧ SameIn (·.arbE) t s ∧ SameIn (·.arbD) t s ∧ SameIn
    (·.cvu) t s ∧ SameIn (·.perf) t s ∧ SameIn (·.rte) t s := by
  unfold On State.judgeBank
  simp

@[simp] theorem bankCrcExchangeOp_frame (partnerCrc : Word) (partnerArmed : Bool) (s : State) : On (bankCrcExchangeOp partnerCrc
    partnerArmed s) fun t =>
    t.freeCtr = s.freeCtr ∧ t.mod = s.mod ∧ t.acc = s.acc ∧ t.img = s.img ∧ t.ixl = s.ixl ∧ t.sheets = s.sheets ∧ t.fch = s.fch ∧
    t.sup = s.sup ∧ t.tap = s.tap ∧ t.pending = s.pending ∧ SameIn (·.core) t s ∧ SameIn (·.clk) t s ∧ SameIn (·.pwr) t s ∧ SameIn
    (·.tbs) t s ∧ SameIn (·.mmu) t s ∧ SameIn (·.dma) t s ∧ SameIn (·.arbE) t s ∧ SameIn (·.arbD) t s ∧ SameIn (·.cvu) t s ∧ SameIn
    (·.perf) t s ∧ SameIn (·.rte) t s := by
  unfold On bankCrcExchangeOp
  dsimp only
  (repeat' split) <;> simp

@[simp] theorem State_deposit_frame (s : State) (n : ℕ) (f : Frame) : On (State.deposit s n f) fun t =>
    t.freeCtr = s.freeCtr ∧ t.mod = s.mod ∧ t.lanes = s.lanes ∧ t.img = s.img ∧ t.ixl = s.ixl ∧ t.sheets = s.sheets ∧ t.net = s.net
    ∧ t.fch = s.fch ∧ t.sup = s.sup ∧ t.host = s.host ∧ t.rcd = s.rcd ∧ t.plink = s.plink ∧ t.tap = s.tap ∧ t.pending = s.pending := by
  unfold On State.deposit
  simp

@[simp] theorem State_recordDiscard_frame (s : State) (node : Option ℕ) (port : ℕ) (cause : ℕ) : On (State.recordDiscard s node port
    cause) fun t =>
    t.freeCtr = s.freeCtr ∧ t.mod = s.mod ∧ t.acc = s.acc ∧ t.img = s.img ∧ t.ixl = s.ixl ∧ t.sheets = s.sheets ∧ t.net = s.net ∧
    t.fch = s.fch ∧ t.sup = s.sup ∧ t.plink = s.plink ∧ t.tap = s.tap ∧ t.pending = s.pending ∧ SameIn (·.core) t s ∧ SameIn
    (·.clk) t s ∧ SameIn (·.pwr) t s ∧ SameIn (·.tbs) t s ∧ SameIn (·.mmu) t s ∧ SameIn (·.dma) t s ∧ SameIn (·.arbE) t s ∧ SameIn
    (·.arbD) t s ∧ SameIn (·.cvu) t s ∧ SameIn (·.perf) t s ∧ SameIn (·.rte) t s := by
  unfold On State.recordDiscard
  simp

@[simp] theorem State_closeAccess_frame (s : State) (n : ℕ) (port : ℕ) : On (State.closeAccess s n port) fun t =>
    t.freeCtr = s.freeCtr ∧ t.mod = s.mod ∧ t.acc = s.acc ∧ t.img = s.img ∧ t.ixl = s.ixl ∧ t.sheets = s.sheets ∧ t.fch = s.fch ∧
    t.sup = s.sup ∧ t.plink = s.plink ∧ t.tap = s.tap ∧ t.pending = s.pending ∧ SameIn (·.core) t s ∧ SameIn (·.clk) t s ∧ SameIn
    (·.pwr) t s ∧ SameIn (·.tbs) t s ∧ SameIn (·.mmu) t s ∧ SameIn (·.dma) t s ∧ SameIn (·.arbE) t s ∧ SameIn (·.arbD) t s ∧ SameIn
    (·.cvu) t s ∧ SameIn (·.perf) t s ∧ SameIn (·.rte) t s := by
  unfold On State.closeAccess
  simp

@[simp] theorem State_countEdge_frame (s : State) (node : Option ℕ) (port : ℕ) (cause : ℕ) : On (State.countEdge s node port cause) fun
    t =>
    t.freeCtr = s.freeCtr ∧ t.mod = s.mod ∧ t.acc = s.acc ∧ t.img = s.img ∧ t.ixl = s.ixl ∧ t.sheets = s.sheets ∧ t.fch = s.fch ∧
    t.sup = s.sup ∧ t.plink = s.plink ∧ t.tap = s.tap ∧ t.pending = s.pending ∧ SameIn (·.core) t s ∧ SameIn (·.clk) t s ∧ SameIn
    (·.pwr) t s ∧ SameIn (·.tbs) t s ∧ SameIn (·.mmu) t s ∧ SameIn (·.dma) t s ∧ SameIn (·.arbE) t s ∧ SameIn (·.arbD) t s ∧ SameIn
    (·.cvu) t s ∧ SameIn (·.perf) t s ∧ SameIn (·.rte) t s := by
  unfold On State.countEdge
  dsimp only
  (repeat' split) <;> simp

@[simp] theorem State_heardFrame_frame (s : State) (n : ℕ) (port : ℕ) (hdr : ℕ) : On (State.heardFrame s n port hdr) fun t =>
    t.freeCtr = s.freeCtr ∧ t.mod = s.mod ∧ t.acc = s.acc ∧ t.img = s.img ∧ t.ixl = s.ixl ∧ t.sheets = s.sheets ∧ t.fch = s.fch ∧
    t.sup = s.sup ∧ t.plink = s.plink ∧ t.tap = s.tap ∧ t.pending = s.pending ∧ SameIn (·.core) t s ∧ SameIn (·.clk) t s ∧ SameIn
    (·.pwr) t s ∧ SameIn (·.tbs) t s ∧ SameIn (·.mmu) t s ∧ SameIn (·.dma) t s ∧ SameIn (·.arbE) t s ∧ SameIn (·.arbD) t s ∧ SameIn
    (·.cvu) t s ∧ SameIn (·.perf) t s ∧ SameIn (·.rte) t s := by
  unfold On State.heardFrame
  simp

@[simp] theorem State_pairCopy_frame (s : State) (n : ℕ) (d : NodeDef) (c : WaitCopy) : On (State.pairCopy s n d c) fun t =>
    t.freeCtr = s.freeCtr ∧ t.mod = s.mod ∧ t.img = s.img ∧ t.ixl = s.ixl ∧ t.sheets = s.sheets ∧ t.fch = s.fch ∧ t.sup = s.sup ∧
    t.plink = s.plink ∧ t.tap = s.tap ∧ t.pending = s.pending ∧ SameIn (·.core) t s ∧ SameIn (·.clk) t s ∧ SameIn (·.pwr) t s ∧
    SameIn (·.tbs) t s ∧ SameIn (·.mmu) t s ∧ SameIn (·.dma) t s ∧ SameIn (·.arbE) t s ∧ SameIn (·.arbD) t s ∧ SameIn (·.cvu) t s ∧
    SameIn (·.perf) t s ∧ SameIn (·.rte) t s := by
  unfold On State.pairCopy
  dsimp only
  (repeat' split) <;> simp

@[simp] theorem State_storeDiag_frame (s : State) (n : ℕ) (slot : ℕ) (chY : Bool) (mode : ℕ) (payload : List Byte) : On
    (State.storeDiag s n slot chY mode payload) fun t =>
    t.freeCtr = s.freeCtr ∧ t.mod = s.mod ∧ t.lanes = s.lanes ∧ t.acc = s.acc ∧ t.img = s.img ∧ t.ixl = s.ixl ∧ t.sheets = s.sheets
    ∧ t.fch = s.fch ∧ t.sup = s.sup ∧ t.host = s.host ∧ t.rcd = s.rcd ∧ t.plink = s.plink ∧ t.tap = s.tap ∧ t.pending = s.pending := by
  unfold On State.storeDiag
  simp

@[simp] theorem State_recordConflict_frame (s : State) (node : ℕ) (dest : ℕ) (report : ℕ) : On (State.recordConflict s node dest
    report) fun t =>
    t.freeCtr = s.freeCtr ∧ t.mod = s.mod ∧ t.acc = s.acc ∧ t.img = s.img ∧ t.ixl = s.ixl ∧ t.sheets = s.sheets ∧ t.net = s.net ∧
    t.fch = s.fch ∧ t.sup = s.sup ∧ t.plink = s.plink ∧ t.tap = s.tap ∧ t.pending = s.pending ∧ SameIn (·.core) t s ∧ SameIn
    (·.clk) t s ∧ SameIn (·.pwr) t s ∧ SameIn (·.tbs) t s ∧ SameIn (·.mmu) t s ∧ SameIn (·.dma) t s ∧ SameIn (·.arbE) t s ∧ SameIn
    (·.arbD) t s ∧ SameIn (·.cvu) t s ∧ SameIn (·.perf) t s ∧ SameIn (·.rte) t s := by
  unfold On State.recordConflict
  simp

@[simp] theorem State_dataFrame_frame (s : State) (n : ℕ) (port : ℕ) (d : NodeDef) (dest : ℕ) (bytes : List Byte) (payload : List Byte)
    : On (State.dataFrame s n port d dest bytes payload) fun t =>
    t.freeCtr = s.freeCtr ∧ t.mod = s.mod ∧ t.img = s.img ∧ t.ixl = s.ixl ∧ t.sheets = s.sheets ∧ t.fch = s.fch ∧ t.sup = s.sup ∧
    t.plink = s.plink ∧ t.tap = s.tap ∧ t.pending = s.pending ∧ SameIn (·.core) t s ∧ SameIn (·.clk) t s ∧ SameIn (·.pwr) t s ∧
    SameIn (·.tbs) t s ∧ SameIn (·.mmu) t s ∧ SameIn (·.dma) t s ∧ SameIn (·.arbE) t s ∧ SameIn (·.arbD) t s ∧ SameIn (·.cvu) t s ∧
    SameIn (·.perf) t s ∧ SameIn (·.rte) t s := by
  unfold On State.dataFrame
  simp

@[simp] theorem State_breakSilence_frame (s : State) (bytes : List Byte) (whole : Bool) : On (State.breakSilence s bytes whole) fun t
    =>
    t.freeCtr = s.freeCtr ∧ t.mod = s.mod ∧ t.lanes = s.lanes ∧ t.acc = s.acc ∧ t.img = s.img ∧ t.ixl = s.ixl ∧ t.sheets = s.sheets
    ∧ t.fch = s.fch ∧ t.sup = s.sup ∧ t.host = s.host ∧ t.rcd = s.rcd ∧ t.plink = s.plink ∧ t.tap = s.tap ∧ t.pending = s.pending := by
  unfold On State.breakSilence
  dsimp only
  (repeat' split) <;> simp

@[simp] theorem closureHoldEndOp_frame (n : ℕ) (ch : NetChan) (s : State) : On (closureHoldEndOp n ch s) fun t =>
    t.freeCtr = s.freeCtr ∧ t.mod = s.mod ∧ t.lanes = s.lanes ∧ t.acc = s.acc ∧ t.img = s.img ∧ t.ixl = s.ixl ∧ t.sheets = s.sheets
    ∧ t.fch = s.fch ∧ t.sup = s.sup ∧ t.host = s.host ∧ t.rcd = s.rcd ∧ t.plink = s.plink ∧ t.tap = s.tap ∧ t.pending = s.pending := by
  unfold On closureHoldEndOp
  simp

@[simp] theorem pairingDeadlineOp_frame (n : ℕ) (s : State) : On (pairingDeadlineOp n s) fun t =>
    t.freeCtr = s.freeCtr ∧ t.mod = s.mod ∧ t.lanes = s.lanes ∧ t.img = s.img ∧ t.ixl = s.ixl ∧ t.sheets = s.sheets ∧ t.fch = s.fch
    ∧ t.sup = s.sup ∧ t.host = s.host ∧ t.rcd = s.rcd ∧ t.plink = s.plink ∧ t.tap = s.tap ∧ t.pending = s.pending := by
  unfold On pairingDeadlineOp
  dsimp only
  (repeat' split) <;> simp

@[simp] theorem membershipLostOp_frame (n : ℕ) (ch : NetChan) (s : State) : On (membershipLostOp n ch s) fun t =>
    t.freeCtr = s.freeCtr ∧ t.mod = s.mod ∧ t.acc = s.acc ∧ t.img = s.img ∧ t.ixl = s.ixl ∧ t.sheets = s.sheets ∧ t.fch = s.fch ∧
    t.sup = s.sup ∧ t.plink = s.plink ∧ t.tap = s.tap ∧ t.pending = s.pending ∧ SameIn (·.core) t s ∧ SameIn (·.clk) t s ∧ SameIn
    (·.pwr) t s ∧ SameIn (·.tbs) t s ∧ SameIn (·.mmu) t s ∧ SameIn (·.dma) t s ∧ SameIn (·.arbE) t s ∧ SameIn (·.arbD) t s ∧ SameIn
    (·.cvu) t s ∧ SameIn (·.perf) t s ∧ SameIn (·.rte) t s := by
  unfold On membershipLostOp
  simp

@[simp] theorem channelLossEndOp_frame (n : ℕ) (ch : NetChan) (s : State) : On (channelLossEndOp n ch s) fun t =>
    t.freeCtr = s.freeCtr ∧ t.mod = s.mod ∧ t.lanes = s.lanes ∧ t.acc = s.acc ∧ t.img = s.img ∧ t.ixl = s.ixl ∧ t.sheets = s.sheets
    ∧ t.fch = s.fch ∧ t.sup = s.sup ∧ t.host = s.host ∧ t.rcd = s.rcd ∧ t.plink = s.plink ∧ t.tap = s.tap ∧ t.pending = s.pending := by
  unfold On channelLossEndOp
  simp

@[simp] theorem comparatorSampleOp_frame (levels : PerLane (BitVec 64)) (halfUs : ℕ) (s : State) : On (comparatorSampleOp levels halfUs
    s) fun t =>
    t.freeCtr = s.freeCtr ∧ t.mod = s.mod ∧ t.lanes = s.lanes ∧ t.acc = s.acc ∧ t.img = s.img ∧ t.ixl = s.ixl ∧ t.sheets = s.sheets
    ∧ t.net = s.net ∧ t.sup = s.sup ∧ t.host = s.host ∧ t.rcd = s.rcd ∧ t.plink = s.plink ∧ t.tap = s.tap ∧ t.pending = s.pending := by
  unfold On comparatorSampleOp
  simp

@[simp] theorem diagnosticEventOp_frame (l : Lane) (ch : Option ℕ) (inAck : Bool) (s : State) : On (diagnosticEventOp l ch inAck s) fun
    t =>
    t.freeCtr = s.freeCtr ∧ t.mod = s.mod ∧ t.acc = s.acc ∧ t.img = s.img ∧ t.ixl = s.ixl ∧ t.sheets = s.sheets ∧ t.net = s.net ∧
    t.sup = s.sup ∧ t.plink = s.plink ∧ t.tap = s.tap ∧ t.pending = s.pending ∧ SameIn (·.pwr) t s ∧ SameIn (·.tbs) t s ∧ SameIn
    (·.mmu) t s ∧ SameIn (·.dma) t s ∧ SameIn (·.arbE) t s ∧ SameIn (·.arbD) t s ∧ SameIn (·.cvu) t s ∧ SameIn (·.perf) t s ∧
    SameIn (·.rte) t s := by
  unfold On diagnosticEventOp
  simp

@[simp] theorem State_noteFault_frame (s : State) (before : State) (ch : ℕ) (bit : ℕ) (p : ChSense → Bool) : On (State.noteFault s
    before ch bit p) fun t =>
    t.freeCtr = s.freeCtr ∧ t.mod = s.mod ∧ t.acc = s.acc ∧ t.img = s.img ∧ t.ixl = s.ixl ∧ t.sheets = s.sheets ∧ t.net = s.net ∧
    t.fch = s.fch ∧ t.sup = s.sup ∧ t.plink = s.plink ∧ t.tap = s.tap ∧ t.pending = s.pending ∧ SameIn (·.core) t s ∧ SameIn
    (·.clk) t s ∧ SameIn (·.pwr) t s ∧ SameIn (·.tbs) t s ∧ SameIn (·.mmu) t s ∧ SameIn (·.dma) t s ∧ SameIn (·.arbE) t s ∧ SameIn
    (·.arbD) t s ∧ SameIn (·.cvu) t s ∧ SameIn (·.perf) t s ∧ SameIn (·.rte) t s := by
  unfold On State.noteFault
  dsimp only
  (repeat' split) <;> simp

@[simp] theorem dynamicFrameOp_frame (l : Lane) (high : List ℕ) (low : List ℕ) (s : State) : On (dynamicFrameOp l high low s) fun t =>
    t.freeCtr = s.freeCtr ∧ t.mod = s.mod ∧ t.acc = s.acc ∧ t.img = s.img ∧ t.ixl = s.ixl ∧ t.sheets = s.sheets ∧ t.net = s.net ∧
    t.sup = s.sup ∧ t.plink = s.plink ∧ t.tap = s.tap ∧ t.pending = s.pending ∧ SameIn (·.core) t s ∧ SameIn (·.clk) t s ∧ SameIn
    (·.pwr) t s ∧ SameIn (·.tbs) t s ∧ SameIn (·.mmu) t s ∧ SameIn (·.dma) t s ∧ SameIn (·.arbE) t s ∧ SameIn (·.arbD) t s ∧ SameIn
    (·.cvu) t s ∧ SameIn (·.perf) t s ∧ SameIn (·.rte) t s := by
  unfold On dynamicFrameOp
  simp

@[simp] theorem State_setDiscrepancy_frame (s : State) (l : Lane) (pair : ℕ) (v : Bool) : On (State.setDiscrepancy s l pair v) fun t =>
    t.freeCtr = s.freeCtr ∧ t.mod = s.mod ∧ t.acc = s.acc ∧ t.img = s.img ∧ t.ixl = s.ixl ∧ t.sheets = s.sheets ∧ t.net = s.net ∧
    t.sup = s.sup ∧ t.plink = s.plink ∧ t.tap = s.tap ∧ t.pending = s.pending ∧ SameIn (·.core) t s ∧ SameIn (·.clk) t s ∧ SameIn
    (·.pwr) t s ∧ SameIn (·.tbs) t s ∧ SameIn (·.mmu) t s ∧ SameIn (·.dma) t s ∧ SameIn (·.arbE) t s ∧ SameIn (·.arbD) t s ∧ SameIn
    (·.cvu) t s ∧ SameIn (·.perf) t s ∧ SameIn (·.rte) t s := by
  unfold On State.setDiscrepancy
  simp

@[simp] theorem discrepancyExpiredOp_frame (l : Lane) (pair : ℕ) (s : State) : On (discrepancyExpiredOp l pair s) fun t =>
    t.freeCtr = s.freeCtr ∧ t.mod = s.mod ∧ t.acc = s.acc ∧ t.img = s.img ∧ t.ixl = s.ixl ∧ t.sheets = s.sheets ∧ t.net = s.net ∧
    t.sup = s.sup ∧ t.plink = s.plink ∧ t.tap = s.tap ∧ t.pending = s.pending ∧ SameIn (·.core) t s ∧ SameIn (·.clk) t s ∧ SameIn
    (·.pwr) t s ∧ SameIn (·.tbs) t s ∧ SameIn (·.mmu) t s ∧ SameIn (·.dma) t s ∧ SameIn (·.arbE) t s ∧ SameIn (·.arbD) t s ∧ SameIn
    (·.cvu) t s ∧ SameIn (·.perf) t s ∧ SameIn (·.rte) t s := by
  unfold On discrepancyExpiredOp
  simp

@[simp] theorem discrepancyClearedOp_frame (l : Lane) (pair : ℕ) (s : State) : On (discrepancyClearedOp l pair s) fun t =>
    t.freeCtr = s.freeCtr ∧ t.mod = s.mod ∧ t.acc = s.acc ∧ t.img = s.img ∧ t.ixl = s.ixl ∧ t.sheets = s.sheets ∧ t.net = s.net ∧
    t.sup = s.sup ∧ t.plink = s.plink ∧ t.tap = s.tap ∧ t.pending = s.pending ∧ SameIn (·.core) t s ∧ SameIn (·.clk) t s ∧ SameIn
    (·.pwr) t s ∧ SameIn (·.tbs) t s ∧ SameIn (·.mmu) t s ∧ SameIn (·.dma) t s ∧ SameIn (·.arbE) t s ∧ SameIn (·.arbD) t s ∧ SameIn
    (·.cvu) t s ∧ SameIn (·.perf) t s ∧ SameIn (·.rte) t s := by
  unfold On discrepancyClearedOp
  simp

@[simp] theorem State_setSupply_frame (s : State) (l : Lane) (g : ℕ) (vfld : ℕ) (lost : Bool) : On (State.setSupply s l g vfld lost)
    fun t =>
    t.freeCtr = s.freeCtr ∧ t.mod = s.mod ∧ t.acc = s.acc ∧ t.img = s.img ∧ t.ixl = s.ixl ∧ t.sheets = s.sheets ∧ t.net = s.net ∧
    t.sup = s.sup ∧ t.plink = s.plink ∧ t.tap = s.tap ∧ t.pending = s.pending ∧ SameIn (·.clk) t s ∧ SameIn (·.pwr) t s ∧ SameIn
    (·.tbs) t s ∧ SameIn (·.mmu) t s ∧ SameIn (·.dma) t s ∧ SameIn (·.arbE) t s ∧ SameIn (·.arbD) t s ∧ SameIn (·.cvu) t s ∧ SameIn
    (·.perf) t s ∧ SameIn (·.rte) t s := by
  unfold On State.setSupply
  simp

@[simp] theorem vfldLostOp_frame (l : Lane) (g : ℕ) (vfld : ℕ) (s : State) : On (vfldLostOp l g vfld s) fun t =>
    t.freeCtr = s.freeCtr ∧ t.mod = s.mod ∧ t.acc = s.acc ∧ t.img = s.img ∧ t.ixl = s.ixl ∧ t.sheets = s.sheets ∧ t.net = s.net ∧
    t.sup = s.sup ∧ t.plink = s.plink ∧ t.tap = s.tap ∧ t.pending = s.pending ∧ SameIn (·.clk) t s ∧ SameIn (·.pwr) t s ∧ SameIn
    (·.tbs) t s ∧ SameIn (·.mmu) t s ∧ SameIn (·.dma) t s ∧ SameIn (·.arbE) t s ∧ SameIn (·.arbD) t s ∧ SameIn (·.cvu) t s ∧ SameIn
    (·.perf) t s ∧ SameIn (·.rte) t s := by
  unfold On vfldLostOp
  simp

@[simp] theorem vfldRestoredOp_frame (l : Lane) (g : ℕ) (vfld : ℕ) (s : State) : On (vfldRestoredOp l g vfld s) fun t =>
    t.freeCtr = s.freeCtr ∧ t.mod = s.mod ∧ t.acc = s.acc ∧ t.img = s.img ∧ t.ixl = s.ixl ∧ t.sheets = s.sheets ∧ t.net = s.net ∧
    t.sup = s.sup ∧ t.plink = s.plink ∧ t.tap = s.tap ∧ t.pending = s.pending ∧ SameIn (·.clk) t s ∧ SameIn (·.pwr) t s ∧ SameIn
    (·.tbs) t s ∧ SameIn (·.mmu) t s ∧ SameIn (·.dma) t s ∧ SameIn (·.arbE) t s ∧ SameIn (·.arbD) t s ∧ SameIn (·.cvu) t s ∧ SameIn
    (·.perf) t s ∧ SameIn (·.rte) t s := by
  unfold On vfldRestoredOp
  simp

@[simp] theorem switchTestOp_frame (ch : ℕ) (high : Bool) (senders : LaneSet) (s : State) : On (switchTestOp ch high senders s) fun t
    =>
    t.freeCtr = s.freeCtr ∧ t.mod = s.mod ∧ t.lanes = s.lanes ∧ t.acc = s.acc ∧ t.img = s.img ∧ t.ixl = s.ixl ∧ t.sheets = s.sheets
    ∧ t.net = s.net ∧ t.sup = s.sup ∧ t.host = s.host ∧ t.rcd = s.rcd ∧ t.plink = s.plink ∧ t.tap = s.tap ∧ t.pending = s.pending := by
  unfold On switchTestOp
  dsimp only
  (repeat' split) <;> simp

@[simp] theorem testAbortOp_frame (l : Lane) (ch : ℕ) (high : Bool) (s : State) : On (testAbortOp l ch high s) fun t =>
    t.freeCtr = s.freeCtr ∧ t.mod = s.mod ∧ t.lanes = s.lanes ∧ t.acc = s.acc ∧ t.img = s.img ∧ t.ixl = s.ixl ∧ t.sheets = s.sheets
    ∧ t.net = s.net ∧ t.sup = s.sup ∧ t.host = s.host ∧ t.rcd = s.rcd ∧ t.plink = s.plink ∧ t.tap = s.tap ∧ t.pending = s.pending := by
  unfold On testAbortOp
  dsimp only
  (repeat' split) <;> simp

@[simp] theorem testRevertOp_frame (ch : ℕ) (high : Bool) (s : State) : On (testRevertOp ch high s) fun t =>
    t.freeCtr = s.freeCtr ∧ t.mod = s.mod ∧ t.lanes = s.lanes ∧ t.acc = s.acc ∧ t.img = s.img ∧ t.ixl = s.ixl ∧ t.sheets = s.sheets
    ∧ t.net = s.net ∧ t.sup = s.sup ∧ t.host = s.host ∧ t.rcd = s.rcd ∧ t.plink = s.plink ∧ t.tap = s.tap ∧ t.pending = s.pending := by
  unfold On testRevertOp
  simp

@[simp] theorem testResultOp_frame (ch : ℕ) (high : Bool) (readings : PerLane TestReading) (s : State) : On (testResultOp ch high
    readings s) fun t =>
    t.freeCtr = s.freeCtr ∧ t.mod = s.mod ∧ t.acc = s.acc ∧ t.img = s.img ∧ t.ixl = s.ixl ∧ t.sheets = s.sheets ∧ t.net = s.net ∧
    t.sup = s.sup ∧ t.plink = s.plink ∧ t.tap = s.tap ∧ t.pending = s.pending ∧ SameIn (·.clk) t s ∧ SameIn (·.pwr) t s ∧ SameIn
    (·.tbs) t s ∧ SameIn (·.mmu) t s ∧ SameIn (·.dma) t s ∧ SameIn (·.arbE) t s ∧ SameIn (·.arbD) t s ∧ SameIn (·.cvu) t s ∧ SameIn
    (·.perf) t s ∧ SameIn (·.rte) t s := by
  unfold On testResultOp
  dsimp only
  (repeat' split) <;> simp

@[simp] theorem voterTestOp_frame (unchanged : Bool) (reported : Bool) (s : State) : On (voterTestOp unchanged reported s) fun t =>
    t.freeCtr = s.freeCtr ∧ t.mod = s.mod ∧ t.acc = s.acc ∧ t.img = s.img ∧ t.ixl = s.ixl ∧ t.sheets = s.sheets ∧ t.net = s.net ∧
    t.sup = s.sup ∧ t.plink = s.plink ∧ t.tap = s.tap ∧ t.pending = s.pending ∧ SameIn (·.core) t s ∧ SameIn (·.clk) t s ∧ SameIn
    (·.pwr) t s ∧ SameIn (·.tbs) t s ∧ SameIn (·.mmu) t s ∧ SameIn (·.dma) t s ∧ SameIn (·.arbE) t s ∧ SameIn (·.arbD) t s ∧ SameIn
    (·.cvu) t s ∧ SameIn (·.perf) t s ∧ SameIn (·.rte) t s := by
  unfold On voterTestOp
  simp

@[simp] theorem silentTimeoutOp_frame (l : Lane) (ch : ℕ) (s : State) : On (silentTimeoutOp l ch s) fun t =>
    t.freeCtr = s.freeCtr ∧ t.mod = s.mod ∧ t.lanes = s.lanes ∧ t.acc = s.acc ∧ t.img = s.img ∧ t.ixl = s.ixl ∧ t.sheets = s.sheets
    ∧ t.net = s.net ∧ t.sup = s.sup ∧ t.host = s.host ∧ t.rcd = s.rcd ∧ t.plink = s.plink ∧ t.tap = s.tap ∧ t.pending = s.pending := by
  unfold On silentTimeoutOp
  simp

@[simp] theorem voteWithdrawOp_frame (l : Lane) (s : State) : On (voteWithdrawOp l s) fun t =>
    t.freeCtr = s.freeCtr ∧ t.mod = s.mod ∧ t.lanes = s.lanes ∧ t.img = s.img ∧ t.ixl = s.ixl ∧ t.sheets = s.sheets ∧ t.sup = s.sup
    ∧ t.host = s.host ∧ t.rcd = s.rcd ∧ t.plink = s.plink ∧ t.tap = s.tap ∧ t.pending = s.pending := by
  unfold On voteWithdrawOp
  simp

@[simp] theorem minorityExpiredOp_frame (l : Lane) (ch : ℕ) (s : State) : On (minorityExpiredOp l ch s) fun t =>
    t.freeCtr = s.freeCtr ∧ t.mod = s.mod ∧ t.lanes = s.lanes ∧ t.acc = s.acc ∧ t.img = s.img ∧ t.ixl = s.ixl ∧ t.sheets = s.sheets
    ∧ t.net = s.net ∧ t.sup = s.sup ∧ t.host = s.host ∧ t.rcd = s.rcd ∧ t.plink = s.plink ∧ t.tap = s.tap ∧ t.pending = s.pending := by
  unfold On minorityExpiredOp
  simp

@[simp] theorem State_overloadChannel_frame (s : State) (ch : ℕ) : On (State.overloadChannel s ch) fun t =>
    t.freeCtr = s.freeCtr ∧ t.mod = s.mod ∧ t.acc = s.acc ∧ t.img = s.img ∧ t.ixl = s.ixl ∧ t.sheets = s.sheets ∧ t.net = s.net ∧
    t.sup = s.sup ∧ t.plink = s.plink ∧ t.tap = s.tap ∧ t.pending = s.pending ∧ SameIn (·.core) t s ∧ SameIn (·.clk) t s ∧ SameIn
    (·.pwr) t s ∧ SameIn (·.tbs) t s ∧ SameIn (·.mmu) t s ∧ SameIn (·.dma) t s ∧ SameIn (·.arbE) t s ∧ SameIn (·.arbD) t s ∧ SameIn
    (·.cvu) t s ∧ SameIn (·.perf) t s ∧ SameIn (·.rte) t s := by
  unfold On State.overloadChannel
  dsimp only
  (repeat' split) <;> simp

@[simp] theorem channelOverloadOp_frame (ch : ℕ) (s : State) : On (channelOverloadOp ch s) fun t =>
    t.freeCtr = s.freeCtr ∧ t.mod = s.mod ∧ t.acc = s.acc ∧ t.img = s.img ∧ t.ixl = s.ixl ∧ t.sheets = s.sheets ∧ t.net = s.net ∧
    t.sup = s.sup ∧ t.plink = s.plink ∧ t.tap = s.tap ∧ t.pending = s.pending ∧ SameIn (·.core) t s ∧ SameIn (·.clk) t s ∧ SameIn
    (·.pwr) t s ∧ SameIn (·.tbs) t s ∧ SameIn (·.mmu) t s ∧ SameIn (·.dma) t s ∧ SameIn (·.arbE) t s ∧ SameIn (·.arbD) t s ∧ SameIn
    (·.cvu) t s ∧ SameIn (·.perf) t s ∧ SameIn (·.rte) t s := by
  unfold On channelOverloadOp
  simp

@[simp] theorem switchOvertemperatureOp_frame (ch : ℕ) (s : State) : On (switchOvertemperatureOp ch s) fun t =>
    t.freeCtr = s.freeCtr ∧ t.mod = s.mod ∧ t.acc = s.acc ∧ t.img = s.img ∧ t.ixl = s.ixl ∧ t.sheets = s.sheets ∧ t.net = s.net ∧
    t.sup = s.sup ∧ t.plink = s.plink ∧ t.tap = s.tap ∧ t.pending = s.pending ∧ SameIn (·.core) t s ∧ SameIn (·.clk) t s ∧ SameIn
    (·.pwr) t s ∧ SameIn (·.tbs) t s ∧ SameIn (·.mmu) t s ∧ SameIn (·.dma) t s ∧ SameIn (·.arbE) t s ∧ SameIn (·.arbD) t s ∧ SameIn
    (·.cvu) t s ∧ SameIn (·.perf) t s ∧ SameIn (·.rte) t s := by
  unfold On switchOvertemperatureOp
  simp

@[simp] theorem State_openGroup_frame (s : State) (g : ℕ) (ma : ℕ) (cause : ℕ) : On (State.openGroup s g ma cause) fun t =>
    t.freeCtr = s.freeCtr ∧ t.mod = s.mod ∧ t.acc = s.acc ∧ t.img = s.img ∧ t.ixl = s.ixl ∧ t.sheets = s.sheets ∧ t.net = s.net ∧
    t.sup = s.sup ∧ t.plink = s.plink ∧ t.tap = s.tap ∧ t.pending = s.pending ∧ SameIn (·.core) t s ∧ SameIn (·.clk) t s ∧ SameIn
    (·.pwr) t s ∧ SameIn (·.tbs) t s ∧ SameIn (·.mmu) t s ∧ SameIn (·.dma) t s ∧ SameIn (·.arbE) t s ∧ SameIn (·.arbD) t s ∧ SameIn
    (·.cvu) t s ∧ SameIn (·.perf) t s ∧ SameIn (·.rte) t s := by
  unfold On State.openGroup
  simp

@[simp] theorem groupOverloadOp_frame (g : ℕ) (ma : ℕ) (s : State) : On (groupOverloadOp g ma s) fun t =>
    t.freeCtr = s.freeCtr ∧ t.mod = s.mod ∧ t.acc = s.acc ∧ t.img = s.img ∧ t.ixl = s.ixl ∧ t.sheets = s.sheets ∧ t.net = s.net ∧
    t.sup = s.sup ∧ t.plink = s.plink ∧ t.tap = s.tap ∧ t.pending = s.pending ∧ SameIn (·.core) t s ∧ SameIn (·.clk) t s ∧ SameIn
    (·.pwr) t s ∧ SameIn (·.tbs) t s ∧ SameIn (·.mmu) t s ∧ SameIn (·.dma) t s ∧ SameIn (·.arbE) t s ∧ SameIn (·.arbD) t s ∧ SameIn
    (·.cvu) t s ∧ SameIn (·.perf) t s ∧ SameIn (·.rte) t s := by
  unfold On groupOverloadOp
  simp

@[simp] theorem reenableOp_frame (u : OverloadUnit) (s : State) : On (reenableOp u s) fun t =>
    t.freeCtr = s.freeCtr ∧ t.mod = s.mod ∧ t.acc = s.acc ∧ t.img = s.img ∧ t.ixl = s.ixl ∧ t.sheets = s.sheets ∧ t.net = s.net ∧
    t.sup = s.sup ∧ t.plink = s.plink ∧ t.tap = s.tap ∧ t.pending = s.pending ∧ SameIn (·.core) t s ∧ SameIn (·.clk) t s ∧ SameIn
    (·.pwr) t s ∧ SameIn (·.tbs) t s ∧ SameIn (·.mmu) t s ∧ SameIn (·.dma) t s ∧ SameIn (·.arbE) t s ∧ SameIn (·.arbD) t s ∧ SameIn
    (·.cvu) t s ∧ SameIn (·.perf) t s ∧ SameIn (·.rte) t s := by
  unfold On reenableOp
  dsimp only
  (repeat' split) <;> simp

@[simp] theorem vrdTokenOp_frame (l : Lane) (parity : Bool) (offsetUs : ℕ) (s : State) : On (vrdTokenOp l parity offsetUs s) fun t =>
    t.freeCtr = s.freeCtr ∧ t.mod = s.mod ∧ t.acc = s.acc ∧ t.img = s.img ∧ t.ixl = s.ixl ∧ t.sheets = s.sheets ∧ t.net = s.net ∧
    t.sup = s.sup ∧ t.plink = s.plink ∧ t.tap = s.tap ∧ t.pending = s.pending ∧ SameIn (·.core) t s ∧ SameIn (·.clk) t s ∧ SameIn
    (·.pwr) t s ∧ SameIn (·.tbs) t s ∧ SameIn (·.mmu) t s ∧ SameIn (·.dma) t s ∧ SameIn (·.arbE) t s ∧ SameIn (·.arbD) t s ∧ SameIn
    (·.cvu) t s ∧ SameIn (·.perf) t s ∧ SameIn (·.rte) t s := by
  unfold On vrdTokenOp
  simp

@[simp] theorem vrdTimeoutOp_frame (s : State) : On (vrdTimeoutOp s) fun t =>
    t.freeCtr = s.freeCtr ∧ t.mod = s.mod ∧ t.acc = s.acc ∧ t.img = s.img ∧ t.ixl = s.ixl ∧ t.sheets = s.sheets ∧ t.net = s.net ∧
    t.sup = s.sup ∧ t.plink = s.plink ∧ t.tap = s.tap ∧ t.pending = s.pending ∧ SameIn (·.core) t s ∧ SameIn (·.clk) t s ∧ SameIn
    (·.pwr) t s ∧ SameIn (·.tbs) t s ∧ SameIn (·.mmu) t s ∧ SameIn (·.dma) t s ∧ SameIn (·.arbE) t s ∧ SameIn (·.arbD) t s ∧ SameIn
    (·.cvu) t s ∧ SameIn (·.perf) t s ∧ SameIn (·.rte) t s := by
  unfold On vrdTimeoutOp
  simp

@[simp] theorem ioForceEndOp_frame (ch : ℕ) (s : State) : On (ioForceEndOp ch s) fun t =>
    t.freeCtr = s.freeCtr ∧ t.mod = s.mod ∧ t.acc = s.acc ∧ t.img = s.img ∧ t.ixl = s.ixl ∧ t.sheets = s.sheets ∧ t.net = s.net ∧
    t.sup = s.sup ∧ t.plink = s.plink ∧ t.tap = s.tap ∧ t.pending = s.pending ∧ SameIn (·.core) t s ∧ SameIn (·.clk) t s ∧ SameIn
    (·.pwr) t s ∧ SameIn (·.tbs) t s ∧ SameIn (·.mmu) t s ∧ SameIn (·.dma) t s ∧ SameIn (·.arbE) t s ∧ SameIn (·.arbD) t s ∧ SameIn
    (·.cvu) t s ∧ SameIn (·.perf) t s ∧ SameIn (·.rte) t s := by
  unfold On ioForceEndOp
  simp

@[simp] theorem State_hostRecord_frame (s : State) (type : ℕ) (payload : List Byte) : On (State.hostRecord s type payload) fun t =>
    t.freeCtr = s.freeCtr ∧ t.mod = s.mod ∧ t.acc = s.acc ∧ t.img = s.img ∧ t.ixl = s.ixl ∧ t.sheets = s.sheets ∧ t.net = s.net ∧
    t.fch = s.fch ∧ t.sup = s.sup ∧ t.plink = s.plink ∧ t.tap = s.tap ∧ t.pending = s.pending ∧ SameIn (·.core) t s ∧ SameIn
    (·.clk) t s ∧ SameIn (·.pwr) t s ∧ SameIn (·.tbs) t s ∧ SameIn (·.mmu) t s ∧ SameIn (·.dma) t s ∧ SameIn (·.arbE) t s ∧ SameIn
    (·.arbD) t s ∧ SameIn (·.cvu) t s ∧ SameIn (·.perf) t s ∧ SameIn (·.rte) t s := by
  unfold On State.hostRecord
  simp

@[simp] theorem State_issueChallenge_frame (s : State) (h : CmdHdr) (role : Role) (hk : Bool) : On (State.issueChallenge s h role hk)
    fun t =>
    t.freeCtr = s.freeCtr ∧ t.mod = s.mod ∧ t.lanes = s.lanes ∧ t.acc = s.acc ∧ t.img = s.img ∧ t.ixl = s.ixl ∧ t.sheets = s.sheets
    ∧ t.net = s.net ∧ t.fch = s.fch ∧ t.sup = s.sup ∧ t.rcd = s.rcd ∧ t.plink = s.plink ∧ t.tap = s.tap ∧ t.pending = s.pending := by
  unfold On State.issueChallenge
  simp

@[simp] theorem State_refuseWith_frame (s : State) (h : CmdHdr) (opcode : ℕ) (st : ℕ) : On (State.refuseWith s h opcode st) fun t =>
    t.freeCtr = s.freeCtr ∧ t.mod = s.mod ∧ t.acc = s.acc ∧ t.img = s.img ∧ t.ixl = s.ixl ∧ t.sheets = s.sheets ∧ t.net = s.net ∧
    t.fch = s.fch ∧ t.sup = s.sup ∧ t.plink = s.plink ∧ t.tap = s.tap ∧ t.pending = s.pending ∧ SameIn (·.core) t s ∧ SameIn
    (·.clk) t s ∧ SameIn (·.pwr) t s ∧ SameIn (·.tbs) t s ∧ SameIn (·.mmu) t s ∧ SameIn (·.dma) t s ∧ SameIn (·.arbE) t s ∧ SameIn
    (·.arbD) t s ∧ SameIn (·.cvu) t s ∧ SameIn (·.perf) t s ∧ SameIn (·.rte) t s := by
  unfold On State.refuseWith
  simp

@[simp] theorem State_fuseEffect_frame (s : State) (f : FuseOp) : On (State.fuseEffect s f) fun t =>
    t.freeCtr = s.freeCtr ∧ t.mod.mode = s.mod.mode ∧ t.acc = s.acc ∧ t.sheets = s.sheets ∧ t.net = s.net ∧ t.fch = s.fch ∧ t.sup =
    s.sup ∧ t.plink = s.plink ∧ t.tap = s.tap ∧ t.pending = s.pending ∧ SameIn (·.core) t s ∧ SameIn (·.clk) t s ∧ SameIn (·.pwr) t
    s ∧ SameIn (·.tbs) t s ∧ SameIn (·.mmu) t s ∧ SameIn (·.dma) t s ∧ SameIn (·.arbE) t s ∧ SameIn (·.arbD) t s ∧ SameIn (·.cvu) t
    s ∧ SameIn (·.perf) t s ∧ SameIn (·.rte) t s := by
  unfold On State.fuseEffect
  dsimp only
  (repeat' split) <;> simp

@[simp] theorem fuseCompleteOp_frame (readbackOk : Bool) (s : State) : On (fuseCompleteOp readbackOk s) fun t =>
    t.freeCtr = s.freeCtr ∧ t.mod.mode = s.mod.mode ∧ t.acc = s.acc ∧ t.sheets = s.sheets ∧ t.net = s.net ∧ t.fch = s.fch ∧ t.sup =
    s.sup ∧ t.plink = s.plink ∧ t.tap = s.tap ∧ t.pending = s.pending ∧ SameIn (·.core) t s ∧ SameIn (·.clk) t s ∧ SameIn (·.pwr) t
    s ∧ SameIn (·.tbs) t s ∧ SameIn (·.mmu) t s ∧ SameIn (·.dma) t s ∧ SameIn (·.arbE) t s ∧ SameIn (·.arbD) t s ∧ SameIn (·.cvu) t
    s ∧ SameIn (·.perf) t s ∧ SameIn (·.rte) t s := by
  unfold On fuseCompleteOp
  dsimp only
  (repeat' split) <;> simp

@[simp] theorem State_takePortOut_frame (s : State) (port : ℕ) : On (State.takePortOut s port) fun t =>
    t.freeCtr = s.freeCtr ∧ t.mod = s.mod ∧ t.lanes = s.lanes ∧ t.acc = s.acc ∧ t.img = s.img ∧ t.ixl = s.ixl ∧ t.sheets = s.sheets
    ∧ t.fch = s.fch ∧ t.sup = s.sup ∧ t.host = s.host ∧ t.rcd = s.rcd ∧ t.plink = s.plink ∧ t.tap = s.tap ∧ t.pending = s.pending := by
  unfold On State.takePortOut
  simp

@[simp] theorem State_returnPort_frame (s : State) (port : ℕ) : On (State.returnPort s port) fun t =>
    t.freeCtr = s.freeCtr ∧ t.mod = s.mod ∧ t.lanes = s.lanes ∧ t.acc = s.acc ∧ t.img = s.img ∧ t.ixl = s.ixl ∧ t.sheets = s.sheets
    ∧ t.fch = s.fch ∧ t.sup = s.sup ∧ t.host = s.host ∧ t.rcd = s.rcd ∧ t.plink = s.plink ∧ t.tap = s.tap ∧ t.pending = s.pending := by
  unfold On State.returnPort
  simp

@[simp] theorem State_requestSwitch_frame (s : State) (l : Lane) (round : Word) (crc : Word) : On (State.requestSwitch s l round crc)
    fun t =>
    t.freeCtr = s.freeCtr ∧ t.mod = s.mod ∧ t.lanes = s.lanes ∧ t.acc = s.acc ∧ t.img = s.img ∧ t.ixl = s.ixl ∧ t.sheets = s.sheets
    ∧ t.fch = s.fch ∧ t.sup = s.sup ∧ t.host = s.host ∧ t.rcd = s.rcd ∧ t.plink = s.plink ∧ t.tap = s.tap ∧ t.pending = s.pending := by
  unfold On State.requestSwitch
  simp

@[simp] theorem State_armSwitch_frame (s : State) (round : Word) (crc : Word) (done : Option Completion) : On (State.armSwitch s round
    crc done) fun t =>
    t.freeCtr = s.freeCtr ∧ t.mod = s.mod ∧ t.lanes = s.lanes ∧ t.acc = s.acc ∧ t.img = s.img ∧ t.ixl = s.ixl ∧ t.sheets = s.sheets
    ∧ t.fch = s.fch ∧ t.sup = s.sup ∧ t.host = s.host ∧ t.rcd = s.rcd ∧ t.plink = s.plink ∧ t.tap = s.tap ∧ t.pending = s.pending := by
  unfold On State.armSwitch
  simp

@[simp] theorem State_answerEnable_frame (s : State) (status : ℕ) : On (State.answerEnable s status) fun t =>
    t.freeCtr = s.freeCtr ∧ t.mod = s.mod ∧ t.lanes = s.lanes ∧ t.acc = s.acc ∧ t.img = s.img ∧ t.ixl = s.ixl ∧ t.sheets = s.sheets
    ∧ t.net = s.net ∧ t.fch = s.fch ∧ t.sup = s.sup ∧ t.rcd = s.rcd ∧ t.tap = s.tap ∧ t.pending = s.pending := by
  unfold On State.answerEnable
  dsimp only
  (repeat' split) <;> simp

@[simp] theorem State_beginFreeze_frame (s : State) (source : ℕ) : On (State.beginFreeze s source) fun t =>
    t.freeCtr = s.freeCtr ∧ t.mod = s.mod ∧ t.lanes = s.lanes ∧ t.acc = s.acc ∧ t.img = s.img ∧ t.ixl = s.ixl ∧ t.sheets = s.sheets
    ∧ t.net = s.net ∧ t.fch = s.fch ∧ t.sup = s.sup ∧ t.plink = s.plink ∧ t.tap = s.tap ∧ t.pending = s.pending := by
  unfold On State.beginFreeze
  simp

@[simp] theorem State_thaw_frame (s : State) (event : ℕ) : On (State.thaw s event) fun t =>
    t.freeCtr = s.freeCtr ∧ t.mod = s.mod ∧ t.lanes = s.lanes ∧ t.acc = s.acc ∧ t.img = s.img ∧ t.ixl = s.ixl ∧ t.sheets = s.sheets
    ∧ t.net = s.net ∧ t.fch = s.fch ∧ t.sup = s.sup ∧ t.plink = s.plink ∧ t.tap = s.tap ∧ t.pending = s.pending := by
  unfold On State.thaw
  simp

@[simp] theorem State_clearStore_frame (s : State) (h : CmdHdr) (upTo : ℕ) : On (State.clearStore s h upTo) fun t =>
    t.freeCtr = s.freeCtr ∧ t.mod = s.mod ∧ t.lanes = s.lanes ∧ t.acc = s.acc ∧ t.img = s.img ∧ t.ixl = s.ixl ∧ t.sheets = s.sheets
    ∧ t.net = s.net ∧ t.fch = s.fch ∧ t.sup = s.sup ∧ t.plink = s.plink ∧ t.tap = s.tap ∧ t.pending = s.pending := by
  unfold On State.clearStore
  simp

@[simp] theorem recordHandoverOp_frame (l : Lane) (laneLocal : Bool) (type : ℕ) (payload : List Byte) (s : State) : On
    (recordHandoverOp l laneLocal type payload s) fun t =>
    t.freeCtr = s.freeCtr ∧ t.mod = s.mod ∧ t.acc = s.acc ∧ t.img = s.img ∧ t.ixl = s.ixl ∧ t.sheets = s.sheets ∧ t.net = s.net ∧
    t.fch = s.fch ∧ t.sup = s.sup ∧ t.plink = s.plink ∧ t.tap = s.tap ∧ t.pending = s.pending ∧ SameIn (·.clk) t s ∧ SameIn (·.pwr)
    t s ∧ SameIn (·.tbs) t s ∧ SameIn (·.mmu) t s ∧ SameIn (·.dma) t s ∧ SameIn (·.arbE) t s ∧ SameIn (·.arbD) t s ∧ SameIn (·.cvu)
    t s ∧ SameIn (·.perf) t s ∧ SameIn (·.rte) t s := by
  unfold On recordHandoverOp
  simp

@[simp] theorem recordCopyTimeoutOp_frame (s : State) : On (recordCopyTimeoutOp s) fun t =>
    t.freeCtr = s.freeCtr ∧ t.mod = s.mod ∧ t.lanes = s.lanes ∧ t.acc = s.acc ∧ t.img = s.img ∧ t.ixl = s.ixl ∧ t.sheets = s.sheets
    ∧ t.net = s.net ∧ t.fch = s.fch ∧ t.sup = s.sup ∧ t.plink = s.plink ∧ t.tap = s.tap ∧ t.pending = s.pending := by
  unfold On recordCopyTimeoutOp
  simp

@[simp] theorem recordCloseOp_frame (index : ℕ) (s : State) : On (recordCloseOp index s) fun t =>
    t.freeCtr = s.freeCtr ∧ t.mod = s.mod ∧ t.lanes = s.lanes ∧ t.acc = s.acc ∧ t.img = s.img ∧ t.ixl = s.ixl ∧ t.sheets = s.sheets
    ∧ t.net = s.net ∧ t.fch = s.fch ∧ t.sup = s.sup ∧ t.plink = s.plink ∧ t.tap = s.tap ∧ t.pending = s.pending := by
  unfold On recordCloseOp
  simp

@[simp] theorem State_writeStream_frame (s : State) (cycle : Word) (kind : ℕ) (stream : List Byte) : On (State.writeStream s cycle kind
    stream) fun t =>
    t.freeCtr = s.freeCtr ∧ t.mod = s.mod ∧ t.lanes = s.lanes ∧ t.acc = s.acc ∧ t.img = s.img ∧ t.ixl = s.ixl ∧ t.sheets = s.sheets
    ∧ t.net = s.net ∧ t.fch = s.fch ∧ t.sup = s.sup ∧ t.host = s.host ∧ t.plink = s.plink ∧ t.tap = s.tap ∧ t.pending = s.pending := by
  unfold On State.writeStream
  simp

@[simp] theorem State_answerMark_frame (s : State) (index : ℕ) : On (State.answerMark s index) fun t =>
    t.freeCtr = s.freeCtr ∧ t.mod = s.mod ∧ t.lanes = s.lanes ∧ t.acc = s.acc ∧ t.img = s.img ∧ t.ixl = s.ixl ∧ t.sheets = s.sheets
    ∧ t.net = s.net ∧ t.fch = s.fch ∧ t.sup = s.sup ∧ t.plink = s.plink ∧ t.tap = s.tap ∧ t.pending = s.pending := by
  unfold On State.answerMark
  dsimp only
  (repeat' split) <;> simp

@[simp] theorem State_writeCopy_frame (s : State) (c : SilCopy) : On (State.writeCopy s c) fun t =>
    t.freeCtr = s.freeCtr ∧ t.mod = s.mod ∧ t.lanes = s.lanes ∧ t.acc = s.acc ∧ t.img = s.img ∧ t.ixl = s.ixl ∧ t.sheets = s.sheets
    ∧ t.net = s.net ∧ t.fch = s.fch ∧ t.sup = s.sup ∧ t.plink = s.plink ∧ t.tap = s.tap ∧ t.pending = s.pending := by
  unfold On State.writeCopy
  simp

@[simp] theorem State_writeCycle_frame (s : State) (c : SilCopy) : On (State.writeCycle s c) fun t =>
    t.freeCtr = s.freeCtr ∧ t.mod = s.mod ∧ t.lanes = s.lanes ∧ t.acc = s.acc ∧ t.img = s.img ∧ t.ixl = s.ixl ∧ t.sheets = s.sheets
    ∧ t.net = s.net ∧ t.fch = s.fch ∧ t.sup = s.sup ∧ t.plink = s.plink ∧ t.tap = s.tap ∧ t.pending = s.pending := by
  unfold On State.writeCycle
  dsimp only
  split <;> simp

@[simp] theorem State_noteWear_frame (s : State) (sil : Bool) : On (State.noteWear s sil) fun t =>
    t.freeCtr = s.freeCtr ∧ t.mod = s.mod ∧ t.lanes = s.lanes ∧ t.acc = s.acc ∧ t.img = s.img ∧ t.ixl = s.ixl ∧ t.sheets = s.sheets
    ∧ t.net = s.net ∧ t.fch = s.fch ∧ t.sup = s.sup ∧ t.plink = s.plink ∧ t.tap = s.tap ∧ t.pending = s.pending := by
  unfold On State.noteWear
  simp

@[simp] theorem ringDrainOp_frame (s : State) : On (ringDrainOp s) fun t =>
    t.freeCtr = s.freeCtr ∧ t.mod = s.mod ∧ t.acc = s.acc ∧ t.img = s.img ∧ t.ixl = s.ixl ∧ t.sheets = s.sheets ∧ t.net = s.net ∧
    t.fch = s.fch ∧ t.sup = s.sup ∧ t.plink = s.plink ∧ t.tap = s.tap ∧ t.pending = s.pending ∧ SameIn (·.core) t s ∧ SameIn
    (·.clk) t s ∧ SameIn (·.pwr) t s ∧ SameIn (·.tbs) t s ∧ SameIn (·.mmu) t s ∧ SameIn (·.dma) t s ∧ SameIn (·.arbE) t s ∧ SameIn
    (·.arbD) t s ∧ SameIn (·.cvu) t s ∧ SameIn (·.perf) t s ∧ SameIn (·.rte) t s := by
  unfold On ringDrainOp
  dsimp only
  (repeat' split) <;> simp

@[simp] theorem State_skipKeyframe_frame (s : State) (cycle : ℕ) (reason : ℕ) : On (State.skipKeyframe s cycle reason) fun t =>
    t.freeCtr = s.freeCtr ∧ t.mod = s.mod ∧ t.acc = s.acc ∧ t.img = s.img ∧ t.ixl = s.ixl ∧ t.sheets = s.sheets ∧ t.net = s.net ∧
    t.fch = s.fch ∧ t.sup = s.sup ∧ t.plink = s.plink ∧ t.tap = s.tap ∧ t.pending = s.pending ∧ SameIn (·.core) t s ∧ SameIn
    (·.clk) t s ∧ SameIn (·.pwr) t s ∧ SameIn (·.tbs) t s ∧ SameIn (·.mmu) t s ∧ SameIn (·.dma) t s ∧ SameIn (·.arbE) t s ∧ SameIn
    (·.arbD) t s ∧ SameIn (·.cvu) t s ∧ SameIn (·.perf) t s ∧ SameIn (·.rte) t s := by
  unfold On State.skipKeyframe
  simp

@[simp] theorem State_takeKeyframe_frame (s : State) (l : Lane) : On (State.takeKeyframe s l) fun t =>
    t.mod = s.mod ∧ t.acc = s.acc ∧ t.img = s.img ∧ t.ixl = s.ixl ∧ t.sheets = s.sheets ∧ t.net = s.net ∧ t.fch = s.fch ∧ t.sup =
    s.sup ∧ t.plink = s.plink ∧ t.tap = s.tap ∧ t.pending = s.pending ∧ SameIn (·.core) t s ∧ SameIn (·.clk) t s ∧ SameIn (·.pwr) t
    s ∧ SameIn (·.tbs) t s ∧ SameIn (·.dma) t s ∧ SameIn (·.arbE) t s ∧ SameIn (·.arbD) t s ∧ SameIn (·.cvu) t s ∧ SameIn (·.perf)
    t s ∧ SameIn (·.rte) t s := by
  unfold On State.takeKeyframe
  simp

@[simp] theorem State_dropInput_frame (s : State) (l : Lane) (a : ℕ) : On (State.dropInput s l a) fun t =>
    t.mod = s.mod ∧ t.lanes = s.lanes ∧ t.img = s.img ∧ t.ixl = s.ixl ∧ t.sheets = s.sheets ∧ t.net = s.net ∧ t.fch = s.fch ∧ t.sup
    = s.sup ∧ t.rcd = s.rcd ∧ t.tap = s.tap ∧ t.pending = s.pending := by
  unfold On State.dropInput
  simp

@[simp] theorem State_dropReply_frame (s : State) (l : Lane) : On (State.dropReply s l) fun t =>
    t.freeCtr = s.freeCtr ∧ t.mod = s.mod ∧ t.lanes = s.lanes ∧ t.acc = s.acc ∧ t.img = s.img ∧ t.ixl = s.ixl ∧ t.sheets = s.sheets
    ∧ t.net = s.net ∧ t.fch = s.fch ∧ t.sup = s.sup ∧ t.rcd = s.rcd ∧ t.plink = s.plink ∧ t.tap = s.tap ∧ t.pending = s.pending := by
  unfold On State.dropReply
  dsimp only
  (repeat' split) <;> simp

@[simp] theorem State_skipBlock_frame (s : State) : On (State.skipBlock s) fun t =>
    t.freeCtr = s.freeCtr ∧ t.mod = s.mod ∧ t.lanes = s.lanes ∧ t.acc = s.acc ∧ t.img = s.img ∧ t.ixl = s.ixl ∧ t.net = s.net ∧
    t.fch = s.fch ∧ t.sup = s.sup ∧ t.host = s.host ∧ t.rcd = s.rcd ∧ t.plink = s.plink ∧ t.tap = s.tap ∧ t.pending = s.pending := by
  unfold On State.skipBlock
  dsimp only
  (repeat' split) <;> simp

@[simp] theorem State_dropPreempted_frame (s : State) : On (State.dropPreempted s) fun t =>
    t.freeCtr = s.freeCtr ∧ t.mod = s.mod ∧ t.lanes = s.lanes ∧ t.acc = s.acc ∧ t.img = s.img ∧ t.ixl = s.ixl ∧ t.net = s.net ∧
    t.fch = s.fch ∧ t.sup = s.sup ∧ t.host = s.host ∧ t.rcd = s.rcd ∧ t.plink = s.plink ∧ t.tap = s.tap ∧ t.pending = s.pending := by
  unfold On State.dropPreempted
  dsimp only
  (repeat' split) <;> simp

@[simp] theorem State_guardRefuse_frame (s : State) (l : Lane) (requester : ℕ) (a : ℕ) (write : ℕ) : On (State.guardRefuse s l
    requester a write) fun t =>
    t.freeCtr = s.freeCtr ∧ t.mod = s.mod ∧ t.acc = s.acc ∧ t.img = s.img ∧ t.ixl = s.ixl ∧ t.sheets = s.sheets ∧ t.net = s.net ∧
    t.fch = s.fch ∧ t.sup = s.sup ∧ t.plink = s.plink ∧ t.tap = s.tap ∧ t.pending = s.pending ∧ SameIn (·.clk) t s ∧ SameIn (·.pwr)
    t s ∧ SameIn (·.tbs) t s ∧ SameIn (·.dma) t s ∧ SameIn (·.arbE) t s ∧ SameIn (·.arbD) t s ∧ SameIn (·.cvu) t s ∧ SameIn
    (·.perf) t s ∧ SameIn (·.rte) t s := by
  unfold On State.guardRefuse
  simp

@[simp] theorem State_recordDma_frame (s : State) (l : Lane) (c : ℕ) (cause : ℕ) (va : ℕ) : On (State.recordDma s l c cause va) fun t
    =>
    t.freeCtr = s.freeCtr ∧ t.mod = s.mod ∧ t.acc = s.acc ∧ t.img = s.img ∧ t.ixl = s.ixl ∧ t.sheets = s.sheets ∧ t.net = s.net ∧
    t.fch = s.fch ∧ t.sup = s.sup ∧ t.plink = s.plink ∧ t.tap = s.tap ∧ t.pending = s.pending ∧ SameIn (·.clk) t s ∧ SameIn (·.pwr)
    t s ∧ SameIn (·.tbs) t s ∧ SameIn (·.mmu) t s ∧ SameIn (·.dma) t s ∧ SameIn (·.arbE) t s ∧ SameIn (·.arbD) t s ∧ SameIn (·.cvu)
    t s ∧ SameIn (·.perf) t s ∧ SameIn (·.rte) t s := by
  unfold On State.recordDma
  simp

@[simp] theorem State_spoilKeyframe_frame (s : State) (l : Lane) (c : ℕ) (cause : ℕ) : On (State.spoilKeyframe s l c cause) fun t =>
    t.freeCtr = s.freeCtr ∧ t.mod = s.mod ∧ t.acc = s.acc ∧ t.img = s.img ∧ t.ixl = s.ixl ∧ t.sheets = s.sheets ∧ t.net = s.net ∧
    t.fch = s.fch ∧ t.sup = s.sup ∧ t.host = s.host ∧ t.plink = s.plink ∧ t.tap = s.tap ∧ t.pending = s.pending ∧ SameIn (·.core) t
    s ∧ SameIn (·.clk) t s ∧ SameIn (·.pwr) t s ∧ SameIn (·.tbs) t s ∧ SameIn (·.mmu) t s ∧ SameIn (·.dma) t s ∧ SameIn (·.arbE) t
    s ∧ SameIn (·.arbD) t s ∧ SameIn (·.cvu) t s ∧ SameIn (·.perf) t s ∧ SameIn (·.rte) t s := by
  unfold On State.spoilKeyframe
  simp

@[simp] theorem State_modPending_frame (s : State) (f : Slot → Slot) : On (State.modPending s f) fun t =>
    t.freeCtr = s.freeCtr ∧ t.mod = s.mod ∧ t.lanes = s.lanes ∧ t.acc = s.acc ∧ t.ixl = s.ixl ∧ t.sheets = s.sheets ∧ t.net = s.net
    ∧ t.fch = s.fch ∧ t.sup = s.sup ∧ t.host = s.host ∧ t.rcd = s.rcd ∧ t.plink = s.plink ∧ t.tap = s.tap ∧ t.pending = s.pending := by
  unfold On State.modPending
  simp

@[simp] theorem State_recordLink_frame (s : State) (p : HostPort) (up : Bool) : On (State.recordLink s p up) fun t =>
    t.freeCtr = s.freeCtr ∧ t.mod = s.mod ∧ t.lanes = s.lanes ∧ t.acc = s.acc ∧ t.img = s.img ∧ t.ixl = s.ixl ∧ t.sheets = s.sheets
    ∧ t.net = s.net ∧ t.fch = s.fch ∧ t.sup = s.sup ∧ t.plink = s.plink ∧ t.tap = s.tap ∧ t.pending = s.pending := by
  unfold On State.recordLink
  simp

@[simp] theorem State_recordArrival_frame (s : State) (a : Arrival) (type : ℕ) (payload : List Byte) : On (State.recordArrival s a type
    payload) fun t =>
    t.freeCtr = s.freeCtr ∧ t.mod = s.mod ∧ t.acc = s.acc ∧ t.img = s.img ∧ t.ixl = s.ixl ∧ t.sheets = s.sheets ∧ t.net = s.net ∧
    t.fch = s.fch ∧ t.sup = s.sup ∧ t.plink = s.plink ∧ t.tap = s.tap ∧ t.pending = s.pending ∧ SameIn (·.core) t s ∧ SameIn
    (·.clk) t s ∧ SameIn (·.pwr) t s ∧ SameIn (·.tbs) t s ∧ SameIn (·.mmu) t s ∧ SameIn (·.dma) t s ∧ SameIn (·.arbE) t s ∧ SameIn
    (·.arbD) t s ∧ SameIn (·.cvu) t s ∧ SameIn (·.perf) t s ∧ SameIn (·.rte) t s := by
  unfold On State.recordArrival
  simp

@[simp] theorem State_closeFlood_frame (s : State) (second : ℕ) : On (State.closeFlood s second) fun t =>
    t.freeCtr = s.freeCtr ∧ t.mod = s.mod ∧ t.lanes = s.lanes ∧ t.acc = s.acc ∧ t.img = s.img ∧ t.ixl = s.ixl ∧ t.sheets = s.sheets
    ∧ t.net = s.net ∧ t.fch = s.fch ∧ t.sup = s.sup ∧ t.plink = s.plink ∧ t.tap = s.tap ∧ t.pending = s.pending := by
  unfold On State.closeFlood
  simp

@[simp] theorem State_dropCmd_frame (s : State) (c : RingCmd) : On (State.dropCmd s c) fun t =>
    t.freeCtr = s.freeCtr ∧ t.mod = s.mod ∧ t.lanes = s.lanes ∧ t.acc = s.acc ∧ t.img = s.img ∧ t.ixl = s.ixl ∧ t.sheets = s.sheets
    ∧ t.net = s.net ∧ t.fch = s.fch ∧ t.sup = s.sup ∧ t.rcd = s.rcd ∧ t.plink = s.plink ∧ t.tap = s.tap ∧ t.pending = s.pending := by
  unfold On State.dropCmd
  simp

@[simp] theorem State_sendPages_frame (s : State) : On (State.sendPages s) fun t =>
    t.mod = s.mod ∧ t.lanes = s.lanes ∧ t.acc = s.acc ∧ t.img = s.img ∧ t.ixl = s.ixl ∧ t.sheets = s.sheets ∧ t.net = s.net ∧ t.fch
    = s.fch ∧ t.sup = s.sup ∧ t.host = s.host ∧ t.rcd = s.rcd ∧ t.tap = s.tap ∧ t.pending = s.pending := by
  unfold On State.sendPages
  simp

@[simp] theorem State_recordTakeover_frame (s : State) (result : ℕ) (old : Word) (new : Word) : On (State.recordTakeover s result old
    new) fun t =>
    t.freeCtr = s.freeCtr ∧ t.mod = s.mod ∧ t.acc = s.acc ∧ t.img = s.img ∧ t.ixl = s.ixl ∧ t.sheets = s.sheets ∧ t.net = s.net ∧
    t.fch = s.fch ∧ t.sup = s.sup ∧ t.plink = s.plink ∧ t.tap = s.tap ∧ t.pending = s.pending ∧ SameIn (·.core) t s ∧ SameIn
    (·.clk) t s ∧ SameIn (·.pwr) t s ∧ SameIn (·.tbs) t s ∧ SameIn (·.mmu) t s ∧ SameIn (·.dma) t s ∧ SameIn (·.arbE) t s ∧ SameIn
    (·.arbD) t s ∧ SameIn (·.cvu) t s ∧ SameIn (·.perf) t s ∧ SameIn (·.rte) t s := by
  unfold On State.recordTakeover
  simp

@[simp] theorem State_turnChannel_frame (s : State) : On (State.turnChannel s) fun t =>
    t.freeCtr = s.freeCtr ∧ t.mod = s.mod ∧ t.lanes = s.lanes ∧ t.acc = s.acc ∧ t.img = s.img ∧ t.ixl = s.ixl ∧ t.sheets = s.sheets
    ∧ t.fch = s.fch ∧ t.sup = s.sup ∧ t.host = s.host ∧ t.rcd = s.rcd ∧ t.tap = s.tap ∧ t.pending = s.pending := by
  unfold On State.turnChannel
  simp

@[simp] theorem State_writeFault_frame (s : State) (l : Lane) (a : ℕ) (cause : ℕ) : On (State.writeFault s l a cause) fun t =>
    t.freeCtr = s.freeCtr ∧ t.mod = s.mod ∧ t.acc = s.acc ∧ t.img = s.img ∧ t.ixl = s.ixl ∧ t.sheets = s.sheets ∧ t.net = s.net ∧
    t.fch = s.fch ∧ t.sup = s.sup ∧ t.plink = s.plink ∧ t.tap = s.tap ∧ t.pending = s.pending ∧ SameIn (·.core) t s ∧ SameIn
    (·.clk) t s ∧ SameIn (·.pwr) t s ∧ SameIn (·.tbs) t s ∧ SameIn (·.mmu) t s ∧ SameIn (·.dma) t s ∧ SameIn (·.arbE) t s ∧ SameIn
    (·.arbD) t s ∧ SameIn (·.cvu) t s ∧ SameIn (·.perf) t s ∧ SameIn (·.rte) t s := by
  unfold On State.writeFault
  simp

@[simp] theorem State_dbgResult_frame (s : State) (result : ℕ) (data : Word) : On (State.dbgResult s result data) fun t =>
    t.freeCtr = s.freeCtr ∧ t.mod = s.mod ∧ t.lanes = s.lanes ∧ t.acc = s.acc ∧ t.img = s.img ∧ t.ixl = s.ixl ∧ t.sheets = s.sheets
    ∧ t.net = s.net ∧ t.fch = s.fch ∧ t.sup = s.sup ∧ t.host = s.host ∧ t.rcd = s.rcd ∧ t.plink = s.plink ∧ t.pending = s.pending := by
  unfold On State.dbgResult
  simp

@[simp] theorem State_logDebug_frame (s : State) : On (State.logDebug s) fun t =>
    t.freeCtr = s.freeCtr ∧ t.mod.mode = s.mod.mode ∧ t.lanes = s.lanes ∧ t.acc = s.acc ∧ t.img = s.img ∧ t.ixl = s.ixl ∧ t.sheets
    = s.sheets ∧ t.net = s.net ∧ t.fch = s.fch ∧ t.sup = s.sup ∧ t.host = s.host ∧ t.rcd = s.rcd ∧ t.plink = s.plink ∧ t.tap =
    s.tap ∧ t.pending = s.pending := by
  unfold On State.logDebug
  simp

@[simp] theorem State_recordDebug_frame (s : State) (lane : ℕ) (action : ℕ) : On (State.recordDebug s lane action) fun t =>
    t.freeCtr = s.freeCtr ∧ t.mod.mode = s.mod.mode ∧ t.acc = s.acc ∧ t.img = s.img ∧ t.ixl = s.ixl ∧ t.sheets = s.sheets ∧ t.net =
    s.net ∧ t.fch = s.fch ∧ t.sup = s.sup ∧ t.plink = s.plink ∧ t.tap = s.tap ∧ t.pending = s.pending ∧ SameIn (·.core) t s ∧
    SameIn (·.clk) t s ∧ SameIn (·.pwr) t s ∧ SameIn (·.tbs) t s ∧ SameIn (·.mmu) t s ∧ SameIn (·.dma) t s ∧ SameIn (·.arbE) t s ∧
    SameIn (·.arbD) t s ∧ SameIn (·.cvu) t s ∧ SameIn (·.perf) t s ∧ SameIn (·.rte) t s := by
  unfold On State.recordDebug
  simp

end Sys2Proof.Machine
end

