-- ==== Sys2Proof/Laws/Tab.lean ====
section
/-! SUPPORT. The laws of tables: a read after a put, a put leaves every other key alone, and every operation keeps the
canonical form. -/

namespace Sys2Proof

variable {α β : Type}

theorem Tab.get_put_eq (t : Tab α) (k : Nat) (v : α) : Tab.get? (Tab.put t k v) k = some v := by
  induction t with
  | nil => simp [Tab.put, Tab.get?]
  | cons p r ih =>
    obtain ⟨k', v'⟩ := p
    simp only [Tab.put]
    split
    · simp [Tab.get?]
    · split
      · simp [Tab.get?]
      · rename_i h1 h2
        simp [Tab.get?, h1, h2, ih]

theorem Tab.get_put_ne (t : Tab α) (k j : Nat) (v : α) (h : j ≠ k) (hw : Tab.wf t = true) :
    Tab.get? (Tab.put t k v) j = Tab.get? t j := by
  induction t with
  | nil => simp [Tab.put, Tab.get?, h]
  | cons p r ih =>
    obtain ⟨k', v'⟩ := p
    simp only [Tab.wf, Bool.and_eq_true] at hw
    simp only [Tab.put]
    split
    · rename_i e; subst e; simp [Tab.get?, h]
    · split
      · rename_i h1 h2
        by_cases hj : j < k
        · have : j ≠ k' := by omega
          have : j < k' := by omega
          simp [Tab.get?, *]
        · simp only [Tab.get?, h, hj, if_false]
      · simp only [Tab.get?]
        rw [ih hw.2]

theorem Tab.all_put (t : Tab α) (k : Nat) (v : α) (P : Nat × α → Bool) (h : t.all P = true) (hp : P (k, v) = true) :
    (Tab.put t k v).all P = true := by
  induction t with
  | nil => simpa [Tab.put] using hp
  | cons p r ih =>
    obtain ⟨k', v'⟩ := p
    simp only [List.all_cons, Bool.and_eq_true] at h
    simp only [Tab.put]
    split
    · simp [hp, h.2]
    · split
      · simp [hp, h.1, h.2]
      · simp [h.1, ih h.2]

theorem Tab.put_wf (t : Tab α) (k : Nat) (v : α) (h : Tab.wf t = true) : Tab.wf (Tab.put t k v) = true := by
  induction t with
  | nil => simp [Tab.put, Tab.wf]
  | cons p r ih =>
    obtain ⟨k', v'⟩ := p
    simp only [Tab.wf, Bool.and_eq_true] at h
    simp only [Tab.put]
    split
    · rename_i e; subst e; simp [Tab.wf, h.1, h.2]
    · split
      · rename_i h1 h2
        simp only [Tab.wf, Bool.and_eq_true, List.all_cons, decide_eq_true_eq]
        refine ⟨⟨h2, ?_⟩, h.1, h.2⟩
        have := h.1
        simp only [List.all_eq_true, decide_eq_true_eq] at this ⊢
        intro x hx; have := this x hx; omega
      · rename_i h1 h2
        simp only [Tab.wf, Bool.and_eq_true]
        exact ⟨Tab.all_put r k v _ h.1 (by simp; omega), ih h.2⟩

theorem Tab.all_erase (t : Tab α) (k : Nat) (P : Nat × α → Bool) (h : t.all P = true) :
    (Tab.erase t k).all P = true := by
  induction t with
  | nil => simp [Tab.erase]
  | cons p r ih =>
    obtain ⟨k', v'⟩ := p
    simp only [List.all_cons, Bool.and_eq_true] at h
    simp only [Tab.erase]
    split
    · exact h.2
    · split
      · simp [h.1, h.2]
      · simp [h.1, ih h.2]

theorem Tab.erase_wf (t : Tab α) (k : Nat) (h : Tab.wf t = true) : Tab.wf (Tab.erase t k) = true := by
  induction t with
  | nil => simp [Tab.erase, Tab.wf]
  | cons p r ih =>
    obtain ⟨k', v'⟩ := p
    simp only [Tab.wf, Bool.and_eq_true] at h
    simp only [Tab.erase]
    split
    · exact h.2
    · split
      · simp [Tab.wf, h.1, h.2]
      · simp only [Tab.wf, Bool.and_eq_true]
        exact ⟨Tab.all_erase r k _ h.1, ih h.2⟩

theorem Tab.ofList_wf (l : List (Nat × α)) : Tab.wf (Tab.ofList l) = true := by
  suffices ∀ t : Tab α, Tab.wf t = true → Tab.wf (l.foldl (fun t p => Tab.put t p.1 p.2) t) = true from this [] rfl
  induction l with
  | nil => exact fun t h => h
  | cons p r ih => exact fun t h => ih _ (Tab.put_wf t p.1 p.2 h)

end Sys2Proof
end

