-- ==== Sys2Proof/Laws/Memory.lean ====
section
/-!
SUPPORT. The laws of a lane's memory: one byte set reads back and leaves every other byte alone, and every operation that changes bytes keeps
the canonical form.
-/

namespace Sys2Proof.Machine

open Sys2Proof

theorem tab_get_erase_eq (t : Tab α) (k : Nat) (h : Tab.wf t = true) : Tab.get? (Tab.erase t k) k = none := by
  have low : ∀ r : Tab α, (r.all fun p => k < p.1) = true → Tab.get? r k = none := by
    intro r hr
    cases r with
    | nil => rfl
    | cons p r =>
      simp only [List.all_cons, Bool.and_eq_true, decide_eq_true_eq] at hr
      simp [Tab.get?, hr.1, Nat.ne_of_lt hr.1]
  induction t with
  | nil => rfl
  | cons p r ih =>
    obtain ⟨k', v'⟩ := p
    simp only [Tab.wf, Bool.and_eq_true] at h
    simp only [Tab.erase]
    split
    · rename_i e; subst e; exact low r h.1
    · split
      · rename_i h1 h2; simp [Tab.get?, h1, h2]
      · rename_i h1 h2; simp [Tab.get?, h1, h2, ih h.2]

theorem tab_get_erase_ne (t : Tab α) (k j : Nat) (h : Tab.wf t = true) (hj : j ≠ k) : Tab.get? (Tab.erase t k) j = Tab.get? t j := by
  induction t with
  | nil => rfl
  | cons p r ih =>
    obtain ⟨k', v'⟩ := p
    simp only [Tab.wf, Bool.and_eq_true] at h
    simp only [Tab.erase]
    split
    · rename_i e; subst e
      by_cases hl : j < k
      · have low : Tab.get? r j = none := by
          cases r with
          | nil => rfl
          | cons q r =>
            have := h.1
            simp only [List.all_cons, Bool.and_eq_true, decide_eq_true_eq] at this
            have h1 : j < q.1 := by omega
            simp [Tab.get?, h1, Nat.ne_of_lt h1]
        simp [Tab.get?, hj, hl, low]
      · simp [Tab.get?, hj, hl]
    · split
      · rfl
      · simp only [Tab.get?, ih h.2]

/-- A byte set reads as set. -/
theorem setByte_same (t : Tab Byte) (a : Nat) (b : Byte) (h : Tab.wf t = true) : Tab.getD (setByte t a b) a 0 = b := by
  unfold setByte Tab.getD
  split
  · rename_i e; simp [tab_get_erase_eq t a h, e]
  · simp [Tab.get_put_eq]

/-- Setting a byte leaves every other byte alone. -/
theorem setByte_other (t : Tab Byte) (a c : Nat) (b : Byte) (h : Tab.wf t = true) (hc : c ≠ a) :
    Tab.getD (setByte t a b) c 0 = Tab.getD t c 0 := by
  unfold setByte Tab.getD
  split
  · rw [tab_get_erase_ne t a c h hc]
  · rw [Tab.get_put_ne t a c b hc h]

/-- Setting a byte keeps the canonical form. -/
theorem setByte_wf (t : Tab Byte) (a : Nat) (b : Byte) (h : Memory.wf t = true) : Memory.wf (setByte t a b) = true := by
  unfold Memory.wf at *
  simp only [Bool.and_eq_true] at *
  unfold setByte
  split
  · exact ⟨Tab.erase_wf t a h.1, Tab.all_erase t a _ h.2⟩
  · rename_i hb; exact ⟨Tab.put_wf t a b h.1, Tab.all_put t a b _ h.2 (by simpa using hb)⟩

theorem setBytes_wf (ws : List (Nat × Byte)) (t : Tab Byte) (h : Memory.wf t = true) :
    Memory.wf (ws.foldl (fun t p => setByte t p.1 p.2) t) = true := by
  induction ws generalizing t with
  | nil => exact h
  | cons p r ih => exact ih _ (setByte_wf t p.1 p.2 h)

theorem setBytes_other (ws : List (Nat × Byte)) (t : Tab Byte) (a : Nat) (h : Memory.wf t = true) (ha : ∀ p ∈ ws, p.1 ≠ a) :
    Tab.getD (ws.foldl (fun t p => setByte t p.1 p.2) t) a 0 = Tab.getD t a 0 := by
  induction ws generalizing t with
  | nil => rfl
  | cons p r ih =>
    rw [List.foldl_cons, ih _ (setByte_wf t p.1 p.2 h) fun q hq => ha q (List.mem_cons_of_mem _ hq)]
    refine setByte_other t p.1 a p.2 ?_ (Ne.symm (ha p List.mem_cons_self))
    simp only [Memory.wf, Bool.and_eq_true] at h
    exact h.1

/-- A write of bytes keeps the canonical form. -/
theorem write_wf (m : MmuS) (ws : List (Nat × Byte)) (h : m.wf = true) : (m.write ws).wf = true := setBytes_wf ws m.bytes h

theorem tab_wf_filter (t : Tab α) (p : Nat × α → Bool) (h : Tab.wf t = true) : Tab.wf (List.filter p t) = true := by
  induction t with
  | nil => rfl
  | cons q r ih =>
    simp only [Tab.wf, Bool.and_eq_true] at h
    simp only [List.filter_cons]
    split
    · simp only [Tab.wf, Bool.and_eq_true]
      refine ⟨?_, ih h.2⟩
      have := h.1
      rw [List.all_eq_true] at this ⊢
      exact fun x hx => this x (List.mem_of_mem_filter hx)
    · exact ih h.2

theorem memory_wf_filter (t : Tab Byte) (p : Nat × Byte → Bool) (h : Memory.wf t = true) : Memory.wf (List.filter p t) = true := by
  simp only [Memory.wf, Bool.and_eq_true] at *
  refine ⟨tab_wf_filter t p h.1, ?_⟩
  have := h.2
  rw [List.all_eq_true] at this ⊢
  exact fun x hx => this x (List.mem_of_mem_filter hx)

theorem tab_wf_append (t u : Tab α) (ht : Tab.wf t = true) (hu : Tab.wf u = true) (h : ∀ p ∈ t, ∀ q ∈ u, p.1 < q.1) :
    Tab.wf (t ++ u) = true := by
  induction t with
  | nil => exact hu
  | cons p r ih =>
    simp only [Tab.wf, Bool.and_eq_true] at ht
    simp only [List.cons_append, Tab.wf, Bool.and_eq_true, List.all_append]
    refine ⟨⟨ht.1, ?_⟩, ih ht.2 fun p hp => h p (List.mem_cons_of_mem _ hp)⟩
    rw [List.all_eq_true]
    exact fun q hq => by simpa using h p List.mem_cons_self q hq

/-- Bytes put in place of a lane's essence keep the canonical form, when they have it and lie in essence. -/
theorem withEssence_wf (m : MmuS) (e : List (Nat × Byte)) (h : m.wf = true) (he : Memory.wf e = true)
    (hi : (e.all fun p => inEssence p.1) = true) : (m.withEssence e).wf = true := by
  have lo := memory_wf_filter m.bytes (fun p => p.1 < 0x10000000) h
  have hi' := memory_wf_filter m.bytes (fun p => 0x10400000 ≤ p.1) h
  simp only [MmuS.wf, MmuS.withEssence, Memory.wf, Bool.and_eq_true, List.all_append] at *
  rw [List.all_eq_true] at hi
  refine ⟨tab_wf_append _ _ (tab_wf_append _ _ lo.1 he.1 ?_) hi'.1 ?_, ⟨lo.2, he.2⟩, hi'.2⟩
  · intro p hp q hq
    have h1 := hi q hq
    simp only [List.mem_filter, decide_eq_true_eq] at hp
    simp only [inEssence, Bool.and_eq_true, decide_eq_true_eq] at h1
    omega
  · intro p hp q hq
    simp only [List.mem_append, List.mem_filter, decide_eq_true_eq] at hp hq
    rcases hp with hp | hp
    · omega
    · have h1 := hi p hp
      simp only [inEssence, Bool.and_eq_true, decide_eq_true_eq] at h1
      omega

/-- A lane's essence, as a copy takes it, is canonical. -/
theorem essence_wf (m : MmuS) (h : m.wf = true) : Memory.wf m.essence = true := memory_wf_filter m.bytes _ h

theorem essence_inEssence (m : MmuS) : (m.essence.all fun p => inEssence p.1) = true := by
  rw [List.all_eq_true]
  intro p hp
  simp only [MmuS.essence, List.mem_filter] at hp
  simpa [inEssence] using hp.2

/-- A DMA write keeps the canonical form. -/
theorem dmaWrite_wf (x y : LaneS) (va : Nat) (bs : List Byte) (h : x.mmu.wf = true) (hy : x.dmaWrite va bs = some y) : y.mmu.wf = true := by
  simp only [LaneS.dmaWrite, Option.map_eq_some_iff] at hy
  obtain ⟨ws, -, rfl⟩ := hy
  exact write_wf x.mmu ws h

end Sys2Proof.Machine
end

