-- ==== Sys2Proof/Laws/Ops.lean ====
section
/-!
SUPPORT. What the operations on the module and on a lane do, where it is more than a frame: the mode after an entry, what RESET clears, a
lane's state after it failed, and a host command that is accepted.
-/

set_option maxRecDepth 8000
set_option Elab.async false

namespace Sys2Proof.Machine

open Sys2Proof

/-- A transition changes the mode and nothing else of the module. -/
@[simp] theorem toMode_mod (s : State) (m : Mode) (t : Nat) : (s.toMode m t).mod = { s.mod with mode := m } := by
  unfold State.toMode; extract_lets; simp +zetaDelta

/-- What RESET leaves whatever the state was before. -/
theorem enterReset_facts (s : State) (tr : Nat) : (s.enterReset tr).mod.mode = .reset ∧ (s.enterReset tr).fch = .reset ∧
    (s.enterReset tr).lanes = PerLane.pure .reset ∧ (s.enterReset tr).acc = .reset ∧ (s.enterReset tr).sup = .reset := by
  unfold State.enterReset
  extract_lets s1 s2 s3 held kept b src t s4
  have h2 : s2.mod.mode = .reset := by
    simp only [s2]; split
    · assumption
    · simp
  have h4 : s4.mod.mode = .reset := by
    simp only [s4]; split
    · simp [s3, h2]
    · simp [t, b, s3, h2]
  simp [State.clearVolatile, State.reset, h4]

@[simp] theorem enterReset_mode (s : State) (t : Nat) : (s.enterReset t).mod.mode = .reset := (enterReset_facts s t).1
@[simp] theorem enterReset_fch (s : State) (t : Nat) : (s.enterReset t).fch = .reset := (enterReset_facts s t).2.1
@[simp] theorem enterReset_lanes (s : State) (t : Nat) : (s.enterReset t).lanes = PerLane.pure .reset := (enterReset_facts s t).2.2.1
@[simp] theorem enterReset_acc (s : State) (t : Nat) : (s.enterReset t).acc = .reset := (enterReset_facts s t).2.2.2.1
@[simp] theorem enterReset_sup (s : State) (t : Nat) : (s.enterReset t).sup = .reset := (enterReset_facts s t).2.2.2.2

@[simp] theorem enterSafe_mode (s : State) (t : Nat) : (s.enterSafe t).mod.mode = .safe := by
  unfold State.enterSafe; extract_lets; simp +zetaDelta

@[simp] theorem recordStrap_mod (s : State) (c : Nat) : (s.recordStrap c).mod = { s.mod with strapRecorded := true } := by
  unfold State.recordStrap; dsimp only; (repeat' split) <;> simp

@[simp] theorem answerAsked_st (s : State) (l m : Lane) (x : Nat) :
    ((s.answerAsked l x).lanes.get m).core.st = (s.lanes.get m).core.st := by
  unfold State.answerAsked; split
  · simp only [State_complete_frame]; cases l <;> cases m <;> rfl
  · rfl

@[simp] theorem failLane_st (s : State) (l : Lane) (c : Nat) : ((s.failLane l c).lanes.get l).core.st = .failed := by
  unfold State.failLane; simp

/-- An accepted command has the effect of its body. -/
theorem serve_accepts (s : State) (h : CmdHdr) (op : Nat) (need : Option Role) (body : State → State) (ha : Accepts s h op need) :
    s.serve h op need body = body s := by
  unfold Accepts State.accepts at ha
  unfold State.serve
  simp only [Bool.and_eq_true, Bool.or_eq_true, decide_eq_true_eq, Bool.not_eq_true'] at ha
  obtain ⟨⟨⟨hv, hd⟩, _⟩, hn⟩ := ha
  rcases hv with hv | hv <;> rw [hv] <;> cases need <;> simp_all

end Sys2Proof.Machine
end

