-- ==== Sys2Proof/WellFormed.lean ====
section
/-!
DEFINITION. Well-formed commands: the lengths and ranges that the spec fixes for the operands and that their types leave open. A
command that is not well-formed is none that the module can receive; exec still gives it a next state.
-/

namespace Sys2Proof

/-- Lengths and ranges of a command's operands: a UDP payload of at most 1 472 bytes (R293), the parameter layouts of chapter 11, at most
976 payload bytes of a record (R387), slots below 1 000 and a SOF no later than its frame's end (R186, R189), types 1 to 9 and senders 0 to 3 of a
partner message (R364), 148 boundary cells (R509), and each requester once at an arbiter (R461). -/
def Instr.wf (i : Instr) : Bool :=
  match i with
  | .vinApplied .. | .powerFailWarning .. | .holdUpExhausted | .vinRestored .. | .inputCutOff ..
  | .inputCutOffClosed .. | .rstNLow | .resetRelease .. | .railFault .. | .startInterlock .. | .romBootComplete ..
  | .selftestComplete .. | .imageCheck .. | .accordFormed .. | .accordFormationTimeout .. | .loadedConditionsMet
  | .integrationComplete | .degradedTimeExpired | .degradedTimeRestored | .dormantEntryComplete ..
  | .wakeComplete .. | .wakeNLow | .trstNLow | .oscillatorStable .. | .oscillatorUnstable .. | .monitorWindow ..
  | .nrefUpdate .. | .sourceSwitchComplete .. | .rcRestartTimeout .. | .holdTimeout .. | .rateAcquisitionComplete ..
  | .stallWatchdog .. | .canaryReading .. | .governorStepDown .. | .levelStepComplete .. | .railGoodTimeout ..
  | .diagnosticEvent .. | .laneTickComplete .. | .tickDeadline .. | .tickBoundary .. => true
  | .accordMessageReceived receiver sender _ _ => receiver ≠ sender
  | .proposalSend .. | .accordedSetCompute .. | .fetchTimeout .. | .inputAccordClose .. | .commandUnaccorded ..
  | .cycleEvaluation | .restartTimerStart .. | .routeEngineComplete .. | .graphSolverComplete .. | .outputAccord ..
  | .applyStrobe .. | .voteRefresh .. | .selftestSlice .. | .restartTimeExpired .. | .settleTimeExpired ..
  | .throwTimeLimitExpired .. | .provingTimeExpired .. | .closingLimitExpired .. | .storageTimeExpired ..
  | .approachControlTimeExpired .. | .approachLockingTimeExpired .. | .overlapReleaseTimeExpired ..
  | .emergencyReleaseTimeExpired .. | .boundaryTimeout .. | .boundaryBackoffExpired .. | .dataAgeExceeded ..
  | .tokenExpired .. | .taskRelease .. | .dispatchPoint | .runComplete .. | .eventLatch | .sheetPrepareComplete
  | .sheetSwitch | .sheetPrepareTimeout | .retainedStateWrite | .roundStart .. | .rateUpdate .. | .slotVote ..
  | .partnerLate .. => true
  | .frameReceived _ slot sofNs endNs _ _ => slot < 1000 && sofNs ≤ endNs
  | .accessClosureHoldEnd .. | .pairingDeadline .. | .membershipLost .. | .channelLossEnd .. | .grantWindow ..
  | .probeReply .. | .rangingWindowEnd .. | .claimReceived .. | .grantReleased .. | .bankSwitch
  | .bankCrcExchange .. | .beaconSend | .partnerListenTimeout | .coldstartRoundsComplete | .coldstartCollision ..
  | .collisionBackoffExpired | .coldstartAbandoned .. | .networkSilence | .networkTimePersist | .dynamicFrame ..
  | .discrepancyTimeExpired .. | .discrepancyCleared .. | .vfldLost .. | .vfldRestored .. | .switchTest ..
  | .onTestAbort .. | .testRevert .. | .testResult .. | .voterTest .. | .silentTimeout .. | .voteWithdraw ..
  | .minorityReportExpired .. | .channelOverload .. | .groupOverload .. | .moduleOverload .. | .overloadReenable ..
  | .switchOvertemperature .. | .vrdToken .. | .vrdTokenTimeout | .ioForceEnd .. | .supervisorPass ..
  | .stopStrobe .. | .ethernetFrame .. | .arpRequest .. | .icmpEcho .. | .linkUp .. | .linkDown .. => true
  | .hostPacket _ _ _ _ bytes => bytes.length ≤ 1472
  | .nonvitalIntake | .offCycleService | .replyAgreed .. | .replyDisagreeTimeout .. | .replyMissingTimeout ..
  | .q5ConfirmTimeout .. | .challengeExpired .. | .sessionExpired .. | .sequencePersist | .routeSet ..
  | .routeCancel .. | .routeEmergencyReleaseStep1 .. | .routeEmergencyReleaseStep2 .. | .routeQuery ..
  | .routeAuto .. | .pointMove .. | .pointBlock .. | .signalReplace .. | .sectionBlock .. | .sectionRestoreStep1 ..
  | .sectionRestoreStep2 .. | .keyRelease .. | .lxCommand .. | .elementQuery .. | .statusModule .. | .subscribe ..
  | .unsubscribe .. | .statusSnapshotCopy .. | .statusSnapshotRead .. | .recRead .. | .recFreeze .. | .recThaw ..
  | .recClearStep1 .. | .recClearStep2 .. | .silRead .. => true
  | .silMark _ label => label.length = 16
  | .imgBegin .. => true
  | .imgBlock _ _ part data => data.length = 512 && part.toNat ≤ 7
  | .imgVerify .. | .imgVerifyComplete | .imgSchedule .. | .imgAbort .. | .imgQuery .. | .sheetPrepare ..
  | .sheetCommit .. | .timeCorrelate .. | .timeQuery .. | .sessionChallenge .. => true
  | .sessionOpen _ _ _ nonce signature => nonce.length = 16 && signature.length = 64
  | .sessionClose .. | .modeRequestSafe .. | .modeRequestRestart .. | .modeRequestDormant .. | .modeRequestWake ..
  | .modeRequestReplay .. | .selftestQuery .. | .regRead .. | .sealFuseStep1 .. | .sealFuseBlow ..
  | .sealFuseProgramSlot .. | .sealFuseRevokeSlot .. | .withheldClear .. => true
  | .perfConfig _ cfg =>
    cfg.counter < 256 && cfg.enable < 256 && cfg.event < 65536 && cfg.priv < 256 && cfg.master < 256 && cfg.window < 256
  | .perfRead .. | .perfSamples .. | .netStatus .. | .netPortControl .. => true
  | .netBankWrite _ _ _ entries => 1 ≤ entries.length && entries.length ≤ 250
  | .netBankSwitch .. | .netLatecomerPolicy .. | .redStatus .. | .redSwitchoverStep1 .. | .redSwitchoverStep2 ..
  | .redLaneResync .. | .redTenderEnable .. | .tenderEnableTimeout | .ioStatus .. | .ioTestConfig .. | .ioForce .. => true
  | .appMsgSend _ _ n words => words.length = n.toNat && n.toNat ≤ 8
  | .dbgStatus .. | .boundaryFrame .. | .bogieMismatch .. | .resyncImageReload .. | .resyncSelftestComplete ..
  | .resyncCopyArmed .. | .copyBeforeWrite .. | .resyncCopyComplete .. | .resyncCopyFailed .. | .catchUpComplete ..
  | .catchUpTimeout .. | .probationComplete .. | .resyncTimeout .. | .powerRecovery .. => true
  | .partnerMessage msg => 1 ≤ msg.type && msg.type ≤ 9 && msg.sender ≤ 3 && msg.body.length < 65536
  | .controlRetransmit | .partnerLinkUp .. | .partnerLinkDown | .takeoverJudgement .. | .holdingTimeout
  | .takeoverLost .. | .switchoverConfirmDeadline | .switchover => true
  | .recordHandover _ _ type payload => type < 65536 && payload.length ≤ 976
  | .recordCopyTimeout | .recordClose .. | .freezeTimeout | .ringDrain | .housekeeperHeartbeatMissing
  | .housekeeperLostTimeout | .keyframeDue | .operatingTimePersist | .replayCycle | .activationTimeReached
  | .activationArmed .. | .activationArmDeadline .. | .activationJudgement | .postponementExpired | .imageSwitch
  | .eccUncorrectable .. | .eccCorrected .. | .scrubRead .. | .translationFault .. | .tlbParityError ..
  | .guardFault .. | .dmaDescriptorComplete .. | .dmaFault .. | .dmaSuspended .. => true
  | .arbiterDecision _ _ requests => decide (requests.present.map ArbRequest.requester).Nodup
  | .lockOverrun .. | .lockIdleTimeout .. | .perfSample .. | .bandwidthWindow .. | .hubSlotDataWrite ..
  | .hubSwitchRoundWrite .. | .hubSwitchCrcWrite .. | .hubSwitchCancel .. | .arbCommit .. | .cvuLoad ..
  | .cvuSeedNow .. | .cvuFeed .. | .cvuValueWrite .. | .dmaEnable .. | .dmaSuspend .. | .dmaResume .. | .dmaAbort ..
  | .dmaTailWrite .. | .mmuRootWrite .. | .mmuInval .. | .clkXreset .. | .clkGateWrite .. | .tbsNetLoRead ..
  | .registerWrite .. | .idcode => true
  | .sample cells => cells.length = 148
  | .bypass .. | .dbgInstruction | .dbgNop | .dbgRead .. | .dbgWrite .. | .dbgHalt .. | .dbgResume .. | .dbgStep ..
  | .tapDbgStatus .. | .silBegin | .silWrite .. | .silEnd | .dbgAttach | .dbgDetach | .comparatorSample ..
  | .fuseOperationComplete .. => true

end Sys2Proof
end

