-- ==== Sys2Proof/Tests/Slice0.lean ====
section
/-!
SUPPORT. Tests: what WellFormed refuses, a few single steps, and for every statement with hypotheses a state and operands that meet them.
The helpers build small states; expected values come from the spec.
-/

set_option maxRecDepth 8000
set_option Elab.async false

namespace Sys2Proof.Tests

open Sys2Proof Sys2Proof.Machine

/-! ### Helper states -/

/-- The two halves of a hash, and halves of which one is wrong. -/
theorem test_halves (x : BitVec 64) : x.extractLsb' 32 32 ++ x.setWidth 32 = x := by
  apply BitVec.eq_of_getLsbD_eq
  intro i h
  rw [BitVec.getLsbD_append]
  by_cases hi : i < 32
  · simp [hi]
  · have e : 32 + (i - 32) = i := by omega
    have k : i - 32 < 32 := by omega
    simp only [hi, BitVec.getLsbD_extractLsb', k, decide_true, e, Bool.true_and, if_false]

theorem test_other_half (x : BitVec 64) : (~~~ x.extractLsb' 32 32) ++ x.setWidth 32 ≠ x := by
  intro h
  have h63 : ((~~~ x.extractLsb' 32 32) ++ x.setWidth 32).getLsbD 63 = x.getLsbD 63 := congrArg (fun y : BitVec 64 => y.getLsbD 63) h
  rw [BitVec.getLsbD_append] at h63
  simp at h63
def inMode (m : Mode) : State := { State.reset with mod := { ModS.reset with mode := m } }
/-- Three voting lanes in a mode. -/
def laneIn (st : LaneSt) : LaneS := { LaneS.reset with core := { CoreS.reset with st := st }, clk := { ClkS.reset with started := true, xtStable := true, rcStable := true } }
def allIn (m : Mode) (st : LaneSt) : State := { inMode m with lanes := PerLane.pure (laneIn st) }
def voting (m : Mode) : State := allIn m .voting
def dbgSt : State := { voting .operate with tap := { TapS.reset with ir := 8 }, mod := { ModS.reset with mode := .operate, dbgAttached := true, lab := true } }
def withDma (c : DmaCh) : State := { voting .operate with lanes := PerLane.pure { laneIn .voting with dma := [(4, c)], perf := { PerfS.reset with ctr := [(0, PmcS.reset)] } } }

def el (k : Kind) : ElemDef := ⟨k, 0, 0, false, .nowhere, 0, 0, .nowhere, 0, 0, 10, none, none, none, none, []⟩
def rt : RouteDef := { permanent := false, acMode := 0, exitAtBb := false, entry := 3, exit := 9, overlap := none, path := [⟨1, 1, false, 0⟩], ovList := [], flank := [], row := 0, appr := [], apprTs := none, tApprCtrl := 5, tApprLock := 20, tStore := 30, tEmerg := 40, saOwner := none }
def stationImage : Image := { Image.empty with
  elems := [(1, el .ts), (2, el .pt), (3, el .sg), (4, el .lx), (5, el .ky), (6, el .ez), (7, el .sa), (8, el .bb), (9, el .sg), (10, el .ov)]
  routes := [(0, rt)], bounds := [⟨8, 5, 2, 77⟩], blocks := [(0, ⟨0, 0x29, 0, false, 0, 0, [], 300⟩)] }
def station : State := { voting .operate with img := { ImgS.reset with running := some stationImage }, ixl := { IxlS.reset with resolved := { Verdict.empty with areas := [(0, ⟨0xFFFF, true⟩)] } } }
def stationWith (els : Tab ElemSt) (rs : Tab RouteSt) : State := { station with ixl := { IxlS.reset with resolved := { Verdict.empty with areas := [(0, ⟨0xFFFF, true⟩)], elems := els, routes := rs } } }
def hdr5 : CmdHdr := ⟨5, 0, 9, 77, 1000, false⟩
def sup0 : SupDef := { remote := false, srUsed := false, point := 2, enCh := 6, srCh := 7, progCh := 8, node := 0, progOfs := 0, cmdOfs := 0, cmdBit := 0, tStart := 5, floor := 100, still := 10, margin := 20, tDec := 30, tDecMax := 60, tFloor := 3 }
def chOut1 : ChOut := { ChOut.zero with hs := { VoterSt.zero with vote := LaneSet.full, staged := LaneSet.full, live := LaneSet.full, closed := true }, ls := { VoterSt.zero with vote := LaneSet.full, staged := LaneSet.full, live := LaneSet.full, closed := true } }
/-- A lane in a step of resync, the other two voting. -/
def resyncing (step : Nat) : State := { voting .operate with lanes := ⟨laneIn .voting, laneIn .voting, { laneIn .resync with core := { CoreS.reset with st := .resync, cause := 5, resync := { ResyncS.none with step := step } } }⟩ }
def blk (type task : Nat) : BlockDef := ⟨0, type, task, false, 0, 1, [0x10000001], 0⟩
def sheetImage : Image := { stationImage with tasks := [(3, ⟨1, 2, 4, 1, 0, 0, 100⟩), (17, ⟨2, 2, 0, 0, 0, 0, 100⟩)], blocks := [(0, blk 0x01 17)] }
def sheetState (sh : SheetS) (tick : Nat) : State := { voting .operate with img := { ImgS.reset with running := some sheetImage }, sheets := sh, ixl := { IxlS.reset with phase := 6, cmpDone := true }, acc := { AccS.reset with tick := tick }, mod := { ModS.reset with mode := .operate, cycle := 5 } }
def nd (id px py : Nat) : NodeDef := { id := id, portX := px, portY := py, satX := none, satY := none, syncNode := false, compareN := 3, upLen := 12, dnLen := 8, keyDigest := none }
/-- A SOLO module on its running network: node 0 with uplink slot 10 and downlink slot 500, a spare pair 20 and 520,
  SYNC slot 0 and CLAIM slot 5. -/
def netBank : Tab Word := Tab.ofList ([3, 37].flatMap fun p => [(1000 * p, 0x0FC0), (1000 * p + 5, 0x13FF), (1000 * p + 6, 0x13FF),
  (1000 * p + 10, 0xA53C), (1000 * p + 20, 0x97FF), (1000 * p + 500, 0xA93C), (1000 * p + 520, 0x197FF)])
def netImage : Image := { Image.empty with nodes := [(0, nd 0x13C 3 5), (1, { nd 0x140 3 5 with keyDigest := some [1,2,3,4,5,6,7,8] })], nodeCount := 1 }
def netUp : NetS := { NetS.reset with running := true, phase := .running, servesX := true, servesY := true, bank0 := netBank, bank1 := netBank, round := 700, contrib := LaneSet.full, grantsOn := true }
def online : State := { voting .operate with img := { ImgS.reset with running := some netImage }, net := netUp, mod := { ModS.reset with mode := .operate, role := .solo }, lanes := PerLane.pure { laneIn .voting with tbs := { TbsS.reset with syncRun := 20 } } }
/-- Three lanes that ask for round 700 with one CRC. -/
def asking (x : Word) : State := { online with net := { netUp with frozen := true, regs := PerLane.pure { HubRegs.zero with request := some 700, crc := x } } }
def upFrame : List Byte := lineFrame false (frameHeader 1 0x13C 1 false false 0 10 700)
def claimBody : List Byte := frameHeader 5 0x140 0 false false 16 6 700 ++ [1,2,3,4,5,6,7,8,0,0,0,0]
def claimFrame : List Byte := lineFrame false (claimBody ++ bytesOf 4 (safetyCode 0x140 0x3C0 700 none ([1,2,3,4,5,6,7,8,0,0,0,0])))
def inCh : ChDef := { mode := .input, vital := true, hold := false, type3 := false, dynamic := true, restHigh := false, pair := .none, debounce := 0, discrepancy := 500, silent := 100, testPeriod := 6, pulse := 1 }
def outCh : ChDef := { inCh with mode := .output, dynamic := false }
def fieldImage : Image := { Image.empty with chans := [(6, outCh), (20, inCh), (22, { inCh with pair := .equivalent }), (23, { inCh with pair := .equivalent })] }
def field (f : FchS) (tick : Nat) : State := { voting .operate with img := { ImgS.reset with running := some fieldImage }, fch := f, acc := { AccS.reset with tick := tick }, rcd := { RecS.reset with opTime := 100000 } }
def outs1 (o : ChOut) : FchS := { FchS.reset with outs := [(6, o)] }
def engineer : Session := ⟨.engineer, 5, 0, [], 0, []⟩
def everyRole : List Session := [⟨.maintainer, 5, 0, [], 0, []⟩, engineer, ⟨.custodian, 5, 0, [], 0, []⟩]
def withSession (s : State) : State := { s with host := { s.host with sessions := everyRole } }
def macHdr : CmdHdr := ⟨5, 6, 9, 77, 1000, true⟩
def pendSlot (st : SlotState) : Slot := { Slot.empty with st := st, type := 1, blocks := 2, image := some stationImage, live := true, digest := [7, 7], at_ := 900000 }
/-- A module in a mode with an image in PENDING and an engineer's session. -/
def updating (m : Mode) (st : SlotState) : State := withSession { voting m with img := { ImgS.reset with running := some stationImage, active := { pendSlot .active with digest := [1, 1] }, pending := pendSlot st }, mod := { ModS.reset with mode := m, role := .solo } }
def changed (c : SheetChange) (s : State) : State := { s with sheets := { s.sheets with change := some c } }
def change0 : SheetChange := ⟨[], 0, 0, 0, none, 5, 6, 9, false⟩
/-- SAFE with a custodian, a token for a fuse operation, an image for slot 2 or a key in it. -/
def fuseSt (op slot : Nat) : State := withSession { voting .safe with
  ixl := { IxlS.reset with tokens := [⟨9, 0x0707, 5, fuseTarget op slot, 0, false, some .custodian⟩] }
  img := { ImgS.reset with
    keys := if op = 3 then [(2, ⟨[], 15, false⟩)] else []
    pending := { Slot.empty with st := .verified, type := 3, blocks := 1, parts := [(0, List.replicate 21 0 ++ [2])] } } }
def fuseHeld (f : FuseOp) : State := { fuseSt f.op f.slot with img := { (fuseSt f.op f.slot).img with fuseOp := some f } }
def packetHead : List Byte := [2, 4, 4, 1, 0x11, 0x27, 0, 0, 2, 0, 0, 0, 0, 0, 0, 0, 3, 0]
def packetBytes : List Byte := packetHead ++ bytesOf 8 (Arrival.safety ⟨.a, ⟨0, 7, 4862⟩, 0, 5, LaneSet.full, packetHead⟩ ModS.reset.sid)
/-- A module with one source, 5 at address 7, and queue 4 of a depth. -/
def hosted (depth : Nat) : State := { voting .operate with
  img := { ImgS.reset with running := some { stationImage with sources := [⟨5, 7, 0, 0xFFFF, 0, 0, false⟩], queues := [(4, depth)] } }
  host := { HostS.reset with floodSecond := 2 } }
def reply9 : Packet := ⟨5, 4, 0x0104, 9, 0, 0, [], false, 0, false, true, [.a], [], []⟩
/-- CYCLE_HEAD of a replayed cycle: OPERATE, three lanes voting, the digest of an empty slot. -/
def replayHead7 : List Byte := List.replicate 8 0 ++ [BitVec.ofNat 8 Mode.operate.code, 7, 0, 0] ++ List.replicate 8 0 ++ List.replicate 8 1
def replayState : State := { voting .replay with
  img := { ImgS.reset with running := some stationImage, runDigest := [], passed := LaneSet.full }
  rcd := { RecS.reset with replayRunning := true, replayLeft := [7], sil := [⟨7, 1, true, true, 0, silItem 1 replayHead7⟩] } }
/-- A lead in OPERATE whose tender may take over, with a maintainer's token for a switchover. -/
def leadSt : State := withSession { voting .operate with
  mod := { ModS.reset with mode := .operate, role := .lead, cycle := 40 }
  plink := { PlinkS.reset with up := true, partnerCond := 0, partnerMode := 134, partnerRights := true }
  ixl := { IxlS.reset with tokens := [⟨9, 0x0A02, 5, switchoverTarget, 0, false, some .maintainer⟩] } }
def examplePacket : Arrival := ⟨.a, ⟨0, 7, 4862⟩, 0, 0x12, LaneSet.full, [0x02, 0x01, 0x03, 0x01, 0x40, 0x2B, 0x00, 0x00, 0x08, 0x00, 0x00, 0x00,
  0x20, 0x1C, 0x3F, 0x0A, 0xF4, 0x01, 0x00, 0x01, 0x00, 0x00, 0x00, 0x00]⟩

/-! ### WellFormed: one ill-formed command for each check -/

theorem test_wf_payload : Instr.wf (.hostPacket .a ⟨0, 7, 4862⟩ 0 LaneSet.full (List.replicate 1473 0)) = false := by decide +kernel
theorem test_wf_block : Instr.wf (.imgBlock hdr5 0 0 (List.replicate 511 0)) = false := by decide +kernel
theorem test_wf_block_part : Instr.wf (.imgBlock hdr5 0 8 (List.replicate 512 0)) = false := by decide +kernel
theorem test_wf_nonce : Instr.wf (.sessionOpen hdr5 0 1 (List.replicate 15 0) (List.replicate 64 0)) = false := by decide +kernel
theorem test_wf_signature : Instr.wf (.sessionOpen hdr5 0 1 (List.replicate 16 0) (List.replicate 63 0)) = false := by decide +kernel
theorem test_wf_label : Instr.wf (.silMark hdr5 (List.replicate 17 0)) = false := by decide +kernel
theorem test_wf_words : Instr.wf (.appMsgSend hdr5 3 2 [1]) = false := by decide +kernel
theorem test_wf_nine_words : Instr.wf (.appMsgSend hdr5 3 9 (List.replicate 9 0)) = false := by decide +kernel
theorem test_wf_no_entry : Instr.wf (.netBankWrite hdr5 3 0 []) = false := by decide +kernel
theorem test_wf_251_entries : Instr.wf (.netBankWrite hdr5 3 0 (List.replicate 251 0)) = false := by decide +kernel
theorem test_wf_partner_type : Instr.wf (.partnerMessage ⟨10, 0, 1, true, []⟩) = false := by decide +kernel
theorem test_wf_partner_sender : Instr.wf (.partnerMessage ⟨3, 4, 1, true, []⟩) = false := by decide +kernel
theorem test_wf_record_type : Instr.wf (.recordHandover .a true 0x10000 []) = false := by decide +kernel
theorem test_wf_record_payload : Instr.wf (.recordHandover .a true 0x0108 (List.replicate 977 0)) = false := by decide +kernel
theorem test_wf_slot : Instr.wf (.frameReceived 3 1000 0 0 ⟨false, LaneSet.none⟩ []) = false := by decide +kernel
theorem test_wf_frame_end : Instr.wf (.frameReceived 3 10 5 4 ⟨false, LaneSet.none⟩ []) = false := by decide +kernel
theorem test_wf_own_message : Instr.wf (.accordMessageReceived .b .b .mark []) = false := by decide +kernel
theorem test_wf_cells : Instr.wf (.sample (List.replicate 147 true)) = false := by decide +kernel
theorem test_wf_perf_counter : Instr.wf (.perfConfig hdr5 ⟨256, 1, 0x0101, 0, 0, 0, 0, 0, 0⟩) = false := by decide +kernel
theorem test_wf_requesters :
    Instr.wf (.arbiterDecision .a .dram ⟨0, [⟨2, false, false, 8, 0⟩, ⟨2, true, false, 8, 0⟩]⟩) = false := by decide +kernel

/-! ### Single steps -/

theorem test_no_word_decodes : decodeTableWord 32 0xFFFFFFFF = none := rfl

/-- VIN applied takes the module from OFF to RESET (R19). -/
theorem test_vin_applied :
    (match step (State.reset.withPending [.vinApplied 24000]) with
     | .next t => decide (t.mod.mode = .reset) && t.pending.isEmpty
     | _ => false) = true := by decide +kernel

/-- VIN at V_UVR leaves the module OFF (R19). -/
theorem test_vin_low :
    (match step (State.reset.withPending [.vinApplied 16300]) with
     | .next t => decide (t.mod.mode = .off)
     | _ => false) = true := by decide +kernel

/-- Two lanes of three that agree give the voted byte, and the third is the odd one (R209). -/
theorem test_vote_byte : voteByte [(.a, 0xF0), (.b, 0xAA), (.c, 0xF0)] = some (0xF0, some .b) := by decide


/-! ### Witnesses: a state and operands that meet the hypotheses of each clause of each statement -/

theorem witness_LaneFrames : ∃ (c : Instr), ∃ (s : State), ∃ (t : State), ∃ (p : Part), exec c s = .next t ∧
    p ∈ [Part.core, .clk, .pwr, .tbs, .diag, .mmu, .memory, .dma, .arbE, .arbD, .cvu, .perf, .rte] ∧ p ∉ mayChange c :=
  ⟨.trstNLow, State.reset, _, .core, rfl, by decide, by decide⟩

theorem witness_ModuleFrames : ∃ (c : Instr), ∃ (s : State), ∃ (t : State), ∃ (p : Part), exec c s = .next t ∧
    p ∈ [Part.mod, .mode, .seals, .acc, .img, .ixl, .sheets] ∧ p ∉ mayChange c :=
  ⟨.trstNLow, State.reset, _, .mode, rfl, by decide, by decide⟩

theorem witness_PortFrames : ∃ (c : Instr), ∃ (s : State), ∃ (t : State), ∃ (p : Part), exec c s = .next t ∧
    p ∈ [Part.freeCtr, .net, .fch, .sup, .host, .rcd, .plink, .tap] ∧ p ∉ mayChange c :=
  ⟨.trstNLow, State.reset, _, .net, rfl, by decide, by decide⟩

/-- With no translating master a write stores where its address says. -/
theorem no_store (x : LaneS) (va n a : Nat) (h : x.mmu.masters = []) (ha : a < va ∨ va + n ≤ a) : ¬ x.storesAt va n a := by
  rintro ⟨i, hi, hs⟩
  simp only [MmuS.translate, h, Tab.get?] at hs
  split at hs
  · cases hs; omega
  · cases hs

theorem dmaWrite_masters (x : LaneS) (va : Nat) (bs : List Byte) : ((x.dmaWrite va bs).getD x).mmu.masters = x.mmu.masters := by
  unfold LaneS.dmaWrite
  simp only []
  generalize (List.mapM (m := Option) _ bs.zipIdx) = w
  cases w <;> rfl

theorem some_of_isSome (x : Option State) (d : State) (h : x.isSome = true) : x = some (x.getD d) := by
  cases x <;> simp_all

/-- Eight bytes of essence to essence, by the first descriptor of a ring in essence. -/
def move8 : Descriptor := descriptorOf [3, 0, 0, 0, 0, 1, 0, 0x10, 0, 2, 0, 0x10, 8, 0, 0, 0]
def moving (st : DmaSt) : State := withDma { DmaCh.reset with st := st, size := 4, base := 0x10000000, cur := some move8 }

theorem witness_DmaMemoryFrame :
    (∃ (l : Lane), ∃ (c : Fin 8), ∃ d, ∃ u, ∃ a, ∃ (s : State), (s.lane l).mmu.wf = true ∧ s.mod.mode.lanesRun = true ∧
      ((s.lane l).chan c).st = .running ∧ ((s.lane l).chan c).waiting = false ∧ ((s.lane l).chan c).cur = some d ∧ d.good = true ∧
      s.dmaMove l c d.length = some u ∧
      (d.kind = 2 ∨ ¬ (s.lane l).storesAt (d.dst.toNat + ((s.lane l).chan c).moved) (d.length - ((s.lane l).chan c).moved) a) ∧
      ¬ (u.lane l).storesAt (((s.lane l).chan c).slotVa ((s.lane l).chan c).head) 1 a ∧
      (∀ b, ¬ (((u.lane l).dmaWrite (((s.lane l).chan c).slotVa ((s.lane l).chan c).head) [b]).getD (u.lane l)).storesAt
        (((s.lane l).chan c).slotVa ((s.lane l).chan c).head + 24) 4 a)) ∧
    (∃ (l : Lane), ∃ (c : Fin 8), ∃ n, ∃ d, ∃ a, ∃ (s : State), (s.lane l).mmu.wf = true ∧ s.mod.mode.lanesRun = true ∧
      ((s.lane l).chan c).st = .suspending ∧ ((s.lane l).chan c).cur = some d ∧
      (d.kind = 2 ∨ ¬ (s.lane l).storesAt (d.dst.toNat + ((s.lane l).chan c).moved) (n - ((s.lane l).chan c).moved) a)) ∧
    (∃ (l : Lane), ∃ (c : Fin 8), ∃ n, ∃ d, ∃ a, ∃ (s : State), (s.lane l).mmu.wf = true ∧ s.mod.mode.lanesRun = true ∧
      ((s.lane l).chan c).st = .running ∧ ((s.lane l).chan c).cur = some d ∧
      (d.kind = 2 ∨ ¬ (s.lane l).storesAt (d.dst.toNat + ((s.lane l).chan c).moved) (n - ((s.lane l).chan c).moved) a)) := by
  refine ⟨⟨.b, 4, move8, ((moving .running).dmaMove .b 4 8).getD (moving .running), 0x10000208, moving .running, ?_⟩,
    ⟨.b, 4, 4, move8, 0x10000204, moving .suspending, ?_⟩, ⟨.b, 4, 4, move8, 0x100001FF, moving .running, ?_⟩⟩ <;> and_intros <;> first
    | decide +kernel
    | exact some_of_isSome _ _ (by decide +kernel)
    | exact .inr (no_store _ _ _ _ (by decide +kernel) (by decide +kernel))
    | exact no_store _ _ _ _ (by decide +kernel) (by decide +kernel)
    | exact fun b => no_store _ _ _ _ (by rw [dmaWrite_masters]; decide +kernel) (by decide +kernel)

theorem asking_round (x : Word) : (asking x).net.switchRound = some (700, x) := by
  simp [asking, NetS.switchRound, HubRegs.asks, Lane.all, PerLane.pure, PerLane.get, List.filter]

/-- The CRC is that of the inactive bank, which the tests do not compute. -/
theorem asking_agree (x c : Word) (h : x = c) : 2 ≤ (Lane.all.filter fun l =>
    ((asking x).net.regs.get l).request = some 700 && ((asking x).net.regs.get l).crc = c).length := by
  subst h
  simp [asking, Lane.all, PerLane.pure, PerLane.get, List.filter]


theorem witness_StepRunsFront :
    ∃ (s : State), s.pending = [] :=
  ⟨State.reset, by decide +kernel⟩

theorem witness_MemoryStaysCanonical :
    ∃ (s : State), ∃ (t : State), MemoryCanonical s ∧ step s = .next t :=
  ⟨station, station, ⟨fun l => by cases l <;> decide, rfl⟩⟩

theorem witness_ModeTransitions :
    (∃ (s : State), ∃ (t : State), step s = .next t) ∧
    (∃ (s : State), ∃ (t : State), step s = .next t ∧ s.mod.mode = .safe) ∧
    (∃ (s : State), ∃ (t : State), step s = .next t ∧ t.mod.mode = .operate) :=
  ⟨⟨State.reset, State.reset, rfl⟩,
   ⟨inMode .safe, inMode .safe, ⟨rfl, rfl⟩⟩,
   ⟨voting .operate, voting .operate, ⟨rfl, rfl⟩⟩⟩

theorem witness_SealsStayBlown :
    (∃ (s : State), ∃ (t : State), step s = .next t ∧ s.mod.sealed = true) ∧
    (∃ c, ∃ (s : State), s.sealedT = true ∧ c ∈ [Instr.dbgAttach, .dbgDetach, .dbgHalt .a, .dbgHalt .b, .dbgHalt .c, .dbgResume .a, .dbgResume .b,
      .dbgResume .c]) ∧
    (∃ (s : State), s.sealedT = true) ∧
    (∃ (s : State), s.sealedT = true ∧ s.tap.ir ≠ 0x08) :=
  ⟨⟨{ voting .operate with mod := { ModS.reset with mode := .operate, sealed := true } },
    { voting .operate with mod := { ModS.reset with mode := .operate, sealed := true } }, ⟨rfl, rfl⟩⟩,
   ⟨.dbgAttach, { voting .operate with mod := { ModS.reset with mode := .operate, sealed := true } }, by decide +kernel⟩,
   ⟨{ voting .operate with mod := { ModS.reset with mode := .operate, sealed := true } }, by decide +kernel⟩,
   ⟨{ voting .operate with mod := { ModS.reset with mode := .operate, sealed := true } }, by decide +kernel⟩⟩

theorem witness_MemoryReadAfterWrite :
    (∃ (m : MmuS), m.wf = true) ∧
    (∃ (m : MmuS), ∃ (ws : List (Nat × Byte)), ∃ a, m.wf = true ∧ ((∀ p ∈ ws, p.1 ≠ a))) ∧
    (∃ (m : MmuS), ∃ (n : MmuS), m.wf = true ∧ n.wf = true ∧ ((∀ a, m.byte a = n.byte a))) :=
  ⟨⟨{ MmuS.reset with bytes := [(0x10000000, 1)] }, by decide +kernel⟩,
   ⟨{ MmuS.reset with bytes := [(0x10000000, 1)] }, [(0x10000001, 5)], 0x10000000,
     by and_intros <;> first | decide +kernel | (intro l; cases l <;> decide +kernel)⟩,
   ⟨MmuS.reset, MmuS.reset, ⟨by decide, by decide, fun _ => rfl⟩⟩⟩

theorem witness_RouteWordLayout :
    ∃ (r : RouteSt), r.released ≤ 96 :=
  ⟨{ RouteSt.zero with released := 96, halted := true }, by decide +kernel⟩

theorem witness_OffsetCorrection :
    ∃ (vals : List Int), ∃ (lo : List Int), ∃ (kept : List Int), ∃ (hi : List Int), vals.Perm (lo ++ kept ++ hi) ∧ 2 ≤ vals.length ∧
      lo.length = (if 7 ≤ vals.length then 2 else if 3 ≤ vals.length then 1 else 0) ∧ hi.length = lo.length ∧ ((∀ x ∈ lo, ∀ y ∈ kept, x ≤ y)) ∧
      ((∀ x ∈ kept, ∀ y ∈ hi, x ≤ y)) :=
  ⟨[0, 5, -7], [-7], [0], [5], by and_intros <;> first | decide +kernel | (intro l; cases l <;> decide +kernel)⟩

theorem witness_RecordRepeat :
    (∃ ty, ∃ body, ∃ (ln : Option Lane), ∃ o, ∃ (s : State), s.mod.hkLost = false ∧ s.rcd.freeze = none ∧
      (s.rcd.opened.find? fun o => s.rcd.store.any fun r => decide (r.index = o.index) && sameRecord r ty body ln) = some o) ∧
    (∃ ty, ∃ body, ∃ (ln : Option Lane), ∃ (s : State), s.mod.hkLost = false ∧ s.rcd.freeze = none ∧ body.length ≤ 976 ∧
      (s.rcd.opened.find? fun o => s.rcd.store.any fun r => decide (r.index = o.index) && sameRecord r ty body ln) = none) :=
  ⟨⟨0x0601, [1], none, ⟨4, 0, 0, true⟩, { voting .operate with rcd := { RecS.reset with opened := [⟨4, 0, 0, true⟩], store := [⟨4, 0x0601, 2, false, none, false, false, 0, 0, 0, [1]⟩] } }, by decide +kernel⟩,
   ⟨0x0601, [1], some Lane.b, voting .operate, by decide +kernel⟩⟩

theorem witness_WorkedExamples :
    ∃ (a : Arrival), a.bytes = [0x02, 0x01, 0x03, 0x01, 0x40, 0x2B, 0x00, 0x00, 0x08, 0x00, 0x00, 0x00, 0x20, 0x1C, 0x3F, 0x0A, 0xF4, 0x01, 0x00,
      0x01, 0x00, 0x00, 0x00, 0x00] :=
  ⟨examplePacket, by decide +kernel⟩

theorem witness_PowerInputCommands :
    (∃ (mv : Nat), ∃ (s : State), s.mod.mode = .off ∧ 16300 < mv) ∧
    (∃ (mv : Nat), ∃ (s : State), s.mod.mode ≠ .off ∧ s.mod.holdUp = false ∧ mv < 16300) ∧
    (∃ (s : State), s.mod.mode = .reset ∧ s.mod.holdUp = true) ∧
    (∃ (mv : Nat), ∃ (s : State), s.mod.mode = .reset ∧ s.mod.holdUp = true ∧ 16300 < mv) ∧
    (∃ (mv : Nat), ∃ (s : State), s.mod.mode ≠ .off ∧ s.mod.cutOff = false ∧ 32500 < mv) ∧
    (∃ (mv : Nat), ∃ (s : State), s.mod.cutOff = true ∧ mv < 32000) ∧
    (∃ (s : State), s.mod.mode ≠ .off) :=
  ⟨⟨24000, inMode .off, by decide +kernel⟩,
   ⟨16000, inMode .operate, by decide +kernel⟩,
   ⟨{ inMode .reset with mod := { ModS.reset with mode := .reset, holdUp := true } }, by decide +kernel⟩,
   ⟨24000, { inMode .reset with mod := { ModS.reset with mode := .reset, holdUp := true } }, by decide +kernel⟩,
   ⟨33000, inMode .operate, by decide +kernel⟩,
   ⟨31000, { inMode .safe with mod := { ModS.reset with mode := .safe, cutOff := true } }, by decide +kernel⟩,
   ⟨inMode .operate, by decide +kernel⟩⟩

theorem witness_StartCommands :
    (∃ (s : State), s.mod.mode = .reset ∧ s.mod.holdUp = false) ∧
    (∃ (s : State), s.mod.mode ≠ .off) ∧
    (∃ (s : State), s.mod.mode ≠ .off) ∧
    (∃ (l : Lane), ∃ nref, ∃ (s : State), s.mod.mode = .reset ∧ s.laneSt l = .hold ∧ s.mod.holdUp = false ∧ 2413 ≤ nref ∧ nref ≤ 2587) ∧
    (∃ (l : Lane), ∃ xt, ∃ rc, ∃ rails, ∃ (s : State), s.mod.mode = .reset ∧ s.laneSt l = .hold ∧ s.mod.holdUp = false ∧
      (xt && rc && rails) = false) ∧
    (∃ (s : State), s.mod.mode = .boot ∧ s.mod.rcvLow = true) ∧
    (∃ (s : State), s.mod.mode = .boot ∧ s.img.active.st = .empty ∧ s.img.pending.st = .empty) ∧
    (∃ (tests : PerLane StartTest), ∃ vrd, ∃ (s : State), s.mod.mode = .selftest ∧ s.replyingLanes = LaneSet.full ∧ ((∀ l,
      (PerLane.get tests l).march = true ∧ (tests.get l).fails = [])) ∧ vrdPassed vrd = true ∧ s.fch.vrdRunning = false) ∧
    (∃ vrd, ∃ (s : State), s.mod.mode = .selftest ∧ vrdPassed vrd = false) ∧
    (∃ (s : State), s.mod.mode = .loaded ∧ s.img.checked = false ∧ s.img.active.type ≠ 1) :=
  ⟨⟨inMode .reset, by decide +kernel⟩,
   ⟨voting .operate, by decide +kernel⟩,
   ⟨voting .operate, by decide +kernel⟩,
   ⟨.c, 2587, inMode .reset, by decide +kernel⟩,
   ⟨.c, true, false, true, inMode .reset, by decide +kernel⟩,
   ⟨{ inMode .boot with mod := { ModS.reset with mode := .boot, rcvLow := true } }, by decide +kernel⟩,
   ⟨inMode .boot, by decide +kernel⟩,
   ⟨PerLane.pure ⟨true, []⟩, ⟨PerLane.pure LaneSet.none, PerLane.pure LaneSet.full, LaneSet.none⟩, allIn .selftest .minority,
     by and_intros <;> first | decide +kernel | exact (fun l => by cases l <;> decide +kernel)⟩,
   ⟨⟨PerLane.pure LaneSet.none, PerLane.pure LaneSet.full, LaneSet.full⟩, allIn .selftest .minority, by decide +kernel⟩,
   ⟨allIn .loaded .minority, by decide +kernel⟩⟩

theorem witness_AccordAndModeCommands :
    (∃ (s : State), s.formationDue = true ∧ s.joinable = LaneSet.full) ∧
    (∃ (s : State), s.mod.mode = .loaded ∧ s.img.checked = true ∧ s.acc.formation = none) ∧
    (∃ (s : State), s.mod.mode = .loaded ∧ s.loadedConditions = true) ∧
    (∃ (s : State), s.mod.mode = .integrate ∧ 3 ≤ s.acc.goodRounds ∧ LaneSet.count s.votingLanes = 3) ∧
    (∃ (s : State), s.degraded = true ∧ ((s.mod.role ≠ .lead ∨ s.tenderReady = false))) ∧
    (∃ (s : State), s.degraded = true ∧ s.mod.role = .lead ∧ s.tenderReady = true ∧ s.plink.switchAt = none) ∧
    (∃ (s : State), s.mod.mode = .operate ∧ LaneSet.count s.votingLanes = 3) :=
  ⟨⟨{ inMode .loaded with acc := { AccS.reset with formation := some ⟨100, 10, false⟩ }, img := { ImgS.reset with checked := true, passed := LaneSet.full }, lanes := PerLane.pure { laneIn .minority with core := { CoreS.reset with st := .minority, passed := true } } }, by decide +kernel⟩,
   ⟨{ allIn .loaded .minority with img := { ImgS.reset with checked := true } }, by decide +kernel⟩,
   ⟨{ voting .loaded with img := { ImgS.reset with checked := true, passed := LaneSet.full }, acc := { AccS.reset with formation := some ⟨100, 10, true⟩ } }, by decide +kernel⟩,
   ⟨{ voting .integrate with acc := { AccS.reset with goodRounds := 3 } }, by decide +kernel⟩,
   ⟨{ inMode .operate with lanes := ⟨laneIn .voting, laneIn .out, laneIn .voting⟩ }, by decide +kernel⟩,
   ⟨{ inMode .operate with mod := { ModS.reset with mode := .operate, role := .lead, cycle := 40 }, lanes := ⟨laneIn .voting, laneIn .out, laneIn .voting⟩, plink := { PlinkS.reset with up := true, partnerMode := 134 } }, by decide +kernel⟩,
   ⟨voting .operate, by decide +kernel⟩⟩

theorem witness_DormantCommands :
    (∃ (s : State), s.mod.mode = .dormant ∧ s.mod.dormant.any DormantS.entering = true) ∧
    (∃ (s : State), ∃ d, s.mod.mode = .dormant ∧ s.mod.waking = none ∧ s.mod.dormant = some d ∧ (d.fromOperate || d.condsMet) = true) ∧
    (∃ (s : State), ∃ d, s.mod.mode = .dormant ∧ s.mod.waking = none ∧ s.mod.dormant = some d ∧ (d.fromOperate || d.condsMet) = false) ∧
    (∃ (s : State), ∃ w, ∃ d, s.mod.mode = .dormant ∧ s.mod.waking = some w ∧ s.mod.dormant = some d ∧ d.voting = LaneSet.full ∧
      d.notPassing = LaneSet.none ∧ s.votingLanes = LaneSet.full) ∧
    (∃ (s : State), ∃ w, ∃ d, s.mod.mode = .dormant ∧ s.mod.waking = some w ∧ s.mod.dormant = some d ∧ d.notPassing = LaneSet.none) :=
  ⟨⟨{ voting .dormant with mod := { ModS.reset with mode := .dormant, dormant := some ⟨true, false, false, LaneSet.full, LaneSet.none, true⟩ } },
    by decide +kernel⟩,
   ⟨{ voting .dormant with mod := { ModS.reset with mode := .dormant, dormant := some ⟨true, false, false, LaneSet.full, LaneSet.none, false⟩ } },
     ⟨true, false, false, LaneSet.full, LaneSet.none, false⟩, by decide +kernel⟩,
   ⟨{ voting .dormant with mod := { ModS.reset with mode := .dormant, dormant := some ⟨false, true, false, LaneSet.full, LaneSet.none, false⟩ } },
     ⟨false, true, false, LaneSet.full, LaneSet.none, false⟩, by decide +kernel⟩,
   ⟨{ voting .dormant with mod := { ModS.reset with mode := .dormant, waking := some 1, dormant := some ⟨true, false, false, LaneSet.full, LaneSet.none, false⟩ } }, 1, ⟨true, false, false, LaneSet.full, LaneSet.none, false⟩, by decide +kernel⟩,
   ⟨{ voting .dormant with mod := { ModS.reset with mode := .dormant, waking := some 1, dormant := some ⟨true, false, false, LaneSet.full, LaneSet.none, false⟩ } }, 1, ⟨true, false, false, LaneSet.full, LaneSet.none, false⟩, by decide +kernel⟩⟩

theorem witness_OscillatorCommands :
    (∃ (s : State), s.mod.mode.lanesRun = true) ∧
    (∃ (l : Lane), ∃ (s : State), s.mod.mode.cycles = true ∧ s.laneSt l = .hold ∧ (s.lane l).clk.started = true ∧ (s.lane l).clk.tripped = true ∧
      (s.lane l).clk.rcDisabled = false) ∧
    (∃ (l : Lane), ∃ (s : State), s.mod.mode.lanesRun = true ∧ (s.lane l).clk.started = true ∧ (s.lane l).clk.tripped = false ∧
      (s.lane l).clk.source = .crystal ∧ (s.lane l).clk.rcStable = true ∧ (s.lane l).clk.noFallback = false) ∧
    (∃ (l : Lane), ∃ (s : State), s.mod.mode.lanesRun = true ∧ (s.lane l).clk.started = true ∧ (s.lane l).clk.source = .crystal ∧
      s.laneSt l ≠ .failed) ∧
    (∃ n, ∃ (s : State), s.mod.mode ≠ .off ∧ 2450 ≤ n ∧ n ≤ 2550) ∧
    (∃ (l : Lane), ∃ n, ∃ (s : State), s.mod.mode ≠ .off ∧ (n < 2450 ∨ 2550 < n) ∧ (s.lane l).clk.started = true ∧
      (s.lane l).clk.source = .crystal ∧ (s.lane l).clk.rcStable = true ∧ (s.lane l).clk.noFallback = false ∧ (s.lane l).clk.tripped = false) ∧
    (∃ (l : Lane), ∃ (s : State), (s.lane l).clk.started = true ∧ (s.lane l).clk.tripped = false) ∧
    (∃ (l : Lane), ∃ (s : State), (s.lane l).clk.switching = true) ∧
    (∃ (l : Lane), ∃ (s : State), (s.lane l).clk.rcRestarting = true ∧ (s.lane l).clk.rcStable = false ∧ s.laneSt l ≠ .hold) ∧
    (∃ (l : Lane), ∃ (s : State), s.laneSt l = .hold ∧ (s.lane l).clk.started = true ∧ (s.lane l).clk.tripped = true ∧
      (s.lane l).clk.rcStable = false) ∧
    (∃ (l : Lane), ∃ (d : List Int), ∃ (s : State), (s.lane l).tbs.acquiring = true ∧ d.length = 8) :=
  ⟨⟨voting .operate, by decide +kernel⟩,
   ⟨.a, { voting .operate with lanes := ⟨{ laneIn .hold with clk := { ClkS.reset with started := true, tripped := true } }, laneIn .voting, laneIn .voting⟩ }, by decide +kernel⟩,
   ⟨.b, voting .operate, by decide +kernel⟩,
   ⟨.b, voting .operate, by decide +kernel⟩,
   ⟨2550, voting .operate, by decide +kernel⟩,
   ⟨.c, 2551, voting .operate, by decide +kernel⟩,
   ⟨.c, voting .operate, by decide +kernel⟩,
   ⟨.c, { voting .operate with lanes := PerLane.pure { laneIn .voting with clk := { ClkS.reset with switching := true } } }, by decide +kernel⟩,
   ⟨.c, { voting .operate with lanes := PerLane.pure { laneIn .voting with clk := { ClkS.reset with rcRestarting := true } } },
     by decide +kernel⟩,
   ⟨.a, { voting .operate with lanes := ⟨{ laneIn .hold with clk := { ClkS.reset with started := true, tripped := true } }, laneIn .voting, laneIn .voting⟩ }, by decide +kernel⟩,
   ⟨.a, [-7, 4, -9, 0, 1, 1, 1, 1], { voting .operate with lanes := PerLane.pure { laneIn .voting with tbs := { TbsS.reset with acquiring := true } } }, by decide +kernel⟩⟩

theorem witness_SpeedAndStallCommands :
    (∃ (s : State), s.mod.mode = .operate ∧ s.votingLanes = LaneSet.full) ∧
    (∃ (l : Lane), ∃ v, ∃ (s : State), s.mod.mode.governed = true ∧ s.laneSt l = .voting ∧ 0 < (s.lane l).pwr.level ∧
      (s.lane l).pwr.stepTo = none ∧ (s.lane l).pwr.stepped = false ∧ s.mayStep l = true ∧ sat16 v * 100 < s.required * 125) ∧
    (∃ (l : Lane), ∃ v, ∃ (s : State), s.mod.mode = .operate ∧ s.votingLanes = LaneSet.full ∧ (s.lane l).pwr.level = 0 ∧ sat16 v < s.required) ∧
    (∃ (l : Lane), ∃ (s : State), s.mod.mode.governed = true ∧ (s.lane l).pwr.level + 1 ≤ (s.lane l).pwr.minLevel ∧ (s.lane l).pwr.level ≤ 1 ∧
      s.required * 150 ≤ (s.lane l).speedAtLevel ((s.lane l).pwr.level + 1) * 100 ∧ (s.lane l).pwr.stepTo = none ∧ (s.lane l).pwr.stepped = false ∧
      s.mayStep l = true) ∧
    (∃ (l : Lane), ∃ n, ∃ r, ∃ (s : State), (s.lane l).pwr.stepTo = some (n, r)) ∧
    (∃ (l : Lane), ∃ n, ∃ r, ∃ (s : State), s.mod.mode = .operate ∧ s.votingLanes = LaneSet.full ∧ (s.lane l).pwr.stepTo = some (n, r) ∧
      n < (s.lane l).pwr.level) ∧
    (∃ (l : Lane), ∃ (v : Word), ∃ (s : State), RegisterRoom s l ∧ (s.lane l).clk.static = 0 ∧ v.getLsbD 0 = true) ∧
    (∃ (l : Lane), ∃ (v : Word), ∃ (s : State), RegisterRoom s l ∧ (s.lane l).clk.static = 0 ∧ v.getLsbD 0 = false) ∧
    (∃ (l : Lane), ∃ (s : State), RegisterRoom s l ∧ (s.lane l).clk.static ≠ 0) ∧
    (∃ (l : Lane), ∃ (s : State), RegisterRoom s l ∧ (s.lane l).clk.static = 0 ∧ (s.lane l).clk.gateDram = true) ∧
    (∃ (l : Lane), ∃ (s : State), s.regsRun l = true ∧ 8 ≤ (s.lane l).core.cmpBuf.length) :=
  ⟨⟨voting .operate, by decide +kernel⟩,
   ⟨.a, 30, { voting .operate with lanes := PerLane.pure { laneIn .voting with core := { CoreS.reset with st := .voting, markSent := true }, pwr := { PwrS.reset with level := 1 } }, img := { ImgS.reset with running := some { Image.empty with decl := { Image.empty.decl with peakWork := 800 } } } }, by decide +kernel⟩,
   ⟨.a, 30, { voting .operate with lanes := PerLane.pure { laneIn .voting with pwr := { PwrS.reset with level := 0 } }, img := { ImgS.reset with running := some { Image.empty with decl := { Image.empty.decl with peakWork := 800 } } } }, by decide +kernel⟩,
   ⟨.a, { voting .operate with lanes := PerLane.pure { laneIn .voting with core := { CoreS.reset with st := .voting, markSent := true }, pwr := { PwrS.reset with level := 0, minLevel := 2 } } }, by decide +kernel⟩,
   ⟨.a, 2, 1, { voting .operate with lanes := PerLane.pure { laneIn .voting with pwr := { PwrS.reset with stepTo := some (2, 1) } } },
     by decide +kernel⟩,
   ⟨.a, 0, 1, { voting .operate with lanes := PerLane.pure { laneIn .voting with pwr := { PwrS.reset with level := 1, stepTo := some (0, 1) } } },
     by decide +kernel⟩,
   ⟨.a, 5, { voting .operate with lanes := PerLane.pure { laneIn .voting with clk := { ClkS.reset with static := 0 } } }, by decide +kernel⟩,
   ⟨.a, 6, { voting .operate with lanes := PerLane.pure { laneIn .voting with clk := { ClkS.reset with static := 0 } } }, by decide +kernel⟩,
   ⟨.a, voting .operate, by decide +kernel⟩,
   ⟨.a, { voting .operate with lanes := PerLane.pure { laneIn .voting with clk := { ClkS.reset with static := 0 } } }, by decide +kernel⟩,
   ⟨.b, (voting .operate).modCore .b fun c => { c with cmpBuf := List.replicate 8 (.register 0 0) }, by decide +kernel⟩⟩

theorem witness_TestAccessCommands :
    (∃ (cells : List Bool), cells.length = 148) ∧
    (∃ (code : BitVec 5), code ≠ 0x01 ∧ code ≠ 0x02 ∧ code ≠ 0x08) ∧
    (∃ (s : State), s.tap.ir = 0x08 ∧ s.mod.mode = .reset ∧ s.sealedT = false) ∧
    (∃ (s : State), DebugReady s) ∧
    (∃ (s : State), DebugReady s) ∧
    (∃ (s : State), DebugReady s) ∧
    (∃ (s : State), DebugReady s ∧ s.mod.dbgAttached = true) ∧
    (∃ (s : State), DebugReady s ∧ s.mod.dbgAttached = true) ∧
    (∃ (l : Lane), ∃ (s : State), DebugReady s ∧ s.mod.dbgAttached = true ∧ (s.lane l).diag.halted = true) ∧
    (∃ (s : State), DebugReady s ∧ s.mod.dbgAttached = false) ∧
    (∃ (s : State), DebugReady s) ∧
    (∃ (s : State), DebugReady s ∧ s.mod.bench = true ∧ s.mod.mode = .loaded) ∧
    (∃ (s : State), DebugReady s ∧ s.rcd.silOpen = true) ∧
    (∃ (s : State), DebugReady s ∧ s.rcd.silOpen = true) :=
  ⟨⟨List.replicate 148 true, by decide +kernel⟩,
   ⟨3, by decide +kernel⟩,
   ⟨{ inMode .reset with tap := { TapS.reset with ir := 8 } }, by decide +kernel⟩,
   ⟨dbgSt, by decide +kernel⟩,
   ⟨dbgSt, by decide +kernel⟩,
   ⟨dbgSt, by decide +kernel⟩,
   ⟨dbgSt, by decide +kernel⟩,
   ⟨dbgSt, by decide +kernel⟩,
   ⟨.b, { dbgSt with lanes := PerLane.pure { laneIn .voting with diag := { DiagS.reset with halted := true } } }, by decide +kernel⟩,
   ⟨{ dbgSt with mod := { ModS.reset with mode := .operate } }, by decide +kernel⟩,
   ⟨dbgSt, by decide +kernel⟩,
   ⟨{ inMode .loaded with tap := { TapS.reset with ir := 8 }, mod := { ModS.reset with mode := .loaded, bench := true } }, by decide +kernel⟩,
   ⟨{ dbgSt with rcd := { RecS.reset with silOpen := true } }, by decide +kernel⟩,
   ⟨{ dbgSt with rcd := { RecS.reset with silOpen := true } }, by decide +kernel⟩⟩

theorem witness_DebugMemoryCommands :
    (∃ (l : Lane), ∃ (a : BitVec 36), ∃ (s : State), DebugReady s ∧ s.mod.dbgAttached = true ∧ s.mod.lab = true ∧ inRam a.toNat = true ∧
      inRam (a.toNat + 3) = true ∧ (s.lane l).mmu.poisoned = [] ∧ s.guardAllows 7 a.toNat = true) ∧
    (∃ (l : Lane), ∃ (a : BitVec 36), ∃ (s : State), DebugReady s ∧ s.mod.dbgAttached = true ∧ inRam a.toNat = true ∧ inRam (a.toNat + 3) = true ∧
      s.guardAllows 7 a.toNat = true ∧ (s.lane l).mmu.wf = true) ∧
    (∃ (a : BitVec 36), ∃ (s : State), DebugReady s ∧ s.mod.dbgAttached = true ∧ s.guardAllows 7 a.toNat = false) :=
  ⟨⟨.b, 0x010000000, dbgSt, by decide +kernel⟩,
   ⟨.b, 0x010000000, dbgSt, by decide +kernel⟩,
   ⟨0x030000000, dbgSt, by decide +kernel⟩⟩

theorem witness_LaneRegisterCommands :
    (∃ (l : Lane), ∃ (s : State), s.regsRun l = true ∧ RegisterRoom s l) ∧
    (∃ (l : Lane), ∃ (s : State), s.regsRun l = true ∧ RegisterRoom s l) ∧
    (∃ (l : Lane), ∃ (s : State), s.regsRun l = true) ∧
    (∃ (l : Lane), ∃ (u : Fin 8), ∃ (s : State), s.regsRun l = true ∧ RegisterRoom s l ∧ ((s.lane l).unit u).bound = false) ∧
    (∃ (l : Lane), ∃ (u : Fin 8), ∃ (s : State), s.regsRun l = true ∧ RegisterRoom s l ∧ ((s.lane l).unit u).bound = false) ∧
    (∃ (l : Lane), ∃ (u : Fin 8), ∃ (s : State), s.regsRun l = true ∧ RegisterRoom s l ∧ ((s.lane l).unit u).bound = false) ∧
    (∃ (l : Lane), ∃ (u : Fin 8), ∃ (s : State), s.regsRun l = true ∧ RegisterRoom s l ∧ ((s.lane l).unit u).bound = false ∧
      ((s.lane l).unit u).poly = 3) ∧
    (∃ (l : Lane), ∃ (u : Fin 8), ∃ (s : State), s.regsRun l = true ∧ RegisterRoom s l ∧ ((s.lane l).unit u).bound = true) ∧
    (∃ (l : Lane), ∃ (s : State), s.regsRun l = true ∧ RegisterRoom s l) ∧
    (∃ (l : Lane), ∃ (s : State), s.regsRun l = true) ∧
    (∃ (l : Lane), ∃ (s : State), s.regsRun l = true ∧ RegisterRoom s l) ∧
    (∃ (l : Lane), ∃ (s : State), s.regsRun l = true ∧ 8 ≤ (s.lane l).core.cmpBuf.length) ∧
    (∃ (l : Lane), ∃ (s : State), s.regsRun l = true ∧ (s.lane l).core.cmpBuf.length < 8) ∧
    (∃ (l : Lane), ∃ (a : BitVec 36), ∃ (s : State), s.regsRun l = true ∧ inRegs a.toNat = true ∧ a.toNat % 4 ≠ 0) ∧
    (∃ (l : Lane), ∃ (a : BitVec 36), ∃ (s : State), s.regsRun l = true ∧ RegisterRoom s l ∧ inRegs a.toNat = true ∧ a.toNat % 4 = 0 ∧
      roPlace (a.toNat - 0x20000000) = true) ∧
    (∃ (l : Lane), ∃ (s : State), s.regsRun l = true) :=
  ⟨⟨.b, voting .operate, by decide +kernel⟩,
   ⟨.b, voting .operate, by decide +kernel⟩,
   ⟨.b, voting .operate, by decide +kernel⟩,
   ⟨.b, 2, voting .operate, by decide +kernel⟩,
   ⟨.b, 2, voting .operate, by decide +kernel⟩,
   ⟨.b, 2, voting .operate, by decide +kernel⟩,
   ⟨.b, 2, { voting .operate with lanes := PerLane.pure { laneIn .voting with cvu := [(2, { CvuS.reset with poly := 3, value := 0x1122334455667788 })] } }, by decide +kernel⟩,
   ⟨.b, 2, { voting .operate with lanes := PerLane.pure { laneIn .voting with cvu := [(2, { CvuS.reset with bound := true })] } },
     by decide +kernel⟩,
   ⟨.b, { voting .operate with lanes := PerLane.pure { laneIn .voting with arbD := { ArbS.reset with shadow := 5 } } }, by decide +kernel⟩,
   ⟨.b, voting .operate, by decide +kernel⟩,
   ⟨.b, voting .operate, by decide +kernel⟩,
   ⟨.b, (voting .operate).modCore .b fun c => { c with cmpBuf := List.replicate 8 (.register 0 0) }, by decide +kernel⟩,
   ⟨.b, voting .operate, by decide +kernel⟩,
   ⟨.b, 0x020050001, voting .operate, by decide +kernel⟩,
   ⟨.b, 0x020000000, voting .operate, by decide +kernel⟩,
   ⟨.b, voting .operate, by decide +kernel⟩⟩

theorem witness_DmaCommands :
    (∃ (l : Lane), ∃ (c : Fin 8), ∃ (bs : List Byte), ∃ (s : State), s.regsRun l = true ∧ RegisterRoom s l ∧ ((s.lane l).chan c).st = .idle ∧
      2 ≤ ((s.lane l).chan c).size ∧ ((s.lane l).chan c).head ≠ ((s.lane l).chan c).tail % ((s.lane l).chan c).size ∧
      (s.lane l).dmaRead (((s.lane l).chan c).slotVa ((s.lane l).chan c).head) 32 = some bs ∧ (descriptorOf bs).own = true) ∧
    (∃ (l : Lane), ∃ (c : Fin 8), ∃ (s : State), s.regsRun l = true ∧ RegisterRoom s l ∧ ((s.lane l).chan c).st = .idle ∧
      ((s.lane l).chan c).size < 2) ∧
    (∃ (l : Lane), ∃ (s : State), s.regsRun l = true ∧ RegisterRoom s l) ∧
    (∃ (l : Lane), ∃ (c : Fin 8), ∃ (s : State), s.regsRun l = true ∧ RegisterRoom s l ∧ ((s.lane l).chan c).st = .running) ∧
    (∃ (l : Lane), ∃ (c : Fin 8), ∃ (s : State), s.mod.mode.lanesRun = true ∧ ((s.lane l).chan c).st = .suspending) ∧
    (∃ (l : Lane), ∃ (c : Fin 8), ∃ d, ∃ (s : State), s.regsRun l = true ∧ RegisterRoom s l ∧ ((s.lane l).chan c).st = .suspended ∧
      ((s.lane l).chan c).cur = some d ∧ d.snoop = false) ∧
    (∃ (l : Lane), ∃ (c : Fin 8), ∃ (s : State), s.regsRun l = true ∧ RegisterRoom s l ∧ ((s.lane l).chan c).st ≠ .idle) ∧
    (∃ (l : Lane), ∃ (c : Fin 8), ∃ (s : State), s.regsRun l = true ∧ RegisterRoom s l ∧ ((s.lane l).chan c).st ≠ .idle) ∧
    (∃ (l : Lane), ∃ (c : Fin 8), ∃ d, ∃ (s : State), s.mod.mode.lanesRun = true ∧ ((s.lane l).chan c).st = .running ∧
      ((s.lane l).chan c).waiting = false ∧ ((s.lane l).chan c).cur = some d ∧ d.good = true ∧ (s.dmaMove l c d.length).isSome = true) ∧
    (∃ (l : Lane), ∃ (c : Fin 8), ∃ (k : AccessCause), ∃ (s : State), s.mod.mode.lanesRun = true ∧ ((s.lane l).chan c).st = .running ∧
      k ≠ .guard) :=
  ⟨⟨.b, 4, (1 : Byte) :: List.replicate 31 0, { withDma { DmaCh.reset with size := 4, tail := 1, base := 0x10000000 } with lanes := PerLane.pure { laneIn .voting with dma := [(4, { DmaCh.reset with size := 4, tail := 1, base := 0x10000000 })], mmu := { MmuS.reset with bytes := [(0x10000000, 1)] } } }, by decide +kernel⟩,
   ⟨.b, 4, voting .operate, by decide +kernel⟩,
   ⟨.b, withDma { DmaCh.reset with st := .running }, by decide +kernel⟩,
   ⟨.b, 4, withDma { DmaCh.reset with st := .running }, by decide +kernel⟩,
   ⟨.b, 4, withDma { DmaCh.reset with st := .suspending }, by decide +kernel⟩,
   ⟨.b, 4, descriptorOf [1], withDma { DmaCh.reset with st := .suspended, cur := some (descriptorOf [1]) }, by decide +kernel⟩,
   ⟨.b, 4, withDma { DmaCh.reset with st := .faulted, size := 4 }, by decide +kernel⟩,
   ⟨.b, 4, withDma { DmaCh.reset with st := .running }, by decide +kernel⟩,
   ⟨.b, 4, descriptorOf [3], withDma { DmaCh.reset with st := .running, size := 4, cur := some (descriptorOf [3]) }, by decide +kernel⟩,
   ⟨.b, 4, .bus, withDma { DmaCh.reset with st := .running, size := 4, cur := some (descriptorOf [3]) }, by decide +kernel⟩⟩

theorem witness_MemoryErrorCommands :
    (∃ (a : BitVec 36), ∃ (s : State), s.mod.mode.lanesRun = true ∧ inEssence a.toNat = true) ∧
    (∃ (a : BitVec 36), ∃ (s : State), s.mod.mode = .operate ∧ s.votingLanes = LaneSet.full ∧ inEssence a.toNat = true) ∧
    (∃ (a : BitVec 36), ∃ (s : State), s.mod.mode.lanesRun = true ∧ 0x4A900000 ≤ a.toNat ∧ a.toNat < 0x4D000000) ∧
    (∃ (l : Lane), ∃ (s : State), s.mod.mode.lanesRun = true ∧ s.mod.mode ≠ .dormant ∧ (s.lane l).clk.gateDram = true ∧
      (s.lane l).mmu.poisoned = [] ∧ (s.lane l).mmu.scrubWord + 1 < scrubWords) ∧
    (∃ (l : Lane), ∃ (m : Master), ∃ k, ∃ (va : Word), ∃ c, ∃ (s : State), s.mod.mode.lanesRun = true ∧ m ≠ .dma ∧
      (s.lane l).mmu.translate m.code va.toNat k = .error c) ∧
    (∃ (l : Lane), ∃ (m : Master), ∃ k, ∃ (va : Word), ∃ c, ∃ (s : State), s.mod.mode.lanesRun = true ∧ m ≠ .dma ∧
      (s.lane l).mmu.translate m.code va.toNat k = .error c ∧ LaneSet.first s.votingLanes = some l) ∧
    (∃ (l : Lane), ∃ (m : Master), ∃ k, ∃ (va : Word), ∃ c, ∃ (s : State), s.mod.mode.lanesRun = true ∧ m ≠ .dma ∧
      (s.lane l).mmu.translate m.code va.toNat k = .error c ∧ LaneSet.first s.votingLanes = some l ∧ s.formsRun = true) ∧
    (∃ (s : State), s.mod.mode.lanesRun = true) ∧
    (∃ (l : Lane), ∃ (r : Fin 8), ∃ (a : BitVec 36), ∃ (s : State), s.mod.mode.lanesRun = true ∧ (s.lane l).mmu.guardLocked = true ∧
      s.guardAllows r a.toNat = false) :=
  ⟨⟨0x010000008, voting .operate, by decide +kernel⟩,
   ⟨0x010000008, voting .operate, by decide +kernel⟩,
   ⟨0x04B000008, voting .operate, by decide +kernel⟩,
   ⟨.b, voting .operate, by decide +kernel⟩,
   ⟨.b, .route, .write, 0x30000000, 4, voting .operate, by decide +kernel⟩,
   ⟨.a, .main, .write, 0x30000000, 4, voting .operate, by decide +kernel⟩,
   ⟨.a, .route, .write, 0x30000000, 4, { voting .operate with ixl := { IxlS.reset with phase := 6 } }, by decide +kernel⟩,
   ⟨voting .operate, by decide +kernel⟩,
   ⟨.b, 6, 0x010000000, { voting .operate with lanes := PerLane.pure { laneIn .voting with mmu := { MmuS.reset with guardLocked := true } } },
     by decide +kernel⟩⟩

theorem witness_ArbiterCommands :
    (∃ (l : Lane), ∃ (p : MemPort), ∃ (w : ArbRequest), ∃ (s : State), s.mod.mode.lanesRun = true ∧ ((s.lane l).arb p).locked = false ∧
      ((s.lane l).arb p).reserved = [] ∧ (((s.lane l).arb p).standing w.requester.val).backoff = 0) ∧
    (∃ (l : Lane), ∃ (p : MemPort), ∃ (x : ArbRequest), ∃ (y : ArbRequest), ∃ (s : State), s.mod.mode.lanesRun = true ∧
      ((s.lane l).arb p).locked = false ∧ ((s.lane l).arb p).reserved = [] ∧ (((s.lane l).arb p).standing x.requester.val).backoff = 0 ∧
      (((s.lane l).arb p).standing y.requester.val).backoff = 0 ∧
      ((s.lane l).arb p).prio x.requester.val < ((s.lane l).arb p).prio y.requester.val) ∧
    (∃ (l : Lane), ∃ (p : MemPort), ∃ (s : State), s.mod.mode = .operate ∧ s.votingLanes = LaneSet.full ∧ ((s.lane l).arb p).locked = true ∧
      16 ≤ ((s.lane l).arb p).lockCount) ∧
    (∃ (l : Lane), ∃ (p : MemPort), ∃ (s : State), s.mod.mode = .operate ∧ s.votingLanes = LaneSet.full ∧ ((s.lane l).arb p).locked = true) ∧
    (∃ (l : Lane), ∃ (k : Fin 16), ∃ (s : State), s.mod.mode.lanesRun = true ∧ (Tab.getD (s.lane l).perf.ctr k .reset).enable = true ∧
      (Tab.getD (s.lane l).perf.ctr k .reset).sampleN ≠ 0 ∧
      (Tab.getD (s.lane l).perf.ctr k .reset).sampleN.toNat ≤ (Tab.getD (s.lane l).perf.ctr k .reset).phase) ∧
    (∃ (l : Lane), ∃ (s : State), s.mod.mode.lanesRun = true ∧ (s.lane l).perf.window ≠ 0) :=
  ⟨⟨.b, .dram, ⟨3, true, false, 8, 0x40000000⟩, voting .operate, by decide +kernel⟩,
   ⟨.b, .dram, ⟨4, true, false, 8, 0x40000000⟩, ⟨2, true, false, 8, 0x40000000⟩,
     { voting .operate with lanes := PerLane.pure { laneIn .voting with arbD := { ArbS.reset with active := bootPriorities } } },
     by decide +kernel⟩,
   ⟨.b, .dram, { voting .operate with lanes := PerLane.pure { laneIn .voting with arbD := { ArbS.reset with locked := true, lockCount := 16 } } },
     by decide +kernel⟩,
   ⟨.b, .dram, { voting .operate with lanes := PerLane.pure { laneIn .voting with arbD := { ArbS.reset with locked := true, lockCount := 1 } } },
     by decide +kernel⟩,
   ⟨.b, 0, { voting .operate with lanes := PerLane.pure { laneIn .voting with perf := { PerfS.reset with ctr := [(0, { PmcS.reset with enable := true, sampleN := 5, phase := 6 })] } } }, by decide +kernel⟩,
   ⟨.b, { voting .operate with lanes := PerLane.pure { laneIn .voting with perf := { PerfS.reset with window := 1 } } }, by decide +kernel⟩⟩

theorem witness_CycleCommands :
    (∃ (l : Lane), ∃ (s : State), s.mod.mode.lanesRun = true ∧ s.ticking l = true ∧ (s.lane l).diag.halted = false ∧ s.workLeft = false ∧
      (s.lane l).core.cmpBuf.length < 8) ∧
    (∃ (l : Lane), ∃ (s : State), (s.workLeft = true ∨ 8 ≤ (s.lane l).core.cmpBuf.length)) ∧
    (∃ (l : Lane), ∃ (s : State), s.mod.mode = .operate ∧ s.votingLanes = LaneSet.full ∧ (s.lane l).core.markSent = false) ∧
    (∃ (s : State), s.mod.mode ≠ .off ∧ s.mod.mode.cycles = false) ∧
    (∃ (s : State), s.mod.mode = .operate ∧ ((∀ l, s.laneSt l = .voting ∧ (s.lane l).core.markSent = true ∧ (s.lane l).core.lost = [])) ∧
      s.acc.safeAt4 = false ∧ s.acc.safeNext = false ∧ s.acc.tick < 9 ∧ ((s.acc.tick = 2 → ∀ l, (s.lane l).rte.tableDone = true ∧
      (s.lane l).rte.steps = 366601))) ∧
    (∃ (l : Lane), ∃ (s : State), s.mod.mode = .operate ∧ s.votingLanes = LaneSet.full ∧ s.acc.tick = 2 ∧ (s.lane l).rte.tableDone = false ∧
      ((∀ m, m ≠ l → (s.lane m).rte.tableDone = true ∧ (s.lane m).rte.steps = 366601))) ∧
    (∃ (s : State), s.mod.mode = .operate ∧ ((∀ l, s.laneSt l = .voting ∧ (s.lane l).core.markSent = true ∧ (s.lane l).core.lost = [])) ∧
      s.acc.safeAt4 = false ∧ s.acc.safeNext = false ∧ s.acc.tick = 9 ∧ s.acc.fresh = false ∧ s.plink.safeAfter = false) ∧
    (∃ (s : State), s.evalDue = true ∧ s.acc.accorded.cmds = []) ∧
    (∃ (l : Lane), ∃ us, ∃ (s : State), s.formsRun = true ∧ s.ticking l = true ∧ (s.lane l).rte.tableDone = false ∧ us ≤ 2800) ∧
    (∃ (l : Lane), ∃ us, ∃ (s : State), s.formsRun = true ∧ s.mod.mode = .operate ∧ s.votingLanes = LaneSet.full ∧
      (s.lane l).rte.tableDone = false ∧ 2800 < us) ∧
    (∃ (s : State), s.formsRun = true ∧ s.ixl.graphDone = false ∧ s.ixl.graphLeft ≤ 40000) ∧
    (∃ (s : State), 40000 < s.ixl.graphLeft) :=
  ⟨⟨.b, voting .operate, by decide +kernel⟩,
   ⟨.b, { voting .operate with acc := { AccS.reset with tick := 0, isOpen := true } }, by decide +kernel⟩,
   ⟨.b, voting .operate, by decide +kernel⟩,
   ⟨voting .safe, by decide +kernel⟩,
   ⟨{ voting .operate with lanes := PerLane.pure { laneIn .voting with core := { CoreS.reset with st := .voting, markSent := true } }, acc := { AccS.reset with tick := 3 } }, by and_intros <;> first | decide +kernel | exact (fun l => by cases l <;> decide +kernel)⟩,
   ⟨.b, { voting .operate with acc := { AccS.reset with tick := 2 }, lanes := ⟨{ laneIn .voting with rte := { RteS.reset with tableDone := true, steps := 366601 }, core := { CoreS.reset with st := .voting, markSent := true } }, { laneIn .voting with core := { CoreS.reset with st := .voting, markSent := true } }, { laneIn .voting with rte := { RteS.reset with tableDone := true, steps := 366601 }, core := { CoreS.reset with st := .voting, markSent := true } }⟩ }, by and_intros <;> first | decide +kernel | (intro l; cases l <;> decide +kernel)⟩,
   ⟨{ voting .operate with lanes := PerLane.pure { laneIn .voting with core := { CoreS.reset with st := .voting, markSent := true } }, acc := { AccS.reset with tick := 9, fresh := false } }, by and_intros <;> first | decide +kernel | exact (fun l => by cases l <;> decide +kernel)⟩,
   ⟨{ station with ixl := { station.ixl with phase := 1 } }, by decide +kernel⟩,
   ⟨.b, 2000, { station with ixl := { station.ixl with phase := 6 } }, by decide +kernel⟩,
   ⟨.b, 3000, { station with ixl := { station.ixl with phase := 6 } }, by decide +kernel⟩,
   ⟨{ station with ixl := { station.ixl with phase := 6, graphLeft := 33538 } }, by decide +kernel⟩,
   ⟨{ station with ixl := { station.ixl with phase := 6, graphLeft := 53538 } }, by decide +kernel⟩⟩

theorem witness_AccordCommands :
    (∃ (r : Lane), ∃ (k : Lane), ∃ (bs : List Byte), ∃ (s : State), s.mod.mode.lanesRun = true ∧ r ≠ k ∧ s.ticking r = true ∧ ¬ (4 < bs.length ∧
      leAt bs (bs.length - 4) 4 = (crc32c (bs.take (bs.length - 4))).toNat)) ∧
    (∃ (r : Lane), ∃ (k : Lane), ∃ (kind : AccordKind), ∃ (bs : List Byte), ∃ (s : State), s.mod.mode.lanesRun = true ∧ r ≠ k ∧
      s.ticking r = true ∧ kind ≠ .fetchData ∧ 4 < bs.length ∧ leAt bs (bs.length - 4) 4 = (crc32c (bs.take (bs.length - 4))).toNat ∧
      s.awaited k kind bs = true) ∧
    (∃ (r : Lane), ∃ (k : Lane), ∃ (bs : List Byte), ∃ (s : State), s.mod.mode.lanesRun = true ∧ r ≠ k ∧ s.ticking r = true ∧ 4 < bs.length ∧
      leAt bs (bs.length - 4) 4 = (crc32c (bs.take (bs.length - 4))).toNat ∧ s.awaited k .fetchData bs = true) ∧
    (∃ (r : Lane), ∃ (k : Lane), ∃ kind, ∃ (bs : List Byte), ∃ (s : State), s.mod.mode.lanesRun = true ∧ r ≠ k ∧ s.ticking r = true ∧
      4 < bs.length ∧ leAt bs (bs.length - 4) 4 = (crc32c (bs.take (bs.length - 4))).toNat ∧ s.awaited k kind bs = false) ∧
    (∃ (l : Lane), ∃ (s : State), s.accordOpen = true ∧ s.laneSt l = .voting ∧ (s.lane l).core.cmpBuf.length < 8) ∧
    (∃ (l : Lane), ∃ (s : State), 8 ≤ (s.lane l).core.cmpBuf.length) ∧
    (∃ (s : State), s.accordOpen = true ∧ s.votingLanes = LaneSet.full ∧ ((∀ l, (s.lane l).core.lost = []))) ∧
    (∃ (l : Lane), ∃ (s : State), s.accordOpen = true ∧ s.votingLanes = LaneSet.full ∧ s.acc.fetching.get l ≠ []) ∧
    (∃ (l : Lane), ∃ (s : State), s.acc.fetching.get l = []) ∧
    (∃ a, ∃ (s : State), s.accordOpen = true ∧ s.votingLanes = LaneSet.full ∧ ((∀ l, s.acc.computed.get l = some a ∧ s.acc.fetching.get l = [] ∧
      (s.lane l).core.lost = []))) ∧
    (∃ (s : State), s.accordOpen = true) ∧
    (∃ (cmd : CmdRef), ∃ (l : Lane), ∃ n, ∃ (s : State), s.mod.mode.cycles = true ∧ (cmd, l, n) ∈ s.acc.unaccorded ∧ 3 ≤ n) :=
  ⟨⟨.a, .b, [1, 2, 3, 4, 5, 6], voting .operate, by decide +kernel⟩,
   ⟨.a, .b, .mark, [1, 0, 0, 0, 0, 0, 0x31, 0x32] ++ bytesOf 4 (crc32c [1, 0, 0, 0, 0, 0, 0x31, 0x32]), voting .operate, by decide +kernel⟩,
   ⟨.a, .b, [1, 0, 0, 0, 0, 0, 2, 1, 0, 0, 0, 2, 0, 0, 0] ++ bytesOf 4 (crc32c [1, 0, 0, 0, 0, 0, 2, 1, 0, 0, 0, 2, 0, 0, 0]), voting .operate,
     by decide +kernel⟩,
   ⟨.a, .b, .mark, [0x31, 0x32, 0x33, 0x34, 0x35, 0x36, 0x37, 0x38, 0x39, 0x83, 0x92, 0x06, 0xE3], voting .operate, by decide +kernel⟩,
   ⟨.b, { voting .operate with acc := { AccS.reset with isOpen := true, tick := 0 } }, by decide +kernel⟩,
   ⟨.b, ({ voting .operate with acc := { AccS.reset with isOpen := true, tick := 0 } } : State).modCore .b fun c => { c with cmpBuf := List.replicate 8 (.register 0 0) }, by decide +kernel⟩,
   ⟨{ voting .operate with acc := { AccS.reset with isOpen := true, tick := 0 } },
     by and_intros <;> first | decide +kernel | exact (fun l => by cases l <;> decide +kernel)⟩,
   ⟨.b, { voting .operate with acc := { AccS.reset with isOpen := true, tick := 0, fetching := ⟨[], [(.block 5 7, .a)], []⟩ } },
     by decide +kernel⟩,
   ⟨.b, { voting .operate with acc := { AccS.reset with isOpen := true, tick := 0 } }, by decide +kernel⟩,
   ⟨(AccS.reset).accorded, { voting .operate with acc := { AccS.reset with isOpen := true, tick := 0, computed := PerLane.pure (some (AccS.reset).accorded) } }, by and_intros <;> first | decide +kernel | exact (fun l => by cases l <;> decide +kernel)⟩,
   ⟨{ voting .operate with acc := { AccS.reset with isOpen := true, tick := 0 } }, by decide +kernel⟩,
   ⟨⟨5, 1, 9⟩, .a, 3, { voting .operate with acc := { AccS.reset with unaccorded := [(⟨5, 1, 9⟩, .a, 3)] } }, by decide +kernel⟩⟩

theorem witness_RouteCommands :
    (∃ (h : CmdHdr), ∃ (r : BitVec 16), ∃ (act : Byte), ∃ d, ∃ (s : State), Accepts s h 0x0101 none ∧ act.toNat < 2 ∧
      Tab.get? s.image.routes r.toNat = some d ∧ Tab.wf s.ixl.resolved.routes = true ∧ (s.ixl.resolved.route r.toNat).st = .idle ∧
      (s.standing.setFail r.toNat d).status = stOk ∧ s.standing.full = false) ∧
    (∃ (h : CmdHdr), ∃ (r : BitVec 16), ∃ d, ∃ (s : State), Accepts s h 0x0102 none ∧ Tab.get? s.image.routes r.toNat = some d ∧
      Tab.wf s.ixl.resolved.routes = true ∧ (s.ixl.resolved.route r.toNat).st = .setting) ∧
    (∃ (h : CmdHdr), ∃ (r : BitVec 16), ∃ d, ∃ (s : State), Accepts s h 0x0102 none ∧ Tab.get? s.image.routes r.toNat = some d ∧
      Tab.wf s.ixl.resolved.routes = true ∧ (((s.ixl.resolved.route r.toNat).st = .locked ∨ (s.ixl.resolved.route r.toNat).st = .proved ∨ (s.ixl.resolved.route r.toNat).st = .cleared)) ∧ s.standing.engaged r.toNat d = true ∧ d.tApprLock ≠ 0) ∧
    (∃ (h : CmdHdr), ∃ (r : BitVec 16), ∃ d, ∃ (s : State), Accepts s h 0x0103 none ∧ Tab.get? s.image.routes r.toNat = some d ∧
      3 ≤ (s.ixl.resolved.route r.toNat).st.code ∧ (s.ixl.resolved.route r.toNat).st.code ≤ 8) ∧
    (∃ (h : CmdHdr), ∃ (r : BitVec 16), ∃ (tok : Word), ∃ d, ∃ (s : State), Accepts s h 0x0103 none ∧ Tab.get? s.image.routes r.toNat = some d ∧
      Tab.wf s.ixl.resolved.routes = true ∧ 3 ≤ (s.ixl.resolved.route r.toNat).st.code ∧ (s.ixl.resolved.route r.toNat).st.code ≤ 8 ∧
      s.tokenValid h 0x0103 r.toNat true tok = true ∧ d.tEmerg ≠ 0) ∧
    (∃ (h : CmdHdr), ∃ (r : BitVec 16), ∃ (act : Byte), ∃ d, ∃ (s : State), Accepts s h 0x0105 none ∧ (act.toNat = 1 ∨ act.toNat = 2) ∧
      Tab.get? s.image.routes r.toNat = some d ∧ Tab.wf s.ixl.resolved.routes = true) :=
  ⟨⟨hdr5, 0, 1, rt, station, by decide +kernel⟩,
   ⟨hdr5, 0, rt, stationWith [] [(0, { RouteSt.zero with st := .setting, auto := true })], by decide +kernel⟩,
   ⟨hdr5, 0, rt, stationWith [] [(0, { RouteSt.zero with st := .cleared, signalled := true })], by decide +kernel⟩,
   ⟨hdr5, 0, rt, stationWith [] [(0, { RouteSt.zero with st := .cleared, signalled := true })], by decide +kernel⟩,
   ⟨hdr5, 0, 1234, rt, { stationWith [] [(0, { RouteSt.zero with st := .cleared, signalled := true })] with ixl := { (stationWith [] [(0, { RouteSt.zero with st := .cleared, signalled := true })]).ixl with tokens := [⟨1234, 0x103, 5, 0, 0, true, none⟩] } }, by decide +kernel⟩,
   ⟨hdr5, 0, 1, rt, station, by decide +kernel⟩⟩

theorem witness_ElementAndBoundaryCommands :
    (∃ (h : CmdHdr), ∃ (o : BitVec 16), ∃ (act : Byte), ∃ d, ∃ (s : State), Accepts s h 0x0201 none ∧ (act.toNat = 1 ∨ act.toNat = 2) ∧
      Tab.get? s.image.elems o.toNat = some d ∧ (d.kind = .pt ∨ d.kind = .de) ∧ (s.standing.elem o.toNat).state ≠ act.toNat + 1 ∧
      s.standing.moveFail o.toNat = (false, false)) ∧
    (∃ (h : CmdHdr), ∃ (o : BitVec 16), ∃ (act : Byte), ∃ d, ∃ (s : State), Accepts s h 0x0202 none ∧ (act.toNat = 1 ∨ act.toNat = 2) ∧
      Tab.get? s.image.elems o.toNat = some d ∧ (d.kind = .pt ∨ d.kind = .de)) ∧
    (∃ (h : CmdHdr), ∃ (o : BitVec 16), ∃ d, ∃ (s : State), Accepts s h 0x0203 none ∧ Tab.get? s.image.elems o.toNat = some d ∧
      (d.kind = .sg ∨ d.kind = .ez)) ∧
    (∃ (h : CmdHdr), ∃ (o : BitVec 16), ∃ (act : Byte), ∃ d, ∃ (s : State), Accepts s h 0x0204 none ∧ (act.toNat = 1 ∨ act.toNat = 2) ∧
      Tab.get? s.image.elems o.toNat = some d ∧ d.kind = .ts) ∧
    (∃ (h : CmdHdr), ∃ (o : BitVec 16), ∃ d, ∃ (s : State), Accepts s h 0x0205 none ∧ Tab.get? s.image.elems o.toNat = some d ∧
      (d.kind = .ts ∨ d.kind = .ez) ∧ s.standing.restoreCheck o.toNat d = stOk) ∧
    (∃ (h : CmdHdr), ∃ (o : BitVec 16), ∃ (tok : Word), ∃ d, ∃ (s : State), Accepts s h 0x0205 none ∧ Tab.get? s.image.elems o.toNat = some d ∧
      (d.kind = .ts ∨ d.kind = .ez) ∧ s.standing.restoreCheck o.toNat d = stOk ∧ s.tokenValid h 0x0205 o.toNat true tok = true) ∧
    (∃ (h : CmdHdr), ∃ (o : BitVec 16), ∃ d, ∃ (s : State), Accepts s h 0x0206 none ∧ Tab.get? s.image.elems o.toNat = some d ∧ ((d.kind = .ky ∧
      (s.standing.elem o.toNat).state = 3 ∧ s.standing.areaFree ((s.image.elems.filter fun p => p.2.ky = some o.toNat).map Prod.fst) = true) ∨ (d.kind = .sa ∧ s.standing.areaFree ((s.image.elems.filter fun p => p.2.sa = some o.toNat).map Prod.fst) = true))) ∧
    (∃ (h : CmdHdr), ∃ (o : BitVec 16), ∃ (act : Byte), ∃ d, ∃ (s : State), Accepts s h 0x0207 none ∧ (act.toNat = 1 ∨ (act.toNat = 2 ∧
      (s.standing.elem o.toNat).fb = false)) ∧ Tab.get? s.image.elems o.toNat = some d ∧ d.kind = .lx) ∧
    (∃ (h : CmdHdr), ∃ (bb : BitVec 16), ∃ (theirs : BitVec 16), ∃ (dir : Byte), ∃ (fl : Byte), ∃ (ea : Byte), ∃ (s : State),
      Accepts s h 0x0F01 none ∧ dir.toNat ≤ 2 ∧ fl.toNat < 64 ∧ ea.toNat < 16 ∧ ((∃ b ∈ s.image.bounds, b.bb = bb.toNat ∧
      b.source = h.source.toNat ∧ b.queue = h.queue.val ∧ b.theirBb = theirs.toNat))) ∧
    (∃ (h : CmdHdr), ∃ (box : BitVec 16), ∃ (n : Byte), ∃ (ws : List Word), ∃ (s : State), Accepts s h 0x0C01 none ∧ n.toNat ≤ 8 ∧
      ws.length = n.toNat ∧ ((∃ b ∈ s.image.blocks, b.2.type = 0x29 ∧ bits b.2.param 15 0 = box.toNat))) :=
  ⟨⟨hdr5, 2, 2, el .pt, { station with mod := { station.mod with cycle := 5 } }, by decide +kernel⟩,
   ⟨hdr5, 2, 1, el .pt, station, by decide +kernel⟩,
   ⟨hdr5, 3, el .sg, station, by decide +kernel⟩,
   ⟨hdr5, 1, 1, el .ts, station, by decide +kernel⟩,
   ⟨hdr5, 6, el .ez, station, by decide +kernel⟩,
   ⟨hdr5, 6, 1234, el .ez, { station with ixl := { station.ixl with tokens := [⟨1234, 0x205, 5, 6, 0, true, none⟩] } }, by decide +kernel⟩,
   ⟨hdr5, 5, el .ky, stationWith [(5, { ElemSt.zero with state := 3 })] [], by decide +kernel⟩,
   ⟨hdr5, 4, 1, el .lx, station, by decide +kernel⟩,
   ⟨{ hdr5 with queue := 2 }, 8, 77, 2, 0x12, 3, station, by decide +kernel⟩,
   ⟨hdr5, 300, 2, [1, 2], station, by decide +kernel⟩⟩

theorem witness_ElementTimerCommands :
    (∃ (a : Fin 64), ∃ (s : State), s.mod.mode.cycles = true ∧ (s.ixl.resolved.area a.val).timer ≠ 0xFFFF) ∧
    (∃ (a : Fin 64), ∃ (s : State), s.mod.mode.cycles = true ∧ (s.ixl.resolved.area a.val) = ⟨0xFFFF, false⟩ ∧
      (s.form false).areaReady a.val = true ∧ Tab.getD s.image.areas a.val 0 ≠ 0 ∧ Tab.wf s.ixl.resolved.areas = true) ∧
    (∃ (o : BitVec 13), ∃ d, ∃ (s : State), s.mod.mode.cycles = true ∧ Tab.get? s.image.elems o.toNat = some d ∧ d.kind = .ts ∧ d.cls ≠ 1 ∧
      ((∀ p ∈ s.image.elems, p.2.ez ≠ some o.toNat)) ∧ Tab.wf s.ixl.resolved.elems = true ∧ (s.ixl.resolved.elem o.toNat).state = 0 ∧
      (s.ixl.resolved.elem o.toNat).ta ≠ 0xFFFF ∧ s.inputs.2.contains o.toNat = false ∧
      (Tab.getD s.inputs.1 o.toNat 0 = 2 ∨ Tab.getD s.inputs.1 o.toNat 0 = 3)) ∧
    (∃ (o : BitVec 13), ∃ d, ∃ (s : State), s.mod.mode.cycles = true ∧ Tab.get? s.image.elems o.toNat = some d ∧ (d.kind = .pt ∨ d.kind = .de) ∧
      (s.ixl.resolved.elem o.toNat).cmd ≠ 0 ∧ (s.ixl.resolved.elem o.toNat).ta ≠ 0xFFFF ∧ Tab.wf s.ixl.resolved.elems = true) ∧
    (∃ (o : BitVec 13), ∃ d, ∃ (s : State), s.mod.mode.cycles = true ∧ Tab.get? s.image.elems o.toNat = some d ∧ d.kind = .sg ∧
      (s.ixl.resolved.elem o.toNat).ta ≠ 0xFFFF ∧ (s.ixl.resolved.elem o.toNat).unproven = false ∧ Tab.wf s.ixl.resolved.elems = true ∧
      Tab.getD s.inputs.1 o.toNat 0 < 16) ∧
    (∃ (o : BitVec 13), ∃ d, ∃ (s : State), s.mod.mode.cycles = true ∧ Tab.get? s.image.elems o.toNat = some d ∧ d.kind = .lx ∧
      (s.ixl.resolved.elem o.toNat).state = 3 ∧ (s.ixl.resolved.elem o.toNat).cmd = 0 ∧ (s.ixl.resolved.elem o.toNat).ta ≠ 0xFFFF ∧
      Tab.getD s.inputs.1 o.toNat 0 ≠ 2 ∧ Tab.wf s.ixl.resolved.elems = true) ∧
    (∃ (o : BitVec 13), ∃ d, ∃ (s : State), s.mod.mode.cycles = true ∧ Tab.get? s.image.elems o.toNat = some d ∧ d.kind = .bb ∧
      (s.ixl.resolved.elem o.toNat).ta ≠ 0xFFFF ∧ Tab.wf s.ixl.resolved.elems = true) ∧
    (∃ (o : BitVec 13), ∃ d, ∃ (s : State), s.mod.mode.cycles = true ∧ Tab.get? s.image.elems o.toNat = some d ∧ d.kind = .bb ∧
      (s.ixl.resolved.elem o.toNat).tb ≠ 0xFFFF ∧ Tab.wf s.ixl.resolved.elems = true) ∧
    (∃ (n : Fin 512), ∃ (row : Fin 8), ∃ a, ∃ o, ∃ d, ∃ (s : State), s.mod.mode.cycles = true ∧ (Tab.getD s.net.nodes n.val .none).age = some a ∧
      Tab.get? s.image.elems o = some d ∧ d.src = .node n.val ∧ d.kind.hasInput = true ∧ s.image.ageRow n.val d.kind = row.val ∧
      Tab.wf s.ixl.resolved.elems = true) :=
  ⟨⟨3, { voting .operate with ixl := { IxlS.reset with resolved := { Verdict.empty with areas := [(3, ⟨5, false⟩)] } } }, by decide +kernel⟩,
   ⟨3, { station with img := { ImgS.reset with running := some { stationImage with areas := [(3, 500)] } } }, by decide +kernel⟩,
   ⟨1, { el .ts with src := .chan 4 }, { stationWith [(1, { ElemSt.zero with ta := 7 })] [] with img := { ImgS.reset with running := some { stationImage with elems := [(1, { el .ts with src := .chan 4 })] } }, acc := { AccS.reset with accorded := { AccS.reset.accorded with chans := 0x20 } } }, by and_intros <;> first | decide +kernel | (intro l; cases l <;> decide +kernel)⟩,
   ⟨2, el .pt, stationWith [(2, { ElemSt.zero with state := 1, cmd := 2, ta := 7 })] [], by decide +kernel⟩,
   ⟨3, el .sg, stationWith [(3, { ElemSt.zero with cmd := 5, ta := 7 })] [], by decide +kernel⟩,
   ⟨4, el .lx, stationWith [(4, { ElemSt.zero with state := 3, ta := 7 })] [], by decide +kernel⟩,
   ⟨8, el .bb, stationWith [(8, { ElemSt.zero with fa := true, ta := 7 })] [], by decide +kernel⟩,
   ⟨8, el .bb, stationWith [(8, { ElemSt.zero with tb := 7 })] [], by decide +kernel⟩,
   ⟨4, 1, 3000, 2, { el .pt with src := .node 4 }, { station with net := { NetS.reset with nodes := [(4, { NodeSt.none with age := some 3000 })] }, img := { ImgS.reset with running := some { stationImage with elems := [(2, { el .pt with src := .node 4 })] } } }, by decide +kernel⟩⟩

theorem witness_RouteTimerCommands :
    (∃ (r : BitVec 12), ∃ d, ∃ (s : State), s.mod.mode.cycles = true ∧ Tab.get? s.image.routes r.toNat = some d ∧
      Tab.wf s.ixl.resolved.routes = true ∧ (s.ixl.resolved.route r.toNat).st = .requested ∧ (s.ixl.resolved.route r.toNat).timer ≠ 0xFFFF ∧
      (s.timerForm.setFail r.toNat d).status ≠ stOk) ∧
    (∃ (r : BitVec 12), ∃ d, ∃ sec, ∃ (s : State), s.mod.mode.cycles = true ∧ Tab.get? s.image.routes r.toNat = some d ∧
      Tab.wf s.ixl.resolved.routes = true ∧ Tab.wf s.ixl.use = true ∧ (s.ixl.resolved.route r.toNat).st = .cleared ∧
      (s.ixl.resolved.route r.toNat).timer ≠ 0xFFFF ∧ d.acMode ≠ 0 ∧ d.apprTs = some sec ∧ s.timerForm.tsOcc sec = true ∧
      (s.timerForm.sections d).head?.any s.timerForm.tsOcc = false ∧ s.timerForm.proved r.toNat d = true) ∧
    (∃ (r : BitVec 12), ∃ d, ∃ (s : State), s.mod.mode.cycles = true ∧ Tab.get? s.image.routes r.toNat = some d ∧
      Tab.wf s.ixl.resolved.routes = true ∧ (s.ixl.resolved.route r.toNat).st = .apprLocked ∧ (s.ixl.resolved.route r.toNat).timer ≠ 0xFFFF ∧
      (s.timerForm.sections d).head?.any s.timerForm.tsOcc = false) ∧
    (∃ (r : BitVec 12), ∃ d, ∃ (s : State), s.mod.mode.cycles = true ∧ Tab.get? s.image.routes r.toNat = some d ∧
      Tab.wf s.ixl.resolved.routes = true ∧ (s.ixl.resolved.route r.toNat).st = .emerg ∧ (s.ixl.resolved.route r.toNat).timer ≠ 0xFFFF) ∧
    (∃ (o : BitVec 13), ∃ r, ∃ x, ∃ d, ∃ e, ∃ (s : State), s.mod.mode.cycles = true ∧ Tab.get? s.image.elems o.toNat = some e ∧ e.kind = .ov ∧
      (s.ixl.resolved.elem o.toNat).ta ≠ 0xFFFF ∧ s.ixl.resolved.routes = [(r, x)] ∧ x.st = .releasing ∧ x.ovOcc = false ∧
      Tab.get? s.image.routes r = some d ∧ d.overlap = some o.toNat ∧ x.halted = false ∧ (Tab.getD s.ixl.use r .none).ovFreed = false ∧
      (Tab.getD s.ixl.use r .none).ovTime = .running ∧ (Tab.getD s.ixl.use r .none).bad = [] ∧ x.released + 1 = (s.timerForm.sections d).length ∧
      (s.timerForm.sections d).getLast?.any s.timerForm.tsOcc = true ∧ (s.timerForm.ovSections d).any s.timerForm.tsOcc = false ∧
      Tab.wf s.ixl.resolved.elems = true) :=
  ⟨⟨0, rt, { stationWith [(1, { ElemSt.zero with fa := true })] [(0, { RouteSt.zero with st := .requested, timer := 9 })] with tap := TapS.reset }, by decide +kernel⟩,
   ⟨0, { rt with acMode := 1, apprTs := some 11 }, 11,
     { stationWith [(1, { ElemSt.zero with state := 2 }), (11, { ElemSt.zero with state := 1 })] [(0, { RouteSt.zero with st := .cleared, timer := 9 })] with img := { ImgS.reset with running := some { stationImage with elems := stationImage.elems ++ [(11, el .ts)], routes := [(0, { rt with acMode := 1, apprTs := some 11 })] } } }, by decide +kernel⟩,
   ⟨0, rt, stationWith [] [(0, { RouteSt.zero with st := .apprLocked, timer := 9 })], by decide +kernel⟩,
   ⟨0, rt, stationWith [] [(0, { RouteSt.zero with st := .emerg, timer := 9 })], by decide +kernel⟩,
   ⟨10, 0, { RouteSt.zero with st := .releasing, released := 0 }, { rt with overlap := some 10, path := [⟨1, 1, false, 0⟩] }, el .ov,
     { stationWith [(1, { ElemSt.zero with state := 1 }), (10, { ElemSt.zero with state := 2, ta := 50 })] [(0, { RouteSt.zero with st := .releasing, released := 0 })] with ixl := { (stationWith [(1, { ElemSt.zero with state := 1 }), (10, { ElemSt.zero with state := 2, ta := 50 })] [(0, { RouteSt.zero with st := .releasing, released := 0 })]).ixl with use := [(0, { RouteUse.none with ovTime := .running })] }, img := { ImgS.reset with running := some { stationImage with routes := [(0, { rt with overlap := some 10, path := [⟨1, 1, false, 0⟩] })] } } }, by decide +kernel⟩⟩

theorem witness_OutputAndSupervisorCommands :
    (∃ n, ∃ d, ∃ (s : State), s.evalDue = true ∧ s.sup.passed = false ∧ s.mod.mode = .operate ∧ s.image.sups = [(n, d)] ∧ d.remote = false ∧
      (Tab.getD s.sup.sups n SupSt.halted0).st = .ready ∧ ((Tab.getD s.sup.sups n SupSt.halted0).measure s.acc.accorded d).rate < d.still ∧
      (((s.ixl.resolved.elem d.point).cmd = 1 ∨ (s.ixl.resolved.elem d.point).cmd = 2)) ∧ (s.ixl.resolved.elem d.point).state ≠ 0) ∧
    (∃ (s : State), s.sup.passed = true) ∧
    (∃ n, ∃ d, ∃ o, ∃ (got : LaneSet), ∃ (s : State), s.mod.mode = .operate ∧ s.acc.tick = 1 ∧ s.sup.stopStaged = [n] ∧
      Tab.get? s.image.sups n = some d ∧ (Tab.getD s.sup.sups n SupSt.halted0).st.enable = false ∧ d.srUsed = false ∧
      Tab.get? s.fch.outs d.enCh = some o ∧ 2 ≤ LaneSet.count (LaneSet.inter got s.votingLanes)) ∧
    (∃ (got : LaneSet), ∃ (s : State), s.mod.mode = .operate ∧ s.acc.tick = 1 ∧ s.sup.stopStaged ≠ [] ∧
      LaneSet.count (LaneSet.inter got s.votingLanes) < 2) ∧
    (∃ (s : State), s.formsRun = true ∧ s.acc.tick = 3 ∧ s.mod.role ≠ .tender ∧ s.ixl.graphV = s.ixl.tableV ∧ s.votingLanes = LaneSet.full ∧
      ((∀ l, (s.lane l).core.lost = []))) ∧
    (∃ (s : State), s.formsRun = true ∧ s.acc.tick = 3 ∧ s.ixl.graphV = s.ixl.tableV) ∧
    (∃ (s : State), s.mod.mode.cycles = true ∧ s.acc.tick = 4 ∧ s.ixl.cmpDone = true ∧ s.acc.staged = LaneSet.full) ∧
    (∃ (got : LaneSet), ∃ (s : State), s.mod.mode.cycles = true ∧ s.acc.tick = 4 ∧ s.ixl.cmpDone = true ∧ s.acc.staged = LaneSet.full ∧
      LaneSet.count got < 2) ∧
    (∃ (s : State), s.mod.mode.refreshes = true ∧ s.acc.lapsed = false ∧ ((∀ p ∈ s.fch.outs, ∀ l, p.2.hs.oddRun.get l = 0 ∧
      p.2.ls.oddRun.get l = 0))) ∧
    (∃ (s : State), s.mod.mode.refreshes = true ∧ s.acc.lapsed = true) ∧
    (∃ i, ∃ (s : State), s.mod.mode.cycles = true ∧ s.acc.tick = 9 ∧ s.acc.sliced = false ∧ s.workLeft = false ∧ s.knownWork ≤ 25000 ∧
      s.votingLanes = LaneSet.full ∧ isRotation i = false ∧ ((∀ l, (s.lane l).diag.bstNext = i ∧ (s.lane l).diag.bstRepeat = false ∧
      (s.lane l).diag.dmaFailed = []))) ∧
    (∃ i, ∃ (misr : PerLane (BitVec 64)), ∃ (l : Lane), ∃ (s : State), s.mod.mode.cycles = true ∧ s.acc.tick = 9 ∧ s.acc.sliced = false ∧
      s.workLeft = false ∧ s.knownWork ≤ 25000 ∧ s.votingLanes = LaneSet.full ∧ isRotation i = false ∧ ((∀ l, (s.lane l).diag.bstNext = i ∧
      (s.lane l).diag.bstRepeat = false ∧ (s.lane l).diag.dmaFailed = [] ∧ (s.lane l).mmu.weakSpare = false)) ∧
      misr.get l ≠ Config.misrExpected i) ∧
    (∃ (s : State), (s.acc.sliced = true ∨ s.workLeft = true ∨ 25000 < s.knownWork)) :=
  ⟨⟨0, sup0, { stationWith [(2, { ElemSt.zero with state := 1, cmd := 2 })] [] with img := { ImgS.reset with running := some { stationImage with sups := [(0, sup0)] } }, sup := { SupS.reset with sups := [(0, { SupSt.halted0 with st := .ready })] }, ixl := { (stationWith [(2, { ElemSt.zero with state := 1, cmd := 2 })] []).ixl with phase := 1 } }, by decide +kernel⟩,
   ⟨{ station with sup := { SupS.reset with passed := true }, ixl := { station.ixl with phase := 1 } }, by decide +kernel⟩,
   ⟨0, sup0, chOut1, ⟨true, false, true⟩, { voting .operate with acc := { AccS.reset with tick := 1 }, sup := { SupS.reset with stopStaged := [0] }, img := { ImgS.reset with running := some { stationImage with sups := [(0, sup0)] } }, fch := { FchS.reset with outs := [(6, chOut1)] } }, by decide +kernel⟩,
   ⟨⟨true, false, false⟩, { voting .operate with acc := { AccS.reset with tick := 1 }, sup := { SupS.reset with stopStaged := [0] } },
     by decide +kernel⟩,
   ⟨{ station with ixl := { station.ixl with phase := 6 }, acc := { AccS.reset with tick := 3 } },
     by and_intros <;> first | decide +kernel | (intro l; cases l <;> decide +kernel)⟩,
   ⟨{ station with ixl := { station.ixl with phase := 6 }, acc := { AccS.reset with tick := 3 } }, by decide +kernel⟩,
   ⟨{ station with ixl := { station.ixl with cmpDone := true }, acc := { AccS.reset with tick := 4, staged := LaneSet.full }, fch := { FchS.reset with outs := [(6, { chOut1 with hs := { chOut1.hs with vote := LaneSet.none } })] } }, by decide +kernel⟩,
   ⟨⟨true, false, false⟩, { station with ixl := { station.ixl with cmpDone := true }, acc := { AccS.reset with tick := 4, staged := LaneSet.full } }, by decide +kernel⟩,
   ⟨{ voting .operate with fch := { FchS.reset with outs := [(6, { chOut1 with hs := { chOut1.hs with live := LaneSet.none } })] } }, ⟨by decide,
     by decide, fun p hp l => by have h := List.eq_of_mem_singleton hp; subst h; cases l <;> decide⟩⟩,
   ⟨{ voting .operate with acc := { AccS.reset with lapsed := true }, fch := { FchS.reset with outs := [(6, { chOut1 with hs := { chOut1.hs with live := LaneSet.none } })] } }, by decide +kernel⟩,
   ⟨7, { voting .operate with acc := { AccS.reset with tick := 9 }, lanes := PerLane.pure { laneIn .voting with diag := { DiagS.reset with bstNext := 7 } } }, by and_intros <;> first | decide +kernel | exact (fun l => by cases l <;> decide +kernel)⟩,
   ⟨7, ⟨0, Config.misrExpected 7 + 1, 0⟩, .b, { voting .operate with acc := { AccS.reset with tick := 9 }, lanes := PerLane.pure { laneIn .voting with diag := { DiagS.reset with bstNext := 7 } } }, by and_intros <;> first | decide +kernel | exact (fun l => by cases l <;> decide +kernel) | exact fun h => by have := congrArg (fun x => x - Config.misrExpected 7) h; simp [PerLane.get] at this⟩,
   ⟨{ voting .operate with acc := { AccS.reset with tick := 9, sliced := true } }, by decide +kernel⟩⟩

theorem witness_LaneReturnCommands :
    (∃ (s : State), s.mod.mode = .operate ∧ s.votingLanes = LaneSet.full) ∧
    (∃ (l : Lane), ∃ (s : State), s.inStep l 1 = true ∧ (s.lane l).core.resync.waitClock = false) ∧
    (∃ (l : Lane), ∃ (s : State), s.inStep l 2 = true ∧ (s.lane l).core.asked = none) ∧
    (∃ (l : Lane), ∃ m, ∃ (s : State), s.mod.mode.cycles = true ∧ s.acc.tick = 0 ∧ s.inStep l 3 = true ∧ (s.lane l).core.resync.armWait = 0 ∧
      (s.lane l).core.resync.copyRunning = false ∧ LaneSet.first s.votingLanes = some m) ∧
    (∃ m, ∃ (page : Fin 4096), ∃ (s : State), ((Lane.all.any s.receiving = true ∧
      LaneSet.first s.votingLanes = some m) ∨ (s.lane m).diag.keyframeBusy = true) ∧ (s.lane m).mmu.sentPages.contains page.val = false) ∧
    (∃ (l : Lane), ∃ (a : Word), ∃ (b : Word), ∃ (s : State), s.receiving l = true ∧ a ++ b = pageHash (s.lane l).mmu.receivedPages) ∧
    (∃ (l : Lane), ∃ (a : Word), ∃ (b : Word), ∃ (s : State), s.receiving l = true ∧ a ++ b ≠ pageHash (s.lane l).mmu.receivedPages ∧
      (s.lane l).core.resync.failedCopies < 8) ∧
    (∃ (l : Lane), ∃ (s : State), s.receiving l = true ∧ (s.lane l).core.resync.failedCopies < 8) ∧
    (∃ (l : Lane), ∃ n, ∃ (s : State), s.inStep l 4 = true ∧ (s.lane l).core.resync.behind = n ∧ n ≤ 3000) ∧
    (∃ (l : Lane), ∃ n, ∃ (s : State), s.inStep l 4 = true ∧ (s.lane l).core.resync.behind = n ∧ 3000 < n) ∧
    (∃ (l : Lane), ∃ (s : State), s.inStep l 4 = true) ∧
    (∃ (l : Lane), ∃ n, ∃ (s : State), s.inStep l 5 = true ∧ (s.lane l).core.resync.probation = n ∧ 3 ≤ n) ∧
    (∃ (l : Lane), ∃ (s : State), (s.lane l).core.resync.probation < 3 ∧ s.plink.probation < 3) ∧
    (∃ (l : Lane), ∃ (s : State), s.inStep l 5 = true) ∧
    (∃ (l : Lane), ∃ (s : State), s.mod.mode.cycles = true ∧ s.laneSt l = .resync ∧ (s.lane l).core.resync.waiting = false) ∧
    (∃ (l : Lane), ∃ (s : State), s.mod.mode.lanesRun = true ∧ s.laneSt l = .out ∧ (s.lane l).core.cause = 8 ∧ s.autoResyncs l < 3 ∧
      s.required * 125 ≤ (s.lane l).speedAtLevel 0 * 100) :=
  ⟨⟨voting .operate, by decide +kernel⟩,
   ⟨.c, resyncing 1, by decide +kernel⟩,
   ⟨.c, resyncing 2, by decide +kernel⟩,
   ⟨.c, .a, { resyncing 3 with acc := { AccS.reset with tick := 0 } }, by decide +kernel⟩,
   ⟨.b, 55, { voting .operate with lanes := PerLane.pure { laneIn .voting with diag := { DiagS.reset with keyframeBusy := true } } },
     by decide +kernel⟩,
   ⟨.c, (pageHash (((resyncing 3).modResync .c fun r => { r with copyRunning := true }).lane .c).mmu.receivedPages).extractLsb' 32 32,
     (pageHash (((resyncing 3).modResync .c fun r => { r with copyRunning := true }).lane .c).mmu.receivedPages).setWidth 32,
     (resyncing 3).modResync .c fun r => { r with copyRunning := true }, by and_intros <;> first | exact test_halves _ | decide +kernel⟩,
   ⟨.c, ~~~ (pageHash (((resyncing 3).modResync .c fun r => { r with copyRunning := true }).lane .c).mmu.receivedPages).extractLsb' 32 32,
     (pageHash (((resyncing 3).modResync .c fun r => { r with copyRunning := true }).lane .c).mmu.receivedPages).setWidth 32,
     (resyncing 3).modResync .c fun r => { r with copyRunning := true }, by and_intros <;> first | exact test_other_half _ | decide +kernel⟩,
   ⟨.c, (resyncing 3).modResync .c fun r => { r with copyRunning := true }, by decide +kernel⟩,
   ⟨.c, 500, (resyncing 4).modResync .c fun r => { r with behind := 500 }, by decide +kernel⟩,
   ⟨.c, 3001, (resyncing 4).modResync .c fun r => { r with behind := 3001 }, by decide +kernel⟩,
   ⟨.c, resyncing 4, by decide +kernel⟩,
   ⟨.c, 3, (resyncing 5).modResync .c fun r => { r with probation := 3 }, by decide +kernel⟩,
   ⟨.c, resyncing 5, by decide +kernel⟩,
   ⟨.c, resyncing 5, by decide +kernel⟩,
   ⟨.c, resyncing 5, by decide +kernel⟩,
   ⟨.c, { voting .operate with lanes := ⟨laneIn .voting, laneIn .voting, { laneIn .out with core := { CoreS.reset with st := .out, cause := 8 } }⟩ }, by decide +kernel⟩⟩

theorem witness_SheetCommands :
    (∃ (k : Fin 16), ∃ d, ∃ (s : State), s.mod.mode = .operate ∧ s.acc.tick = 3 ∧ Tab.get? s.image.tasks k.val = some d ∧ d.kind = 1 ∧
      d.period ≠ 0 ∧ s.mod.cycle.toNat % d.period = d.phase ∧ (s.taskSt k.val).ready = false ∧ (s.taskSt k.val).running = false) ∧
    (∃ (k : Fin 16), ∃ d, ∃ (s : State), s.mod.mode = .operate ∧ s.acc.tick = 3 ∧ Tab.get? s.image.tasks k.val = some d ∧ d.kind = 1 ∧
      d.period ≠ 0 ∧ s.mod.cycle.toNat % d.period = d.phase ∧ ((s.taskSt k.val).ready = true ∨ (s.taskSt k.val).running = true)) ∧
    (∃ (s : State), s.tasksRun = true ∧ s.sheets.point < 20 ∧ s.sheets.current = none ∧ s.readyTasks = [] ∧ s.sheets.preempted = []) ∧
    (∃ k, ∃ i, ∃ d, ∃ (s : State), s.tasksRun = true ∧ s.sheets.point < 20 ∧ s.sheets.current = some k ∧ s.isEvent k = true ∧
      (s.image.taskBlocks k).drop (s.taskSt k).next = [(i, d)] ∧ s.sheets.charged < 2000 * (s.sheets.point + 1) ∧
      s.sheets.charged + blockCharge d.type d.inputs.length ≤ tickBudget s.acc.tick) ∧
    (∃ (k : Fin 24), ∃ (s : State), s.tasksRun = true ∧ s.sheets.current = some k.val ∧ (s.taskSt k.val).running = true ∧
      (s.taskSt k.val).ready = false ∧ (s.taskSt k.val).next = (s.image.taskBlocks k.val).length ∧ s.sheets.charged < 2000 * s.sheets.point ∧
      s.sheets.charged + 40 ≤ tickBudget s.acc.tick ∧ s.readyTasks = [] ∧ s.sheets.preempted = []) ∧
    (∃ k, ∃ d, ∃ (s : State), s.mod.mode = .operate ∧ s.acc.tick ≠ 3 ∧ s.image.tasks = [(k, d)] ∧ d.kind = 2 ∧
      s.sheets.raised.contains (k - 16) = true ∧ (s.taskSt k).ready = false ∧ (s.taskSt k).running = false ∧
      (s.taskSt k).startedIn ≠ some s.mod.cycle.toNat) ∧
    (∃ (s : State), s.mod.mode = .operate ∧ s.sheets.retainDirty = true ∧
      (s.sheets.retainSince = 0 ∨ s.sheets.retainSince + 10000 ≤ s.rcd.opTime)) :=
  ⟨⟨3, ⟨1, 2, 4, 1, 0, 0, 100⟩, sheetState .reset 3, by decide +kernel⟩,
   ⟨3, ⟨1, 2, 4, 1, 0, 0, 100⟩, sheetState { SheetS.reset with tasks := [(3, { TaskSt.idle with ready := true })] } 3, by decide +kernel⟩,
   ⟨sheetState .reset 5, by decide +kernel⟩,
   ⟨17, 0, blk 0x01 17, sheetState { SheetS.reset with current := some 17, tasks := [(17, { TaskSt.idle with running := true })] } 5,
     by decide +kernel⟩,
   ⟨17, sheetState { SheetS.reset with current := some 17, point := 1, tasks := [(17, { TaskSt.idle with running := true, next := 1 })] } 5,
     by decide +kernel⟩,
   ⟨17, ⟨2, 2, 0, 0, 0, 0, 100⟩, { sheetState { SheetS.reset with raised := [1] } 5 with img := { ImgS.reset with running := some { sheetImage with tasks := [(17, ⟨2, 2, 0, 0, 0, 0, 100⟩)] } } }, by decide +kernel⟩,
   ⟨{ voting .operate with sheets := { SheetS.reset with retainDirty := true }, rcd := { RecS.reset with opTime := 20000 } }, by decide +kernel⟩⟩

theorem witness_NetworkTimeAndStartCommands :
    (∃ r, ∃ (s : State), s.mod.mode = .operate ∧ s.mod.pos = 0 ∧ s.net.running = true ∧ s.net.phase = .running ∧ newer r s.net.round = true ∧
      s.votingLanes = LaneSet.full) ∧
    (∃ (l : Lane), ∃ (s : State), (s.lane l).tbs.corr.length = 8) ∧
    (∃ (s : State), s.mod.mode = .recovery) ∧
    (∃ (s : State), s.net.running = true) ∧
    (∃ (s : State), s.mod.mode.cycles = true ∧ s.net.phase = .listening) ∧
    (∃ (s : State), s.mod.mode.cycles = true ∧ s.net.phase = .coldRounds 0) ∧
    (∃ n, ∃ d, ∃ (s : State), s.mod.mode.cycles = true ∧ s.net.phase = .coldRounds 0 ∧ s.mod.pos ≠ 0 ∧ s.plink.up = false ∧ (n,
      d) ∈ s.image.nodes ∧ Tab.wf s.net.nodes = true) ∧
    (∃ n, ∃ (s : State), s.net.phase = .coldRounds n) ∧
    (∃ (s : State), s.net.phase = .collided) ∧
    (∃ (s : State), s.mod.mode = .integrate ∧ s.mod.pos ≠ 0 ∧ s.plink.up = false ∧ s.net.running = true ∧ s.othersObeyed = true) ∧
    (∃ n, ∃ (s : State), s.net.phase = .abandoned n ∧ 31 ≤ n) :=
  ⟨⟨701, online, by decide +kernel⟩,
   ⟨.b, online.modTbs .b fun t => { t with corr := [1, 2, -3, 4, 5, 6, 7, 8] }, by decide +kernel⟩,
   ⟨inMode .recovery, by decide +kernel⟩,
   ⟨{ online with net := { netUp with netTime := 5000 } }, by decide +kernel⟩,
   ⟨{ online with net := { NetS.reset with phase := .listening } }, by decide +kernel⟩,
   ⟨{ online with net := { netUp with phase := .coldRounds 0 } }, by decide +kernel⟩,
   ⟨0, nd 0x13C 3 5, { online with mod := { ModS.reset with mode := .integrate, pos := 1 }, net := { netUp with phase := .coldRounds 0 } },
     by decide +kernel⟩,
   ⟨3, { online with net := { netUp with phase := .coldRounds 3 } }, by decide +kernel⟩,
   ⟨{ online with net := { netUp with phase := .collided } }, by decide +kernel⟩,
   ⟨{ online with mod := { ModS.reset with mode := .integrate, pos := 1, role := .lead }, net := { netUp with nodes := [(0, { NodeSt.none with x := { NodeChan.none with seen := true, member := true }, dest := 0x3D0, named := true })] } }, by decide +kernel⟩,
   ⟨31, { online with net := { netUp with phase := .abandoned 31 } }, by decide +kernel⟩⟩

theorem witness_HubSendCommands :
    (∃ (n : Fin 512), ∃ d, ∃ slot, ∃ (bs : Lane → List Byte), ∃ (s : State), s.mod.mode.cycles = true ∧ s.net.running = true ∧
      s.net.phase = .running ∧ s.mod.role ≠ .tender ∧ Tab.get? s.image.nodes n.val = some d ∧ s.slotOf d true = some slot ∧
      s.net.contrib = LaneSet.full ∧ s.serves d.portX = true ∧ s.serves (d.portY + 32) = true ∧ d.portX < 32 ∧ ((∀ l, ∃ v,
      Tab.get? (s.net.down.get l) n.val = some v ∧ v.round0 = s.net.round ∧ v.bytes0 = bs .a ∧ v.bytes0.length = d.dnLen + 8))) ∧
    (∃ (n : Fin 512), ∃ (s : State), s.mod.mode.cycles = true ∧ s.obeys = true ∧ (Tab.get? s.image.nodes n.val).isSome = true ∧ ((∀ p,
      Tab.get? s.net.partnerBytes n.val = some p → p.1 ≠ s.net.round))) ∧
    (∃ (p : Port), ∃ c, ∃ n, ∃ (s : State), s.mod.mode.cycles = true ∧ s.net.running = true ∧ s.serves p.val = true ∧ s.slotC p.val = some c ∧
      (Tab.getD s.net.ports p.val .none).grants = [] ∧ (Tab.getD s.net.ports p.val .none).delayMsg = none ∧ s.toProbe p.val = some n) ∧
    (∃ (p : Port), ∃ arr, ∃ (bs : List Byte), ∃ i, ∃ c, ∃ (s : State), (Tab.getD s.net.ports p.val .none).probing = some i ∧
      s.slotC p.val = some c ∧ s.net.running = true ∧ 12 ≤ bs.length ∧ leAt bs (bs.length - 4) 4 = (crc32c (bs.take (bs.length - 4))).toNat ∧
      1727 ≤ arr ∧ arr ≤ 10528 ∧ bits (leAt bs 0 8) 17 8 = s.nodeId i ∧ bits (leAt bs 0 8) 41 32 = c) ∧
    (∃ (p : Port), ∃ i, ∃ (s : State), (Tab.getD s.net.ports p.val .none).probing = some i) ∧
    (∃ (p : Port), ∃ (bs : List Byte), ∃ (dg : List Byte), ∃ c, ∃ n, ∃ d, ∃ u, ∃ w, ∃ (s : State), s.mod.mode.cycles = true ∧
      s.net.running = true ∧ s.serves p.val = true ∧ s.mod.pos = 0 ∧ (Tab.getD s.net.ports p.val .none).probedSlotC = false ∧
      (Tab.getD s.net.ports p.val .none).closed = false ∧ s.slotC p.val = some c ∧ s.mod.role ≠ .tender ∧
      s.rxKind p.val (Tab.getD s.net.active (1000 * p.val + (c + 1)) 0) = .claim ∧
      (s.frameCheck p.val (c + 1) (Tab.getD s.net.active (1000 * p.val + (c + 1)) 0) true bs none).1 = 0 ∧
      s.image.nodes.find? (fun q => q.2.id = bits (leAt bs 0 8) 17 8) = some (n, d) ∧ d.keyDigest = some dg ∧
      ((bs.drop 8).take (bits (leAt bs 0 8) 30 24)).take 8 = dg ∧ Tab.get? s.net.grants n = none ∧ s.net.grantsOn = true ∧ s.net.frozen = false ∧
      (d.portX = p.val ∨ d.portY + 32 = p.val) ∧ s.spareSlot d false = some u ∧ s.spareSlot d true = some w) ∧
    (∃ (n : Fin 512), ∃ g, ∃ d, ∃ (s : State), Tab.get? s.net.grants n.val = some g ∧ Tab.get? s.image.nodes n.val = some d ∧ 100 ≤ g.silent ∧
      s.net.frozen = false) :=
  ⟨⟨0, nd 0x13C 3 5, 500, fun _ => List.replicate 16 7,
    { online with net := { netUp with down := PerLane.pure [(0, ⟨700, List.replicate 16 7, List.replicate 16 9⟩)] } },
    by and_intros <;> first | decide +kernel | exact fun l => ⟨⟨700, List.replicate 16 7, List.replicate 16 9⟩, by cases l <;> decide +kernel⟩⟩,
   ⟨0, { online with mod := { ModS.reset with mode := .operate, role := .tender, pos := 1 }, net := { netUp with awaited := [0, 1], partnerBytes := [(0, (699, [1]))] } }, by and_intros <;> first | decide +kernel | (intro l; cases l <;> decide +kernel)⟩,
   ⟨3, 5, 0, online, by decide +kernel⟩,
   ⟨3, 2000, lineFrame false (frameHeader 7 0x13C 0 false false 0 5 700), 0, 5,
     { online with net := { netUp with ports := [(3, { PortSt.none with probing := some 0 })] } }, by decide +kernel⟩,
   ⟨3, 0, { online with net := { netUp with ports := [(3, { PortSt.none with probing := some 0 })] } }, by decide +kernel⟩,
   ⟨3, claimFrame, [1,2,3,4,5,6,7,8], 5, 1, { nd 0x140 3 5 with keyDigest := some [1,2,3,4,5,6,7,8] }, 20, 520, online, by decide +kernel⟩,
   ⟨1, ⟨20, 520, 600, 100⟩, nd 0x140 3 5, { online with net := { netUp with grants := [(1, ⟨20, 520, 600, 100⟩)] }, img := { ImgS.reset with running := some { netImage with nodes := [(0, nd 0x13C 3 5), (1, nd 0x140 3 5)] } } }, by decide +kernel⟩⟩

theorem witness_ReceptionCommands :
    (∃ (p : Port), ∃ slot, ∃ sof, ∃ en, ∃ (bs : List Byte), ∃ n, ∃ d, ∃ (s : State), s.mod.mode.cycles = true ∧ slot < 1000 ∧
      s.net.running = true ∧ s.mod.pos = 0 ∧ (if p.val < 32 then s.net.servesX else s.net.servesY) = true ∧
      ((s.inClaimWindow p.val slot = true → (Tab.getD s.net.ports p.val .none).probedSlotC = false)) ∧
      s.rxKind p.val (Tab.getD s.net.active (1000 * p.val + slot) 0) = .vital ∧ 70 ≤ sof ∧ sof ≤ 570 ∧ en ≤ 9500 ∧
      s.slotNode p.val (Tab.getD s.net.active (1000 * p.val + slot) 0) = some (n, d) ∧
      s.pairClosed p.val .vital (some n) (bitOf (leAt bs 0 8) 22) = false ∧
      (s.frameCheck p.val slot (Tab.getD s.net.active (1000 * p.val + slot) 0) true bs (some d)).1 = 0) ∧
    (∃ (n : Fin 512), ∃ w, ∃ d, ∃ (s : State), (s.node n.val).waiting = some w ∧ Tab.get? s.image.nodes n.val = some d ∧ w.both = false ∧
      w.deposited = false ∧ w.refused = false ∧ (s.node n.val).declX = false ∧ (s.node n.val).declY = false ∧
      (s.node n.val).single < d.compareN) ∧
    (∃ (n : Fin 512), ∃ ch, ∃ (s : State), ((s.node n.val).chan (decide (ch = NetChan.y))).member = true ∧
      3 ≤ ((s.node n.val).chan (decide (ch = NetChan.y))).silent) ∧
    (∃ (n : Fin 512), ∃ ch, ∃ (s : State), ((s.node n.val).chan (decide (ch = NetChan.y))).closed = true ∧
      4 ≤ ((s.node n.val).chan (decide (ch = NetChan.y))).hold) ∧
    (∃ (n : Fin 512), ∃ ch, ∃ (s : State), 16 ≤ (s.node n.val).agreeRun ∧ s.channelBack n.val (decide (ch = NetChan.y)) = true) :=
  ⟨⟨3, 10, 320, 2000, upFrame, 0, nd 0x13C 3 5, online, by decide +kernel⟩,
   ⟨0, ⟨700, false, 0, [1,2,3,4,5,6,7,8,9,10,11,12], 77, false, false, false⟩, nd 0x13C 3 5,
     { online with net := { netUp with nodes := [(0, { NodeSt.none with waiting := some ⟨700, false, 0, [1,2,3,4,5,6,7,8,9,10,11,12], 77, false, false, false⟩ })] } }, by decide +kernel⟩,
   ⟨0, .y, { online with net := { netUp with nodes := [(0, { NodeSt.none with y := { NodeChan.none with member := true } })] } },
     by decide +kernel⟩,
   ⟨0, .y, { online with net := { netUp with nodes := [(0, { NodeSt.none with y := { NodeChan.none with closed := true, hold := 4 } })] } },
     by decide +kernel⟩,
   ⟨0, .y, { online with net := { netUp with nodes := [(0, { NodeSt.none with declY := true, agreeRun := 16 })] } }, by decide +kernel⟩⟩

theorem witness_SlotBankCommands :
    (∃ (l : Lane), ∃ (s : State), s.regsRun l = true ∧ RegisterRoom s l ∧ (s.net.regs.get l).addrBank ≠ s.net.activeBank1 ∧ s.net.frozen = false ∧
      (s.net.regs.get l).addrSlot ≤ 999) ∧
    (∃ (l : Lane), ∃ (s : State), s.regsRun l = true ∧ RegisterRoom s l ∧
      ((s.net.regs.get l).addrBank = s.net.activeBank1 ∨ s.net.frozen = true)) ∧
    (∃ (l : Lane), ∃ (s : State), s.regsRun l = true ∧ RegisterRoom s l) ∧
    (∃ r, ∃ c, ∃ (s : State), s.net.switchRound = some (r, c) ∧ s.net.frozen = true ∧ s.mod.pos ≠ 0) ∧
    (∃ r, ∃ c, ∃ (s : State), s.net.switchRound = some (r, c) ∧ s.net.frozen = true ∧ s.net.running = true ∧ newer r s.net.round = false ∧
      (s.mod.pos = 0 ∨ s.net.partnerArmed = true) ∧ 2 ≤ (Lane.all.filter fun l => (s.net.regs.get l).request = some r && (s.net.regs.get l).crc = bankCrc s.net.inactive).length) ∧
    (∃ r, ∃ c, ∃ (s : State), s.net.switchRound = some (r, c) ∧ s.net.frozen = true ∧ s.net.running = true ∧ newer r s.net.round = false ∧
      s.mod.pos ≠ 0 ∧ s.net.partnerArmed = false) ∧
    (∃ (l : Lane), ∃ (v : Word), ∃ (s : State), s.regsRun l = true ∧ RegisterRoom s l ∧ v.getLsbD 0 = true) :=
  ⟨⟨.b, { online with net := { netUp with regs := PerLane.pure { HubRegs.zero with addrSlot := 30, addrPort := 3, addrBank := true } } },
    by decide +kernel⟩,
   ⟨.b, online, by decide +kernel⟩,
   ⟨.b, online, by decide +kernel⟩,
   ⟨800, 5, { online with mod := { ModS.reset with mode := .operate, role := .lead, pos := 1 }, net := { netUp with frozen := true, regs := PerLane.pure { HubRegs.zero with request := some 800, crc := 5 } } }, by decide +kernel⟩,
   ⟨700, bankCrc netBank, asking (bankCrc netBank), ⟨asking_round _, rfl, rfl, by decide +kernel, .inl rfl,
     asking_agree _ _ (congrArg bankCrc (rfl : netBank = (asking (bankCrc netBank)).net.inactive))⟩⟩,
   ⟨700, 9, { online with mod := { ModS.reset with mode := .operate, role := .lead, pos := 1 }, net := { netUp with frozen := true, regs := PerLane.pure { HubRegs.zero with request := some 700, crc := 9 } } }, by decide +kernel⟩,
   ⟨.b, 1, { online with net := { netUp with frozen := true, regs := PerLane.pure { HubRegs.zero with request := some 700, crc := 9 } } },
     by decide +kernel⟩⟩

theorem witness_InputChannelCommands :
    (∃ (l : Lane), ∃ ch, ∃ d, ∃ (s : State), s.mod.mode.lanesRun = true ∧ s.laneSt l ≠ .hold ∧ s.laneSt l ≠ .failed ∧
      s.image.chans.filter (fun p => p.2.mode = .input || p.2.mode = .count) = [(ch, d)]) ∧
    (∃ (l : Lane), ∃ ch, ∃ d, ∃ (s : State), s.mod.mode.lanesRun = true ∧ s.laneSt l ≠ .hold ∧ s.laneSt l ≠ .failed ∧
      s.image.chans.filter (fun p => p.2.mode = .input) = [(ch, d)]) ∧
    (∃ (l : Lane), ∃ (p : Fin 32), ∃ (s : State), s.mod.mode.lanesRun = true ∧ s.pairValid l p.val = some false ∧
      Tab.wf (s.fch.lanes.get l).chans = true) ∧
    (∃ (l : Lane), ∃ (p : Fin 32), ∃ (s : State), s.mod.mode.lanesRun = true ∧ s.pairValid l p.val = some true ∧
      Tab.wf (s.fch.lanes.get l).chans = true) ∧
    (∃ (l : Lane), ∃ (g : Group), ∃ v, ∃ (s : State), s.mod.mode.lanesRun = true ∧ s.laneSt l ≠ .failed ∧ v < 1500 ∧
      (s.fch.lanes.get l).groupLost.getLsbD g.val = false) ∧
    (∃ (l : Lane), ∃ (g : Group), ∃ v, ∃ (s : State), s.mod.mode.lanesRun = true ∧ s.laneSt l ≠ .failed ∧ 1600 < v ∧
      (s.fch.lanes.get l).groupLost.getLsbD g.val = true) ∧
    (∃ (l : Lane), ∃ (s : State), s.mod.mode.lanesRun = true ∧ s.laneSt l ≠ .failed) :=
  ⟨⟨.b, 20, inCh, { field .reset 5 with img := { ImgS.reset with running := some { fieldImage with chans := [(20, inCh)] } } },
    by decide +kernel⟩,
   ⟨.b, 20, inCh, { field .reset 5 with img := { ImgS.reset with running := some { fieldImage with chans := [(20, inCh)] } } },
     by decide +kernel⟩,
   ⟨.b, 11, field { FchS.reset with lanes := PerLane.pure { FchLane.zero with chans := [(22, { ChSense.zero with state := true })] } } 5,
     by decide +kernel⟩,
   ⟨.b, 11, field { FchS.reset with lanes := PerLane.pure { FchLane.zero with chans := [(22, { ChSense.zero with discrepancy := true })] } } 5,
     by decide +kernel⟩,
   ⟨.b, 2, 1400, field .reset 5, by decide +kernel⟩,
   ⟨.b, 2, 1700, field { FchS.reset with lanes := PerLane.pure { FchLane.zero with groupLost := 4 } } 5, by decide +kernel⟩,
   ⟨.b, field .reset 5, by decide +kernel⟩⟩

theorem witness_OutputTestCommands :
    (∃ (ch : Chan), ∃ hi, ∃ o, ∃ (s : State), s.mod.mode.cycles = true ∧ s.acc.tick = 6 ∧ Tab.get? s.fch.outs ch.val = some o ∧
      s.testDue ch.val hi = true ∧ s.testBarred ch.val o = false ∧ o.energised = true ∧ ((∀ l, (s.chSense l ch.val).hsClosed = true ∧
      (s.chSense l ch.val).lsClosed = true)) ∧ (o.voter hi).live = LaneSet.full ∧ s.votingLanes = LaneSet.full) ∧
    (∃ (ch : Chan), ∃ hi, ∃ o, ∃ (s : State), s.mod.mode.cycles = true ∧ s.acc.tick = 6 ∧ Tab.get? s.fch.outs ch.val = some o ∧
      s.testDue ch.val hi = true ∧ s.testBarred ch.val o = false ∧ o.energised = false ∧ ((∀ l, s.otherOpen l ch.val hi = true)) ∧
      (o.voter hi).live = LaneSet.full ∧ s.votingLanes = LaneSet.full) ∧
    (∃ (l : Lane), ∃ (ch : Chan), ∃ hi, ∃ o, ∃ (s : State), Tab.get? s.fch.outs ch.val = some o ∧ o.testRun = some (hi, true) ∧
      (o.voter hi).test = some true ∧ (o.voter hi).live.get l = true) ∧
    (∃ (ch : Chan), ∃ o, ∃ (s : State), Tab.get? s.fch.outs ch.val = some o) ∧
    (∃ (ch : Chan), ∃ hi, ∃ on, ∃ (rd : PerLane TestReading), ∃ o, ∃ (s : State), Tab.get? s.fch.outs ch.val = some o ∧ o.testRun = some (hi, on) ∧
      (o.voter hi).test = none ∧ o.failVotes = LaneSet.none ∧ ((∀ l,
      testPasses (rd.get l) hi on (10 * Tab.getD (s.fch.lanes.get l).vfld (ch.val / 8) 0) = true))) ∧
    (∃ (ch : Chan), ∃ hi, ∃ on, ∃ (rd : PerLane TestReading), ∃ o, ∃ (s : State), Tab.get? s.fch.outs ch.val = some o ∧ o.testRun = some (hi, on) ∧
      (o.voter hi).test = none ∧ o.hs.live = LaneSet.full ∧ ((∀ l,
      testPasses (rd.get l) hi on (10 * Tab.getD (s.fch.lanes.get l).vfld (ch.val / 8) 0) = false))) ∧
    (∃ (s : State), s.mod.mode.cycles = true ∧ s.acc.tick = 7 ∧ s.votingLanes = LaneSet.full) ∧
    (∃ un, ∃ rp, ∃ (s : State), s.mod.mode.cycles = true ∧ s.acc.tick = 7 ∧ s.votingLanes = LaneSet.full ∧ (un = false ∨ rp = false) ∧
      s.liveAt (s.mod.cycle.toNat % 64) = LaneSet.full) :=
  ⟨⟨6, true, chOut1, { field { outs1 chOut1 with lanes := PerLane.pure { FchLane.zero with chans := [(6, { ChSense.zero with hsClosed := true, lsClosed := true })] } } 6 with mod := { ModS.reset with mode := .operate, cycle := 6 } }, by and_intros <;> first | decide +kernel | (intro l; cases l <;> decide +kernel)⟩,
   ⟨6, true, { chOut1 with hs := { chOut1.hs with vote := LaneSet.none } },
     { field { outs1 { chOut1 with hs := { chOut1.hs with vote := LaneSet.none } } with lanes := PerLane.pure { FchLane.zero with chans := [(6, { ChSense.zero with vl := 80 })] } } 6 with mod := { ModS.reset with mode := .operate, cycle := 6 } }, by and_intros <;> first | decide +kernel | (intro l; cases l <;> decide +kernel)⟩,
   ⟨.b, 6, true, { chOut1 with testRun := some (true, true), hs := { chOut1.hs with test := some true } },
     field (outs1 { chOut1 with testRun := some (true, true), hs := { chOut1.hs with test := some true } }) 6, by decide +kernel⟩,
   ⟨6, { chOut1 with hs := { chOut1.hs with test := some true } }, field (outs1 { chOut1 with hs := { chOut1.hs with test := some true } }) 6,
     by decide +kernel⟩,
   ⟨6, true, false, PerLane.pure ⟨79, 0⟩, { chOut1 with testRun := some (true, false) },
     field (outs1 { chOut1 with testRun := some (true, false) }) 6,
     by and_intros <;> first | decide +kernel | (intro l; cases l <;> decide +kernel)⟩,
   ⟨6, true, false, PerLane.pure ⟨80, 0⟩, { chOut1 with testRun := some (true, false) },
     field (outs1 { chOut1 with testRun := some (true, false) }) 6,
     by and_intros <;> first | decide +kernel | (intro l; cases l <;> decide +kernel)⟩,
   ⟨field (outs1 chOut1) 7, by decide +kernel⟩,
   ⟨true, false, { field (outs1 chOut1) 7 with mod := { ModS.reset with mode := .operate, cycle := 6 } }, by decide +kernel⟩⟩

theorem witness_ProtectionCommands :
    (∃ (ch : Chan), ∃ o, ∃ (s : State), Tab.get? s.fch.outs ch.val = some o) ∧
    (∃ (s : State), s.mod.mode.lanesRun = true) ∧
    (∃ (ch : Chan), ∃ o, ∃ (s : State), s.mod.mode.lanesRun = true ∧ Tab.get? s.fch.outs ch.val = some o ∧ s.isOutput ch.val = true ∧
      o.opened = false) ∧
    (∃ (ch : Chan), ∃ o, ∃ (s : State), s.mod.mode.lanesRun = true ∧ Tab.get? s.fch.outs ch.val = some o ∧ s.isOutput ch.val = true ∧
      o.opened = false) ∧
    (∃ (g : Group), ∃ ma, ∃ (s : State), s.mod.mode.lanesRun = true ∧ 4400 < ma ∧ s.fch.groupOver.getLsbD g.val = false) ∧
    (∃ (ma : List Nat), ∃ (s : State), s.mod.mode.lanesRun = true ∧ 17600 < (ma.take 8).foldl (· + ·) 0 ∧ 0 < (ma.take 8).getD 7 0) ∧
    (∃ (ch : Chan), ∃ o, ∃ (s : State), Tab.get? s.fch.outs ch.val = some o ∧ o.opened = true ∧ o.latched = false ∧ o.energised = true) ∧
    (∃ (g : Group), ∃ (s : State), s.fch.groupOver.getLsbD g.val = true ∧ s.fch.groupLatched.getLsbD g.val = false ∧ ((∃ p ∈ s.fch.outs,
      p.1 / 8 = g.val ∧ p.2.energised = true))) ∧
    (∃ (l : Lane), ∃ par, ∃ (s : State), s.sendsTokens l = true ∧ s.fch.vrdParity.get l ≠ some par ∧ s.fch.vrdTokens = []) ∧
    (∃ (l : Lane), ∃ k, ∃ par, ∃ off, ∃ o1, ∃ (s : State), s.sendsTokens l = true ∧ s.fch.vrdParity.get l ≠ some par ∧ s.fch.vrdTokens = [(k, par,
      o1)] ∧ k ≠ l ∧ off ≤ o1 + 20 ∧ o1 ≤ off + 20) ∧
    (∃ (ch : Chan), ∃ f, ∃ (s : State), Tab.get? s.fch.forced ch.val = some f ∧ f.left = 0) :=
  ⟨⟨6, chOut1, field (outs1 chOut1) 5, by decide +kernel⟩,
   ⟨field (outs1 chOut1) 5, by decide +kernel⟩,
   ⟨6, chOut1, field (outs1 chOut1) 5, by decide +kernel⟩,
   ⟨6, chOut1, field (outs1 chOut1) 5, by decide +kernel⟩,
   ⟨0, 4500, field (outs1 chOut1) 5, by decide +kernel⟩,
   ⟨[3000, 3000, 3000, 3000, 3000, 3000, 0, 3000], field (outs1 chOut1) 5, by decide +kernel⟩,
   ⟨6, { chOut1 with opened := true, overload := true }, field (outs1 { chOut1 with opened := true, overload := true }) 5, by decide +kernel⟩,
   ⟨0, field { outs1 { chOut1 with grpOpen := true } with groupOver := 1 } 5, by decide +kernel⟩,
   ⟨.b, true, field .reset 5, by decide +kernel⟩,
   ⟨.b, .a, true, 10, 25, field { FchS.reset with vrdTokens := [(.a, true, 25)] } 5, by decide +kernel⟩,
   ⟨6, ⟨true, 50, 0, 5⟩, field { FchS.reset with forced := [(6, ⟨true, 50, 0, 5⟩)] } 5, by decide +kernel⟩⟩

theorem witness_PartnerAndRoleCommands :
    (∃ (m : PartnerMsg), ∃ (s : State), s.mod.pos ≠ 0 ∧ s.mod.mode.lanesRun = true ∧ s.partnerValid m = false) ∧
    (∃ (m : PartnerMsg), ∃ (l : Lane), ∃ (s : State), s.mod.pos ≠ 0 ∧ s.mod.mode.lanesRun = true ∧ s.partnerValid m = true ∧ m.type = 7 ∧
      m.sender = l.id) ∧
    (∃ c, ∃ rest, ∃ (s : State), s.plink.control = c :: rest ∧ c.tries < 3) ∧
    (∃ c, ∃ rest, ∃ (s : State), s.plink.control = c :: rest ∧ 3 ≤ c.tries) ∧
    (∃ (s : State), s.mod.pos ≠ 0 ∧ s.mod.mode.lanesRun = true ∧ s.plink.up = false ∧ 3 ≤ s.plink.live) ∧
    (∃ (s : State), s.plink.up = true ∧ 3 ≤ s.plink.quiet) ∧
    (∃ n, ∃ (s : State), s.mod.mode = .operate ∧ s.mod.role = .tender ∧ s.acc.tick = 0 ∧ s.plink.silent = n ∧ 3 ≤ n ∧
      s.reportedQuiet s.quietCounts = true ∧ s.plink.rights = true ∧ s.mod.cond = .none ∧ s.nextGeneration ≤ 0xFFFFFF) ∧
    (∃ n, ∃ (s : State), s.mod.mode = .operate ∧ s.mod.role = .tender ∧ s.acc.tick = 0 ∧ s.plink.silent = n ∧ 3 ≤ n ∧ 0 ∈ s.quietCounts) ∧
    (∃ (s : State), s.mod.role = .tender ∧ s.plink.holding = true ∧ 100 ≤ s.plink.holdMs) ∧
    (∃ (c : Word), ∃ (s : State), s.mod.mode.cycles = true ∧ s.mod.role = .lead ∧ s.net.claim.toNat < c.toNat) ∧
    (∃ c, ∃ (s : State), s.plink.switchAt = some c ∧ s.mod.mode = .operate ∧ s.mod.role = .lead ∧ s.plink.switchConfirmed = false ∧
      c ≤ s.mod.cycle.toNat + 5 ∧ s.plink.safeAfter = false) ∧
    (∃ c, ∃ (s : State), s.plink.switchAt = some c ∧ s.mod.mode = .operate ∧ s.mod.role = .tender ∧ s.acc.tick = 0 ∧ c ≤ s.mod.cycle.toNat ∧
      s.mod.cond = .none ∧ s.plink.rights = true ∧ s.plink.shadow = .equal ∧ s.nextGeneration ≤ 0xFFFFFF) ∧
    (∃ c, ∃ (s : State), s.plink.switchAt = some c ∧ s.mod.mode = .operate ∧ s.mod.role = .lead ∧ s.acc.tick = 0 ∧ c ≤ s.mod.cycle.toNat ∧
      s.plink.switchConfirmed = true ∧ s.plink.partnerShadow = 0 ∧ s.net.claim.toNat / 256 + 1 ≤ 0xFFFFFF) :=
  ⟨⟨⟨3, 0, 5, false, []⟩, { voting .operate with mod := { ModS.reset with mode := .operate, pos := 1, role := .lead } }, by decide +kernel⟩,
   ⟨⟨7, 1, 5, true, [1,2,3,4,5,6,7,8,9,10,11,12]⟩, .b,
     { voting .operate with mod := { ModS.reset with mode := .operate, pos := 1, role := .tender } }, by decide +kernel⟩,
   ⟨⟨5, 1, 6, [1], none⟩, [], { voting .operate with plink := { PlinkS.reset with control := [⟨5, 1, 6, [1], none⟩] } }, by decide +kernel⟩,
   ⟨⟨5, 3, 2, [1], none⟩, [⟨6, 0, 6, [1], none⟩], { voting .operate with plink := { PlinkS.reset with control := [⟨5, 3, 2, [1], none⟩, ⟨6, 0, 6, [1], none⟩] } }, by decide +kernel⟩,
   ⟨{ voting .operate with mod := { ModS.reset with mode := .operate, pos := 1, role := .tender }, plink := { PlinkS.reset with live := 3 } },
     by decide +kernel⟩,
   ⟨{ voting .operate with plink := { PlinkS.reset with up := true, quiet := 3 } }, by decide +kernel⟩,
   ⟨3, { voting .operate with mod := { ModS.reset with mode := .operate, pos := 1, role := .tender, cond := .none }, plink := { PlinkS.reset with silent := 3, rights := true }, acc := { AccS.reset with tick := 0, accorded := { AccS.reset.accorded with time := 7000000, frames := [(0, ⟨700, 0, List.replicate 8 5⟩)] } }, img := { ImgS.reset with running := some netImage } }, by decide +kernel⟩,
   ⟨3, { voting .operate with mod := { ModS.reset with mode := .operate, pos := 1, role := .tender, cond := .none }, plink := { PlinkS.reset with silent := 3, rights := true }, acc := { AccS.reset with tick := 0, accorded := { AccS.reset.accorded with time := 7000000, frames := [(0, ⟨700, 0, List.replicate 8 4⟩)] } }, img := { ImgS.reset with running := some netImage } }, by decide +kernel⟩,
   ⟨{ voting .operate with mod := { ModS.reset with mode := .operate, pos := 1, role := .tender, cond := .none }, plink := { PlinkS.reset with holding := true, holdMs := 100 } }, by decide +kernel⟩,
   ⟨0x502, { voting .operate with mod := { ModS.reset with mode := .operate, pos := 1, role := .lead, cond := .none } }, by decide +kernel⟩,
   ⟨14, { voting .operate with mod := { ModS.reset with mode := .operate, pos := 1, role := .lead, cond := .none, cycle := 10 }, plink := { PlinkS.reset with switchAt := some 14 } }, by decide +kernel⟩,
   ⟨10, { voting .operate with mod := { ModS.reset with mode := .operate, pos := 1, role := .tender, cond := .none, cycle := 10 }, plink := { PlinkS.reset with switchAt := some 10, rights := true, shadow := .equal } }, by decide +kernel⟩,
   ⟨10, { voting .operate with mod := { ModS.reset with mode := .operate, pos := 1, role := .lead, cond := .none, cycle := 10 }, plink := { PlinkS.reset with switchAt := some 10, switchConfirmed := true, partnerPos := some 2, partnerShadow := 0 } }, by decide +kernel⟩⟩

theorem witness_ImageTransferCommands :
    (∃ (h : CmdHdr), ∃ (ty : Byte), ∃ (len : Word), ∃ (blocks : Word), ∃ (s : State), Accepts s h 0x0501 (some .engineer) ∧ 1 ≤ ty.toNat ∧
      ty.toNat ≤ 3 ∧ len.toNat ≤ 67108864 ∧ blocks.toNat = ceilDiv len.toNat 4096 ∧ s.img.pending.st ≠ .verifying ∧ s.img.pending.st ≠ .scheduled ∧
      s.sheetsHeld = false) ∧
    (∃ (h : CmdHdr), ∃ (b : Word), ∃ (p : Byte), ∃ (s : State), Accepts s h 0x0502 (some .engineer) ∧ p.toNat ≤ 7 ∧
      b.toNat < s.img.pending.blocks ∧ s.img.pending.st ≠ .empty ∧ s.img.pending.st ≠ .verifying ∧ s.img.pending.st ≠ .scheduled ∧
      s.sheetsHeld = false) ∧
    (∃ (h : CmdHdr), ∃ (s : State), Accepts s h 0x0503 (some .engineer) ∧ s.img.pending.st ≠ .empty ∧ s.img.pending.st ≠ .verifying ∧
      s.img.pending.st ≠ .scheduled ∧ s.sheetsHeld = false) ∧
    (∃ (s : State), s.img.pending.st = .verifying) ∧
    (∃ (h : CmdHdr), ∃ (time : BitVec 64), ∃ (fl : Byte), ∃ (s : State), Accepts s h 0x0504 (some .engineer) ∧ fl.toNat ≤ 1 ∧
      s.img.pending.st = .verified ∧ s.img.pending.type = 1 ∧ s.img.pending.live = true ∧ s.nowFor h + 500000 ≤ time.toNat ∧ s.sheetsHeld = false ∧
      s.mayScheduleHere = true) ∧
    (∃ (h : CmdHdr), ∃ (s : State), Accepts s h 0x0505 (some .engineer) ∧ s.img.armed = LaneSet.none) ∧
    (∃ (h : CmdHdr), ∃ (s : State), Accepts s h 0x0506 (some .maintainer)) :=
  ⟨⟨macHdr, 1, 8000, 2, updating .operate .empty, by decide +kernel⟩,
   ⟨macHdr, 1, 3, updating .operate .loading, by decide +kernel⟩,
   ⟨macHdr, updating .operate .loaded, by decide +kernel⟩,
   ⟨updating .operate .verifying, by decide +kernel⟩,
   ⟨macHdr, 900000, 1, updating .operate .verified, by decide +kernel⟩,
   ⟨macHdr, updating .operate .scheduled, by decide +kernel⟩,
   ⟨macHdr, updating .operate .verified, by decide +kernel⟩⟩

theorem witness_ImageAndSheetChangeCommands :
    (∃ (s : State), s.img.pending.st = .scheduled ∧ s.img.pending.type = 1 ∧
      (s.mod.mode = .loaded ∨ s.mod.mode = .safe ∨ s.mod.mode = .recovery)) ∧
    (∃ (l : Lane), ∃ (s : State), s.mod.mode = .operate ∧ s.img.pending.st = .scheduled ∧ s.laneSt l = .voting ∧
      (s.lane l).diag.dmaFailed.contains 4 = false) ∧
    (∃ (l : Lane), ∃ (s : State), s.mod.mode = .operate ∧ s.img.pending.st = .scheduled ∧ s.votingLanes = LaneSet.full ∧
      s.img.armed.get l = false ∧ s.img.pending.at_ ≤ s.netNow + 110000) ∧
    (∃ new, ∃ (s : State), s.mod.mode = .operate ∧ s.acc.tick = 3 ∧ s.img.pending.st = .scheduled ∧ s.sheetsHeld = false ∧
      s.img.pending.at_ ≤ s.netNow + 20000 ∧ s.img.pending.image = some new ∧ s.img.pending.live = true ∧ s.needsConfirm = false ∧
      s.holdingRoutes new = []) ∧
    (∃ new, ∃ (s : State), s.mod.mode = .operate ∧ s.acc.tick = 3 ∧ s.img.pending.st = .scheduled ∧ s.sheetsHeld = false ∧
      s.img.pending.at_ ≤ s.netNow + 20000 ∧ s.img.pending.image = some new ∧ s.img.pending.live = true ∧ s.needsConfirm = false ∧
      s.mod.role ≠ .tender ∧ s.holdingRoutes new ≠ [] ∧ s.img.pending.postpone = true) ∧
    (∃ (s : State), s.img.pending.st = .scheduled ∧ s.img.postponedSince.isSome = true ∧ s.img.pending.at_ + 86400000000 ≤ s.netNow) ∧
    (∃ new, ∃ v, ∃ (s : State), s.img.pending.image = some new ∧ s.img.judged = some v ∧ s.img.pending.st = .scheduled ∧ s.sheetsHeld = false ∧
      s.evalDue = true ∧ s.confirms s.img.pending.at_ = true) ∧
    (∃ (h : CmdHdr), ∃ (s : State), Accepts s h 0x0507 (some .engineer) ∧ s.mod.mode = .operate ∧ s.sheetOnly = true ∧
      s.img.pending.st = .verified ∧ s.sheetsHeld = false) ∧
    (∃ c, ∃ new, ∃ (s : State), s.sheets.change = some c ∧ s.img.pending.image = some new ∧ c.preparing = true ∧ s.setPasses new = true) ∧
    (∃ c, ∃ new, ∃ (s : State), s.sheets.change = some c ∧ s.img.pending.image = some new ∧ c.preparing = true ∧ s.setPasses new = false) ∧
    (∃ (h : CmdHdr), ∃ (time : BitVec 64), ∃ c, ∃ (s : State), Accepts s h 0x0508 (some .engineer) ∧ s.mod.mode = .operate ∧
      s.sheets.change = some c ∧ c.preparing = false ∧ c.commit = none ∧ s.nowFor h + 500000 ≤ time.toNat ∧ s.img.pending.st ≠ .verifying) ∧
    (∃ c, ∃ new, ∃ time, ∃ (s : State), s.sheets.change = some c ∧ s.img.pending.image = some new ∧ c.commit = some time ∧ s.confirms time = true ∧
      s.needsConfirm = false) ∧
    (∃ c, ∃ (s : State), s.sheets.change = some c ∧ c.commit = none ∧ c.preparing = false ∧ c.since + 1800000 ≤ s.rcd.opTime) :=
  ⟨⟨updating .safe .scheduled, by decide +kernel⟩,
   ⟨.b, updating .operate .scheduled, by decide +kernel⟩,
   ⟨.b, { updating .operate .scheduled with net := { NetS.reset with netTime := 880000 } }, by decide +kernel⟩,
   ⟨stationImage, { updating .operate .scheduled with net := { NetS.reset with netTime := 880000 }, acc := { AccS.reset with tick := 3 } },
     by decide +kernel⟩,
   ⟨{ stationImage with decl := { Declaration.empty with changed := 1 } },
     { updating .operate .scheduled with net := { NetS.reset with netTime := 880000 }, acc := { AccS.reset with tick := 3 }, ixl := { IxlS.reset with resolved := { Verdict.empty with routes := [(0, { RouteSt.zero with st := .cleared })] } }, img := { (updating .operate .scheduled).img with pending := { pendSlot .scheduled with postpone := true, image := some { stationImage with decl := { Declaration.empty with changed := 1 } } } } }, by decide +kernel⟩,
   ⟨{ updating .operate .scheduled with net := { NetS.reset with netTime := 86400900000 }, img := { (updating .operate .scheduled).img with postponedSince := some 5 } }, by decide +kernel⟩,
   ⟨stationImage, Verdict.empty, { updating .operate .scheduled with acc := { AccS.reset with accorded := { AccS.reset.accorded with time := 900000 } }, ixl := { IxlS.reset with phase := 1 }, img := { (updating .operate .scheduled).img with judged := some Verdict.empty } }, by decide +kernel⟩,
   ⟨macHdr, updating .operate .verified, by decide +kernel⟩,
   ⟨{ change0 with preparing := true }, Image.empty,
     { changed { change0 with preparing := true } (updating .operate .verified) with img := { (updating .operate .verified).img with pending := { pendSlot .verified with image := some Image.empty } } }, by decide +kernel⟩,
   ⟨{ change0 with preparing := true }, stationImage, changed { change0 with preparing := true } (updating .operate .verified),
     by decide +kernel⟩,
   ⟨macHdr, 900000, change0, changed change0 (updating .operate .verified), by decide +kernel⟩,
   ⟨{ change0 with commit := some 900000 }, stationImage, 900000,
     { changed { change0 with commit := some 900000 } (updating .operate .scheduled) with acc := { AccS.reset with accorded := { AccS.reset.accorded with time := 900000 } }, ixl := { IxlS.reset with phase := 1 } }, by decide +kernel⟩,
   ⟨change0, { changed change0 (updating .operate .verified) with rcd := { RecS.reset with opTime := 1800000 } }, by decide +kernel⟩⟩

theorem witness_QueryAndSubscriptionCommands :
    (∃ (h : CmdHdr), ∃ (r : BitVec 16), ∃ v, ∃ (s : State), Accepts s h 0x0104 none ∧ s.queryVector = some v ∧
      (Tab.get? s.image.routes r.toNat).isSome = true) ∧
    (∃ (h : CmdHdr), ∃ (o : BitVec 16), ∃ v, ∃ d, ∃ (s : State), Accepts s h 0x0208 none ∧ s.queryVector = some v ∧
      Tab.get? s.image.elems o.toNat = some d) ∧
    (∃ (h : CmdHdr), ∃ (s : State), Accepts s h 0x0301 none) ∧
    (∃ (h : CmdHdr), ∃ (s : State), Accepts s h 0x0602 (some .maintainer)) ∧
    (∃ (h : CmdHdr), ∃ (s : State), Accepts s h 0x0705 (some .maintainer)) ∧
    (∃ (h : CmdHdr), ∃ (addr : Word), ∃ (n : BitVec 16), ∃ (s : State), Accepts s h 0x0706 (some .maintainer) ∧ 1 ≤ n.toNat ∧ n.toNat ≤ 128 ∧
      addr.toNat % 4 = 0 ∧ 0x20000000 ≤ addr.toNat ∧ addr.toNat + 4 * n.toNat ≤ 0x20130000) ∧
    (∃ (h : CmdHdr), ∃ (s : State), Accepts s h 0x0802 (some .maintainer)) ∧
    (∃ (h : CmdHdr), ∃ (n : Byte), ∃ (s : State), Accepts s h 0x0803 (some .maintainer) ∧ n.toNat ≤ 31) ∧
    (∃ (h : CmdHdr), ∃ c, ∃ (s : State), Accepts s h 0x0801 (some .maintainer) ∧ perfConfigOk c = true) ∧
    (∃ (h : CmdHdr), ∃ (i : Byte), ∃ (k : Byte), ∃ (first : BitVec 16), ∃ (n : BitVec 16), ∃ (mask : BitVec 16), ∃ (s : State),
      Accepts s h 0x0302 none ∧ subscribeOk i.toNat k.toNat first.toNat n.toNat mask.toNat = true) ∧
    (∃ (h : CmdHdr), ∃ (i : Byte), ∃ (s : State), Accepts s h 0x0303 none ∧ i.toNat < 8) ∧
    (∃ (h : CmdHdr), ∃ v, ∃ (s : State), Accepts s h 0x0304 none ∧ s.queryVector = some v) ∧
    (∃ (h : CmdHdr), ∃ (n : BitVec 16), ∃ (ofs : Word), ∃ (c : Word), ∃ v, ∃ (s : State), Accepts s h 0x0304 none ∧
      Tab.get? s.host.snapshots h.source.toNat = some (c, v) ∧ 1 ≤ n.toNat ∧ n.toNat ≤ 1008 ∧ ofs.toNat + n.toNat ≤ 98592) :=
  ⟨⟨hdr5, 0, station.ixl.resolved, station, by decide +kernel⟩,
   ⟨hdr5, 2, station.ixl.resolved, el .pt, station, by decide +kernel⟩,
   ⟨hdr5, inMode .boot, by decide +kernel⟩,
   ⟨macHdr, withSession (voting .operate), by decide +kernel⟩,
   ⟨macHdr, withSession (voting .operate), by decide +kernel⟩,
   ⟨macHdr, 0x20050000, 2, withSession (voting .operate), by decide +kernel⟩,
   ⟨macHdr, withSession (voting .operate), by decide +kernel⟩,
   ⟨macHdr, 3, withSession (voting .operate), by decide +kernel⟩,
   ⟨macHdr, ⟨3, 1, 0x0101, 0, 0xFF, 0, 0, 0, 0⟩, withSession (voting .operate), by decide +kernel⟩,
   ⟨hdr5, 1, 1, 0, 16, 0, station, by decide +kernel⟩,
   ⟨hdr5, 1, station, by decide +kernel⟩,
   ⟨hdr5, station.ixl.resolved, station, by decide +kernel⟩,
   ⟨hdr5, 4, 8, 0, Verdict.empty, { station with host := { HostS.reset with snapshots := [(5, (0, Verdict.empty))] } }, by decide +kernel⟩⟩

theorem witness_SessionCommands :
    (∃ (h : CmdHdr), ∃ (ns : Word), ∃ (net : BitVec 64), ∃ (s : State), Accepts s h 0x0601 (some .maintainer) ∧ ns.toNat < 1000000000 ∧
      net.toNat ≤ s.nowFor h + 60000000 ∧ s.nowFor h ≤ net.toNat + 60000000) ∧
    (∃ (h : CmdHdr), ∃ (s : State), Accepts s h 0x0701 none ∧ s.mod.mode ≠ .dormant) ∧
    (∃ (h : CmdHdr), ∃ (slot : Byte), ∃ r, ∃ c, ∃ k, ∃ (s : State), Accepts s h 0x0702 none ∧ s.mod.mode ≠ .dormant ∧ slot.toNat < 8 ∧
      (s.host.challenges.find? fun c => c.source = h.source.toNat && c.role = r) = some c ∧ s.nowFor h ≤ c.time + 30000000 ∧
      c.housekeeper = false ∧ s.keyAt slot.toNat = some k ∧ s.keyHas slot.toNat (r.code - 1) = true ∧
      (s.host.sessions ++ s.host.hkSession.toList).any (fun x => x.role = r) = false) ∧
    (∃ (h : CmdHdr), ∃ r, ∃ x, ∃ (s : State), Accepts s h 0x0703 none ∧ s.mod.mode ≠ .dormant ∧
      (s.host.sessions.find? fun x => x.role = r && x.source = h.source.toNat) = some x) ∧
    (∃ (h : CmdHdr), ∃ (s : State), Accepts s h 0x0704 (some .maintainer) ∧ s.transitionUnderWay = false ∧ s.modeAllowed .safe = true ∧
      (s.mod.modeDue.any fun d => targetRank .safe ≤ targetRank d) = false) ∧
    (∃ (h : CmdHdr), ∃ (s : State), Accepts s h 0x0704 (some .maintainer) ∧
      (s.transitionUnderWay = true ∨ s.modeAllowed .safe = false ∨ (s.mod.modeDue.any fun d => targetRank .safe ≤ targetRank d) = true)) ∧
    (∃ (h : CmdHdr), ∃ (s : State), Accepts s h 0x0704 (some .maintainer) ∧ s.transitionUnderWay = false ∧ s.modeAllowed .reset = true ∧
      (s.mod.modeDue.any fun d => targetRank .reset ≤ targetRank d) = false) ∧
    (∃ (h : CmdHdr), ∃ (s : State), Accepts s h 0x0704 (some .maintainer) ∧
      (s.transitionUnderWay = true ∨ s.modeAllowed .reset = false ∨ (s.mod.modeDue.any fun d => targetRank .reset ≤ targetRank d) = true)) ∧
    (∃ (h : CmdHdr), ∃ (s : State), Accepts s h 0x0704 (some .maintainer) ∧ s.transitionUnderWay = false ∧ s.modeAllowed .dormant = true ∧
      (s.mod.modeDue.any fun d => targetRank .dormant ≤ targetRank d) = false) ∧
    (∃ (h : CmdHdr), ∃ (s : State), Accepts s h 0x0704 (some .maintainer) ∧
      (s.transitionUnderWay = true ∨ s.modeAllowed .dormant = false ∨ (s.mod.modeDue.any fun d => targetRank .dormant ≤ targetRank d) = true)) ∧
    (∃ (h : CmdHdr), ∃ (s : State), Accepts s h 0x0704 (some .maintainer) ∧ s.holds .engineer h.source.toNat = true ∧
      s.transitionUnderWay = false ∧ s.modeAllowed .replay = true ∧ (s.mod.modeDue.any fun d => targetRank .replay ≤ targetRank d) = false) ∧
    (∃ (h : CmdHdr), ∃ (s : State), Accepts s h 0x0704 (some .maintainer) ∧ s.holds .engineer h.source.toNat = true ∧
      (s.transitionUnderWay = true ∨ s.modeAllowed .replay = false ∨ (s.mod.modeDue.any fun d => targetRank .replay ≤ targetRank d) = true)) ∧
    (∃ (h : CmdHdr), ∃ (s : State), Accepts s h 0x0704 (some .maintainer) ∧ s.mod.mode = .dormant ∧ s.mod.waking = none ∧
      s.mod.dormant.any (fun d => d.fromOperate || d.condsMet) = true) ∧
    (∃ (h : CmdHdr), ∃ (r : BitVec 16), ∃ (s : State), Accepts s h 0x0708 (some .engineer) ∧ s.ixl.withheld.contains r.toNat = true) :=
  ⟨⟨macHdr, 5, 1000, withSession (voting .operate), by decide +kernel⟩,
   ⟨hdr5, voting .operate, by decide +kernel⟩,
   ⟨hdr5, 2, Role.engineer, ⟨5, .engineer, [], 0, false⟩, ⟨[], 15, false⟩,
     { voting .operate with host := { HostS.reset with challenges := [⟨5, .engineer, [], 0, false⟩] }, img := { ImgS.reset with keys := [(2, ⟨[], 15, false⟩)] } }, by decide +kernel⟩,
   ⟨hdr5, Role.engineer, engineer, withSession (voting .operate), by decide +kernel⟩,
   ⟨macHdr, withSession (voting .operate), by decide +kernel⟩,
   ⟨macHdr, withSession (voting .loaded), by decide +kernel⟩,
   ⟨macHdr, withSession (voting .safe), by decide +kernel⟩,
   ⟨macHdr, withSession (voting .operate), by decide +kernel⟩,
   ⟨macHdr, withSession (voting .loaded), by decide +kernel⟩,
   ⟨macHdr, withSession (voting .integrate), by decide +kernel⟩,
   ⟨macHdr, withSession { voting .loaded with mod := { ModS.reset with mode := .loaded, bench := true } }, by decide +kernel⟩,
   ⟨macHdr, withSession (voting .loaded), by decide +kernel⟩,
   ⟨macHdr, { inMode .dormant with mod := { ModS.reset with mode := .dormant, dormant := some ⟨true, false, false, LaneSet.full, LaneSet.none, false⟩ }, host := { HostS.reset with hkSession := some ⟨.maintainer, 5, 0, [], 0, []⟩ } }, by decide +kernel⟩,
   ⟨macHdr, 3, withSession { voting .operate with ixl := { IxlS.reset with withheld := [3] } }, by decide +kernel⟩⟩

theorem witness_FuseCommands :
    (∃ (h : CmdHdr), ∃ (op : Byte), ∃ (slot : Byte), ∃ (s : State), Accepts s h 0x0707 (some .custodian) ∧
      s.fuseRefusal op.toNat slot.toNat = none ∧ s.img.fuseOp = none) ∧
    (∃ (h : CmdHdr), ∃ (slot : Byte), ∃ tok, ∃ (s : State), Accepts s h 0x0707 (some .custodian) ∧
      s.tokenValid h 0x0707 (fuseTarget 1 slot.toNat) false tok = true ∧ s.fuseRefusal 1 slot.toNat = none ∧ s.img.fuseOp = none) ∧
    (∃ (h : CmdHdr), ∃ (slot : Byte), ∃ tok, ∃ (s : State), Accepts s h 0x0707 (some .custodian) ∧
      s.tokenValid h 0x0707 (fuseTarget 2 slot.toNat) false tok = true ∧ s.fuseRefusal 2 slot.toNat = none ∧ s.img.fuseOp = none) ∧
    (∃ (h : CmdHdr), ∃ (slot : Byte), ∃ tok, ∃ (s : State), Accepts s h 0x0707 (some .custodian) ∧
      s.tokenValid h 0x0707 (fuseTarget 3 slot.toNat) false tok = true ∧ s.fuseRefusal 3 slot.toNat = none ∧ s.img.fuseOp = none) ∧
    (∃ f, ∃ (s : State), s.img.fuseOp = some f ∧ f.op = 1) ∧
    (∃ f, ∃ k, ∃ (s : State), s.img.fuseOp = some f ∧ f.op = 3 ∧ s.keyAt f.slot = some k) ∧
    (∃ f, ∃ (s : State), s.img.fuseOp = some f) :=
  ⟨⟨macHdr, 1, 0, withSession (voting .safe), by decide +kernel⟩,
   ⟨macHdr, 0, 9, fuseSt 1 0, by decide +kernel⟩,
   ⟨macHdr, 2, 9, fuseSt 2 2, by decide +kernel⟩,
   ⟨macHdr, 2, 9, fuseSt 3 2, by decide +kernel⟩,
   ⟨⟨1, 0, 5, 6, 9⟩, fuseHeld ⟨1, 0, 5, 6, 9⟩, by decide +kernel⟩,
   ⟨⟨3, 2, 5, 6, 9⟩, ⟨[], 15, false⟩, fuseHeld ⟨3, 2, 5, 6, 9⟩, by decide +kernel⟩,
   ⟨⟨2, 2, 5, 6, 9⟩, fuseHeld ⟨2, 2, 5, 6, 9⟩, by decide +kernel⟩⟩

theorem witness_HostPortCommands :
    (∃ p, ∃ f, ∃ (s : State), s.portsSilent p = false ∧ ethAccepted f (s.portVlan p) = false) ∧
    (∃ p, ∃ f, ∃ (s : State), s.portsSilent p = false ∧ ethAccepted f (s.portVlan p) = true) ∧
    (∃ p, ∃ (a : Word), ∃ (s : State), s.portsSilent p = false ∧ a.toNat = s.portAddress p) ∧
    (∃ p, ∃ n, ∃ stamp, ∃ (s : State), s.portsSilent p = false ∧ n ≤ 1024 ∧ Tab.getD s.host.icmp p.code 0 / 16 = stamp / 1000000 ∧
      Tab.getD s.host.icmp p.code 0 % 16 < 10) ∧
    (∃ p, ∃ n, ∃ stamp, ∃ (s : State), s.portsSilent p = false ∧ n ≤ 1024 ∧ Tab.getD s.host.icmp p.code 0 / 16 ≠ stamp / 1000000) ∧
    (∃ p, ∃ (s : State), s.portsSilent p = false) ∧
    (∃ p, ∃ (s : State), s.mod.mode ≠ .off ∧ s.portsSilent p = true) ∧
    (∃ (s : State), s.mod.mode ≠ .off) ∧
    (∃ p, ∃ (peer : HostPeer), ∃ stamp, ∃ lanes, ∃ bytes, ∃ src, ∃ (s : State), s.portsSilent p = false ∧ s.sourceAt p peer.addr.toNat = some src ∧
      s.host.floodSecond = stamp / 1000000 ∧ Tab.getD s.host.flood src 0 < 1000 ∧ Admissible s ⟨p, peer, stamp, src, lanes, bytes⟩ ∧
      s.mod.mode.hkAnswers = false ∧ s.ringFill (ringKey (Arrival.queue ⟨p, peer, stamp, src, lanes, bytes⟩) (Arrival.opcode ⟨p, peer, stamp, src,
      lanes, bytes⟩)) stamp < s.ringDepth (ringKey (Arrival.queue ⟨p, peer, stamp, src, lanes, bytes⟩) (Arrival.opcode ⟨p, peer, stamp, src,
      lanes, bytes⟩))) ∧
    (∃ p, ∃ (peer : HostPeer), ∃ stamp, ∃ lanes, ∃ bytes, ∃ src, ∃ (s : State), s.portsSilent p = false ∧ s.sourceAt p peer.addr.toNat = some src ∧
      s.host.floodSecond = stamp / 1000000 ∧ Tab.getD s.host.flood src 0 < 1000 ∧ Admissible s ⟨p, peer, stamp, src, lanes, bytes⟩ ∧
      s.mod.mode.hkAnswers = false ∧ s.ringDepth (ringKey (Arrival.queue ⟨p, peer, stamp, src, lanes, bytes⟩) (Arrival.opcode ⟨p, peer, stamp,
      src, lanes, bytes⟩)) ≤ s.ringFill (ringKey (Arrival.queue ⟨p, peer, stamp, src, lanes, bytes⟩) (Arrival.opcode ⟨p, peer, stamp, src, lanes,
      bytes⟩)) stamp) ∧
    (∃ p, ∃ (peer : HostPeer), ∃ (s : State), s.portsSilent p = false ∧ s.sourceAt p peer.addr.toNat = none) ∧
    (∃ p, ∃ (peer : HostPeer), ∃ stamp, ∃ lanes, ∃ bytes, ∃ src, ∃ (s : State), s.portsSilent p = false ∧ s.sourceAt p peer.addr.toNat = some src ∧
      s.host.floodSecond = stamp / 1000000 ∧ Tab.getD s.host.flood src 0 < 1000 ∧ byteAt bytes 0 = 2 ∧ bytes.length = 24 + Arrival.plen ⟨p, peer,
      stamp, src, lanes, bytes⟩ ∧ Arrival.mac ⟨p, peer, stamp, src, lanes, bytes⟩ = false ∧ Arrival.plen ⟨p, peer, stamp, src, lanes,
      bytes⟩ ≤ 1024 ∧ Arrival.code ⟨p, peer, stamp, src, lanes, bytes⟩ ≠ Arrival.safety ⟨p, peer, stamp, src, lanes, bytes⟩ s.mod.sid) :=
  ⟨⟨.a, { toOwnMac := true, broadcast := false, etherType := 0x86DD, tag := none, length := 100, fcsOk := true, ipVersion := 6, ipHdrWords := 0, ipHdrOk := false, ipLengthOk := false, moreFrags := false, fragOffset := 0, toOwnIp := false, protocol := 0, udpPort := 0, udpSumOk := false }, voting .operate, by decide +kernel⟩,
   ⟨.a, { toOwnMac := true, broadcast := false, etherType := 0x0800, tag := none, length := 100, fcsOk := true, ipVersion := 4, ipHdrWords := 5, ipHdrOk := true, ipLengthOk := true, moreFrags := false, fragOffset := 0, toOwnIp := true, protocol := 1, udpPort := 0, udpSumOk := false }, voting .operate, by decide +kernel⟩,
   ⟨.a, 0, voting .operate, by decide +kernel⟩,
   ⟨.b, 64, 3500, voting .operate, by decide +kernel⟩,
   ⟨.b, 64, 2000000, voting .operate, by decide +kernel⟩,
   ⟨.b, voting .operate, by decide +kernel⟩,
   ⟨.b, inMode .dormant, by decide +kernel⟩,
   ⟨voting .operate, by decide +kernel⟩,
   ⟨.a, ⟨0, 7, 4862⟩, 2000000, LaneSet.full, packetBytes, 5, hosted 8, by decide +kernel⟩,
   ⟨.a, ⟨0, 7, 4862⟩, 2000000, LaneSet.full, packetBytes, 5,
     { hosted 1 with host := { (hosted 1).host with rings := PerLane.pure [(4, [Arrival.cmd ⟨.a, ⟨0, 7, 4862⟩, 1500000, 5, LaneSet.full, packetBytes⟩])] } }, by decide +kernel⟩,
   ⟨.a, ⟨0, 8, 4862⟩, hosted 8, by decide +kernel⟩,
   ⟨.a, ⟨0, 7, 4862⟩, 2000000, LaneSet.full, packetBytes, 5, { hosted 8 with mod := { (hosted 8).mod with sid := 3 } }, by decide +kernel⟩⟩

theorem witness_HostServiceCommands :
    (∃ (s : State), s.mod.mode.cycles = true ∧ s.acc.tick = 3 ∧ s.host.intakeDone = false) ∧
    (∃ (s : State), (s.mod.mode = .loaded ∨ s.mod.mode = .safe ∨ s.mod.mode = .recovery ∨ s.mod.mode = .replay)) ∧
    (∃ cmd, ∃ r, ∃ u, ∃ p, ∃ (s : State), s.mod.modeDue = none ∧ (s.takeReply fun r => decide (r.ref = cmd) && r.agreed.isSome) = some (r, u) ∧
      r.agreed = some p ∧ s.answered cmd = false) ∧
    (∃ cmd, ∃ r, ∃ u, ∃ (s : State), s.mod.modeDue = none ∧
      (s.takeReply fun r => decide (r.ref = cmd) && r.agreed.isNone && decide (LaneSet.count (r.lanes.map Option.isSome) ≠ 0)) = some (r, u)) ∧
    (∃ cmd, ∃ r, ∃ u, ∃ (s : State), s.mod.modeDue = none ∧ (s.takeReply fun r => decide (r.ref = cmd) && decide (r.lanes = ⟨none, none,
      none⟩)) = some (r, u)) ∧
    (∃ cmd, ∃ c, ∃ (s : State), s.mod.modeDue = none ∧ (s.takeReply fun r => decide (r.ref = cmd) && decide (r.lanes = ⟨none, none,
      none⟩)) = none ∧ s.unanswered cmd = some c) ∧
    (∃ cmd, ∃ c, ∃ (s : State), s.mod.hkLost = false ∧ (s.host.q5.find? fun c => c.hdr.ref = cmd) = some c) ∧
    (∃ (s : State), s.mod.mode ≠ .off) :=
  ⟨⟨{ hosted 8 with acc := { AccS.reset with tick := 3 } }, by decide +kernel⟩,
   ⟨{ hosted 8 with mod := { ModS.reset with mode := .safe } }, by decide +kernel⟩,
   ⟨⟨5, 4, 9⟩, ⟨⟨5, 4, 9⟩, reply9, ⟨some reply9, none, some reply9⟩⟩, hosted 8, reply9,
     { hosted 8 with host := { (hosted 8).host with replies := [⟨⟨5, 4, 9⟩, reply9, ⟨some reply9, none, some reply9⟩⟩] } }, by decide +kernel⟩,
   ⟨⟨5, 4, 9⟩, ⟨⟨5, 4, 9⟩, reply9, ⟨some reply9, none, none⟩⟩, hosted 8,
     { hosted 8 with host := { (hosted 8).host with replies := [⟨⟨5, 4, 9⟩, reply9, ⟨some reply9, none, none⟩⟩] } }, by decide +kernel⟩,
   ⟨⟨5, 4, 9⟩, ⟨⟨5, 4, 9⟩, reply9, ⟨none, none, none⟩⟩, hosted 8,
     { hosted 8 with host := { (hosted 8).host with replies := [⟨⟨5, 4, 9⟩, reply9, ⟨none, none, none⟩⟩] } }, by decide +kernel⟩,
   ⟨⟨5, 4, 9⟩, ⟨5, 4, 9, 0, .a, 0, 0x0104, 0, false, [], [], true, [], none⟩,
     { hosted 8 with host := { (hosted 8).host with consumed := [⟨5, 4, 9, 0, .a, 0, 0x0104, 0, false, [], [], true, [], none⟩] } },
     by decide +kernel⟩,
   ⟨⟨5, 4, 10001⟩, Arrival.cmd ⟨.a, ⟨0, 7, 4862⟩, 1500000, 5, LaneSet.full, packetBytes⟩,
     { hosted 8 with host := { (hosted 8).host with q5 := [Arrival.cmd ⟨.a, ⟨0, 7, 4862⟩, 1500000, 5, LaneSet.full, packetBytes⟩] } },
     by decide +kernel⟩,
   ⟨hosted 8, by decide +kernel⟩⟩

theorem witness_RecorderReadCommands :
    (∃ (h : CmdHdr), ∃ (n : BitVec 16), ∃ (s : State), Accepts s h 0x0401 (some .maintainer) ∧ n.toNat ≤ 255) ∧
    (∃ (h : CmdHdr), ∃ (n : BitVec 16), ∃ (s : State), Accepts s h 0x0405 (some .maintainer) ∧ n.toNat ≤ 255) ∧
    (∃ (h : CmdHdr), ∃ (s : State), Accepts s h 0x0402 (some .maintainer) ∧ s.rcd.freeze = none) ∧
    (∃ (h : CmdHdr), ∃ (s : State), Accepts s h 0x0403 (some .maintainer)) ∧
    (∃ f, ∃ (s : State), s.rcd.freeze = some f ∧ f.since + 60000 ≤ s.rcd.opTime) ∧
    (∃ (h : CmdHdr), ∃ (u : BitVec 64), ∃ (s : State), Accepts s h 0x0404 (some .custodian) ∧ u.toNat ≤ s.rcd.writeIndex ∧ s.rcd.freeze = none) ∧
    (∃ (h : CmdHdr), ∃ (u : BitVec 64), ∃ tok, ∃ (s : State), Accepts s h 0x0404 (some .custodian) ∧ s.mod.hkLost = false ∧
      s.tokenValid h 0x0404 (clearTarget u.toNat) false tok = true ∧ u.toNat ≤ s.rcd.writeIndex ∧ s.rcd.freeze = none) ∧
    (∃ (h : CmdHdr), ∃ (s : State), Accepts s h 0x0406 (some .maintainer) ∧ s.mod.mode.cycles = true ∧ s.rcd.mark = none) :=
  ⟨⟨macHdr, 5, withSession (voting .operate), by decide +kernel⟩,
   ⟨macHdr, 5, withSession (voting .operate), by decide +kernel⟩,
   ⟨macHdr, withSession (voting .operate), by decide +kernel⟩,
   ⟨macHdr, withSession { voting .operate with rcd := { RecS.reset with freeze := some ⟨5, 0, [], 0⟩ } }, by decide +kernel⟩,
   ⟨⟨5, 0, [], 0⟩, { voting .operate with rcd := { RecS.reset with freeze := some ⟨5, 0, [], 0⟩, opTime := 60000 } }, by decide +kernel⟩,
   ⟨macHdr, 0, withSession (voting .operate), by decide +kernel⟩,
   ⟨macHdr, 3, 9, { withSession (voting .operate) with rcd := { RecS.reset with writeIndex := 3, store := [⟨2, 0x0601, 0, false, none, false, false, 0, 0, 0, []⟩] }, ixl := { IxlS.reset with tokens := [⟨9, 0x0404, 5, 3, 0, false, some .custodian⟩] } }, by decide +kernel⟩,
   ⟨macHdr, withSession (voting .operate), by decide +kernel⟩⟩

theorem witness_RecordWritingCommands :
    (∃ (l : Lane), ∃ (s : State), s.mod.mode.lanesRun = true ∧ s.laneSt l ≠ .hold ∧ s.laneSt l ≠ .failed) ∧
    (∃ (l : Lane), ∃ ty, ∃ (body : List Byte), ∃ (s : State), s.mod.mode.lanesRun = true ∧ s.laneSt l ≠ .hold ∧ s.laneSt l ≠ .failed ∧
      ((∀ p ∈ s.rcd.pending, p.type = ty → p.payload = body.take 976 → p.lanes.get l = true))) ∧
    (∃ p, ∃ (s : State), s.rcd.pending = [p] ∧ p.since + 20 ≤ s.rcd.opTime ∧ LaneSet.count p.lanes = 1 ∧ s.mod.hkLost = false ∧
      s.rcd.freeze = none ∧ s.rcd.opened = [] ∧ p.payload.length ≤ 976 ∧ storeBytes s.rcd.store ≤ 2147483648) ∧
    (∃ i, ∃ (s : State), s.mod.mode.cycles = true ∧ (s.rcd.opened.any fun o => o.index = i && o.last + 1000 ≤ s.rcd.opTime) = true) ∧
    (∃ (s : State), s.mod.hkLost = false ∧ s.mod.mode.lanesRun = true) ∧
    (∃ (s : State), s.mod.mode ≠ .off) :=
  ⟨⟨.b, voting .operate, by decide +kernel⟩,
   ⟨.b, 0x0601, [1, 2], voting .operate, by and_intros <;> first | decide +kernel | (intro l; cases l <;> decide +kernel)⟩,
   ⟨⟨0x0601, [1, 2], LaneSet.single .a, 3, 10⟩, { voting .operate with rcd := { RecS.reset with opTime := 30, pending := [⟨0x0601, [1, 2], LaneSet.single .a, 3, 10⟩] } }, by decide +kernel⟩,
   ⟨4, { voting .operate with rcd := { RecS.reset with opTime := 1000, opened := [⟨4, 0, 0, false⟩, ⟨5, 0, 0, false⟩] } }, by decide +kernel⟩,
   ⟨{ voting .operate with rcd := { RecS.reset with lostRing := 2 } }, by decide +kernel⟩,
   ⟨voting .operate, by decide +kernel⟩⟩

theorem witness_HousekeeperAndReplayCommands :
    (∃ (s : State), s.mod.mode.cycles = true ∧ s.mod.hkLost = false ∧ countWithin s.rcd.opTime 600000 s.mod.hkResets < 3) ∧
    (∃ (s : State), s.mod.mode.cycles = true ∧ s.mod.hkLost = false ∧ 3 ≤ countWithin s.rcd.opTime 600000 s.mod.hkResets) ∧
    (∃ (s : State), s.mod.hkLost = true ∧ s.mod.mode.cycles = true ∧ s.image.decl.recorderRequired = true) ∧
    (∃ (l : Lane), ∃ (s : State), s.mod.mode = .operate ∧ s.acc.tick = 0 ∧ s.mod.cycle.toNat % 1000 = 0 ∧ s.rcd.keyframeDue = none ∧
      s.copyRuns = false ∧ LaneSet.first s.votingLanes = some l) ∧
    (∃ (s : State), s.mod.mode = .operate ∧ s.acc.tick = 0 ∧ s.mod.cycle.toNat % 1000 = 0 ∧ s.rcd.keyframeDue = none ∧ s.copyRuns = true) ∧
    (∃ c, ∃ rest, ∃ head, ∃ items, ∃ (s : State), s.mod.mode = .replay ∧ s.rcd.replayRunning = true ∧ s.rcd.replayLeft = c :: rest ∧
      2 ≤ LaneSet.count s.writers ∧ s.replayHead c = some head ∧ silItems s.rcd.sil c 1 = some items) ∧
    (∃ c, ∃ rest, ∃ (s : State), s.mod.mode = .replay ∧ s.rcd.replayRunning = true ∧ s.rcd.replayLeft = c :: rest ∧ LaneSet.count s.writers < 2) ∧
    (∃ (s : State), s.mod.mode = .replay ∧ s.rcd.replayRunning = true ∧ s.rcd.replayLeft = []) :=
  ⟨⟨voting .operate, by decide +kernel⟩,
   ⟨{ voting .operate with mod := { ModS.reset with mode := .operate, hkResets := [0, 0, 0] } }, by decide +kernel⟩,
   ⟨{ voting .operate with mod := { ModS.reset with mode := .operate, hkLost := true }, img := { ImgS.reset with running := some { stationImage with decl := { Declaration.empty with recorderRequired := true } } } }, by decide +kernel⟩,
   ⟨.a, { voting .operate with acc := { AccS.reset with tick := 0 } }, by decide +kernel⟩,
   ⟨{ voting .operate with lanes := (resyncing 3).lanes, acc := { AccS.reset with tick := 0 } }, by decide +kernel⟩,
   ⟨7, [], replayHead7, [(1, replayHead7)], replayState, by decide +kernel⟩,
   ⟨7, [], { replayState with lanes := PerLane.pure LaneS.reset }, by decide +kernel⟩,
   ⟨{ replayState with rcd := { RecS.reset with replayRunning := true } }, by decide +kernel⟩⟩

theorem witness_NetworkAdministration :
    (∃ (h : CmdHdr), ∃ (ch : Byte), ∃ (first : BitVec 16), ∃ (n : BitVec 16), ∃ (s : State), Accepts s h 0x0901 (some .maintainer) ∧ ch.toNat ≤ 1 ∧
      1 ≤ n.toNat ∧ n.toNat ≤ 100 ∧ first.toNat < 512) ∧
    (∃ (h : CmdHdr), ∃ (ch : Byte), ∃ (first : BitVec 16), ∃ (n : BitVec 16), ∃ (s : State), Accepts s h 0x0901 (some .maintainer) ∧ ch.toNat ≤ 1 ∧
      1 ≤ n.toNat ∧ n.toNat ≤ 100 ∧ first.toNat + n.toNat ≤ 512) ∧
    (∃ (h : CmdHdr), ∃ (p : Byte), ∃ (q : Nat), ∃ (s : State), Accepts s h 0x0902 (some .engineer) ∧ p.toNat < 64 ∧
      (if p.toNat < 32 then s.net.servesX else s.net.servesY) = true ∧
      ((s.portNodes p.toNat).any fun q => s.portOut (if p.toNat < 32 then q.2.portY + 32 else q.2.portX)) = false ∧ Tab.wf s.net.ports = true) ∧
    (∃ (h : CmdHdr), ∃ (p : Byte), ∃ (s : State), Accepts s h 0x0902 (some .engineer) ∧ p.toNat < 64 ∧
      (if p.toNat < 32 then s.net.servesX else s.net.servesY) = true) ∧
    (∃ (h : CmdHdr), ∃ (p : Byte), ∃ (first : BitVec 16), ∃ es, ∃ (s : State), Accepts s h 0x0903 (some .engineer) ∧ p.toNat < 64 ∧ 1 ≤ es.length ∧
      es.length ≤ 250 ∧ first.toNat + es.length ≤ 1000 ∧ s.bankRefusal p.toNat first.toNat es = none ∧ s.mod.role ≠ .lead) ∧
    (∃ (h : CmdHdr), ∃ (r : Word), ∃ (s : State), Accepts s h 0x0904 (some .engineer) ∧ newer r (s.net.round + 49) = true ∧ s.net.frozen = false ∧
      s.mod.role ≠ .lead) ∧
    (∃ (h : CmdHdr), ∃ (e : Byte), ∃ (s : State), Accepts s h 0x0905 (some .engineer) ∧ e.toNat ≤ 1 ∧ s.mod.role ≠ .tender) :=
  ⟨⟨macHdr, 0, 0, 1, withSession online, by decide +kernel⟩,
   ⟨macHdr, 0, 0, 2, withSession online, by decide +kernel⟩,
   ⟨macHdr, 3, 4, withSession online, by decide +kernel⟩,
   ⟨macHdr, 3, withSession online, by decide +kernel⟩,
   ⟨macHdr, 3, 600, [0], withSession online, by decide +kernel⟩,
   ⟨macHdr, 800, withSession online, by decide +kernel⟩,
   ⟨macHdr, 0, withSession online, by decide +kernel⟩⟩

theorem witness_RedundancyCommands :
    (∃ (h : CmdHdr), ∃ (s : State), Accepts s h 0x0A01 (some .maintainer)) ∧
    (∃ (h : CmdHdr), ∃ (s : State), Accepts s h 0x0A02 (some .maintainer) ∧ s.switchoverAllowed = true) ∧
    (∃ (h : CmdHdr), ∃ tok, ∃ (s : State), Accepts s h 0x0A02 (some .maintainer) ∧ s.switchoverAllowed = true ∧
      s.tokenValid h 0x0A02 switchoverTarget false tok = true ∧ s.plink.switchAt = none) ∧
    (∃ (h : CmdHdr), ∃ (l : Lane), ∃ (s : State), Accepts s h 0x0A03 (some .maintainer) ∧ s.laneSt l = .out ∧ (s.lane l).diag.halted = false) ∧
    (∃ (h : CmdHdr), ∃ (e : Byte), ∃ (s : State), Accepts s h 0x0A04 (some .engineer) ∧ e.toNat ≤ 1 ∧ s.mod.role ≠ .lead) ∧
    (∃ (h : CmdHdr), ∃ e, ∃ (s : State), s.plink.enableAsk = some (h, e)) :=
  ⟨⟨macHdr, withSession (voting .operate), by decide +kernel⟩,
   ⟨macHdr, leadSt, by decide +kernel⟩,
   ⟨macHdr, 9, leadSt, by decide +kernel⟩,
   ⟨macHdr, .b, withSession { voting .operate with lanes := ⟨laneIn .voting, laneIn .out, laneIn .voting⟩ }, by decide +kernel⟩,
   ⟨macHdr, 1, withSession (voting .operate), by decide +kernel⟩,
   ⟨macHdr, true, { leadSt with plink := { leadSt.plink with enableAsk := some (macHdr, true) } }, by decide +kernel⟩⟩

theorem witness_FieldAndDebugQueries :
    (∃ (h : CmdHdr), ∃ (first : Byte), ∃ (n : Byte), ∃ (s : State), Accepts s h 0x0B01 (some .maintainer) ∧ 1 ≤ n.toNat ∧
      first.toNat + n.toNat ≤ 64) ∧
    (∃ (h : CmdHdr), ∃ (ch : Byte), ∃ (v : Byte), ∃ d, ∃ (s : State), Accepts s h 0x0B02 (some .maintainer) ∧ ch.toNat < 64 ∧ v.toNat ≤ 100 ∧
      s.isOutput ch.toNat = true ∧ Tab.get? s.image.chans ch.toNat = some d ∧ d.vital = false ∧ Tab.wf s.fch.testPeriods = true) ∧
    (∃ (h : CmdHdr), ∃ (ch : Byte), ∃ (v : Byte), ∃ (s : State), Accepts s h 0x0B02 (some .maintainer) ∧ ch.toNat < 64 ∧ v.toNat ≤ 100) ∧
    (∃ (h : CmdHdr), ∃ (ch : Byte), ∃ (v : Byte), ∃ (d : Word), ∃ (s : State), Accepts s h 0x0B03 (some .engineer) ∧ s.mod.lab = true ∧
      s.mod.mode = .operate ∧ s.isOutput ch.toNat = true ∧ v.toNat ≤ 1 ∧ 1 ≤ d.toNat ∧ d.toNat ≤ 60000) ∧
    (∃ (h : CmdHdr), ∃ (s : State), Accepts s h 0x0D01 (some .engineer) ∧ s.mod.lab = true) :=
  ⟨⟨macHdr, 6, 2, withSession (field FchS.reset 3), by decide +kernel⟩,
   ⟨macHdr, 7, 50, { outCh with vital := false }, withSession { field FchS.reset 3 with img := { ImgS.reset with running := some { fieldImage with chans := [(7, { outCh with vital := false })] } } }, by decide +kernel⟩,
   ⟨macHdr, 6, 0, withSession (field FchS.reset 3), by decide +kernel⟩,
   ⟨macHdr, 6, 1, 500, { withSession (field FchS.reset 3) with mod := { ModS.reset with mode := .operate, lab := true } }, by decide +kernel⟩,
   ⟨macHdr, withSession dbgSt, by decide +kernel⟩⟩

end Sys2Proof.Tests
end

section
/-!
SUPPORT. The check values of R8: the registers of the model, bit for bit, are the long division that a parameter set describes.
-/

namespace Sys2Proof.Machine

open Sys2Proof

/-! ### The register over bits -/

/-- A step of the register doubles it and, where the bit shifted out differs from the message's, subtracts the polynomial. -/
theorem fwdStep_toNat {w : Nat} (c : CrcParams) (poly reg : BitVec w) (hw : c.width = w) (hp : c.poly = poly.toNat) (b : Bool) :
    (fwdStep poly reg b).toNat = c.bit reg.toNat b := by
  have up : (reg <<< 1).toNat = 2 * reg.toNat % 2 ^ w := by
    rw [BitVec.toNat_shiftLeft, Nat.shiftLeft_eq, pow_one, Nat.mul_comm]
  have top : reg.getMsbD 0 = reg.toNat.testBit (w - 1) := by
    rw [← BitVec.getLsbD, BitVec.getMsbD_eq_getLsbD]
    cases w with
    | zero => simp [BitVec.of_length_zero]
    | succ n => simp
  subst hw
  simp only [fwdStep, CrcParams.bit, hp, ← up, ← top]
  split
  · exact BitVec.toNat_xor ..
  · rfl

theorem foldl_fwdStep_toNat {w : Nat} (c : CrcParams) (poly reg : BitVec w) (hw : c.width = w) (hp : c.poly = poly.toNat) (bs : List Bool) :
    (bs.foldl (fwdStep poly) reg).toNat = bs.foldl c.bit reg.toNat := by
  induction bs generalizing reg with
  | nil => rfl
  | cons b bs ih => rw [List.foldl_cons, List.foldl_cons, ih, fwdStep_toNat c poly reg hw hp]

/-! ### The register over bytes -/

theorem bits_cons (c : CrcParams) (b : Byte) (bs : List Byte) : c.bits (b :: bs) = c.bits [b] ++ c.bits bs := by
  simp [CrcParams.bits]

theorem fwdByte_toNat {w : Nat} (c : CrcParams) (poly reg : BitVec w) (hw : c.width = w) (hp : c.poly = poly.toNat)
    (hr : c.refl = false) (b : Byte) : (fwdByte poly reg b).toNat = (c.bits [b]).foldl c.bit reg.toNat := by
  rw [← foldl_fwdStep_toNat c poly reg hw hp]
  simp [fwdByte, CrcParams.bits, hr, List.foldl_map]

theorem reflByte_toNat {w : Nat} (c : CrcParams) (poly reg : BitVec w) (hw : c.width = w) (hp : c.poly = poly.toNat)
    (hr : c.refl = true) (b : Byte) : (reflByte poly reg b).toNat = (c.bits [b]).foldl c.bit reg.toNat := by
  rw [← foldl_fwdStep_toNat c poly reg hw hp]
  simp [reflByte, CrcParams.bits, hr, List.foldl_map]

/-- A running value within the width fits the register. -/
theorem truncate_toNat_of_lt (v : BitVec 64) (w : Nat) (hv : v.toNat < 2 ^ w) : (v.truncate w).toNat = v.toNat :=
  (BitVec.toNat_setWidth w v).trans (Nat.mod_eq_of_lt hv)

/-- A byte fed keeps the running value within the width. -/
theorem feed_lt (p : Poly) (v : BitVec 64) (b : Byte) : (p.feed v b).toNat < 2 ^ p.params.width := by
  cases p
  case crc64 => exact BitVec.isLt _
  all_goals
    simp only [Poly.feed, Poly.params, BitVec.truncate_eq_setWidth, BitVec.toNat_setWidth]
    omega

/-- A byte fed to a running value of the width is eight bits of the division. -/
theorem feed_toNat (p : Poly) (v : BitVec 64) (b : Byte) (hv : v.toNat < 2 ^ p.params.width) :
    (p.feed v b).toNat = (p.params.bits [b]).foldl p.params.bit v.toNat := by
  cases p with
  | crc16 => rw [Poly.feed, BitVec.toNat_setWidth_of_le (by decide), fwdByte_toNat (Poly.params .crc16) crc16Poly _ rfl rfl rfl,
      truncate_toNat_of_lt v 16 hv]
  | crc32 => rw [Poly.feed, BitVec.toNat_setWidth_of_le (by decide), reflByte_toNat (Poly.params .crc32) crc32Poly _ rfl rfl rfl,
      truncate_toNat_of_lt v 32 hv]
  | crc32c => rw [Poly.feed, BitVec.toNat_setWidth_of_le (by decide), reflByte_toNat (Poly.params .crc32c) crc32cPoly _ rfl rfl rfl,
      truncate_toNat_of_lt v 32 hv]
  | crc64 => exact fwdByte_toNat (Poly.params .crc64) crc64Poly v rfl rfl rfl b

/-- The running value after a message is the division's register, and stays within the width. -/
theorem run_toNat (p : Poly) (bs : List Byte) (v : BitVec 64) (hv : v.toNat < 2 ^ p.params.width) :
    (p.run v bs).toNat = (p.params.bits bs).foldl p.params.bit v.toNat ∧ (p.run v bs).toNat < 2 ^ p.params.width := by
  induction bs generalizing v with
  | nil => exact ⟨rfl, hv⟩
  | cons b bs ih =>
    obtain ⟨hrun, hlt⟩ := ih (p.feed v b) (feed_lt p v b)
    rw [bits_cons, List.foldl_append, ← feed_toNat p v b hv]
    exact ⟨hrun, hlt⟩

theorem init_toNat (p : Poly) : p.init.toNat = p.params.init := by cases p <;> rfl

theorem init_lt (p : Poly) : p.init.toNat < 2 ^ p.params.width := by cases p <;> decide

/-! ### The result -/

theorem mirror_succ (n r : Nat) : mirror (n + 1) r = 2 * mirror n r + b2n (r.testBit n) := by
  simp [mirror, List.range_succ]

/-- Bit i of a register read from its other end is the bit as far from the top. -/
theorem testBit_mirror (n r i : Nat) : (mirror n r).testBit i = (decide (i < n) && r.testBit (n - 1 - i)) := by
  induction n generalizing i with
  | zero => simp [mirror]
  | succ n ih =>
    rw [mirror_succ]
    cases i with
    | zero => cases h : r.testBit n <;> simp [b2n, h, Nat.testBit_zero]
    | succ i =>
      have half : (2 * mirror n r + b2n (r.testBit n)) / 2 = mirror n r := by
        unfold b2n; split <;> omega
      rw [Nat.testBit_succ, half, ih]
      simp [Nat.sub_sub, Nat.add_comm 1 i]

theorem reverse_toNat {w : Nat} (x : BitVec w) : x.reverse.toNat = mirror w x.toNat := by
  apply Nat.eq_of_testBit_eq
  intro i
  rw [BitVec.testBit_toNat, BitVec.getLsbD_reverse, testBit_mirror, BitVec.testBit_toNat, BitVec.getMsbD_eq_getLsbD]

/-- The result of a running value of the width: reflected where the set says so, with XorOut. -/
theorem result_toNat (p : Poly) (v : BitVec 64) (hv : v.toNat < 2 ^ p.params.width) :
    (p.result v).toNat = (if p.params.refl then mirror p.params.width v.toNat else v.toNat) ^^^ p.params.xorOut := by
  cases p
  case crc16 =>
    have mask : v.toNat &&& 0xFFFF = v.toNat :=
      (Nat.and_two_pow_sub_one_eq_mod v.toNat 16).trans (Nat.mod_eq_of_lt hv)
    simpa [Poly.result, Poly.params] using mask
  case crc64 => simp [Poly.result, Poly.params]
  all_goals
    rw [Poly.result, BitVec.toNat_setWidth_of_le (by decide), BitVec.toNat_xor, reverse_toNat, truncate_toNat_of_lt v 32 hv]
    rfl

/-- The model's check value is the one that the row of R8's table gives by long division. -/
theorem check_toNat (p : Poly) (bs : List Byte) : (Poly.check p bs).toNat = p.params.check bs := by
  obtain ⟨hrun, hlt⟩ := run_toNat p bs p.init (init_lt p)
  rw [Poly.check, result_toNat p _ hlt, hrun, init_toNat]
  rfl

/-- Settles O13: the register of every parameter set is its long division, and over "123456789" it has the table's values. -/
theorem checkValues : Obligations.CheckValues := by
  unfold Obligations.CheckValues
  exact ⟨check_toNat, by decide +kernel⟩

end Sys2Proof.Machine
end

section
/-!
SUPPORT. A misaligned register write of a lane whose compare buffer is full: it does not wait as R352 has an aligned one do, since it ends
with cause BUS before it would enter the buffer (R438).
-/

namespace Sys2Proof.Machine

open Sys2Proof

/-- A misaligned write to register space ends with cause BUS, whatever the compare buffer holds (R438). -/
theorem exec_registerWrite_misaligned (l : Lane) (a : BitVec 36) (v : Word) (s : State) (hr : s.regsRun l = true)
    (hi : inRegs a.toNat = true) (ha : a.toNat % 4 ≠ 0) : exec (.registerWrite l a v) s = .next (s.writeFault l a.toNat 4) := by
  have op : exec (.registerWrite l a v) s = .next (registerWriteOp l a.toNat v s) := rfl
  rw [op, registerWriteOp, hr, hi, Bool.and_self, if_pos rfl, if_pos ha]

/-- The first copy of a record waits for a second lane's (R388). -/
theorem placeRecord_pending_of_nil (s : State) (l : Lane) (type : Nat) (payload : List Byte) (h : s.rcd.pending = []) :
    (s.placeRecord l type payload).rcd.pending = [⟨type, payload, LaneSet.single l, s.recCycle, s.rcd.opTime⟩] := by
  simp [State.placeRecord, h]

/-- OPERATE with lane B voting, its compare buffer filled by eight register writes that the checker has not reached. -/
def fullBufferState : State :=
  { State.reset with
    mod := { ModS.reset with mode := .operate }
    lanes := PerLane.pure { LaneS.reset with
      core := { CoreS.reset with st := .voting, cmpBuf := List.replicate 8 (.register 0x20050000 0) } } }

/-- Refutes O27: its clause on the full compare buffer speaks of every address and says that nothing happens; with lane B's buffer full a
write to 0x2005_0001 is misaligned, does not wait, and places its ACCESS_FAULT record. -/
theorem not_laneRegisterCommands : ¬ Obligations.LaneRegisterCommands := by
  unfold Obligations.LaneRegisterCommands
  intro h
  obtain ⟨-, -, -, -, -, -, -, -, -, -, -, waits, -⟩ := h
  have runs : fullBufferState.regsRun .b = true := by decide
  have stays := waits .b 0x20050001 0 fullBufferState runs (by decide)
  rw [exec_registerWrite_misaligned .b 0x20050001 0 fullBufferState runs (by decide) (by decide)] at stays
  have same : fullBufferState.writeFault .b 0x20050001 4 = fullBufferState := Host.Outcome.next.inj stays
  have empty : fullBufferState.rcd.pending = [] := rfl
  have placed := placeRecord_pending_of_nil fullBufferState .b 0x0132 (fields [(1, 4), (1, 0), (1, 1), (1, 0), (4, 0x20050001)]) empty
  rw [← State.writeFault, same, empty] at placed
  exact absurd placed (List.cons_ne_nil _ _).symm

end Sys2Proof.Machine
end

section
/-!
SUPPORT. What each operation leaves of the module: its mode and registers or at least its seals, the accord, the images, the interlocking state
and the logic sheets, where Laws does not say it.
-/

namespace Sys2Proof.Machine

open Sys2Proof

/-- The module's mode and registers, the accord, the images, the interlocking state and the logic sheets are those of another state. -/
@[simp] abbrev ModuleKept (t s : State) : Prop := t.mod = s.mod ∧ t.acc = s.acc ∧ t.img = s.img ∧ t.ixl = s.ixl ∧ t.sheets = s.sheets

/-! ### The seals over folds and choices -/

@[simp] theorem foldl_sealed {α : Type} (f : State → α → State) (h : ∀ s x, (f s x).mod.sealed = s.mod.sealed) (l : List α) (s : State) :
    (l.foldl f s).mod.sealed = s.mod.sealed := keep_foldl (·.mod.sealed) f h l s
@[simp] theorem each_sealed {α : Type} (f : State → α → State) (h : ∀ s x, (f s x).mod.sealed = s.mod.sealed) (l : List α) (s : State) :
    (s.each l f).mod.sealed = s.mod.sealed := keep_foldl (·.mod.sealed) f h l s
@[simp] theorem forLanes_sealed (f : State → Lane → State) (h : ∀ s x, (f s x).mod.sealed = s.mod.sealed) (ls : LaneSet) (s : State) :
    (s.forLanes ls f).mod.sealed = s.mod.sealed := keep_foldl (·.mod.sealed) f h _ s
@[simp] theorem ite_mod_sealed (c : Prop) [Decidable c] (x y : ModS) : (if c then x else y).sealed = if c then x.sealed else y.sealed := by
  split <;> rfl

@[simp] theorem ite_mod_mode (c : Prop) [Decidable c] (x y : ModS) : (if c then x else y).mode = if c then x.mode else y.mode := by
  split <;> rfl

/-- A fold over steps that keep the module keeps it. -/
theorem each_kept {α : Type} (f : State → α → State) (h : ∀ s x, ModuleKept (f s x) s) (l : List α) (s : State) : ModuleKept (s.each l f) s :=
  ⟨each_mod f (fun s x => (h s x).1) l s, each_acc f (fun s x => (h s x).2.1) l s, each_img f (fun s x => (h s x).2.2.1) l s,
   each_ixl f (fun s x => (h s x).2.2.2.1) l s, each_sheets f (fun s x => (h s x).2.2.2.2) l s⟩

/-! ### A command that stands alone -/

/-- A command that stands alone passes on what its body, its refusals and the host's part leave alone. -/
theorem keep_serve {β : Type} (g : State → β) (s : State) (h : CmdHdr) (opcode : Nat) (need : Option Role) (body : State → State)
    (hs : ∀ (s : State) op st ps, g (s.say h op st ps) = g s) (ht : ∀ (s : State) op st, g (s.turnAway h op st) = g s)
    (hh : ∀ (s : State) x, g { s with host := x } = g s) (hb : ∀ s, g (body s) = g s) :
    g (s.serve h opcode need body) = g s := by
  unfold State.serve
  (repeat' split) <;> simp only [hs, ht, hh, hb]

@[simp] theorem serve_mod (s : State) (h : CmdHdr) (opcode : Nat) (need : Option Role) (body : State → State)
    (hb : ∀ s, (body s).mod = s.mod) : (s.serve h opcode need body).mod = s.mod :=
  keep_serve (·.mod) s h opcode need body (by simp) (by simp) (fun _ _ => rfl) hb
@[simp] theorem serve_acc (s : State) (h : CmdHdr) (opcode : Nat) (need : Option Role) (body : State → State)
    (hb : ∀ s, (body s).acc = s.acc) : (s.serve h opcode need body).acc = s.acc :=
  keep_serve (·.acc) s h opcode need body (by simp) (by simp) (fun _ _ => rfl) hb
@[simp] theorem serve_img (s : State) (h : CmdHdr) (opcode : Nat) (need : Option Role) (body : State → State)
    (hb : ∀ s, (body s).img = s.img) : (s.serve h opcode need body).img = s.img :=
  keep_serve (·.img) s h opcode need body (by simp) (by simp) (fun _ _ => rfl) hb
@[simp] theorem serve_ixl (s : State) (h : CmdHdr) (opcode : Nat) (need : Option Role) (body : State → State)
    (hb : ∀ s, (body s).ixl = s.ixl) : (s.serve h opcode need body).ixl = s.ixl :=
  keep_serve (·.ixl) s h opcode need body (by simp) (by simp) (fun _ _ => rfl) hb
@[simp] theorem serve_sheets (s : State) (h : CmdHdr) (opcode : Nat) (need : Option Role) (body : State → State)
    (hb : ∀ s, (body s).sheets = s.sheets) : (s.serve h opcode need body).sheets = s.sheets :=
  keep_serve (·.sheets) s h opcode need body (by simp) (by simp) (fun _ _ => rfl) hb
@[simp] theorem serve_mode (s : State) (h : CmdHdr) (opcode : Nat) (need : Option Role) (body : State → State)
    (hb : ∀ s, (body s).mod.mode = s.mod.mode) : (s.serve h opcode need body).mod.mode = s.mod.mode :=
  keep_serve (·.mod.mode) s h opcode need body (by simp) (by simp) (fun _ _ => rfl) hb
@[simp] theorem serve_sealed (s : State) (h : CmdHdr) (opcode : Nat) (need : Option Role) (body : State → State)
    (hb : ∀ s, (body s).mod.sealed = s.mod.sealed) : (s.serve h opcode need body).mod.sealed = s.mod.sealed :=
  keep_serve (·.mod.sealed) s h opcode need body (by simp) (by simp) (fun _ _ => rfl) hb
theorem serve_kept (s : State) (h : CmdHdr) (opcode : Nat) (need : Option Role) (body : State → State)
    (hb : ∀ s, ModuleKept (body s) s) : ModuleKept (s.serve h opcode need body) s :=
  ⟨serve_mod s h opcode need body fun s => (hb s).1, serve_acc s h opcode need body fun s => (hb s).2.1,
   serve_img s h opcode need body fun s => (hb s).2.2.1, serve_ixl s h opcode need body fun s => (hb s).2.2.2.1,
   serve_sheets s h opcode need body fun s => (hb s).2.2.2.2⟩

/-! ### Modes -/

@[simp] theorem loseModeRequest_sealed (s : State) : (s.loseModeRequest).mod.sealed = s.mod.sealed := by
  unfold State.loseModeRequest
  (repeat' split) <;> simp

@[simp] theorem enterSafe_sealed (s : State) (trigger : Nat) : (s.enterSafe trigger).mod.sealed = s.mod.sealed := by
  simp [State.enterSafe]

@[simp] theorem leaveVote_sealed (s : State) (l : Lane) (cause sub : Nat) : (s.leaveVote l cause sub).mod.sealed = s.mod.sealed := by
  unfold State.leaveVote
  dsimp only
  (repeat' split) <;> simp

@[simp] theorem leaveAll_sealed (s : State) (ls : LaneSet) (cause sub : Nat) : (s.leaveAll ls cause sub).mod.sealed = s.mod.sealed :=
  forLanes_sealed _ (fun s l => leaveVote_sealed s l cause sub) ls s

/-! ### The start of the network -/

@[simp] theorem enterIntegrate_keeps (s : State) (trigger : Nat) : On (s.enterIntegrate trigger) fun t =>
    t.mod.sealed = s.mod.sealed ∧ t.img = s.img := by
  simp [On, State.enterIntegrate]

@[simp] theorem setCond_sealed (s : State) (c : Cond) (reason : Nat) : (s.setCond c reason).mod.sealed = s.mod.sealed := by
  unfold State.setCond
  (repeat' split) <;> simp

@[simp] theorem digestDiffers_sealed (s : State) : (s.digestDiffers).mod.sealed = s.mod.sealed := by
  simp [State.digestDiffers]

@[simp] theorem judgeLevels_sealed (s : State) : (s.judgeLevels).mod.sealed = s.mod.sealed := by
  unfold State.judgeLevels
  dsimp only
  (repeat' split) <;> simp

@[simp] theorem enterOperate_sealed (s : State) : (s.enterOperate).mod.sealed = s.mod.sealed := by
  simp [State.enterOperate]

/-! ### Power, start-up and DORMANT -/

@[simp] theorem vinAppliedOp_sealed (mv : Nat) (s : State) : (vinAppliedOp mv s).mod.sealed = s.mod.sealed := by
  unfold vinAppliedOp
  (repeat' split) <;> simp

@[simp] theorem vinRestoredOp_sealed (mv : Nat) (s : State) : (vinRestoredOp mv s).mod.sealed = s.mod.sealed := by
  unfold vinRestoredOp
  (repeat' split) <;> simp

@[simp] theorem inputCutOffOp_sealed (mv : Nat) (s : State) : (inputCutOffOp mv s).mod.sealed = s.mod.sealed := by
  unfold inputCutOffOp
  (repeat' split) <;> simp

@[simp] theorem inputCutOffClosedOp_sealed (mv : Nat) (s : State) : (inputCutOffClosedOp mv s).mod.sealed = s.mod.sealed := by
  unfold inputCutOffClosedOp
  (repeat' split) <;> simp

@[simp] theorem resetReleaseOp_sealed (a b c : StrapSample) (s : State) : (resetReleaseOp a b c s).mod.sealed = s.mod.sealed := by
  unfold resetReleaseOp
  dsimp only
  (repeat' split) <;> simp

@[simp] theorem railFaultOp_sealed (rail : Rail) (l : Lane) (mv : Nat) (s : State) :
    (railFaultOp rail l mv s).mod.sealed = s.mod.sealed := by
  unfold railFaultOp
  dsimp only
  (repeat' split) <;> simp

/-- An image that boots is the only thing that the choice of the boot slot changes. -/
theorem bootImage_keeps (s t : State) (h : s.bootImage = some t) : t.mod = s.mod ∧ t.ixl = s.ixl ∧ t.sheets = s.sheets := by
  simp only [State.bootImage] at h
  split at h
  · cases h; exact ⟨rfl, rfl, rfl⟩
  · split at h
    · cases h; simp
    · cases h

@[simp] theorem romBootCompleteOp_keeps (romOk : LaneSet) (s : State) : On (romBootCompleteOp romOk s) fun t =>
    t.mod.sealed = s.mod.sealed ∧ t.ixl = s.ixl ∧ t.sheets = s.sheets := by
  unfold On romBootCompleteOp
  extract_lets s1 src
  have kept : s1.mod = s.mod ∧ s1.ixl = s.ixl ∧ s1.sheets = s.sheets := by
    refine ⟨forLanes_mod _ ?_ _ s, forLanes_ixl _ ?_ _ s, forLanes_sheets _ ?_ _ s⟩ <;> (intro s l; split <;> simp)
  clear_value s1
  split
  · split
    · simp [src, kept]
    · split
      next s2 booted =>
        obtain ⟨hm, hi, hs⟩ := bootImage_keeps s1 s2 booted
        simp [hm, hi, hs, kept]
      next => simp [src, kept]
  · simp

@[simp] theorem selftestCompleteOp_sealed (tests : PerLane StartTest) (vrd : VrdCheck) (s : State) :
    (selftestCompleteOp tests vrd s).mod.sealed = s.mod.sealed := by
  unfold selftestCompleteOp
  dsimp only
  (repeat' split) <;> simp

@[simp] theorem startLevel_sealed (s : State) (l : Lane) : (s.startLevel l).mod.sealed = s.mod.sealed := by
  unfold State.startLevel
  dsimp only
  (repeat' split) <;> simp

@[simp] theorem imageCheckOp_sealed (loadOk reloadOk : LaneSet) (s : State) :
    (imageCheckOp loadOk reloadOk s).mod.sealed = s.mod.sealed := by
  unfold imageCheckOp
  dsimp only
  (repeat' split) <;> simp

@[simp] theorem loadedConditionsMetOp_keeps (s : State) : On (loadedConditionsMetOp s) fun t =>
    t.mod.sealed = s.mod.sealed ∧ t.img = s.img := by
  unfold On loadedConditionsMetOp
  (repeat' split) <;> simp

@[simp] theorem integrationCompleteOp_sealed (s : State) : (integrationCompleteOp s).mod.sealed = s.mod.sealed := by
  unfold integrationCompleteOp
  dsimp only
  (repeat' split) <;> simp

@[simp] theorem degradedExpire_sealed (s : State) : (degradedExpire s).mod.sealed = s.mod.sealed := by
  unfold degradedExpire
  (repeat' split) <;> simp

@[simp] theorem degradedRestoreOp_sealed (s : State) : (degradedRestoreOp s).mod.sealed = s.mod.sealed := by
  unfold degradedRestoreOp
  (repeat' split) <;> simp

@[simp] theorem dormantEntryCompleteOp_keeps (ms : Nat) (s : State) : On (dormantEntryCompleteOp ms s) fun t =>
    t.mod.mode = s.mod.mode ∧ t.mod.sealed = s.mod.sealed ∧ t.acc = s.acc ∧ t.img = s.img ∧ t.ixl = s.ixl ∧ t.sheets = s.sheets := by
  unfold On dormantEntryCompleteOp
  (repeat' split) <;> simp

@[simp] theorem wakeCompleteOp_sealed (hashOk blocksOk formed : LaneSet) (s : State) :
    (wakeCompleteOp hashOk blocksOk formed s).mod.sealed = s.mod.sealed := by
  unfold wakeCompleteOp
  dsimp only
  (repeat' split) <;> simp

/-! ### Clocks and the governor -/

@[simp] theorem edgeSelect_sealed (s : State) : (s.edgeSelect).mod.sealed = s.mod.sealed := by
  unfold State.edgeSelect
  (repeat' split) <;> simp

@[simp] theorem failClock_sealed (s : State) (l : Lane) : (s.failClock l).mod.sealed = s.mod.sealed := by
  simp [State.failClock]

@[simp] theorem enterHold_sealed (s : State) (l : Lane) : (s.enterHold l).mod.sealed = s.mod.sealed := by
  unfold State.enterHold
  dsimp only
  (repeat' split) <;> simp

@[simp] theorem clockTrip_sealed (s : State) (l : Lane) : (s.clockTrip l).mod.sealed = s.mod.sealed := by
  unfold State.clockTrip
  dsimp only
  (repeat' split) <;> simp

@[simp] theorem oscillatorUnstableOp_sealed (l : Lane) (osc : Osc) (s : State) :
    (oscillatorUnstableOp l osc s).mod.sealed = s.mod.sealed := by
  unfold oscillatorUnstableOp
  dsimp only
  (repeat' split) <;> simp

@[simp] theorem monitorWindowOp_sealed (l : Lane) (count : Nat) (s : State) : (monitorWindowOp l count s).mod.sealed = s.mod.sealed := by
  unfold monitorWindowOp
  (repeat' split) <;> simp

@[simp] theorem holdTimeoutOp_sealed (l : Lane) (s : State) : (holdTimeoutOp l s).mod.sealed = s.mod.sealed := by
  unfold holdTimeoutOp
  dsimp only
  (repeat' split) <;> simp

@[simp] theorem stallOp_sealed (l : Lane) (crossing : Nat) (addr : BitVec 36) (s : State) :
    (stallOp l crossing addr s).mod.sealed = s.mod.sealed := by
  unfold stallOp
  (repeat' split) <;> simp

@[simp] theorem canaryOp_sealed (l : Lane) (speed : Nat) (s : State) : (canaryOp l speed s).mod.sealed = s.mod.sealed := by
  unfold canaryOp
  dsimp only
  (repeat' split) <;> simp

@[simp] theorem railGoodTimeoutOp_sealed (l : Lane) (s : State) : (railGoodTimeoutOp l s).mod.sealed = s.mod.sealed := by
  unfold railGoodTimeoutOp
  (repeat' split) <;> simp

/-! ### Ticks and the accord -/

@[simp] theorem overrun_sealed (s : State) (l : Lane) : (s.overrun l).mod.sealed = s.mod.sealed := by
  simp [State.overrun]

@[simp] theorem engineCheck_sealed (s : State) : (s.engineCheck).mod.sealed = s.mod.sealed := by
  unfold State.engineCheck
  dsimp only
  simp

@[simp] theorem tickDeadlineOp_sealed (l : Lane) (s : State) : (tickDeadlineOp l s).mod.sealed = s.mod.sealed := by
  unfold tickDeadlineOp
  (repeat' split) <;> simp

@[simp] theorem passTick_sealed (s : State) : (s.passTick).mod.sealed = s.mod.sealed := by
  simp [State.passTick]

@[simp] theorem fixVote_sealed (s : State) (table : PerLane LaneSet) : (s.fixVote table).mod.sealed = s.mod.sealed := by
  unfold State.fixVote
  extract_lets was late onTime lone s1 s2 s3 src
  have kept : s1.mod.sealed = s.mod.sealed := forLanes_sealed _ overrun_sealed late s
  split
  · refine Eq.trans (forLanes_sealed _ (fun s l => ?_) _ s1) kept
    split <;> simp
  · have kept2 : s2.mod.sealed = s1.mod.sealed := forLanes_sealed _ (fun s l => by simp) lone s1
    simp [s3, kept, kept2]

@[simp] theorem tick0_sealed (s : State) (clock : PerLane (BitVec 64)) : (s.tick0 clock).mod.sealed = s.mod.sealed := by
  unfold State.tick0
  dsimp only
  (repeat' split) <;> simp

@[simp] theorem tickBoundaryOp_sealed (marks views : PerLane LaneSet) (clock : PerLane (BitVec 64)) (s : State) :
    (tickBoundaryOp marks views clock s).mod.sealed = s.mod.sealed := by
  unfold tickBoundaryOp
  dsimp only
  (repeat' split) <;> simp

@[simp] theorem rxMismatch_sealed (s : State) (l : Lane) (x : Nat × Nat × Nat) : (s.rxMismatch l x).mod.sealed = s.mod.sealed := by
  unfold State.rxMismatch
  dsimp only
  (repeat' split) <;> simp

theorem rxMismatches_sealed (s : State) (m : Lane) (l : List (Nat × Nat × Nat)) :
    (s.each l fun s x => if s.laneSt m = .voting then s.rxMismatch m x else s).mod.sealed = s.mod.sealed :=
  each_sealed _ (fun s x => by split <;> simp) l s

@[simp] theorem accordedSetOp_sealed (received : PerLane LaneSet) (s : State) :
    (accordedSetOp received s).mod.sealed = s.mod.sealed := by
  unfold accordedSetOp
  split
  · extract_lets voting lost props set computed due src s1
    split
    · rfl
    · next a _ => exact each_sealed _ (fun s p => by simpa using rxMismatches_sealed s p.lane (mismatches a p)) _ s1
  · rfl

@[simp] theorem fetchTimeoutOp_sealed (l : Lane) (s : State) : (fetchTimeoutOp l s).mod.sealed = s.mod.sealed := by
  unfold fetchTimeoutOp
  (repeat' split) <;> simp

@[simp] theorem tenderInput_sealed (s : State) (a : Accorded) : (s.tenderInput a).mod.sealed = s.mod.sealed := by
  unfold State.tenderInput
  (repeat' split) <;> simp

@[simp] theorem closeWith_sealed (s : State) (v : LaneSet) (a : Accorded) (units : Nat) :
    (s.closeWith v a units).mod.sealed = s.mod.sealed := by
  simp [State.closeWith]

@[simp] theorem inputAccordOp_sealed (sent : LaneSet) (wrong : PerLane (BitVec 64)) (units : Nat) (s : State) :
    (inputAccordOp sent wrong units s).mod.sealed = s.mod.sealed := by
  unfold inputAccordOp
  dsimp only
  (repeat' split) <;> simp

/-! ### The arbiters -/

@[simp] theorem forceRelease_sealed (s : State) (l : Lane) (p : MemPort) (kind : Nat) :
    (s.forceRelease l p kind).mod.sealed = s.mod.sealed := by
  simp [State.forceRelease]

@[simp] theorem arbiterOp_sealed (l : Lane) (p : MemPort) (idle : Nat) (present : List ArbRequest) (s0 : State) :
    (arbiterOp l p idle present s0).mod.sealed = s0.mod.sealed := by
  unfold arbiterOp
  dsimp only
  (repeat' split) <;> simp

@[simp] theorem lockOverrunOp_sealed (l : Lane) (p : MemPort) (s : State) : (lockOverrunOp l p s).mod.sealed = s.mod.sealed := by
  unfold lockOverrunOp
  dsimp only
  (repeat' split) <;> simp

@[simp] theorem lockIdleOp_sealed (l : Lane) (p : MemPort) (s : State) : (lockIdleOp l p s).mod.sealed = s.mod.sealed := by
  unfold lockIdleOp
  (repeat' split) <;> simp

/-! ### Station commands -/

@[simp] theorem decodeAll_keeps (s : State) (l : List VitalCmd) : On (s.decodeAll l).1 fun t =>
    t.mod = s.mod ∧ t.acc = s.acc ∧ t.img = s.img := by
  refine List.foldlRecOn (motive := fun (a : State × List Decoded) => a.1.mod = s.mod ∧ a.1.acc = s.acc ∧ a.1.img = s.img) l _ ⟨rfl, rfl, rfl⟩ ?_
  rintro a ⟨hm, ha, hi⟩ c -
  simp [hm, ha, hi]

@[simp] theorem settleAll_keeps (s : State) (l : List Decoded) (answers : List (Origin × Nat)) : On (s.settleAll l answers).1 fun t =>
    t.mod = s.mod ∧ t.acc = s.acc ∧ t.img = s.img := by
  refine List.foldlRecOn (motive := fun (a : State × List Judged) => a.1.mod = s.mod ∧ a.1.acc = s.acc ∧ a.1.img = s.img) l _ ⟨rfl, rfl, rfl⟩ ?_
  rintro a ⟨hm, ha, hi⟩ d -
  simp [hm, ha, hi]

@[simp] theorem judgeAlone_keeps (s : State) (c : VitalCmd) : On (s.judgeAlone c) fun t =>
    t.mod = s.mod ∧ t.acc = s.acc ∧ t.img = s.img := by
  simp [On, State.judgeAlone]

@[simp] theorem stationOp_keeps (h : CmdHdr) (opcode target action step : Nat) (token : Word) (s : State) :
    On (stationOp h opcode target action step token s) fun t => t.mod = s.mod ∧ t.acc = s.acc ∧ t.img = s.img := by
  simp [On, stationOp]

/-! ### Supervisors -/

@[simp] theorem stopStrobeOp_keeps (strobes : LaneSet) (s : State) : ModuleKept (stopStrobeOp strobes s) s := by
  unfold stopStrobeOp
  dsimp only
  split
  · split
    · exact each_kept _ (fun s n => by (repeat' split) <;> simp) _ s
    · simp
  · simp

/-! ### The cycle evaluation -/

@[simp] theorem decodeCycle_keeps (s : State) : On s.decodeCycle.1 fun t => t.mod = s.mod ∧ t.acc = s.acc ∧ t.img = s.img := by
  unfold On State.decodeCycle
  dsimp only
  (repeat' split) <;> simp

@[simp] theorem cycleEvaluationOp_keeps (s : State) : On (cycleEvaluationOp s) fun t => t.mod = s.mod ∧ t.img = s.img := by
  unfold On cycleEvaluationOp
  dsimp only
  (repeat' split) <;> simp

@[simp] theorem routeEngineOp_sealed (l : Lane) (us steps : Nat) (faults : List ItemFault) (s : State) :
    (routeEngineOp l us steps faults s).mod.sealed = s.mod.sealed := by
  unfold routeEngineOp
  dsimp only
  (repeat' split) <;> simp

/-! ### Outputs -/

@[simp] theorem shadowCompare_sealed (s : State) : (s.shadowCompare).mod.sealed = s.mod.sealed := by
  unfold State.shadowCompare
  (repeat' split) <;> simp

@[simp] theorem stage_sealed (s : State) (v : LaneSet) : (s.stage v).mod.sealed = s.mod.sealed := by
  simp [State.stage]

@[simp] theorem outAccord_sealed (s : State) (sent : LaneSet) (wrong : PerLane (BitVec 64)) :
    (s.outAccord sent wrong).mod.sealed = s.mod.sealed := by
  unfold State.outAccord
  dsimp only
  (repeat' split) <;> simp

@[simp] theorem outputAccordOp_sealed (sent : LaneSet) (wrong : PerLane (BitVec 64)) (units : Nat) (s : State) :
    (outputAccordOp sent wrong units s).mod.sealed = s.mod.sealed := by
  unfold outputAccordOp
  dsimp only
  (repeat' split) <;> simp

/-! ### The refresh and the self-test slice -/

@[simp] theorem reportMinority_sealed (s : State) (ch : Nat) (l : Lane) : (s.reportMinority ch l).mod.sealed = s.mod.sealed := by
  unfold State.reportMinority
  dsimp only
  (repeat' split) <;> simp

@[simp] theorem voteRefreshOp_sealed (sense : List SenseReading) (groups : List GroupReading) (s : State) :
    (voteRefreshOp sense groups s).mod.sealed = s.mod.sealed := by
  unfold voteRefreshOp
  split
  · extract_lets voting refresh s1 s2 s2' s3 chs s4 s5
    have kept : s5.mod.sealed = s.mod.sealed := by simp [s5, s4, s3, s2', s2, s1]
    refine Eq.trans (each_sealed _ (fun s p => forLanes_sealed _ (fun s l => ?_) _ s) _ s5) kept
    split <;> simp
  · rfl

@[simp] theorem runSlice_sealed (s : State) (l : Lane) (misr : BitVec 64) (passSeconds : Nat) (again : Bool) :
    (s.runSlice l misr passSeconds again).mod.sealed = s.mod.sealed := by
  unfold State.runSlice
  dsimp only
  (repeat' split) <;> simp

@[simp] theorem selftestSliceOp_sealed (misr : PerLane (BitVec 64)) (passSeconds : Nat) (s : State) :
    (selftestSliceOp misr passSeconds s).mod.sealed = s.mod.sealed := by
  unfold selftestSliceOp
  dsimp only
  (repeat' split) <;> simp

/-! ### Network time and start -/

@[simp] theorem loneClock_sealed (s : State) (l : Lane) : (s.loneClock l).mod.sealed = s.mod.sealed := by
  unfold State.loneClock
  dsimp only
  (repeat' split) <;> simp

@[simp] theorem roundStartOp_sealed (round : Word) (devs : PerLane (List (Nat × Int))) (roundTrip : Option Nat) (s : State) :
    (roundStartOp round devs roundTrip s).mod.sealed = s.mod.sealed := by
  unfold roundStartOp
  dsimp only
  (repeat' split) <;> simp

@[simp] theorem coldRoundsCompleteOp_sealed (s : State) : (coldRoundsCompleteOp s).mod.sealed = s.mod.sealed := by
  unfold coldRoundsCompleteOp
  (repeat' split) <;> simp

@[simp] theorem loseLead_sealed (s : State) (higher : Word) : (s.loseLead higher).mod.sealed = s.mod.sealed := by
  unfold State.loseLead
  (repeat' split) <;> simp

@[simp] theorem abandonedOp_sealed (otherClaim : Word) (s : State) : (abandonedOp otherClaim s).mod.sealed = s.mod.sealed := by
  unfold abandonedOp
  dsimp only
  (repeat' split) <;> simp

/-! ### The hub -/

@[simp] theorem flagTx_sealed (s : State) (l : Lane) : (s.flagTx l).mod.sealed = s.mod.sealed := by
  unfold State.flagTx
  dsimp only
  (repeat' split) <;> simp

@[simp] theorem voteSlot_sealed (s : State) (node : Nat) (d : NodeDef) (slot : Nat) (faults : PerLane (List (Nat × Byte))) :
    (s.voteSlot node d slot faults).mod.sealed = s.mod.sealed := by
  unfold State.voteSlot
  dsimp only
  (repeat' split) <;> simp

@[simp] theorem slotVoteOp_sealed (node : Nat) (faults : PerLane (List (Nat × Byte))) (s : State) :
    (slotVoteOp node faults s).mod.sealed = s.mod.sealed := by
  unfold slotVoteOp
  (repeat' split) <;> simp

@[simp] theorem decideClaim_keeps (s : State) (port id : Nat) (digest : List Byte) : On (s.decideClaim port id digest) fun t =>
    t.mod = s.mod ∧ t.img = s.img ∧ t.ixl = s.ixl ∧ t.sheets = s.sheets := by
  unfold On State.decideClaim
  (repeat' split) <;> simp

/-! ### Reception -/

@[simp] theorem useFrame_keeps (s : State) (port slot : Nat) (w : Word) (dest : Nat) (bytes : List Byte) (owner : Option (Nat × NodeDef)) :
    On (s.useFrame port slot w dest bytes owner) fun t => t.mod = s.mod ∧ t.img = s.img ∧ t.ixl = s.ixl ∧ t.sheets = s.sheets := by
  unfold On State.useFrame
  (repeat' split) <;> simp

@[simp] theorem busReceive_keeps (s : State) (port slot : Nat) (whole : Bool) (bytes : List Byte) :
    On (s.busReceive port slot whole bytes) fun t => t.mod = s.mod ∧ t.img = s.img ∧ t.ixl = s.ixl ∧ t.sheets = s.sheets := by
  unfold On State.busReceive
  dsimp only
  (repeat' split) <;> simp

@[simp] theorem hubReceive_keeps (s : State) (port slot sofNs endNs : Nat) (codeError : Bool) (bytes : List Byte) :
    On (s.hubReceive port slot sofNs endNs codeError bytes) fun t => t.mod = s.mod ∧ t.img = s.img ∧ t.ixl = s.ixl ∧ t.sheets =
    s.sheets := by
  unfold On State.hubReceive
  dsimp only
  (repeat' split) <;> simp

@[simp] theorem frameReceivedOp_keeps (port slot sofNs endNs : Nat) (codeError : Bool) (behind : LaneSet) (bytes : List Byte) (s : State) :
    On (frameReceivedOp port slot sofNs endNs codeError behind bytes s) fun t => t.mod = s.mod ∧ t.img = s.img ∧ t.ixl = s.ixl ∧ t.sheets =
    s.sheets := by
  simp [On, frameReceivedOp]

@[simp] theorem claimReceivedOp_keeps (port : Nat) (bytes : List Byte) (s : State) : On (claimReceivedOp port bytes s) fun t =>
    t.mod = s.mod ∧ t.img = s.img ∧ t.ixl = s.ixl ∧ t.sheets = s.sheets := by
  unfold On claimReceivedOp
  (repeat' split) <;> simp

/-! ### Field channels -/

@[simp] theorem shed_keeps (s : State) (ma : List Nat) (n : Nat) : ModuleKept (s.shed ma n) s := by
  induction n generalizing s ma with
  | zero => simp [State.shed]
  | succ n ih =>
    unfold State.shed
    dsimp only
    (repeat' split) <;> simp [ih]

@[simp] theorem moduleOverloadOp_keeps (groupMa : List Nat) (s : State) : ModuleKept (moduleOverloadOp groupMa s) s := by
  simp [moduleOverloadOp]

/-! ### Queries and maintenance -/

@[simp] theorem routeQueryOp_keeps (h : CmdHdr) (r : Nat) (s : State) : ModuleKept (routeQueryOp h r s) s :=
  serve_kept _ _ _ _ _ fun s => by (repeat' split) <;> simp

@[simp] theorem elementQueryOp_keeps (h : CmdHdr) (o : Nat) (s : State) : ModuleKept (elementQueryOp h o s) s :=
  serve_kept _ _ _ _ _ fun s => by (repeat' split) <;> simp

@[simp] theorem statusModuleOp_keeps (h : CmdHdr) (s : State) : ModuleKept (statusModuleOp h s) s := by
  simp [statusModuleOp]

@[simp] theorem subscribeOp_keeps (h : CmdHdr) (id kind first count mask : Nat) (s : State) :
    ModuleKept (subscribeOp h id kind first count mask s) s := by
  simp [subscribeOp]

@[simp] theorem unsubscribeOp_keeps (h : CmdHdr) (id : Nat) (s : State) : ModuleKept (unsubscribeOp h id s) s := by
  simp [unsubscribeOp]

@[simp] theorem snapshotCopyOp_keeps (h : CmdHdr) (count offset : Nat) (s : State) : ModuleKept (snapshotCopyOp h count offset s) s :=
  serve_kept _ _ _ _ _ fun s => by (repeat' split) <;> simp

@[simp] theorem snapshotReadOp_keeps (h : CmdHdr) (count offset : Nat) (s : State) : ModuleKept (snapshotReadOp h count offset s) s :=
  serve_kept _ _ _ _ _ fun s => by (repeat' split) <;> simp

@[simp] theorem timeCorrelateOp_keeps (h : CmdHdr) (utc ns net : Nat) (s : State) : ModuleKept (timeCorrelateOp h utc ns net s) s := by
  simp [timeCorrelateOp]

@[simp] theorem timeQueryOp_keeps (h : CmdHdr) (s : State) : ModuleKept (timeQueryOp h s) s := by
  simp [timeQueryOp]

@[simp] theorem sessionChallengeOp_keeps (h : CmdHdr) (role : Nat) (s : State) : ModuleKept (sessionChallengeOp h role s) s := by
  unfold ModuleKept sessionChallengeOp
  dsimp only
  (repeat' split) <;> simp

@[simp] theorem sessionOpenOp_keeps (h : CmdHdr) (slot role : Nat) (nonce sig : List Byte) (s : State) :
    ModuleKept (sessionOpenOp h slot role nonce sig s) s := by
  unfold ModuleKept sessionOpenOp
  dsimp only
  (repeat' split) <;> simp

@[simp] theorem sessionCloseOp_keeps (h : CmdHdr) (role : Nat) (s : State) : On (sessionCloseOp h role s) fun t =>
    t.mod = s.mod ∧ t.acc = s.acc ∧ t.img = s.img ∧ t.sheets = s.sheets := by
  refine ⟨serve_mod _ _ _ _ _ ?_, serve_acc _ _ _ _ _ ?_, serve_img _ _ _ _ _ ?_, serve_sheets _ _ _ _ _ ?_⟩ <;>
    (intro s; (repeat' split) <;> simp)

@[simp] theorem modeRequestOp_keeps (h : CmdHdr) (m : Mode) (s : State) : On (modeRequestOp h m s) fun t =>
    t.mod.mode = s.mod.mode ∧ t.mod.sealed = s.mod.sealed ∧ t.acc = s.acc ∧ t.img = s.img ∧ t.ixl = s.ixl ∧ t.sheets = s.sheets := by
  unfold On modeRequestOp
  split
  · simp
  · refine ⟨serve_mode _ _ _ _ _ ?_, serve_sealed _ _ _ _ _ ?_, serve_acc _ _ _ _ _ ?_, serve_img _ _ _ _ _ ?_, serve_ixl _ _ _ _ _ ?_,
      serve_sheets _ _ _ _ _ ?_⟩ <;>
      (intro s; dsimp only; (repeat' split) <;> simp)

@[simp] theorem selftestQueryOp_keeps (h : CmdHdr) (s : State) : ModuleKept (selftestQueryOp h s) s := by
  simp [selftestQueryOp]

@[simp] theorem regReadOp_keeps (h : CmdHdr) (addr count : Nat) (s : State) : ModuleKept (regReadOp h addr count s) s := by
  simp [regReadOp]

@[simp] theorem sealFuseStep1Op_keeps (h : CmdHdr) (op slot : Nat) (s : State) : On (sealFuseStep1Op h op slot s) fun t =>
    t.mod = s.mod ∧ t.acc = s.acc ∧ t.img = s.img ∧ t.sheets = s.sheets := by
  refine ⟨serve_mod _ _ _ _ _ ?_, serve_acc _ _ _ _ _ ?_, serve_img _ _ _ _ _ ?_, serve_sheets _ _ _ _ _ ?_⟩ <;>
    (intro s; (repeat' split) <;> simp)

@[simp] theorem sealFuseStep2Op_keeps (h : CmdHdr) (op slot : Nat) (token : Word) (s : State) : On (sealFuseStep2Op h op slot token s) fun t =>
    t.mod = s.mod ∧ t.acc = s.acc ∧ t.sheets = s.sheets := by
  refine ⟨serve_mod _ _ _ _ _ ?_, serve_acc _ _ _ _ _ ?_, serve_sheets _ _ _ _ _ ?_⟩ <;>
    (intro s; (repeat' split) <;> simp)

@[simp] theorem withheldClearOp_keeps (h : CmdHdr) (r : Nat) (s : State) : On (withheldClearOp h r s) fun t =>
    t.mod = s.mod ∧ t.acc = s.acc ∧ t.img = s.img ∧ t.sheets = s.sheets := by
  simp [On, withheldClearOp]

@[simp] theorem perfConfigOp_keeps (h : CmdHdr) (c : PerfConfig) (s : State) : ModuleKept (perfConfigOp h c s) s := by
  simp [perfConfigOp]

@[simp] theorem perfReadOp_keeps (h : CmdHdr) (s : State) : ModuleKept (perfReadOp h s) s := by
  simp [perfReadOp]

@[simp] theorem perfSamplesOp_keeps (h : CmdHdr) (start count : Nat) (s : State) : ModuleKept (perfSamplesOp h start count s) s := by
  simp [perfSamplesOp]

/-! ### Network, redundancy and field commands -/

@[simp] theorem netStatusOp_keeps (h : CmdHdr) (select channel first count : Nat) (s : State) :
    ModuleKept (netStatusOp h select channel first count s) s := by
  simp [netStatusOp]

@[simp] theorem netPortControlOp_keeps (h : CmdHdr) (port action : Nat) (s : State) : ModuleKept (netPortControlOp h port action s) s := by
  simp [netPortControlOp]

@[simp] theorem netBankWriteOp_keeps (h : CmdHdr) (port first : Nat) (entries : List Word) (s : State) : ModuleKept (netBankWriteOp h port first entries s) s :=
  serve_kept _ _ _ _ _ fun s => by (repeat' split) <;> simp

@[simp] theorem netBankSwitchOp_keeps (h : CmdHdr) (round crc : Word) (s : State) : ModuleKept (netBankSwitchOp h round crc s) s := by
  simp [netBankSwitchOp]

@[simp] theorem netPolicyOp_keeps (h : CmdHdr) (enable : Nat) (s : State) : ModuleKept (netPolicyOp h enable s) s := by
  simp [netPolicyOp]

@[simp] theorem redStatusOp_keeps (h : CmdHdr) (s : State) : ModuleKept (redStatusOp h s) s := by
  simp [redStatusOp]

@[simp] theorem switchoverStep1Op_keeps (h : CmdHdr) (s : State) : On (switchoverStep1Op h s) fun t =>
    t.mod = s.mod ∧ t.acc = s.acc ∧ t.img = s.img ∧ t.sheets = s.sheets := by
  simp [On, switchoverStep1Op]

@[simp] theorem switchoverStep2Op_keeps (h : CmdHdr) (token : Word) (s : State) : On (switchoverStep2Op h token s) fun t =>
    t.mod = s.mod ∧ t.acc = s.acc ∧ t.img = s.img ∧ t.sheets = s.sheets := by
  simp [On, switchoverStep2Op]

@[simp] theorem laneResyncOp_keeps (h : CmdHdr) (lane : Nat) (s : State) : ModuleKept (laneResyncOp h lane s) s := by
  unfold ModuleKept laneResyncOp
  (repeat' split) <;> simp

@[simp] theorem tenderEnableOp_keeps (h : CmdHdr) (enable : Nat) (s : State) : ModuleKept (tenderEnableOp h enable s) s := by
  simp [tenderEnableOp]

@[simp] theorem ioStatusOp_keeps (h : CmdHdr) (first count : Nat) (s : State) : ModuleKept (ioStatusOp h first count s) s := by
  simp [ioStatusOp]

@[simp] theorem ioTestConfigOp_keeps (h : CmdHdr) (ch action value : Nat) (s : State) :
    ModuleKept (ioTestConfigOp h ch action value s) s := by
  simp [ioTestConfigOp]

@[simp] theorem ioForceOp_keeps (h : CmdHdr) (ch value duration : Nat) (s : State) : ModuleKept (ioForceOp h ch value duration s) s := by
  simp [ioForceOp]

@[simp] theorem dbgStatusOp_keeps (h : CmdHdr) (s : State) : ModuleKept (dbgStatusOp h s) s := by
  simp [dbgStatusOp]

/-! ### The recorder and the housekeeper -/

@[simp] theorem recReadOp_keeps (h : CmdHdr) (index count : Nat) (s : State) : ModuleKept (recReadOp h index count s) s := by
  simp [recReadOp]

@[simp] theorem silReadOp_keeps (h : CmdHdr) (index count : Nat) (s : State) : ModuleKept (silReadOp h index count s) s := by
  simp [silReadOp]

@[simp] theorem recFreezeOp_keeps (h : CmdHdr) (s : State) : ModuleKept (recFreezeOp h s) s := by
  simp [recFreezeOp]

@[simp] theorem recThawOp_keeps (h : CmdHdr) (s : State) : ModuleKept (recThawOp h s) s := by
  simp [recThawOp]

@[simp] theorem freezeTimeoutOp_keeps (s : State) : ModuleKept (freezeTimeoutOp s) s := by
  simp [freezeTimeoutOp]

@[simp] theorem recClearStep1Op_keeps (h : CmdHdr) (upTo : Nat) (s : State) : On (recClearStep1Op h upTo s) fun t =>
    t.mod = s.mod ∧ t.acc = s.acc ∧ t.img = s.img ∧ t.sheets = s.sheets := by
  refine ⟨serve_mod _ _ _ _ _ ?_, serve_acc _ _ _ _ _ ?_, serve_img _ _ _ _ _ ?_, serve_sheets _ _ _ _ _ ?_⟩ <;>
    (intro s; (repeat' split) <;> simp)

@[simp] theorem recClearStep2Op_keeps (h : CmdHdr) (upTo : Nat) (token : Word) (s : State) : On (recClearStep2Op h upTo token s) fun t =>
    t.mod = s.mod ∧ t.acc = s.acc ∧ t.img = s.img ∧ t.sheets = s.sheets := by
  refine ⟨serve_mod _ _ _ _ _ ?_, serve_acc _ _ _ _ _ ?_, serve_img _ _ _ _ _ ?_, serve_sheets _ _ _ _ _ ?_⟩ <;>
    (intro s; (repeat' split) <;> simp)

@[simp] theorem silMarkOp_keeps (h : CmdHdr) (label : List Byte) (s : State) : ModuleKept (silMarkOp h label s) s := by
  simp [silMarkOp]

@[simp] theorem keyframeDueOp_keeps (s : State) : ModuleKept (keyframeDueOp s) s := by
  unfold ModuleKept keyframeDueOp
  dsimp only
  (repeat' split) <;> simp

@[simp] theorem stopRecording_keeps (s : State) : On (s.stopRecording) fun t =>
    t.mod.mode = s.mod.mode ∧ t.mod.sealed = s.mod.sealed ∧ t.acc = s.acc ∧ t.img = s.img ∧ t.ixl = s.ixl ∧ t.sheets = s.sheets := by
  simp [On, State.stopRecording]

@[simp] theorem heartbeatMissingOp_keeps (s : State) : On (heartbeatMissingOp s) fun t =>
    t.mod.mode = s.mod.mode ∧ t.mod.sealed = s.mod.sealed ∧ t.acc = s.acc ∧ t.img = s.img ∧ t.ixl = s.ixl ∧ t.sheets = s.sheets := by
  unfold On heartbeatMissingOp
  (repeat' split) <;> simp

@[simp] theorem housekeeperTimeoutOp_sealed (s : State) : (housekeeperTimeoutOp s).mod.sealed = s.mod.sealed := by
  unfold housekeeperTimeoutOp
  (repeat' split) <;> simp

@[simp] theorem operatingTimeOp_keeps (s : State) : ModuleKept (operatingTimeOp s) s := by
  simp [operatingTimeOp]

/-! ### The return of a lane -/

@[simp] theorem bogieMismatchOp_sealed (l : Lane) (s : State) : (bogieMismatchOp l s).mod.sealed = s.mod.sealed := by
  unfold bogieMismatchOp
  (repeat' split) <;> simp

@[simp] theorem imageReloadOp_keeps (l : Lane) (digestOk reloadOk : Bool) (s : State) : On (imageReloadOp l digestOk reloadOk s) fun t =>
    t.mod.mode = s.mod.mode ∧ t.mod.sealed = s.mod.sealed ∧ t.acc = s.acc ∧ t.img = s.img ∧ t.ixl = s.ixl ∧ t.sheets = s.sheets := by
  simp [On, imageReloadOp]

@[simp] theorem resyncTestOp_keeps (l : Lane) (passed : Bool) (s : State) : ModuleKept (resyncTestOp l passed s) s := by
  simp [resyncTestOp]

@[simp] theorem copyArmedOp_keeps (l : Lane) (s : State) : ModuleKept (copyArmedOp l s) s := by
  unfold ModuleKept copyArmedOp
  (repeat' split) <;> simp

@[simp] theorem copyBeforeWriteOp_keeps (m : Lane) (page : Nat) (s : State) : ModuleKept (copyBeforeWriteOp m page s) s := by
  simp [copyBeforeWriteOp]

@[simp] theorem copyCompleteOp_keeps (l : Lane) (senderHash : BitVec 64) (s : State) : On (copyCompleteOp l senderHash s) fun t =>
    t.mod = s.mod ∧ t.acc = s.acc ∧ t.img = s.img := by
  simp [On, copyCompleteOp]

@[simp] theorem catchUpOp_keeps (l : Lane) (s : State) : On (catchUpOp l s) fun t => t.mod.sealed = s.mod.sealed ∧ t.img = s.img := by
  unfold On catchUpOp
  dsimp only
  (repeat' split) <;> simp

@[simp] theorem catchUpTimeoutOp_keeps (l : Lane) (s : State) : ModuleKept (catchUpTimeoutOp l s) s := by
  simp [catchUpTimeoutOp]

@[simp] theorem probationOp_keeps (l : Lane) (s : State) : On (probationOp l s) fun t =>
    t.mod.mode = s.mod.mode ∧ t.mod.sealed = s.mod.sealed ∧ t.acc = s.acc ∧ t.img = s.img ∧ t.ixl = s.ixl ∧ t.sheets = s.sheets := by
  simp [On, probationOp]

@[simp] theorem resyncTimeoutOp_keeps (l : Lane) (s : State) : ModuleKept (resyncTimeoutOp l s) s := by
  simp [resyncTimeoutOp]

@[simp] theorem powerRecoveryOp_keeps (l : Lane) (s : State) : ModuleKept (powerRecoveryOp l s) s := by
  simp [powerRecoveryOp]

@[simp] theorem restartResyncs_keeps (s : State) : On (s.restartResyncs) fun t => t.mod = s.mod ∧ t.acc = s.acc ∧ t.ixl = s.ixl := by
  simp [On, State.restartResyncs]

/-! ### Memory and DMA -/

@[simp] theorem recordUncorrected_sealed (s : State) (l : Lane) (a : Nat) (requester : Option Nat) :
    (s.recordUncorrected l a requester).mod.sealed = s.mod.sealed := by
  simp [State.recordUncorrected]

@[simp] theorem eccUncorrectableOp_sealed (l : Lane) (requester : Option Nat) (a : Nat) (afterProposal isReply : Bool) (s : State) :
    (eccUncorrectableOp l requester a afterProposal isReply s).mod.sealed = s.mod.sealed := by
  unfold eccUncorrectableOp
  (repeat' split) <;> simp

@[simp] theorem eccCorrectedOp_keeps (l : Lane) (a : Nat) (s : State) : ModuleKept (eccCorrectedOp l a s) s := by
  simp [eccCorrectedOp]

@[simp] theorem scrubReadOp_sealed (l : Lane) (s : State) : (scrubReadOp l s).mod.sealed = s.mod.sealed := by
  unfold scrubReadOp
  dsimp only
  (repeat' split) <;> simp

@[simp] theorem strike_keeps (s : State) (site : FaultSite) : On (s.strike site) fun t =>
    t.mod = s.mod ∧ t.acc = s.acc ∧ t.img = s.img := by
  unfold On State.strike
  (repeat' split) <;> simp

@[simp] theorem translationFaultOp_keeps (l : Lane) (master : Master) (acc : Access) (va : Nat) (site : FaultSite) (s : State) :
    On (translationFaultOp l master acc va site s) fun t => t.mod = s.mod ∧ t.acc = s.acc ∧ t.img = s.img := by
  unfold On translationFaultOp
  dsimp only
  (repeat' split) <;> simp

@[simp] theorem tlbParityOp_keeps (l : Lane) (master vpn : Nat) (s : State) : ModuleKept (tlbParityOp l master vpn s) s := by
  simp [tlbParityOp]

@[simp] theorem guardFaultOp_keeps (l : Lane) (requester a : Nat) (s : State) : ModuleKept (guardFaultOp l requester a s) s := by
  simp [guardFaultOp]

/-- The bytes that a channel moves leave the module alone. -/
theorem dmaMove_keeps (s t : State) (l : Lane) (c upTo : Nat) (h : s.dmaMove l c upTo = some t) : ModuleKept t s := by
  simp only [State.dmaMove] at h
  split at h
  · cases h
  · cases h; simp

@[simp] theorem dmaMove_getD_keeps (s : State) (l : Lane) (c upTo : Nat) : ModuleKept ((s.dmaMove l c upTo).getD s) s := by
  cases h : s.dmaMove l c upTo with
  | none => simp
  | some t => exact dmaMove_keeps s t l c upTo h

@[simp] theorem dmaCompleteOp_keeps (l : Lane) (c : Nat) (s : State) : ModuleKept (dmaCompleteOp l c s) s := by
  unfold dmaCompleteOp
  dsimp only
  (repeat' split) <;> try simp
  rename_i t ht
  exact dmaMove_keeps s t l c _ ht

@[simp] theorem spoilTransfer_keeps (s : State) (l : Lane) (c : Nat) : On (s.spoilTransfer l c) fun t =>
    t.mod = s.mod ∧ t.ixl = s.ixl ∧ t.sheets = s.sheets := by
  unfold On State.spoilTransfer
  dsimp only
  (repeat' split) <;> simp

@[simp] theorem dmaFaultOp_keeps (l : Lane) (c cause va done : Nat) (write : Bool) (s : State) :
    On (dmaFaultOp l c cause va done write s) fun t => t.mod = s.mod ∧ t.ixl = s.ixl ∧ t.sheets = s.sheets := by
  simp [On, dmaFaultOp]

@[simp] theorem dmaSuspendedOp_keeps (l : Lane) (c done : Nat) (s : State) : ModuleKept (dmaSuspendedOp l c done s) s := by
  simp [dmaSuspendedOp]

/-! ### Logic sheets -/

@[simp] theorem runBlock_keeps (s : State) (task i : Nat) (d : BlockDef) : On (s.runBlock task i d) fun t =>
    t.mod = s.mod ∧ t.acc = s.acc ∧ t.img = s.img ∧ t.ixl = s.ixl := by
  simp [On, State.runBlock]

@[simp] theorem startTask_keeps (s : State) (t : Nat) : On (s.startTask t) fun t =>
    t.mod = s.mod ∧ t.acc = s.acc ∧ t.img = s.img ∧ t.ixl = s.ixl := by
  simp [On, State.startTask]

@[simp] theorem choose_keeps (s : State) : On (s.choose) fun t => t.mod = s.mod ∧ t.acc = s.acc ∧ t.img = s.img ∧ t.ixl = s.ixl := by
  unfold On State.choose
  (repeat' split) <;> simp

@[simp] theorem evalFrom_keeps (task limit : Nat) (l : List (Nat × BlockDef)) (s : State) : On (evalFrom task limit l s) fun t =>
    t.mod = s.mod ∧ t.acc = s.acc ∧ t.img = s.img ∧ t.ixl = s.ixl := by
  induction l generalizing s with
  | nil => exact ⟨rfl, rfl, rfl, rfl⟩
  | cons p r ih =>
    unfold evalFrom
    dsimp only
    split <;> simp [On, ih]

@[simp] theorem taskReleaseOp_keeps (t : Nat) (s : State) : On (taskReleaseOp t s) fun t =>
    t.mod = s.mod ∧ t.acc = s.acc ∧ t.img = s.img ∧ t.ixl = s.ixl := by
  unfold On taskReleaseOp
  dsimp only
  (repeat' split) <;> simp

@[simp] theorem runOn_keeps (s : State) : On (s.runOn) fun t => t.mod = s.mod ∧ t.acc = s.acc ∧ t.img = s.img ∧ t.ixl = s.ixl := by
  unfold On State.runOn
  (repeat' split) <;> simp

@[simp] theorem dispatchOp_keeps (s : State) : On (dispatchOp s) fun t =>
    t.mod = s.mod ∧ t.acc = s.acc ∧ t.img = s.img ∧ t.ixl = s.ixl := by
  simp [On, dispatchOp]

@[simp] theorem countRun_keeps (before after : State) (ended : Option Nat) : On (before.countRun after ended) fun t =>
    t.mod = after.mod ∧ t.acc = after.acc ∧ t.img = after.img ∧ t.ixl = after.ixl := by
  simp [On, State.countRun]

@[simp] theorem dispatchPointOp_keeps (s : State) : On (dispatchPointOp s) fun t =>
    t.mod = s.mod ∧ t.acc = s.acc ∧ t.img = s.img ∧ t.ixl = s.ixl := by
  simp [On, dispatchPointOp]

@[simp] theorem runCompleteOp_keeps (t : Nat) (s : State) : On (runCompleteOp t s) fun t =>
    t.mod = s.mod ∧ t.acc = s.acc ∧ t.img = s.img ∧ t.ixl = s.ixl := by
  simp [On, runCompleteOp]

@[simp] theorem runEndOp_keeps (t : Nat) (s : State) : On (runEndOp t s) fun t =>
    t.mod = s.mod ∧ t.acc = s.acc ∧ t.img = s.img ∧ t.ixl = s.ixl := by
  simp [On, runEndOp]

@[simp] theorem latchEvent_keeps (s : State) (t : Nat) : On (s.latchEvent t) fun t =>
    t.mod = s.mod ∧ t.acc = s.acc ∧ t.img = s.img ∧ t.ixl = s.ixl := by
  simp [On, State.latchEvent]

@[simp] theorem eventLatchOp_keeps (s : State) : On (eventLatchOp s) fun t =>
    t.mod = s.mod ∧ t.acc = s.acc ∧ t.img = s.img ∧ t.ixl = s.ixl := by
  simp [On, eventLatchOp]

@[simp] theorem retainedWriteOp_keeps (s : State) : On (retainedWriteOp s) fun t =>
    t.mod = s.mod ∧ t.acc = s.acc ∧ t.img = s.img ∧ t.ixl = s.ixl := by
  simp [On, retainedWriteOp]

/-! ### A cycle run again -/

@[simp] theorem loadEssence_keeps (s : State) (pages : List (Nat × List Byte)) : On (s.loadEssence pages) fun t =>
    t.mod = s.mod ∧ t.acc = s.acc ∧ t.img = s.img := by
  unfold On State.loadEssence
  (repeat' split) <;> simp

@[simp] theorem takeVital_keeps (s t : State) : On (s.takeVital t) fun t => t.mod = s.mod ∧ t.acc = s.acc ∧ t.img = s.img := by
  simp [On, State.takeVital]

/-! ### Image transfer and change -/

@[simp] theorem serveImage_mod (s : State) (h : CmdHdr) (opcode : Nat) (role : Role) (body : State → State)
    (hb : ∀ s, (body s).mod = s.mod) : (s.serveImage h opcode role body).mod = s.mod := by simp [State.serveImage, hb]
@[simp] theorem serveImage_acc (s : State) (h : CmdHdr) (opcode : Nat) (role : Role) (body : State → State)
    (hb : ∀ s, (body s).acc = s.acc) : (s.serveImage h opcode role body).acc = s.acc := by simp [State.serveImage, hb]
@[simp] theorem serveImage_img (s : State) (h : CmdHdr) (opcode : Nat) (role : Role) (body : State → State)
    (hb : ∀ s, (body s).img = s.img) : (s.serveImage h opcode role body).img = s.img := by simp [State.serveImage, hb]
@[simp] theorem serveImage_ixl (s : State) (h : CmdHdr) (opcode : Nat) (role : Role) (body : State → State)
    (hb : ∀ s, (body s).ixl = s.ixl) : (s.serveImage h opcode role body).ixl = s.ixl := by simp [State.serveImage, hb]
@[simp] theorem serveImage_sheets (s : State) (h : CmdHdr) (opcode : Nat) (role : Role) (body : State → State)
    (hb : ∀ s, (body s).sheets = s.sheets) : (s.serveImage h opcode role body).sheets = s.sheets := by simp [State.serveImage, hb]

@[simp] theorem imgBeginOp_keeps (h : CmdHdr) (type length blocks version : Nat) (s : State) :
    On (imgBeginOp h type length blocks version s) fun t => t.mod = s.mod ∧ t.acc = s.acc ∧ t.ixl = s.ixl ∧ t.sheets = s.sheets := by
  simp [On, imgBeginOp]

@[simp] theorem imgBlockOp_keeps (h : CmdHdr) (block part : Nat) (data : List Byte) (s : State) :
    On (imgBlockOp h block part data s) fun t => t.mod = s.mod ∧ t.acc = s.acc ∧ t.ixl = s.ixl ∧ t.sheets = s.sheets := by
  simp [On, imgBlockOp]

@[simp] theorem imgVerifyOp_keeps (h : CmdHdr) (s : State) : On (imgVerifyOp h s) fun t =>
    t.mod = s.mod ∧ t.acc = s.acc ∧ t.ixl = s.ixl ∧ t.sheets = s.sheets := by
  simp [On, imgVerifyOp]

@[simp] theorem imgVerifyCompleteOp_keeps (s : State) : On (imgVerifyCompleteOp s) fun t =>
    t.mod = s.mod ∧ t.acc = s.acc ∧ t.ixl = s.ixl ∧ t.sheets = s.sheets := by
  unfold On imgVerifyCompleteOp
  dsimp only
  (repeat' split) <;> simp

@[simp] theorem endSchedule_keeps (s : State) (status : Nat) : On (s.endSchedule status) fun t =>
    t.mod = s.mod ∧ t.acc = s.acc ∧ t.sheets = s.sheets := by
  unfold On State.endSchedule
  dsimp only
  (repeat' split) <;> simp

@[simp] theorem recordRefusal_keeps (s : State) (reason route : Nat) : On (s.recordRefusal reason route) fun t =>
    t.mod = s.mod ∧ t.acc = s.acc ∧ t.sheets = s.sheets := by
  simp [On, State.recordRefusal]

@[simp] theorem forwardSchedule_keeps (s : State) (time flags : Nat) : On (s.forwardSchedule time flags) fun t =>
    t.mod = s.mod ∧ t.acc = s.acc ∧ t.ixl = s.ixl ∧ t.sheets = s.sheets := by
  simp [On, State.forwardSchedule]

@[simp] theorem imgScheduleOp_keeps (h : CmdHdr) (time flags : Nat) (s : State) : On (imgScheduleOp h time flags s) fun t =>
    t.mod = s.mod ∧ t.acc = s.acc ∧ t.sheets = s.sheets := by
  simp [On, imgScheduleOp]

@[simp] theorem imgAbortOp_keeps (h : CmdHdr) (s : State) : On (imgAbortOp h s) fun t => t.mod = s.mod ∧ t.acc = s.acc := by
  refine ⟨serve_mod _ _ _ _ _ ?_, serve_acc _ _ _ _ _ ?_⟩ <;> (intro s; dsimp only; (repeat' split) <;> simp)

@[simp] theorem imgQueryOp_keeps (h : CmdHdr) (s : State) : ModuleKept (imgQueryOp h s) s := by
  simp [imgQueryOp]

@[simp] theorem activationTimeOp_keeps (s : State) : On (activationTimeOp s) fun t =>
    t.mod = s.mod ∧ t.acc = s.acc ∧ t.ixl = s.ixl ∧ t.sheets = s.sheets := by
  unfold On activationTimeOp
  dsimp only
  (repeat' split) <;> simp

@[simp] theorem activationArmedOp_keeps (l : Lane) (digestOk : Bool) (s : State) : On (activationArmedOp l digestOk s) fun t =>
    t.mod = s.mod ∧ t.acc = s.acc ∧ t.ixl = s.ixl ∧ t.sheets = s.sheets := by
  simp [On, activationArmedOp]

@[simp] theorem armDeadlineOp_sealed (l : Lane) (s : State) : (armDeadlineOp l s).mod.sealed = s.mod.sealed := by
  unfold armDeadlineOp
  (repeat' split) <;> simp

@[simp] theorem activationJudgementOp_keeps (s : State) : On (activationJudgementOp s) fun t =>
    t.mod = s.mod ∧ t.acc = s.acc ∧ t.sheets = s.sheets := by
  unfold On activationJudgementOp
  dsimp only
  (repeat' split) <;> simp

@[simp] theorem postponementOp_keeps (s : State) : On (postponementOp s) fun t => t.mod = s.mod ∧ t.acc = s.acc ∧ t.sheets = s.sheets := by
  simp [On, postponementOp]

@[simp] theorem carrySheets_keeps (s : State) (old : Image) : On (s.carrySheets old) fun t =>
    t.mod = s.mod ∧ t.acc = s.acc ∧ t.ixl = s.ixl := by
  simp [On, State.carrySheets]

@[simp] theorem takeImage_keeps (s : State) (new : Image) : On (s.takeImage new) fun t =>
    t.mod = s.mod ∧ t.acc = s.acc ∧ t.ixl = s.ixl := by
  simp [On, State.takeImage]

@[simp] theorem sendLevels_keeps (s : State) : ModuleKept (s.sendLevels) s := by
  simp [State.sendLevels]

@[simp] theorem imageSwitchOp_keeps (s : State) : On (imageSwitchOp s) fun t => t.mod = s.mod ∧ t.acc = s.acc := by
  unfold On imageSwitchOp
  dsimp only
  (repeat' split) <;> simp

@[simp] theorem sheetPrepareOp_keeps (h : CmdHdr) (s : State) : On (sheetPrepareOp h s) fun t =>
    t.mod = s.mod ∧ t.acc = s.acc ∧ t.img = s.img ∧ t.ixl = s.ixl := by
  simp [On, sheetPrepareOp]

@[simp] theorem sheetPrepareCompleteOp_keeps (s : State) : On (sheetPrepareCompleteOp s) fun t =>
    t.mod = s.mod ∧ t.acc = s.acc ∧ t.img = s.img ∧ t.ixl = s.ixl := by
  unfold On sheetPrepareCompleteOp
  (repeat' split) <;> simp

/-- The hypothesis names the body's result, so that the kernel need not compare two readings of one of its fields. -/
theorem serveImage_keeps {s : State} {h : CmdHdr} {opcode : Nat} {role : Role} {body : State → State}
    (hb : ∀ s t, body s = t → t.mod = s.mod ∧ t.acc = s.acc ∧ t.ixl = s.ixl) : On (s.serveImage h opcode role body) fun t =>
    t.mod = s.mod ∧ t.acc = s.acc ∧ t.ixl = s.ixl :=
  ⟨serveImage_mod _ _ _ _ _ fun s => (hb s _ rfl).1, serveImage_acc _ _ _ _ _ fun s => (hb s _ rfl).2.1,
    serveImage_ixl _ _ _ _ _ fun s => (hb s _ rfl).2.2⟩

@[simp] theorem sheetCommitOp_keeps (h : CmdHdr) (time : Nat) (s : State) : On (sheetCommitOp h time s) fun t =>
    t.mod = s.mod ∧ t.acc = s.acc ∧ t.ixl = s.ixl := by
  refine serveImage_keeps ?_
  rintro s t rfl
  (repeat' split) <;> simp

@[simp] theorem sheetSwitchOp_keeps (s : State) : On (sheetSwitchOp s) fun t => t.mod = s.mod ∧ t.acc = s.acc ∧ t.ixl = s.ixl := by
  unfold On sheetSwitchOp
  (repeat' split) <;> simp

@[simp] theorem sheetTimeoutOp_keeps (s : State) : On (sheetTimeoutOp s) fun t => t.mod = s.mod ∧ t.acc = s.acc ∧ t.ixl = s.ixl := by
  unfold On sheetTimeoutOp
  (repeat' split) <;> simp

@[simp] theorem followSchedule_keeps (s : State) (time flags : Nat) (digest : List Byte) : On (s.followSchedule time flags digest) fun t =>
    t.mod.mode = s.mod.mode ∧ t.mod.sealed = s.mod.sealed ∧ t.ixl = s.ixl := by
  simp [On, State.followSchedule]

/-! ### Packets and sessions -/

@[simp] theorem ethernetFrameOp_keeps (p : HostPort) (f : EthFrame) (s : State) : ModuleKept (ethernetFrameOp p f s) s := by
  simp [ethernetFrameOp]

@[simp] theorem arpRequestOp_keeps (p : HostPort) (target : Nat) (s : State) : ModuleKept (arpRequestOp p target s) s := by
  simp [arpRequestOp]

@[simp] theorem icmpEchoOp_keeps (p : HostPort) (n stamp : Nat) (s : State) : ModuleKept (icmpEchoOp p n stamp s) s := by
  simp [icmpEchoOp]

@[simp] theorem linkUpOp_keeps (p : HostPort) (s : State) : ModuleKept (linkUpOp p s) s := by
  simp [linkUpOp]

@[simp] theorem linkDownOp_keeps (p : HostPort) (s : State) : ModuleKept (linkDownOp p s) s := by
  simp [linkDownOp]

@[simp] theorem q5TimeoutOp_keeps (cmd : CmdRef) (s : State) : ModuleKept (q5TimeoutOp cmd s) s := by
  unfold ModuleKept q5TimeoutOp
  (repeat' split) <;> simp

@[simp] theorem sessionExpiredOp_keeps (r : Role) (s : State) : On (sessionExpiredOp r s) fun t =>
    t.mod = s.mod ∧ t.acc = s.acc ∧ t.img = s.img ∧ t.sheets = s.sheets := by
  simp [On, sessionExpiredOp]

@[simp] theorem sequencePersistOp_keeps (s : State) : ModuleKept (sequencePersistOp s) s := by
  simp [sequencePersistOp]

/-! ### The partner -/

@[simp] theorem gotStrobe_keeps (s : State) (body : List Byte) : On (s.gotStrobe body) fun t =>
    t.mod.mode = s.mod.mode ∧ t.mod.sealed = s.mod.sealed ∧ t.ixl = s.ixl := by
  unfold On State.gotStrobe
  (repeat' split) <;> simp

@[simp] theorem gotDownlink_keeps (s : State) (body : List Byte) : On (s.gotDownlink body) fun t =>
    t.mod.mode = s.mod.mode ∧ t.mod.sealed = s.mod.sealed ∧ t.ixl = s.ixl := by
  simp [On, State.gotDownlink]

@[simp] theorem heardPartner_keeps (s : State) (modeWord cond : Nat) (claim : Word) : On (s.heardPartner modeWord cond claim) fun t =>
    t.mod.mode = s.mod.mode ∧ t.mod.sealed = s.mod.sealed ∧ t.ixl = s.ixl := by
  simp [On, State.heardPartner]

@[simp] theorem gotHeartbeat_keeps (s : State) (body : List Byte) : On (s.gotHeartbeat body) fun t =>
    t.mod.mode = s.mod.mode ∧ t.mod.sealed = s.mod.sealed ∧ t.ixl = s.ixl := by
  unfold On State.gotHeartbeat
  dsimp only
  (repeat' split) <;> simp

@[simp] theorem gotBlock_keeps (s : State) (body : List Byte) : On (s.gotBlock body) fun t =>
    t.mod.mode = s.mod.mode ∧ t.mod.sealed = s.mod.sealed ∧ t.ixl = s.ixl := by
  simp [On, State.gotBlock]

@[simp] theorem gotStatus_keeps (s : State) (body : List Byte) : On (s.gotStatus body) fun t =>
    t.mod.mode = s.mod.mode ∧ t.mod.sealed = s.mod.sealed ∧ t.ixl = s.ixl := by
  simp [On, State.gotStatus]

@[simp] theorem gotVerdict_keeps (s : State) (sender : Nat) (body : List Byte) : On (s.gotVerdict sender body) fun t =>
    t.mod.mode = s.mod.mode ∧ t.mod.sealed = s.mod.sealed ∧ t.ixl = s.ixl := by
  unfold On State.gotVerdict
  (repeat' split) <;> simp

@[simp] theorem gotPage_keeps (s : State) (body : List Byte) : On (s.gotPage body) fun t =>
    t.mod.mode = s.mod.mode ∧ t.mod.sealed = s.mod.sealed ∧ t.ixl = s.ixl := by
  simp [On, State.gotPage]

@[simp] theorem takeLevels_keeps (s : State) (pos : Nat) (levels : List Nat) (digest : List Byte) (minors : Word) :
    On (s.takeLevels pos levels digest minors) fun t => t.mod.mode = s.mod.mode ∧ t.mod.sealed = s.mod.sealed ∧ t.acc = s.acc ∧ t.img =
    s.img ∧ t.ixl = s.ixl ∧ t.sheets = s.sheets := by
  simp [On, State.takeLevels]

@[simp] theorem followSwitchover_keeps (s : State) (cycle : Nat) : On (s.followSwitchover cycle) fun t =>
    t.mod.mode = s.mod.mode ∧ t.mod.sealed = s.mod.sealed ∧ t.ixl = s.ixl := by
  simp [On, State.followSwitchover]

@[simp] theorem gotConfirm_keeps (s : State) (kind : Nat) : On (s.gotConfirm kind) fun t =>
    t.mod.mode = s.mod.mode ∧ t.mod.sealed = s.mod.sealed ∧ t.ixl = s.ixl := by
  simp [On, State.gotConfirm]

@[simp] theorem actControl_keeps (s : State) (kind : Nat) (b : List Byte) : On (s.actControl kind b) fun t =>
    t.mod.mode = s.mod.mode ∧ t.mod.sealed = s.mod.sealed ∧ t.ixl = s.ixl := by
  unfold On State.actControl
  (repeat' split) <;> simp

@[simp] theorem gotControl_keeps (s : State) (body : List Byte) : On (s.gotControl body) fun t =>
    t.mod.mode = s.mod.mode ∧ t.mod.sealed = s.mod.sealed ∧ t.ixl = s.ixl := by
  unfold On State.gotControl
  dsimp only
  (repeat' split) <;> simp

@[simp] theorem usePartner_keeps (s : State) (m : PartnerMsg) : On (s.usePartner m) fun t =>
    t.mod.mode = s.mod.mode ∧ t.mod.sealed = s.mod.sealed ∧ t.ixl = s.ixl := by
  unfold On State.usePartner
  (repeat' split) <;> simp

@[simp] theorem partnerMessageOp_keeps (m : PartnerMsg) (s : State) : On (partnerMessageOp m s) fun t =>
    t.mod.mode = s.mod.mode ∧ t.mod.sealed = s.mod.sealed ∧ t.ixl = s.ixl := by
  unfold On partnerMessageOp
  (repeat' split) <;> simp

@[simp] theorem failControl_keeps (s : State) (c : ControlMsg) : ModuleKept (s.failControl c) s := by
  unfold ModuleKept State.failControl
  dsimp only
  (repeat' split) <;> simp

@[simp] theorem controlRetransmitOp_keeps (s : State) : ModuleKept (controlRetransmitOp s) s := by
  unfold ModuleKept controlRetransmitOp
  (repeat' split) <;> simp

@[simp] theorem partnerLinkUpOp_keeps (pos rom major minor iface : Nat) (digest : List Byte) (minors : Word) (s : State) :
    On (partnerLinkUpOp pos rom major minor iface digest minors s) fun t => t.mod.mode = s.mod.mode ∧ t.mod.sealed = s.mod.sealed ∧ t.acc =
    s.acc ∧ t.img = s.img ∧ t.ixl = s.ixl ∧ t.sheets = s.sheets := by
  unfold On partnerLinkUpOp
  dsimp only
  (repeat' split) <;> simp

@[simp] theorem partnerLinkDownOp_keeps (s : State) : ModuleKept (partnerLinkDownOp s) s := by
  simp [partnerLinkDownOp]

@[simp] theorem failPartnerResync_keeps (s : State) : ModuleKept (s.failPartnerResync) s := by
  simp [State.failPartnerResync]

@[simp] theorem partnerDigestStep_keeps (s : State) (ok : Bool) : On (s.partnerDigestStep ok) fun t =>
    t.mod.mode = s.mod.mode ∧ t.mod.sealed = s.mod.sealed ∧ t.acc = s.acc ∧ t.img = s.img ∧ t.ixl = s.ixl ∧ t.sheets = s.sheets := by
  unfold On State.partnerDigestStep
  (repeat' split) <;> simp

@[simp] theorem resyncReloadOp_keeps (l : Lane) (digestOk reloadOk : Bool) (s : State) : On (resyncReloadOp l digestOk reloadOk s) fun t =>
    t.mod.mode = s.mod.mode ∧ t.mod.sealed = s.mod.sealed ∧ t.acc = s.acc ∧ t.img = s.img ∧ t.ixl = s.ixl ∧ t.sheets = s.sheets := by
  unfold On resyncReloadOp
  (repeat' split) <;> simp

@[simp] theorem resyncArmedOp_keeps (l : Lane) (s : State) : ModuleKept (resyncArmedOp l s) s := by
  simp [resyncArmedOp]

@[simp] theorem partnerCopyFails_keeps (s : State) : ModuleKept (s.partnerCopyFails) s := by
  simp [State.partnerCopyFails]

@[simp] theorem resyncCopyOp_keeps (l : Lane) (senderHash : BitVec 64) (s : State) : On (resyncCopyOp l senderHash s) fun t =>
    t.mod = s.mod ∧ t.acc = s.acc ∧ t.img = s.img := by
  simp [On, resyncCopyOp]

@[simp] theorem resyncCopyFailedOp_keeps (l : Lane) (s : State) : ModuleKept (resyncCopyFailedOp l s) s := by
  simp [resyncCopyFailedOp]

@[simp] theorem partnerCatchUp_keeps (s : State) : On (s.partnerCatchUp) fun t => t.mod = s.mod ∧ t.img = s.img := by
  simp [On, State.partnerCatchUp]

@[simp] theorem resyncCatchUpOp_keeps (l : Lane) (s : State) : On (resyncCatchUpOp l s) fun t =>
    t.mod.sealed = s.mod.sealed ∧ t.img = s.img := by
  unfold On resyncCatchUpOp
  (repeat' split) <;> simp

@[simp] theorem resyncCatchUpTimeoutOp_keeps (l : Lane) (s : State) : ModuleKept (resyncCatchUpTimeoutOp l s) s := by
  simp [resyncCatchUpTimeoutOp]

@[simp] theorem partnerInStep_keeps (s : State) : On (s.partnerInStep) fun t =>
    t.mod.mode = s.mod.mode ∧ t.mod.sealed = s.mod.sealed ∧ t.acc = s.acc ∧ t.img = s.img ∧ t.ixl = s.ixl ∧ t.sheets = s.sheets := by
  simp [On, State.partnerInStep]

@[simp] theorem resyncProbationOp_keeps (l : Lane) (s : State) : On (resyncProbationOp l s) fun t =>
    t.mod.mode = s.mod.mode ∧ t.mod.sealed = s.mod.sealed ∧ t.acc = s.acc ∧ t.img = s.img ∧ t.ixl = s.ixl ∧ t.sheets = s.sheets := by
  unfold On resyncProbationOp
  (repeat' split) <;> simp

@[simp] theorem resyncEndOp_keeps (l : Lane) (s : State) : ModuleKept (resyncEndOp l s) s := by
  unfold ModuleKept resyncEndOp
  (repeat' split) <;> simp

@[simp] theorem becomeLead_keeps (s : State) (g result : Nat) : On (s.becomeLead g result) fun t =>
    t.mod.mode = s.mod.mode ∧ t.mod.sealed = s.mod.sealed ∧ t.acc = s.acc ∧ t.img = s.img ∧ t.ixl = s.ixl ∧ t.sheets = s.sheets := by
  simp [On, State.becomeLead]

@[simp] theorem takeOver_keeps (s : State) : On (s.takeOver) fun t =>
    t.mod.mode = s.mod.mode ∧ t.mod.sealed = s.mod.sealed ∧ t.acc = s.acc ∧ t.img = s.img ∧ t.ixl = s.ixl ∧ t.sheets = s.sheets := by
  unfold On State.takeOver
  dsimp only
  (repeat' split) <;> simp

@[simp] theorem isolate_keeps (s : State) (reason : Nat) : On (s.isolate reason) fun t =>
    t.mod.mode = s.mod.mode ∧ t.mod.sealed = s.mod.sealed ∧ t.acc = s.acc ∧ t.img = s.img ∧ t.ixl = s.ixl ∧ t.sheets = s.sheets := by
  simp [On, State.isolate]

@[simp] theorem takeoverJudgementOp_keeps (s : State) : On (takeoverJudgementOp s) fun t =>
    t.mod.mode = s.mod.mode ∧ t.mod.sealed = s.mod.sealed ∧ t.acc = s.acc ∧ t.img = s.img ∧ t.ixl = s.ixl ∧ t.sheets = s.sheets := by
  unfold On takeoverJudgementOp
  dsimp only
  (repeat' split) <;> simp

@[simp] theorem holdingTimeoutOp_keeps (s : State) : On (holdingTimeoutOp s) fun t =>
    t.mod.mode = s.mod.mode ∧ t.mod.sealed = s.mod.sealed ∧ t.acc = s.acc ∧ t.img = s.img ∧ t.ixl = s.ixl ∧ t.sheets = s.sheets := by
  unfold On holdingTimeoutOp
  (repeat' split) <;> simp

@[simp] theorem takeoverLostOp_keeps (higher : Word) (s : State) : On (takeoverLostOp higher s) fun t =>
    t.mod.mode = s.mod.mode ∧ t.mod.sealed = s.mod.sealed ∧ t.acc = s.acc ∧ t.img = s.img ∧ t.ixl = s.ixl ∧ t.sheets = s.sheets := by
  unfold On takeoverLostOp
  dsimp only
  (repeat' split) <;> simp

@[simp] theorem confirmDeadlineOp_sealed (s : State) : (confirmDeadlineOp s).mod.sealed = s.mod.sealed := by
  unfold confirmDeadlineOp
  (repeat' split) <;> simp

@[simp] theorem yieldLead_sealed (s : State) : (s.yieldLead).mod.sealed = s.mod.sealed := by
  unfold State.yieldLead
  dsimp only
  (repeat' split) <;> simp

@[simp] theorem switchoverOp_sealed (s : State) : (switchoverOp s).mod.sealed = s.mod.sealed := by
  unfold switchoverOp
  dsimp only
  (repeat' split) <;> simp

/-! ### Registers -/

@[simp] theorem slotDataOp_keeps (l : Lane) (entry : Word) (s : State) : ModuleKept (slotDataOp l entry s) s := by
  simp [slotDataOp]

@[simp] theorem switchRoundOp_keeps (l : Lane) (round : Word) (s : State) : ModuleKept (switchRoundOp l round s) s := by
  simp [switchRoundOp]

@[simp] theorem switchCrcOp_keeps (l : Lane) (crc : Word) (s : State) : ModuleKept (switchCrcOp l crc s) s := by
  simp [switchCrcOp]

@[simp] theorem switchCancelOp_keeps (l : Lane) (value : Word) (s : State) : ModuleKept (switchCancelOp l value s) s := by
  unfold ModuleKept switchCancelOp
  (repeat' split) <;> simp

@[simp] theorem arbCommitOp_keeps (l : Lane) (p : MemPort) (value : Word) (reason : Nat) (s : State) :
    ModuleKept (arbCommitOp l p value reason s) s := by
  simp [arbCommitOp]

@[simp] theorem writeUnit_keeps (s : State) (l : Lane) (u ofs : Nat) (f : CvuS → CvuS) : ModuleKept (s.writeUnit l u ofs f) s := by
  unfold ModuleKept State.writeUnit
  dsimp only
  (repeat' split) <;> simp

@[simp] theorem cvuLoadOp_keeps (l : Lane) (u poly : Nat) (s : State) : ModuleKept (cvuLoadOp l u poly s) s := by
  simp [cvuLoadOp]

@[simp] theorem cvuSeedOp_keeps (l : Lane) (u : Nat) (s : State) : ModuleKept (cvuSeedOp l u s) s := by
  simp [cvuSeedOp]

@[simp] theorem cvuFeedOp_keeps (l : Lane) (u : Nat) (data : Word) (s : State) : ModuleKept (cvuFeedOp l u data s) s := by
  simp [cvuFeedOp]

@[simp] theorem cvuValueOp_keeps (l : Lane) (u : Nat) (high : Bool) (w : Word) (s : State) : ModuleKept (cvuValueOp l u high w s) s := by
  simp [cvuValueOp]

@[simp] theorem onChannels_keeps (s : State) (l : Lane) (f : LaneS → LaneS) : ModuleKept (s.onChannels l f) s := by
  simp [State.onChannels]

@[simp] theorem dmaEnableOp_keeps (l : Lane) (c : Nat) (on : Bool) (s : State) : ModuleKept (dmaEnableOp l c on s) s := by
  simp [dmaEnableOp]

@[simp] theorem dmaSuspendOp_keeps (l : Lane) (c : Nat) (s : State) : ModuleKept (dmaSuspendOp l c s) s := by
  simp [dmaSuspendOp]

@[simp] theorem dmaResumeOp_keeps (l : Lane) (c : Nat) (s : State) : ModuleKept (dmaResumeOp l c s) s := by
  simp [dmaResumeOp]

@[simp] theorem dmaAbortOp_keeps (l : Lane) (c : Nat) (s : State) : ModuleKept (dmaAbortOp l c s) s := by
  simp [dmaAbortOp]

@[simp] theorem dmaTailOp_keeps (l : Lane) (c tail : Nat) (s : State) : ModuleKept (dmaTailOp l c tail s) s := by
  simp [dmaTailOp]

@[simp] theorem mmuRootOp_keeps (l : Lane) (master : Nat) (v : Word) (s : State) : ModuleKept (mmuRootOp l master v s) s := by
  simp [mmuRootOp]

@[simp] theorem mmuInvalOp_keeps (l : Lane) (v : Word) (s : State) : ModuleKept (mmuInvalOp l v s) s := by
  simp [mmuInvalOp]

@[simp] theorem latchOp_keeps (l : Lane) (net : BitVec 64) (frac : Nat) (s : State) : ModuleKept (latchOp l net frac s) s := by
  simp [latchOp]

@[simp] theorem writeCvu_keeps (s : State) (l : Lane) (ofs : Nat) (v : Word) : ModuleKept (s.writeCvu l ofs v) s := by
  unfold ModuleKept State.writeCvu
  (repeat' split) <;> simp

@[simp] theorem writeDmaCtrl_keeps (s : State) (l : Lane) (c : Nat) (v : Word) : ModuleKept (s.writeDmaCtrl l c v) s := by
  simp [State.writeDmaCtrl]

@[simp] theorem writeHub_keeps (s : State) (l : Lane) (ofs : Nat) (v : Word) : ModuleKept (s.writeHub l ofs v) s := by
  unfold ModuleKept State.writeHub
  (repeat' split) <;> simp

@[simp] theorem writeFch_keeps (s : State) (l : Lane) (ofs : Nat) (v : Word) : ModuleKept (s.writeFch l ofs v) s := by
  simp [State.writeFch]

@[simp] theorem writeReg_keeps (s : State) (l : Lane) (ofs : Nat) (v : Word) : ModuleKept (s.writeReg l ofs v) s := by
  unfold ModuleKept State.writeReg
  (repeat' split) <;> simp

/-- What the main core's write of a register does, at any offset, leaves the module alone. -/
theorem regWrite_writeReg_keeps (l : Lane) (a ofs : Nat) (v : Word) (s : State) :
    ModuleKept (s.regWrite l ofs v fun s => if roPlace ofs then s.writeFault l a 2 else s.writeReg l ofs v) s := by
  refine ⟨regWrite_mod _ _ _ _ _ ?_, regWrite_acc _ _ _ _ _ ?_, regWrite_img _ _ _ _ _ ?_, regWrite_ixl _ _ _ _ _ ?_,
    regWrite_sheets _ _ _ _ _ ?_⟩ <;> (intro s; split <;> simp)

@[simp] theorem registerWriteOp_keeps (l : Lane) (a : Nat) (v : Word) (s : State) : ModuleKept (registerWriteOp l a v s) s := by
  unfold registerWriteOp
  split
  · split
    · simp
    · exact regWrite_writeReg_keeps l a _ v s
  · simp

/-! ### Test access -/

@[simp] theorem selectTap_keeps (s : State) (ir : Nat) : ModuleKept (s.selectTap ir) s := by
  simp [State.selectTap]

@[simp] theorem idcodeOp_keeps (s : State) : ModuleKept (idcodeOp s) s := by
  simp [idcodeOp]

@[simp] theorem sampleOp_keeps (cells : List Bool) (s : State) : ModuleKept (sampleOp cells s) s := by
  simp [sampleOp]

@[simp] theorem bypassOp_keeps (code : Nat) (s : State) : ModuleKept (bypassOp code s) s := by
  simp [bypassOp]

@[simp] theorem dbgInstructionOp_keeps (s : State) : ModuleKept (dbgInstructionOp s) s := by
  simp [dbgInstructionOp]

@[simp] theorem logDebug_sealed (s : State) : (s.logDebug).mod.sealed = s.mod.sealed := by
  simp [State.logDebug]

@[simp] theorem recordDebug_sealed (s : State) (lane action : Nat) : (s.recordDebug lane action).mod.sealed = s.mod.sealed := by
  simp [State.recordDebug]

@[simp] theorem dbgRead_sealed (s : State) (l : Lane) (a : Nat) : (s.dbgRead l a).mod.sealed = s.mod.sealed := by
  unfold State.dbgRead
  dsimp only
  (repeat' split) <;> simp

@[simp] theorem dbgWrite_keeps (s : State) (l : Lane) (a : Nat) (v : Word) : On (s.dbgWrite l a v) fun t =>
    t.mod.mode = s.mod.mode ∧ t.mod.sealed = s.mod.sealed ∧ t.acc = s.acc ∧ t.img = s.img ∧ t.ixl = s.ixl ∧ t.sheets = s.sheets := by
  unfold On State.dbgWrite
  (repeat' split) <;> simp

@[simp] theorem dbgHalt_keeps (s : State) (l : Lane) : On (s.dbgHalt l) fun t =>
    t.mod.mode = s.mod.mode ∧ t.mod.sealed = s.mod.sealed ∧ t.acc = s.acc ∧ t.img = s.img ∧ t.ixl = s.ixl ∧ t.sheets = s.sheets := by
  simp [On, State.dbgHalt]

@[simp] theorem dbgRelease_keeps (s : State) (l : Lane) : On (s.dbgRelease l) fun t =>
    t.mod.mode = s.mod.mode ∧ t.mod.sealed = s.mod.sealed ∧ t.acc = s.acc ∧ t.img = s.img ∧ t.ixl = s.ixl ∧ t.sheets = s.sheets := by
  simp [On, State.dbgRelease]

@[simp] theorem dbgStep_keeps (s : State) (l : Lane) : On (s.dbgStep l) fun t =>
    t.mod.mode = s.mod.mode ∧ t.mod.sealed = s.mod.sealed ∧ t.acc = s.acc ∧ t.img = s.img ∧ t.ixl = s.ixl ∧ t.sheets = s.sheets := by
  unfold On State.dbgStep
  (repeat' split) <;> simp

@[simp] theorem silBegin_keeps (s : State) : ModuleKept (s.silBegin) s := by
  simp [State.silBegin]

@[simp] theorem silWrite_keeps (s : State) (v : Word) : ModuleKept (s.silWrite v) s := by
  simp [State.silWrite]

@[simp] theorem silEnd_keeps (s : State) : ModuleKept (s.silEnd) s := by
  simp [State.silEnd]

@[simp] theorem dbgAttach_keeps (s : State) : On (s.dbgAttach) fun t =>
    t.mod.mode = s.mod.mode ∧ t.mod.sealed = s.mod.sealed ∧ t.acc = s.acc ∧ t.img = s.img ∧ t.ixl = s.ixl ∧ t.sheets = s.sheets := by
  simp [On, State.dbgAttach]

@[simp] theorem dbgDetach_keeps (s : State) : On (s.dbgDetach) fun t =>
    t.mod.mode = s.mod.mode ∧ t.mod.sealed = s.mod.sealed ∧ t.acc = s.acc ∧ t.img = s.img ∧ t.ixl = s.ixl ∧ t.sheets = s.sheets := by
  simp [On, State.dbgDetach]

/-! ### Timers -/

@[simp] theorem adoptTimer_keeps (s : State) (e : Ev) : On (s.adoptTimer e) fun t =>
    t.mod = s.mod ∧ t.acc = s.acc ∧ t.img = s.img ∧ t.sheets = s.sheets := by
  simp [On, State.adoptTimer]

@[simp] theorem timerElem_keeps (o : Nat) (ks : List Kind) (p : ElemSt → Bool) (s : State) : On (timerElem o ks p s) fun t =>
    t.mod = s.mod ∧ t.acc = s.acc ∧ t.img = s.img ∧ t.sheets = s.sheets := by
  unfold On timerElem
  (repeat' split) <;> simp

@[simp] theorem restartTimeOp_keeps (a : Nat) (s : State) : On (restartTimeOp a s) fun t =>
    t.mod = s.mod ∧ t.acc = s.acc ∧ t.img = s.img ∧ t.sheets = s.sheets := by
  simp [On, restartTimeOp]

@[simp] theorem boundaryBackoffOp_keeps (o : Nat) (s : State) : On (boundaryBackoffOp o s) fun t =>
    t.mod = s.mod ∧ t.acc = s.acc ∧ t.img = s.img ∧ t.sheets = s.sheets := by
  simp [On, boundaryBackoffOp]

@[simp] theorem timerRoute_keeps (r : Nat) (p : RSt → Bool) (slot : Ev → Nat → Ev) (s : State) : On (timerRoute r p slot s) fun t =>
    t.mod = s.mod ∧ t.acc = s.acc ∧ t.img = s.img ∧ t.sheets = s.sheets := by
  simp [On, timerRoute]

@[simp] theorem overlapReleaseOp_keeps (o : Nat) (s : State) : On (overlapReleaseOp o s) fun t =>
    t.mod = s.mod ∧ t.acc = s.acc ∧ t.img = s.img ∧ t.sheets = s.sheets := by
  simp [On, overlapReleaseOp]

@[simp] theorem dataAgeOp_keeps (n row : Nat) (s : State) : On (dataAgeOp n row s) fun t =>
    t.mod = s.mod ∧ t.acc = s.acc ∧ t.img = s.img ∧ t.sheets = s.sheets := by
  unfold On dataAgeOp
  dsimp only
  (repeat' split) <;> simp

@[simp] theorem tokenExpiredOp_keeps (source opcode target : Nat) (s : State) : On (tokenExpiredOp source opcode target s) fun t =>
    t.mod = s.mod ∧ t.acc = s.acc ∧ t.img = s.img ∧ t.sheets = s.sheets := by
  simp [On, tokenExpiredOp]

end Sys2Proof.Machine
end

section
/-!
SUPPORT. The module's part of the table of changes (O9), over every command.
-/

namespace Sys2Proof.Machine

open Sys2Proof

/-- A step keeps every part of the module that the table of changes does not name for its command. -/
def ModuleFramed (c : Instr) (s t : State) : Prop :=
  (Part.mod ∈ mayChange c ∨ t.mod = s.mod) ∧ (Part.mode ∈ mayChange c ∨ t.mod.mode = s.mod.mode) ∧
  (Part.seals ∈ mayChange c ∨ t.mod.sealed = s.mod.sealed) ∧ (Part.acc ∈ mayChange c ∨ t.acc = s.acc) ∧
  (Part.img ∈ mayChange c ∨ t.img = s.img) ∧ (Part.ixl ∈ mayChange c ∨ t.ixl = s.ixl) ∧
  (Part.sheets ∈ mayChange c ∨ t.sheets = s.sheets)

/-- Command by command: the table's row names a part, or the lemmas of the command's operation say that it is kept. -/
theorem exec_moduleFramed (c : Instr) (s t : State) (h : exec c s = .next t) : ModuleFramed c s t := by
  cases c <;> cases h <;> simp [ModuleFramed, mayChange, Part.all, State.dbg]

/-- Settles O9: each of the seven parts, from what every command keeps. -/
theorem moduleFrames : Obligations.ModuleFrames := by
  unfold Obligations.ModuleFrames
  intro c s t p ht hp hc
  obtain ⟨hmod, hmode, hseals, hacc, himg, hixl, hsheets⟩ := exec_moduleFramed c s t ht
  simp only [List.mem_cons, List.not_mem_nil, or_false] at hp
  obtain rfl | rfl | rfl | rfl | rfl | rfl | rfl := hp
  · exact hmod.resolve_left hc
  · exact hmode.resolve_left hc
  · exact hseals.resolve_left hc
  · exact hacc.resolve_left hc
  · exact himg.resolve_left hc
  · exact hixl.resolve_left hc
  · exact hsheets.resolve_left hc

end Sys2Proof.Machine
end

section
/-!
SUPPORT. The module before VIN (O2) and the events of the power input (O19).
-/

namespace Sys2Proof.Machine

open Sys2Proof

/-- Settles O2: every part of the reset state is written out in its definition, and no source and queue has a LAST in it. -/
theorem resetState : Obligations.ResetState :=
  ⟨rfl, rfl, fun l => by cases l <;> exact ⟨rfl, rfl, rfl⟩, rfl, rfl, rfl, rfl, fun _ => rfl⟩

@[simp] theorem enterOff_mode (s : State) : s.enterOff.mod.mode = .off := rfl

@[simp] theorem enterOff_holdUp (s : State) : s.enterOff.mod.holdUp = false := rfl

@[simp] theorem enterOff_store (s : State) : s.enterOff.rcd.store = s.rcd.store := rfl

/-- VIN above the guard leads from OFF to RESET. -/
theorem vinAppliedOp_starts (mv : Nat) (s : State) (off : s.mod.mode = .off) (above : 16300 < mv) : On (vinAppliedOp mv s) fun t =>
    t.mod.mode = .reset ∧ t.mod.vin = mv ∧ t.img = s.img := by
  unfold On vinAppliedOp
  rw [if_pos (by simp [off, above])]
  extract_lets r first n src s1 s2 record s3
  have kept : s3.mod = { s.mod with vin := mv } ∧ s3.img = s.img := by
    by_cases h : first <;> simp [s3, s2, s1, src, h]
  simp [kept]

/-- Settles O19: each event's operation, its guard decided by the hypotheses, through the rules of the entry to RESET. -/
theorem powerInputCommands : Obligations.PowerInputCommands := by
  refine ⟨?_, ?_, ?_, ?_, ?_, ?_, ?_⟩
  · intro mv s off above
    exact ⟨_, rfl, vinAppliedOp_starts mv s off above⟩
  · intro mv s on notHeld below
    refine ⟨_, rfl, ?_⟩
    simp [powerFailWarningOp, on, notHeld, Nat.not_le.2 below]
  · intro s inReset held
    refine ⟨_, rfl, ?_⟩
    simp [holdUpExhaustedOp, inReset, held]
  · intro mv s inReset held above
    refine ⟨_, rfl, ?_⟩
    simp [vinRestoredOp, inReset, held, above]
  · intro mv s on notCut above
    refine ⟨_, rfl, ?_⟩
    simp [inputCutOffOp, on, notCut, Nat.not_le.2 above]
  · intro mv s cut below
    exact congrArg Host.Outcome.next (if_pos (by simp [cut, below]))
  · intro s on
    refine ⟨_, rfl, ?_⟩
    simp [rstNLowOp, on]

end Sys2Proof.Machine
end

section
/-!
SUPPORT. The housekeeper, keyframes and replay (O57).
-/

namespace Sys2Proof.Machine

open Sys2Proof

/-- The recorder's operating time and its account of a replay, which the writing of records leaves alone. -/
def RecS.account (r : RecS) : Nat × Bool × Nat × List Word × Word :=
  (r.opTime, r.replayRunning, r.replayResult, r.replayLeft, r.replayCycle)

@[simp] theorem recS_trim_account (r : RecS) : r.trim.account = r.account := by
  unfold RecS.trim
  split <;> rfl

@[simp] theorem closeRecord_account (s : State) (index : Nat) : (s.closeRecord index).rcd.account = s.rcd.account := by
  unfold State.closeRecord
  split <;> rfl

@[simp] theorem appendRecord_account (s : State) (r : Record) : (s.appendRecord r).rcd.account = s.rcd.account := by
  unfold State.appendRecord State.each
  exact (keep_foldl (fun s => s.rcd.account) _ closeRecord_account _ _).trans (recS_trim_account _)

@[simp] theorem writeRecord_account (s : State) (type : Nat) (payload : List Byte) (lane : Option Lane) (hk : Bool) :
    (s.writeRecord type payload lane hk).rcd.account = s.rcd.account := by
  unfold State.writeRecord
  extract_lets rcd fresh
  split
  · rfl
  split
  · split
    · rfl
    · split <;> rfl
  · split
    · extract_lets store opened s1
      split
      · exact closeRecord_account s1 _
      · rfl
    · exact appendRecord_account s fresh

@[simp] theorem takeSnapshot_account (s : State) (l : Lane) (entry : Nat) (d : SnapDef) (trigger : Nat) :
    (s.takeSnapshot l entry d trigger).rcd.account = s.rcd.account := by
  unfold State.takeSnapshot
  extract_lets g recent payload
  split <;> simp

@[simp] theorem record_account (s : State) (type : Nat) (payload : List Byte) : (s.record type payload).rcd.account = s.rcd.account := by
  unfold State.record State.snapshots State.forLanes State.each
  split
  · exact writeRecord_account ..
  · refine (keep_foldl (fun s => s.rcd.account) _ (fun s l => ?_) _ _).trans (writeRecord_account ..)
    exact keep_foldl (fun s => s.rcd.account) _ (fun s p => takeSnapshot_account s l _ _ _) _ _

/-- What an equal account says of each of its parts. -/
theorem account_eq_iff (r r' : RecS) : r.account = r'.account ↔ r.opTime = r'.opTime ∧ r.replayRunning = r'.replayRunning ∧
    r.replayResult = r'.replayResult ∧ r.replayLeft = r'.replayLeft ∧ r.replayCycle = r'.replayCycle := by
  simp [RecS.account]

/-- The end of a replay leaves its result and nothing to replay. -/
theorem endReplay_ends (s : State) (code : Nat) (differs : Word) (recorded replayed : BitVec 64) :
    On (s.endReplay code differs recorded replayed) fun t =>
    t.mod = s.mod ∧ t.acc = s.acc ∧ t.rcd.replayRunning = false ∧ t.rcd.replayResult = code ∧ t.rcd.replayLeft = [] := by
  obtain ⟨-, running, result, left, -⟩ := (account_eq_iff _ _).1 (record_account
    { s with rcd := { s.rcd with replayResult := code, replayRunning := false, replayLeft := [] } } 0x0A07
    (fields [(1, code), (3, 0), (4, s.rcd.replayFirst.toNat), (4, s.rcd.replayCycle.toNat), (4, differs.toNat)] ++ bytesOf 8 recorded
      ++ bytesOf 8 replayed))
  exact ⟨by simp [State.endReplay], by simp [State.endReplay], running, result, left⟩

/-- The loss of the housekeeper stops the recording and is all that it changes of the module and the lanes. -/
theorem stopRecording_facts (s : State) : On s.stopRecording fun t =>
    t.mod = { s.mod with hkLost := true } ∧ t.rcd.copies = [] ∧ t.lanes = s.lanes := by
  unfold On State.stopRecording
  simp

/-- A replayed cycle changes nothing of the module; where the replay goes on, the rest of the range is not empty and the recorded output
hash came out. -/
theorem replayOne_facts (s : State) (c : Word) (rest : List Word) (head : List Byte) (items : List (Nat × List Byte)) :
    On (s.replayOne c rest head items) fun t => t.mod = s.mod ∧ (t.rcd.replayRunning = true → t.rcd.replayLeft = rest ∧ rest ≠ [] ∧
      t.rcd.replayCycle = c ∧ t.acc.outHash = BitVec.ofNat 64 (leAt head 20 8)) := by
  unfold On State.replayOne
  extract_lets data srcRcd s1 a t s2 srcNet srcAcc srcRcd2 s3 recorded
  clear_value t a
  have s3_mod : s3.mod = s.mod := rfl
  have ended (code differs) : On (s3.endReplay code differs recorded t.acc.outHash) fun u =>
      u.mod = s.mod ∧ u.rcd.replayRunning = false := by
    obtain ⟨hmod, -, running, -⟩ := endReplay_ends s3 code differs recorded t.acc.outHash
    exact ⟨hmod.trans s3_mod, running⟩
  split
  · obtain ⟨hmod, running⟩ := ended 1 c
    exact ⟨hmod, fun goesOn => absurd (running.symm.trans goesOn) Bool.false_ne_true⟩
  next same =>
  split
  · obtain ⟨hmod, running⟩ := ended 0 0xFFFFFFFF
    exact ⟨hmod, fun goesOn => absurd (running.symm.trans goesOn) Bool.false_ne_true⟩
  next more =>
  exact ⟨s3_mod, fun _ => ⟨rfl, by simpa using more, rfl, (not_not.1 same).symm⟩⟩

/-- Settles O57: the heartbeat's two outcomes, the keyframe's, and the replay's by what a replayed cycle and its end leave. -/
theorem housekeeperAndReplayCommands : Obligations.HousekeeperAndReplayCommands := by
  refine ⟨?_, ?_, ?_, ?_, ?_, ?_, ?_, ?_⟩
  · intro s cycles alive few
    refine ⟨_, rfl, ?_⟩
    simp [heartbeatMissingOp, cycles, alive, Nat.not_le.2 few]
  · intro s cycles alive many
    refine ⟨_, rfl, ?_⟩
    simp [heartbeatMissingOp, cycles, alive, many, stopRecording_facts]
  · intro s lost cycles required
    refine ⟨_, rfl, ?_⟩
    simp [housekeeperTimeoutOp, lost, cycles, required]
  · intro l s operate tick0 fresh none idle first
    have same : ({ s with rcd := { s.rcd with keyframeDue := Option.none } } : State) = s := by rw [← none]
    refine congrArg Host.Outcome.next ?_
    simp [keyframeDueOp, operate, tick0, fresh, none, same, idle, first]
  · intro s operate tick0 fresh none runs
    have same : ({ s with rcd := { s.rcd with keyframeDue := Option.none } } : State) = s := by rw [← none]
    refine congrArg Host.Outcome.next ?_
    simp [keyframeDueOp, operate, tick0, fresh, none, same, runs]
  · intro c rest head items s replay running left two hasHead hasItems
    have step : replayCycleOp s = s.replayOne c rest head items := by
      simp [replayCycleOp, replay, running, left, Nat.not_lt.2 two, hasHead, hasItems]
    obtain ⟨hmod, goesOn⟩ := replayOne_facts s c rest head items
    exact ⟨_, rfl, step, step ▸ goesOn, step ▸ hmod⟩
  · intro c rest s replay running left few
    have step : replayCycleOp s = s.endReplay 5 0xFFFFFFFF 0 0 := by simp [replayCycleOp, replay, running, left, few]
    obtain ⟨-, -, stopped, result, empty⟩ := endReplay_ends s 5 0xFFFFFFFF 0 0
    exact ⟨_, rfl, step ▸ stopped, step ▸ result, step ▸ empty⟩
  · intro s replay running left
    have step : replayCycleOp s = s.endReplay 0 0xFFFFFFFF 0 0 := by simp [replayCycleOp, replay, running, left]
    obtain ⟨-, -, stopped, result, -⟩ := endReplay_ends s 0 0xFFFFFFFF 0 0
    exact ⟨_, rfl, step ▸ stopped, step ▸ result⟩

end Sys2Proof.Machine
end

section
/-!
SUPPORT. What an operation on several lanes leaves each of them, and the end of RESET.
-/

namespace Sys2Proof.Machine

open Sys2Proof

/-! ### The state of one lane where an operation runs over several -/

/-- A lane of the set has, after an operation on every lane of the set, what the operation on this lane leaves it of what it had before,
since the operations on other lanes leave that alone. -/
theorem forLanes_own {β : Type} (g : State → β) (l : Lane) (f : State → Lane → State) (other : ∀ s m, m ≠ l → g (f s m) = g s)
    (ls : LaneSet) (inSet : ls.get l = true) (s : State) : ∃ t, g t = g s ∧ g (s.forLanes ls f) = g (f t l) := by
  have mem : l ∈ LaneSet.list ls := List.mem_filter.2 ⟨by cases l <;> decide, inSet⟩
  have once : (LaneSet.list ls).Nodup := List.Nodup.filter _ (by decide)
  have kept (lanes : List Lane) (notIn : l ∉ lanes) (t : State) : g (lanes.foldl f t) = g t := by
    induction lanes generalizing t with
    | nil => rfl
    | cons k rest ih =>
      obtain ⟨first, notRest⟩ := not_or.1 (mt List.mem_cons.2 notIn)
      exact (ih notRest _).trans (other t k (Ne.symm first))
  obtain ⟨before, after, split⟩ := List.append_of_mem mem
  rw [split, List.nodup_append_comm, List.cons_append, List.nodup_cons, List.mem_append, not_or] at once
  refine ⟨before.foldl f s, kept before once.1.2 s, ?_⟩
  rw [State.forLanes, split, List.foldl_append, List.foldl_cons, kept after once.1.1]

/-- A lane-local record notes an event and nothing of the lane's place in the vote. -/
@[simp] theorem recordLane_st (s : State) (l m : Lane) (type : Nat) (payload : List Byte) :
    ((s.recordLane l type payload).lanes.get m).core.st = (s.lanes.get m).core.st := by
  unfold State.recordLane State.noteEvent
  by_cases same : m = l
  · subst same; simp
  · simp [State.modCore, get_modLane_ne, same]

theorem failLane_st_ne (s : State) (l m : Lane) (cause : Nat) (other : m ≠ l) :
    ((s.failLane l cause).lanes.get m).core.st = (s.lanes.get m).core.st := by
  unfold State.failLane
  simp [State.modCore, get_modLane_ne, other]

/-- A lane that takes its next state changes no other lane's place in the vote. -/
theorem takeNext_core_ne (s : State) (l m : Lane) (other : m ≠ l) : ((s.takeNext l).lanes.get m).core = (s.lanes.get m).core := by
  unfold State.takeNext State.beginResync
  dsimp only
  (repeat' split) <;> simp [State.modCore, get_modLane_ne, other]

/-- Of the lanes only those in MINORITY take their next state when it is settled. -/
theorem settleMinority_st (s : State) (m : Lane) (h : (s.lanes.get m).core.st ≠ .minority) :
    (s.settleMinority.lanes.get m).core.st = (s.lanes.get m).core.st := by
  unfold State.settleMinority State.each
  refine List.foldlRecOn (motive := fun t : State => (t.lanes.get m).core.st = (s.lanes.get m).core.st) Lane.all _ rfl ?_
  intro t same l _
  split
  next taken =>
    have other : m ≠ l := by
      rintro rfl
      rw [Bool.and_eq_true, decide_eq_true_eq, laneSt_eq, same] at taken
      exact h taken.1
    rw [takeNext_core_ne t l m other, same]
  next => exact same

/-- The entry to SAFE settles the lanes in MINORITY and leaves every other where it was. -/
theorem enterSafe_st (s : State) (trigger : Nat) (m : Lane) (h : (s.lanes.get m).core.st ≠ .minority) :
    ((s.enterSafe trigger).lanes.get m).core.st = (s.lanes.get m).core.st := by
  unfold State.enterSafe
  extract_lets s1 s2 s3 s4 srcAcc srcPlink s5
  have kept : ((s5.mapLanes fun _ x => { x with core := { x.core with inAccord := false } }).lanes.get m).core.st
      = (s.lanes.get m).core.st := by simp [s5, s4, s3, s2, s1]
  rw [settleMinority_st _ m (kept ▸ h), kept]

/-! ### The events of the start -/

/-- The boot priorities of the arbiters and the locked guard windows. -/
theorem bootArbiters_lane (s : State) (l : Lane) : On s.bootArbiters fun t => (t.lanes.get l).mmu.guardLocked = true ∧
    (t.lanes.get l).arbE.active = bootPriorities ∧ (t.lanes.get l).arbD.active = bootPriorities := by
  unfold On
  simp [State.bootArbiters, State.each]

/-- The end of RESET leads to BOOT with the straps of lane A. -/
theorem resetReleaseOp_boots (a b c : StrapSample) (s : State) (inReset : s.mod.mode = .reset) (notHeld : s.mod.holdUp = false) :
    On (resetReleaseOp a b c s) fun t => t.mod.mode = .boot ∧ t.mod.pos = a.pos.toNat ∧ t.mod.sid = a.sid.toNat ∧
      ∀ l, (t.lane l).mmu.guardLocked = true ∧ (t.lane l).arbE.active = bootPriorities ∧ (t.lane l).arbD.active = bootPriorities := by
  unfold On resetReleaseOp
  rw [if_pos (by simp [inReset, notHeld])]
  extract_lets same posSame sidSame rcvSame h srcMod srcImg s1 s2
  have booted : s2.mod.mode = .boot ∧ s2.mod.pos = a.pos.toNat ∧ s2.mod.sid = a.sid.toNat := by simp [s2, s1]
  have lanes (l : Lane) : (s2.lanes.get l).mmu.guardLocked = true ∧ (s2.lanes.get l).arbE.active = bootPriorities ∧
      (s2.lanes.get l).arbD.active = bootPriorities := bootArbiters_lane _ l
  clear_value s2
  (repeat' split) <;> simp [booted, lanes]

end Sys2Proof.Machine
end

section
/-!
SUPPORT. From RESET to LOADED (O20).
-/

namespace Sys2Proof.Machine

open Sys2Proof

/-- A core rail outside its window is flagged in its lane, wherever the lane goes then. -/
theorem railFaultOp_vcore (l : Lane) (mv : Nat) (s : State) (on : s.mod.mode ≠ .off) :
    ((railFaultOp .vcore l mv s).lane l).pwr.railFault = true := by
  simp only [railFaultOp, if_neg on]
  (repeat' split) <;> simp

/-- A lane whose oscillators and rails are good and whose N_REF is within its window leaves HOLD. -/
theorem startInterlockOp_starts (l : Lane) (nref : Nat) (s : State) (inReset : s.mod.mode = .reset) (held : s.laneSt l = .hold)
    (up : s.mod.holdUp = false) (low : 2413 ≤ nref) (high : nref ≤ 2587) : On (startInterlockOp l true true true nref s) fun t =>
    t.laneSt l = .minority ∧ (t.lane l).clk.started = true := by
  rw [laneSt_eq] at held
  unfold On
  simp [startInterlockOp, inReset, held, up, low, high]

/-- A lane that does not pass the start interlock is FAILED. -/
theorem startInterlockOp_fails (l : Lane) (xt rc rails : Bool) (nref : Nat) (s : State) (inReset : s.mod.mode = .reset)
    (held : s.laneSt l = .hold) (up : s.mod.holdUp = false) (bad : (xt && rc && rails) = false) :
    (startInterlockOp l xt rc rails nref s).laneSt l = .failed := by
  rw [laneSt_eq] at held
  simp only [startInterlockOp, inReset, held, up, bad, laneSt_eq]
  cases rails <;> simp

/-- ROM boot without a slot that holds an image finds none to boot. -/
theorem bootImage_empty (s : State) (active : s.img.active.st = .empty) (pending : s.img.pending.st = .empty) : s.bootImage = none := by
  simp [State.bootImage, active, pending]

/-- The lanes whose ROM copy differs fail, and the module stays as it is. -/
theorem failRom_keeps (s : State) (ls : LaneSet) :
    On (s.forLanes ls fun s l => if s.laneSt l = .hold then s else s.failLane l 0) fun t => t.mod = s.mod ∧ t.img = s.img := by
  refine ⟨forLanes_mod _ (fun s l => ?_) _ _, forLanes_img _ (fun s l => ?_) _ _⟩ <;> (split <;> simp)

theorem romBootCompleteOp_pin (ok : LaneSet) (s : State) (boot : s.mod.mode = .boot) (low : s.mod.rcvLow = true) :
    (romBootCompleteOp ok s).mod.mode = .recovery := by
  unfold romBootCompleteOp
  rw [if_pos boot]
  extract_lets s1 src
  obtain ⟨hm, -⟩ : s1.mod = s.mod ∧ s1.img = s.img := failRom_keeps s _
  rw [if_pos (by rw [hm, low])]
  simp

theorem romBootCompleteOp_empty (ok : LaneSet) (s : State) (boot : s.mod.mode = .boot) (active : s.img.active.st = .empty)
    (pending : s.img.pending.st = .empty) : On (romBootCompleteOp ok s) fun t => t.mod.mode = .recovery ∧ t.mod.minor = 0 := by
  unfold On romBootCompleteOp
  rw [if_pos boot]
  extract_lets s1 src
  obtain ⟨-, hi⟩ : s1.mod = s.mod ∧ s1.img = s.img := failRom_keeps s _
  have noImage : s1.bootImage = none := bootImage_empty s1 (by rw [hi, active]) (by rw [hi, pending])
  clear_value s1
  split
  · simp
  · simp [noImage]

/-- An ACTIVE slot that holds no station flacon lets no lane pass the image check. -/
theorem imageCheckOp_noStation (loadOk reloadOk : LaneSet) (s : State) (loaded : s.mod.mode = .loaded) (unchecked : s.img.checked = false)
    (type : s.img.active.type ≠ 1) : On (imageCheckOp loadOk reloadOk s) fun t =>
    t.img.checked = true ∧ t.img.passed = LaneSet.none ∧ t.mod = s.mod := by
  have noPass : LaneSet.count LaneSet.none < 2 := by decide
  unfold On
  simp [imageCheckOp, loaded, unchecked, type, noPass]

/-- A VRD that is not as it must be fails every lane that answers, and no lane is left to go on. -/
theorem selftestCompleteOp_vrd (tests : PerLane StartTest) (vrd : VrdCheck) (s : State) (inTest : s.mod.mode = .selftest)
    (bad : vrdPassed vrd = false) : On (selftestCompleteOp tests vrd s) fun t =>
    t.mod.mode = .safe ∧ ∀ l, s.replyingLanes.get l = true → t.laneSt l = .failed := by
  unfold On selftestCompleteOp
  rw [if_pos inTest]
  extract_lets vrdOk live s1 s2 sharedBad pass s3
  have noPass (l : Lane) : pass l = false := by simp [pass, sharedBad, vrdOk, bad]
  clear_value s2
  have fails (l : Lane) (inLive : live.get l = true) : (s3.lanes.get l).core.st = .failed := by
    obtain ⟨t, -, own⟩ := forLanes_own (fun t => (t.lanes.get l).core.st) l
      (fun s l => if pass l then s.modCore l fun c => { c with passed := true } else s.failLane l 0)
      (fun t m other => by simp [noPass, failLane_st_ne t m l 0 other.symm]) live inLive s2
    exact own.trans (by simp [noPass])
  have nobody : (LaneSet.list live).filter pass = [] := List.filter_eq_nil_iff.2 fun l _ => by rw [noPass l]; exact Bool.false_ne_true
  rw [if_neg (by rw [nobody]; decide)]
  refine ⟨by simp, fun l inLive => ?_⟩
  rw [laneSt_eq, enterSafe_st s3 11 l (by simp [fails l inLive]), fails l inLive]

/-- Three lanes that pass every test enter LOADED. -/
theorem selftestCompleteOp_passes (tests : PerLane StartTest) (vrd : VrdCheck) (s : State) (inTest : s.mod.mode = .selftest)
    (all : s.replyingLanes = LaneSet.full) (good : ∀ l, (PerLane.get tests l).march = true ∧ (tests.get l).fails = [])
    (vrdGood : vrdPassed vrd = true) (stopped : s.fch.vrdRunning = false) : On (selftestCompleteOp tests vrd s) fun t =>
    t.mod.mode = .loaded ∧ ∀ l, (t.lane l).core.passed = true := by
  unfold On selftestCompleteOp
  rw [if_pos inTest]
  extract_lets vrdOk live s1 s2 sharedBad pass s3
  have passes (l : Lane) : pass l = true := by simp [pass, sharedBad, vrdOk, vrdGood, stopped, good]
  have liveFull : live = LaneSet.full := all
  clear_value s2
  have passed (l : Lane) : (s3.lanes.get l).core.passed = true := by
    obtain ⟨t, -, own⟩ := forLanes_own (fun t => (t.lanes.get l).core.passed) l
      (fun s l => if pass l then s.modCore l fun c => { c with passed := true } else s.failLane l 0)
      (fun t m other => by simp [passes, State.modCore, get_modLane_ne, other.symm]) live (by rw [liveFull]; cases l <;> rfl) s2
    exact own.trans (by simp [passes])
  have everybody : (LaneSet.list live).filter pass = LaneSet.list LaneSet.full := by
    rw [List.filter_eq_self.2 fun l _ => passes l, liveFull]
  rw [if_pos (by rw [everybody]; decide)]
  exact ⟨by simp, fun l => by simp [passed]⟩

/-- Settles O20: what the end of RESET, the rails, the start interlock, ROM boot, the tests and the image check do, each by its rule. -/
theorem startCommands : Obligations.StartCommands := by
  refine ⟨?_, ?_, ?_, ?_, ?_, ?_, ?_, ?_, ?_, ?_⟩
  · intro a b c s inReset notHeld
    exact ⟨_, rfl, resetReleaseOp_boots a b c s inReset notHeld⟩
  · intro l mv s on
    exact ⟨_, rfl, railFaultOp_vcore l mv s on⟩
  · intro l mv s on
    refine ⟨_, rfl, ?_⟩
    simp [railFaultOp, on]
  · intro l nref s inReset held up low high
    exact ⟨_, rfl, startInterlockOp_starts l nref s inReset held up low high⟩
  · intro l xt rc rails nref s inReset held up bad
    exact ⟨_, rfl, startInterlockOp_fails l xt rc rails nref s inReset held up bad⟩
  · intro ok s boot low
    exact ⟨_, rfl, romBootCompleteOp_pin ok s boot low⟩
  · intro ok s boot active pending
    exact ⟨_, rfl, romBootCompleteOp_empty ok s boot active pending⟩
  · intro tests vrd s inTest all good vrdGood stopped
    exact ⟨_, rfl, selftestCompleteOp_passes tests vrd s inTest all good vrdGood stopped⟩
  · intro tests vrd s inTest bad
    exact ⟨_, rfl, selftestCompleteOp_vrd tests vrd s inTest bad⟩
  · intro loadOk reloadOk s loaded unchecked type
    exact ⟨_, rfl, imageCheckOp_noStation loadOk reloadOk s loaded unchecked type⟩

end Sys2Proof.Machine
end

section
/-!
SUPPORT. DORMANT (O22), the accord, INTEGRATE, OPERATE and the degraded time (O21).
-/

namespace Sys2Proof.Machine

open Sys2Proof

/-! ### Sets of lanes -/

@[simp] theorem get_inter (u v : LaneSet) (l : Lane) : (LaneSet.inter u v).get l = (u.get l && v.get l) := by cases l <;> rfl

@[simp] theorem get_votingLanes (s : State) (l : Lane) : s.votingLanes.get l = decide ((s.lanes.get l).core.st = .voting) := by
  cases l <;> rfl

theorem count_eq_zero (u : LaneSet) (empty : ∀ l, u.get l = false) : LaneSet.count u = 0 := by
  rw [LaneSet.count, LaneSet.list, List.filter_eq_nil_iff.2 fun l _ => by rw [empty l]; exact Bool.false_ne_true, List.length_nil]

/-! ### The entries to INTEGRATE and OPERATE -/

/-- What the entry to INTEGRATE makes of the module. -/
@[simp] theorem enterIntegrate_mod (s : State) (trigger : Nat) : (s.enterIntegrate trigger).mod =
    { s.mod with mode := .integrate, role := if s.mod.pos = 0 then .solo else .tender, cycle := 0, waking := none, dormant := none } := by
  simp [State.enterIntegrate]

@[simp] theorem setCond_mod (s : State) (c : Cond) (reason : Nat) : (s.setCond c reason).mod = { s.mod with cond := c } := by
  unfold State.setCond
  split
  next same => rw [← same]
  next => simp

/-- The judgement of the partner's levels changes no more of the module than its condition. -/
@[simp] theorem judgeLevels_cycle (s : State) : s.judgeLevels.mod.cycle = s.mod.cycle := by
  unfold State.judgeLevels State.digestDiffers
  dsimp only
  (repeat' split) <;> simp [State.beginPartnerResync]

@[simp] theorem enterOperate_mode (s : State) : s.enterOperate.mod.mode = .operate := by
  simp [State.enterOperate]

@[simp] theorem enterOperate_cycle (s : State) : s.enterOperate.mod.cycle = 0 := by
  simp [State.enterOperate]

/-! ### DORMANT -/

/-- At the end of the entry to DORMANT what runs goes to its lowest level. -/
theorem dormantEntryCompleteOp_rests (ms : Nat) (s : State) (dormant : s.mod.mode = .dormant)
    (entering : s.mod.dormant.any DormantS.entering = true) : On (dormantEntryCompleteOp ms s) fun t =>
    t.mod.mode = .dormant ∧ t.mod.edgeGate = 0x24 ∧ t.mod.dormant.any DormantS.entering = false ∧
      ∀ l, s.laneSt l = .voting → (t.lane l).pwr.level = 3 ∧ (t.lane l).clk.static = 3 := by
  unfold On dormantEntryCompleteOp
  rw [if_pos (by simp [dormant, entering])]
  refine ⟨by simp [dormant], by simp, ?_, fun l voting => ?_⟩
  · cases s.mod.dormant <;> simp
  · rw [laneSt_eq] at voting
    simp [voting]

/-- A wake begins where DORMANT was entered from a ready module. -/
theorem wakeTrigger_begins (s : State) (which : Nat) (d : DormantS) (dormant : s.mod.mode = .dormant) (idle : s.mod.waking = none)
    (hd : s.mod.dormant = some d) (ready : (d.fromOperate || d.condsMet) = true) : On (s.wakeTrigger which) fun t =>
    t.mod.mode = .dormant ∧ t.mod.waking = some which ∧ t.mod.edgeGate = 0x3F := by
  unfold On State.wakeTrigger
  rw [if_pos (by simp [dormant, idle])]
  extract_lets src1 s1 src2 s2 src3
  have kept : s1.mod = s.mod := by
    simp only [s1]
    split <;> simp [src1]
  rw [if_pos (by simpa [hd] using ready)]
  simp [src3, s2, src2, kept, dormant]

/-- Where it was not, a wake goes through RESET. -/
theorem wakeTrigger_resets (s : State) (which : Nat) (d : DormantS) (dormant : s.mod.mode = .dormant) (idle : s.mod.waking = none)
    (hd : s.mod.dormant = some d) (unready : (d.fromOperate || d.condsMet) = false) : (s.wakeTrigger which).mod.mode = .reset := by
  unfold State.wakeTrigger
  rw [if_pos (by simp [dormant, idle])]
  extract_lets src1 s1 src2 s2 src3
  rw [if_neg (by simpa [hd] using unready)]
  exact enterReset_mode s2 20

/-- A wake that every voting lane passes leads to INTEGRATE. -/
theorem wakeCompleteOp_passes (s : State) (w : Nat) (d : DormantS) (dormant : s.mod.mode = .dormant) (waking : s.mod.waking = some w)
    (hd : s.mod.dormant = some d) (all : d.voting = LaneSet.full)
    (votes : s.votingLanes = LaneSet.full) : On (wakeCompleteOp LaneSet.full LaneSet.full LaneSet.full s) fun t =>
    t.mod.mode = .integrate ∧ t.mod.waking = none ∧ t.mod.dormant = none := by
  have full (l : Lane) : LaneSet.full.get l = true := by cases l <;> rfl
  unfold On wakeCompleteOp
  rw [dormant, waking, hd]
  dsimp only
  have same : (s.forLanes d.voting fun s l => if d.notPassing.get l then s
      else if !LaneSet.full.get l || !LaneSet.full.get l then s.failLane l 0
      else if !LaneSet.full.get l then (s.withdraw l).modCore l fun c => { c with st := .out } else s) = s := by
    refine keep_foldl id _ (fun t l => ?_) _ s
    simp [full]
  rw [same, all, votes, if_pos (by decide)]
  simp

/-- A wake that no lane passes leads to SAFE, with none pending. -/
theorem wakeCompleteOp_fails (s : State) (w : Nat) (d : DormantS) (dormant : s.mod.mode = .dormant) (waking : s.mod.waking = some w)
    (hd : s.mod.dormant = some d) (none : d.notPassing = LaneSet.none) :
    On (wakeCompleteOp LaneSet.none LaneSet.none LaneSet.none s) fun t => t.mod.mode = .safe ∧ t.mod.waking = .none ∧ t.mod.dormant = .none := by
  have empty (l : Lane) : LaneSet.none.get l = false := by cases l <;> rfl
  unfold On wakeCompleteOp
  rw [dormant, waking, hd]
  dsimp -zeta only
  extract_lets s1 pass s2 anew t src
  have failed (l : Lane) (inVote : d.voting.get l = true) : (s1.lanes.get l).core.st = .failed := by
    obtain ⟨t, -, own⟩ := forLanes_own (fun t => (t.lanes.get l).core.st) l
      (fun s l => if d.notPassing.get l then s else if !LaneSet.none.get l || !LaneSet.none.get l then s.failLane l 0
        else if !LaneSet.none.get l then (s.withdraw l).modCore l fun c => { c with st := .out } else s)
      (fun t m other => by simp [none, empty, failLane_st_ne t m l 0 other.symm]) d.voting inVote s
    exact own.trans (by simp [none, empty])
  have nobody (l : Lane) : pass.get l = false := by
    cases inVote : d.voting.get l
    · simp [pass, inVote]
    · simp [pass, failed l inVote]
  rw [if_neg (by rw [count_eq_zero pass nobody]; decide)]
  simp [src, t]

/-- Settles O22: the end of the entry, the two ways a wake begins and the two ways it is judged. -/
theorem dormantCommands : Obligations.DormantCommands := by
  refine ⟨?_, ?_, ?_, ?_, ?_⟩
  · intro ms s dormant entering
    exact ⟨_, rfl, dormantEntryCompleteOp_rests ms s dormant entering⟩
  · intro s d dormant idle hd ready
    exact ⟨_, rfl, wakeTrigger_begins s 1 d dormant idle hd ready⟩
  · intro s d dormant idle hd unready
    exact ⟨_, rfl, wakeTrigger_resets s 1 d dormant idle hd unready⟩
  · intro s w d dormant waking hd all _ votes
    exact ⟨_, rfl, wakeCompleteOp_passes s w d dormant waking hd all votes⟩
  · intro s w d dormant waking hd none
    exact ⟨_, rfl, wakeCompleteOp_fails s w d dormant waking hd none⟩

/-! ### The accord forms and ends, and the degraded time -/

/-- Three lanes that can join and have heard each other vote once the accord has formed. -/
theorem accordFormedOp_forms (s : State) (due : s.formationDue = true) (joinable : s.joinable = LaneSet.full) :
    On (accordFormedOp (PerLane.pure LaneSet.full) s) fun t => (∀ l, t.laneSt l = .voting) ∧ t.acc.voting = LaneSet.full ∧
      t.acc.formation.any Formation.formed = true := by
  have all : votingSetOf (PerLane.pure LaneSet.full) LaneSet.full = some LaneSet.full := by decide
  unfold On accordFormedOp
  rw [if_pos due, joinable, all]
  refine ⟨fun l => ?_, rfl, rfl⟩
  obtain ⟨t, -, own⟩ := forLanes_own (fun t => (t.lanes.get l).core.st) l (fun s l => s.modCore l fun c => { c with st := .voting })
    (fun t m other => by simp [State.modCore, get_modLane_ne, other.symm]) LaneSet.full (by cases l <;> rfl) s
  exact own.trans (by simp)

theorem recordLane_events_same (s : State) (l : Lane) (type : Nat) (payload : List Byte) :
    ((s.recordLane l type payload).lanes.get l).core.events = (s.lanes.get l).core.events ||| 1 := by
  simp [State.recordLane, State.noteEvent]

theorem recordLane_core_ne (s : State) (l m : Lane) (type : Nat) (payload : List Byte) (other : m ≠ l) :
    ((s.recordLane l type payload).lanes.get m).core = (s.lanes.get m).core := by
  simp [State.recordLane, State.noteEvent, State.modCore, get_modLane_ne, other]

/-- Where no accord forms each lane that answers hands over a record, which its next MARK reports. -/
theorem accordFormationTimeoutOp_notes (views : PerLane (PerLane LaneSet)) (s : State) (loaded : s.mod.mode = .loaded)
    (checked : s.img.checked = true) (unformed : s.acc.formation = none) (l : Lane) (answers : s.replyingLanes.get l = true) :
    ((accordFormationTimeoutOp views s).lane l).core.events = (s.lane l).core.events ||| 1 := by
  unfold accordFormationTimeoutOp
  rw [if_pos (by simp [loaded, checked, unformed])]
  obtain ⟨t, before, own⟩ := forLanes_own (fun t => (t.lanes.get l).core.events) l
    (fun t l =>
      let same := if t.img.passed.get l then t.img.passed else LaneSet.none
      let v := views.get l
      t.recordLane l 0x0152 (fields [(1, l.id), (1, LaneSet.bits v.a), (1, LaneSet.bits v.b), (1, LaneSet.bits v.c),
        (1, LaneSet.bits same), (3, 0)]))
    (fun t m other => by dsimp only; rw [recordLane_core_ne t m l _ _ other.symm]) s.replyingLanes answers s
  exact own.trans ((recordLane_events_same t l _ _).trans (congrArg (· ||| 1) before))

/-- A message to the partner leaves what the pair has agreed on of a switchover. -/
@[simp] theorem sendControl_switch (s : State) (kind : Nat) (body : List Byte) (done : Option Completion) :
    On (s.sendControl kind body done) fun t => t.plink.switchAt = s.plink.switchAt ∧ t.plink.safeAfter = s.plink.safeAfter := ⟨rfl, rfl⟩

/-- The end of the degraded time brings SAFE where no healthy tender can take over. -/
theorem degradedExpire_safe (s : State) (degraded : s.degraded = true) (alone : s.mod.role ≠ .lead ∨ s.tenderReady = false) :
    (degradedExpire s).mod.mode = .safe := by
  have stays : ¬ (decide (s.mod.role = .lead) && s.tenderReady) = true := by
    rcases alone with role | unready
    · simp [role]
    · simp [unready]
  simp [degradedExpire, degraded, stays]

/-- Where one can, the lead hands over to it. -/
theorem degradedExpire_hands_over (s : State) (degraded : s.degraded = true) (lead : s.mod.role = .lead) (ready : s.tenderReady = true)
    (idle : s.plink.switchAt = none) : On (degradedExpire s) fun t =>
    t.mod.mode = .operate ∧ t.plink.switchAt = some (s.mod.cycle.toNat + 20) ∧ t.plink.safeAfter = true := by
  have operate : s.mod.mode = .operate := by
    rw [State.degraded, Bool.and_eq_true, decide_eq_true_eq] at degraded
    exact degraded.1
  unfold On degradedExpire
  rw [if_pos degraded]
  simp [lead, ready, idle, operate, State.beginSwitchover]

/-- Settles O21: the accord's two ends, the two entries by what they make of the module, and the degraded time's two ends. -/
theorem accordAndModeCommands : Obligations.AccordAndModeCommands := by
  refine ⟨?_, ?_, ?_, ?_, ?_, ?_, ?_⟩
  · intro s due joinable
    exact ⟨_, rfl, accordFormedOp_forms s due joinable⟩
  · intro views s loaded checked unformed
    exact ⟨_, rfl, accordFormationTimeoutOp_notes views s loaded checked unformed⟩
  · intro s loaded conditions
    refine ⟨_, rfl, ?_⟩
    simp [loadedConditionsMetOp, loaded, conditions]
  · intro s integrate rounds three
    refine ⟨_, rfl, ?_⟩
    simp [integrationCompleteOp, integrate, rounds, three]
  · intro s degraded alone
    exact ⟨_, rfl, degradedExpire_safe s degraded alone⟩
  · intro s degraded lead ready idle
    exact ⟨_, rfl, degradedExpire_hands_over s degraded lead ready idle⟩
  · intro s operate three
    exact congrArg Host.Outcome.next (if_pos (by simp [operate, three]))

end Sys2Proof.Machine
end

section
/-!
SUPPORT. What losing a lane can do to the mode: keep it, or bring SAFE to a module that runs cycles.
-/

namespace Sys2Proof.Machine

open Sys2Proof

/-- The mode is kept, or a module that runs cycles has gone to SAFE: what losing a lane can do (R19, R63). -/
def FallsSafe (s t : State) : Prop := t.mod.mode = s.mod.mode ∨ s.mod.mode.cycles = true ∧ t.mod.mode = .safe

namespace FallsSafe

theorem refl (s : State) : FallsSafe s s := .inl rfl

theorem of_mode {s t : State} (h : t.mod.mode = s.mod.mode) : FallsSafe s t := .inl h

theorem enterSafe {s : State} (u : State) (n : Nat) (h : s.mod.mode.cycles = true) : FallsSafe s (u.enterSafe n) := .inr ⟨h, enterSafe_mode u n⟩

/-- SAFE runs no cycles, so a second step of the kind leaves it. -/
theorem trans {s t u : State} (h : FallsSafe s t) (k : FallsSafe t u) : FallsSafe s u := by
  obtain ht | ⟨hc, ht⟩ := h
  · simpa [FallsSafe, ht] using k
  · obtain hu | ⟨hc', -⟩ := k
    · exact .inr ⟨hc, hu.trans ht⟩
    · simp [ht, Mode.cycles] at hc'

theorem after {s t u : State} (k : FallsSafe t u) (h : t.mod.mode = s.mod.mode) : FallsSafe s u := (of_mode h).trans k

theorem each {α : Type} (f : State → α → State) (h : ∀ s x, FallsSafe s (f s x)) (l : List α) (s : State) : FallsSafe s (s.each l f) := by
  induction l generalizing s with
  | nil => exact refl s
  | cons x r ih => exact (h s x).trans (ih (f s x))

theorem forLanes (f : State → Lane → State) (h : ∀ s l, FallsSafe s (f s l)) (ls : LaneSet) (s : State) : FallsSafe s (s.forLanes ls f) :=
  each f h ls.list s

end FallsSafe

theorem leaveVote_fallsSafe (s : State) (l : Lane) (cause sub : Nat) : FallsSafe s (s.leaveVote l cause sub) := by
  unfold State.leaveVote
  dsimp only
  split
  · next h =>
    have cycles : s.mod.mode.cycles = true := by simp_all
    exact .enterSafe _ 16 cycles
  · exact .of_mode (by simp)

theorem leaveAll_fallsSafe (s : State) (ls : LaneSet) (cause sub : Nat) : FallsSafe s (s.leaveAll ls cause sub) :=
  .forLanes _ (fun s l => leaveVote_fallsSafe s l cause sub) ls s

/-! ### Power and the start -/

theorem railFaultOp_fallsSafe (rail : Rail) (l : Lane) (mv : Nat) (s : State) : FallsSafe s (railFaultOp rail l mv s) := by
  unfold railFaultOp
  split
  · exact .refl s
  · extract_lets laneRail src edge
    have lane (code : Nat) (f : PwrS → PwrS) : FallsSafe s (laneRail code f) := by
      simp only [laneRail]
      split
      · exact .of_mode (by simp)
      · split
        · exact .after (leaveVote_fallsSafe _ l 8 0) (by simp)
        · exact .after (leaveVote_fallsSafe _ l 8 0) (by simp)
    split
    · exact lane 0 _
    · exact lane 1 _
    · exact .of_mode (by simp [src])
    · exact .of_mode (by simp [src])
    · exact .after (leaveAll_fallsSafe edge .full 8 0) (by simp [edge, src])

theorem startLevel_fallsSafe (s : State) (l : Lane) : FallsSafe s (s.startLevel l) := by
  unfold State.startLevel
  dsimp only
  (repeat' split)
  · exact .of_mode (by simp)
  · exact .of_mode (by simp)
  · exact .of_mode (by simp)
  · exact .after (leaveVote_fallsSafe _ l 8 0) (by simp)

/-- In LOADED no lane's loss brings SAFE. -/
theorem imageCheckOp_mode (loadOk reloadOk : LaneSet) (s : State) : (imageCheckOp loadOk reloadOk s).mod.mode = s.mod.mode := by
  unfold imageCheckOp
  split
  · next h =>
    extract_lets r live pass src s1 s2 src2 src3 s3 s4
    have checked : s2.mod.mode = s.mod.mode := forLanes_mode _ (fun s l => by split <;> simp) _ s1
    have levels : FallsSafe s s4 := .after (.forLanes _ startLevel_fallsSafe s3.img.passed s3.applyChannels) (by simpa using checked)
    have loaded : s.mod.mode = .loaded := by simp_all
    have kept : s4.mod.mode = s.mod.mode := by simpa [FallsSafe, loaded, Mode.cycles] using levels
    split
    · simp [s1]
    · split <;> simp [kept]
  · rfl

theorem canaryOp_fallsSafe (l : Lane) (speed : Nat) (s : State) : FallsSafe s (canaryOp l speed s) := by
  unfold canaryOp
  split
  · exact .refl s
  · extract_lets v s1 s2 lv
    have read : s2.mod.mode = s.mod.mode := by simp [s2, s1]
    (repeat' split)
    · exact .of_mode read
    · exact .after (leaveVote_fallsSafe _ l 8 0) (by simp [read])
    · exact .of_mode (by simp [read])
    · exact .of_mode read

theorem railGoodTimeoutOp_fallsSafe (l : Lane) (s : State) : FallsSafe s (railGoodTimeoutOp l s) := by
  unfold railGoodTimeoutOp
  (repeat' split)
  · exact .after (leaveVote_fallsSafe _ l 8 0) (by simp)
  · exact .refl s
  · exact .refl s

theorem degradedExpire_fallsSafe (s : State) : FallsSafe s (degradedExpire s) := by
  unfold degradedExpire
  split
  · next h =>
    have cycles : s.mod.mode.cycles = true := by simp_all [State.degraded, Mode.cycles]
    dsimp only
    (repeat' split)
    · exact .of_mode (by simp)
    · exact .of_mode (by simp)
    · exact .enterSafe _ 18 cycles
  · exact .refl s

theorem housekeeperTimeoutOp_fallsSafe (s : State) : FallsSafe s (housekeeperTimeoutOp s) := by
  unfold housekeeperTimeoutOp
  split
  · next h =>
    have cycles : s.mod.mode.cycles = true := by simp_all
    exact .enterSafe _ 19 cycles
  · exact .refl s

/-! ### Clocks -/

theorem failClock_fallsSafe (s : State) (l : Lane) : FallsSafe s (s.failClock l) := by
  refine (FallsSafe.after (leaveVote_fallsSafe (s.recordClock l 6) l 6 0) (by simp)).trans (.of_mode ?_)
  simp [State.failClock]

theorem enterHold_fallsSafe (s : State) (l : Lane) : FallsSafe s (s.enterHold l) := by
  unfold State.enterHold
  dsimp only
  split
  · next h =>
    have cycles : s.mod.mode.cycles = true := by simp_all
    exact .enterSafe _ 16 cycles
  · exact .of_mode (by simp)

theorem clockTrip_fallsSafe (s : State) (l : Lane) : FallsSafe s (s.clockTrip l) := by
  unfold State.clockTrip
  extract_lets c s1 s2
  split
  · exact .refl s
  · have held : FallsSafe s s2 := by
      simp only [s2]
      (repeat' split)
      · exact .of_mode (by simp [s1])
      · exact .after (failClock_fallsSafe s1 l) (by simp [s1])
      · exact .after (enterHold_fallsSafe s1 l) (by simp [s1])
    exact held.trans (.of_mode (by simp))

theorem oscillatorUnstableOp_fallsSafe (l : Lane) (osc : Osc) (s : State) : FallsSafe s (oscillatorUnstableOp l osc s) := by
  unfold oscillatorUnstableOp
  extract_lets c s1
  have kept : s1.mod.mode = s.mod.mode := by simp [s1]
  split
  · exact .refl s
  · split
    · exact .after (clockTrip_fallsSafe _ l) (by simp)
    · (repeat' split)
      · exact .of_mode kept
      · exact .trans (.after (failClock_fallsSafe s1 l) kept) (.of_mode (by simp))
      · exact .of_mode (by simp [kept])

theorem monitorWindowOp_fallsSafe (l : Lane) (count : Nat) (s : State) : FallsSafe s (monitorWindowOp l count s) := by
  unfold monitorWindowOp
  dsimp only
  (repeat' split)
  · exact .refl s
  · exact .after (clockTrip_fallsSafe _ l) (by simp)
  · exact .of_mode (by simp)

theorem stallOp_fallsSafe (l : Lane) (crossing : Nat) (addr : BitVec 36) (s : State) : FallsSafe s (stallOp l crossing addr s) := by
  unfold stallOp
  split
  · exact .refl s
  · exact .after (leaveVote_fallsSafe _ l 3 0) (by simp)

/-! ### Ticks and the accord -/

theorem overrun_fallsSafe (s : State) (l : Lane) : FallsSafe s (s.overrun l) := .after (leaveVote_fallsSafe _ l 4 0) (by simp)

theorem tickDeadlineOp_fallsSafe (l : Lane) (s : State) : FallsSafe s (tickDeadlineOp l s) := by
  unfold tickDeadlineOp
  split
  · exact overrun_fallsSafe s l
  · exact .refl s

theorem engineCheck_fallsSafe (s : State) : FallsSafe s s.engineCheck := by
  refine .forLanes _ (fun s l => ?_) _ s
  dsimp only
  (repeat' split)
  · exact .after (overrun_fallsSafe _ l) (by simp)
  · exact .of_mode (by simp)
  · exact leaveVote_fallsSafe s l 7 0
  · exact .refl s

theorem fixVote_fallsSafe (s : State) (table : PerLane LaneSet) : FallsSafe s (s.fixVote table) := by
  unfold State.fixVote
  extract_lets was late onTime lone s1 s2 s3 src
  have marks : FallsSafe s s1 := .forLanes _ overrun_fallsSafe late s
  split
  · refine marks.trans (.forLanes _ (fun s l => ?_) _ s1)
    split
    · exact .after (leaveVote_fallsSafe _ l 5 2) (by simp)
    · exact leaveVote_fallsSafe s l 5 1
  · have alone : FallsSafe s s2 := marks.trans (.forLanes _ (fun s l => .after (leaveVote_fallsSafe _ l 5 2) (by simp)) lone s1)
    refine alone.trans ?_
    show FallsSafe s2 s3
    simp only [s3]
    split
    · next h => exact .enterSafe _ 16 h
    · exact .refl s2

theorem tick0_fallsSafe (s : State) (clock : PerLane (BitVec 64)) (h : s.mod.mode.cycles = true) : FallsSafe s (s.tick0 clock) := by
  unfold State.tick0
  extract_lets first s1 begin_ s2 src s3 s4 shot
  have begun : s1.mod.mode = s.mod.mode := each_mode _ (fun s l => by (repeat' split) <;> simp) Lane.all s
  split
  · exact .enterSafe s4 18 h
  · exact .of_mode (by simp [s4, s3, src, s2, begun])

/-- A boundary within a cycle, or into the next, ends in SAFE or keeps the mode. -/
theorem nextTick_fallsSafe (s : State) (clock : PerLane (BitVec 64)) (safe : Bool) (k : Nat) (cycles : s.mod.mode.cycles = true) :
    FallsSafe s (if safe then s.enterSafe 17 else (if k = 0 then s.tick0 clock else s).heartbeats.edgeSelect) := by
  have beats (t : State) : t.heartbeats.edgeSelect.mod.mode = t.mod.mode := by
    unfold State.edgeSelect
    (repeat' split) <;> simp
  split
  · exact .enterSafe s 17 cycles
  · split
    · exact (tick0_fallsSafe s clock cycles).trans (.of_mode (beats _))
    · exact .of_mode (beats s)

theorem tickBoundaryOp_fallsSafe (marks views : PerLane LaneSet) (clock : PerLane (BitVec 64)) (s : State) :
    FallsSafe s (tickBoundaryOp marks views clock s) := by
  unfold tickBoundaryOp
  split
  · exact .refl s
  extract_lets p s1 table heard s2 s3 k srcAcc srcIxl srcSheets s4 s5
  have passed : p.mod.mode = s.mod.mode := by simp [p]
  have checked : FallsSafe s s1 := by
    simp only [s1]
    split
    · exact .after (engineCheck_fallsSafe p) passed
    · exact .of_mode passed
  split
  · exact checked.trans (.of_mode (by simp))
  have voted : FallsSafe s s3 := checked.trans ((fixVote_fallsSafe s1 table).trans (.of_mode (by simp [s3, s2])))
  split
  · exact voted
  next running =>
  have cycles : s4.mod.mode.cycles = true := by simpa using running
  exact voted.trans (.after (nextTick_fallsSafe s4 clock _ k cycles) rfl)

theorem rxMismatch_fallsSafe (s : State) (l : Lane) (x : Nat × Nat × Nat) : FallsSafe s (s.rxMismatch l x) := by
  unfold State.rxMismatch
  dsimp only
  split
  · exact .after (leaveVote_fallsSafe _ l 5 6) (by simp)
  · exact .of_mode (by simp)

theorem accordedSetOp_fallsSafe (received : PerLane LaneSet) (s : State) : FallsSafe s (accordedSetOp received s) := by
  unfold accordedSetOp
  split
  · extract_lets voting lost props set computed due src s1
    split
    · exact .of_mode rfl
    · next a _ =>
      refine FallsSafe.after (.each _ (fun s p => ?_) _ s1) rfl
      have heard : FallsSafe s (s.each (mismatches a p) fun s x => if s.laneSt p.lane = .voting then s.rxMismatch p.lane x else s) := by
        refine .each _ (fun s x => ?_) _ s
        split
        · exact rxMismatch_fallsSafe s p.lane x
        · exact .refl s
      exact heard.trans (.of_mode (by simp))
  · exact .refl s

theorem fetchTimeoutOp_fallsSafe (l : Lane) (s : State) : FallsSafe s (fetchTimeoutOp l s) := by
  unfold fetchTimeoutOp
  split
  · exact leaveVote_fallsSafe s l 5 3
  · exact .refl s

theorem inputAccordOp_fallsSafe (sent : LaneSet) (wrong : PerLane (BitVec 64)) (units : Nat) (s : State) :
    FallsSafe s (inputAccordOp sent wrong units s) := by
  unfold inputAccordOp
  split
  · next h =>
    have cycles : s.mod.mode.cycles = true := by simp_all [State.accordOpen]
    extract_lets voting heard hash hs src s1 s2
    have kept : s2.mod.mode = s.mod.mode := by simp [s2, s1]
    split
    · exact .enterSafe s2 17 cycles
    · extract_lets s3
      have voted : FallsSafe s s3 := .after (.forLanes _ (fun s l => leaveVote_fallsSafe s l 5 _) _ s2) kept
      split
      · exact voted.trans (.of_mode (by simp))
      · exact voted
  · exact .refl s

/-! ### The arbiters and memory errors -/

theorem forceRelease_fallsSafe (s : State) (l : Lane) (p : MemPort) (kind : Nat) : FallsSafe s (s.forceRelease l p kind) :=
  .after (leaveVote_fallsSafe _ l 7 0) (by simp)

theorem arbiterOp_fallsSafe (l : Lane) (p : MemPort) (idle : Nat) (present : List ArbRequest) (s : State) :
    FallsSafe s (arbiterOp l p idle present s) := by
  unfold arbiterOp
  split
  · extract_lets t a ids exceeded s1 b
    have freed : FallsSafe s s1 := by
      simp only [s1]
      split
      · exact .after (forceRelease_fallsSafe t l p 0) (by simp [t])
      · exact .of_mode (by simp [t])
    split
    · exact freed
    · exact freed.trans (.of_mode (by simp))
  · exact .refl s

theorem lockOverrunOp_fallsSafe (l : Lane) (p : MemPort) (s : State) : FallsSafe s (lockOverrunOp l p s) := by
  unfold lockOverrunOp
  dsimp only
  split
  · exact forceRelease_fallsSafe s l p 0
  · exact .refl s

theorem lockIdleOp_fallsSafe (l : Lane) (p : MemPort) (s : State) : FallsSafe s (lockIdleOp l p s) := by
  unfold lockIdleOp
  split
  · exact forceRelease_fallsSafe s l p 1
  · exact .refl s

theorem eccUncorrectableOp_fallsSafe (l : Lane) (requester : Option Nat) (a : Nat) (afterProposal isReply : Bool) (s : State) :
    FallsSafe s (eccUncorrectableOp l requester a afterProposal isReply s) := by
  unfold eccUncorrectableOp
  split
  · extract_lets s1 s2
    have kept : s2.mod.mode = s.mod.mode := by simp [s2, s1, State.recordUncorrected]
    (repeat' split)
    · exact .after (leaveVote_fallsSafe s2 l 2 0) kept
    · exact .of_mode (by simp [kept])
    · exact .after (leaveVote_fallsSafe s2 l 2 0) kept
    · exact .of_mode (by simp [kept])
    · exact .of_mode (by simp [kept])
    · exact .of_mode (by simp [kept])
    · exact .of_mode kept
  · exact .refl s

theorem scrubReadOp_fallsSafe (l : Lane) (s : State) : FallsSafe s (scrubReadOp l s) := by
  unfold scrubReadOp
  split
  · extract_lets w s1 a
    have kept : s1.mod.mode = s.mod.mode := by simp [s1]
    split
    · exact .after (eccUncorrectableOp_fallsSafe l none a false false s1) kept
    · exact .of_mode kept
  · exact .refl s

theorem dbgRead_fallsSafe (s : State) (l : Lane) (a : Nat) : FallsSafe s (s.dbgRead l a) := by
  unfold State.dbgRead
  extract_lets t m
  have latched : t.mod.mode = s.mod.mode := by
    simp only [t]
    split <;> simp
  split
  · exact .of_mode (by simp)
  split
  · split
    · exact .of_mode (by simp [latched])
    · exact .of_mode (by simp)
  split
  · exact .of_mode (by simp)
  split
  next b _ => exact .trans (eccUncorrectableOp_fallsSafe l (some 7) b false false s) (.of_mode (by simp))
  next => exact .of_mode (by simp)

/-! ### Outputs, the refresh and the self-test slice -/

theorem routeEngineOp_fallsSafe (l : Lane) (us steps : Nat) (faults : List ItemFault) (s : State) :
    FallsSafe s (routeEngineOp l us steps faults s) := by
  unfold routeEngineOp
  split
  · extract_lets late s1 src s2
    have kept : s2.mod.mode = s.mod.mode := by simp [s2, s1]
    split
    · exact .after (overrun_fallsSafe s2 l) kept
    · exact .of_mode kept
  · exact .refl s

theorem outAccord_fallsSafe (s : State) (sent : LaneSet) (wrong : PerLane (BitVec 64)) : FallsSafe s (s.outAccord sent wrong) := by
  unfold State.outAccord
  extract_lets voting heard hash hs src s1
  have kept : s1.mod.mode = s.mod.mode := by simp [s1]
  split
  · exact .of_mode kept
  · next v _ =>
    extract_lets odd s2 s3 s4
    have marked : s2.mod.mode = s1.mod.mode := forLanes_mode _ (fun s l => by split <;> simp) odd s1
    have left : FallsSafe s s3 := .after (leaveAll_fallsSafe s2 odd 5 5) (marked.trans kept)
    have probed : FallsSafe s s4 := by
      refine left.trans (.of_mode ?_)
      simp only [s4]
      split <;> simp
    split
    · exact probed.trans (.of_mode (by simp))
    · exact probed

theorem outputAccordOp_fallsSafe (sent : LaneSet) (wrong : PerLane (BitVec 64)) (units : Nat) (s : State) :
    FallsSafe s (outputAccordOp sent wrong units s) := by
  unfold outputAccordOp
  dsimp only
  (repeat' split)
  · exact .of_mode (by simp)
  · exact .after (outAccord_fallsSafe _ sent wrong) (by simp)
  · exact .refl s

theorem reportMinority_fallsSafe (s : State) (ch : Nat) (l : Lane) : FallsSafe s (s.reportMinority ch l) := by
  unfold State.reportMinority
  extract_lets c s1 src s2 cycles
  have kept : s2.mod.mode = s.mod.mode := by simp [s2, s1]
  split
  · exact .after (leaveVote_fallsSafe s2 l 5 8) kept
  · exact .of_mode kept

theorem voteRefreshOp_fallsSafe (sense : List SenseReading) (groups : List GroupReading) (s : State) :
    FallsSafe s (voteRefreshOp sense groups s) := by
  unfold voteRefreshOp
  split
  · extract_lets voting refresh s1 s2 s2' s3 chs s4 s5
    have kept : s5.mod.mode = s.mod.mode := by simp [s5, s4, s3, s2', s2, s1]
    refine .after (.each _ (fun s p => .forLanes _ (fun s l => ?_) _ s) _ s5) kept
    split
    · exact reportMinority_fallsSafe s p.1 l
    · exact .refl s
  · exact .refl s

theorem runSlice_fallsSafe (s : State) (l : Lane) (misr : BitVec 64) (passSeconds : Nat) (again : Bool) :
    FallsSafe s (s.runSlice l misr passSeconds again) := by
  unfold State.runSlice
  extract_lets d i want ok s1 s2 m weak s2' s3
  have failed : s2.mod.mode = s.mod.mode := by simp [s2, s1]
  have passed : s2'.mod.mode = s.mod.mode := by simp [s2', s1]
  split
  · split
    · exact .after (leaveVote_fallsSafe _ l 7 0) (by simp [failed])
    split
    · exact .after (leaveVote_fallsSafe s2 l 7 0) failed
    · exact .of_mode failed
  split
  · exact .of_mode (by simp [s1])
  split
  · split <;> exact .of_mode (by simp [s3, passed])
  · exact .of_mode passed

theorem selftestSliceOp_fallsSafe (misr : PerLane (BitVec 64)) (passSeconds : Nat) (s : State) :
    FallsSafe s (selftestSliceOp misr passSeconds s) := by
  unfold selftestSliceOp
  extract_lets ls index src t again s1 failed
  split
  · have run : FallsSafe t s1 := .forLanes _ (fun s l => runSlice_fallsSafe s l _ passSeconds again) ls t
    exact (run.after rfl).trans (.of_mode (by simp))
  · exact .refl s

theorem bogieMismatchOp_fallsSafe (l : Lane) (s : State) : FallsSafe s (bogieMismatchOp l s) := by
  unfold bogieMismatchOp
  split
  · exact .refl s
  · exact .after (leaveVote_fallsSafe _ l 1 0) (by simp)

theorem armDeadlineOp_fallsSafe (l : Lane) (s : State) : FallsSafe s (armDeadlineOp l s) := by
  unfold armDeadlineOp
  split
  · exact leaveVote_fallsSafe s l 7 0
  · exact .refl s

/-! ### The network -/

theorem loneClock_fallsSafe (s : State) (l : Lane) : FallsSafe s (s.loneClock l) := by
  unfold State.loneClock
  dsimp only
  split
  · exact .after (leaveVote_fallsSafe _ l 6 0) (by simp)
  · exact .refl s

theorem roundStartOp_fallsSafe (round : Word) (devs : PerLane (List (Nat × Int))) (roundTrip : Option Nat) (s : State) :
    FallsSafe s (roundStartOp round devs roundTrip s) := by
  unfold roundStartOp
  split
  · extract_lets s1 s2 s3
    have linked : s1.mod.mode = s.mod.mode := by simp [s1]
    have synced : s2.mod.mode = s1.mod.mode := each_mode _ (fun s l => by simp) Lane.all s1
    have clocks : FallsSafe s s3 :=
      .trans (.after (.each _ loneClock_fallsSafe Lane.all s2) (synced.trans linked)) (.of_mode (by simp [s3]))
    clear_value s3
    split
    · split
      · exact clocks.trans (.of_mode (by simp))
      · exact clocks
    · exact .of_mode (by simp [linked])
  · exact .refl s

theorem flagTx_fallsSafe (s : State) (l : Lane) : FallsSafe s (s.flagTx l) := by
  unfold State.flagTx
  dsimp only
  (repeat' split)
  · exact .after (leaveVote_fallsSafe _ l 5 7) (by simp)
  · exact .of_mode (by simp)
  · exact .of_mode rfl

theorem voteSlot_fallsSafe (s : State) (node : Nat) (d : NodeDef) (slot : Nat) (faults : PerLane (List (Nat × Byte))) :
    FallsSafe s (s.voteSlot node d slot faults) := by
  unfold State.voteSlot
  dsimp only
  (repeat' split)
  · exact .refl s
  · exact .of_mode rfl
  · exact .after (.each _ flagTx_fallsSafe _ _) (by simp)
  · exact .after (.each _ flagTx_fallsSafe _ _) (by simp)

theorem slotVoteOp_fallsSafe (node : Nat) (faults : PerLane (List (Nat × Byte))) (s : State) :
    FallsSafe s (slotVoteOp node faults s) := by
  unfold slotVoteOp
  (repeat' split)
  · exact .refl s
  · exact .refl s
  · exact .of_mode (by simp)
  · exact voteSlot_fallsSafe ..
  · exact .refl s

/-! ### The change of lead -/

theorem confirmDeadlineOp_fallsSafe (s : State) : FallsSafe s (confirmDeadlineOp s) := by
  unfold confirmDeadlineOp
  (repeat' split)
  · exact .enterSafe s 18 (by simp_all [Mode.cycles])
  · exact .of_mode (by simp)
  · exact .refl s
  · exact .refl s

theorem yieldLead_mode (s : State) : s.yieldLead.mod.mode = s.mod.mode := by
  unfold State.yieldLead
  dsimp only
  split <;> simp

theorem switchoverOp_fallsSafe (s : State) : FallsSafe s (switchoverOp s) := by
  unfold switchoverOp
  dsimp only
  (repeat' split)
  · exact .of_mode (yieldLead_mode s)
  · exact .enterSafe s 18 (by simp_all [Mode.cycles])
  · exact .of_mode (by simp)
  · exact .of_mode (by simp)
  · exact .of_mode (by simp)
  · exact .of_mode (by simp)
  · exact .refl s
  · exact .refl s
  · exact .refl s

end Sys2Proof.Machine
end

section
/-!
SUPPORT. What the service of packets can do to the mode: keep it, or lead from DORMANT through RESET.
-/

namespace Sys2Proof.Machine

open Sys2Proof

/-! ### Packets: a WAKE may lead from DORMANT through RESET, nothing else changes the mode at once -/

/-- The mode is kept, or DORMANT was left for RESET. -/
def Wakes (s t : State) : Prop := t.mod.mode = s.mod.mode ∨ s.mod.mode = .dormant ∧ t.mod.mode = .reset

namespace Wakes

theorem refl (s : State) : Wakes s s := .inl rfl

theorem of_mode {s t : State} (h : t.mod.mode = s.mod.mode) : Wakes s t := .inl h

/-- RESET is not DORMANT, so a second step of the kind leaves it. -/
theorem trans {s t u : State} (h : Wakes s t) (k : Wakes t u) : Wakes s u := by
  obtain ht | ⟨hd, ht⟩ := h
  · simpa [Wakes, ht] using k
  · obtain hu | ⟨hd', -⟩ := k
    · exact .inr ⟨hd, hu.trans ht⟩
    · simp [ht] at hd'

theorem after {s t u : State} (k : Wakes t u) (h : t.mod.mode = s.mod.mode) : Wakes s u := (of_mode h).trans k

theorem each {α : Type} (f : State → α → State) (h : ∀ s x, Wakes s (f s x)) (l : List α) (s : State) : Wakes s (s.each l f) := by
  induction l generalizing s with
  | nil => exact refl s
  | cons x r ih => exact (h s x).trans (ih (f s x))

end Wakes

theorem wakeTrigger_wakes (s : State) (which : Nat) : Wakes s (s.wakeTrigger which) := by
  unfold State.wakeTrigger
  split
  next dormant =>
    extract_lets src1 s1 src2 s2 src3
    have kept : s1.mod.mode = s.mod.mode := by
      simp only [s1]
      split <;> simp [src1]
    split
    · exact .of_mode (by simp [src3, s2, src2, kept])
    · simp only [Bool.and_eq_true, decide_eq_true_eq] at dormant
      exact .inr ⟨dormant.1, enterReset_mode s2 20⟩
  next => exact .refl s

/-- A request is refused, or served by its body. -/
theorem serve_wakes (s : State) (h : CmdHdr) (opcode : Nat) (need : Option Role) (body : State → State) (served : ∀ s, Wakes s (body s)) :
    Wakes s (s.serve h opcode need body) := by
  unfold State.serve
  (repeat' split)
  any_goals (refine .of_mode ?_; simp)
  all_goals exact served s

theorem modeRequestWakeOp_wakes (h : CmdHdr) (s : State) : Wakes s (modeRequestWakeOp h s) := by
  refine serve_wakes s h _ _ _ fun s => ?_
  (repeat' split)
  · exact .of_mode (by simp)
  · exact .of_mode (by simp)
  · exact .after (wakeTrigger_wakes _ 2) (by simp)

/-- WAKE is the only command from a host whose service changes the mode. -/
theorem perform_wakes (c : RingCmd) (s : State) : Wakes s (State.perform c s) := by
  fun_cases State.perform
  any_goals (refine .of_mode ?_; simp +zetaDelta; done)
  exact modeRequestWakeOp_wakes _ s

/-! ### The service of the rings and the packets of the hosts -/

theorem serveRing_wakes (s : State) (c : RingCmd) : Wakes s (s.serveRing c) := by
  unfold State.serveRing
  extract_lets ls s0 s1
  have served : Wakes s s1 := .after (perform_wakes c s0) (by simp [s0])
  split
  · exact served
  · exact .of_mode (by simp [s0])

theorem serveQ5_wakes (s : State) (ready : RingCmd → Bool) : Wakes s (s.serveQ5 ready) := by
  unfold State.serveQ5
  split
  · exact .refl s
  · exact .each _ (fun s c => .after (perform_wakes c _) (by simp)) _ s

theorem intakeOp_wakes (s : State) : Wakes s (intakeOp s) := by
  unfold intakeOp
  split
  · extract_lets early taken src s1
    exact .trans (.after (.each _ serveRing_wakes taken s1) rfl) (serveQ5_wakes _ early)
  · exact .refl s

theorem offCycleOp_wakes (s : State) : Wakes s (offCycleOp s) := by
  unfold offCycleOp
  split
  · exact .trans (.each _ serveRing_wakes _ s) (serveQ5_wakes _ _)
  · exact .refl s

@[simp] theorem consume_mode (s : State) (a : Arrival) (ring : Bool) : (s.consume a ring).mod.mode = s.mod.mode := rfl

@[simp] theorem answer_mode (s : State) (a : Arrival) (own : Bool) (status : Nat) (params : List Byte) :
    (s.answer a own status params).mod.mode = s.mod.mode := by
  unfold State.answer
  dsimp only
  (repeat' split) <;> simp

@[simp] theorem rejectArrival_mode (s : State) (a : Arrival) (own : Bool) (status : Nat) (params : List Byte) :
    (s.rejectArrival a own status params).mod.mode = s.mod.mode := by
  simp [State.rejectArrival]

@[simp] theorem failConsumed_mode (s : State) (a : Arrival) (status : Nat) : (s.failConsumed a status).mod.mode = s.mod.mode := by
  simp [State.failConsumed]

@[simp] theorem copyArrives_mode (s : State) (a : Arrival) (c : Consumed) : (s.copyArrives a c).mod.mode = s.mod.mode := by
  unfold State.copyArrives
  extract_lets again src s1 same add src' s2
  have counted : s2.mod.mode = s.mod.mode := by
    simp only [s2, s1]
    split <;> simp
  split
  · exact (each_mode _ (fun s p => by simp) _ s2).trans counted
  · exact counted

@[simp] theorem macBad_mode (s : State) (a : Arrival) (x : Session) : (s.macBad a x).mod.mode = s.mod.mode := by
  unfold State.macBad
  extract_lets times y put s1 src s2
  rw [answer_mode]
  split <;> simp [s2, s1]

@[simp] theorem enterRing_mode (s : State) (a : Arrival) : (s.enterRing a).mod.mode = s.mod.mode := by
  unfold State.enterRing
  dsimp only
  split
  · simp
  · simp

theorem step12_wakes (s : State) (a : Arrival) : Wakes s (s.step12 a) := by
  unfold State.step12
  split
  · exact .of_mode (failConsumed_mode s a _)
  split
  · exact .after (perform_wakes a.cmd _) (by simp)
  · exact .of_mode (enterRing_mode s a)

theorem step11_wakes (s : State) (a : Arrival) (role : Option Role) : Wakes s (s.step11 a role) := by
  fun_cases State.step11
  any_goals (refine .of_mode ?_; simp)
  all_goals exact step12_wakes s a

theorem step9_wakes (s : State) (a : Arrival) : Wakes s (s.step9 a) := by
  fun_cases State.step9
  any_goals (refine .of_mode ?_; simp)
  all_goals exact step11_wakes s a _

theorem step8_wakes (s : State) (a : Arrival) : Wakes s (s.step8 a) := by
  fun_cases State.step8
  · exact step9_wakes s a
  · exact .of_mode (copyArrives_mode s a _)
  · exact .of_mode (rejectArrival_mode s a _ _ _)

theorem step4_wakes (s : State) (a : Arrival) : Wakes s (s.step4 a) := by
  fun_cases State.step4
  · exact .of_mode (rejectArrival_mode s a _ _ _)
  · exact .of_mode (rejectArrival_mode s a _ _ _)
  · exact .of_mode (by simp +zetaDelta)
  · exact .of_mode ((rejectArrival_mode _ a _ _ _).trans rfl)
  · exact .after (step8_wakes _ a) rfl

theorem hostPacketOp_wakes (p : HostPort) (sender : HostPeer) (stamp : Nat) (lanes : LaneSet) (bytes : List Byte) (s : State) :
    Wakes s (hostPacketOp p sender stamp lanes bytes s) := by
  unfold hostPacketOp
  extract_lets addr s1 src1
  split
  · exact .refl s
  split
  · exact .of_mode (by simp)
  next src _ =>
  extract_lets a n s2 srcFull srcDrop
  have counted : s2.mod.mode = s.mod.mode := by simp [s2, s1]
  (repeat' split)
  · exact .after (step4_wakes s2 a) counted
  · exact .of_mode (by simp [counted])
  · exact .of_mode counted

end Sys2Proof.Machine
end

section
/-!
SUPPORT. The commands that lead from mode to mode along a row of R19.
-/

namespace Sys2Proof.Machine

open Sys2Proof

/-! ### Along a row of R19's table -/

/-- The mode is kept or follows a row of the table. -/
def ModeStep (s t : State) : Prop := t.mod.mode = s.mod.mode ∨ s.mod.mode.mayBecome t.mod.mode = true

namespace ModeStep

theorem refl (s : State) : ModeStep s s := .inl rfl

theorem of_mode {s t : State} (h : t.mod.mode = s.mod.mode) : ModeStep s t := .inl h

/-- Every mode may become OFF. -/
theorem off {s t : State} (h : t.mod.mode = .off) : ModeStep s t := .inr (by rw [h]; rfl)

/-- Every mode may become RESET. -/
theorem reset {s t : State} (h : t.mod.mode = .reset) : ModeStep s t := .inr (by rw [h]; rfl)

/-- A row from the mode `m` to the mode `n`. -/
theorem row {s t : State} (m n : Mode) (before : s.mod.mode = m) (after : t.mod.mode = n) (inTable : m.mayBecome n = true) : ModeStep s t :=
  .inr (by rw [before, after, inTable])

theorem after {s t u : State} (k : ModeStep t u) (h : t.mod.mode = s.mod.mode) : ModeStep s u := by
  rwa [ModeStep, h] at k

end ModeStep

/-- Only INTEGRATE and OPERATE run cycles, and SAFE may follow both. -/
theorem FallsSafe.modeStep {s t : State} (h : FallsSafe s t) : ModeStep s t := by
  obtain same | ⟨cycles, safe⟩ := h
  · exact .of_mode same
  · refine .inr ?_
    rw [safe]
    rw [Mode.cycles, Bool.or_eq_true, decide_eq_true_eq, decide_eq_true_eq] at cycles
    obtain m | m := cycles <;> rw [m] <;> rfl

theorem Wakes.modeStep {s t : State} (h : Wakes s t) : ModeStep s t := by
  obtain same | ⟨-, reset⟩ := h
  · exact .of_mode same
  · exact .reset reset

/-! ### Power and the start -/

theorem vinAppliedOp_modeStep (mv : Nat) (s : State) : ModeStep s (vinAppliedOp mv s) := by
  unfold vinAppliedOp
  split
  · exact .reset (by simp)
  · exact .refl s

theorem powerFailWarningOp_modeStep (mv : Nat) (s : State) : ModeStep s (powerFailWarningOp mv s) := by
  unfold powerFailWarningOp
  split
  · exact .refl s
  · exact .reset (by simp)

theorem holdUpExhaustedOp_modeStep (s : State) : ModeStep s (holdUpExhaustedOp s) := by
  unfold holdUpExhaustedOp
  split
  · exact .off (enterOff_mode s)
  · exact .refl s

theorem rstNLowOp_modeStep (s : State) : ModeStep s (rstNLowOp s) := by
  unfold rstNLowOp
  split
  · exact .refl s
  · exact .reset (by simp)

theorem resetReleaseOp_modeStep (a b c : StrapSample) (s : State) : ModeStep s (resetReleaseOp a b c s) := by
  by_cases due : (decide (s.mod.mode = .reset) && !s.mod.holdUp) = true
  · rw [Bool.and_eq_true, decide_eq_true_eq, Bool.not_eq_true'] at due
    exact .row .reset .boot due.1 (resetReleaseOp_boots a b c s due.1 due.2).1 rfl
  · rw [resetReleaseOp, if_neg due]
    exact .refl s

theorem romBootCompleteOp_modeStep (ok : LaneSet) (s : State) : ModeStep s (romBootCompleteOp ok s) := by
  unfold romBootCompleteOp
  split
  next boot =>
    extract_lets s1 src
    split
    · exact .row .boot .recovery boot (by simp) rfl
    split
    · exact .row .boot .selftest boot (by simp) rfl
    · exact .row .boot .recovery boot (by simp) rfl
  next => exact .refl s

theorem selftestCompleteOp_modeStep (tests : PerLane StartTest) (vrd : VrdCheck) (s : State) :
    ModeStep s (selftestCompleteOp tests vrd s) := by
  unfold selftestCompleteOp
  split
  next inTest =>
    dsimp only
    split
    · exact .row .selftest .loaded inTest (by simp) rfl
    · exact .row .selftest .safe inTest (by simp) rfl
  next => exact .refl s

theorem loadedConditionsMetOp_modeStep (s : State) : ModeStep s (loadedConditionsMetOp s) := by
  unfold loadedConditionsMetOp
  split
  next met =>
    rw [Bool.and_eq_true, decide_eq_true_eq] at met
    exact .row .loaded .integrate met.1 (by simp) rfl
  next => exact .refl s

theorem integrationCompleteOp_modeStep (s : State) : ModeStep s (integrationCompleteOp s) := by
  unfold integrationCompleteOp
  dsimp only
  split
  next met =>
    rw [Bool.and_eq_true, Bool.and_eq_true, decide_eq_true_eq] at met
    exact .row .integrate .operate met.1.1 (by simp) rfl
  next => exact .refl s

theorem wakeCompleteOp_modeStep (hashOk blocksOk formed : LaneSet) (s : State) : ModeStep s (wakeCompleteOp hashOk blocksOk formed s) := by
  unfold wakeCompleteOp
  split
  next which d dormant _ _ =>
    dsimp only
    split
    · exact .row .dormant .integrate dormant (by simp) rfl
    · exact .row .dormant .safe dormant (by simp) rfl
  next => exact .refl s

/-! ### Lanes, replay and replies -/

theorem partnerCatchUp_mode (s : State) : s.partnerCatchUp.mod.mode = s.mod.mode := by
  unfold State.partnerCatchUp
  extract_lets s0 s1
  have committed : s0.mod.mode = s.mod.mode := forLanes_mode _ (fun s l => by simp) _ s
  have run : s1.mod.mode = s0.mod.mode := each_mode _ (fun s p => by simp) _ s0
  exact run.trans committed

theorem catchUpOp_mode (l : Lane) (s : State) : (catchUpOp l s).mod.mode = s.mod.mode := by
  unfold catchUpOp
  dsimp only
  (repeat' split) <;> simp

theorem resyncCatchUpOp_mode (l : Lane) (s : State) : (resyncCatchUpOp l s).mod.mode = s.mod.mode := by
  unfold resyncCatchUpOp
  (repeat' split)
  · exact catchUpOp_mode l s
  · exact partnerCatchUp_mode s
  · simp
  · rfl

@[simp] theorem endReplay_mod (s : State) (code : Nat) (differs : Word) (recorded replayed : BitVec 64) :
    (s.endReplay code differs recorded replayed).mod = s.mod := (endReplay_ends s code differs recorded replayed).1

theorem replayCycleOp_mode (s : State) : (replayCycleOp s).mod.mode = s.mod.mode := by
  unfold replayCycleOp
  (repeat' split)
  · rfl
  · simp
  · simp
  · exact congrArg ModS.mode (replayOne_facts s ..).1
  · simp

theorem beginDormant_mode (s : State) : s.beginDormant.mod.mode = .dormant := by
  simp [State.beginDormant]

theorem enterReplay_mode (s : State) : s.enterReplay.mod.mode = .replay := by
  unfold State.enterReplay State.startReplay
  dsimp only
  (repeat' split) <;> simp [State.loadKey]

/-- A mode that a request may name follows the present one in the table (R20). -/
theorem mayBecome_of_modeAllowed (s : State) (m : Mode) (allowed : s.modeAllowed m = true) : s.mod.mode.mayBecome m = true := by
  unfold State.modeAllowed at allowed
  cases m <;> cases mode : s.mod.mode <;> simp_all [Mode.mayBecome, Mode.cycles]

/-- A mode request that its reply carries out goes along a row that the request's condition allows. -/
theorem carryMode_modeStep (s : State) (p : Packet) : ModeStep s (s.carryMode p) := by
  unfold State.carryMode
  split
  next m _ =>
    split
    · exact .refl s
    extract_lets src s1
    split
    · exact .refl s
    next allowed =>
    have inTable : s1.mod.mode.mayBecome m = true := mayBecome_of_modeAllowed s1 m (by simpa using allowed)
    have goes (t : State) (h : t.mod.mode = m) : ModeStep s t := .inr (h ▸ inTable)
    split
    · exact goes _ (enterSafe_mode s1 5)
    · exact goes _ (enterReset_mode s1 5)
    · exact goes _ (beginDormant_mode s1)
    · exact goes _ (enterReplay_mode s1)
    · exact .refl s
  next => exact .refl s

/-- A reply that is taken leaves the module alone. -/
theorem takeReply_mode (s t : State) (p : LaneReplies → Bool) (r : LaneReplies) (taken : s.takeReply p = some (r, t)) :
    t.mod.mode = s.mod.mode := by
  unfold State.takeReply at taken
  split at taken
  · cases taken; rfl
  · cases taken

theorem replyAgreedOp_modeStep (cmd : CmdRef) (s : State) : ModeStep s (replyAgreedOp cmd s) := by
  unfold replyAgreedOp
  split
  next r s1 taken =>
    have kept := takeReply_mode s s1 _ r taken
    split
    · refine .after (carryMode_modeStep _ _) ?_
      split <;> simp [kept]
    · exact .refl s
  next => exact .refl s

theorem substitute_modeStep (s : State) (p : Packet) (wrote : Nat) : ModeStep s (s.substitute p wrote) :=
  .after (carryMode_modeStep _ p) (by simp)

theorem replyDisagreeOp_modeStep (cmd : CmdRef) (s : State) : ModeStep s (replyDisagreeOp cmd s) := by
  unfold replyDisagreeOp
  extract_lets wrote
  split
  next r s1 taken => exact .after (substitute_modeStep s1 _ _) (takeReply_mode s s1 _ r taken)
  next => exact .refl s

theorem replyMissingOp_modeStep (cmd : CmdRef) (s : State) : ModeStep s (replyMissingOp cmd s) := by
  unfold replyMissingOp
  split
  next r s1 taken => exact .after (substitute_modeStep s1 _ _) (takeReply_mode s s1 _ r taken)
  next =>
    split
    · exact substitute_modeStep s _ _
    · exact .refl s

end Sys2Proof.Machine
end

section
/-!
SUPPORT. The transition table over every step (O6).
-/

namespace Sys2Proof.Machine

open Sys2Proof

theorem dbgReadCommand_fallsSafe (s : State) (l : Lane) (a : Nat) : FallsSafe s (s.dbg s.mod.dbgAttached fun s => s.dbgRead l a) := by
  unfold State.dbg
  (repeat' split)
  · exact .refl s
  · exact .of_mode (by simp)
  · exact dbgRead_fallsSafe s l a
  · exact .of_mode (by simp)

theorem catchUpCommand_mode (l : Lane) (run : Nat) (s : State) :
    (if run = s.cyclesStored l then resyncCatchUpOp l s else s).mod.mode = s.mod.mode := by
  split
  · exact resyncCatchUpOp_mode l s
  · rfl

/-- A command that the table of changes does not name for the mode keeps it. -/
theorem exec_mode (c : Instr) (s t : State) (h : exec c s = .next t) (unnamed : Part.mode ∉ mayChange c) : t.mod.mode = s.mod.mode := by
  obtain ⟨-, mode, -⟩ := exec_moduleFramed c s t h
  exact mode.resolve_left unnamed

/-- Command by command: a row of the table for those that lead from mode to mode, SAFE for those that may lose a lane, RESET for those that
may wake the module, and the mode kept by all others. -/
theorem exec_modeStep (c : Instr) (s t : State) (h : exec c s = .next t) : ModeStep s t := by
  cases c
  case vinApplied mv => cases h; exact vinAppliedOp_modeStep mv s
  case powerFailWarning mv => cases h; exact powerFailWarningOp_modeStep mv s
  case holdUpExhausted => cases h; exact holdUpExhaustedOp_modeStep s
  case rstNLow => cases h; exact rstNLowOp_modeStep s
  case resetRelease a b c => cases h; exact resetReleaseOp_modeStep a b c s
  case romBootComplete ok => cases h; exact romBootCompleteOp_modeStep ok s
  case selftestComplete tests vrd => cases h; exact selftestCompleteOp_modeStep tests vrd s
  case imageCheck loadOk reloadOk => cases h; exact .of_mode (imageCheckOp_mode loadOk reloadOk s)
  case loadedConditionsMet => cases h; exact loadedConditionsMetOp_modeStep s
  case integrationComplete => cases h; exact integrationCompleteOp_modeStep s
  case wakeComplete hashOk blocksOk formed => cases h; exact wakeCompleteOp_modeStep hashOk blocksOk formed s
  case replyAgreed cmd => cases h; exact replyAgreedOp_modeStep cmd s
  case replyDisagreeTimeout cmd => cases h; exact replyDisagreeOp_modeStep cmd s
  case replyMissingTimeout cmd => cases h; exact replyMissingOp_modeStep cmd s
  case catchUpComplete l run => cases h; exact .of_mode (catchUpCommand_mode l run s)
  case replayCycle => cases h; exact .of_mode (replayCycleOp_mode s)
  case railFault rail l mv => cases h; exact (railFaultOp_fallsSafe rail l mv s).modeStep
  case degradedTimeExpired => cases h; exact (degradedExpire_fallsSafe s).modeStep
  case oscillatorUnstable l osc => cases h; exact (oscillatorUnstableOp_fallsSafe l osc s).modeStep
  case monitorWindow l count => cases h; exact (monitorWindowOp_fallsSafe l count s).modeStep
  case stallWatchdog l crossing addr => cases h; exact (stallOp_fallsSafe l crossing.val addr s).modeStep
  case canaryReading l speed => cases h; exact (canaryOp_fallsSafe l speed s).modeStep
  case railGoodTimeout l => cases h; exact (railGoodTimeoutOp_fallsSafe l s).modeStep
  case tickDeadline l => cases h; exact (tickDeadlineOp_fallsSafe l s).modeStep
  case tickBoundary marks views clock => cases h; exact (tickBoundaryOp_fallsSafe marks views clock s).modeStep
  case accordedSetCompute received => cases h; exact (accordedSetOp_fallsSafe received s).modeStep
  case fetchTimeout l => cases h; exact (fetchTimeoutOp_fallsSafe l s).modeStep
  case inputAccordClose sent wrong units => cases h; exact (inputAccordOp_fallsSafe sent wrong units s).modeStep
  case routeEngineComplete l us steps faults => cases h; exact (routeEngineOp_fallsSafe l us steps faults s).modeStep
  case outputAccord sent wrong units => cases h; exact (outputAccordOp_fallsSafe sent wrong units s).modeStep
  case voteRefresh _ sense groups => cases h; exact (voteRefreshOp_fallsSafe sense groups s).modeStep
  case selftestSlice misr passSeconds => cases h; exact (selftestSliceOp_fallsSafe misr passSeconds s).modeStep
  case roundStart round devs roundTrip => cases h; exact (roundStartOp_fallsSafe round devs roundTrip s).modeStep
  case slotVote node faults => cases h; exact (slotVoteOp_fallsSafe node.val faults s).modeStep
  case bogieMismatch l _ => cases h; exact (bogieMismatchOp_fallsSafe l s).modeStep
  case switchoverConfirmDeadline => cases h; exact (confirmDeadlineOp_fallsSafe s).modeStep
  case switchover => cases h; exact (switchoverOp_fallsSafe s).modeStep
  case housekeeperLostTimeout => cases h; exact (housekeeperTimeoutOp_fallsSafe s).modeStep
  case activationArmDeadline l => cases h; exact (armDeadlineOp_fallsSafe l s).modeStep
  case eccUncorrectable l requester a afterProposal isReply => cases h; exact (eccUncorrectableOp_fallsSafe l (requester.map Fin.val) a.toNat afterProposal isReply s).modeStep
  case scrubRead l => cases h; exact (scrubReadOp_fallsSafe l s).modeStep
  case arbiterDecision l p requests => cases h; exact (arbiterOp_fallsSafe l p requests.idle requests.present s).modeStep
  case lockOverrun l p => cases h; exact (lockOverrunOp_fallsSafe l p s).modeStep
  case lockIdleTimeout l p => cases h; exact (lockIdleOp_fallsSafe l p s).modeStep
  case dbgRead l a => cases h; exact (dbgReadCommand_fallsSafe s l a.toNat).modeStep
  case wakeNLow => cases h; exact (wakeTrigger_wakes s 1).modeStep
  case hostPacket p sender stamp lanes bytes => cases h; exact (hostPacketOp_wakes p sender stamp lanes bytes s).modeStep
  case nonvitalIntake => cases h; exact (intakeOp_wakes s).modeStep
  case offCycleService => cases h; exact (offCycleOp_wakes s).modeStep
  case modeRequestWake h => cases h; exact (modeRequestWakeOp_wakes h s).modeStep
  all_goals exact .of_mode (exec_mode _ s t h (by simp [mayChange]))

/-- A step carries out the command in front of its queue, which holds no mode. -/
theorem step_modeStep (s t : State) (h : step s = .next t) : ModeStep s t := by
  unfold step at h
  split at h
  · cases h
    exact .refl s
  next c rest _ => exact .after (exec_modeStep c (s.withPending rest) t h) rfl

/-- Settles O6: every step keeps the mode or follows a row of the table, and the rows from SAFE and to OPERATE are read off it. -/
theorem modeTransitions : Obligations.ModeTransitions := by
  refine ⟨step_modeStep, fun s t h safe => ?_, fun s t h operate => ?_⟩
  · obtain same | row := step_modeStep s t h
    · simp [same, safe]
    · rw [safe] at row
      cases after : t.mod.mode <;> simp [after, Mode.mayBecome] at row ⊢
  · obtain same | row := step_modeStep s t h
    · exact .inl (same ▸ operate)
    · rw [operate] at row
      exact .inr (by simpa [Mode.mayBecome] using row)

end Sys2Proof.Machine
end

section
/-!
SUPPORT. The end of a tick, the cycle evaluation and its two forms.
-/

namespace Sys2Proof.Machine

open Sys2Proof

/-! ### Ticks -/

/-- A lane that finishes its tick has sent its MARK with its health and its work. -/
theorem laneTickOp_marks (l : Lane) (h : Byte) (w m : Nat) (s : State) (runs : s.mod.mode.lanesRun = true) (ticks : s.ticking l = true)
    (free : (s.lane l).diag.halted = false) (done : s.workLeft = false) (room : (s.lane l).core.cmpBuf.length < 8) :
    On (laneTickOp l h w m s) fun t => (t.lane l).core.markSent = true ∧ (t.lane l).core.health = h ||| (s.lane l).core.events ∧
      (t.lane l).core.events = 0 ∧ (t.lane l).core.work = min 40000 (s.knownWork + w) := by
  rw [lane_eq] at free room
  unfold On laneTickOp
  rw [if_pos (by simp [runs, ticks, free, done])]
  simp [State.throughBogie, Nat.not_le.2 room, tickQuantum]

/-- A lane with work left, or a bogie whose buffer is full, does not finish its tick. -/
theorem laneTickOp_waits (l : Lane) (h : Byte) (w m : Nat) (s : State)
    (busy : s.workLeft = true ∨ 8 ≤ (s.lane l).core.cmpBuf.length) :
    ((laneTickOp l h w m s).lane l).core.markSent = (s.lane l).core.markSent := by
  rw [lane_eq] at busy
  unfold laneTickOp
  split
  next runs =>
    have full : 8 ≤ (s.lanes.get l).core.cmpBuf.length := busy.resolve_left (by simp_all)
    simp [State.throughBogie, full]
  next => rfl

/-! ### The cycle evaluation and the two forms -/

/-- Without commands there is nothing to decode. -/
theorem decodeCycle_nil (s : State) (none : s.acc.accorded.cmds = []) : s.decodeCycle = (s, []) := by
  unfold State.decodeCycle
  rw [none]
  cases s.host.spoilt <;> exact ite_self _

/-- An evaluation without commands forms both verdicts from the same inputs. -/
theorem cycleEvaluationOp_forms (s : State) (due : s.evalDue = true) (none : s.acc.accorded.cmds = []) : On (cycleEvaluationOp s) fun t =>
    t.ixl.phase = 6 ∧ t.ixl.tableV = (s.openList.addResets.addSheets.form false).run.v ∧
      t.ixl.graphV = (s.openList.addResets.addSheets.form true).run.v := by
  unfold On cycleEvaluationOp
  rw [if_pos due, decodeCycle_nil s.openList none]
  simp [State.settleAll, State.commit]

/-- A lane's route engine that completes within its limit with its step count sets TABLE_DONE with its times. -/
theorem routeEngineOp_inTime (l : Lane) (us : Nat) (s : State) (runs : s.formsRun = true) (ticks : s.ticking l = true)
    (idle : (s.lane l).rte.tableDone = false) (inTime : us ≤ 2800) : On (routeEngineOp l us 366601 [] s) fun t =>
    (t.lane l).rte.tableDone = true ∧ (t.lane l).rte.lastUs = us ∧ (t.lane l).rte.maxUs = max (s.lane l).rte.maxUs us ∧
      (t.lane l).rte.steps = 366601 ∧ t.ixl.tableV = s.ixl.tableV ∧ (t.lane l).rte.late = (s.lane l).rte.late ∧
      (∀ m, m ≠ l → (t.lane m).rte = (s.lane m).rte) ∧ ∀ k, t.laneSt k = s.laneSt k := by
  have short : sat16 us = us := Nat.min_eq_right (by omega)
  rw [lane_eq] at idle
  unfold On routeEngineOp
  rw [if_pos (by simp [runs, ticks, idle])]
  extract_lets late s1 src s2
  have onTime : late ↔ False := by simp [late, inTime]
  have same : s2.ixl.tableV = s.ixl.tableV := by simp [s2, src, s1, Verdict.withFaults]
  rw [if_neg (by simp [onTime])]
  refine ⟨?_, ?_, ?_, ?_, same, ?_, ?_, ?_⟩
  · simp [s2, s1]
  · simp [s2, s1, short]
  · simp [s2, s1, short]
  · simp [s2, s1]
  · simp [s2, s1, late, inTime]
  · intro m other
    simp [s2, s1, State.modRte, get_modLane_ne, other]
  · intro k
    simp [s2, s1]

/-- The graph solver completes with the work units that it charged. -/
theorem graphSolverOp_completes (fs : List ItemFault) (s : State) (runs : s.formsRun = true) (idle : s.ixl.graphDone = false)
    (fits : s.ixl.graphLeft ≤ 40000) : On (graphSolverOp fs s) fun t =>
    t.ixl.graphDone = true ∧ t.ixl.graphV = s.ixl.graphV.withFaults fs ∧ ∀ l, s.ticking l = true →
      (t.lane l).rte.graphDone = true ∧ (t.lane l).rte.graphWu = s.graphCharge s.evaluated ∧
      (t.lane l).rte.graphWuMax = max (s.lane l).rte.graphWuMax (s.graphCharge s.evaluated) := by
  unfold On graphSolverOp
  rw [if_pos (by simp [runs, idle, fits, tickQuantum])]
  refine ⟨by simp, by simp, fun l ticks => ?_⟩
  simp [ticks]

theorem graphSolverOp_waits (fs : List ItemFault) (s : State) (left : 40000 < s.ixl.graphLeft) : graphSolverOp fs s = s :=
  if_neg (by simp [tickQuantum, Nat.not_le.2 left])

end Sys2Proof.Machine
end

section
/-!
SUPPORT. A lane out of the vote stays out, whatever other lanes lose.
-/

namespace Sys2Proof.Machine

open Sys2Proof

/-! ### A lane out of the vote stays out -/

/-- A lane does not vote and will not without rejoining. -/
def OutOfVote (s : State) (l : Lane) : Prop := (s.lanes.get l).core.st ≠ .voting ∧ (s.lanes.get l).core.next ≠ .voting

theorem OutOfVote.of_core {s t : State} {l : Lane} (out : OutOfVote s l) (st : (t.lanes.get l).core.st = (s.lanes.get l).core.st)
    (next : (t.lanes.get l).core.next = (s.lanes.get l).core.next) : OutOfVote t l :=
  ⟨st ▸ out.1, next ▸ out.2⟩

/-- No cause of leaving names the vote as what follows. -/
theorem nextState_ne_voting (s : State) (l : Lane) (cause : Nat) : s.nextState l cause ≠ .voting := by
  unfold State.nextState
  (repeat' split) <;> decide

@[simp] theorem recordLane_next (s : State) (l m : Lane) (type : Nat) (payload : List Byte) :
    ((s.recordLane l type payload).lanes.get m).core.next = (s.lanes.get m).core.next := by
  by_cases same : m = l
  · subst same
    simp [State.recordLane, State.noteEvent]
  · rw [recordLane_core_ne s l m type payload same]

@[simp] theorem answerAsked_next (s : State) (l m : Lane) (x : Nat) :
    ((s.answerAsked l x).lanes.get m).core.next = (s.lanes.get m).core.next := by
  unfold State.answerAsked
  split
  · by_cases same : m = l
    · subst same
      simp
    · simp [State.modCore, get_modLane_ne, same]
  · rfl

theorem takeNext_outOfVote (s : State) (m l : Lane) (out : OutOfVote s l) : OutOfVote (s.takeNext m) l := by
  by_cases same : l = m
  · subst same
    obtain ⟨-, next⟩ := out
    unfold OutOfVote State.takeNext State.beginResync
    dsimp only
    (repeat' split)
    · simp_all
    · simp_all
    · simp [next]
  · have kept := takeNext_core_ne s m l same
    exact out.of_core (by rw [kept]) (by rw [kept])

theorem answerAsked_core_ne (s : State) (l m : Lane) (x : Nat) (other : m ≠ l) :
    ((s.answerAsked l x).lanes.get m).core = (s.lanes.get m).core := by
  unfold State.answerAsked
  split
  · simp [State.modCore, get_modLane_ne, other]
  · rfl

theorem failResync_core_ne (s : State) (l m : Lane) (st : LaneSt) (other : m ≠ l) :
    ((s.failResync l st).lanes.get m).core = (s.lanes.get m).core := by
  simp [State.failResync, answerAsked_core_ne, State.modCore, get_modLane_ne, other]

/-- A copy that fails changes no lane but the one that receives it. -/
theorem copyFails_core_ne (s : State) (l m : Lane) (other : m ≠ l) : ((s.copyFails l).lanes.get m).core = (s.lanes.get m).core := by
  unfold State.copyFails
  dsimp only
  split <;> simp [failResync_core_ne, State.modCore, State.modResync, get_modLane_ne, other]

theorem copyFails_outOfVote (s : State) (m l : Lane) (out : OutOfVote s l) : OutOfVote (s.copyFails m) l := by
  by_cases same : l = m
  · subst same
    obtain ⟨st, next⟩ := out
    unfold OutOfVote State.copyFails State.failResync
    dsimp only
    split <;> simp [State.modResync, st, next]
  · have kept := copyFails_core_ne s m l same
    exact out.of_core (by rw [kept]) (by rw [kept])

/-- The loss of the lane that sends a copy changes no lane but those that receive one. -/
theorem dropSender_core (s : State) (l m : Lane) (idle : s.receiving m = false) :
    ((s.dropSender l).lanes.get m).core = (s.lanes.get m).core := by
  have kept : ((s.each (Lane.all.filter s.receiving) State.copyFails).lanes.get m).core = (s.lanes.get m).core := by
    refine List.foldlRecOn (motive := fun t : State => (t.lanes.get m).core = (s.lanes.get m).core) _ _ rfl fun t same k mem => ?_
    have other : m ≠ k := by
      rintro rfl
      exact Bool.false_ne_true (idle.symm.trans (List.mem_filter.1 mem).2)
    rw [copyFails_core_ne t k m other, same]
  unfold State.dropSender
  dsimp only
  (repeat' split) <;> simp [kept]

theorem dropSender_outOfVote (s : State) (m l : Lane) (out : OutOfVote s l) : OutOfVote (s.dropSender m) l := by
  have dropped : OutOfVote (s.each (Lane.all.filter s.receiving) State.copyFails) l :=
    List.foldlRecOn (motive := fun t : State => OutOfVote t l) _ _ out fun t out k _ => copyFails_outOfVote t k l out
  unfold State.dropSender
  dsimp only
  (repeat' split)
  · exact dropped.of_core (by simp) (by simp)
  · exact dropped
  · exact out

/-- A lane that leaves changes no other lane's place in the vote but that of lanes which receive a copy. -/
theorem leave_core_ne (s : State) (l m : Lane) (cause sub : Nat) (other : m ≠ l) (idle : s.receiving m = false) :
    ((s.leave l cause sub).lanes.get m).core = (s.lanes.get m).core := by
  unfold State.leave
  dsimp only
  (repeat' split) <;>
    simp [State.modCore, get_modLane_ne, takeNext_core_ne, answerAsked_core_ne, dropSender_core, idle, other]

/-- What a lane does that leaves keeps another out of the vote. -/
theorem leave_outOfVote_ne (s : State) (m l : Lane) (cause sub : Nat) (other : l ≠ m) (out : OutOfVote s l) :
    OutOfVote (s.leave m cause sub) l := by
  have dropped := dropSender_outOfVote s m l out
  unfold State.leave
  extract_lets n s1 s2 s1'
  have left : OutOfVote s2 l := dropped.of_core (by simp [s2, s1, State.modCore, get_modLane_ne, other])
    (by simp [s2, s1, State.modCore, get_modLane_ne, other])
  have lost : OutOfVote s1' l := out.of_core (by simp [s1', State.modCore, get_modLane_ne, other])
    (by simp [s1', State.modCore, get_modLane_ne, other])
  have answered : OutOfVote (s1'.answerAsked m stDisagree) l := lost.of_core (by simp) (by simp)
  (repeat' split)
  · exact left
  · exact takeNext_outOfVote s2 m l left
  · exact lost
  · exact answered
  · exact lost
  · exact answered
  · exact out

theorem leave_outOfVote (s : State) (m l : Lane) (cause sub : Nat) (out : OutOfVote s l ∨ l = m ∧ (s.lanes.get l).core.st = .voting) :
    OutOfVote (s.leave m cause sub) l := by
  by_cases same : l = m
  · subst same
    have next := nextState_ne_voting s l cause
    unfold State.leave
    extract_lets n s1 s2 s1'
    have left : OutOfVote s2 l := by simp [OutOfVote, s2, s1, n, next]
    have lost (notVoting : (s.lanes.get l).core.st ≠ .voting) : OutOfVote s1' l := by
      by_cases again : n = .resync <;> simp_all [OutOfVote, s1', n]
    have answered (out : OutOfVote s1' l) : OutOfVote (s1'.answerAsked l stDisagree) l := out.of_core (by simp) (by simp)
    have notVoting (st : s.laneSt l ≠ .voting) : OutOfVote s l := out.resolve_right fun h => st h.2
    split
    next =>
      split
      · exact left
      · exact takeNext_outOfVote s2 l l left
    next minority =>
      have out := lost (notVoting (minority ▸ nofun)).1
      split
      · exact out
      · exact answered out
    next resync =>
      have out := lost (notVoting (resync ▸ nofun)).1
      split
      · exact out
      · exact answered out
    next notVoting' _ _ => exact notVoting notVoting'
  · exact leave_outOfVote_ne s m l cause sub same (out.resolve_right fun h => same h.1)

theorem settleMinority_outOfVote (s : State) (l : Lane) (out : OutOfVote s l) : OutOfVote s.settleMinority l := by
  unfold State.settleMinority State.each
  refine List.foldlRecOn (motive := fun t : State => OutOfVote t l) Lane.all _ out fun t out m _ => ?_
  split
  · exact takeNext_outOfVote t m l out
  · exact out

theorem enterSafe_outOfVote (s : State) (trigger : Nat) (l : Lane) (out : OutOfVote s l) : OutOfVote (s.enterSafe trigger) l := by
  unfold State.enterSafe
  extract_lets s1 s2 s3 s4 srcAcc srcPlink s5
  refine settleMinority_outOfVote _ l (out.of_core ?_ ?_)
  · simp [s5, s4, s3, s2, s1]
  · simp [s5, s4, s3, s2, s1]

theorem leaveVote_outOfVote (s : State) (m l : Lane) (cause sub : Nat)
    (out : OutOfVote s l ∨ l = m ∧ (s.lanes.get l).core.st = .voting) : OutOfVote (s.leaveVote m cause sub) l := by
  have left := leave_outOfVote s m l cause sub out
  unfold State.leaveVote
  extract_lets old s1
  split
  · exact enterSafe_outOfVote s1 16 l left
  · exact left.of_core (by simp [s1]) (by simp [s1])

theorem overrun_outOfVote (s : State) (m l : Lane) (out : OutOfVote s l ∨ l = m ∧ (s.lanes.get l).core.st = .voting) :
    OutOfVote (s.overrun m) l := by
  have kept : (((s.modCore m fun c => { c with late := true })).lanes.get l).core.st = (s.lanes.get l).core.st ∧
      (((s.modCore m fun c => { c with late := true })).lanes.get l).core.next = (s.lanes.get l).core.next := by
    by_cases same : l = m
    · subst same
      simp
    · simp [State.modCore, get_modLane_ne, same]
  refine leaveVote_outOfVote _ m l 4 0 ?_
  obtain out | ⟨same, voting⟩ := out
  · exact .inl (out.of_core kept.1 kept.2)
  · exact .inr ⟨same, kept.1.trans voting⟩

end Sys2Proof.Machine
end

section
/-!
SUPPORT. One of three voting lanes leaves.
-/

namespace Sys2Proof.Machine

open Sys2Proof

/-! ### One of three voting lanes leaves -/

theorem perLane_ext {α : Type} {u v : PerLane α} (same : ∀ l, u.get l = v.get l) : u = v := by
  obtain ⟨a, b, c⟩ := u
  have ha : a = v.a := same .a
  have hb : b = v.b := same .b
  have hc : c = v.c := same .c
  rw [ha, hb, hc]

theorem get_full (l : Lane) : LaneSet.full.get l = true := by cases l <;> rfl

/-- Every lane votes. -/
def AllVoting (s : State) : Prop := ∀ l, (s.lanes.get l).core.st = .voting

theorem allVoting_iff (s : State) : AllVoting s ↔ s.votingLanes = LaneSet.full := by
  constructor
  · intro all
    exact perLane_ext fun l => by rw [get_votingLanes, all l, get_full]; rfl
  · intro full l
    have : s.votingLanes.get l = true := by rw [full, get_full]
    simpa using this

theorem count_of_all_but_one (u : LaneSet) (l : Lane) (but : ∀ m, u.get m = decide (m ≠ l)) : LaneSet.count u = 2 := by
  obtain ⟨a, b, c⟩ := u
  have ha : a = _ := but .a
  have hb : b = _ := but .b
  have hc : c = _ := but .c
  subst ha hb hc
  cases l <;> rfl

/-- What a voting lane shows once it has left in a module that runs cycles. -/
theorem leave_of_voting (s : State) (l : Lane) (cause sub : Nat) (cycles : s.mod.mode.cycles = true) (all : AllVoting s) :
    On (s.leave l cause sub) fun t => (t.lanes.get l).core.st = .minority ∧ (t.lanes.get l).core.cause = cause ∧
      (t.lanes.get l).core.late = (s.lanes.get l).core.late ∧ ∀ m, m ≠ l → (t.lanes.get m).core = (s.lanes.get m).core := by
  have idle (m : Lane) : s.receiving m = false := by simp [State.receiving, State.inStep, all m]
  refine ⟨?_, ?_, ?_, fun m other => leave_core_ne s l m cause sub other (idle m)⟩
  all_goals
    unfold State.leave
    rw [laneSt_eq, all l]
    simp [cycles, dropSender_core, idle]

/-- Of three voting lanes one leaves, and two are enough to go on. -/
theorem leaveVote_of_all (s : State) (l : Lane) (cause sub : Nat) (cycles : s.mod.mode.cycles = true) (all : AllVoting s) :
    On (s.leaveVote l cause sub) fun t => (t.lanes.get l).core.st = .minority ∧ (t.lanes.get l).core.cause = cause ∧
      (t.lanes.get l).core.late = (s.lanes.get l).core.late ∧ ∀ m, m ≠ l → (t.lanes.get m).core = (s.lanes.get m).core := by
  obtain ⟨st, why, late, others⟩ := leave_of_voting s l cause sub cycles all
  have two : LaneSet.count (s.leave l cause sub).votingLanes = 2 := by
    refine count_of_all_but_one _ l fun m => ?_
    by_cases same : m = l
    · subst same
      simp [st]
    · simp [others m same, all m, same]
  unfold On State.leaveVote
  dsimp only
  rw [if_neg (by simp [two])]
  exact ⟨by simp [st], by simp [why], by simp [late], fun m other => by simp [others m other]⟩

/-- One of three voting lanes overruns. -/
theorem overrun_of_all (s : State) (l : Lane) (cycles : s.mod.mode.cycles = true) (all : AllVoting s) : On (s.overrun l) fun t =>
    (t.lanes.get l).core.st = .minority ∧ (t.lanes.get l).core.cause = 4 ∧ (t.lanes.get l).core.late = true := by
  have all' : AllVoting (s.modCore l fun c => { c with late := true }) := by
    intro m
    by_cases same : m = l
    · subst same
      simp [all m]
    · simp [State.modCore, get_modLane_ne, same, all m]
  obtain ⟨st, why, late, -⟩ := leaveVote_of_all (s.modCore l fun c => { c with late := true }) l 4 0 cycles all'
  exact ⟨st, why, late.trans (by simp)⟩

/-- A voting lane without its MARK at the deadline leaves a vote of three. -/
theorem tickDeadlineOp_overruns (l : Lane) (s : State) (operate : s.mod.mode = .operate) (votes : s.votingLanes = LaneSet.full)
    (unmarked : (s.lane l).core.markSent = false) : On (tickDeadlineOp l s) fun t =>
    t.laneSt l = .minority ∧ (t.lane l).core.cause = 4 ∧ (t.lane l).core.late = true := by
  have all := (allVoting_iff s).2 votes
  have cycles : s.mod.mode.cycles = true := by rw [operate]; rfl
  rw [lane_eq] at unmarked
  unfold On tickDeadlineOp
  rw [if_pos (by simp [cycles, all l, unmarked])]
  exact overrun_of_all s l cycles all

/-- A lane whose route engine needs longer than its limit leaves a vote of three. -/
theorem routeEngineOp_late (l : Lane) (us : Nat) (fs : List ItemFault) (s : State) (runs : s.formsRun = true)
    (operate : s.mod.mode = .operate) (votes : s.votingLanes = LaneSet.full) (idle : (s.lane l).rte.tableDone = false) (long : 2800 < us) :
    On (routeEngineOp l us 366601 fs s) fun t => (t.lane l).rte.late = true ∧ t.laneSt l = .minority ∧ (t.lane l).core.cause = 4 ∧
      ∀ m, m ≠ l → (t.lane m).rte.late = (s.lane m).rte.late := by
  have all := (allVoting_iff s).2 votes
  rw [lane_eq] at idle
  have ticks : s.ticking l = true := by simp [State.ticking, all l]
  unfold On routeEngineOp
  rw [if_pos (by simp [runs, ticks, idle])]
  extract_lets late s1 src s2
  have all2 : AllVoting s2 := fun m => by simp [s2, s1, all m]
  have cycles : s2.mod.mode.cycles = true := by simp [s2, s1, operate, Mode.cycles]
  have flagged : (s2.lanes.get l).rte.late = true := by simp [s2, s1, late, long]
  have others (m : Lane) (other : m ≠ l) : (s2.lanes.get m).rte = (s.lanes.get m).rte := by
    simp [s2, s1, State.modRte, get_modLane_ne, other]
  obtain ⟨st, why, -⟩ := overrun_of_all s2 l cycles all2
  clear_value s2
  rw [if_pos (by simp [late, long, all2 l])]
  exact ⟨by simp [flagged], st, why, fun m other => by simp [others m other]⟩

end Sys2Proof.Machine
end

section
/-!
SUPPORT. The check of the engines, the millisecond, and the boundary after which a late lane is out.
-/

namespace Sys2Proof.Machine

open Sys2Proof

/-! ### The engines at T₃ -/

/-- What the check at T₃ does with one lane (R133, R150). -/
def State.engineStep (s : State) (l : Lane) : State :=
  let r := (s.lane l).rte
  if !r.tableDone then
    let t := s.modRte l fun r => { r with late := true }
    if t.laneSt l = .voting then t.overrun l else t
  else if r.steps ≠ 366601 && s.laneSt l = .voting then s.leaveVote l 7 0 else s

theorem engineCheck_eq (s : State) : s.engineCheck = s.forLanes (s.lanes.mapL fun l _ => s.ticking l) State.engineStep := rfl

/-- A lane's engine has completed with its step count. -/
def EngineGood (s : State) (l : Lane) : Prop := (s.lanes.get l).rte.tableDone = true ∧ (s.lanes.get l).rte.steps = 366601

theorem engineStep_of_good (s : State) (l : Lane) (good : EngineGood s l) : s.engineStep l = s := by
  obtain ⟨done, steps⟩ := good
  simp [State.engineStep, done, steps]

theorem engineStep_rte_ne (s : State) (l m : Lane) (other : m ≠ l) :
    ((s.engineStep l).lanes.get m).rte = (s.lanes.get m).rte := by
  unfold State.engineStep
  dsimp only
  (repeat' split) <;> simp [State.overrun, State.modRte, get_modLane_ne, other]

theorem engineCheck_of_good (s : State) (good : ∀ l, EngineGood s l) : s.engineCheck = s := by
  rw [engineCheck_eq]
  refine List.foldlRecOn (motive := fun t => t = s) _ _ rfl fun t same l _ => ?_
  rw [same, engineStep_of_good s l (good l)]

/-- Where one engine of three voting lanes has not completed, the check concerns its lane alone. -/
theorem engineCheck_of_one (s : State) (l : Lane) (all : AllVoting s) (good : ∀ m, m ≠ l → EngineGood s m) :
    s.engineCheck = s.engineStep l := by
  have ticks : (s.lanes.mapL fun l _ => s.ticking l) = LaneSet.full := by
    have ticking (m : Lane) : s.ticking m = true := by simp [State.ticking, all m]
    simp [PerLane.mapL, ticking, LaneSet.full]
  have after (m : Lane) (other : m ≠ l) : EngineGood (s.engineStep l) m := by
    simpa [EngineGood, engineStep_rte_ne s l m other] using good m other
  rw [engineCheck_eq, ticks]
  show ((s.engineStep .a).engineStep .b).engineStep .c = s.engineStep l
  cases l
  · rw [engineStep_of_good _ .b (after .b nofun), engineStep_of_good _ .c (after .c nofun)]
  · rw [engineStep_of_good s .a (good .a nofun), engineStep_of_good _ .c (after .c nofun)]
  · rw [engineStep_of_good s .a (good .a nofun), engineStep_of_good s .b (good .b nofun)]

/-- The lane whose engine has not completed is out of the vote and marked late. -/
theorem engineStep_late (s : State) (l : Lane) (voting : (s.lanes.get l).core.st = .voting) (idle : (s.lanes.get l).rte.tableDone = false) :
    OutOfVote (s.engineStep l) l ∧ ((s.engineStep l).lanes.get l).rte.late = true := by
  unfold State.engineStep
  extract_lets r t
  have voting' : (t.lanes.get l).core.st = .voting := by simp [t, voting]
  rw [if_pos (by simp [r, idle]), if_pos (show t.laneSt l = .voting from voting')]
  exact ⟨overrun_outOfVote t l l (.inr ⟨rfl, voting'⟩), by simp [State.overrun, t]⟩

/-! ### What passes with a millisecond -/

theorem passTick_keeps (s : State) : On s.passTick fun t => t.acc = s.acc ∧ t.mod.mode = s.mod.mode ∧ t.mod.cycle = s.mod.cycle ∧
    t.plink.safeAfter = s.plink.safeAfter ∧ t.rcd.opTime = s.rcd.opTime + 1 ∧ SameIn (·.core) t s ∧ SameIn (·.rte) t s := by
  unfold On State.passTick
  simp [State.passMs]

theorem stepUp_pwr_ne (s : State) (l m : Lane) (other : m ≠ l) : ((s.stepUp l).lanes.get m).pwr = (s.lanes.get m).pwr := by
  unfold State.stepUp State.beginStep
  split
  · rfl
  · simp [State.modPwr, get_modLane_ne, other]

/-- Only a lane that catches up begins a step of its level. -/
theorem passTick_stepped (s : State) (l : Lane) (idle : s.inStep l 4 = false) : (s.passTick.lanes.get l).pwr.stepped = false := by
  unfold State.passTick
  extract_lets s0 s1 deg full
  have start : (s0.lanes.get l).pwr.stepped = false := by simp [s0]
  have core0 : (s0.lanes.get l).core = (s.lanes.get l).core := by simp [s0]
  have idle0 : s0.inStep l 4 = s.inStep l 4 :=
    congrArg (fun c : CoreS => decide (c.st = .resync) && decide (c.resync.step = 4)) core0
  have kept : (s1.lanes.get l).pwr.stepped = false := by
    refine List.foldlRecOn (motive := fun t : State => (t.lanes.get l).pwr.stepped = false) _ _ start fun t same k mem => ?_
    have other : l ≠ k := by
      rintro rfl
      have steps := (List.mem_filter.1 mem).2
      rw [idle0, idle, Bool.false_and] at steps
      exact Bool.false_ne_true steps
    rw [stepUp_pwr_ne t k l other, same]
  exact kept

/-- Outside cycles a boundary counts a millisecond and clears the marks. -/
theorem tickBoundaryOp_outside (marks views : PerLane LaneSet) (clock : PerLane (BitVec 64)) (s : State) (on : s.mod.mode ≠ .off)
    (outside : s.mod.mode.cycles = false) : On (tickBoundaryOp marks views clock s) fun t =>
    t.rcd.opTime = s.rcd.opTime + 1 ∧ t.mod.mode = s.mod.mode ∧
      ∀ l, (t.lane l).core.markSent = false ∧ (s.inStep l 4 = false → (t.lane l).pwr.stepped = false) := by
  obtain ⟨-, mode, -, -, time, -⟩ := passTick_keeps s
  unfold On tickBoundaryOp
  rw [if_neg on]
  extract_lets p s1 table heard
  have same : s1 = p := if_neg (by simp [p, outside])
  rw [if_pos (by simp [same, p, outside])]
  refine ⟨?_, ?_, fun l => ⟨?_, fun idle => ?_⟩⟩
  · simp [same, p, time]
  · simp [same, p]
  · simp
  · simp [same, p, passTick_stepped s l idle]

/-! ### A lane whose engine is late -/

theorem forLanes_outOfVote (f : State → Lane → State) (l : Lane) (keeps : ∀ s m, OutOfVote s l → OutOfVote (f s m) l) (ls : LaneSet)
    (s : State) (out : OutOfVote s l) : OutOfVote (s.forLanes ls f) l :=
  List.foldlRecOn (motive := fun t : State => OutOfVote t l) _ f out fun t out m _ => keeps t m out

theorem lone_outOfVote (s : State) (m l : Lane) (out : OutOfVote s l) :
    OutOfVote ((s.modCore m fun c => { c with lone := true }).leaveVote m 5 2) l := by
  refine leaveVote_outOfVote _ m l 5 2 (.inl ?_)
  by_cases same : l = m
  · subst same
    exact out.of_core (by simp) (by simp)
  · exact out.of_core (by simp [State.modCore, get_modLane_ne, same]) (by simp [State.modCore, get_modLane_ne, same])

theorem fixVote_outOfVote (s : State) (table : PerLane LaneSet) (l : Lane) (out : OutOfVote s l) : OutOfVote (s.fixVote table) l := by
  unfold State.fixVote
  extract_lets was late onTime lone s1 s2 s3 src
  have marks : OutOfVote s1 l := forLanes_outOfVote _ l (fun s m out => overrun_outOfVote s m l (.inl out)) late s out
  have alone : OutOfVote s2 l := forLanes_outOfVote _ l (fun s m out => lone_outOfVote s m l out) lone s1 marks
  split
  · refine (forLanes_outOfVote _ l (fun s m out => ?_) _ s1 marks).of_core rfl rfl
    split
    · exact lone_outOfVote s m l out
    · exact leaveVote_outOfVote s m l 5 1 (.inl out)
  · have safe : OutOfVote s3 l := by
      simp only [s3]
      split
      · exact enterSafe_outOfVote s2 16 l alone
      · exact alone
    exact safe.of_core rfl rfl

/-! The tick of the accord, which losing lanes leaves alone. -/

@[simp] theorem withdraw_tick (s : State) (l : Lane) : (s.withdraw l).acc.tick = s.acc.tick := by
  simp [State.withdraw]

@[simp] theorem leave_tick (s : State) (l : Lane) (cause sub : Nat) : (s.leave l cause sub).acc.tick = s.acc.tick := by
  unfold State.leave
  dsimp only
  (repeat' split) <;> simp

@[simp] theorem refuseTaken_tick (s : State) : s.refuseTaken.acc.tick = s.acc.tick := by
  unfold State.refuseTaken
  split <;> simp

@[simp] theorem enterSafe_tick (s : State) (trigger : Nat) : (s.enterSafe trigger).acc.tick = s.acc.tick := by
  simp [State.enterSafe]

@[simp] theorem leaveVote_tick (s : State) (l : Lane) (cause sub : Nat) : (s.leaveVote l cause sub).acc.tick = s.acc.tick := by
  unfold State.leaveVote
  dsimp only
  split <;> simp

@[simp] theorem overrun_tick (s : State) (l : Lane) : (s.overrun l).acc.tick = s.acc.tick := by
  simp [State.overrun]

theorem engineStep_tick (s : State) (l : Lane) : (s.engineStep l).acc.tick = s.acc.tick := by
  unfold State.engineStep
  dsimp only
  (repeat' split) <;> simp

theorem fixVote_tick (s : State) (table : PerLane LaneSet) : (s.fixVote table).acc.tick = s.acc.tick := by
  unfold State.fixVote
  extract_lets was late onTime lone s1 s2 s3 src
  have marks : s1.acc.tick = s.acc.tick := keep_foldl (fun s => s.acc.tick) _ overrun_tick _ s
  have alone : s2.acc.tick = s1.acc.tick := keep_foldl (fun s => s.acc.tick) _ (fun s l => by simp) _ s1
  split
  · refine (keep_foldl (fun s => s.acc.tick) _ (fun s l => ?_) _ s1).trans marks
    split <;> simp
  · have safe : s3.acc.tick = s2.acc.tick := by
      simp only [s3]
      split <;> simp
    exact safe.trans (alone.trans marks)

theorem fixVote_rte (s : State) (table : PerLane LaneSet) (l : Lane) :
    ((s.fixVote table).lanes.get l).rte = (s.lanes.get l).rte := by
  unfold State.fixVote
  extract_lets was late onTime lone s1 s2 s3 src
  have marks : (s1.lanes.get l).rte = (s.lanes.get l).rte :=
    keep_foldl (fun s => (s.lanes.get l).rte) _ (fun s m => by simp [State.overrun]) _ s
  have alone : (s2.lanes.get l).rte = (s1.lanes.get l).rte := keep_foldl (fun s => (s.lanes.get l).rte) _ (fun s m => by simp) _ s1
  split
  · refine (keep_foldl (fun s => (s.lanes.get l).rte) _ (fun s m => ?_) _ s1).trans marks
    split <;> simp
  · have safe : (s3.lanes.get l).rte = (s2.lanes.get l).rte := by
      simp only [s3]
      split <;> simp
    exact safe.trans (alone.trans marks)

/-- The exchange towards the accord sets clocks, and no lane's place in the vote. -/
theorem formTick_st (s : State) (table : PerLane LaneSet) (clock : PerLane (BitVec 64)) (l : Lane) :
    ((s.formTick table clock).lanes.get l).core.st = (s.lanes.get l).core.st := by
  have set (timer : Option Nat) (m : Lane) (t : State) :
      ((t.modCore m fun c => { c with tickTimer := timer }).lanes.get l).core.st = (t.lanes.get l).core.st := by
    by_cases same : l = m
    · subst same
      simp
    · simp [State.modCore, get_modLane_ne, same]
  unfold State.formTick
  extract_lets f two g shared timer s1 src
  have timed : (s1.lanes.get l).core.st = (s.lanes.get l).core.st := by
    simp only [s1]
    split
    · exact keep_foldl (fun s => (s.lanes.get l).core.st) _ (fun t m => set timer m t) _ s
    · rfl
  split
  · exact timed
  · rfl

/-- The heartbeats and the choice of the edge's clock keep each lane's place in the vote. -/
theorem beat_keeps (s : State) : On s.heartbeats.edgeSelect fun t => t.acc = s.acc ∧ t.mod.cycle = s.mod.cycle ∧ ∀ l,
    (t.lanes.get l).core.st = (s.lanes.get l).core.st ∧ (t.lanes.get l).core.next = (s.lanes.get l).core.next := by
  unfold On State.edgeSelect
  (repeat' split) <;> simp [State.recordClock]

/-- A lane whose engine has not completed at T₃ is out of the vote after the boundary, and marked late. -/
theorem tickBoundaryOp_late (marks views : PerLane LaneSet) (clock : PerLane (BitVec 64)) (l : Lane) (s : State)
    (operate : s.mod.mode = .operate) (votes : s.votingLanes = LaneSet.full) (tick : s.acc.tick = 2)
    (idle : (s.lane l).rte.tableDone = false) (good : ∀ m, m ≠ l → EngineGood s m) : On (tickBoundaryOp marks views clock s) fun t =>
    t.laneSt l ≠ .voting ∧ (t.lane l).rte.late = true := by
  obtain ⟨acc, mode, -, -, -, core, rte⟩ := passTick_keeps s
  unfold On tickBoundaryOp
  rw [if_neg (by simp [operate])]
  extract_lets p s1 table heard s2 s3 k srcAcc srcIxl srcSheets s4 s5
  have all : AllVoting p := fun m => (congrArg CoreS.st (core m)).trans ((allVoting_iff s).2 votes m)
  have due : (p.mod.mode.cycles && decide (p.acc.tick = 2)) = true := by simp [p, operate, tick, Mode.cycles]
  have step : s1 = p.engineStep l := (if_pos due).trans (engineCheck_of_one p l all fun m other => by
    simpa [EngineGood, p] using good m other)
  obtain ⟨out1, late1⟩ := engineStep_late p l (all l) (by simpa [p] using idle)
  rw [← step] at out1 late1
  have tick1 : s1.acc.tick = 2 := by rw [step, engineStep_tick]; simp [p, tick]
  clear_value s1
  split
  · exact ⟨by simp [formTick_st, out1.1], by simp [late1]⟩
  have out3 : OutOfVote s3 l := (fixVote_outOfVote s1 table l out1).of_core (by simp [s3, s2]) (by simp [s3, s2])
  have late3 : (s3.lanes.get l).rte.late = true := by simp [s3, s2, fixVote_rte, late1]
  have third : k = 3 := by simp [k, s3, s2, fixVote_tick, tick1]
  clear_value s3
  split
  · exact ⟨out3.1, late3⟩
  have out4 : OutOfVote s4 l := out3.of_core rfl rfl
  have late4 : (s4.lanes.get l).rte.late = true := late3
  clear_value s4
  split
  · exact ⟨(enterSafe_outOfVote s4 17 l out4).1, by simp [late4]⟩
  have same : s5 = s4 := if_neg (by simp [third])
  obtain ⟨-, -, places⟩ := beat_keeps s4
  rw [same]
  exact ⟨by rw [laneSt_eq, (places l).1]; exact out4.1, by simp [late4]⟩

end Sys2Proof.Machine
end

section
/-!
SUPPORT. The boundary at which every MARK and VIEW was heard, and the cycle commands (O31).
-/

namespace Sys2Proof.Machine

open Sys2Proof

/-! ### Every MARK and VIEW heard -/

/-- Every lane votes, has sent its MARK and has lost no message. -/
def AllHeard (s : State) : Prop :=
  ∀ l, (s.lanes.get l).core.st = .voting ∧ (s.lanes.get l).core.markSent = true ∧ (s.lanes.get l).core.lost = []

theorem AllHeard.allVoting {s : State} (h : AllHeard s) : AllVoting s := fun l => (h l).1

@[simp] theorem get_mapL {α β : Type} (x : PerLane α) (f : Lane → α → β) (l : Lane) : (x.mapL f).get l = f l (x.get l) := by
  cases l <;> rfl

theorem get_none (l : Lane) : LaneSet.none.get l = false := by cases l <;> rfl

theorem marksHeard_full (s : State) (h : AllHeard s) (x : Lane) : s.marksHeard (PerLane.pure LaneSet.full) x = LaneSet.full := by
  refine perLane_ext fun y => ?_
  obtain ⟨-, sent, -⟩ := h y
  obtain ⟨-, -, lost⟩ := h x
  have marks : ((PerLane.pure LaneSet.full).get x).get y = true := by cases x <;> cases y <;> rfl
  simp [State.marksHeard, sent, lost, marks, get_full]

theorem heardTable_full (s : State) (h : AllHeard s) :
    s.heardTable (PerLane.pure LaneSet.full) (PerLane.pure LaneSet.full) = PerLane.pure LaneSet.full := by
  have row (x : Lane) : ((s.marksHeard (PerLane.pure LaneSet.full) x).mapL fun y heard => heard && (x = y ||
      (((PerLane.pure LaneSet.full).get x).get y && !(s.lane x).core.lost.contains (y, .view)))) = LaneSet.full := by
    refine perLane_ext fun y => ?_
    obtain ⟨-, -, lost⟩ := h x
    have views : ((PerLane.pure LaneSet.full).get x).get y = true := by cases x <;> cases y <;> rfl
    simp [marksHeard_full s h x, get_full, lost, views]
  exact perLane_ext fun x => by cases x <;> exact row _

/-- With every MARK and VIEW heard the vote stays that of all three. -/
theorem fixVote_full (s : State) (h : AllHeard s) : s.fixVote (PerLane.pure LaneSet.full) =
    { s with acc := { s.acc with voting := LaneSet.full, views := PerLane.pure LaneSet.full } } := by
  have votes : s.votingLanes = LaneSet.full := (allVoting_iff s).1 h.allVoting
  have onTime : (if s.acc.fresh then LaneSet.none else s.votingLanes.mapL fun l b => b && !(s.lane l).core.markSent) = LaneSet.none := by
    split
    · rfl
    · refine perLane_ext fun l => ?_
      obtain ⟨-, sent, -⟩ := h l
      simp [sent, get_none]
  have agreed : votingSetOf (PerLane.pure LaneSet.full) (LaneSet.diff LaneSet.full LaneSet.none) = some LaneSet.full := by decide
  unfold State.fixVote
  dsimp only
  rw [onTime, votes, agreed]
  rfl

/-! ### Into the next tick -/

theorem tick0_first (s : State) (all : AllVoting s) : (s.each Lane.all fun s l =>
    if s.laneSt l = .minority then s.takeNext l
    else if s.laneSt l = .resync && (s.lane l).core.resync.step = 6 then s.rejoin l else s) = s := by
  refine List.foldlRecOn (motive := fun t => t = s) _ _ rfl fun t same l _ => ?_
  rw [same]
  simp [all l]

@[simp] theorem suspendForAccord_core (x : LaneS) : x.suspendForAccord.core = x.core := by
  unfold LaneS.suspendForAccord
  refine List.foldlRecOn (motive := fun y : LaneS => y.core = x.core) _ _ rfl fun y same c _ => ?_
  split <;> exact same

/-- T₀ with three voting lanes begins the next cycle with its accord open. -/
theorem tick0_all (s : State) (clock : PerLane (BitVec 64)) (all : AllVoting s) (begun : s.acc.fresh = false)
    (stays : s.plink.safeAfter = false) : On (s.tick0 clock) fun t =>
    t.acc.tick = s.acc.tick ∧ t.mod.cycle = s.mod.cycle + 1 ∧ t.acc.isOpen = true ∧ AllVoting t := by
  unfold On State.tick0
  rw [tick0_first s all]
  extract_lets first s1 begin_ s2 srcMod s3 s4 shot srcAcc srcPlink srcSup
  have on : s4.plink.safeAfter = false := by simp [s4, s3, s2, s1, stays]
  rw [if_neg (by simp [on])]
  refine ⟨?_, ?_, rfl, fun l => ?_⟩
  · show s4.acc.tick = s.acc.tick
    simp [s4, s3, s2, s1]
  · simp [s4, s3, s2, s1, srcMod, first, begun]
  · simp [s4, s3, s2, s1, all l]

/-- A boundary that hears every MARK and VIEW changes no lane's place in the vote and moves to the next tick, at T₀ into the next cycle. -/
theorem tickBoundaryOp_heard (clock : PerLane (BitVec 64)) (s : State) (operate : s.mod.mode = .operate) (h : AllHeard s)
    (safeAt4 : s.acc.safeAt4 = false) (safeNext : s.acc.safeNext = false) (good : s.acc.tick = 2 → ∀ l, EngineGood s l) :
    ∃ u, tickBoundaryOp (PerLane.pure LaneSet.full) (PerLane.pure LaneSet.full) clock s =
        (if (s.acc.tick + 1) % 10 = 0 then u.tick0 clock else u).heartbeats.edgeSelect ∧
      AllVoting u ∧ u.acc.tick = (s.acc.tick + 1) % 10 ∧ u.acc.voting = LaneSet.full ∧ u.acc.fresh = s.acc.fresh ∧
      u.mod.cycle = s.mod.cycle ∧ u.plink.safeAfter = s.plink.safeAfter := by
  obtain ⟨acc, mode, cycle, after, -, core, rte⟩ := passTick_keeps s
  unfold tickBoundaryOp
  rw [if_neg (by simp [operate])]
  extract_lets p s1 table heard s2 s3 k srcAcc srcIxl srcSheets s4 s5
  have checked : s1 = p := by
    simp only [s1]
    split
    next due =>
      refine engineCheck_of_good p fun l => ?_
      simpa [EngineGood, p] using good (by simp_all [p]) l
    next => rfl
  have heardP : AllHeard p := fun l => by simpa [p] using h l
  have cycles : p.mod.mode.cycles = true := by simp [p, operate, Mode.cycles]
  have whole : table = PerLane.pure LaneSet.full := by
    simp only [table, checked]
    exact heardTable_full p heardP
  have vote : s2 = { p with acc := { p.acc with voting := LaneSet.full, views := PerLane.pure LaneSet.full } } := by
    simp only [s2, whole, checked]
    exact fixVote_full p heardP
  have cycles3 : s3.mod.mode.cycles = true := by simp [s3, vote, cycles]
  have next : k = (s.acc.tick + 1) % 10 := by simp [k, s3, vote, p]
  rw [if_neg (by simp [checked, cycles]), if_neg (by simp [cycles3]),
    if_neg (by simp [s4, s3, srcAcc, vote, p, safeAt4, safeNext])]
  refine ⟨s4, by simp only [s5, next], fun l => ?_, next, ?_, ?_, ?_, ?_⟩
  · simp [s4, s3, vote, p, (h l).1]
  · simp [s4, s3, srcAcc, vote]
  · simp [s4, s3, srcAcc, vote, p]
  · simp [s4, s3, vote, p, cycle]
  · simp [s4, s3, vote, p, after]

/-- Within a cycle such a boundary moves to the next tick. -/
theorem tickBoundaryOp_next (clock : PerLane (BitVec 64)) (s : State) (operate : s.mod.mode = .operate) (h : AllHeard s)
    (safeAt4 : s.acc.safeAt4 = false) (safeNext : s.acc.safeNext = false) (within : s.acc.tick < 9)
    (good : s.acc.tick = 2 → ∀ l, EngineGood s l) :
    On (tickBoundaryOp (PerLane.pure LaneSet.full) (PerLane.pure LaneSet.full) clock s) fun t =>
      t.acc.tick = s.acc.tick + 1 ∧ t.acc.voting = LaneSet.full ∧ t.mod.cycle = s.mod.cycle ∧ ∀ l, t.laneSt l = .voting := by
  obtain ⟨u, step, all, tick, voting, -, cycle, -⟩ := tickBoundaryOp_heard clock s operate h safeAt4 safeNext good
  have next : (s.acc.tick + 1) % 10 = s.acc.tick + 1 := Nat.mod_eq_of_lt (by omega)
  rw [if_neg (by omega)] at step
  obtain ⟨acc, cycle', places⟩ := beat_keeps u
  rw [step]
  exact ⟨by rw [acc, tick, next], by rw [acc, voting], cycle'.trans cycle, fun l => (places l).1.trans (all l)⟩

/-- The boundary after tick 9 begins the next cycle with its accord open. -/
theorem tickBoundaryOp_cycle (clock : PerLane (BitVec 64)) (s : State) (operate : s.mod.mode = .operate) (h : AllHeard s)
    (safeAt4 : s.acc.safeAt4 = false) (safeNext : s.acc.safeNext = false) (last : s.acc.tick = 9) (begun : s.acc.fresh = false)
    (stays : s.plink.safeAfter = false) :
    On (tickBoundaryOp (PerLane.pure LaneSet.full) (PerLane.pure LaneSet.full) clock s) fun t =>
      t.acc.tick = 0 ∧ t.mod.cycle = s.mod.cycle + 1 ∧ t.acc.isOpen = true ∧ ∀ l, t.laneSt l = .voting := by
  obtain ⟨u, step, all, tick, -, fresh, cycle, after⟩ := tickBoundaryOp_heard clock s operate h safeAt4 safeNext (by omega)
  rw [if_pos (by omega)] at step
  obtain ⟨tick0, cycle0, isOpen, all0⟩ := tick0_all u clock all (fresh.trans begun) (after.trans stays)
  obtain ⟨acc, cycle', places⟩ := beat_keeps (u.tick0 clock)
  rw [step]
  exact ⟨by rw [acc, tick0, tick, last], by rw [cycle', cycle0, cycle], by rw [acc, isOpen], fun l => (places l).1.trans (all0 l)⟩

/-- Settles O31: the end of a lane's tick, the deadline, the boundary outside and within cycles, and the two forms of the evaluation. -/
theorem cycleCommands : Obligations.CycleCommands := by
  refine ⟨?_, ?_, ?_, ?_, ?_, ?_, ?_, ?_, ?_, ?_, ?_, ?_⟩
  · intro l h w m s runs ticks free done room
    exact ⟨_, rfl, laneTickOp_marks l h w m s runs ticks free done room⟩
  · intro l h w m s busy
    exact ⟨_, rfl, laneTickOp_waits l h w m s busy⟩
  · intro l s operate votes unmarked
    exact ⟨_, rfl, tickDeadlineOp_overruns l s operate votes unmarked⟩
  · intro marks views clock s on outside
    exact ⟨_, rfl, tickBoundaryOp_outside marks views clock s on outside⟩
  · intro clock s operate h safeAt4 safeNext within good
    exact ⟨_, rfl, tickBoundaryOp_next clock s operate h safeAt4 safeNext within good⟩
  · intro marks views clock l s operate votes tick idle good
    exact ⟨_, rfl, tickBoundaryOp_late marks views clock l s operate votes tick idle good⟩
  · intro clock s operate h safeAt4 safeNext last begun stays
    exact ⟨_, rfl, tickBoundaryOp_cycle clock s operate h safeAt4 safeNext last begun stays⟩
  · intro s due none
    exact ⟨_, rfl, cycleEvaluationOp_forms s due none⟩
  · intro l us s runs ticks idle inTime
    exact ⟨_, rfl, routeEngineOp_inTime l us s runs ticks idle inTime⟩
  · intro l us fs s runs operate votes idle long
    exact ⟨_, rfl, routeEngineOp_late l us fs s runs operate votes idle long⟩
  · intro fs s runs idle fits
    exact ⟨_, rfl, graphSolverOp_completes fs s runs idle fits⟩
  · intro fs s left
    exact congrArg Host.Outcome.next (graphSolverOp_waits fs s left)

end Sys2Proof.Machine
end

section
/-!
SUPPORT. What each operation leaves of the lanes, where Laws does not say it: the bytes of memory through every operation that changes the
    rest of
a lane's MMU, and every part of a lane through the operations without a frame in Laws.
-/

namespace Sys2Proof.Machine

open Sys2Proof

/-- Every lane's bytes of memory are those of another state. -/
@[simp] abbrev SameBytes (t s : State) : Prop := ∀ l, (t.lanes.get l).mmu.bytes = (s.lanes.get l).mmu.bytes

/-- Every lane's clocks, power and time base are those of another state. -/
@[simp] abbrev SpeedKept (t s : State) : Prop := SameIn (·.clk) t s ∧ SameIn (·.pwr) t s ∧ SameIn (·.tbs) t s

/-- Both of every lane's arbiters are those of another state. -/
@[simp] abbrev ArbitersKept (t s : State) : Prop := SameIn (·.arbE) t s ∧ SameIn (·.arbD) t s

/-- Every lane's DMA channels, check-value units, counters and route engine are those of another state. -/
@[simp] abbrev UnitsKept (t s : State) : Prop := SameIn (·.dma) t s ∧ SameIn (·.cvu) t s ∧ SameIn (·.perf) t s ∧ SameIn (·.rte) t s

/-- Of the lanes no more than the diagnosis changes, in which records count their snapshots (R397). -/
@[simp] abbrev RecordKept (t s : State) : Prop :=
  SameIn (·.core) t s ∧ SpeedKept t s ∧ SameIn (·.mmu) t s ∧ ArbitersKept t s ∧ UnitsKept t s

/-- Of the lanes no more than the core, the diagnosis, the arbiters and the account of a copy change, as a lane's return does (R361, R462).
-/
@[simp] abbrev ReturnKept (t s : State) : Prop := SpeedKept t s ∧ SameBytes t s ∧ UnitsKept t s

/-! ### The bytes of memory -/

@[simp] theorem ite_mmu_bytes (c : Prop) [Decidable c] (x y : MmuS) : (if c then x else y).bytes = if c then x.bytes else y.bytes := by
  split <;> rfl

@[simp] theorem clearSent_bytes (m : MmuS) : m.clearSent.bytes = m.bytes := rfl

@[simp] theorem modMaster_bytes (m : MmuS) (n : Nat) (f : MmuMaster → MmuMaster) : (m.modMaster n f).bytes = m.bytes := rfl

@[simp] theorem slice_bytes (m : MmuS) (i : Nat) : (m.slice i).bytes = m.bytes := by
  unfold MmuS.slice MmuS.rotateBank
  dsimp only
  (repeat' split) <;> rfl

@[simp] theorem countEcc_bytes (m : MmuS) (a : Nat) (corrected : Bool) : (m.countEcc a corrected).bytes = m.bytes := by
  unfold MmuS.countEcc
  split <;> rfl

@[simp] theorem refill_bytes (m : MmuS) (master vpn : Nat) : (m.refill master vpn).bytes = m.bytes := by
  unfold MmuS.refill
  dsimp only
  rfl

@[simp] theorem modLane_l_bytes (s : State) (l m : Lane) (f : LaneS → LaneS) (h : ∀ x, (f x).mmu.bytes = x.mmu.bytes) :
    ((s.modLane l f).lanes.get m).mmu.bytes = (s.lanes.get m).mmu.bytes := by
  by_cases same : m = l
  · rw [same, get_modLane_same, h]
  · rw [get_modLane_ne s l m f same]

@[simp] theorem modMmu_l_bytes (s : State) (l m : Lane) (f : MmuS → MmuS) (h : ∀ x, (f x).bytes = x.bytes) :
    ((s.modMmu l f).lanes.get m).mmu.bytes = (s.lanes.get m).mmu.bytes := modLane_l_bytes s l m _ fun x => h x.mmu

@[simp] theorem mapLanes_l_bytes (s : State) (m : Lane) (f : Lane → LaneS → LaneS) (h : ∀ l x, (f l x).mmu.bytes = x.mmu.bytes) :
    ((s.mapLanes f).lanes.get m).mmu.bytes = (s.lanes.get m).mmu.bytes := by
  rw [get_mapLanes, h]

@[simp] theorem each_l_bytes {α : Type} (m : Lane) (f : State → α → State) (h :
    ∀ s x, ((f s x).lanes.get m).mmu.bytes = (s.lanes.get m).mmu.bytes)
    (l : List α) (s : State) : ((s.each l f).lanes.get m).mmu.bytes = (s.lanes.get m).mmu.bytes :=
  keep_foldl (fun s => (s.lanes.get m).mmu.bytes) f h l s

@[simp] theorem forLanes_l_bytes (m : Lane) (f : State → Lane → State) (h :
    ∀ s x, ((f s x).lanes.get m).mmu.bytes = (s.lanes.get m).mmu.bytes)
    (ls : LaneSet) (s : State) : ((s.forLanes ls f).lanes.get m).mmu.bytes = (s.lanes.get m).mmu.bytes :=
  keep_foldl (fun s => (s.lanes.get m).mmu.bytes) f h _ s

@[simp] theorem regWrite_l_bytes (m : Lane) (s : State) (l : Lane) (ofs : Nat) (v : Word) (effect : State → State)
    (h : ∀ s, ((effect s).lanes.get m).mmu.bytes = (s.lanes.get m).mmu.bytes) :
    ((s.regWrite l ofs v effect).lanes.get m).mmu.bytes = (s.lanes.get m).mmu.bytes :=
  keep_regWrite (fun t => (t.lanes.get m).mmu.bytes) s l ofs v effect (by simp) (by simp) h

/-! ### A command that stands alone -/

/-- A command that stands alone keeps of the lanes what its body does: its refusals only record. -/
@[simp] theorem serve_recordKept (s : State) (h : CmdHdr) (opcode : Nat) (need : Option Role) (body : State → State)
    (hb : ∀ s, RecordKept (body s) s) : RecordKept (s.serve h opcode need body) s := by
  unfold State.serve
  (repeat' split) <;> simp [hb]

@[simp] theorem serveImage_recordKept (s : State) (h : CmdHdr) (opcode : Nat) (role : Role) (body : State → State)
    (hb : ∀ s, RecordKept (body s) s) : RecordKept (s.serveImage h opcode role body) s :=
  serve_recordKept s h opcode (some role) _ fun s => by split <;> simp [hb]

/-! ### One lane's arbiters -/

@[simp] theorem modArb_core (x : LaneS) (p : MemPort) (f : ArbS → ArbS) : (x.modArb p f).core = x.core := by cases p <;> rfl

@[simp] theorem modArb_clk (x : LaneS) (p : MemPort) (f : ArbS → ArbS) : (x.modArb p f).clk = x.clk := by cases p <;> rfl

@[simp] theorem modArb_pwr (x : LaneS) (p : MemPort) (f : ArbS → ArbS) : (x.modArb p f).pwr = x.pwr := by cases p <;> rfl

@[simp] theorem modArb_tbs (x : LaneS) (p : MemPort) (f : ArbS → ArbS) : (x.modArb p f).tbs = x.tbs := by cases p <;> rfl

@[simp] theorem modArb_diag (x : LaneS) (p : MemPort) (f : ArbS → ArbS) : (x.modArb p f).diag = x.diag := by cases p <;> rfl

@[simp] theorem modArb_mmu (x : LaneS) (p : MemPort) (f : ArbS → ArbS) : (x.modArb p f).mmu = x.mmu := by cases p <;> rfl

@[simp] theorem modArb_dma (x : LaneS) (p : MemPort) (f : ArbS → ArbS) : (x.modArb p f).dma = x.dma := by cases p <;> rfl

@[simp] theorem modArb_cvu (x : LaneS) (p : MemPort) (f : ArbS → ArbS) : (x.modArb p f).cvu = x.cvu := by cases p <;> rfl

@[simp] theorem modArb_perf (x : LaneS) (p : MemPort) (f : ArbS → ArbS) : (x.modArb p f).perf = x.perf := by cases p <;> rfl

@[simp] theorem modArb_rte (x : LaneS) (p : MemPort) (f : ArbS → ArbS) : (x.modArb p f).rte = x.rte := by cases p <;> rfl

/-! ### The operations, by what they keep of the lanes -/

@[simp] theorem failResync_bytes (s : State) (l : Lane) (st : LaneSt) : SameBytes (s.failResync l st) s := by
  simp [State.failResync]

@[simp] theorem copyFails_bytes (s : State) (l : Lane) : SameBytes (s.copyFails l) s := by
  unfold SameBytes State.copyFails
  dsimp only
  (repeat' split) <;> simp

@[simp] theorem dropSender_bytes (s : State) (l : Lane) : SameBytes (s.dropSender l) s := by
  simp [State.dropSender]

@[simp] theorem leave_bytes (s : State) (l : Lane) (cause sub : Nat) : SameBytes (s.leave l cause sub) s := by
  unfold SameBytes State.leave
  (repeat' split) <;> simp

@[simp] theorem leaveVote_bytes (s : State) (l : Lane) (cause sub : Nat) : SameBytes (s.leaveVote l cause sub) s := by
  simp [State.leaveVote]

@[simp] theorem leaveAll_bytes (s : State) (ls : LaneSet) (cause sub : Nat) : SameBytes (s.leaveAll ls cause sub) s := by
  simp [State.leaveAll]

@[simp] theorem bootArbiters_bytes (s : State) : SameBytes (s.bootArbiters) s := by
  simp [State.bootArbiters]

@[simp] theorem resetReleaseOp_bytes (a b c : StrapSample) (s : State) : SameBytes (resetReleaseOp a b c s) s := by
  simp [resetReleaseOp]

@[simp] theorem railFaultOp_bytes (rail : Rail) (l : Lane) (mv : Nat) (s : State) : SameBytes (railFaultOp rail l mv s) s := by
  unfold SameBytes railFaultOp
  (repeat' split) <;> simp

@[simp] theorem startLevel_bytes (s : State) (l : Lane) : SameBytes (s.startLevel l) s := by
  unfold SameBytes State.startLevel
  dsimp only
  (repeat' split) <;> simp

@[simp] theorem imageCheckOp_bytes (loadOk reloadOk : LaneSet) (s : State) : SameBytes (imageCheckOp loadOk reloadOk s) s := by
  simp [imageCheckOp]

@[simp] theorem failClock_bytes (s : State) (l : Lane) : SameBytes (s.failClock l) s := by
  simp [State.failClock]

@[simp] theorem clockTrip_bytes (s : State) (l : Lane) : SameBytes (s.clockTrip l) s := by
  unfold SameBytes State.clockTrip
  dsimp only
  (repeat' split) <;> simp

@[simp] theorem oscillatorUnstableOp_bytes (l : Lane) (osc : Osc) (s : State) : SameBytes (oscillatorUnstableOp l osc s) s := by
  unfold SameBytes oscillatorUnstableOp
  dsimp only
  (repeat' split) <;> simp

@[simp] theorem monitorWindowOp_bytes (l : Lane) (count : Nat) (s : State) : SameBytes (monitorWindowOp l count s) s := by
  simp [monitorWindowOp]

@[simp] theorem stallOp_bytes (l : Lane) (crossing : Nat) (addr : BitVec 36) (s : State) : SameBytes (stallOp l crossing addr s) s := by
  simp [stallOp]

@[simp] theorem canaryOp_lanes (l : Lane) (speed : Nat) (s : State) : On (canaryOp l speed s) fun t => SameIn (·.tbs) t s ∧
    SameBytes t s ∧ UnitsKept t s := by
  unfold On canaryOp
  (repeat' split) <;> simp

@[simp] theorem railGoodTimeoutOp_bytes (l : Lane) (s : State) : SameBytes (railGoodTimeoutOp l s) s := by
  unfold SameBytes railGoodTimeoutOp
  (repeat' split) <;> simp

@[simp] theorem overrun_bytes (s : State) (l : Lane) : SameBytes (s.overrun l) s := by
  simp [State.overrun]

@[simp] theorem engineCheck_lanes (s : State) : On (s.engineCheck) fun t => SameIn (·.tbs) t s ∧ SameBytes t s ∧ SameIn (·.cvu) t s := by
  unfold On State.engineCheck
  simp

@[simp] theorem tickDeadlineOp_bytes (l : Lane) (s : State) : SameBytes (tickDeadlineOp l s) s := by
  simp [tickDeadlineOp]

@[simp] theorem fixVote_lanes (s : State) (table : PerLane LaneSet) : On (s.fixVote table) fun t => SameIn (·.tbs) t s ∧ SameBytes t s ∧
    SameIn (·.cvu) t s := by
  unfold On State.fixVote
  dsimp only
  (repeat' split) <;> simp

@[simp] theorem rxMismatch_bytes (s : State) (l : Lane) (x : Nat × Nat × Nat) : SameBytes (s.rxMismatch l x) s := by
  simp [State.rxMismatch]

@[simp] theorem fetchTimeoutOp_bytes (l : Lane) (s : State) : SameBytes (fetchTimeoutOp l s) s := by
  simp [fetchTimeoutOp]

@[simp] theorem forceRelease_lanes (s : State) (l : Lane) (p : MemPort) (kind : Nat) :
    On (s.forceRelease l p kind) fun t => SameIn (·.pwr) t s ∧ SameIn (·.tbs) t s ∧ SameBytes t s ∧ UnitsKept t s := by
  unfold On State.forceRelease
  simp

@[simp] theorem arbiterOp_lanes (l : Lane) (p : MemPort) (idle : Nat) (present : List ArbRequest) (s0 : State) :
    On (arbiterOp l p idle present s0) fun t => SameIn (·.pwr) t s0 ∧ SameIn (·.tbs) t s0 ∧ SameBytes t s0 ∧ SameIn (·.dma) t s0 ∧
    SameIn (·.cvu) t s0 ∧ SameIn (·.rte) t s0 := by
  unfold On arbiterOp
  dsimp only
  (repeat' split) <;> simp

@[simp] theorem lockOverrunOp_lanes (l : Lane) (p : MemPort) (s : State) : On (lockOverrunOp l p s) fun t => SameIn (·.pwr) t s ∧
    SameIn (·.tbs) t s ∧ SameBytes t s ∧ UnitsKept t s := by
  unfold On lockOverrunOp
  simp

@[simp] theorem lockIdleOp_lanes (l : Lane) (p : MemPort) (s : State) : On (lockIdleOp l p s) fun t => SameIn (·.pwr) t s ∧
    SameIn (·.tbs) t s ∧ SameBytes t s ∧ UnitsKept t s := by
  unfold On lockIdleOp
  (repeat' split) <;> simp

@[simp] theorem judgeAlone_recordKept (s : State) (c : VitalCmd) : RecordKept (s.judgeAlone c) s := by
  simp [State.judgeAlone]

@[simp] theorem stationOp_recordKept (h : CmdHdr) (opcode target action step : Nat) (token : Word) (s : State) :
    RecordKept (stationOp h opcode target action step token s) s := by
  simp [stationOp]

@[simp] theorem routeEngineOp_bytes (l : Lane) (us steps : Nat) (faults : List ItemFault) (s : State) :
    SameBytes (routeEngineOp l us steps faults s) s := by
  simp [routeEngineOp]

@[simp] theorem outAccord_bytes (s : State) (sent : LaneSet) (wrong : PerLane (BitVec 64)) : SameBytes (s.outAccord sent wrong) s := by
  unfold SameBytes State.outAccord
  dsimp only
  (repeat' split) <;> simp

@[simp] theorem outputAccordOp_bytes (sent : LaneSet) (wrong : PerLane (BitVec 64)) (units : Nat) (s : State) :
    SameBytes (outputAccordOp sent wrong units s) s := by
  simp [outputAccordOp]

@[simp] theorem reportMinority_bytes (s : State) (ch : Nat) (l : Lane) : SameBytes (s.reportMinority ch l) s := by
  simp [State.reportMinority]

@[simp] theorem runSlice_bytes (s : State) (l : Lane) (misr : BitVec 64) (passSeconds : Nat) (again : Bool) :
    SameBytes (s.runSlice l misr passSeconds again) s := by
  simp [State.runSlice]

@[simp] theorem selftestSliceOp_bytes (misr : PerLane (BitVec 64)) (passSeconds : Nat) (s : State) :
    SameBytes (selftestSliceOp misr passSeconds s) s := by
  simp [selftestSliceOp]

@[simp] theorem loneClock_bytes (s : State) (l : Lane) : SameBytes (s.loneClock l) s := by
  simp [State.loneClock]

@[simp] theorem roundStartOp_bytes (round : Word) (devs : PerLane (List (Nat × Int))) (roundTrip : Option Nat) (s : State) :
    SameBytes (roundStartOp round devs roundTrip s) s := by
  simp [roundStartOp]

@[simp] theorem flagTx_bytes (s : State) (l : Lane) : SameBytes (s.flagTx l) s := by
  simp [State.flagTx]

@[simp] theorem voteSlot_bytes (s : State) (node : Nat) (d : NodeDef) (slot : Nat) (faults : PerLane (List (Nat × Byte))) :
    SameBytes (s.voteSlot node d slot faults) s := by
  unfold SameBytes State.voteSlot
  dsimp only
  (repeat' split) <;> simp

@[simp] theorem slotVoteOp_bytes (node : Nat) (faults : PerLane (List (Nat × Byte))) (s : State) :
    SameBytes (slotVoteOp node faults s) s := by
  unfold SameBytes slotVoteOp
  (repeat' split) <;> simp

@[simp] theorem decideClaim_recordKept (s : State) (port id : Nat) (digest : List Byte) : RecordKept (s.decideClaim port id digest) s := by
  unfold RecordKept State.decideClaim
  (repeat' split) <;> simp

@[simp] theorem useFrame_recordKept (s : State) (port slot : Nat) (w : Word) (dest : Nat) (bytes : List Byte) (owner :
    Option (Nat × NodeDef)) : RecordKept (s.useFrame port slot w dest bytes owner) s := by
  unfold RecordKept State.useFrame
  (repeat' split) <;> simp

@[simp] theorem busReceive_recordKept (s : State) (port slot : Nat) (whole : Bool) (bytes : List Byte) :
    RecordKept (s.busReceive port slot whole bytes) s := by
  unfold RecordKept State.busReceive
  dsimp only
  (repeat' split) <;> simp

@[simp] theorem hubReceive_recordKept (s : State) (port slot sofNs endNs : Nat) (codeError : Bool) (bytes : List Byte) :
    RecordKept (s.hubReceive port slot sofNs endNs codeError bytes) s := by
  unfold RecordKept State.hubReceive
  dsimp only
  (repeat' split) <;> simp

@[simp] theorem frameReceivedOp_recordKept (port slot sofNs endNs : Nat) (codeError : Bool) (behind : LaneSet) (bytes : List Byte) (s :
    State) : RecordKept (frameReceivedOp port slot sofNs endNs codeError behind bytes s) s := by
  simp [frameReceivedOp]

@[simp] theorem claimReceivedOp_recordKept (port : Nat) (bytes : List Byte) (s : State) : RecordKept (claimReceivedOp port bytes s) s := by
  unfold RecordKept claimReceivedOp
  (repeat' split) <;> simp

@[simp] theorem statusModuleOp_recordKept (h : CmdHdr) (s : State) : RecordKept (statusModuleOp h s) s := by
  simp [statusModuleOp]

@[simp] theorem subscribeOp_recordKept (h : CmdHdr) (id kind first count mask : Nat) (s : State) :
    RecordKept (subscribeOp h id kind first count mask s) s := by
  simp [subscribeOp]

@[simp] theorem unsubscribeOp_recordKept (h : CmdHdr) (id : Nat) (s : State) : RecordKept (unsubscribeOp h id s) s := by
  simp [unsubscribeOp]

@[simp] theorem timeCorrelateOp_recordKept (h : CmdHdr) (utc ns net : Nat) (s : State) : RecordKept (timeCorrelateOp h utc ns net s) s := by
  simp [timeCorrelateOp]

@[simp] theorem timeQueryOp_recordKept (h : CmdHdr) (s : State) : RecordKept (timeQueryOp h s) s := by
  simp [timeQueryOp]

@[simp] theorem sessionChallengeOp_recordKept (h : CmdHdr) (role : Nat) (s : State) : RecordKept (sessionChallengeOp h role s) s := by
  unfold RecordKept sessionChallengeOp
  dsimp only
  (repeat' split) <;> simp

@[simp] theorem sessionOpenOp_recordKept (h : CmdHdr) (slot role : Nat) (nonce sig : List Byte) (s : State) :
    RecordKept (sessionOpenOp h slot role nonce sig s) s := by
  unfold RecordKept sessionOpenOp
  dsimp only
  (repeat' split) <;> simp

@[simp] theorem modeRequestOp_recordKept (h : CmdHdr) (m : Mode) (s : State) : RecordKept (modeRequestOp h m s) s := by
  simp [modeRequestOp]

@[simp] theorem selftestQueryOp_recordKept (h : CmdHdr) (s : State) : RecordKept (selftestQueryOp h s) s := by
  simp [selftestQueryOp]

@[simp] theorem regReadOp_recordKept (h : CmdHdr) (addr count : Nat) (s : State) : RecordKept (regReadOp h addr count s) s := by
  simp [regReadOp]

@[simp] theorem withheldClearOp_recordKept (h : CmdHdr) (r : Nat) (s : State) : RecordKept (withheldClearOp h r s) s := by
  simp [withheldClearOp]

@[simp] theorem perfConfigOp_recordKept (h : CmdHdr) (c : PerfConfig) (s : State) : RecordKept (perfConfigOp h c s) s := by
  simp [perfConfigOp]

@[simp] theorem perfReadOp_recordKept (h : CmdHdr) (s : State) : RecordKept (perfReadOp h s) s := by
  simp [perfReadOp]

@[simp] theorem perfSamplesOp_recordKept (h : CmdHdr) (start count : Nat) (s : State) : RecordKept (perfSamplesOp h start count s) s := by
  simp [perfSamplesOp]

@[simp] theorem netStatusOp_recordKept (h : CmdHdr) (select channel first count : Nat) (s : State) :
    RecordKept (netStatusOp h select channel first count s) s := by
  simp [netStatusOp]

@[simp] theorem netPortControlOp_recordKept (h : CmdHdr) (port action : Nat) (s : State) :
    RecordKept (netPortControlOp h port action s) s := by
  simp [netPortControlOp]

@[simp] theorem netBankSwitchOp_recordKept (h : CmdHdr) (round crc : Word) (s : State) : RecordKept (netBankSwitchOp h round crc s) s := by
  simp [netBankSwitchOp]

@[simp] theorem netPolicyOp_recordKept (h : CmdHdr) (enable : Nat) (s : State) : RecordKept (netPolicyOp h enable s) s := by
  simp [netPolicyOp]

@[simp] theorem redStatusOp_recordKept (h : CmdHdr) (s : State) : RecordKept (redStatusOp h s) s := by
  simp [redStatusOp]

@[simp] theorem switchoverStep1Op_recordKept (h : CmdHdr) (s : State) : RecordKept (switchoverStep1Op h s) s := by
  simp [switchoverStep1Op]

@[simp] theorem switchoverStep2Op_recordKept (h : CmdHdr) (token : Word) (s : State) : RecordKept (switchoverStep2Op h token s) s := by
  simp [switchoverStep2Op]

@[simp] theorem tenderEnableOp_recordKept (h : CmdHdr) (enable : Nat) (s : State) : RecordKept (tenderEnableOp h enable s) s := by
  simp [tenderEnableOp]

@[simp] theorem ioStatusOp_recordKept (h : CmdHdr) (first count : Nat) (s : State) : RecordKept (ioStatusOp h first count s) s := by
  simp [ioStatusOp]

@[simp] theorem ioTestConfigOp_recordKept (h : CmdHdr) (ch action value : Nat) (s : State) :
    RecordKept (ioTestConfigOp h ch action value s) s := by
  simp [ioTestConfigOp]

@[simp] theorem ioForceOp_recordKept (h : CmdHdr) (ch value duration : Nat) (s : State) :
    RecordKept (ioForceOp h ch value duration s) s := by
  simp [ioForceOp]

@[simp] theorem dbgStatusOp_recordKept (h : CmdHdr) (s : State) : RecordKept (dbgStatusOp h s) s := by
  simp [dbgStatusOp]

@[simp] theorem recReadOp_recordKept (h : CmdHdr) (index count : Nat) (s : State) : RecordKept (recReadOp h index count s) s := by
  simp [recReadOp]

@[simp] theorem silReadOp_recordKept (h : CmdHdr) (index count : Nat) (s : State) : RecordKept (silReadOp h index count s) s := by
  simp [silReadOp]

@[simp] theorem recFreezeOp_recordKept (h : CmdHdr) (s : State) : RecordKept (recFreezeOp h s) s := by
  simp [recFreezeOp]

@[simp] theorem recThawOp_recordKept (h : CmdHdr) (s : State) : RecordKept (recThawOp h s) s := by
  simp [recThawOp]

@[simp] theorem freezeTimeoutOp_lanes (s : State) : (freezeTimeoutOp s).lanes = s.lanes := by
  simp [freezeTimeoutOp]

@[simp] theorem silMarkOp_recordKept (h : CmdHdr) (label : List Byte) (s : State) : RecordKept (silMarkOp h label s) s := by
  simp [silMarkOp]

@[simp] theorem takeKeyframe_bytes (s : State) (l : Lane) : SameBytes (s.takeKeyframe l) s := by
  simp [State.takeKeyframe]

@[simp] theorem keyframeDueOp_lanes (s : State) : On (keyframeDueOp s) fun t => SameIn (·.core) t s ∧ SpeedKept t s ∧ SameBytes t s ∧
    ArbitersKept t s ∧ UnitsKept t s := by
  unfold On keyframeDueOp
  dsimp only
  (repeat' split) <;> simp

@[simp] theorem stopRecording_recordKept (s : State) : RecordKept (s.stopRecording) s := by
  simp [State.stopRecording]

@[simp] theorem heartbeatMissingOp_recordKept (s : State) : RecordKept (heartbeatMissingOp s) s := by
  simp [heartbeatMissingOp]

@[simp] theorem housekeeperTimeoutOp_lanes (s : State) : On (housekeeperTimeoutOp s) fun t => SameIn (·.pwr) t s ∧ SameIn (·.tbs) t s ∧
    SameIn (·.mmu) t s ∧ UnitsKept t s := by
  unfold On housekeeperTimeoutOp
  (repeat' split) <;> simp

@[simp] theorem operatingTimeOp_lanes (s : State) : (operatingTimeOp s).lanes = s.lanes := by
  simp [operatingTimeOp]

@[simp] theorem bogieMismatchOp_lanes (l : Lane) (s : State) : On (bogieMismatchOp l s) fun t => SameIn (·.pwr) t s ∧
    SameIn (·.tbs) t s ∧ SameBytes t s ∧ UnitsKept t s := by
  unfold On bogieMismatchOp
  (repeat' split) <;> simp

@[simp] theorem imageReloadOp_returnKept (l : Lane) (digestOk reloadOk : Bool) (s : State) :
    ReturnKept (imageReloadOp l digestOk reloadOk s) s := by
  simp [imageReloadOp]

@[simp] theorem resyncTestOp_returnKept (l : Lane) (passed : Bool) (s : State) : ReturnKept (resyncTestOp l passed s) s := by
  simp [resyncTestOp]

@[simp] theorem copyBeforeWriteOp_lanes (m : Lane) (page : Nat) (s : State) :
    On (copyBeforeWriteOp m page s) fun t => SameIn (·.core) t s ∧ SpeedKept t s ∧ SameIn (·.diag) t s ∧ SameBytes t s ∧
    ArbitersKept t s ∧ UnitsKept t s := by
  unfold On copyBeforeWriteOp
  simp

@[simp] theorem copyCompleteOp_lanes (l : Lane) (senderHash : BitVec 64) (s : State) :
    On (copyCompleteOp l senderHash s) fun t => SameIn (·.clk) t s ∧ SameIn (·.tbs) t s ∧ UnitsKept t s := by
  unfold On copyCompleteOp
  (repeat' split) <;> simp

@[simp] theorem catchUpOp_lanes (l : Lane) (s : State) : On (catchUpOp l s) fun t => SpeedKept t s ∧ SameBytes t s ∧ SameIn (·.dma) t s ∧
    SameIn (·.cvu) t s ∧ SameIn (·.perf) t s := by
  unfold On catchUpOp
  dsimp only
  (repeat' split) <;> simp

@[simp] theorem catchUpTimeoutOp_returnKept (l : Lane) (s : State) : ReturnKept (catchUpTimeoutOp l s) s := by
  simp [catchUpTimeoutOp]

@[simp] theorem probationOp_lanes (l : Lane) (s : State) : On (probationOp l s) fun t => SpeedKept t s ∧ SameIn (·.mmu) t s ∧
    ArbitersKept t s ∧ UnitsKept t s := by
  unfold On probationOp
  (repeat' split) <;> simp

@[simp] theorem resyncTimeoutOp_returnKept (l : Lane) (s : State) : ReturnKept (resyncTimeoutOp l s) s := by
  simp [resyncTimeoutOp]

@[simp] theorem powerRecoveryOp_lanes (l : Lane) (s : State) : On (powerRecoveryOp l s) fun t => SameIn (·.tbs) t s ∧
    SameIn (·.mmu) t s ∧ UnitsKept t s := by
  unfold On powerRecoveryOp
  (repeat' split) <;> simp

@[simp] theorem restartResyncs_returnKept (s : State) : ReturnKept (s.restartResyncs) s := by
  simp [State.restartResyncs]

@[simp] theorem recordUncorrected_lanes (s : State) (l : Lane) (a : Nat) (requester : Option Nat) :
    On (s.recordUncorrected l a requester) fun t => SameIn (·.pwr) t s ∧ SameIn (·.tbs) t s ∧ SameBytes t s ∧ SameIn (·.dma) t s ∧
    SameIn (·.cvu) t s ∧ SameIn (·.rte) t s := by
  unfold On State.recordUncorrected
  (repeat' split) <;> simp

@[simp] theorem eccUncorrectableOp_lanes (l : Lane) (requester : Option Nat) (a : Nat) (afterProposal isReply : Bool) (s : State) :
    On (eccUncorrectableOp l requester a afterProposal isReply s) fun t => SameIn (·.pwr) t s ∧ SameIn (·.tbs) t s ∧ SameBytes t s ∧
    SameIn (·.dma) t s ∧ SameIn (·.cvu) t s ∧ SameIn (·.rte) t s := by
  unfold On eccUncorrectableOp
  (repeat' split) <;> simp

@[simp] theorem eccCorrectedOp_lanes (l : Lane) (a : Nat) (s : State) : On (eccCorrectedOp l a s) fun t => SpeedKept t s ∧
    SameBytes t s ∧ ArbitersKept t s ∧ SameIn (·.dma) t s ∧ SameIn (·.cvu) t s ∧ SameIn (·.rte) t s := by
  unfold On eccCorrectedOp
  (repeat' split) <;> simp

@[simp] theorem scrubReadOp_lanes (l : Lane) (s : State) : On (scrubReadOp l s) fun t => SameIn (·.pwr) t s ∧ SameIn (·.tbs) t s ∧
    SameBytes t s ∧ SameIn (·.dma) t s ∧ SameIn (·.cvu) t s ∧ SameIn (·.rte) t s := by
  unfold On scrubReadOp
  dsimp only
  (repeat' split) <;> simp

@[simp] theorem strike_lanes (s : State) (site : FaultSite) : On (s.strike site) fun t => SameIn (·.core) t s ∧ SpeedKept t s ∧
    SameBytes t s ∧ ArbitersKept t s ∧ UnitsKept t s := by
  unfold On State.strike
  (repeat' split) <;> simp

@[simp] theorem translationFaultOp_lanes (l : Lane) (master : Master) (acc : Access) (va : Nat) (site : FaultSite) (s : State) :
    On (translationFaultOp l master acc va site s) fun t => SameIn (·.core) t s ∧ SpeedKept t s ∧ SameBytes t s ∧ ArbitersKept t s ∧
    UnitsKept t s := by
  unfold On translationFaultOp
  dsimp only
  (repeat' split) <;> simp

@[simp] theorem tlbParityOp_lanes (l : Lane) (master vpn : Nat) (s : State) : On (tlbParityOp l master vpn s) fun t => SpeedKept t s ∧
    SameBytes t s ∧ ArbitersKept t s ∧ UnitsKept t s := by
  unfold On tlbParityOp
  (repeat' split) <;> simp

@[simp] theorem guardRefuse_bytes (s : State) (l : Lane) (requester a write : Nat) : SameBytes (s.guardRefuse l requester a write) s := by
  simp [State.guardRefuse]

@[simp] theorem guardFaultOp_lanes (l : Lane) (requester a : Nat) (s : State) :
    On (guardFaultOp l requester a s) fun t => SpeedKept t s ∧ SameBytes t s ∧ ArbitersKept t s ∧ UnitsKept t s := by
  unfold On guardFaultOp
  (repeat' split) <;> simp

@[simp] theorem spoilTransfer_lanes (s : State) (l : Lane) (c : Nat) : On (s.spoilTransfer l c) fun t => SpeedKept t s ∧
    ArbitersKept t s ∧ SameIn (·.rte) t s := by
  unfold On State.spoilTransfer
  dsimp only
  (repeat' split) <;> simp

@[simp] theorem runBlock_lanes (s : State) (task i : Nat) (d : BlockDef) : (s.runBlock task i d).lanes = s.lanes := by
  simp [State.runBlock]

@[simp] theorem startTask_lanes (s : State) (t : Nat) : (s.startTask t).lanes = s.lanes := by
  simp [State.startTask]

@[simp] theorem choose_lanes (s : State) : (s.choose).lanes = s.lanes := by
  unfold State.choose
  (repeat' split) <;> simp

@[simp] theorem taskReleaseOp_recordKept (t : Nat) (s : State) : RecordKept (taskReleaseOp t s) s := by
  unfold RecordKept taskReleaseOp
  dsimp only
  (repeat' split) <;> simp

@[simp] theorem countRun_lanes (before after : State) (ended : Option Nat) :
    On (before.countRun after ended) fun t => SameIn (·.core) t after ∧ SpeedKept t after ∧ SameIn (·.diag) t after ∧
    SameIn (·.mmu) t after ∧ ArbitersKept t after ∧ SameIn (·.dma) t after ∧ SameIn (·.cvu) t after ∧ SameIn (·.rte) t after := by
  unfold On State.countRun
  simp

@[simp] theorem latchEvent_recordKept (s : State) (t : Nat) : RecordKept (s.latchEvent t) s := by
  simp [State.latchEvent]

@[simp] theorem eventLatchOp_recordKept (s : State) : RecordKept (eventLatchOp s) s := by
  simp [eventLatchOp]

@[simp] theorem retainedWriteOp_lanes (s : State) : (retainedWriteOp s).lanes = s.lanes := by
  simp [retainedWriteOp]

@[simp] theorem loadEssence_lanes (s : State) (pages : List (Nat × List Byte)) : On (s.loadEssence pages) fun t => SameIn (·.clk) t s ∧
    SameIn (·.tbs) t s ∧ UnitsKept t s := by
  unfold On State.loadEssence
  (repeat' split) <;> simp

@[simp] theorem takeVital_lanes (s t : State) : On (s.takeVital t) fun u => SpeedKept u s ∧ SameBytes u s ∧ SameIn (·.dma) u s ∧
    SameIn (·.cvu) u s ∧ SameIn (·.perf) u s := by
  unfold On State.takeVital
  simp

@[simp] theorem imgBeginOp_recordKept (h : CmdHdr) (type length blocks version : Nat) (s : State) :
    RecordKept (imgBeginOp h type length blocks version s) s := by
  simp [imgBeginOp]

@[simp] theorem imgBlockOp_recordKept (h : CmdHdr) (block part : Nat) (data : List Byte) (s : State) :
    RecordKept (imgBlockOp h block part data s) s := by
  simp [imgBlockOp]

@[simp] theorem imgVerifyOp_recordKept (h : CmdHdr) (s : State) : RecordKept (imgVerifyOp h s) s := by
  simp [imgVerifyOp]

@[simp] theorem imgVerifyCompleteOp_recordKept (s : State) : RecordKept (imgVerifyCompleteOp s) s := by
  unfold RecordKept imgVerifyCompleteOp
  dsimp only
  (repeat' split) <;> simp

@[simp] theorem endSchedule_recordKept (s : State) (status : Nat) : RecordKept (s.endSchedule status) s := by
  unfold RecordKept State.endSchedule
  dsimp only
  (repeat' split) <;> simp

@[simp] theorem recordRefusal_recordKept (s : State) (reason route : Nat) : RecordKept (s.recordRefusal reason route) s := by
  simp [State.recordRefusal]

@[simp] theorem forwardSchedule_recordKept (s : State) (time flags : Nat) : RecordKept (s.forwardSchedule time flags) s := by
  simp [State.forwardSchedule]

@[simp] theorem imgScheduleOp_recordKept (h : CmdHdr) (time flags : Nat) (s : State) : RecordKept (imgScheduleOp h time flags s) s := by
  simp [imgScheduleOp]

@[simp] theorem imgQueryOp_recordKept (h : CmdHdr) (s : State) : RecordKept (imgQueryOp h s) s := by
  simp [imgQueryOp]

@[simp] theorem activationTimeOp_recordKept (s : State) : RecordKept (activationTimeOp s) s := by
  unfold RecordKept activationTimeOp
  dsimp only
  (repeat' split) <;> simp

@[simp] theorem activationArmedOp_recordKept (l : Lane) (digestOk : Bool) (s : State) : RecordKept (activationArmedOp l digestOk s) s := by
  simp [activationArmedOp]

@[simp] theorem armDeadlineOp_lanes (l : Lane) (s : State) : On (armDeadlineOp l s) fun t => SameIn (·.pwr) t s ∧ SameIn (·.tbs) t s ∧
    SameBytes t s ∧ UnitsKept t s := by
  unfold On armDeadlineOp
  (repeat' split) <;> simp

@[simp] theorem activationJudgementOp_recordKept (s : State) : RecordKept (activationJudgementOp s) s := by
  unfold RecordKept activationJudgementOp
  dsimp only
  (repeat' split) <;> simp

@[simp] theorem postponementOp_recordKept (s : State) : RecordKept (postponementOp s) s := by
  simp [postponementOp]

@[simp] theorem carrySheets_returnKept (s : State) (old : Image) : ReturnKept (s.carrySheets old) s := by
  simp [State.carrySheets]

@[simp] theorem takeImage_returnKept (s : State) (new : Image) : ReturnKept (s.takeImage new) s := by
  simp [State.takeImage]

@[simp] theorem sendLevels_lanes (s : State) : On (s.sendLevels) fun t => SpeedKept t s ∧ SameIn (·.mmu) t s ∧ ArbitersKept t s ∧
    UnitsKept t s := by
  unfold On State.sendLevels
  (repeat' split) <;> simp

@[simp] theorem imageSwitchOp_returnKept (s : State) : ReturnKept (imageSwitchOp s) s := by
  unfold ReturnKept imageSwitchOp
  dsimp only
  (repeat' split) <;> simp

@[simp] theorem sheetPrepareOp_recordKept (h : CmdHdr) (s : State) : RecordKept (sheetPrepareOp h s) s := by
  simp [sheetPrepareOp]

@[simp] theorem sheetPrepareCompleteOp_recordKept (s : State) : RecordKept (sheetPrepareCompleteOp s) s := by
  unfold RecordKept sheetPrepareCompleteOp
  (repeat' split) <;> simp

@[simp] theorem sheetSwitchOp_returnKept (s : State) : ReturnKept (sheetSwitchOp s) s := by
  unfold ReturnKept sheetSwitchOp
  (repeat' split) <;> simp

@[simp] theorem sheetTimeoutOp_recordKept (s : State) : RecordKept (sheetTimeoutOp s) s := by
  unfold RecordKept sheetTimeoutOp
  (repeat' split) <;> simp

@[simp] theorem followSchedule_recordKept (s : State) (time flags : Nat) (digest : List Byte) :
    RecordKept (s.followSchedule time flags digest) s := by
  simp [State.followSchedule]

@[simp] theorem ethernetFrameOp_lanes (p : HostPort) (f : EthFrame) (s : State) : (ethernetFrameOp p f s).lanes = s.lanes := by
  simp [ethernetFrameOp]

@[simp] theorem arpRequestOp_lanes (p : HostPort) (target : Nat) (s : State) : (arpRequestOp p target s).lanes = s.lanes := by
  simp [arpRequestOp]

@[simp] theorem icmpEchoOp_lanes (p : HostPort) (n stamp : Nat) (s : State) : (icmpEchoOp p n stamp s).lanes = s.lanes := by
  simp [icmpEchoOp]

@[simp] theorem linkUpOp_lanes (p : HostPort) (s : State) : (linkUpOp p s).lanes = s.lanes := by
  simp [linkUpOp]

@[simp] theorem linkDownOp_lanes (p : HostPort) (s : State) : (linkDownOp p s).lanes = s.lanes := by
  simp [linkDownOp]

@[simp] theorem answer_lanes (s : State) (a : Arrival) (own : Bool) (status : Nat) (params : List Byte) :
    (s.answer a own status params).lanes = s.lanes := by
  simp [State.answer]

@[simp] theorem q5TimeoutOp_lanes (cmd : CmdRef) (s : State) : (q5TimeoutOp cmd s).lanes = s.lanes := by
  unfold q5TimeoutOp
  (repeat' split) <;> simp

@[simp] theorem sessionExpiredOp_recordKept (r : Role) (s : State) : RecordKept (sessionExpiredOp r s) s := by
  simp [sessionExpiredOp]

@[simp] theorem sequencePersistOp_lanes (s : State) : (sequencePersistOp s).lanes = s.lanes := by
  simp [sequencePersistOp]

@[simp] theorem gotStrobe_recordKept (s : State) (body : List Byte) : RecordKept (s.gotStrobe body) s := by
  simp [State.gotStrobe]

@[simp] theorem gotDownlink_recordKept (s : State) (body : List Byte) : RecordKept (s.gotDownlink body) s := by
  simp [State.gotDownlink]

@[simp] theorem heardPartner_recordKept (s : State) (modeWord cond : Nat) (claim : Word) :
    RecordKept (s.heardPartner modeWord cond claim) s := by
  simp [State.heardPartner]

@[simp] theorem gotHeartbeat_recordKept (s : State) (body : List Byte) : RecordKept (s.gotHeartbeat body) s := by
  simp [State.gotHeartbeat]

@[simp] theorem gotBlock_recordKept (s : State) (body : List Byte) : RecordKept (s.gotBlock body) s := by
  simp [State.gotBlock]

@[simp] theorem gotStatus_recordKept (s : State) (body : List Byte) : RecordKept (s.gotStatus body) s := by
  simp [State.gotStatus]

@[simp] theorem gotVerdict_recordKept (s : State) (sender : Nat) (body : List Byte) : RecordKept (s.gotVerdict sender body) s := by
  unfold RecordKept State.gotVerdict
  (repeat' split) <;> simp

@[simp] theorem gotPage_recordKept (s : State) (body : List Byte) : RecordKept (s.gotPage body) s := by
  simp [State.gotPage]

@[simp] theorem takeLevels_recordKept (s : State) (pos : Nat) (levels : List Nat) (digest : List Byte) (minors : Word) :
    RecordKept (s.takeLevels pos levels digest minors) s := by
  simp [State.takeLevels]

@[simp] theorem followSwitchover_recordKept (s : State) (cycle : Nat) : RecordKept (s.followSwitchover cycle) s := by
  simp [State.followSwitchover]

@[simp] theorem gotConfirm_recordKept (s : State) (kind : Nat) : RecordKept (s.gotConfirm kind) s := by
  simp [State.gotConfirm]

@[simp] theorem actControl_recordKept (s : State) (kind : Nat) (b : List Byte) : RecordKept (s.actControl kind b) s := by
  unfold RecordKept State.actControl
  (repeat' split) <;> simp

@[simp] theorem gotControl_recordKept (s : State) (body : List Byte) : RecordKept (s.gotControl body) s := by
  simp [State.gotControl]

@[simp] theorem usePartner_recordKept (s : State) (m : PartnerMsg) : RecordKept (s.usePartner m) s := by
  unfold RecordKept State.usePartner
  (repeat' split) <;> simp

@[simp] theorem partnerMessageOp_recordKept (m : PartnerMsg) (s : State) : RecordKept (partnerMessageOp m s) s := by
  simp [partnerMessageOp]

@[simp] theorem failControl_recordKept (s : State) (c : ControlMsg) : RecordKept (s.failControl c) s := by
  unfold RecordKept State.failControl
  dsimp only
  (repeat' split) <;> simp

@[simp] theorem controlRetransmitOp_recordKept (s : State) : RecordKept (controlRetransmitOp s) s := by
  unfold RecordKept controlRetransmitOp
  (repeat' split) <;> simp

@[simp] theorem partnerLinkUpOp_lanes (pos rom major minor iface : Nat) (digest : List Byte) (minors : Word) (s : State) :
    On (partnerLinkUpOp pos rom major minor iface digest minors s) fun t => SpeedKept t s ∧ SameIn (·.mmu) t s ∧ ArbitersKept t s ∧
    UnitsKept t s := by
  unfold On partnerLinkUpOp
  (repeat' split) <;> simp

@[simp] theorem partnerLinkDownOp_recordKept (s : State) : RecordKept (partnerLinkDownOp s) s := by
  simp [partnerLinkDownOp]

@[simp] theorem failPartnerResync_returnKept (s : State) : ReturnKept (s.failPartnerResync) s := by
  simp [State.failPartnerResync]

@[simp] theorem partnerDigestStep_returnKept (s : State) (ok : Bool) : ReturnKept (s.partnerDigestStep ok) s := by
  simp [State.partnerDigestStep]

@[simp] theorem resyncReloadOp_returnKept (l : Lane) (digestOk reloadOk : Bool) (s : State) :
    ReturnKept (resyncReloadOp l digestOk reloadOk s) s := by
  simp [resyncReloadOp]

@[simp] theorem partnerCopyFails_returnKept (s : State) : ReturnKept (s.partnerCopyFails) s := by
  simp [State.partnerCopyFails]

@[simp] theorem resyncCopyOp_lanes (l : Lane) (senderHash : BitVec 64) (s : State) :
    On (resyncCopyOp l senderHash s) fun t => SameIn (·.clk) t s ∧ SameIn (·.tbs) t s ∧ UnitsKept t s := by
  unfold On resyncCopyOp
  (repeat' split) <;> simp

@[simp] theorem resyncCopyFailedOp_returnKept (l : Lane) (s : State) : ReturnKept (resyncCopyFailedOp l s) s := by
  simp [resyncCopyFailedOp]

@[simp] theorem partnerCatchUp_lanes (s : State) : On (s.partnerCatchUp) fun t => SpeedKept t s ∧ SameBytes t s ∧ SameIn (·.dma) t s ∧
    SameIn (·.cvu) t s ∧ SameIn (·.perf) t s := by
  unfold On State.partnerCatchUp
  simp

@[simp] theorem resyncCatchUpOp_lanes (l : Lane) (s : State) : On (resyncCatchUpOp l s) fun t => SpeedKept t s ∧ SameBytes t s ∧
    SameIn (·.dma) t s ∧ SameIn (·.cvu) t s ∧ SameIn (·.perf) t s := by
  unfold On resyncCatchUpOp
  (repeat' split) <;> simp

@[simp] theorem resyncCatchUpTimeoutOp_returnKept (l : Lane) (s : State) : ReturnKept (resyncCatchUpTimeoutOp l s) s := by
  simp [resyncCatchUpTimeoutOp]

@[simp] theorem partnerInStep_lanes (s : State) : On (s.partnerInStep) fun t => SpeedKept t s ∧ SameIn (·.mmu) t s ∧ ArbitersKept t s ∧
    UnitsKept t s := by
  unfold On State.partnerInStep
  simp

@[simp] theorem resyncProbationOp_lanes (l : Lane) (s : State) : On (resyncProbationOp l s) fun t => SpeedKept t s ∧ SameIn (·.mmu) t s ∧
    ArbitersKept t s ∧ UnitsKept t s := by
  unfold On resyncProbationOp
  (repeat' split) <;> simp

@[simp] theorem resyncEndOp_returnKept (l : Lane) (s : State) : ReturnKept (resyncEndOp l s) s := by
  unfold ReturnKept resyncEndOp
  (repeat' split) <;> simp

@[simp] theorem becomeLead_recordKept (s : State) (g : Nat) (result : Nat) : RecordKept (s.becomeLead g result) s := by
  simp [State.becomeLead]

@[simp] theorem takeOver_recordKept (s : State) : RecordKept (s.takeOver) s := by
  simp [State.takeOver]

@[simp] theorem isolate_recordKept (s : State) (reason : Nat) : RecordKept (s.isolate reason) s := by
  simp [State.isolate]

@[simp] theorem takeoverJudgementOp_recordKept (s : State) : RecordKept (takeoverJudgementOp s) s := by
  simp [takeoverJudgementOp]

@[simp] theorem holdingTimeoutOp_recordKept (s : State) : RecordKept (holdingTimeoutOp s) s := by
  simp [holdingTimeoutOp]

@[simp] theorem takeoverLostOp_recordKept (higher : Word) (s : State) : RecordKept (takeoverLostOp higher s) s := by
  simp [takeoverLostOp]

@[simp] theorem confirmDeadlineOp_lanes (s : State) : On (confirmDeadlineOp s) fun t => SameIn (·.pwr) t s ∧ SameIn (·.tbs) t s ∧
    SameIn (·.mmu) t s ∧ UnitsKept t s := by
  unfold On confirmDeadlineOp
  (repeat' split) <;> simp

@[simp] theorem yieldLead_lanes (s : State) : On (s.yieldLead) fun t => SameIn (·.pwr) t s ∧ SameIn (·.tbs) t s ∧ SameIn (·.mmu) t s ∧
    UnitsKept t s := by
  unfold On State.yieldLead
  dsimp only
  (repeat' split) <;> simp

@[simp] theorem switchoverOp_lanes (s : State) : On (switchoverOp s) fun t => SameIn (·.pwr) t s ∧ SameIn (·.tbs) t s ∧
    SameIn (·.mmu) t s ∧ UnitsKept t s := by
  unfold On switchoverOp
  (repeat' split) <;> simp

@[simp] theorem slotDataOp_lanes (l : Lane) (entry : Word) (s : State) : On (slotDataOp l entry s) fun t => SpeedKept t s ∧
    SameIn (·.diag) t s ∧ SameIn (·.mmu) t s ∧ ArbitersKept t s ∧ UnitsKept t s := by
  unfold On slotDataOp
  (repeat' split) <;> simp

@[simp] theorem switchRoundOp_lanes (l : Lane) (round : Word) (s : State) : On (switchRoundOp l round s) fun t => SpeedKept t s ∧
    SameIn (·.diag) t s ∧ SameIn (·.mmu) t s ∧ ArbitersKept t s ∧ UnitsKept t s := by
  unfold On switchRoundOp
  (repeat' split) <;> simp

@[simp] theorem switchCrcOp_lanes (l : Lane) (crc : Word) (s : State) : On (switchCrcOp l crc s) fun t => SpeedKept t s ∧
    SameIn (·.diag) t s ∧ SameIn (·.mmu) t s ∧ ArbitersKept t s ∧ UnitsKept t s := by
  unfold On switchCrcOp
  (repeat' split) <;> simp

@[simp] theorem switchCancelOp_lanes (l : Lane) (value : Word) (s : State) : On (switchCancelOp l value s) fun t => SpeedKept t s ∧
    SameIn (·.mmu) t s ∧ ArbitersKept t s ∧ UnitsKept t s := by
  unfold On switchCancelOp
  (repeat' split) <;> simp

@[simp] theorem arbCommitOp_lanes (l : Lane) (p : MemPort) (value : Word) (reason : Nat) (s : State) :
    On (arbCommitOp l p value reason s) fun t => SpeedKept t s ∧ SameIn (·.mmu) t s ∧ UnitsKept t s := by
  unfold On arbCommitOp
  (repeat' split) <;> simp

@[simp] theorem latchOp_lanes (l : Lane) (net : BitVec 64) (frac : Nat) (s : State) :
    On (latchOp l net frac s) fun t => SameIn (·.core) t s ∧ SameIn (·.clk) t s ∧ SameIn (·.pwr) t s ∧ SameIn (·.diag) t s ∧
    SameIn (·.mmu) t s ∧ ArbitersKept t s ∧ UnitsKept t s := by
  unfold On latchOp
  (repeat' split) <;> simp

@[simp] theorem writeHub_lanes (s : State) (l : Lane) (ofs : Nat) (v : Word) : On (s.writeHub l ofs v) fun t => SameIn (·.tbs) t s := by
  unfold On State.writeHub
  (repeat' split) <;> simp

@[simp] theorem writeFch_lanes (s : State) (l : Lane) (ofs : Nat) (v : Word) : On (s.writeFch l ofs v) fun t => SameIn (·.tbs) t s := by
  unfold On State.writeFch
  (repeat' split) <;> simp

@[simp] theorem selectTap_lanes (s : State) (ir : Nat) : (s.selectTap ir).lanes = s.lanes := by
  simp [State.selectTap]

@[simp] theorem idcodeOp_lanes (s : State) : (idcodeOp s).lanes = s.lanes := by
  simp [idcodeOp]

@[simp] theorem sampleOp_lanes (cells : List Bool) (s : State) : (sampleOp cells s).lanes = s.lanes := by
  simp [sampleOp]

@[simp] theorem bypassOp_lanes (code : Nat) (s : State) : (bypassOp code s).lanes = s.lanes := by
  simp [bypassOp]

@[simp] theorem dbgInstructionOp_lanes (s : State) : (dbgInstructionOp s).lanes = s.lanes := by
  simp [dbgInstructionOp]

@[simp] theorem dbgRead_lanes (s : State) (l : Lane) (a : Nat) : On (s.dbgRead l a) fun t => SameIn (·.pwr) t s ∧ SameBytes t s ∧
    SameIn (·.dma) t s ∧ SameIn (·.cvu) t s ∧ SameIn (·.rte) t s := by
  unfold On State.dbgRead
  dsimp only
  (repeat' split) <;> simp

@[simp] theorem dbgHalt_recordKept (s : State) (l : Lane) : RecordKept (s.dbgHalt l) s := by
  simp [State.dbgHalt]

@[simp] theorem dbgRelease_recordKept (s : State) (l : Lane) : RecordKept (s.dbgRelease l) s := by
  simp [State.dbgRelease]

@[simp] theorem dbgStep_lanes (s : State) (l : Lane) : On (s.dbgStep l) fun t => SameIn (·.core) t s ∧ SpeedKept t s ∧
    SameIn (·.diag) t s ∧ SameIn (·.mmu) t s ∧ ArbitersKept t s ∧ SameIn (·.dma) t s ∧ SameIn (·.cvu) t s ∧ SameIn (·.rte) t s := by
  unfold On State.dbgStep
  (repeat' split) <;> simp

@[simp] theorem silBegin_lanes (s : State) : (s.silBegin).lanes = s.lanes := by
  simp [State.silBegin]

@[simp] theorem silWrite_lanes (s : State) (v : Word) : (s.silWrite v).lanes = s.lanes := by
  simp [State.silWrite]

@[simp] theorem silEnd_lanes (s : State) : (s.silEnd).lanes = s.lanes := by
  simp [State.silEnd]

@[simp] theorem dbgAttach_recordKept (s : State) : RecordKept (s.dbgAttach) s := by
  simp [State.dbgAttach]

@[simp] theorem dbgDetach_lanes (s : State) : (s.dbgDetach).lanes = s.lanes := by
  simp [State.dbgDetach]

@[simp] theorem adoptTimer_lanes (s : State) (e : Ev) : (s.adoptTimer e).lanes = s.lanes := by
  simp [State.adoptTimer]

@[simp] theorem timerElem_lanes (o : Nat) (ks : List Kind) (p : ElemSt → Bool) (s : State) : (timerElem o ks p s).lanes = s.lanes := by
  unfold timerElem
  (repeat' split) <;> simp

@[simp] theorem restartTimeOp_lanes (a : Nat) (s : State) : (restartTimeOp a s).lanes = s.lanes := by
  simp [restartTimeOp]

@[simp] theorem boundaryBackoffOp_lanes (o : Nat) (s : State) : (boundaryBackoffOp o s).lanes = s.lanes := by
  simp [boundaryBackoffOp]

@[simp] theorem timerRoute_lanes (r : Nat) (p : RSt → Bool) (slot : Ev → Nat → Ev) (s : State) :
    (timerRoute r p slot s).lanes = s.lanes := by
  simp [timerRoute]

@[simp] theorem overlapReleaseOp_lanes (o : Nat) (s : State) : (overlapReleaseOp o s).lanes = s.lanes := by
  simp [overlapReleaseOp]

@[simp] theorem dataAgeOp_lanes (n row : Nat) (s : State) : (dataAgeOp n row s).lanes = s.lanes := by
  unfold dataAgeOp
  dsimp only
  (repeat' split) <;> simp

@[simp] theorem tokenExpiredOp_lanes (source opcode target : Nat) (s : State) :
    (tokenExpiredOp source opcode target s).lanes = s.lanes := by
  simp [tokenExpiredOp]

end Sys2Proof.Machine
end

section
/-!
SUPPORT. What the lanes keep through the operations that work on a lane's memory, channels and registers, through the start, the cycle and
    the
return of a lane.
-/

namespace Sys2Proof.Machine

open Sys2Proof

/-! ### A lane's DMA channels -/

/-- Of a lane's record no more than the memory, the channels and the check-value units change, which a channel works on (R449, R473). -/
@[simp] abbrev ChannelKept (y x : LaneS) : Prop :=
  y.core = x.core ∧ y.clk = x.clk ∧ y.pwr = x.pwr ∧ y.tbs = x.tbs ∧ y.diag = x.diag ∧ y.arbE = x.arbE ∧ y.arbD = x.arbD ∧
      y.perf = x.perf ∧ y.rte = x.rte

@[simp] theorem bindUnit_keeps (x : LaneS) (c : Nat) : ChannelKept (x.bindUnit c) x ∧ (x.bindUnit c).mmu = x.mmu := by
  unfold LaneS.bindUnit
  dsimp only
  (repeat' split) <;> exact ⟨⟨rfl, rfl, rfl, rfl, rfl, rfl, rfl, rfl, rfl⟩, rfl⟩

@[simp] theorem modChan_keeps (x : LaneS) (c : Nat) (f : DmaCh → DmaCh) : ChannelKept (x.modChan c f) x ∧ (x.modChan c f).mmu = x.mmu ∧
    (x.modChan c f).cvu = x.cvu :=
  ⟨⟨rfl, rfl, rfl, rfl, rfl, rfl, rfl, rfl, rfl⟩, rfl, rfl⟩

@[simp] theorem modUnit_keeps (x : LaneS) (u : Nat) (f : CvuS → CvuS) : ChannelKept (x.modUnit u f) x ∧ (x.modUnit u f).mmu = x.mmu ∧
    (x.modUnit u f).dma = x.dma :=
  ⟨⟨rfl, rfl, rfl, rfl, rfl, rfl, rfl, rfl, rfl⟩, rfl, rfl⟩

@[simp] theorem passHead_keeps (x : LaneS) (c : Nat) : ChannelKept (x.passHead c) x := by
  simp [LaneS.passHead]

@[simp] theorem unbindUnit_keeps (x : LaneS) (c : Nat) : ChannelKept (x.unbindUnit c) x ∧ (x.unbindUnit c).mmu = x.mmu := by
  unfold LaneS.unbindUnit
  dsimp only
  (repeat' split) <;> simp

@[simp] theorem startNext_keeps (x : LaneS) (c : Nat) : ChannelKept (x.startNext c) x ∧ (x.startNext c).mmu = x.mmu := by
  unfold LaneS.startNext
  dsimp only
  (repeat' split) <;> simp

@[simp] theorem saveChan_keeps (x : LaneS) (c : Nat) : ChannelKept (x.saveChan c) x ∧ (x.saveChan c).mmu = x.mmu := by
  simp [LaneS.saveChan]

@[simp] theorem resumeChan_keeps (x : LaneS) (c : Nat) : ChannelKept (x.resumeChan c) x ∧ (x.resumeChan c).mmu = x.mmu := by
  unfold LaneS.resumeChan
  split <;> simp

@[simp] theorem suspendForAccord_keeps (x : LaneS) : ChannelKept x.suspendForAccord x ∧ x.suspendForAccord.mmu = x.mmu ∧
    x.suspendForAccord.cvu = x.cvu := by
  unfold LaneS.suspendForAccord accordChannels
  simp only [List.foldl_cons, List.foldl_nil]
  (repeat' split) <;> simp

@[simp] theorem resumeAfterAccord_keeps (x : LaneS) : ChannelKept x.resumeAfterAccord x ∧ x.resumeAfterAccord.mmu = x.mmu := by
  unfold LaneS.resumeAfterAccord accordChannels
  simp only [List.foldl_cons, List.foldl_nil]
  (repeat' split) <;> simp

/-- What a channel writes goes to memory. -/
theorem dmaWrite_keeps {x y : LaneS} {va : Nat} {bs : List Byte} (h : x.dmaWrite va bs = some y) : ChannelKept y x := by
  simp only [LaneS.dmaWrite, Option.map_eq_some_iff] at h
  obtain ⟨ws, -, rfl⟩ := h
  exact ⟨rfl, rfl, rfl, rfl, rfl, rfl, rfl, rfl, rfl⟩

@[simp] theorem dmaWrite_getD_keeps (x : LaneS) (va : Nat) (bs : List Byte) : ChannelKept ((x.dmaWrite va bs).getD x) x := by
  cases h : x.dmaWrite va bs with
  | none => simp
  | some y => exact dmaWrite_keeps h

@[simp] theorem postStatus_keeps (x : LaneS) (c result cause : Nat) : ChannelKept (x.postStatus c result cause) x := by
  unfold LaneS.postStatus
  dsimp only
  split <;> simp

/-- A transfer under way works on memory, the channel and the unit that it has bound. -/
theorem advance_keeps {x y : LaneS} {c n : Nat} {stream : List Byte} (h : x.advance c n stream = some y) : ChannelKept y x := by
  unfold LaneS.advance at h
  extract_lets ch at h
  split at h
  · cases h
  · extract_lets bytes at h
    clear_value bytes
    split at h
    · cases h
    · simp only [Option.map_eq_some_iff] at h
      obtain ⟨z, hz, rfl⟩ := h
      have kept : ChannelKept z x := by
        split at hz
        · cases hz; simp
        · exact dmaWrite_keeps hz
      split <;> simp [kept]

@[simp] theorem faultChan_keeps (x : LaneS) (c cause va : Nat) (write : Bool) : ChannelKept (x.faultChan c cause va write) x := by
  simp [LaneS.faultChan]

/-! ### Memory and DMA -/

/-- One lane's record replaced by one that is equal to it in a part keeps that part of every lane. -/
theorem set_keeps {β : Type} (part : LaneS → β) (p : PerLane LaneS) (l : Lane) (y : LaneS) (h : part y = part (p.get l)) (m : Lane) :
    part ((p.set l y).get m) = part (p.get m) := by
  by_cases same : m = l
  · subst same
    have own : (p.set m y).get m = y := by cases m <;> rfl
    rw [own, h]
  · have other : (p.set l y).get m = p.get m := by cases l <;> cases m <;> simp_all [PerLane.set, PerLane.get]
    rw [other]

theorem dmaMove_lanes (s t : State) (l : Lane) (c upTo : Nat) (h : s.dmaMove l c upTo = some t) :
    SameIn (·.core) t s ∧ SpeedKept t s ∧ SameIn (·.diag) t s ∧ ArbitersKept t s ∧ SameIn (·.rte) t s := by
  unfold State.dmaMove at h
  extract_lets x ch n at h
  split at h
  · cases h
  · next y moved =>
    obtain ⟨core, clk, pwr, tbs, diag, arbE, arbD, -, rte⟩ := advance_keeps moved
    cases h
    simp only [SpeedKept, ArbitersKept, SameIn, State_countEvent_frame]
    exact ⟨set_keeps (·.core) _ l y core, ⟨set_keeps (·.clk) _ l y clk, set_keeps (·.pwr) _ l y pwr, set_keeps (·.tbs) _ l y tbs⟩,
      set_keeps (·.diag) _ l y diag, ⟨set_keeps (·.arbE) _ l y arbE, set_keeps (·.arbD) _ l y arbD⟩, set_keeps (·.rte) _ l y rte⟩

@[simp] theorem dmaMove_getD_lanes (s : State) (l : Lane) (c upTo : Nat) : On ((s.dmaMove l c upTo).getD s) fun t =>
    SameIn (·.core) t s ∧ SpeedKept t s ∧ SameIn (·.diag) t s ∧ ArbitersKept t s ∧ SameIn (·.rte) t s := by
  cases h : s.dmaMove l c upTo with
  | none => simp [On]
  | some t => exact dmaMove_lanes s t l c upTo h

@[simp] theorem dmaCompleteOp_lanes (l : Lane) (c : Nat) (s : State) : On (dmaCompleteOp l c s) fun t => SameIn (·.core) t s ∧
    SpeedKept t s ∧ SameIn (·.diag) t s ∧ ArbitersKept t s ∧ SameIn (·.rte) t s := by
  unfold On dmaCompleteOp
  dsimp only
  split
  · split
    · split
      · simp
      · next t moved => simp [dmaMove_lanes s t l c _ moved]
    · simp
  · simp

@[simp] theorem dmaFaultOp_lanes (l : Lane) (c cause va done : Nat) (write : Bool) (s : State) :
    On (dmaFaultOp l c cause va done write s) fun t => SpeedKept t s ∧ ArbitersKept t s ∧ SameIn (·.rte) t s := by
  simp [On, dmaFaultOp]

@[simp] theorem dmaSuspendedOp_lanes (l : Lane) (c done : Nat) (s : State) :
    On (dmaSuspendedOp l c done s) fun t => SameIn (·.core) t s ∧ SpeedKept t s ∧ SameIn (·.diag) t s ∧ ArbitersKept t s ∧
    SameIn (·.rte) t s := by
  simp [On, dmaSuspendedOp]

/-! ### Registers -/

@[simp] theorem writeUnit_lanes (s : State) (l : Lane) (u ofs : Nat) (f : CvuS → CvuS) :
    On (s.writeUnit l u ofs f) fun t => SpeedKept t s ∧ SameIn (·.mmu) t s ∧ ArbitersKept t s ∧ SameIn (·.dma) t s ∧
    SameIn (·.perf) t s ∧ SameIn (·.rte) t s := by
  unfold On State.writeUnit
  dsimp only
  (repeat' split) <;> simp

@[simp] theorem cvuLoadOp_lanes (l : Lane) (u poly : Nat) (s : State) : On (cvuLoadOp l u poly s) fun t => SpeedKept t s ∧
    SameIn (·.mmu) t s ∧ ArbitersKept t s ∧ SameIn (·.dma) t s ∧ SameIn (·.perf) t s ∧ SameIn (·.rte) t s := writeUnit_lanes s l u _ _

@[simp] theorem cvuSeedOp_lanes (l : Lane) (u : Nat) (s : State) : On (cvuSeedOp l u s) fun t => SpeedKept t s ∧ SameIn (·.mmu) t s ∧
    ArbitersKept t s ∧ SameIn (·.dma) t s ∧ SameIn (·.perf) t s ∧ SameIn (·.rte) t s := writeUnit_lanes s l u _ _

@[simp] theorem cvuFeedOp_lanes (l : Lane) (u : Nat) (data : Word) (s : State) : On (cvuFeedOp l u data s) fun t => SpeedKept t s ∧
    SameIn (·.mmu) t s ∧ ArbitersKept t s ∧ SameIn (·.dma) t s ∧ SameIn (·.perf) t s ∧ SameIn (·.rte) t s := writeUnit_lanes s l u _ _

@[simp] theorem cvuValueOp_lanes (l : Lane) (u : Nat) (high : Bool) (w : Word) (s : State) :
    On (cvuValueOp l u high w s) fun t => SpeedKept t s ∧ SameIn (·.mmu) t s ∧ ArbitersKept t s ∧ SameIn (·.dma) t s ∧
    SameIn (·.perf) t s ∧ SameIn (·.rte) t s := writeUnit_lanes s l u _ _

@[simp] theorem enableChan_keeps (x : LaneS) (c : Nat) (on : Bool) : ChannelKept (x.enableChan c on) x ∧
    (x.enableChan c on).mmu = x.mmu := by
  unfold LaneS.enableChan
  dsimp only
  (repeat' split) <;> simp

@[simp] theorem resumeReq_keeps (x : LaneS) (c : Nat) : ChannelKept (x.resumeReq c) x ∧ (x.resumeReq c).mmu = x.mmu := by
  unfold LaneS.resumeReq
  dsimp only
  split <;> simp

@[simp] theorem offer_keeps (x : LaneS) (c tail : Nat) : ChannelKept (x.offer c tail) x ∧ (x.offer c tail).mmu = x.mmu := by
  unfold LaneS.offer
  dsimp only
  split <;> simp

@[simp] theorem abortChan_keeps (x : LaneS) (c : Nat) : ChannelKept (x.abortChan c) x := by
  unfold LaneS.abortChan
  dsimp only
  (repeat' split) <;> simp

@[simp] theorem onChannels_lanes (s : State) (l : Lane) (f : LaneS → LaneS) (h : ∀ x, ChannelKept (f x) x) : On (s.onChannels l f) fun t =>
    SameIn (·.core) t s ∧ SpeedKept t s ∧ SameIn (·.diag) t s ∧ ArbitersKept t s ∧ SameIn (·.perf) t s ∧ SameIn (·.rte) t s := by
  unfold On State.onChannels
  split <;> simp [h]

/-- A change of a lane's channels that leaves its memory alone. -/
@[simp] theorem onChannels_mmu (s : State) (l m : Lane) (f : LaneS → LaneS) (h : ∀ x, (f x).mmu = x.mmu) :
    ((s.onChannels l f).lanes.get m).mmu = (s.lanes.get m).mmu := by
  unfold State.onChannels
  split <;> simp [h]

@[simp] theorem onChannels_cvu (s : State) (l m : Lane) (f : LaneS → LaneS) (h : ∀ x, (f x).cvu = x.cvu) :
    ((s.onChannels l f).lanes.get m).cvu = (s.lanes.get m).cvu := by
  unfold State.onChannels
  split <;> simp [h]

@[simp] theorem dmaEnableOp_lanes (l : Lane) (c : Nat) (on : Bool) (s : State) : On (dmaEnableOp l c on s) fun t => SpeedKept t s ∧
    SameIn (·.diag) t s ∧ SameIn (·.mmu) t s ∧ ArbitersKept t s ∧ SameIn (·.perf) t s ∧ SameIn (·.rte) t s := by
  simp [On, dmaEnableOp]

@[simp] theorem dmaSuspendOp_lanes (l : Lane) (c : Nat) (s : State) : On (dmaSuspendOp l c s) fun t => SpeedKept t s ∧
    SameIn (·.diag) t s ∧ SameIn (·.mmu) t s ∧ ArbitersKept t s ∧ SameIn (·.cvu) t s ∧ SameIn (·.perf) t s ∧ SameIn (·.rte) t s := by
  simp [On, dmaSuspendOp, LaneS.suspendChan]

@[simp] theorem dmaResumeOp_lanes (l : Lane) (c : Nat) (s : State) : On (dmaResumeOp l c s) fun t => SpeedKept t s ∧
    SameIn (·.diag) t s ∧ SameIn (·.mmu) t s ∧ ArbitersKept t s ∧ SameIn (·.perf) t s ∧ SameIn (·.rte) t s := by
  simp [On, dmaResumeOp]

@[simp] theorem dmaAbortOp_lanes (l : Lane) (c : Nat) (s : State) : On (dmaAbortOp l c s) fun t => SpeedKept t s ∧ SameIn (·.diag) t s ∧
    ArbitersKept t s ∧ SameIn (·.perf) t s ∧ SameIn (·.rte) t s := by
  simp [On, dmaAbortOp]

@[simp] theorem dmaTailOp_lanes (l : Lane) (c tail : Nat) (s : State) : On (dmaTailOp l c tail s) fun t => SpeedKept t s ∧
    SameIn (·.diag) t s ∧ SameIn (·.mmu) t s ∧ ArbitersKept t s ∧ SameIn (·.perf) t s ∧ SameIn (·.rte) t s := by
  simp [On, dmaTailOp]

@[simp] theorem mmuRootOp_lanes (l : Lane) (master : Nat) (v : Word) (s : State) : On (mmuRootOp l master v s) fun t => SpeedKept t s ∧
    SameIn (·.diag) t s ∧ SameBytes t s ∧ ArbitersKept t s ∧ UnitsKept t s := by
  have bytes : SameBytes (mmuRootOp l master v s) s := fun m => by
    unfold mmuRootOp
    split
    · exact modMmu_l_bytes s l m _ fun x => modMaster_bytes x _ _
    · rfl
  refine ⟨?_, ?_, bytes, ?_, ?_⟩ <;> simp [mmuRootOp]

/-- MMU_INVAL drops entries of the masters' tables. -/
theorem invalidate_bytes (drop : MmuMaster → MmuMaster) (masters : List Nat) (m : MmuS) :
    (masters.foldl (fun m k => { m with masters := Tab.modify m.masters k drop }) m).bytes = m.bytes :=
  List.foldlRecOn (motive := fun (n : MmuS) => n.bytes = m.bytes) masters _ rfl fun _ kept _ _ => kept

@[simp] theorem mmuInvalOp_lanes (l : Lane) (v : Word) (s : State) : On (mmuInvalOp l v s) fun t => SpeedKept t s ∧ SameIn (·.diag) t s ∧
    SameBytes t s ∧ ArbitersKept t s ∧ UnitsKept t s := by
  have bytes : SameBytes (mmuInvalOp l v s) s := fun m => by
    unfold mmuInvalOp
    split
    · exact modMmu_l_bytes s l m _ (invalidate_bytes _ _)
    · rfl
  refine ⟨?_, ?_, bytes, ?_, ?_⟩ <;> simp [mmuInvalOp]

@[simp] theorem writeOwn_tbs (x : LaneS) (block ofs : Nat) (v : Word) : (x.writeOwn block ofs v).tbs = x.tbs := by
  unfold LaneS.writeOwn
  split <;> rfl

@[simp] theorem writeDma_tbs (x : LaneS) (ofs : Nat) (v : Word) : (x.writeDma ofs v).tbs = x.tbs := by
  unfold LaneS.writeDma
  dsimp only
  (repeat' split) <;> simp

@[simp] theorem writeArb_tbs (x : LaneS) (ofs : Nat) (v : Word) : (x.writeArb ofs v).tbs = x.tbs := by
  unfold LaneS.writeArb
  dsimp only
  (repeat' split) <;> simp

@[simp] theorem writePmc_tbs (x : LaneS) (ofs : Nat) (v : Word) : (x.writePmc ofs v).tbs = x.tbs := by
  unfold LaneS.writePmc
  dsimp only
  (repeat' split) <;> rfl

@[simp] theorem writeCvu_tbs (s : State) (l : Lane) (ofs : Nat) (v : Word) : SameIn (·.tbs) (s.writeCvu l ofs v) s := by
  unfold State.writeCvu
  (repeat' split) <;> simp

@[simp] theorem writeDmaCtrl_tbs (s : State) (l : Lane) (c : Nat) (v : Word) : SameIn (·.tbs) (s.writeDmaCtrl l c v) s := by
  simp [State.writeDmaCtrl]

@[simp] theorem writeReg_tbs (s : State) (l : Lane) (ofs : Nat) (v : Word) : SameIn (·.tbs) (s.writeReg l ofs v) s := by
  unfold State.writeReg
  (repeat' split) <;> simp

theorem regWrite_writeReg_tbs (l : Lane) (a ofs : Nat) (v : Word) (s : State) :
    SameIn (·.tbs) (s.regWrite l ofs v fun s => if roPlace ofs then s.writeFault l a 2 else s.writeReg l ofs v) s :=
  fun m => regWrite_l_tbs m _ _ _ _ _ fun s => by split <;> simp

@[simp] theorem registerWriteOp_tbs (l : Lane) (a : Nat) (v : Word) (s : State) : SameIn (·.tbs) (registerWriteOp l a v s) s := by
  unfold registerWriteOp
  split
  · split
    · simp
    · exact regWrite_writeReg_tbs l a _ v s
  · simp

@[simp] theorem dbgWrite_tbs (s : State) (l : Lane) (a : Nat) (v : Word) : SameIn (·.tbs) (s.dbgWrite l a v) s := by
  unfold State.dbgWrite
  (repeat' split) <;> simp

/-! ### Commands that stand alone, with a body that looks something up -/

@[simp] theorem routeQueryOp_recordKept (h : CmdHdr) (r : Nat) (s : State) :
    RecordKept (routeQueryOp h r s) s := serve_recordKept _ _ _ _ _ fun s => by
  (repeat' split) <;> simp

@[simp] theorem elementQueryOp_recordKept (h : CmdHdr) (o : Nat) (s : State) :
    RecordKept (elementQueryOp h o s) s := serve_recordKept _ _ _ _ _ fun s => by
  (repeat' split) <;> simp

@[simp] theorem snapshotCopyOp_recordKept (h : CmdHdr) (count offset : Nat) (s : State) :
    RecordKept (snapshotCopyOp h count offset s) s := serve_recordKept _ _ _ _ _ fun s => by
  (repeat' split) <;> simp

@[simp] theorem snapshotReadOp_recordKept (h : CmdHdr) (count offset : Nat) (s : State) :
    RecordKept (snapshotReadOp h count offset s) s := serve_recordKept _ _ _ _ _ fun s => by
  (repeat' split) <;> simp

@[simp] theorem sessionCloseOp_recordKept (h : CmdHdr) (role : Nat) (s : State) :
    RecordKept (sessionCloseOp h role s) s := serve_recordKept _ _ _ _ _ fun s => by
  (repeat' split) <;> simp

@[simp] theorem sealFuseStep1Op_recordKept (h : CmdHdr) (op slot : Nat) (s : State) :
    RecordKept (sealFuseStep1Op h op slot s) s := serve_recordKept _ _ _ _ _ fun s => by
  (repeat' split) <;> simp

@[simp] theorem netBankWriteOp_recordKept (h : CmdHdr) (port first : Nat) (entries : List Word) (s : State) :
    RecordKept (netBankWriteOp h port first entries s) s := serve_recordKept _ _ _ _ _ fun s => by
  (repeat' split) <;> simp

@[simp] theorem recClearStep1Op_recordKept (h : CmdHdr) (upTo : Nat) (s : State) :
    RecordKept (recClearStep1Op h upTo s) s := serve_recordKept _ _ _ _ _ fun s => by
  (repeat' split) <;> simp

@[simp] theorem recClearStep2Op_recordKept (h : CmdHdr) (upTo : Nat) (token : Word) (s : State) :
    RecordKept (recClearStep2Op h upTo token s) s := serve_recordKept _ _ _ _ _ fun s => by
  (repeat' split) <;> simp

@[simp] theorem sealFuseStep2Op_recordKept (h : CmdHdr) (op slot : Nat) (token : Word) (s : State) :
    RecordKept (sealFuseStep2Op h op slot token s) s := serve_recordKept _ _ _ _ _ fun s => by
  dsimp only
  (repeat' split) <;> simp

@[simp] theorem imgAbortOp_recordKept (h : CmdHdr) (s : State) : RecordKept (imgAbortOp h s) s := serve_recordKept _ _ _ _ _ fun s => by
  dsimp only
  (repeat' split) <;> simp

@[simp] theorem sheetCommitOp_recordKept (h : CmdHdr) (time : Nat) (s : State) :
    RecordKept (sheetCommitOp h time s) s := serveImage_recordKept _ _ _ _ _ fun s => by
  dsimp only
  (repeat' split) <;> simp

@[simp] theorem laneResyncOp_lanes (h : CmdHdr) (lane : Nat) (s : State) : On (laneResyncOp h lane s) fun t => SameIn (·.pwr) t s ∧
    SameIn (·.tbs) t s ∧ SameIn (·.mmu) t s ∧ UnitsKept t s := by
  unfold On laneResyncOp State.serve
  dsimp only
  (repeat' split) <;> simp

/-- A copy begins with no page sent. -/
@[simp] theorem modMmu_clearSent_bytes (s : State) (l m : Lane) :
    ((s.modMmu l MmuS.clearSent).lanes.get m).mmu.bytes = (s.lanes.get m).mmu.bytes := modMmu_l_bytes s l m _ clearSent_bytes

@[simp] theorem copyArmedOp_lanes (l : Lane) (s : State) : On (copyArmedOp l s) fun t => SpeedKept t s ∧ SameIn (·.diag) t s ∧
    SameBytes t s ∧ ArbitersKept t s ∧ UnitsKept t s := by
  unfold On copyArmedOp
  dsimp only
  (repeat' split) <;> simp

@[simp] theorem resyncArmedOp_lanes (l : Lane) (s : State) : On (resyncArmedOp l s) fun t => SpeedKept t s ∧ SameIn (·.diag) t s ∧
    SameBytes t s ∧ ArbitersKept t s ∧ UnitsKept t s := by
  unfold On resyncArmedOp
  (repeat' split) <;> simp

@[simp] theorem evalFrom_lanes (task limit : Nat) (l : List (Nat × BlockDef)) (s : State) : (evalFrom task limit l s).lanes = s.lanes := by
  induction l generalizing s with
  | nil => rfl
  | cons p r ih =>
    unfold evalFrom
    dsimp only
    split <;> simp [ih]

@[simp] theorem runOn_lanes (s : State) : (s.runOn).lanes = s.lanes := by
  unfold State.runOn
  split <;> simp

@[simp] theorem dispatchOp_lanes (s : State) : (dispatchOp s).lanes = s.lanes := by
  simp [dispatchOp]

@[simp] theorem dispatchPointOp_lanes (s : State) : On (dispatchPointOp s) fun t => SameIn (·.core) t s ∧ SpeedKept t s ∧
    SameIn (·.diag) t s ∧ SameIn (·.mmu) t s ∧ ArbitersKept t s ∧ SameIn (·.dma) t s ∧ SameIn (·.cvu) t s ∧ SameIn (·.rte) t s := by
  simp [On, dispatchPointOp]

@[simp] theorem runCompleteOp_lanes (t : Nat) (s : State) : (runCompleteOp t s).lanes = s.lanes := by
  simp [runCompleteOp]

@[simp] theorem runEndOp_lanes (t : Nat) (s : State) : On (runEndOp t s) fun u => SameIn (·.core) u s ∧ SpeedKept u s ∧
    SameIn (·.diag) u s ∧ SameIn (·.mmu) u s ∧ ArbitersKept u s ∧ SameIn (·.dma) u s ∧ SameIn (·.cvu) u s ∧ SameIn (·.rte) u s := by
  simp [On, runEndOp]

@[simp] theorem shed_recordKept (s : State) (ma : List Nat) (n : Nat) : RecordKept (s.shed ma n) s := by
  induction n generalizing s ma with
  | zero => simp [State.shed]
  | succ n ih =>
    unfold State.shed
    dsimp only
    (repeat' split) <;> simp [ih]

@[simp] theorem moduleOverloadOp_recordKept (groupMa : List Nat) (s : State) : RecordKept (moduleOverloadOp groupMa s) s := by
  simp [moduleOverloadOp]

/-! ### The start -/

@[simp] theorem enterIntegrate_lanes (s : State) (trigger : Nat) : On (s.enterIntegrate trigger) fun t => SameIn (·.core) t s ∧
    SameIn (·.pwr) t s ∧ SameIn (·.tbs) t s ∧ SameIn (·.mmu) t s ∧ ArbitersKept t s ∧ UnitsKept t s := by
  unfold On State.enterIntegrate
  dsimp only
  refine ⟨fun m => ?_, fun m => ?_, fun m => ?_, fun m => ?_, ⟨fun m => ?_, fun m => ?_⟩, fun m => ?_, fun m => ?_, fun m => ?_, fun m =>
      ?_⟩ <;>
    (simp; split <;> rfl)

/-- The choice of the boot slot records. -/
theorem bootImage_recordKept (s t : State) (h : s.bootImage = some t) : RecordKept t s := by
  simp only [State.bootImage] at h
  split at h
  · cases h; simp
  · split at h
    · cases h; simp
    · cases h

@[simp] theorem romBootCompleteOp_lanes (romOk : LaneSet) (s : State) : On (romBootCompleteOp romOk s) fun t => SpeedKept t s ∧
    SameIn (·.mmu) t s ∧ ArbitersKept t s ∧ UnitsKept t s := by
  unfold On romBootCompleteOp
  extract_lets s1 src
  have kept : SpeedKept s1 s ∧ SameIn (·.mmu) s1 s ∧ ArbitersKept s1 s ∧ UnitsKept s1 s := by
    refine ⟨⟨fun m => ?_, fun m => ?_, fun m => ?_⟩, fun m => ?_, ⟨fun m => ?_, fun m => ?_⟩, fun m => ?_, fun m => ?_, fun m => ?_, fun m
        => ?_⟩
    · exact forLanes_l_clk m _ (fun s l => by split <;> simp) _ s
    · exact forLanes_l_pwr m _ (fun s l => by split <;> simp) _ s
    · exact forLanes_l_tbs m _ (fun s l => by split <;> simp) _ s
    · exact forLanes_l_mmu m _ (fun s l => by split <;> simp) _ s
    · exact forLanes_l_arbE m _ (fun s l => by split <;> simp) _ s
    · exact forLanes_l_arbD m _ (fun s l => by split <;> simp) _ s
    · exact forLanes_l_dma m _ (fun s l => by split <;> simp) _ s
    · exact forLanes_l_cvu m _ (fun s l => by split <;> simp) _ s
    · exact forLanes_l_perf m _ (fun s l => by split <;> simp) _ s
    · exact forLanes_l_rte m _ (fun s l => by split <;> simp) _ s
  clear_value s1
  split
  · split
    · simp [src, kept]
    · split
      next s2 booted =>
        have image := bootImage_recordKept s1 s2 booted
        simp_all
      next => simp [src, kept]
  · simp

@[simp] theorem loadedConditionsMetOp_lanes (s : State) : On (loadedConditionsMetOp s) fun t => SameIn (·.core) t s ∧
    SameIn (·.pwr) t s ∧ SameIn (·.tbs) t s ∧ SameIn (·.mmu) t s ∧ ArbitersKept t s ∧ UnitsKept t s := by
  unfold On loadedConditionsMetOp
  split <;> simp

@[simp] theorem dormantEntryCompleteOp_lanes (ms : Nat) (s : State) : On (dormantEntryCompleteOp ms s) fun t => SameIn (·.core) t s ∧
    SameIn (·.tbs) t s ∧ SameIn (·.mmu) t s ∧ ArbitersKept t s ∧ UnitsKept t s := by
  unfold On dormantEntryCompleteOp
  dsimp only
  split
  · refine ⟨fun m => ?_, fun m => ?_, fun m => ?_, ⟨fun m => ?_, fun m => ?_⟩, fun m => ?_, fun m => ?_, fun m => ?_, fun m => ?_⟩ <;>
      (simp; split <;> rfl)
  · simp

@[simp] theorem wakeCompleteOp_lanes (hashOk blocksOk formed : LaneSet) (s : State) :
    On (wakeCompleteOp hashOk blocksOk formed s) fun t => SameIn (·.pwr) t s ∧ SameIn (·.tbs) t s ∧ SameIn (·.mmu) t s ∧ UnitsKept t s := by
  unfold On wakeCompleteOp
  split
  · extract_lets s1 pass s2 anew t
    have kept : SameIn (·.pwr) s1 s ∧ SameIn (·.tbs) s1 s ∧ SameIn (·.mmu) s1 s ∧ UnitsKept s1 s := by
      refine ⟨fun m => ?_, fun m => ?_, fun m => ?_, fun m => ?_, fun m => ?_, fun m => ?_, fun m => ?_⟩
      · exact forLanes_l_pwr m _ (fun s l => by (repeat' split) <;> simp) _ s
      · exact forLanes_l_tbs m _ (fun s l => by (repeat' split) <;> simp) _ s
      · exact forLanes_l_mmu m _ (fun s l => by (repeat' split) <;> simp) _ s
      · exact forLanes_l_dma m _ (fun s l => by (repeat' split) <;> simp) _ s
      · exact forLanes_l_cvu m _ (fun s l => by (repeat' split) <;> simp) _ s
      · exact forLanes_l_perf m _ (fun s l => by (repeat' split) <;> simp) _ s
      · exact forLanes_l_rte m _ (fun s l => by (repeat' split) <;> simp) _ s
    clear_value s1
    have same (x : LaneS) : (anew x).pwr = x.pwr ∧ (anew x).tbs = x.tbs ∧ (anew x).mmu = x.mmu ∧ (anew x).dma = x.dma ∧
        (anew x).cvu = x.cvu ∧
        (anew x).perf = x.perf ∧ (anew x).rte = x.rte := by
      simp only [anew]
      split <;> simp
    clear_value anew
    split
    · simp [s2, kept, same]
    · simp [t, s2, kept]
  · simp

/-! ### The cycle -/

@[simp] theorem tick0_lanes (s : State) (clock : PerLane (BitVec 64)) : On (s.tick0 clock) fun t => SameIn (·.tbs) t s ∧ SameBytes t s ∧
    SameIn (·.cvu) t s := by
  unfold On State.tick0
  extract_lets first s1 begin_ s2 mod s3 s4 shot
  have kept : SameIn (·.tbs) s1 s ∧ SameBytes s1 s ∧ SameIn (·.cvu) s1 s := by
    refine ⟨fun m => ?_, fun m => ?_, fun m => ?_⟩
    · exact each_l_tbs m _ (fun s l => by (repeat' split) <;> simp) _ s
    · exact each_l_bytes m _ (fun s l => by (repeat' split) <;> simp) _ s
    · exact each_l_cvu m _ (fun s l => by (repeat' split) <;> simp) _ s
  clear_value s1
  split <;> simp [s4, s3, s2, kept]

@[simp] theorem tickBoundaryOp_lanes (marks views : PerLane LaneSet) (clock : PerLane (BitVec 64)) (s : State) :
    On (tickBoundaryOp marks views clock s) fun t => SameIn (·.tbs) t s ∧ SameBytes t s ∧ SameIn (·.cvu) t s := by
  unfold On tickBoundaryOp
  dsimp only
  (repeat' split) <;> simp

/-- Of the lanes no more than the core, the clocks, the diagnosis, the arbiters and the rest of the MMU change, as when a lane leaves the
vote. -/
@[simp] abbrev LeaveKept (t s : State) : Prop := SameIn (·.pwr) t s ∧ SameIn (·.tbs) t s ∧ SameBytes t s ∧ UnitsKept t s

theorem LeaveKept.trans {u t s : State} (h : LeaveKept u t) (h' : LeaveKept t s) : LeaveKept u s := by
  obtain ⟨pwr, tbs, bytes, dma, cvu, perf, rte⟩ := h
  obtain ⟨pwr', tbs', bytes', dma', cvu', perf', rte'⟩ := h'
  exact ⟨fun l => (pwr l).trans (pwr' l), fun l => (tbs l).trans (tbs' l), fun l => (bytes l).trans (bytes' l), fun l => (dma l).trans
      (dma' l),
    fun l => (cvu l).trans (cvu' l), fun l => (perf l).trans (perf' l), fun l => (rte l).trans (rte' l)⟩

/-- A fold over a list keeps of the lanes what each of its steps keeps. -/
theorem each_leaveKept {α : Type} (f : State → α → State) (h : ∀ s x, LeaveKept (f s x) s) (l : List α) (s : State) :
    LeaveKept (s.each l f) s :=
  List.foldlRecOn (motive := fun t => LeaveKept t s) l f (by simp) fun t kept x _ => (h t x).trans kept

theorem senseCheck_leaveKept (s : State) (a : Accorded) (p : Proposal) : LeaveKept (s.senseCheck a p) s := by
  simp

/-- What receivers that disagree with the accorded set do, one proposal after another (R46). -/
theorem compareAll_leaveKept (s : State) (a : Accorded) (ps : List Proposal) : LeaveKept (s.each ps fun s p =>
    (s.each (mismatches a p) fun s x => if s.laneSt p.lane = .voting then s.rxMismatch p.lane x else s).senseCheck a p) s :=
  each_leaveKept _ (fun _ p => (senseCheck_leaveKept _ a p).trans (each_leaveKept _ (fun s x => by split <;> simp) (mismatches a p) _)) ps s

@[simp] theorem accordedSetOp_leaveKept (received : PerLane LaneSet) (s : State) : LeaveKept (accordedSetOp received s) s := by
  unfold accordedSetOp
  split
  · extract_lets voting lost props set computed due acc s1
    split
    · simp [s1]
    · exact compareAll_leaveKept s1 _ _
  · simp

@[simp] theorem closeWith_lanes (s : State) (v : LaneSet) (a : Accorded) (units : Nat) :
    On (s.closeWith v a units) fun t => SameIn (·.pwr) t s ∧ SameIn (·.tbs) t s ∧ SameBytes t s ∧ SameIn (·.perf) t s := by
  unfold On State.closeWith
  dsimp only
  simp

@[simp] theorem inputAccordOp_lanes (sent : LaneSet) (wrong : PerLane (BitVec 64)) (units : Nat) (s : State) :
    On (inputAccordOp sent wrong units s) fun t => SameIn (·.pwr) t s ∧ SameIn (·.tbs) t s ∧ SameBytes t s ∧ SameIn (·.perf) t s := by
  unfold On inputAccordOp
  dsimp only
  (repeat' split) <;> simp

/-- A fold over a list whose every step leaves the lanes but for records. -/
theorem each_recordKept {α : Type} (f : State → α → State) (h : ∀ s x, RecordKept (f s x) s) (l : List α) (s : State) :
    RecordKept (s.each l f) s := by
  refine List.foldlRecOn (motive := fun t => RecordKept t s) l f (by simp) fun t kept x _ => ?_
  obtain ⟨core, ⟨clk, pwr, tbs⟩, mmu, ⟨arbE, arbD⟩, dma, cvu, perf, rte⟩ := kept
  have step := h t x
  simp_all

@[simp] theorem stopStrobeOp_recordKept (strobes : LaneSet) (s : State) : RecordKept (stopStrobeOp strobes s) s := by
  unfold stopStrobeOp
  dsimp only
  split
  · split
    · exact each_recordKept _ (fun s n => by (repeat' split) <;> simp) _ s
    · simp
  · simp

/-! ### The cycle evaluation -/

@[simp] theorem decodeAll_lanes (s : State) (l : List VitalCmd) : On (s.decodeAll l).1 fun t => SameIn (·.core) t s ∧ SpeedKept t s ∧
    SameIn (·.mmu) t s ∧ ArbitersKept t s ∧ SameIn (·.dma) t s ∧ SameIn (·.cvu) t s ∧ SameIn (·.perf) t s := by
  refine List.foldlRecOn (motive := fun (a : State × List Decoded) => On a.1 fun t => SameIn (·.core) t s ∧ SpeedKept t s ∧
      SameIn (·.mmu) t s ∧ ArbitersKept t s ∧ SameIn (·.dma) t s ∧ SameIn (·.cvu) t s ∧ SameIn (·.perf) t s) l _ (by simp [On]) ?_
  rintro a ⟨core, ⟨clk, pwr, tbs⟩, mmu, ⟨arbE, arbD⟩, dma, cvu, perf⟩ c -
  simp_all [On]

@[simp] theorem settleAll_lanes (s : State) (l : List Decoded) (answers : List (Origin × Nat)) :
    On (s.settleAll l answers).1 fun t => SameIn (·.core) t s ∧ SpeedKept t s ∧ SameIn (·.mmu) t s ∧ ArbitersKept t s ∧
    SameIn (·.dma) t s ∧ SameIn (·.cvu) t s ∧ SameIn (·.perf) t s := by
  refine List.foldlRecOn (motive := fun (a : State × List Judged) => On a.1 fun t => SameIn (·.core) t s ∧ SpeedKept t s ∧
      SameIn (·.mmu) t s ∧ ArbitersKept t s ∧ SameIn (·.dma) t s ∧ SameIn (·.cvu) t s ∧ SameIn (·.perf) t s) l _ (by simp [On]) ?_
  rintro a ⟨core, ⟨clk, pwr, tbs⟩, mmu, ⟨arbE, arbD⟩, dma, cvu, perf⟩ d -
  simp_all [On]

@[simp] theorem decodeCycle_lanes (s : State) : On s.decodeCycle.1 fun t => SameIn (·.core) t s ∧ SpeedKept t s ∧ SameIn (·.mmu) t s ∧
    ArbitersKept t s ∧ SameIn (·.dma) t s ∧ SameIn (·.cvu) t s ∧ SameIn (·.perf) t s := by
  unfold On State.decodeCycle
  dsimp only
  (repeat' split) <;> simp

@[simp] theorem cycleEvaluationOp_lanes (s : State) : On (cycleEvaluationOp s) fun t => SameIn (·.core) t s ∧ SpeedKept t s ∧
    SameIn (·.mmu) t s ∧ ArbitersKept t s ∧ SameIn (·.dma) t s ∧ SameIn (·.cvu) t s ∧ SameIn (·.perf) t s := by
  unfold On cycleEvaluationOp
  split
  · simp
  · simp

/-! ### The refresh -/

@[simp] theorem voteRefreshOp_leaveKept (sense : List SenseReading) (groups : List GroupReading) (s : State) :
    LeaveKept (voteRefreshOp sense groups s) s := by
  unfold voteRefreshOp
  split
  · extract_lets voting refresh s1 s2 s2' s3 chs s4 s5
    have kept : LeaveKept s5 s := by simp [s5, s4, s3, s2', s2, s1]
    refine (each_leaveKept _ (fun s p => ?_) _ s5).trans kept
    exact List.foldlRecOn (motive := fun t => LeaveKept t s) _ _ (by simp) fun t kept l _ => LeaveKept.trans (by split <;> simp) kept
  · simp

end Sys2Proof.Machine
end

section
/-!
SUPPORT. The lanes' part of the table of changes (O8), over every command.
-/

namespace Sys2Proof.Machine

open Sys2Proof

/-- A step keeps every lane's core, clocks, power, time base and diagnosis where the table of changes does not name them for its command. -/
def CoreFramed (c : Instr) (s t : State) : Prop :=
  (Part.core ∈ mayChange c ∨ SameIn (·.core) t s) ∧ (Part.clk ∈ mayChange c ∨ SameIn (·.clk) t s) ∧
  (Part.pwr ∈ mayChange c ∨ SameIn (·.pwr) t s) ∧ (Part.tbs ∈ mayChange c ∨ SameIn (·.tbs) t s) ∧
  (Part.diag ∈ mayChange c ∨ SameIn (·.diag) t s)

/-- A step keeps every lane's MMU and bytes of memory, DMA channels and arbiters where the table of changes does not name them for its
command. -/
def MemoryFramed (c : Instr) (s t : State) : Prop :=
  (Part.mmu ∈ mayChange c ∨ SameIn (·.mmu) t s) ∧ (Part.memory ∈ mayChange c ∨ SameBytes t s) ∧
  (Part.dma ∈ mayChange c ∨ SameIn (·.dma) t s) ∧ (Part.arbE ∈ mayChange c ∨ SameIn (·.arbE) t s) ∧
  (Part.arbD ∈ mayChange c ∨ SameIn (·.arbD) t s)

/-- A step keeps every lane's check-value units, counters and route engine where the table of changes does not name them for its command. -/
def EnginesFramed (c : Instr) (s t : State) : Prop :=
  (Part.cvu ∈ mayChange c ∨ SameIn (·.cvu) t s) ∧ (Part.perf ∈ mayChange c ∨ SameIn (·.perf) t s) ∧
  (Part.rte ∈ mayChange c ∨ SameIn (·.rte) t s)

/-- Command by command: the table's row names a part, or the lemmas of the command's operation say that it is kept. -/
theorem exec_coreFramed (c : Instr) (s t : State) (h : exec c s = .next t) : CoreFramed c s t := by
  cases c <;> cases h <;> simp [CoreFramed, mayChange, Part.all, State.dbg]

theorem exec_memoryFramed (c : Instr) (s t : State) (h : exec c s = .next t) : MemoryFramed c s t := by
  cases c <;> cases h <;> simp [MemoryFramed, mayChange, Part.all, State.dbg]

theorem exec_enginesFramed (c : Instr) (s t : State) (h : exec c s = .next t) : EnginesFramed c s t := by
  cases c <;> cases h <;> simp [EnginesFramed, mayChange, Part.all, State.dbg]

/-- Settles O8: each of the thirteen parts, from what every command keeps; a byte of memory reads the same where the bytes are the same. -/
theorem laneFrames : Obligations.LaneFrames := by
  unfold Obligations.LaneFrames
  intro c s t p ht hp hc
  obtain ⟨core, clk, pwr, tbs, diag⟩ := exec_coreFramed c s t ht
  obtain ⟨mmu, memory, dma, arbE, arbD⟩ := exec_memoryFramed c s t ht
  obtain ⟨cvu, perf, rte⟩ := exec_enginesFramed c s t ht
  simp only [List.mem_cons, List.not_mem_nil, or_false] at hp
  obtain rfl | rfl | rfl | rfl | rfl | rfl | rfl | rfl | rfl | rfl | rfl | rfl | rfl := hp
  · exact core.resolve_left hc
  · exact clk.resolve_left hc
  · exact pwr.resolve_left hc
  · exact tbs.resolve_left hc
  · exact diag.resolve_left hc
  · exact mmu.resolve_left hc
  · exact fun l a => congrArg (Tab.getD · a 0) (memory.resolve_left hc l)
  · exact dma.resolve_left hc
  · exact arbE.resolve_left hc
  · exact arbD.resolve_left hc
  · exact cvu.resolve_left hc
  · exact perf.resolve_left hc
  · exact rte.resolve_left hc

end Sys2Proof.Machine
end

section
/-!
SUPPORT. The stall watchdog, the governor and the clock registers of a lane.
-/

namespace Sys2Proof.Machine

open Sys2Proof

/-! ### A register write with room in the compare buffer -/

/-- With room in the compare buffer a register write of a lane that runs enters it, does what it writes and leaves it (R352). -/
theorem regWrite_of_room (s : State) (l : Lane) (ofs : Nat) (v : Word) (effect : State → State) (runs : s.regsRun l = true)
    (room : RegisterRoom s l) : ∃ enter leave, s.regWrite l ofs v effect = (effect (s.bump.modCore l enter)).modCore l leave := by
  unfold State.regWrite State.throughBogie
  rw [if_pos runs]
  exact ⟨_, _, if_neg (Nat.not_le.2 (room runs))⟩

/-- The buffer is part of the core: the lane's clocks are those that the effect leaves. -/
theorem regWrite_clk_of_room (s : State) (l : Lane) (ofs : Nat) (v : Word) (effect : State → State) (room : RegisterRoom s l) :
    ∃ u, (u.lanes.get l).clk = (s.lanes.get l).clk ∧ ((s.regWrite l ofs v effect).lanes.get l).clk = ((effect u).lanes.get l).clk := by
  by_cases runs : s.regsRun l = true
  · obtain ⟨enter, leave, eq⟩ := regWrite_of_room s l ofs v effect runs room
    exact ⟨s.bump.modCore l enter, by simp, by rw [eq]; simp⟩
  · refine ⟨s, rfl, ?_⟩
    unfold State.regWrite
    rw [if_neg runs]

/-- A register write waits while the compare buffer of the lane's bogie is full (R352). -/
theorem regWrite_of_full (s : State) (l : Lane) (ofs : Nat) (v : Word) (effect : State → State) (runs : s.regsRun l = true)
    (full : 8 ≤ (s.lane l).core.cmpBuf.length) : s.regWrite l ofs v effect = s := by
  unfold State.regWrite State.throughBogie
  rw [if_pos runs]
  exact if_pos full

/-! ### The clock registers -/

theorem gateWriteOp_tree (l : Lane) (v : Word) (s : State) (tb : v.getLsbD 0 = true) : On (gateWriteOp l v s) fun t =>
    (t.lanes.get l).clk.gateTb = true ∧ (t.lanes.get l).clk.gateDram = v.getLsbD 1 ∧ (t.lanes.get l).clk.gateIos = v.getLsbD 2 := by
  unfold On gateWriteOp
  dsimp only
  rw [if_pos tb]
  simp

/-- Under the tree TB is never turned off (R491). -/
theorem gateWriteOp_refused (l : Lane) (v : Word) (s : State) (tree : (s.lanes.get l).clk.static = 0) (tb : v.getLsbD 0 = false) :
    On (gateWriteOp l v s) fun t => (t.lanes.get l).clk.gateRefused = true ∧ (t.lanes.get l).clk.gateTb = (s.lanes.get l).clk.gateTb := by
  unfold On gateWriteOp
  dsimp only
  rw [if_neg (ne_true_of_eq_false tb), lane_eq, if_pos tree]
  split <;> simp

theorem xresetOp_one (l : Lane) (s : State) (still : (s.lanes.get l).clk.static ≠ 0) :
    ((xresetOp l 1 s).lanes.get l).clk = { (s.lanes.get l).clk with ackPhase := (s.lanes.get l).clk.ackPhase &&& 0xFE } := by
  have named : below 8 (fun n => (1 : Word).getLsbD n) = [0] := by decide
  unfold xresetOp State.each
  rw [named, List.foldl_cons, List.foldl_nil, lane_eq, if_pos (by simp [still])]
  simp

/-- A pair whose island runs is not reset (R495). -/
theorem xresetOp_running (l : Lane) (s : State) (tree : (s.lanes.get l).clk.static = 0) (runs : (s.lanes.get l).clk.gateDram = true) :
    ((xresetOp l 2 s).lanes.get l).clk = { (s.lanes.get l).clk with gateRefused := true } := by
  have named : below 8 (fun n => (2 : Word).getLsbD n) = [1] := by decide
  unfold xresetOp State.each
  rw [named, List.foldl_cons, List.foldl_nil, lane_eq, if_neg (by simp [tree, State.islandOff, runs])]
  simp

/-! ### A lane leaves a vote of three with its clocks -/

/-- Where one of three voting lanes leaves, two are enough to go on: the module is DEGRADED, not SAFE (R17, R356). -/
theorem leaveVote_of_three (s : State) (l : Lane) (cause sub : Nat) (cycles : s.mod.mode.cycles = true) (all : AllVoting s) :
    s.leaveVote l cause sub = (s.leave l cause sub).noteDegraded s.modeWord 14 := by
  have two : LaneSet.count (s.leave l cause sub).votingLanes = 2 := by
    obtain ⟨st, -, -, others⟩ := leave_of_voting s l cause sub cycles all
    refine count_of_all_but_one _ l fun m => ?_
    by_cases same : m = l
    · subst same
      simp [st]
    · simp [others m same, all m, same]
  exact if_neg (by simp [two])

/-- Of three voting lanes one leaves, with its clocks as they are. -/
theorem leaveVote_clk_of_all (s : State) (l : Lane) (cause sub : Nat) (cycles : s.mod.mode.cycles = true) (all : AllVoting s) :
    SameIn (·.clk) (s.leaveVote l cause sub) s := by
  have left : SameIn (·.clk) (s.leave l cause sub) s := by
    unfold State.leave
    rw [laneSt_eq, all l]
    simp [cycles]
  rw [leaveVote_of_three s l cause sub cycles all]
  simp [left]

/-- A stalled access takes a voting lane out of a vote of three (R494). -/
theorem stallOp_of_all (l : Lane) (x : Nat) (a : BitVec 36) (s : State) (operate : s.mod.mode = .operate) (votes : s.votingLanes = LaneSet.full) :
    On (stallOp l x a s) fun t => t.laneSt l = .minority ∧ (t.lane l).core.cause = 3 ∧ (t.lane l).clk.stallCross = x ∧
      (t.lane l).clk.stallCount = satAdd 0xFFFF (s.lane l).clk.stallCount 1 := by
  have all := (allVoting_iff s).2 votes
  unfold On stallOp
  rw [if_neg (by simp [all l])]
  extract_lets s1
  have all1 : AllVoting s1 := fun m => by simp [s1, all m]
  have clk1 : (s1.lanes.get l).clk.stallCross = x ∧ (s1.lanes.get l).clk.stallCount = satAdd 0xFFFF (s.lanes.get l).clk.stallCount 1 := by
    simp [s1]
  have mode1 : s1.mod = s.mod := by simp [s1]
  clear_value s1
  generalize two : (if x = 1 then s1.modLane l fun x => { x with arbD := x.arbD.unlock } else s1) = s2
  have all2 : AllVoting s2 := fun m => by rw [← two]; split <;> simp [all1 m]
  have clk2 : (s2.lanes.get l).clk = (s1.lanes.get l).clk := by rw [← two]; split <;> simp
  have mode2 : s2.mod = s1.mod := by rw [← two]; split <;> simp
  have cycles : s2.mod.mode.cycles = true := by rw [mode2, mode1, operate]; rfl
  obtain ⟨st, cause, -⟩ := leaveVote_of_all s2 l 3 0 cycles all2
  have clk : ((s2.leaveVote l 3 0).lanes.get l).clk = (s1.lanes.get l).clk := (leaveVote_clk_of_all s2 l 3 0 cycles all2 l).trans clk2
  exact ⟨st, cause, by simp [clk, clk1], by simp [clk, clk1]⟩

/-! ### The governor -/

@[simp] theorem noteEvent_st (s : State) (l m : Lane) : ((s.noteEvent l).lanes.get m).core.st = (s.lanes.get m).core.st := by
  by_cases same : m = l
  · subst same
    simp [State.noteEvent]
  · simp [State.noteEvent, State.modCore, get_modLane_ne, same]

/-- A slow canary of a lane below full speed begins a step up (R59). -/
theorem canaryOp_up (l : Lane) (v : Nat) (s : State) (governed : s.mod.mode.governed = true) (votes : s.laneSt l = .voting)
    (level : 0 < (s.lane l).pwr.level) (free : (s.lane l).pwr.stepTo = none) (first : (s.lane l).pwr.stepped = false)
    (may : s.mayStep l = true) (slow : sat16 v * 100 < s.required * 125) : On (canaryOp l v s) fun t =>
      (t.lane l).pwr.canary = sat16 v ∧ (t.lane l).pwr.stepTo = some ((s.lane l).pwr.level - 1, 0) ∧ (t.lane l).pwr.level = (s.lane l).pwr.level := by
  rw [lane_eq] at level free first
  unfold On canaryOp
  rw [lane_eq, if_neg (by simp only [governed, votes]; decide)]
  dsimp only
  rw [if_neg (by simp [Nat.ne_of_gt level]), if_pos (by simp [level, slow, may])]
  simp [State.beginStep, free, first]

/-- A canary below the required speed at full speed takes a voting lane out of a vote of three (R60). -/
theorem canaryOp_power (l : Lane) (v : Nat) (s : State) (operate : s.mod.mode = .operate) (votes : s.votingLanes = LaneSet.full)
    (level : (s.lane l).pwr.level = 0) (slow : sat16 v < s.required) : On (canaryOp l v s) fun t => t.laneSt l = .minority ∧
      (t.lane l).core.cause = 8 := by
  have all := (allVoting_iff s).2 votes
  rw [lane_eq] at level
  unfold On canaryOp
  rw [if_neg (by simp [operate, Mode.governed, all l])]
  extract_lets w s1 s1' lv
  have all1 : AllVoting (s1'.recordGovernor l 0 0 3) := fun m => by simp [s1', s1, State.recordGovernor, all m]
  rw [if_pos (by simp [lv, w, level, slow]), if_neg (by simp [all l])]
  obtain ⟨st, cause, -⟩ := leaveVote_of_all _ l 8 0 (by simp [s1', s1, operate, Mode.cycles]) all1
  exact ⟨st, cause⟩

theorem stepDownOp_down (l : Lane) (s : State) (governed : s.mod.mode.governed = true) (min : (s.lane l).pwr.level + 1 ≤ (s.lane l).pwr.minLevel)
    (level : (s.lane l).pwr.level ≤ 1) (fast : s.required * 150 ≤ (s.lane l).speedAtLevel ((s.lane l).pwr.level + 1) * 100)
    (free : (s.lane l).pwr.stepTo = none) (first : (s.lane l).pwr.stepped = false) (may : s.mayStep l = true) :
    stepDownOp l s = s.modPwr l fun p => { p with stepTo := some ((s.lane l).pwr.level + 1, 1), stepped := true } := by
  unfold stepDownOp State.beginStep
  dsimp only
  rw [lane_eq] at min level fast free first
  rw [lane_eq, if_pos (by simp [governed, min, level, fast, may]), if_neg (by simp [free, first])]

theorem stepCompleteOp_level (l : Lane) (n r : Nat) (s : State) (under : (s.lane l).pwr.stepTo = some (n, r)) : On (stepCompleteOp l s) fun t =>
    (t.lane l).pwr.level = n ∧ (t.lane l).pwr.stepTo = none := by
  unfold On stepCompleteOp
  rw [under]
  simp

/-- A step up without rail good takes a voting lane out of a vote of three (R498). -/
theorem railGoodTimeoutOp_power (l : Lane) (n r : Nat) (s : State) (operate : s.mod.mode = .operate) (votes : s.votingLanes = LaneSet.full)
    (under : (s.lane l).pwr.stepTo = some (n, r)) (up : n < (s.lane l).pwr.level) : On (railGoodTimeoutOp l s) fun t =>
      t.laneSt l = .minority ∧ (t.lane l).core.cause = 8 ∧ (t.lane l).pwr.level = (s.lane l).pwr.level ∧ (t.lane l).pwr.stepTo = none := by
  have all := (allVoting_iff s).2 votes
  have all1 : AllVoting (s.modPwr l fun p => { p with stepTo := none }) := fun m => by simp [all m]
  obtain ⟨st, cause, -⟩ := leaveVote_of_all _ l 8 0 (by simp [operate, Mode.cycles]) all1
  unfold On railGoodTimeoutOp
  rw [under]
  dsimp only
  rw [if_pos up]
  exact ⟨st, cause, by simp, by simp⟩

/-- Settles O24: each command's operation under the clause's conditions; the register writes through a compare buffer with room. -/
theorem speedAndStallCommands : Obligations.SpeedAndStallCommands := by
  unfold Obligations.SpeedAndStallCommands
  refine ⟨?_, ?_, ?_, ?_, ?_, ?_, ?_, ?_, ?_, ?_, ?_⟩
  · intro l x a s operate votes
    exact ⟨_, rfl, stallOp_of_all l x.val a s operate votes⟩
  · intro l v s governed votes level free first may slow
    exact ⟨_, rfl, canaryOp_up l v s governed votes level free first may slow⟩
  · intro l v s operate votes level slow
    exact ⟨_, rfl, canaryOp_power l v s operate votes level slow⟩
  · intro l s governed min level fast free first may
    exact congrArg Host.Outcome.next (stepDownOp_down l s governed min level fast free first may)
  · intro l n r s under
    exact ⟨_, rfl, stepCompleteOp_level l n r s under⟩
  · intro l n r s operate votes under up
    exact ⟨_, rfl, railGoodTimeoutOp_power l n r s operate votes under up⟩
  · intro l v s room tree tb
    obtain ⟨u, -, eq⟩ := regWrite_clk_of_room s l 0xC0008 v (gateWriteOp l v) room
    refine ⟨_, rfl, ?_⟩
    dsimp only
    rw [lane_eq, eq]
    exact gateWriteOp_tree l v u tb
  · intro l v s room tree tb
    obtain ⟨u, clk, eq⟩ := regWrite_clk_of_room s l 0xC0008 v (gateWriteOp l v) room
    refine ⟨_, rfl, ?_⟩
    dsimp only
    rw [lane_eq, lane_eq, eq, ← clk]
    exact gateWriteOp_refused l v u (clk ▸ tree) tb
  · intro l s room still
    obtain ⟨u, clk, eq⟩ := regWrite_clk_of_room s l 0xC000C 1 (xresetOp l 1) room
    refine ⟨_, rfl, ?_⟩
    dsimp only
    rw [lane_eq, lane_eq, eq, ← clk]
    exact xresetOp_one l u (clk ▸ still)
  · intro l s room tree runs
    obtain ⟨u, clk, eq⟩ := regWrite_clk_of_room s l 0xC000C 2 (xresetOp l 2) room
    refine ⟨_, rfl, ?_⟩
    dsimp only
    rw [lane_eq, lane_eq, eq, ← clk]
    exact xresetOp_running l u (clk ▸ tree) (clk ▸ runs)
  · intro l v s runs full
    exact ⟨congrArg Host.Outcome.next (regWrite_of_full s l _ v _ runs full), congrArg Host.Outcome.next (regWrite_of_full s l _ v _ runs full)⟩

end Sys2Proof.Machine
end

section
/-!
SUPPORT. The accord's messages in a lane's compare buffer.
-/

namespace Sys2Proof.Machine

open Sys2Proof

/-- The entry under which a lane's bogie compares the lane's proposal (R57, R352). -/
def State.proposalEntry (s : State) (l : Lane) : CmpEntry :=
  .message .proposal (s.accordMsg l .proposal ((s.acc.snaps.get l).elim [] Proposal.bytes))

/-- A sent proposal enters the compare buffer at its end and takes the first entry equal to it away. -/
theorem proposalSendOp_cmpBuf (l : Lane) (s : State) (isOpen : s.accordOpen = true) (votes : s.laneSt l = .voting)
    (room : (s.lanes.get l).core.cmpBuf.length < 8) :
    ((proposalSendOp l s).lanes.get l).core.cmpBuf = ((s.lanes.get l).core.cmpBuf ++ [s.proposalEntry l]).erase (s.proposalEntry l) := by
  unfold proposalSendOp State.throughBogie
  rw [if_pos (by rw [isOpen, votes]; rfl)]
  dsimp only
  rw [lane_eq, if_neg (Nat.not_le.2 room)]
  simp [State.proposalEntry]

/-- OPERATE with three voting lanes and the input accord open. -/
def openAccordState : State :=
  { State.reset with
    mod := { ModS.reset with mode := .operate }
    acc := { AccS.reset with isOpen := true, tick := 0 }
    lanes := PerLane.pure { LaneS.reset with core := { CoreS.reset with st := .voting } } }

/-- The same, with lane B's compare buffer holding the entry of lane B's own proposal before a register write. -/
def proposalAheadState : State :=
  openAccordState.modCore .b fun c => { c with cmpBuf := [openAccordState.proposalEntry .b, .register 0x20050000 0] }

/-- Refutes O32: its clause on a sent proposal says that the compare buffer is as it was, whatever it holds; where it holds an equal entry before
another one, the comparison takes that entry from the front and the order of the two is the other way round. -/
theorem not_accordCommands : ¬ Obligations.AccordCommands := by
  unfold Obligations.AccordCommands
  intro h
  obtain ⟨-, -, -, -, sends, -⟩ := h
  obtain ⟨t, ht, -, stays, -⟩ := sends .b proposalAheadState (by decide) (by decide) (by decide)
  have sent : t = proposalSendOp .b proposalAheadState := (Host.Outcome.next.inj ht).symm
  have turned := proposalSendOp_cmpBuf .b proposalAheadState (by decide) (by decide) (by decide)
  have entry : proposalAheadState.proposalEntry .b = openAccordState.proposalEntry .b := rfl
  have buffer : (proposalAheadState.lanes.get .b).core.cmpBuf = [openAccordState.proposalEntry .b, .register 0x20050000 0] := rfl
  rw [lane_eq, lane_eq, sent, turned, entry, buffer, List.cons_append, List.erase_cons_head, List.cons_append, List.nil_append] at stays
  exact CmpEntry.noConfusion (List.cons.inj stays).1

end Sys2Proof.Machine
end

section
/-!
SUPPORT. The steps of a lane's return into the vote.
-/

namespace Sys2Proof.Machine

open Sys2Proof

/-! ### A lane's place in its resync -/

theorem inStep_iff (s : State) (l : Lane) (n : Nat) :
    s.inStep l n = true ↔ (s.lanes.get l).core.st = .resync ∧ (s.lanes.get l).core.resync.step = n := by
  unfold State.inStep
  rw [Bool.and_eq_true, decide_eq_true_iff, decide_eq_true_iff, laneSt_eq, lane_eq]

theorem receiving_iff (s : State) (l : Lane) : s.receiving l = true ↔
    ((s.lanes.get l).core.st = .resync ∧ (s.lanes.get l).core.resync.step = 3) ∧ (s.lanes.get l).core.resync.copyRunning = true := by
  unfold State.receiving
  rw [Bool.and_eq_true, inStep_iff, lane_eq]

@[simp] theorem get_modResync_same (s : State) (l : Lane) (f : ResyncS → ResyncS) : ((s.modResync l f).lanes.get l).core =
    { (s.lanes.get l).core with resync := f (s.lanes.get l).core.resync } := by
  simp [State.modResync]

theorem modResync_core_ne (s : State) (l m : Lane) (f : ResyncS → ResyncS) (other : m ≠ l) :
    ((s.modResync l f).lanes.get m).core = (s.lanes.get m).core := by
  simp [State.modResync, State.modCore, get_modLane_ne, other]

/-- A resync that fails for good leaves the lane in the state it fails to. -/
@[simp] theorem failResync_st (s : State) (l : Lane) (st : LaneSt) : ((s.failResync l st).lanes.get l).core.st = st := by
  simp [State.failResync]

/-! ### Out of the vote -/

/-- What a bogie's mismatch leaves of the buffer stays while the lane leaves. -/
theorem leaveVote_buffer (s : State) (l : Lane) (cause sub : Nat) (cycles : s.mod.mode.cycles = true) (all : AllVoting s) :
    On (s.leaveVote l cause sub) fun t => (t.lanes.get l).core.mismatch = (s.lanes.get l).core.mismatch ∧
      (t.lanes.get l).core.cmpBuf = (s.lanes.get l).core.cmpBuf := by
  have idle (m : Lane) : s.receiving m = false := by simp [State.receiving, State.inStep, all m]
  have left : On (s.leave l cause sub) fun t => (t.lanes.get l).core.mismatch = (s.lanes.get l).core.mismatch ∧
      (t.lanes.get l).core.cmpBuf = (s.lanes.get l).core.cmpBuf := by
    unfold On State.leave
    rw [laneSt_eq, all l]
    simp [cycles, dropSender_core, idle]
  obtain ⟨mismatch, buffer⟩ := left
  unfold On
  rw [leaveVote_of_three s l cause sub cycles all]
  exact ⟨by simp [mismatch], by simp [buffer]⟩

/-- A bogie's mismatch takes a voting lane out of a vote of three (R353). -/
theorem bogieMismatchOp_of_all (l : Lane) (s : State) (operate : s.mod.mode = .operate) (votes : s.votingLanes = LaneSet.full) :
    On (bogieMismatchOp l s) fun t => t.laneSt l = .minority ∧ (t.lane l).core.cause = 1 ∧ (t.lane l).core.mismatch = true ∧
      (t.lane l).core.cmpBuf = [] := by
  have all := (allVoting_iff s).2 votes
  unfold On bogieMismatchOp
  rw [if_neg (by simp [operate, Mode.lanesRun, all l])]
  generalize emptied : s.modCore l (fun c => { c with mismatch := true, cmpBuf := [] }) = s1
  have own : (s1.lanes.get l).core.mismatch = true ∧ (s1.lanes.get l).core.cmpBuf = [] := by simp [← emptied]
  have cycles : s1.mod.mode.cycles = true := by simp [← emptied, operate, Mode.cycles]
  have all1 : AllVoting s1 := by
    intro m
    by_cases same : m = l
    · subst same
      simp [← emptied, all m]
    · simp [← emptied, State.modCore, get_modLane_ne, same, all m]
  obtain ⟨st, cause, -⟩ := leaveVote_of_all s1 l 1 0 cycles all1
  obtain ⟨mismatch, buffer⟩ := leaveVote_buffer s1 l 1 0 cycles all1
  exact ⟨st, cause, mismatch.trans own.1, buffer.trans own.2⟩

/-! ### Steps 1 and 2 -/

theorem resyncReloadOp_good (l : Lane) (again : Bool) (s : State) (step : s.inStep l 1 = true) (clock : (s.lane l).core.resync.waitClock = false) :
    On (resyncReloadOp l true again s) fun t =>
      (t.lane l).core.resync.step = (if (s.lane l).core.resync.needsTest then 2 else 3) ∧ t.laneSt l = .resync := by
  unfold On resyncReloadOp imageReloadOp
  dsimp only
  rw [if_pos step, if_neg (by simp only [step, clock]; exact Bool.false_ne_true), if_pos rfl]
  obtain ⟨st, -⟩ := (inStep_iff s l 1).1 step
  refine ⟨?_, by simp [st]⟩
  rw [lane_eq, lane_eq, get_modResync_same]
  dsimp only
  split <;> rfl

theorem resyncTestOp_ends (l : Lane) (passed : Bool) (s : State) (step : s.inStep l 2 = true) : On (resyncTestOp l passed s) fun t =>
    if passed then t.inStep l 3 = true ∧ (t.lane l).core.resync.armWait = 1 else t.laneSt l = .failed := by
  obtain ⟨st, -⟩ := (inStep_iff s l 2).1 step
  unfold On resyncTestOp
  rw [if_neg (by simp [step])]
  cases passed
  · simp
  · simp [inStep_iff, st, ResyncS.toCopy]

/-! ### The copy -/

theorem resyncArmedOp_arms (l m : Lane) (s : State) (cycles : s.mod.mode.cycles = true) (tick : s.acc.tick = 0) (step : s.inStep l 3 = true)
    (due : (s.lane l).core.resync.armWait = 0) (idle : (s.lane l).core.resync.copyRunning = false) (sender : LaneSet.first s.votingLanes = some m) :
    On (resyncArmedOp l s) fun t => t.receiving l = true ∧ (t.lane l).mmu.incoming = (s.lane m).mmu.essence ∧ (t.lane l).core.stored = 0 ∧
      (t.lane m).mmu.sentPages = [] := by
  obtain ⟨st, three⟩ := (inStep_iff s l 3).1 step
  rw [lane_eq] at due idle
  unfold On resyncArmedOp copyArmedOp
  dsimp only
  rw [if_pos step, if_pos (by simp [cycles, tick, step, due, idle])]
  simp only [sender]
  refine ⟨(receiving_iff _ l).2 (by simp [st, three]), by simp, by simp, ?_⟩
  by_cases same : m = l
  · subst same
    simp [MmuS.clearSent]
  · simp [State.modMmu, get_modLane_ne, same, MmuS.clearSent]

/-- A page that has not been sent is kept before it is overwritten (R358). -/
theorem copyBeforeWriteOp_saves (m : Lane) (page : Nat) (s : State)
    (copies : (Lane.all.any s.receiving = true ∧ LaneSet.first s.votingLanes = some m) ∨ (s.lane m).diag.keyframeBusy = true)
    (unsent : (s.lane m).mmu.sentPages.contains page = false) : On (copyBeforeWriteOp m page s) fun t =>
      (t.lane m).mmu.snapBuf.head? = some page ∧ (t.lane m).mmu.sentPages = insertNat page (s.lane m).mmu.sentPages ∧
      (t.lane m).mmu.bytes = (s.lane m).mmu.bytes := by
  have sends : ((Lane.all.any s.receiving && decide (LaneSet.first s.votingLanes = some m)) || (s.lane m).diag.keyframeBusy) = true := by
    obtain ⟨receives, first⟩ | busy := copies
    · rw [receives, decide_eq_true first]; rfl
    · rw [busy, Bool.or_true]
  unfold On copyBeforeWriteOp
  dsimp only
  rw [if_pos (by rw [sends, unsent]; rfl)]
  simp

/-- Equal page hashes make the copy the lane's essence (R359, R361). -/
theorem resyncCopyOp_equal (l : Lane) (h : BitVec 64) (s : State) (receives : s.receiving l = true)
    (equal : h = pageHash (s.lane l).mmu.receivedPages) : On (resyncCopyOp l h s) fun t => t.inStep l 4 = true ∧
      (t.lane l).mmu.bytes = ((s.lane l).mmu.withEssence (s.lane l).mmu.incoming).bytes ∧ (t.lane l).mmu.incoming = [] ∧
      (t.lane l).core.resync.pages = 4096 := by
  obtain ⟨⟨st, -⟩, -⟩ := (receiving_iff s l).1 receives
  unfold On resyncCopyOp copyCompleteOp
  rw [if_pos receives, if_neg (by simp [receives]), if_neg (not_not.2 equal)]
  extract_lets s1 s2 s3 s4
  have copied : (s4.lanes.get l).core = (s3.lanes.get l).core ∧ (s4.lanes.get l).mmu = (s3.lanes.get l).mmu := by simp [s4]
  generalize faster : (if (s4.lane l).pwr.level = 0 then s4 else s4.stepUp l) = t
  have core : (t.lanes.get l).core = (s3.lanes.get l).core := by rw [← faster]; split <;> simp [copied]
  have mmu : (t.lanes.get l).mmu = (s3.lanes.get l).mmu := by rw [← faster]; split <;> simp [copied]
  refine ⟨(inStep_iff t l 4).2 ?_, ?_, ?_, ?_⟩
  · rw [core]; simp [s3, s2, s1, st]
  · rw [lane_eq, mmu]; simp [s3, s2, s1, MmuS.withEssence, MmuS.clearSent]
  · rw [lane_eq, mmu]; simp [s3, s2]
  · rw [lane_eq, core]; simp [s3]

/-- A copy that fails before the ninth time is armed again at the second T₀ (R359, R361). -/
theorem copyFails_again (s : State) (l : Lane) (st : (s.lanes.get l).core.st = .resync) (few : (s.lanes.get l).core.resync.failedCopies < 8) :
    On (s.copyFails l) fun t => t.inStep l 3 = true ∧ t.receiving l = false ∧
      (t.lane l).core.resync.failedCopies = (s.lane l).core.resync.failedCopies + 1 ∧ (t.lane l).core.resync.armWait = 2 ∧
      (t.lane l).mmu.incoming = [] ∧ (t.lane l).mmu.bytes = (s.lane l).mmu.bytes := by
  unfold On State.copyFails
  extract_lets s1 s2 s3
  have core : (s3.lanes.get l).core.st = .resync ∧ (s3.lanes.get l).core.resync =
      { (s.lanes.get l).core.resync.toCopy 2 with failedCopies := (s.lanes.get l).core.resync.failedCopies + 1 } := by
    simp [s3, s2, s1, st]
  have mmu : (s3.lanes.get l).mmu.incoming = [] ∧ (s3.lanes.get l).mmu.bytes = (s.lanes.get l).mmu.bytes := by
    simp [s3, s2, s1]
  clear_value s3
  obtain ⟨st3, resync⟩ := core
  have notNinth : ¬ 9 ≤ (s3.lane l).core.resync.failedCopies := by
    rw [lane_eq, resync]
    exact Nat.not_le.2 (Nat.succ_lt_succ few)
  rw [if_neg notNinth]
  refine ⟨(inStep_iff s3 l 3).2 ⟨st3, by rw [resync]; rfl⟩, ?_, by rw [lane_eq, resync]; rfl, by rw [lane_eq, resync]; rfl, mmu.1, mmu.2⟩
  simp [State.receiving, resync, ResyncS.toCopy]

theorem resyncCopyOp_different (l : Lane) (h : BitVec 64) (s : State) (receives : s.receiving l = true)
    (different : h ≠ pageHash (s.lane l).mmu.receivedPages) : resyncCopyOp l h s = s.copyFails l := by
  unfold resyncCopyOp copyCompleteOp
  rw [if_pos receives, if_neg (by simp [receives]), if_pos different]

/-! ### Catch-up and probation -/

/-- A lane's catch-up ends when as many cycles have been run as it has stored. -/
theorem execCatchUpComplete_all (l : Lane) (s : State) (step : s.inStep l 4 = true) :
    exec (.catchUpComplete l (s.lane l).core.resync.behind) s = .next (resyncCatchUpOp l s) := by
  have stored : (s.lane l).core.resync.behind = s.cyclesStored l := (if_pos step).symm
  exact congrArg Host.Outcome.next (if_pos stored)

theorem execProbationComplete_all (l : Lane) (s : State) (step : s.inStep l 5 = true) :
    exec (.probationComplete l (s.lane l).core.resync.probation) s = .next (resyncProbationOp l s) := by
  have counted : (s.lane l).core.resync.probation = s.cyclesInStep l := (if_pos step).symm
  exact congrArg Host.Outcome.next (if_pos counted)

theorem resyncCatchUpOp_caught (l : Lane) (s : State) (step : s.inStep l 4 = true) (few : (s.lane l).core.resync.behind ≤ 3000) :
    On (resyncCatchUpOp l s) fun t => t.inStep l 5 = true ∧ (t.lane l).core.resync.caughtUp = (s.lane l).core.resync.behind ∧
      (t.lane l).core.resync.probation = 0 := by
  obtain ⟨st, -⟩ := (inStep_iff s l 4).1 step
  unfold On resyncCatchUpOp catchUpOp
  dsimp only
  rw [if_pos step, if_pos step, if_pos few]
  simp [inStep_iff, st]

theorem resyncCatchUpOp_many (l : Lane) (s : State) (step : s.inStep l 4 = true) (many : 3000 < (s.lane l).core.resync.behind) :
    (resyncCatchUpOp l s).laneSt l = .out := by
  unfold resyncCatchUpOp catchUpOp
  dsimp only
  rw [if_pos step, if_pos step, if_neg (Nat.not_le.2 many)]
  simp

theorem resyncCatchUpTimeoutOp_out (l : Lane) (s : State) (step : s.inStep l 4 = true) : (resyncCatchUpTimeoutOp l s).laneSt l = .out := by
  unfold resyncCatchUpTimeoutOp catchUpTimeoutOp
  rw [if_pos step, if_pos step]
  simp

theorem resyncProbationOp_ends (l : Lane) (s : State) (step : s.inStep l 5 = true) (three : 3 ≤ (s.lane l).core.resync.probation) :
    (resyncProbationOp l s).inStep l 6 = true := by
  obtain ⟨st, -⟩ := (inStep_iff s l 5).1 step
  rw [lane_eq] at three
  unfold resyncProbationOp probationOp
  rw [if_pos step, if_pos (by simp [step, three])]
  simp [inStep_iff, st]

/-- Neither a lane nor the tender ends its probation before three cycles in step (R361, R371). -/
theorem resyncProbationOp_early (l : Lane) (s : State) (lane : (s.lane l).core.resync.probation < 3) (tender : s.plink.probation < 3) :
    resyncProbationOp l s = s := by
  have early : ¬ 3 ≤ (s.lanes.get l).core.resync.probation := Nat.not_le.2 lane
  unfold resyncProbationOp probationOp
  split
  · exact if_neg (by simp [early])
  · exact if_neg (by simp [Nat.not_le.2 tender])

/-- One cycle of a lane's probation: in step it counts, and a difference leads back to the copy. -/
def probationCycle (same : Prop) [Decidable same] (r : ResyncS) : ResyncS :=
  if same then { r with probation := r.probation + 1 } else { r.toCopy 1 with probation := 0 }

/-- The lanes in a step of their resync. -/
def State.lanesAt (s : State) (n : Nat) : LaneSet := ⟨s.inStep .a n, s.inStep .b n, s.inStep .c n⟩

theorem get_lanesAt (s : State) (n : Nat) (l : Lane) : (s.lanesAt n).get l = s.inStep l n := by cases l <;> rfl

theorem laneProbation_eq (s : State) (agreed : BitVec 64) (wrong : PerLane (BitVec 64)) : s.laneProbation agreed wrong =
    s.forLanes (s.lanesAt 5) fun s l => s.modResync l (probationCycle (s.acc.outHash ^^^ wrong.get l = agreed)) := by
  have list : LaneSet.list (s.lanesAt 5) = Lane.all.filter fun l => s.inStep l 5 := congrArg (Lane.all.filter ·) (funext (get_lanesAt s 5))
  unfold State.forLanes
  rw [list]
  rfl

/-- The cycle of each lane in probation is judged by the lane's own hash (R361). -/
theorem laneProbation_core (s : State) (agreed : BitVec 64) (wrong : PerLane (BitVec 64)) (l : Lane) (step : s.inStep l 5 = true) :
    ((s.laneProbation agreed wrong).lanes.get l).core =
      { (s.lanes.get l).core with resync := probationCycle (s.acc.outHash ^^^ wrong.get l = agreed) (s.lanes.get l).core.resync } := by
  rw [laneProbation_eq]
  obtain ⟨t, before, after⟩ := forLanes_own (fun t => ((t.lanes.get l).core, t.acc.outHash)) l
    (fun s l => s.modResync l (probationCycle (s.acc.outHash ^^^ wrong.get l = agreed)))
    (fun t m other => by simp [modResync_core_ne _ _ _ _ (Ne.symm other)]) (s.lanesAt 5) ((get_lanesAt s 5 l).trans step) s
  obtain ⟨core, hash⟩ := Prod.mk.inj before
  have own := (Prod.mk.inj after).1
  rw [own, get_modResync_same, core, hash]

theorem laneProbation_judges (s : State) (agreed : BitVec 64) (wrong : PerLane (BitVec 64)) (l : Lane) (step : s.inStep l 5 = true) :
    ((s.laneProbation agreed wrong).lane l).core.resync.probation =
       (if s.acc.outHash ^^^ wrong.get l = agreed then (s.lane l).core.resync.probation + 1 else 0) ∧
     (s.laneProbation agreed wrong).inStep l (if s.acc.outHash ^^^ wrong.get l = agreed then 5 else 3) = true := by
  obtain ⟨st, five⟩ := (inStep_iff s l 5).1 step
  have core := laneProbation_core s agreed wrong l step
  rw [inStep_iff, lane_eq, lane_eq, core]
  unfold probationCycle
  split
  · exact ⟨rfl, st, five⟩
  · exact ⟨rfl, st, rfl⟩

/-! ### Out, and back from OUT -/

theorem resyncEndOp_out (l : Lane) (s : State) (cycles : s.mod.mode.cycles = true) (st : s.laneSt l = .resync)
    (counts : (s.lane l).core.resync.waiting = false) : (resyncEndOp l s).laneSt l = .out := by
  unfold resyncEndOp resyncTimeoutOp
  rw [if_pos st, if_pos (by rw [cycles, st, counts]; rfl)]
  simp

/-- A lane that left for POWER begins its resync once it is fast enough (R356, R357). -/
theorem powerRecoveryOp_begins (l : Lane) (s : State) (run : s.mod.mode.lanesRun = true) (out : s.laneSt l = .out)
    (cause : (s.lane l).core.cause = 8) (few : s.autoResyncs l < 3) (fast : s.required * 125 ≤ (s.lane l).speedAtLevel 0 * 100) :
    On (powerRecoveryOp l s) fun t => t.inStep l 1 = true ∧ (t.lane l).pwr.railFault = false ∧
      (t.lane l).core.autoTimes = s.rcd.opTime :: (s.lane l).core.autoTimes := by
  unfold On powerRecoveryOp
  rw [if_pos (by rw [run, out, cause, decide_eq_true few, decide_eq_true fast]; rfl)]
  simp [inStep_iff, State.beginResync]

/-- Settles O38: each step's operation under the clause's conditions, on the way that the lane takes and not the tender. -/
theorem laneReturnCommands : Obligations.LaneReturnCommands := by
  unfold Obligations.LaneReturnCommands
  refine ⟨?_, ?_, ?_, ?_, ?_, ?_, ?_, ?_, ?_, ?_, ?_, ?_, ?_, ?_, ?_, ?_⟩
  · intro l tmo s operate votes
    exact ⟨_, rfl, bogieMismatchOp_of_all l s operate votes⟩
  · intro l again s step clock
    exact ⟨_, rfl, resyncReloadOp_good l again s step clock⟩
  · intro l passed s step _
    exact ⟨_, rfl, resyncTestOp_ends l passed s step⟩
  · intro l m s cycles tick step due idle sender
    exact ⟨_, rfl, resyncArmedOp_arms l m s cycles tick step due idle sender⟩
  · intro m page s copies unsent
    exact ⟨_, rfl, copyBeforeWriteOp_saves m page.val s copies unsent⟩
  · intro l a b s receives equal
    exact ⟨_, rfl, resyncCopyOp_equal l (a ++ b) s receives equal⟩
  · intro l a b s receives different few
    obtain ⟨⟨st, -⟩, -⟩ := (receiving_iff s l).1 receives
    obtain ⟨step, -, failed, wait, -, bytes⟩ := copyFails_again s l st few
    refine ⟨_, rfl, ?_⟩
    rw [resyncCopyOp_different l (a ++ b) s receives different]
    exact ⟨step, wait, bytes, failed⟩
  · intro l s receives few
    obtain ⟨⟨st, -⟩, -⟩ := (receiving_iff s l).1 receives
    obtain ⟨step, idle, failed, wait, incoming, -⟩ := copyFails_again s l st few
    have fails : resyncCopyFailedOp l s = s.copyFails l := if_pos receives
    refine ⟨_, rfl, ?_⟩
    rw [fails]
    exact ⟨step, idle, failed, wait, incoming⟩
  · intro l n s step behind few
    subst behind
    obtain ⟨five, caughtUp, probation⟩ := resyncCatchUpOp_caught l s step few
    refine ⟨_, execCatchUpComplete_all l s step, five, caughtUp, probation⟩
  · intro l n s step behind many
    subst behind
    exact ⟨_, execCatchUpComplete_all l s step, resyncCatchUpOp_many l s step many⟩
  · intro l s step
    exact ⟨_, rfl, resyncCatchUpTimeoutOp_out l s step⟩
  · intro l n s step counted three
    subst counted
    exact ⟨_, execProbationComplete_all l s step, resyncProbationOp_ends l s step three⟩
  · intro l n s lane tender
    refine congrArg Host.Outcome.next ?_
    split
    · exact resyncProbationOp_early l s lane tender
    · rfl
  · intro agreed wrong l s step
    exact laneProbation_judges s agreed wrong l step
  · intro l s cycles st counts
    exact ⟨_, rfl, resyncEndOp_out l s cycles st counts⟩
  · intro l s run out cause few fast
    exact ⟨_, rfl, powerRecoveryOp_begins l s run out cause few fast⟩

end Sys2Proof.Machine
end

section
/-!
SUPPORT. The executive's steps on the tasks of the logic sheets.
-/

namespace Sys2Proof.Machine

open Sys2Proof

/-! ### Tasks -/

@[simp] theorem taskSt_modTask (s : State) (t : Nat) (f : TaskSt → TaskSt) : (s.modTask t f).taskSt t = f (s.taskSt t) := by
  unfold State.modTask State.taskSt Tab.getD
  dsimp only
  rw [Tab.get_put_eq, Option.getD_some]

theorem taskSt_of_sheets {t u : State} (same : t.sheets = u.sheets) (k : Nat) : t.taskSt k = u.taskSt k := by
  unfold State.taskSt
  rw [same]

/-- A task that is not ready adds nothing to the ready ones. -/
theorem readyTasks_modTask (s : State) (t : Nat) (f : TaskSt → TaskSt) (empty : s.readyTasks = []) (idle : (f (s.taskSt t)).ready = false) :
    (s.modTask t f).readyTasks = [] := by
  have before : s.sheets.tasks.all (fun p => !(p.2.ready && !p.2.running)) = true :=
    List.all_eq_true.2 fun p mem =>
      (Bool.not_eq_true' _).mpr (eq_false_of_ne_true (List.filter_eq_nil_iff.1 (List.map_eq_nil_iff.1 empty) p mem))
  have after := Tab.all_put s.sheets.tasks t (f (s.taskSt t)) (fun p => !(p.2.ready && !p.2.running)) before (by simp [idle])
  exact List.map_eq_nil_iff.2 (List.filter_eq_nil_iff.2 fun p mem =>
    ne_true_of_eq_false ((Bool.not_eq_true' _).mp (List.all_eq_true.1 after p mem)))

/-- With nothing that runs, is ready or was pre-empted, the executive chooses nothing. -/
theorem choose_nothing (s : State) (idle : s.sheets.current = none) (ready : s.readyTasks = []) (preempted : s.sheets.preempted = []) :
    s.choose = s := by
  unfold State.choose
  simp [idle, ready, preempted, State.top]

theorem choose_event (s : State) (k : Nat) (current : s.sheets.current = some k) (event : s.isEvent k = true) : s.choose = s := by
  unfold State.choose
  simp [current, event]

theorem runOn_idle (s : State) (idle : s.sheets.current = none) : s.runOn = s := by
  unfold State.runOn
  simp [idle]

/-! ### Releases and events -/

theorem taskReleaseOp_releases (k : Nat) (d : TaskDef) (s : State) (operate : s.mod.mode = .operate) (tick : s.acc.tick = 3)
    (task : Tab.get? s.image.tasks k = some d) (kind : d.kind = 1) (period : d.period ≠ 0) (due : s.mod.cycle.toNat % d.period = d.phase)
    (ready : (s.taskSt k).ready = false) (running : (s.taskSt k).running = false) : On (taskReleaseOp k s) fun t =>
      (t.taskSt k).ready = true ∧ (t.taskSt k).release = 10 * s.mod.cycle.toNat + 3 := by
  unfold On taskReleaseOp
  simp only [task]
  rw [if_pos (by simp [operate, tick, kind, period, due]), if_neg (by simp [ready, running])]
  generalize made : s.modTask k (fun x => { x with ready := true, release := 10 * s.mod.cycle.toNat + 3 }) = s1
  have released : s1.taskSt k = { s.taskSt k with ready := true, release := 10 * s.mod.cycle.toNat + 3 } := by rw [← made, taskSt_modTask]
  have stays (t : State) (same : t.taskSt k = s1.taskSt k) : (t.taskSt k).ready = true ∧ (t.taskSt k).release = 10 * s.mod.cycle.toNat + 3 := by
    rw [same, released]
    exact ⟨rfl, rfl⟩
  split
  · split
    · exact stays _ rfl
    · exact stays _ rfl
  · exact stays _ rfl

/-- A task that is released while it is ready or runs is only recorded (R176). -/
theorem taskReleaseOp_overrun (k : Nat) (d : TaskDef) (s : State) (operate : s.mod.mode = .operate) (tick : s.acc.tick = 3)
    (task : Tab.get? s.image.tasks k = some d) (kind : d.kind = 1) (period : d.period ≠ 0) (due : s.mod.cycle.toNat % d.period = d.phase)
    (busy : (s.taskSt k).ready = true ∨ (s.taskSt k).running = true) : (taskReleaseOp k s).sheets = s.sheets := by
  unfold taskReleaseOp
  simp only [task]
  rw [if_pos (by simp [operate, tick, kind, period, due]), if_pos (by simpa using busy)]
  simp

/-- A raised event of an idle task that has not started in this cycle makes it ready (R174). -/
theorem eventLatchOp_latches (k : Nat) (d : TaskDef) (s : State) (operate : s.mod.mode = .operate) (tick : s.acc.tick ≠ 3)
    (tasks : s.image.tasks = [(k, d)]) (kind : d.kind = 2) (raised : s.sheets.raised.contains (k - 16) = true)
    (ready : (s.taskSt k).ready = false) (running : (s.taskSt k).running = false) (fresh : (s.taskSt k).startedIn ≠ some s.mod.cycle.toNat) :
    On (eventLatchOp s) fun t => (t.taskSt k).ready = true ∧ (t.taskSt k).release = 10 * s.mod.cycle.toNat + s.acc.tick ∧ t.sheets.raised = [] := by
  unfold On eventLatchOp
  rw [if_pos (by simp [operate, tick])]
  extract_lets evs at3 waiting s1 changed due s2
  have one : evs = [(k, d)] := by simp [evs, tasks, kind]
  have first : s1 = s := by simp [s1, waiting, at3, tick, State.each]
  have latched : s2 = s.latchEvent k := by simp only [s2, due, one, first, State.each, List.filter_cons, raised]; rfl
  have state : s2.taskSt k = { s.taskSt k with ready := true, release := 10 * s.mod.cycle.toNat + s.acc.tick } := by
    rw [latched]
    unfold State.latchEvent
    dsimp only
    rw [if_neg (by simp [ready, running, fresh])]
    exact taskSt_modTask s k _
  clear_value s2
  have stays (t : State) (same : t.taskSt k = s2.taskSt k) : (t.taskSt k).ready = true ∧ (t.taskSt k).release = 10 * s.mod.cycle.toNat + s.acc.tick := by
    rw [same, state]
    exact ⟨rfl, rfl⟩
  obtain ⟨made, release⟩ := stays { s2 with sheets := { s2.sheets with raised := [], evPrev := _ } } rfl
  exact ⟨made, release, rfl⟩

/-! ### Dispatch points and the ends of runs -/

/-- What the executive counts of a dispatch point or a run's end leaves the sheets alone. -/
theorem countRun_sheets (before after : State) (ended : Option Nat) : (before.countRun after ended).sheets = after.sheets := by
  simp [State.countRun]

theorem dispatchPointOp_idle (s : State) (run : s.tasksRun = true) (left : s.sheets.point < 20) (idle : s.sheets.current = none)
    (ready : s.readyTasks = []) (preempted : s.sheets.preempted = []) :
    (dispatchPointOp s).sheets = { s.sheets with point := s.sheets.point + 1 } := by
  have going : s.runEnds = false := by simp [State.runEnds, idle]
  unfold dispatchPointOp dispatchOp
  rw [countRun_sheets, if_pos (by simp [run, left, going])]
  dsimp only
  rw [choose_nothing s idle ready preempted]
  exact congrArg State.sheets (runOn_idle { s with sheets := { s.sheets with point := s.sheets.point + 1 } } idle)

/-- The count of dispatch points is no input of a block. -/
theorem evalBlock_point (s : State) (p task i : Nat) (d : BlockDef) :
    ({ s with sheets := { s.sheets with point := p } } : State).evalBlock task i d = s.evalBlock task i d := rfl

theorem runBlock_sheets (s : State) (task i : Nat) (d : BlockDef) : On (s.runBlock task i d) fun t =>
    Tab.get? t.sheets.blocks i = some (s.evalBlock task i d).st ∧ (t.taskSt task).next = (s.taskSt task).next + 1 ∧
    t.sheets.charged = s.sheets.charged + blockCharge d.type d.inputs.length ∧ t.sheets.point = s.sheets.point := by
  unfold On State.runBlock
  dsimp only
  refine ⟨Tab.get_put_eq _ _ _, ?_, rfl, rfl⟩
  rw [taskSt_modTask]
  rfl

theorem dispatchPointOp_evaluates (k i : Nat) (d : BlockDef) (s : State) (run : s.tasksRun = true) (left : s.sheets.point < 20)
    (current : s.sheets.current = some k) (event : s.isEvent k = true) (last : (s.image.taskBlocks k).drop (s.taskSt k).next = [(i, d)])
    (early : s.sheets.charged < 2000 * (s.sheets.point + 1))
    (fits : s.sheets.charged + blockCharge d.type d.inputs.length ≤ tickBudget s.acc.tick) : On (dispatchPointOp s) fun t =>
      Tab.get? t.sheets.blocks i = some (s.evalBlock k i d).st ∧ (t.taskSt k).next = (s.taskSt k).next + 1 ∧
      t.sheets.charged = s.sheets.charged + blockCharge d.type d.inputs.length ∧ t.sheets.point = s.sheets.point + 1 := by
  have before : (s.taskSt k).next ≠ (s.image.taskBlocks k).length := by
    intro all
    rw [all, List.drop_length] at last
    cases last
  have going : s.runEnds = false := by simp [State.runEnds, current, before]
  let s1 : State := { s with sheets := { s.sheets with point := s.sheets.point + 1 } }
  have runs : s1.runOn = s1.runBlock k i d := by
    have running : s1.sheets.current = some k := current
    have blocks : (s1.image.taskBlocks k).drop (s1.taskSt k).next = [(i, d)] := last
    unfold State.runOn
    simp only [running, blocks]
    unfold evalFrom
    exact if_pos (by simp [s1, early, fits])
  have same : (dispatchPointOp s).sheets = (s1.runBlock k i d).sheets := by
    unfold dispatchPointOp dispatchOp
    rw [countRun_sheets, if_pos (by simp [run, left, going])]
    dsimp only
    rw [choose_event s k current event, ← runs]
  obtain ⟨block, next, charged, point⟩ := runBlock_sheets s1 k i d
  unfold On
  dsimp only
  rw [taskSt_of_sheets same, same]
  exact ⟨block, next, charged, point⟩

/-- The outputs of a run as the run's end publishes them (R166). -/
def Image.publish (img : Image) (done : Tab Nat) (outs : List (Nat × Nat)) : Tab Nat :=
  outs.foldl (fun o p => (Tab.get? img.blocks p.1).elim o fun b => putPlace o b.param p.2) done

/-- The end of a run with nothing else to run: the sheets are left with its buffers published and the task idle. -/
theorem runEndOp_ends (k : Nat) (s : State) (run : s.tasksRun = true) (current : s.sheets.current = some k)
    (running : (s.taskSt k).running = true) (notReady : (s.taskSt k).ready = false) (all : (s.taskSt k).next = (s.image.taskBlocks k).length)
    (early : s.sheets.charged < 2000 * s.sheets.point) (fits : s.sheets.charged + 40 ≤ tickBudget s.acc.tick)
    (ready : s.readyTasks = []) (preempted : s.sheets.preempted = []) : On (runEndOp k s) fun t =>
      t.sheets.current = none ∧ t.sheets.charged = s.sheets.charged + 40 ∧ (t.taskSt k).running = false ∧ (t.taskSt k).ran = true ∧
      t.sheets.outDone = s.image.publish s.sheets.outDone (s.taskSt k).buf.outs := by
  have ends : s.runEnds = true := by simp [State.runEnds, run, current, running, all, early, fits]
  have op : ∃ y : SheetS,
      runCompleteOp k s = (({ s with sheets := y } : State).modTask k fun x =>
        { x with running := false, ran := true, next := 0, buf := .empty }).choose.runOn ∧
      y.current = none ∧ y.charged = s.sheets.charged + 40 ∧ y.preempted = s.sheets.preempted ∧ y.tasks = s.sheets.tasks ∧
      y.outDone = s.image.publish s.sheets.outDone (s.taskSt k).buf.outs := by
    unfold runCompleteOp
    dsimp only
    rw [if_pos (by simp [ends, current])]
    refine ⟨_, rfl, rfl, rfl, rfl, rfl, ?_⟩
    unfold Image.publish
    dsimp only
    congr 1
    funext o p
    cases Tab.get? s.image.blocks p.1 <;> rfl
  obtain ⟨y, eq, idle, charged, kept, tasks, outs⟩ := op
  have task : ({ s with sheets := y } : State).taskSt k = s.taskSt k := by
    unfold State.taskSt
    rw [tasks]
  generalize made : ({ s with sheets := y } : State).modTask k (fun x => { x with running := false, ran := true, next := 0, buf := .empty }) = u at eq
  have ended : u.taskSt k = { s.taskSt k with running := false, ran := true, next := 0, buf := .empty } := by rw [← made, taskSt_modTask, task]
  have idleU : u.sheets.current = none := by rw [← made]; exact idle
  have readyU : u.readyTasks = [] := by
    rw [← made]
    refine readyTasks_modTask _ k _ ?_ (by rw [task]; exact notReady)
    unfold State.readyTasks at ready ⊢
    rw [tasks]
    exact ready
  have preemptedU : u.sheets.preempted = [] := by rw [← made]; exact kept.trans preempted
  have chargedU : u.sheets.charged = s.sheets.charged + 40 := by rw [← made]; exact charged
  have outsU : u.sheets.outDone = s.image.publish s.sheets.outDone (s.taskSt k).buf.outs := by rw [← made]; exact outs
  have same : (runEndOp k s).sheets = u.sheets := by
    unfold runEndOp
    rw [countRun_sheets, eq, choose_nothing u idleU readyU preemptedU, runOn_idle u idleU]
  unfold On
  dsimp only
  rw [taskSt_of_sheets same, same, ended]
  exact ⟨idleU, chargedU, rfl, rfl, outsU⟩

/-! ### Retained states -/

theorem retainedWriteOp_writes (s : State) (operate : s.mod.mode = .operate) (dirty : s.sheets.retainDirty = true)
    (due : s.sheets.retainSince = 0 ∨ s.sheets.retainSince + 10000 ≤ s.rcd.opTime) : retainedWriteOp s =
      { s with sheets := { s.sheets with retained := s.retainedNow, retainDirty := false, retainSince := s.rcd.opTime } } := by
  unfold retainedWriteOp
  exact if_pos (by simpa [operate, dirty] using due)

/-- Settles O39: each step of the executive under the clause's conditions; what the lanes count of it leaves the sheets alone. -/
theorem sheetCommands : Obligations.SheetCommands := by
  unfold Obligations.SheetCommands
  refine ⟨?_, ?_, ?_, ?_, ?_, ?_, ?_⟩
  · intro k d s operate tick task kind period due ready running
    exact ⟨_, rfl, taskReleaseOp_releases k.val d s operate tick task kind period due ready running⟩
  · intro k d s operate tick task kind period due busy
    exact ⟨_, rfl, taskReleaseOp_overrun k.val d s operate tick task kind period due busy⟩
  · intro s run left idle ready preempted
    exact ⟨_, rfl, dispatchPointOp_idle s run left idle ready preempted⟩
  · intro k i d s run left current event last early fits
    exact ⟨_, rfl, dispatchPointOp_evaluates k i d s run left current event last early fits⟩
  · intro k s run current running notReady all early fits ready preempted
    exact ⟨_, rfl, runEndOp_ends k.val s run current running notReady all early fits ready preempted⟩
  · intro k d s operate tick tasks kind raised ready running fresh
    exact ⟨_, rfl, eventLatchOp_latches k d s operate tick tasks kind raised ready running fresh⟩
  · intro s operate dirty due
    exact congrArg Host.Outcome.next (retainedWriteOp_writes s operate dirty due)

end Sys2Proof.Machine
end


section
/-!
SUPPORT. A cancelled route that loses a proving condition in the same step: a boundary whose data is UNPROVEN holds a zone ACTIVE that the
resolved state still has INACTIVE, so the route returns to LOCKED before its cancellation is judged (R68, R96, R100, R102).
-/

namespace Sys2Proof.Machine

open Sys2Proof

/-- An element without source, sink, lists or areas, tied to a zone or to none. -/
def tiedElem (k : Kind) (zone : Option Nat) : ElemDef :=
  ⟨k, 0, 0, false, .nowhere, 0, 0, .nowhere, 0, 0, 10, none, none, none, zone, []⟩

/-- A route over section 1 from signal 3, its approach locking permanent. -/
def zonedRoute : RouteDef :=
  { permanent := true, acMode := 0, exitAtBb := false, entry := 3, exit := 9, overlap := none, path := [⟨1, 1, false, 0⟩], ovList := [],
    flank := [], row := 0, appr := [], apprTs := none, tApprCtrl := 5, tApprLock := 20, tStore := 30, tEmerg := 40, saOwner := none }

/-- OPERATE with three voting lanes; section 1 lies in zone 6, which is tied to boundary 8. The route is CLEARED and signalled, its section
CLEAR, the zone INACTIVE, and the boundary's data UNPROVEN. -/
def zonedState : State :=
  { State.reset with
    mod := { ModS.reset with mode := .operate, cycle := 5 }
    lanes := PerLane.pure { LaneS.reset with core := { CoreS.reset with st := .voting } }
    img := { ImgS.reset with running := some { Image.empty with
      elems := [(1, tiedElem .ts (some 6)), (3, tiedElem .sg none), (6, tiedElem .ez none), (8, tiedElem .bb (some 6))]
      routes := [(0, zonedRoute)] } }
    ixl := { IxlS.reset with resolved := { Verdict.empty with
      elems := [(1, { ElemSt.zero with state := 2 }), (6, { ElemSt.zero with state := 1 }), (8, { ElemSt.zero with unproven := true })]
      routes := [(0, { RouteSt.zero with st := .cleared, signalled := true })] } } }

/-- A command of source 5 on queue 0 without a MAC. -/
def zonedHdr : CmdHdr := ⟨5, 0, 9, 77, 1000, false⟩

/-- The boundary makes the zone ACTIVE, which takes from the route a proving condition that the resolved state gave it. -/
theorem zonedState_loses_proof : (zonedState.form false).proved 0 zonedRoute = true ∧ zonedState.standing.proved 0 zonedRoute = false := by
  decide +kernel

/-- The route falls back to LOCKED in the step of its cancellation, which is then refused. -/
theorem zonedState_cancel : ((stationOp zonedHdr 0x0102 0 0 0 0 zonedState).ixl.resolved.route 0).st = .locked := by
  decide +kernel

/-- Refutes O33: its clause on the cancellation of a locked route holds for every state; where a boundary of the state makes a zone ACTIVE
only in this step, a CLEARED route returns to LOCKED, has thereby made its one transition, and its cancellation is refused. -/
theorem not_routeCommands : ¬ Obligations.RouteCommands := by
  unfold Obligations.RouteCommands
  intro h
  obtain ⟨-, -, cancelLocked, -⟩ := h
  obtain ⟨t, runs, apprLocked, -⟩ := cancelLocked zonedHdr 0 zonedRoute zonedState (by decide +kernel) rfl rfl (.inr (.inr rfl))
    (by decide +kernel) (by decide)
  have result : t = stationOp zonedHdr 0x0102 0 0 0 0 zonedState := (Host.Outcome.next.inj runs).symm
  rw [result] at apprLocked
  exact absurd (zonedState_cancel.symm.trans apprLocked) (by decide)

end Sys2Proof.Machine
end

section
/-!
SUPPORT. Tables read after a map, a filter or an erasure.
-/

namespace Sys2Proof

variable {α β : Type}

theorem Tab.get_mapV (t : Tab α) (f : Nat → α → β) (k : Nat) : Tab.get? (Tab.mapV t f) k = (Tab.get? t k).map (f k) := by
  induction t with
  | nil => rfl
  | cons p r ih =>
    unfold Tab.mapV at ih ⊢
    simp only [List.map_cons, Tab.get?, ih]
    split
    · rename_i here; rw [here]; rfl
    · split <;> rfl

theorem Tab.wf_mapV (t : Tab α) (f : Nat → α → β) : Tab.wf (Tab.mapV t f) = Tab.wf t := by
  induction t with
  | nil => rfl
  | cons p r ih =>
    unfold Tab.mapV at ih ⊢
    simp only [List.map_cons, Tab.wf, ih, List.all_map]
    rfl

@[simp] theorem Tab.getD_put_eq (t : Tab α) (k : Nat) (v d : α) : Tab.getD (Tab.put t k v) k d = v := by
  rw [Tab.getD, Tab.get_put_eq, Option.getD_some]

theorem Tab.getD_put_ne (t : Tab α) (k j : Nat) (v d : α) (ne : j ≠ k) (wf : Tab.wf t = true) :
    Tab.getD (Tab.put t k v) j d = Tab.getD t j d := by
  rw [Tab.getD, Tab.get_put_ne t k j v ne wf, Tab.getD]

theorem Tab.mem_of_get {t : Tab α} {k : Nat} {v : α} (h : Tab.get? t k = some v) : (k, v) ∈ t := by
  induction t with
  | nil => exact absurd h (by simp [Tab.get?])
  | cons p r ih =>
    simp only [Tab.get?] at h
    split at h
    · rename_i here
      rw [here, ← Option.some.inj h]
      exact List.mem_cons_self
    · split at h
      · exact absurd h (by simp)
      · exact List.mem_cons_of_mem _ (ih h)

/-- Where every key is above it, a table lists nothing at a key. -/
theorem Tab.get_of_above (t : Tab α) (k : Nat) (above : t.all (fun p => k < p.1) = true) : Tab.get? t k = none := by
  cases t with
  | nil => rfl
  | cons p r =>
    simp only [List.all_cons, Bool.and_eq_true, decide_eq_true_eq] at above
    simp only [Tab.get?]
    rw [if_neg (by omega), if_pos above.1]

theorem Tab.all_filter (t : Tab α) (p q : Nat × α → Bool) (h : t.all q = true) : (t.filter p).all q = true := by
  rw [List.all_eq_true] at h ⊢
  exact fun x hx => h x (List.mem_of_mem_filter hx)

theorem Tab.get_filter (t : Tab α) (p : Nat × α → Bool) (k : Nat) (wf : Tab.wf t = true) :
    Tab.get? (t.filter p) k = (Tab.get? t k).filter fun v => p (k, v) := by
  induction t with
  | nil => rfl
  | cons q r ih =>
    obtain ⟨k', v'⟩ := q
    simp only [Tab.wf, Bool.and_eq_true] at wf
    obtain ⟨above, wfr⟩ := wf
    rcases Nat.lt_trichotomy k k' with low | here | high
    · have rest : Tab.get? (r.filter p) k = none := by
        refine Tab.get_of_above _ _ (Tab.all_filter r p _ ?_)
        rw [List.all_eq_true] at above ⊢
        exact fun x hx => decide_eq_true (low.trans (of_decide_eq_true (above x hx)))
      rw [List.filter_cons]
      cases p (k', v') <;> simp [Tab.get?, low, Nat.ne_of_lt low, rest]
    · subst here
      rw [List.filter_cons]
      cases keep : p (k, v') <;> simp [Tab.get?, keep, Option.filter, Tab.get_of_above _ _ (Tab.all_filter r p _ above)]
    · rw [List.filter_cons]
      cases p (k', v') <;> simp [Tab.get?, Nat.ne_of_gt high, Nat.lt_asymm high, ih wfr]

theorem Tab.get_erase_eq (t : Tab α) (k : Nat) (wf : Tab.wf t = true) : Tab.get? (Tab.erase t k) k = none := by
  induction t with
  | nil => rfl
  | cons q r ih =>
    simp only [Tab.wf, Bool.and_eq_true] at wf
    obtain ⟨above, wfr⟩ := wf
    simp only [Tab.erase]
    split
    · rename_i here
      rw [here]
      exact Tab.get_of_above _ _ above
    · split
      · rename_i ne low
        simp [Tab.get?, ne, low]
      · rename_i ne high
        simp [Tab.get?, ne, high, ih wfr]

end Sys2Proof
end

section
/-!
SUPPORT. The steps of an evaluation form that every timer and every command that stands alone share: what the zones of boundaries, the commands
of R67 step 7 and the trimming of routes leave of the form, of an element and of a route.
-/

namespace Sys2Proof.Machine

open Sys2Proof

/-! ### Access to a form -/

@[simp] theorem modElem_elem_same (e : Ev) (o : Nat) (f : ElemSt → ElemSt) : (e.modElem o f).elem o = f (e.elem o) :=
  Tab.getD_put_eq ..

theorem modElem_elem_ne (e : Ev) (o p : Nat) (f : ElemSt → ElemSt) (ne : p ≠ o) (wf : Tab.wf e.v.elems = true) :
    (e.modElem o f).elem p = e.elem p := Tab.getD_put_ne _ _ _ _ _ ne wf

theorem modElem_wf (e : Ev) (o : Nat) (f : ElemSt → ElemSt) (wf : Tab.wf e.v.elems = true) : Tab.wf (e.modElem o f).v.elems = true :=
  Tab.put_wf _ _ _ wf

@[simp] theorem modRoute_route_same (e : Ev) (r : Nat) (f : RouteSt → RouteSt) : (e.modRoute r f).route r = f (e.route r) :=
  Tab.getD_put_eq ..

theorem modRoute_route_ne (e : Ev) (r q : Nat) (f : RouteSt → RouteSt) (ne : q ≠ r) (wf : Tab.wf e.v.routes = true) :
    (e.modRoute r f).route q = e.route q := Tab.getD_put_ne _ _ _ _ _ ne wf

theorem modRoute_wf (e : Ev) (r : Nat) (f : RouteSt → RouteSt) (wf : Tab.wf e.v.routes = true) :
    Tab.wf (e.modRoute r f).v.routes = true := Tab.put_wf _ _ _ wf

@[simp] theorem modUse_useOf_same (e : Ev) (r : Nat) (f : RouteUse → RouteUse) : (e.modUse r f).useOf r = f (e.useOf r) :=
  Tab.getD_put_eq ..

/-- The form with other elements. -/
def Ev.withElems (e : Ev) (t : Tab ElemSt) : Ev := { e with v := { e.v with elems := t } }

/-- The form with other routes. -/
def Ev.withRoutes (e : Ev) (t : Tab RouteSt) : Ev := { e with v := { e.v with routes := t } }

/-! ### The zones of boundaries (R100, R109) -/

theorem boundaryZones_eq (e : Ev) : e.boundaryZones = e.withElems e.boundaryZones.v.elems := by
  unfold Ev.boundaryZones Ev.each
  refine List.foldlRecOn (motive := fun t : Ev => t = e.withElems t.v.elems) _ _ rfl ?_
  intro t same p _
  split
  · rw [same]; rfl
  · exact same

/-- A boundary's zone takes at most an element's state to 0. -/
theorem boundaryZones_elem (e : Ev) (o : Nat) (wf : Tab.wf e.v.elems = true) :
    e.boundaryZones.elem o = e.elem o ∨ e.boundaryZones.elem o = { e.elem o with state := 0 } := by
  unfold Ev.boundaryZones Ev.each
  refine (List.foldlRecOn (motive := fun t : Ev => Tab.wf t.v.elems = true ∧ (t.elem o = e.elem o ∨ t.elem o = { e.elem o with state := 0 }))
    _ _ ⟨wf, .inl rfl⟩ ?_).2
  rintro t ⟨wft, same⟩ p -
  dsimp only
  split
  · refine ⟨modElem_wf t _ _ wft, ?_⟩
    by_cases here : o = p.1
    · rw [← here, modElem_elem_same]
      rcases same with same | same <;> rw [same] <;> exact .inr rfl
    · rw [modElem_elem_ne t _ _ _ here wft]
      exact same
  · exact ⟨wft, same⟩

/-- An element to which no boundary is tied is left as it is. -/
theorem boundaryZones_untied (e : Ev) (o : Nat) (wf : Tab.wf e.v.elems = true) (untied : ∀ p ∈ e.img.elems, p.2.ez ≠ some o) :
    e.boundaryZones.elem o = e.elem o := by
  unfold Ev.boundaryZones Ev.each
  refine (List.foldlRecOn (motive := fun t : Ev => t.img = e.img ∧ Tab.wf t.v.elems = true ∧ t.elem o = e.elem o) _ _ ⟨rfl, wf, rfl⟩ ?_).2.2
  rintro t ⟨img, wft, same⟩ p -
  split
  · rename_i held
    refine ⟨img, modElem_wf t _ _ wft, ?_⟩
    have ne : o ≠ p.1 := by
      intro here
      unfold Ev.heldByBoundary at held
      rw [← here, img, List.any_eq_true] at held
      obtain ⟨q, mem, tied⟩ := held
      simp only [Bool.and_eq_true, decide_eq_true_eq] at tied
      exact untied q mem tied.1.2
    rw [modElem_elem_ne t _ _ _ ne wft]
    exact same
  · exact ⟨img, wft, same⟩

theorem boundaryZones_withReqs (e : Ev) (q : ReqList) : ({ e with reqs := q } : Ev).boundaryZones = { e.boundaryZones with reqs := q } := by
  unfold Ev.boundaryZones Ev.each
  dsimp only
  generalize (e.img.elems.filter fun p => p.2.kind = .ez) = l
  induction l generalizing e with
  | nil => rfl
  | cons p l ih =>
    rw [List.foldl_cons, List.foldl_cons, ← ih]
    congr 1
    have held : ({ e with reqs := q } : Ev).heldByBoundary p.1 = e.heldByBoundary p.1 := rfl
    rw [held]
    split <;> rfl

/-! ### Approach locking shown and commands given (R67 step 7) -/

theorem signal_eq (e : Ev) (r : Nat) : e.signal r = e.withRoutes (e.signal r).v.routes := by
  unfold Ev.signal
  split <;> rfl

theorem signal_st (e : Ev) (r q : Nat) (wf : Tab.wf e.v.routes = true) : ((e.signal r).route q).st = (e.route q).st := by
  unfold Ev.signal
  split
  · rfl
  · by_cases here : q = r
    · rw [here, modRoute_route_same, modRoute_route_same]
    · rw [modRoute_route_ne _ _ _ _ here (modRoute_wf e _ _ wf), modRoute_route_ne _ _ _ _ here wf]

theorem signal_wf (e : Ev) (r : Nat) (wf : Tab.wf e.v.routes = true) : Tab.wf (e.signal r).v.routes = true := by
  unfold Ev.signal
  split
  · exact wf
  · exact modRoute_wf _ _ _ (modRoute_wf _ _ _ wf)

/-- The elements as step 7 leaves them. -/
def Ev.finished (e : Ev) : Ev := e.withElems (Tab.mapV e.img.elems fun o d => e.finish o d)

theorem commands_finished (e : Ev) : e.commands = e.finished.withRoutes e.commands.v.routes := by
  unfold Ev.commands Ev.each
  dsimp only
  refine List.foldlRecOn (motive := fun t : Ev => t = e.finished.withRoutes t.v.routes) _ _ rfl ?_
  intro t same r _
  rw [signal_eq t r, same]
  rfl

theorem commands_elem (e : Ev) (o : Nat) (d : ElemDef) (here : e.elemDef? o = some d) : e.commands.elem o = e.finish o d := by
  have mapped : e.finished.elem o = e.finish o d := by
    unfold Ev.elemDef? at here
    show Tab.getD (Tab.mapV e.img.elems fun o d => e.finish o d) o .zero = _
    rw [Tab.getD, Tab.get_mapV, here]
    rfl
  rw [commands_finished]
  exact mapped

theorem commands_st (e : Ev) (r : Nat) (wf : Tab.wf e.v.routes = true) :
    Tab.wf e.commands.v.routes = true ∧ (e.commands.route r).st = (e.route r).st := by
  unfold Ev.commands Ev.each
  dsimp only
  refine List.foldlRecOn (motive := fun t : Ev => Tab.wf t.v.routes = true ∧ (t.route r).st = (e.route r).st) _ _ ⟨wf, rfl⟩ ?_
  rintro t ⟨wft, same⟩ q -
  exact ⟨signal_wf t q wft, (signal_st t q r wft).trans same⟩

/-! ### Routes without an entry (R137) -/

theorem trim_route (e : Ev) (r : Nat) (wf : Tab.wf e.v.routes = true) : e.trim.route r = e.route r := by
  show Tab.getD (e.v.routes.filter fun p => p.2 ≠ RouteSt.zero) r .zero = Tab.getD e.v.routes r .zero
  rw [Tab.getD, Tab.get_filter _ _ _ wf, Tab.getD]
  cases Tab.get? e.v.routes r with
  | none => rfl
  | some x => by_cases idle : x = RouteSt.zero <;> simp [Option.filter, idle]

/-! ### A timer's step -/

theorem afterTimer_elem (e : Ev) (o : Nat) (d : ElemDef) (here : e.elemDef? o = some d) :
    e.afterTimer.elem o = e.boundaryZones.finish o d := by
  have def_ : e.boundaryZones.elemDef? o = some d := by rw [boundaryZones_eq]; exact here
  exact commands_elem e.boundaryZones o d def_

/-- A timer's step changes after the item's own nothing but what the vector shows. -/
theorem afterTimer_eq (e : Ev) : e.afterTimer = { e with v := e.afterTimer.v } := by
  unfold Ev.afterTimer
  rw [commands_finished, boundaryZones_eq]
  rfl

theorem afterTimer_st (e : Ev) (r : Nat) (wf : Tab.wf e.v.routes = true) : (e.afterTimer.route r).st = (e.route r).st := by
  have zones : e.boundaryZones.v.routes = e.v.routes := by rw [boundaryZones_eq]; rfl
  have wfz : Tab.wf e.boundaryZones.v.routes = true := by rw [zones]; exact wf
  obtain ⟨wfc, same⟩ := commands_st e.boundaryZones r wfz
  unfold Ev.afterTimer
  rw [trim_route _ _ wfc, same, Ev.route, Verdict.route, zones]
  rfl

end Sys2Proof.Machine
end

section
/-!
SUPPORT. Timers of areas, elements, boundaries and tokens that run out (R70, R76, R79, R97, R110, R111, R114, R115, R211, R328).
-/

namespace Sys2Proof.Machine

open Sys2Proof

/-! ### What step 7 leaves of an element of each kind -/

theorem finish_unproven (e : Ev) (o : Nat) (d : ElemDef) : (e.finish o d).unproven = (e.elem o).unproven := by
  unfold Ev.finish
  cases d.kind
  case ov => dsimp only; split <;> [rfl; (split <;> rfl)]
  all_goals rfl

theorem finish_section (e : Ev) (o : Nat) (d : ElemDef) (kind : d.kind = .ts) : (e.finish o d).state = (e.elem o).state ∧
    (e.finish o d).fa = (e.elem o).fa ∧ (e.finish o d).fb = (e.elem o).fb ∧ (e.finish o d).ta = (e.elem o).ta := by
  unfold Ev.finish
  rw [kind]
  exact ⟨rfl, rfl, rfl, rfl⟩

theorem finish_point (e : Ev) (o : Nat) (d : ElemDef) (kind : d.kind = .pt ∨ d.kind = .de) :
    (e.finish o d).state = (e.elem o).state ∧ (e.finish o d).cmd = (e.elem o).cmd ∧ (e.finish o d).fc = (e.elem o).fc ∧
      (e.finish o d).ta = (e.elem o).ta := by
  unfold Ev.finish
  rcases kind with kind | kind <;> rw [kind] <;> exact ⟨rfl, rfl, rfl, rfl⟩

theorem finish_signal (e : Ev) (o : Nat) (d : ElemDef) (kind : d.kind = .sg) :
    (e.finish o d).fa = (e.elem o).fa ∧ (e.finish o d).cmd = e.signalAspect o := by
  unfold Ev.finish
  rw [kind]
  exact ⟨rfl, rfl⟩

/-- A FAILED or replaced signal is commanded to aspect 0 (R79, R83). -/
theorem signalAspect_barred (e : Ev) (o : Nat) (barred : (e.elem o).fa = true ∨ e.replaced.contains o = true) : e.signalAspect o = 0 := by
  unfold Ev.signalAspect
  split
  · rfl
  · dsimp only
    rw [if_pos (by rcases barred with b | b <;> simp only [b, Bool.or_true, Bool.true_or])]

theorem finish_crossing (e : Ev) (o : Nat) (d : ElemDef) (kind : d.kind = .lx) :
    (e.finish o d).fa = (e.elem o).fa ∧ ((e.elem o).state = 0 → (e.finish o d).state = 0) := by
  unfold Ev.finish
  rw [kind]
  refine ⟨rfl, fun failed => ?_⟩
  simp [failed]

theorem finish_kept (e : Ev) (o : Nat) (d : ElemDef) (kind : d.kind = .ky ∨ d.kind = .ez ∨ d.kind = .sa) :
    (e.finish o d).state = (e.elem o).state := by
  unfold Ev.finish
  rcases kind with kind | kind | kind <;> rw [kind]

theorem finish_boundary (e : Ev) (o : Nat) (d : ElemDef) (kind : d.kind = .bb) : (e.finish o d).fa = (e.elem o).fa ∧
    (e.finish o d).fb = (e.elem o).fb ∧ (e.finish o d).fc = (e.elem o).fc ∧
      (e.nbrFresh.contains o = false → (e.finish o d).tb = (e.elem o).tb) := by
  unfold Ev.finish
  rw [kind]
  refine ⟨rfl, rfl, rfl, fun fresh => ?_⟩
  show (if (_ && e.nbrFresh.contains o) = true then _ else (e.elem o).tb) = _
  rw [fresh, Bool.and_false, if_neg Bool.false_ne_true]

/-- An overlap whose time has run out, or does not run, has no timer (R106). -/
theorem finish_overlap (e : Ev) (o : Nat) (d : ElemDef) (kind : d.kind = .ov) (ended : (e.elem o).ta = 0) : (e.finish o d).ta = 0xFFFF := by
  unfold Ev.finish
  rw [kind]
  dsimp only
  split
  · rfl
  · rw [if_pos (by simp only [ended, decide_true, Bool.true_or])]

/-! ### An element's timer at its end -/

theorem tickTimer_one : tickTimer 1 = 0 := rfl

/-- An element with its timer A one count from its end, as its own expiry sees it. -/
def ElemSt.lastTick (x : ElemSt) : ElemSt := { x with ta := 1, tb := heldTimer x.tb }

/-- The element's own step in the cycle in which its timer ends. -/
def State.expiring (s : State) (o : Nat) (d : ElemDef) : ElemSt := s.timerForm.stepElem o d (s.ixl.resolved.elem o).lastTick

/-- The form in which an element has taken its step, the zones of boundaries included. -/
def State.expired (s : State) (o : Nat) (x : ElemSt) : Ev := (s.timerForm.modElem o fun _ => x).boundaryZones

theorem expired_elem (s : State) (o : Nat) (x : ElemSt) (wf : Tab.wf s.ixl.resolved.elems = true) :
    (s.expired o x).elem o = x ∨ (s.expired o x).elem o = { x with state := 0 } := by
  have step := boundaryZones_elem (s.timerForm.modElem o fun _ => x) o (modElem_wf s.timerForm o _ wf)
  rwa [modElem_elem_same] at step

theorem expired_untied (s : State) (o : Nat) (x : ElemSt) (wf : Tab.wf s.ixl.resolved.elems = true)
    (untied : ∀ p ∈ s.image.elems, p.2.ez ≠ some o) : (s.expired o x).elem o = x := by
  have step := boundaryZones_untied (s.timerForm.modElem o fun _ => x) o (modElem_wf s.timerForm o _ wf) untied
  rwa [modElem_elem_same] at step

/-- The element as its timer's step leaves it. -/
theorem timerElem_elem (o : Nat) (ks : List Kind) (p : ElemSt → Bool) (d : ElemDef) (s : State) (cycles : s.mod.mode.cycles = true)
    (here : Tab.get? s.image.elems o = some d) (kind : d.kind ∈ ks) (running : (s.ixl.resolved.elem o).ta ≠ 0xFFFF)
    (due : p (s.ixl.resolved.elem o) = true) :
    (timerElem o ks p s).ixl.resolved.elem o = (s.expired o (s.expiring o d)).finish o d := by
  have op : timerElem o ks p s = s.adoptTimer (s.timerForm.modElem o fun _ => s.expiring o d).afterTimer := by
    unfold timerElem State.expiring ElemSt.lastTick
    have last : lastCount (s.ixl.resolved.elem o).ta = 1 := if_neg running
    simp only [here, last]
    exact if_pos (by simp [cycles, kind, running, due])
  rw [op]
  exact afterTimer_elem (s.timerForm.modElem o fun _ => s.expiring o d) o d here

/-! ### The step of each kind at its timer's end -/

theorem stepElem_section (e : Ev) (o : Nat) (d : ElemDef) (x : ElemSt) (kind : d.kind = .ts) (later : e.first = false) :
    e.stepElem o d x = { tsStep d x (e.lost.contains o) (Tab.getD e.raw o 0) with unproven := e.lost.contains o } := by
  simp only [Ev.stepElem, kind, later, Bool.false_eq_true, if_false]

theorem stepElem_point (e : Ev) (o : Nat) (d : ElemDef) (x : ElemSt) (kind : d.kind = .pt ∨ d.kind = .de) :
    e.stepElem o d x = { ptStep x (e.lost.contains o) (Tab.getD e.raw o 0) with unproven := e.lost.contains o } := by
  rcases kind with kind | kind <;> simp only [Ev.stepElem, kind]

theorem stepElem_signal (e : Ev) (o : Nat) (d : ElemDef) (x : ElemSt) (kind : d.kind = .sg) :
    e.stepElem o d x = { sgStep d x (e.lost.contains o) (Tab.getD e.raw o 0) with unproven := e.lost.contains o } := by
  simp only [Ev.stepElem, kind]

theorem stepElem_crossing (e : Ev) (o : Nat) (d : ElemDef) (x : ElemSt) (kind : d.kind = .lx) :
    e.stepElem o d x = { lxStep d x (e.lost.contains o) (Tab.getD e.raw o 0) with unproven := e.lost.contains o } := by
  simp only [Ev.stepElem, kind]

/-- A boundary whose timeout ends has no data from then on (R110). -/
theorem stepElem_boundary (e : Ev) (o : Nat) (d : ElemDef) (x : ElemSt) (kind : d.kind = .bb) (last : x.ta = 1) :
    (e.stepElem o d x).unproven = true ∧ (e.stepElem o d x).fa = false ∧ (e.stepElem o d x).fb = false ∧
      (e.stepElem o d x).fc = true := by
  simp only [Ev.stepElem, kind, last, tickTimer_one]
  simp

/-- Whatever its kind, an object with an input field is UNPROVEN where that has no source (R115). -/
theorem stepElem_lost (e : Ev) (o : Nat) (d : ElemDef) (x : ElemSt) (input : d.kind.hasInput = true) :
    (e.stepElem o d x).unproven = e.lost.contains o := by
  unfold Ev.stepElem
  cases kind : d.kind
  case ov | fl | bb => rw [kind] at input; exact absurd input (by decide)
  all_goals rfl

/-- A DISTURBED section that is reported CLEAR clears at its settle time (R70). -/
theorem tsStep_settled (d : ElemDef) (x : ElemSt) (det : Nat) (cls : d.cls ≠ 1) (disturbed : x.state = 0) (last : x.ta = 1)
    (clear : det = 2 ∨ det = 3) : (tsStep d x false det).state = 2 ∧ (tsStep d x false det).ta = 0xFFFF := by
  rcases clear with det | det <;> simp [tsStep, det, disturbed, last, cls, tickTimer_one]

/-- At the throw-time limit a move ends, wherever the point is (R76). -/
theorem ptStep_ended (x : ElemSt) (lost : Bool) (det : Nat) (commanded : x.cmd ≠ 0) (last : x.ta = 1) :
    (ptStep x lost det).cmd = 0 ∧ (ptStep x lost det).ta = 0xFFFF := by
  simp [ptStep, last, commanded, tickTimer_one]

/-- A signal without a proven aspect is FAILED at the end of its proving time (R79). -/
theorem sgStep_failed (d : ElemDef) (x : ElemSt) (lost : Bool) (det : Nat) (proven : x.unproven = false) (last : x.ta = 1)
    (dark : det < 16) : (sgStep d x lost det).fa = true := by
  simp [sgStep, proven, last, Nat.not_le.mpr dark, tickTimer_one]

/-- A crossing that closes and is not proven closed has failed at its limit (R97). -/
theorem lxStep_failed (d : ElemDef) (x : ElemSt) (lost : Bool) (det : Nat) (closing : x.state = 3) (commanded : x.cmd = 0)
    (last : x.ta = 1) (unclosed : det ≠ 2) : (lxStep d x lost det).state = 0 := by
  cases lost <;> simp [lxStep, closing, commanded, last, unclosed, tickTimer_one]

/-! ### Each kind at its timer's end -/

section
variable (o : Nat) (d : ElemDef) (s : State) (cycles : s.mod.mode.cycles = true) (here : Tab.get? s.image.elems o = some d)
include cycles here

theorem settleTime_clears (kind : d.kind = .ts) (cls : d.cls ≠ 1) (untied : ∀ p ∈ s.image.elems, p.2.ez ≠ some o)
    (wf : Tab.wf s.ixl.resolved.elems = true) (disturbed : (s.ixl.resolved.elem o).state = 0)
    (running : (s.ixl.resolved.elem o).ta ≠ 0xFFFF) (live : s.inputs.2.contains o = false)
    (clear : Tab.getD s.inputs.1 o 0 = 2 ∨ Tab.getD s.inputs.1 o 0 = 3) :
    On (timerElem o [.ts] (fun x => x.state = 0) s) fun t =>
      (t.ixl.resolved.elem o).state = 2 ∧ (t.ixl.resolved.elem o).ta = 0xFFFF := by
  have lost : s.timerForm.lost.contains o = false := live
  have step : s.expiring o d = { tsStep d (s.ixl.resolved.elem o).lastTick false (Tab.getD s.inputs.1 o 0) with unproven := false } := by
    rw [State.expiring, stepElem_section _ _ _ _ kind rfl, lost]
    rfl
  obtain ⟨state, -, -, ta⟩ := finish_section (s.expired o (s.expiring o d)) o d kind
  unfold On
  dsimp only
  rw [timerElem_elem _ _ _ d s cycles here (by simp [kind]) running (by simp [disturbed]), state, ta, expired_untied s _ _ wf untied, step]
  exact tsStep_settled d (s.ixl.resolved.elem o).lastTick _ cls disturbed rfl clear

theorem throwTimeLimit_ends (kind : d.kind = .pt ∨ d.kind = .de) (commanded : (s.ixl.resolved.elem o).cmd ≠ 0)
    (running : (s.ixl.resolved.elem o).ta ≠ 0xFFFF) (wf : Tab.wf s.ixl.resolved.elems = true) :
    On (timerElem o [.pt, .de] (fun x => x.cmd ≠ 0) s) fun t =>
      (t.ixl.resolved.elem o).cmd = 0 ∧ (t.ixl.resolved.elem o).ta = 0xFFFF := by
  have ended : (s.expiring o d).cmd = 0 ∧ (s.expiring o d).ta = 0xFFFF := by
    rw [State.expiring, stepElem_point _ _ _ _ kind]
    exact ptStep_ended (s.ixl.resolved.elem o).lastTick _ _ commanded rfl
  obtain ⟨-, cmd, -, ta⟩ := finish_point (s.expired o (s.expiring o d)) o d kind
  unfold On
  dsimp only
  rw [timerElem_elem _ _ _ d s cycles here (by simpa using kind) running (by simp [commanded]), cmd, ta]
  rcases expired_elem s o (s.expiring o d) wf with same | same <;> rw [same] <;> exact ended

theorem provingTime_fails (kind : d.kind = .sg) (running : (s.ixl.resolved.elem o).ta ≠ 0xFFFF)
    (proven : (s.ixl.resolved.elem o).unproven = false) (wf : Tab.wf s.ixl.resolved.elems = true) (dark : Tab.getD s.inputs.1 o 0 < 16) :
    On (timerElem o [.sg] (fun _ => true) s) fun t => (t.ixl.resolved.elem o).fa = true ∧ (t.ixl.resolved.elem o).cmd = 0 := by
  have failed : (s.expiring o d).fa = true := by
    rw [State.expiring, stepElem_signal _ _ _ _ kind]
    exact sgStep_failed d (s.ixl.resolved.elem o).lastTick _ _ proven rfl dark
  have fa : ((s.expired o (s.expiring o d)).elem o).fa = true := by
    rcases expired_elem s o (s.expiring o d) wf with same | same <;> rw [same] <;> exact failed
  obtain ⟨kept, cmd⟩ := finish_signal (s.expired o (s.expiring o d)) o d kind
  unfold On
  dsimp only
  rw [timerElem_elem _ _ _ d s cycles here (by simp [kind]) running rfl, kept, cmd]
  exact ⟨fa, signalAspect_barred _ _ (.inl fa)⟩

theorem closingLimit_fails (kind : d.kind = .lx) (closing : (s.ixl.resolved.elem o).state = 3)
    (commanded : (s.ixl.resolved.elem o).cmd = 0) (running : (s.ixl.resolved.elem o).ta ≠ 0xFFFF)
    (unclosed : Tab.getD s.inputs.1 o 0 ≠ 2) (wf : Tab.wf s.ixl.resolved.elems = true) :
    On (timerElem o [.lx] (fun x => x.state = 3) s) fun t => (t.ixl.resolved.elem o).state = 0 := by
  have failed : (s.expiring o d).state = 0 := by
    rw [State.expiring, stepElem_crossing _ _ _ _ kind]
    exact lxStep_failed d (s.ixl.resolved.elem o).lastTick _ _ closing commanded rfl unclosed
  obtain ⟨-, kept⟩ := finish_crossing (s.expired o (s.expiring o d)) o d kind
  unfold On
  dsimp only
  rw [timerElem_elem _ _ _ d s cycles here (by simp [kind]) running (by simp [closing])]
  refine kept ?_
  rcases expired_elem s o (s.expiring o d) wf with same | same <;> rw [same]
  exact failed

theorem boundaryTimeout_unproven (kind : d.kind = .bb) (running : (s.ixl.resolved.elem o).ta ≠ 0xFFFF)
    (wf : Tab.wf s.ixl.resolved.elems = true) :
    On (timerElem o [.bb] (fun _ => true) s) fun t => (t.ixl.resolved.elem o).unproven = true ∧ (t.ixl.resolved.elem o).fa = false ∧
      (t.ixl.resolved.elem o).fb = false ∧ (t.ixl.resolved.elem o).fc = true := by
  obtain ⟨fa, fb, fc, -⟩ := finish_boundary (s.expired o (s.expiring o d)) o d kind
  unfold On
  dsimp only
  rw [timerElem_elem _ _ _ d s cycles here (by simp [kind]) running rfl, finish_unproven, fa, fb, fc]
  have gone := stepElem_boundary s.timerForm o d (s.ixl.resolved.elem o).lastTick kind rfl
  rcases expired_elem s o (s.expiring o d) wf with same | same <;> rw [same] <;> exact gone

end

/-! ### Areas and back-offs -/

/-- An area takes the value that it is given; one at its zero value is not listed. -/
theorem modArea_area (s : State) (a : Nat) (f : AreaSt → AreaSt) (x : AreaSt) (eq : f (s.ixl.resolved.area a) = x)
    (listed : x ≠ AreaSt.zero ∨ Tab.wf s.ixl.resolved.areas = true) : (s.modArea a f).ixl.resolved.area a = x := by
  show Tab.getD (if f (s.ixl.resolved.area a) = AreaSt.zero then _ else _) a AreaSt.zero = x
  rw [eq]
  split
  · rename_i zero
    rw [Tab.getD, Tab.get_erase_eq _ _ (listed.resolve_left (not_not_intro zero)), Option.getD_none, zero]
  · exact Tab.getD_put_eq ..

theorem restartTimeOp_opens (a : Nat) (s : State) (cycles : s.mod.mode.cycles = true) (running : (s.ixl.resolved.area a).timer ≠ 0xFFFF) :
    (restartTimeOp a s).ixl.resolved.area a = ⟨0xFFFF, true⟩ := by
  unfold restartTimeOp
  rw [if_pos (by simp [cycles, running])]
  exact modArea_area s a _ _ rfl (.inl (by decide))

theorem restartTimerStartOp_starts (a : Nat) (s : State) (cycles : s.mod.mode.cycles = true)
    (waiting : s.ixl.resolved.area a = ⟨0xFFFF, false⟩) (ready : (s.form false).areaReady a = true) (timed : Tab.getD s.image.areas a 0 ≠ 0)
    (wf : Tab.wf s.ixl.resolved.areas = true) : (restartTimerStartOp a s).ixl.resolved.area a = ⟨Tab.getD s.image.areas a 0, false⟩ := by
  unfold restartTimerStartOp
  rw [if_pos (by simp [cycles, waiting, ready])]
  exact modArea_area s a _ _ (by simp [waiting, areaStep, timed]) (.inr wf)

theorem boundaryBackoffOp_ends (o : Nat) (d : ElemDef) (s : State) (cycles : s.mod.mode.cycles = true)
    (here : Tab.get? s.image.elems o = some d) (kind : d.kind = .bb) (running : (s.ixl.resolved.elem o).tb ≠ 0xFFFF)
    (wf : Tab.wf s.ixl.resolved.elems = true) : ((boundaryBackoffOp o s).ixl.resolved.elem o).tb = 0xFFFF := by
  let x : ElemSt := { s.ixl.resolved.elem o with tb := 0xFFFF }
  have op : (boundaryBackoffOp o s).ixl.resolved.elem o = (s.expired o x).finish o d := by
    unfold boundaryBackoffOp
    rw [if_pos (by simp [cycles, State.isElem, here, kind, running])]
    exact afterTimer_elem (s.timerForm.modElem o fun _ => x) o d here
  have fresh : (s.expired o x).nbrFresh = [] := by unfold State.expired; rw [boundaryZones_eq]; rfl
  obtain ⟨-, -, -, backoff⟩ := finish_boundary (s.expired o x) o d kind
  rw [op, backoff (by rw [fresh]; rfl)]
  rcases expired_elem s o x wf with same | same <;> rw [same]

/-! ### A node's data too old (R115, R211) -/

/-- An object takes its step while its timer A is held. -/
def Ev.ageStep (e : Ev) (p : Nat × ElemDef) : Ev := e.modElem p.1 fun y => e.stepElem p.1 p.2 { y with ta := heldTimer y.ta }

/-- An object without a source is UNPROVEN once it has taken its step, and stays so while others take theirs. -/
theorem each_ageStep_unproven (e : Ev) (l : List (Nat × ElemDef)) (o : Nat) (d : ElemDef) (mem : (o, d) ∈ l)
    (inputs : ∀ p ∈ l, p.2.kind.hasInput = true) (lost : e.lost.contains o = true) (wf : Tab.wf e.v.elems = true) :
    Tab.wf (e.each l Ev.ageStep).v.elems = true ∧ ((e.each l Ev.ageStep).elem o).unproven = true := by
  obtain ⟨before, after, rfl⟩ := List.append_of_mem mem
  unfold Ev.each
  rw [List.foldl_append, List.foldl_cons]
  obtain ⟨lostB, wfB⟩ : (before.foldl Ev.ageStep e).lost.contains o = true ∧ Tab.wf (before.foldl Ev.ageStep e).v.elems = true :=
    List.foldlRecOn (motive := fun t : Ev => t.lost.contains o = true ∧ Tab.wf t.v.elems = true) before _ ⟨lost, wf⟩
      fun t ⟨lostT, wfT⟩ p _ => ⟨lostT, modElem_wf t _ _ wfT⟩
  have step (t : Ev) (x : ElemDef) (input : x.kind.hasInput = true) (lostT : t.lost.contains o = true) :
      ((t.ageStep (o, x)).elem o).unproven = true := by
    unfold Ev.ageStep
    rw [modElem_elem_same, stepElem_lost t o x _ input, lostT]
  refine (List.foldlRecOn (b := (before.foldl Ev.ageStep e).ageStep (o, d))
    (motive := fun t : Ev => t.lost.contains o = true ∧ Tab.wf t.v.elems = true ∧ (t.elem o).unproven = true) after _
    ⟨lostB, modElem_wf _ _ _ wfB, step _ d (inputs _ mem) lostB⟩ ?_).2
  rintro t ⟨lostT, wfT, unproven⟩ p memP
  refine ⟨lostT, modElem_wf t _ _ wfT, ?_⟩
  by_cases here : p.1 = o
  · have eq : p = (o, p.2) := by rw [← here]
    rw [eq]
    exact step t p.2 (inputs p (by simp [memP])) lostT
  · unfold Ev.ageStep
    rw [modElem_elem_ne t _ _ _ (Ne.symm here) wfT]
    exact unproven

theorem inputs_lost (s : State) (o : Nat) (d : ElemDef) (here : Tab.get? s.image.elems o = some d) (input : d.kind.hasInput = true)
    (gone : s.input d = none) : s.inputs.2.contains o = true := by
  have mem : (o, d) ∈ s.image.elems := Tab.mem_of_get here
  rw [List.contains_iff_mem]
  refine List.mem_map.mpr ⟨(o, d), ?_, rfl⟩
  simp [mem, input, gone]

/-- The state in which a node's data has passed the limit of a row. -/
def State.aged (s : State) (n row a : Nat) : State :=
  let x : NodeSt := { Tab.getD s.net.nodes n .none with age := some (max a (1000 * Tab.getD s.image.ages row 0 + 1)) }
  { s with net := { s.net with nodes := Tab.put s.net.nodes n x } }

theorem aged_agedOut (s : State) (n row a : Nat) : (s.aged n row a).agedOut n row = true := by
  unfold State.agedOut State.aged
  simp only [Tab.getD_put_eq, decide_eq_true_eq]
  exact lt_of_lt_of_le (Nat.lt_succ_self _) (le_max_right _ _)

/-- Every object that the node serves in the row becomes UNPROVEN. -/
theorem dataAgeOp_ages (n row a o : Nat) (d : ElemDef) (s : State) (cycles : s.mod.mode.cycles = true)
    (age : (Tab.getD s.net.nodes n .none).age = some a) (here : Tab.get? s.image.elems o = some d) (source : d.src = .node n)
    (input : d.kind.hasInput = true) (inRow : s.image.ageRow n d.kind = row) (wf : Tab.wf s.ixl.resolved.elems = true) :
    On (dataAgeOp n row s) fun t => (Tab.getD t.net.nodes n .none).age = some (max a (1000 * Tab.getD s.image.ages row 0 + 1)) ∧
      (t.ixl.resolved.elem o).unproven = true := by
  let u := s.aged n row a
  let due := s.image.elems.filter fun p => p.2.src = .node n && p.2.kind.hasInput && s.image.ageRow n p.2.kind = row
  have op : dataAgeOp n row s = u.adoptTimer (u.timerForm.each due Ev.ageStep).afterTimer := by
    unfold dataAgeOp
    simp only [age, cycles, if_true]
    rfl
  have gone : u.input d = none := by
    have old : u.agedOut n (u.image.ageRow n d.kind) = true := by
      have same : u.image.ageRow n d.kind = row := inRow
      rw [same]
      exact aged_agedOut s n row a
    unfold State.input
    simp only [source, old, if_true]
  obtain ⟨wfE, unproven⟩ := each_ageStep_unproven u.timerForm due o d
    (List.mem_filter.mpr ⟨Tab.mem_of_get here, by simp [source, input, inRow]⟩)
    (fun p mem => by simp only [due, List.mem_filter, Bool.and_eq_true] at mem; exact mem.2.1.2)
    (inputs_lost u o d here input gone) wf
  have img : (u.timerForm.each due Ev.ageStep).img = s.image :=
    List.foldlRecOn (motive := fun t : Ev => t.img = s.image) due _ rfl fun t same _ _ => same
  have def_ : (u.timerForm.each due Ev.ageStep).elemDef? o = some d := by rw [Ev.elemDef?, img, here]
  have elem : (dataAgeOp n row s).ixl.resolved.elem o = (u.timerForm.each due Ev.ageStep).boundaryZones.finish o d := by
    rw [op]
    exact afterTimer_elem _ o d def_
  constructor
  · rw [op]
    show (Tab.getD (Tab.put s.net.nodes n _) n .none).age = _
    rw [Tab.getD_put_eq]
  · rw [elem, finish_unproven]
    rcases boundaryZones_elem _ o wfE with same | same <;> rw [same] <;> exact unproven

/-- Settles O35: each timer's own step at its end, and what the zones of boundaries and step 7 of R67 leave of it. -/
theorem elementTimerCommands : Obligations.ElementTimerCommands := by
  unfold Obligations.ElementTimerCommands
  refine ⟨?_, ?_, ?_, ?_, ?_, ?_, ?_, ?_, ?_, ?_⟩
  · intro a s cycles running
    exact ⟨_, rfl, restartTimeOp_opens a.val s cycles running⟩
  · intro a s cycles waiting ready timed wf
    exact ⟨_, rfl, restartTimerStartOp_starts a.val s cycles waiting ready timed wf⟩
  · intro o d s cycles here kind cls untied wf disturbed running live clear
    exact ⟨_, rfl, settleTime_clears o.toNat d s cycles here kind cls untied wf disturbed running live clear⟩
  · intro o d s cycles here kind commanded running wf
    exact ⟨_, rfl, throwTimeLimit_ends o.toNat d s cycles here kind commanded running wf⟩
  · intro o d s cycles here kind running proven wf dark
    exact ⟨_, rfl, provingTime_fails o.toNat d s cycles here kind running proven wf dark⟩
  · intro o d s cycles here kind closing commanded running unclosed wf
    exact ⟨_, rfl, closingLimit_fails o.toNat d s cycles here kind closing commanded running unclosed wf⟩
  · intro o d s cycles here kind running wf
    exact ⟨_, rfl, boundaryTimeout_unproven o.toNat d s cycles here kind running wf⟩
  · intro o d s cycles here kind running wf
    exact ⟨_, rfl, boundaryBackoffOp_ends o.toNat d s cycles here kind running wf⟩
  · intro n row a o d s cycles age here source input inRow wf
    exact ⟨_, rfl, dataAgeOp_ages n.val row.val a o d s cycles age here source input inRow wf⟩
  · intro src op tg s
    rfl

end Sys2Proof.Machine
end

section
/-!
SUPPORT. Timers of routes that run out (R82, R86, R102, R106, R107): the slot of a route for which no request stands, on the resolved state.
-/

namespace Sys2Proof.Machine

open Sys2Proof

/-! ### The routes of a form at its start -/

/-- A value put in the place of one that passes a test alike leaves the keys of those that pass. -/
theorem keys_put_filter {α : Type} (t : Tab α) (r : Nat) (x dflt : α) (p : α → Bool) (alike : p x = p (Tab.getD t r dflt))
    (out : p dflt = false) : ((Tab.put t r x).filter fun q => p q.2).map Prod.fst = (t.filter fun q => p q.2).map Prod.fst := by
  induction t with
  | nil =>
    have fails : p x = false := alike.trans out
    simp [Tab.put, fails]
  | cons q t ih =>
    obtain ⟨k, y⟩ := q
    rcases Nat.lt_trichotomy r k with low | here | high
    · have fails : p x = false := by rw [alike, Tab.getD, Tab.get?, if_neg (Nat.ne_of_lt low), if_pos low]; exact out
      simp [Tab.put, low, Nat.ne_of_lt low, fails]
    · subst here
      have same : p x = p y := by rw [alike, Tab.getD, Tab.get?, if_pos rfl]; rfl
      cases pass : p y <;> simp [Tab.put, same, pass]
    · have rest : p x = p (Tab.getD t r dflt) := by
        rw [alike, Tab.getD, Tab.get?, if_neg (Nat.ne_of_gt high), if_neg (Nat.lt_asymm high), Tab.getD]
      have step := ih rest
      cases pass : p y <;> simp [Tab.put, Nat.ne_of_gt high, Nat.lt_asymm high, pass, step]

/-- A form starts from the resolved routes, with their WITHHELD bits set anew. -/
theorem form_routes (s : State) (g : Bool) (wf : Tab.wf s.ixl.resolved.routes = true) : Tab.wf (s.form g).v.routes = true ∧
    (s.form g).actives = (s.ixl.resolved.routes.filter fun p => p.2.st.active).map Prod.fst ∧
    ∀ r, ∃ w, (s.form g).route r = { s.ixl.resolved.route r with withheld := w } := by
  unfold State.form Ev.actives Ev.route Verdict.route
  dsimp only
  refine List.foldlRecOn (motive := fun t : Tab RouteSt => Tab.wf t = true ∧ (t.filter fun p => p.2.st.active).map Prod.fst =
    (s.ixl.resolved.routes.filter fun p => p.2.st.active).map Prod.fst ∧
    ∀ r, ∃ w, Tab.getD t r .zero = { Tab.getD s.ixl.resolved.routes r .zero with withheld := w }) _ _ ⟨?_, ?_, ?_⟩ ?_
  · rw [Tab.wf_mapV]
    exact wf
  · unfold Tab.mapV
    rw [List.filter_map, List.map_map]
    rfl
  · intro r
    rw [Tab.getD, Tab.get_mapV, Tab.getD]
    cases Tab.get? s.ixl.resolved.routes r with
    | none => exact ⟨false, rfl⟩
    | some x => exact ⟨_, rfl⟩
  · rintro t ⟨wft, acts, routes⟩ q -
    refine ⟨Tab.put_wf _ _ _ wft, ?_, fun r => ?_⟩
    · rw [← acts]
      exact keys_put_filter t q _ .zero (fun x => x.st.active) rfl rfl
    · by_cases here : r = q
      · obtain ⟨w, same⟩ := routes r
        rw [Tab.upd, ← here, Tab.getD_put_eq, same]
        exact ⟨true, rfl⟩
      · rw [Tab.upd, Tab.getD_put_ne _ _ _ _ _ here wft]
        exact routes r

/-! ### Forms with alike routes -/

/-- Two forms that differ in nothing but what the setting and the proving conditions do not read: the routes' timers, marks and passages. -/
def Ev.Alike (t e : Ev) : Prop := (∃ R c, t = { e with v := { e.v with routes := R }, conflicts := c }) ∧ t.actives = e.actives ∧
  ∀ q, (t.route q).st = (e.route q).st ∧ (t.route q).released = (e.route q).released ∧ (t.route q).withheld = (e.route q).withheld

theorem Ev.Alike.refl (e : Ev) : e.Alike e := ⟨⟨_, _, rfl⟩, rfl, fun _ => ⟨rfl, rfl, rfl⟩⟩

theorem modRoute_alike {t e : Ev} (alike : t.Alike e) (r : Nat) (f : RouteSt → RouteSt) (wf : Tab.wf t.v.routes = true)
    (keeps : ∀ x, (f x).st = x.st ∧ (f x).released = x.released ∧ (f x).withheld = x.withheld) : (t.modRoute r f).Alike e := by
  obtain ⟨⟨R, c, form⟩, acts, routes⟩ := alike
  refine ⟨⟨(t.modRoute r f).v.routes, c, by rw [form]; rfl⟩, ?_, fun q => ?_⟩
  · rw [← acts]
    exact keys_put_filter t.v.routes r _ .zero (fun x => x.st.active) (congrArg RSt.active (keeps _).1) rfl
  · by_cases here : q = r
    · obtain ⟨st, released, withheld⟩ := keeps (t.route r)
      rw [here, modRoute_route_same, st, released, withheld]
      exact routes r
    · rw [modRoute_route_ne _ _ _ _ here wf]
      exact routes q

theorem conflicts_alike {t e : Ev} (alike : t.Alike e) (c : List (Nat × Nat)) : ({ t with conflicts := c } : Ev).Alike e := by
  obtain ⟨⟨R, c', form⟩, rest⟩ := alike
  exact ⟨⟨R, c, by rw [form]⟩, rest⟩

theorem holds_alike {t e : Ev} (alike : t.Alike e) (q : Nat) : t.holds q = e.holds q := by
  obtain ⟨⟨R, c, rfl⟩, -, routes⟩ := alike
  obtain ⟨st, released, -⟩ := routes q
  unfold Ev.holds
  dsimp only
  rw [st, released]
  rfl

theorem locksOn_alike {t e : Ev} (alike : t.Alike e) (q : Nat) : t.locksOn q = e.locksOn q := by
  unfold Ev.locksOn
  rw [(alike.2.2 q).1]

theorem conflictWith_alike {t e : Ev} (alike : t.Alike e) (r : Nat) : t.conflictWith r = e.conflictWith r := by
  unfold Ev.conflictWith
  rw [alike.2.1]
  obtain ⟨⟨R, c, rfl⟩, -⟩ := alike
  rfl

theorem proved_alike {t e : Ev} (alike : t.Alike e) (r : Nat) (d : RouteDef) : t.proved r d = e.proved r d := by
  unfold Ev.proved
  dsimp only
  rw [holds_alike alike, conflictWith_alike alike, (alike.2.2 r).2.2]
  obtain ⟨⟨R, c, rfl⟩, -⟩ := alike
  rfl

theorem setFail_alike {t e : Ev} (alike : t.Alike e) (r : Nat) (d : RouteDef) : t.setFail r d = e.setFail r d := by
  have holds := holds_alike alike
  have locks := locksOn_alike alike
  have conflict := conflictWith_alike alike
  have withheld := (alike.2.2 r).2.2
  have acts := alike.2.1
  obtain ⟨⟨R, c, form⟩, -⟩ := alike
  have holdsOf (o : Nat) : t.holdsOf o = e.holdsOf o := by
    unfold Ev.holdsOf
    simp only [acts, holds]
  unfold Ev.setFail
  unfold Ev.flankChoice Ev.elemFail Ev.altState Ev.isEntry Ev.pointFail Ev.moveFail Ev.lockRoute Ev.lockFlank Ev.flankHeld Ev.heldOther
    Ev.opposed Ev.traversed
  simp only [holdsOf, holds, locks, conflict, withheld, acts]
  subst form
  rfl

/-! ### Slots without requests -/

theorem reqsOf_quiet (e : Ev) (r : Nat) (p : RouteReq → Bool) (quiet : e.reqs = .empty) : e.reqsOf r p = [] := by
  unfold Ev.reqsOf
  rw [quiet]
  rfl

theorem emergency_quiet (e : Ev) (r : Nat) (d : RouteDef) (quiet : e.reqs = .empty) : e.emergency r d = e := by
  unfold Ev.emergency
  rw [reqsOf_quiet e r _ quiet]

theorem marks_quiet (e : Ev) (r : Nat) (quiet : e.reqs = .empty) : e.marks r = e := by
  unfold Ev.marks
  simp only [reqsOf_quiet e r _ quiet, quiet]
  rfl

theorem cancel_quiet (e : Ev) (r : Nat) (d : RouteDef) (quiet : e.reqs = .empty) : e.cancel r d = e := by
  unfold Ev.cancel
  rw [reqsOf_quiet e r _ quiet]

theorem setActive_quiet (e : Ev) (r : Nat) (d : RouteDef) (quiet : e.reqs = .empty) : e.setActive r d = e := by
  unfold Ev.setActive
  rw [reqsOf_quiet e r _ quiet]

@[simp] theorem answerAll_nil (e : Ev) (status : Nat) : e.answerAll [] status = e := rfl

theorem toIdle_v (e : Ev) (r : Nat) :
    (e.toIdle r).v = (e.modRoute r fun x => { RouteSt.zero with auto := x.auto, withheld := x.withheld }).v := rfl

theorem toIdle_st (e : Ev) (r : Nat) : ((e.toIdle r).route r).st = .idle := by
  rw [Ev.route, toIdle_v, ← Ev.route, modRoute_route_same]
  rfl

theorem toIdle_wf (e : Ev) (r : Nat) (wf : Tab.wf e.v.routes = true) : Tab.wf (e.toIdle r).v.routes = true := by
  rw [toIdle_v]
  exact modRoute_wf e r _ wf

theorem approach_resting (e : Ev) (r : Nat) (d : RouteDef) (expired : Bool) (resting : (e.route r).st.approaching = false) :
    e.approach r d expired = e := by
  unfold Ev.approach
  rw [resting]
  rfl

/-- Approach control is satisfied when its time ends with its section OCCUPIED (R82). -/
theorem approach_expired (e : Ev) (r : Nat) (d : RouteDef) (sec : Nat) (approaching : (e.route r).st.approaching = true) (mode : d.acMode ≠ 0)
    (section_ : d.apprTs = some sec) (occupied : e.tsOcc sec = true) (wf : Tab.wf e.v.routes = true) (wfUse : Tab.wf e.use = true) :
    ((e.approach r d true).route r).st = (e.route r).st ∧ Tab.wf (e.approach r d true).v.routes = true ∧
      Tab.wf (e.approach r d true).use = true ∧ ((e.approach r d true).useOf r).acDone = true := by
  cases done : (e.useOf r).acDone with
  | true =>
    have same : e.approach r d true = e := by unfold Ev.approach; rw [done, Bool.or_true, if_pos rfl]
    rw [same]
    exact ⟨rfl, wf, wfUse, done⟩
  | false =>
    let f := e.modRoute r fun x => { x with timer := 0xFFFF }
    have ends : e.approach r d true = f.modUse r fun u => { u with acDone := true } := by
      unfold Ev.approach
      rw [if_neg (by simp [approaching, mode, done]), section_]
      simp only [occupied, Bool.not_true, Bool.false_eq_true, if_false, Bool.true_or, if_true, f]
    rw [ends, modUse_useOf_same]
    have st : (f.route r).st = (e.route r).st := by rw [modRoute_route_same]
    exact ⟨st, Tab.put_wf _ _ _ wf, Tab.put_wf _ _ _ wfUse, rfl⟩

/-- A route's timer in its slot. -/
def Ev.tickRoute (e : Ev) (r : Nat) : Ev :=
  e.modRoute r fun x => { x with timer := if tickTimer (e.route r).timer = 0 then 0xFFFF else tickTimer (e.route r).timer }

/-- A conflict of an active route noted (R134). -/
def Ev.noteConflict (e : Ev) (r : Nat) : Ev :=
  match e.conflictWith r with
  | some j => { e with conflicts := e.conflicts ++ [(r, j)] }
  | none => e

theorem noteConflict_eq (e : Ev) (r : Nat) : ∃ c, e.noteConflict r = { e with conflicts := c } := by
  unfold Ev.noteConflict
  cases e.conflictWith r with
  | none => exact ⟨_, rfl⟩
  | some j => exact ⟨_, rfl⟩

/-- An active route as its field-driven transition meets it. -/
def Ev.opened (e : Ev) (r : Nat) : Ev := (e.tickRoute r).noteConflict r

/-- The slot of an active route without requests is its field-driven transition, then approach control. -/
theorem activeSlot_quiet (e f : Ev) (r : Nat) (d : RouteDef) (expired : Bool) (defined : e.def? r = some d) (quiet : e.reqs = .empty)
    (free : e.taken = []) (time : decide (tickTimer (e.route r).timer = 0) = expired) (field : (e.opened r).fieldSlot r d expired = f)
    (quietF : f.reqs = .empty) (past : (f.route r).st ≠ .locked ∧ (f.route r).st ≠ .proved) :
    e.activeSlot r = f.approach r d expired := by
  have slot : e.activeSlot r =
      (let e3 := (e.opened r).emergency r d
       let e4 := if e3.taken.contains r then e3 else e3.fieldSlot r d (decide (tickTimer (e.route r).timer = 0))
       let e6 := ((e4.marks r).cancel r d).setActive r d
       let y := e6.route r
       let e7 := if y.auto && y.firstClear && (y.st = .locked || y.st = .proved) && !y.withheld then e6.reclear r d else e6
       e7.approach r d (decide (tickTimer (e.route r).timer = 0))) := by
    unfold Ev.activeSlot
    rw [defined]
    rfl
  obtain ⟨c, noted⟩ := noteConflict_eq (e.tickRoute r) r
  have quietO : (e.opened r).reqs = .empty := by rw [Ev.opened, noted]; exact quiet
  have freeO : (e.opened r).taken = [] := by rw [Ev.opened, noted]; exact free
  rw [slot, time]
  dsimp only
  rw [emergency_quiet _ r d quietO, freeO, List.contains_nil, if_neg Bool.false_ne_true, field, marks_quiet f r quietF,
    cancel_quiet f r d quietF, setActive_quiet f r d quietF, if_neg (by simp [past])]

/-! ### A route's timer at its end -/

/-- A route with its timer one count from its end. -/
def State.dueRoute (s : State) (r : Nat) : Ev := s.timerForm.modRoute r fun x => { x with timer := 1 }

theorem timerForm_routes (s : State) (r : Nat) (wf : Tab.wf s.ixl.resolved.routes = true) : Tab.wf s.timerForm.v.routes = true ∧
    (s.timerForm.route r).st = (s.ixl.resolved.route r).st := by
  obtain ⟨wff, -, routes⟩ := form_routes s false wf
  obtain ⟨w, same⟩ := routes r
  exact ⟨wff, by rw [show s.timerForm.route r = (s.form false).route r from rfl, same]⟩

theorem timerRoute_takes (r : Nat) (p : RSt → Bool) (slot : Ev → Nat → Ev) (s : State) (cycles : s.mod.mode.cycles = true)
    (due : p (s.ixl.resolved.route r).st = true) (running : (s.ixl.resolved.route r).timer ≠ 0xFFFF) :
    timerRoute r p slot s = s.adoptTimer (slot (s.dueRoute r) r).afterTimer := by
  unfold timerRoute
  exact if_pos (by simp [cycles, due, running])

theorem dueRoute_alike (s : State) (r : Nat) (wf : Tab.wf s.ixl.resolved.routes = true) : (s.dueRoute r).Alike s.timerForm :=
  modRoute_alike (.refl _) r _ (timerForm_routes s r wf).1 fun _ => ⟨rfl, rfl, rfl⟩

theorem dueRoute_st (s : State) (r : Nat) (wf : Tab.wf s.ixl.resolved.routes = true) :
    ((s.dueRoute r).route r).st = (s.ixl.resolved.route r).st :=
  ((dueRoute_alike s r wf).2.2 r).1.trans (timerForm_routes s r wf).2

theorem dueRoute_timer (s : State) (r : Nat) : ((s.dueRoute r).route r).timer = 1 := by
  unfold State.dueRoute
  rw [modRoute_route_same]

theorem dueRoute_wf (s : State) (r : Nat) (wf : Tab.wf s.ixl.resolved.routes = true) : Tab.wf (s.dueRoute r).v.routes = true :=
  modRoute_wf _ _ _ (timerForm_routes s r wf).1

theorem opened_alike {t e : Ev} (alike : t.Alike e) (r : Nat) (wf : Tab.wf t.v.routes = true) : (t.opened r).Alike e := by
  have ticked : (t.tickRoute r).Alike e := modRoute_alike alike r _ wf fun _ => ⟨rfl, rfl, rfl⟩
  obtain ⟨c, noted⟩ := noteConflict_eq (t.tickRoute r) r
  rw [Ev.opened, noted]
  exact conflicts_alike ticked c

/-- The slot's opening changes the route's timer and the conflicts noted. -/
theorem opened_eq (e : Ev) (r : Nat) : ∃ c, e.opened r = { e.tickRoute r with conflicts := c } := noteConflict_eq (e.tickRoute r) r

theorem opened_wf (e : Ev) (r : Nat) (wf : Tab.wf e.v.routes = true) : Tab.wf (e.opened r).v.routes = true := by
  obtain ⟨c, eq⟩ := opened_eq e r
  rw [eq]
  exact Tab.put_wf _ _ _ wf

theorem firstOccupied_opened (e : Ev) (r : Nat) (d : RouteDef) :
    ((e.opened r).sections d).head?.any (e.opened r).tsOcc = (e.sections d).head?.any e.tsOcc := by
  obtain ⟨c, eq⟩ := opened_eq e r
  rw [eq]
  rfl

theorem dueRoute_free (r : Nat) (d : RouteDef) (s : State) (free : (s.timerForm.sections d).head?.any s.timerForm.tsOcc = false) :
    (((s.dueRoute r).opened r).sections d).head?.any ((s.dueRoute r).opened r).tsOcc = false :=
  (firstOccupied_opened (s.dueRoute r) r d).trans free

/-- A route's state after its timer's step is what its slot made it. -/
theorem adoptTimer_st (s : State) (e : Ev) (r : Nat) (wf : Tab.wf e.v.routes = true) :
    ((s.adoptTimer e.afterTimer).ixl.resolved.route r).st = (e.route r).st := afterTimer_st e r wf

theorem adoptTimer_leaves (s : State) (e : Ev) : (s.adoptTimer e.afterTimer).ixl.leaves = e.leaves := by
  rw [afterTimer_eq]
  rfl

theorem adoptTimer_stored (s : State) (e : Ev) (r : Nat) (mem : r ∈ (s.adoptTimer e.afterTimer).ixl.stored) : r ∈ e.stored := by
  rw [afterTimer_eq] at mem
  exact List.mem_of_mem_filter mem

/-- What a form keeps of a route that is active stays with the module. -/
theorem adoptTimer_use (s : State) (e : Ev) (r : Nat) (wf : Tab.wf e.v.routes = true) (wfUse : Tab.wf e.use = true)
    (active : (e.route r).st.active = true) : Tab.getD (s.adoptTimer e.afterTimer).ixl.use r .none = e.useOf r := by
  have stays : (e.afterTimer.v.route r).st.active = true := (congrArg RSt.active (afterTimer_st e r wf)).trans active
  have use : (s.adoptTimer e.afterTimer).ixl.use = e.use.filter fun p => (e.afterTimer.v.route p.1).st.active := by
    rw [afterTimer_eq]
    rfl
  rw [use, Tab.getD, Tab.get_filter _ _ _ wfUse, Ev.useOf, Tab.getD]
  cases Tab.get? e.use r with
  | none => rfl
  | some u => simp [Option.filter, stays]

/-! ### Each time of a route at its end -/

section
variable (r : Nat) (d : RouteDef) (s : State) (cycles : s.mod.mode.cycles = true) (defined : Tab.get? s.image.routes r = some d)
  (wf : Tab.wf s.ixl.resolved.routes = true) (running : (s.ixl.resolved.route r).timer ≠ 0xFFFF)
include cycles defined wf running

theorem storageTime_ends (requested : (s.ixl.resolved.route r).st = .requested) (fails : (s.timerForm.setFail r d).status ≠ stOk) :
    On (timerRoute r (· = .requested) Ev.candidateSlot s) fun t => (t.ixl.resolved.route r).st = .idle ∧ r ∉ t.ixl.stored ∧
      Tab.getD t.ixl.leaves r stOk = (s.timerForm.setFail r d).status := by
  let e : Ev := (s.dueRoute r).modRoute r fun x => { x with timer := 0 }
  let f : Ev := { e.toIdle r with leaves := Tab.put e.leaves r (s.timerForm.setFail r d).status }
  have slot : (s.dueRoute r).candidateSlot r = f := by
    have st : (e.route r).st = .requested := by rw [modRoute_route_same]; exact (dueRoute_st s r wf).trans requested
    have alike : e.Alike s.timerForm := modRoute_alike (dueRoute_alike s r wf) r _ (dueRoute_wf s r wf) fun _ => ⟨rfl, rfl, rfl⟩
    have def_ : (s.dueRoute r).def? r = some d := defined
    unfold Ev.candidateSlot
    rw [def_]
    simp only [emergency_quiet (s.dueRoute r) r d rfl, (dueRoute_st s r wf).trans requested, dueRoute_timer, tickTimer_one]
    rw [marks_quiet e r rfl, cancel_quiet e r d rfl, reqsOf_quiet (s.dueRoute r) r _ rfl, answerAll_nil]
    show (if (e.route r).st ≠ .requested then e else _) = _
    rw [if_neg (not_not_intro st), setFail_alike alike, if_neg (by simp [fails]), if_pos trivial, if_neg fails]
  have wfF : Tab.wf f.v.routes = true := toIdle_wf e r (modRoute_wf _ _ _ (dueRoute_wf s r wf))
  unfold On
  dsimp only
  rw [timerRoute_takes r _ _ s cycles (by simp [requested]) running, slot, adoptTimer_st s f r wfF, adoptTimer_leaves]
  refine ⟨toIdle_st e r, fun mem => ?_, Tab.getD_put_eq ..⟩
  have kept : r ∈ removeNat r e.stored := adoptTimer_stored s _ r mem
  simp [removeNat] at kept

/-- An active route whose slot makes it IDLE is IDLE after its timer's step. -/
theorem timerRoute_idle (p : RSt → Bool) (due : p (s.ixl.resolved.route r).st = true)
    (field : ((s.dueRoute r).opened r).fieldSlot r d true = ((s.dueRoute r).opened r).toIdle r) :
    On (timerRoute r p Ev.activeSlot s) fun t => (t.ixl.resolved.route r).st = .idle := by
  have idle := toIdle_st ((s.dueRoute r).opened r) r
  have quiet : (((s.dueRoute r).opened r).toIdle r).reqs = .empty := by
    obtain ⟨c, eq⟩ := opened_eq (s.dueRoute r) r
    rw [eq]
    rfl
  have slot : (s.dueRoute r).activeSlot r = ((s.dueRoute r).opened r).toIdle r := by
    rw [activeSlot_quiet (s.dueRoute r) _ r d true defined rfl rfl (by simp [dueRoute_timer, tickTimer_one]) field quiet (by simp [idle]),
      approach_resting _ r d true (by rw [idle]; rfl)]
  unfold On
  dsimp only
  rw [timerRoute_takes r _ _ s cycles due running, slot, adoptTimer_st s _ r (toIdle_wf _ r (opened_wf _ r (dueRoute_wf s r wf)))]
  exact idle

theorem approachLockingTime_ends (locked : (s.ixl.resolved.route r).st = .apprLocked)
    (free : (s.timerForm.sections d).head?.any s.timerForm.tsOcc = false) :
    On (timerRoute r (· = .apprLocked) Ev.activeSlot s) fun t => (t.ixl.resolved.route r).st = .idle := by
  have st : (((s.dueRoute r).opened r).route r).st = .apprLocked :=
    ((opened_alike (dueRoute_alike s r wf) r (dueRoute_wf s r wf)).2.2 r).1.trans ((timerForm_routes s r wf).2.trans locked)
  refine timerRoute_idle r d s cycles defined wf running _ (by simp [locked]) ?_
  unfold Ev.fieldSlot
  simp only [st, dueRoute_free r d s free, Bool.false_eq_true, if_false, if_true]

theorem emergencyReleaseTime_ends (emerg : (s.ixl.resolved.route r).st = .emerg) :
    On (timerRoute r (· = .emerg) Ev.activeSlot s) fun t => (t.ixl.resolved.route r).st = .idle := by
  have st : (((s.dueRoute r).opened r).route r).st = .emerg :=
    ((opened_alike (dueRoute_alike s r wf) r (dueRoute_wf s r wf)).2.2 r).1.trans ((timerForm_routes s r wf).2.trans emerg)
  refine timerRoute_idle r d s cycles defined wf running _ (by simp [emerg]) ?_
  unfold Ev.fieldSlot
  simp only [st, if_true]

theorem approachControlTime_ends (sec : Nat) (wfUse : Tab.wf s.ixl.use = true) (cleared : (s.ixl.resolved.route r).st = .cleared)
    (mode : d.acMode ≠ 0) (section_ : d.apprTs = some sec) (occupied : s.timerForm.tsOcc sec = true)
    (free : (s.timerForm.sections d).head?.any s.timerForm.tsOcc = false) (proved : s.timerForm.proved r d = true) :
    On (timerRoute r RSt.approaching Ev.activeSlot s) fun t => (t.ixl.resolved.route r).st = .cleared ∧
      (Tab.getD t.ixl.use r .none).acDone = true := by
  let f := (s.dueRoute r).opened r
  have alike : f.Alike s.timerForm := opened_alike (dueRoute_alike s r wf) r (dueRoute_wf s r wf)
  have wfF : Tab.wf f.v.routes = true := opened_wf _ r (dueRoute_wf s r wf)
  have st : (f.route r).st = .cleared := (alike.2.2 r).1.trans ((timerForm_routes s r wf).2.trans cleared)
  obtain ⟨c, eq⟩ := opened_eq (s.dueRoute r) r
  have quiet : f.reqs = .empty ∧ f.replaced = [] ∧ f.use = s.ixl.use ∧ f.tsOcc sec = s.timerForm.tsOcc sec := by
    simp only [f, eq]
    exact ⟨rfl, rfl, rfl, rfl⟩
  obtain ⟨reqs, replaced, use, occ⟩ := quiet
  have field : f.fieldSlot r d true = f := by
    unfold Ev.fieldSlot Ev.falls
    rw [proved_alike alike, proved, replaced]
    simp only [st, dueRoute_free r d s free, Bool.false_eq_true, if_false, f]
    rfl
  have slot : (s.dueRoute r).activeSlot r = f.approach r d true :=
    activeSlot_quiet (s.dueRoute r) f r d true defined rfl rfl (by simp [dueRoute_timer, tickTimer_one]) field reqs (by simp [st])
  obtain ⟨stA, wfA, wfUseA, done⟩ := approach_expired f r d sec (by rw [st]; rfl) mode section_ (occ.trans occupied) wfF
    (by rw [use]; exact wfUse)
  unfold On
  dsimp only
  rw [timerRoute_takes r _ _ s cycles (by rw [cleared]; rfl) running, slot, adoptTimer_st s _ r wfA,
    adoptTimer_use s _ r wfA wfUseA (by rw [stA, st]; rfl), stA]
  exact ⟨st, done⟩

end

end Sys2Proof.Machine
end

section
/-!
SUPPORT. The overlap release time (R106): a route in RELEASING whose last section is all that is left of it is released with its overlap.
-/

namespace Sys2Proof.Machine

open Sys2Proof

/-! ### The train's passage -/

/-- What one path section adds to a route's passage: the section and its place in the path (R104, R138). -/
def Ev.passSection (e : Ev) (next : List Nat) (released : Nat) (u : RouteUse) (p : Nat × Nat) : RouteUse :=
  let k := p.2
  if k < released then u
  else
    let occ := e.tsOcc p.1
    let rose (t : Nat) := e.tsOcc t && (e.prev.elem t).state ≠ 1
    let nextRose := (next[k]?).any rose
    let seen := u.seen.contains k || occ
    let saw := u.nexts.contains k || (occ && nextRose)
    let skipped := nextRose && !seen
    let left := e.tsClear p.1 && seen && !saw && (next[k]?).isSome
    let bad := u.bad.contains k || (e.elem p.1).state = 0 || skipped || left
    { u with seen := if seen then insertNat k u.seen else u.seen, nexts := if saw then insertNat k u.nexts else u.nexts
             bad := if bad then insertNat k u.bad else u.bad }

/-- A route's use after its passage has been tracked. -/
def Ev.passage (e : Ev) (r : Nat) (d : RouteDef) : RouteUse :=
  (e.sections d).zipIdx.foldl (e.passSection ((e.sections d).drop 1 ++ (e.beyond d).toList) (e.route r).released) (e.useOf r)

theorem track_eq (e : Ev) (r : Nat) (d : RouteDef) : e.track r d =
    (e.modUse r fun _ => e.passage r d).modRoute r fun x => { x with ovOcc := x.ovOcc || (e.ovSections d).any e.tsOcc } := rfl

/-- A section that has been released, or that is OCCUPIED, spoils no passage. -/
theorem passSection_sound (e : Ev) (next : List Nat) (released : Nat) (u : RouteUse) (p : Nat × Nat)
    (passes : p.2 < released ∨ e.tsOcc p.1 = true) (sound : u.bad = []) :
    (e.passSection next released u p).bad = [] ∧ (e.passSection next released u p).ovFreed = u.ovFreed ∧
      (e.passSection next released u p).ovTime = u.ovTime := by
  unfold Ev.passSection
  dsimp only
  split
  · exact ⟨sound, rfl, rfl⟩
  · rename_i left
    have occ : e.tsOcc p.1 = true := passes.resolve_left left
    have state : (e.elem p.1).state = 1 := of_decide_eq_true occ
    refine ⟨?_, rfl, rfl⟩
    simp [sound, occ, state, Ev.tsClear]

/-- Where the last section is all that is left and is OCCUPIED, the passage stays sound. -/
theorem passage_sound (e : Ev) (r : Nat) (d : RouteDef) (sound : (e.useOf r).bad = [])
    (left : (e.route r).released + 1 = (e.sections d).length) (occupied : (e.sections d).getLast?.any e.tsOcc = true) :
    (e.passage r d).bad = [] ∧ (e.passage r d).ovFreed = (e.useOf r).ovFreed ∧ (e.passage r d).ovTime = (e.useOf r).ovTime := by
  unfold Ev.passage
  refine List.foldlRecOn (motive := fun u : RouteUse => u.bad = [] ∧ u.ovFreed = (e.useOf r).ovFreed ∧ u.ovTime = (e.useOf r).ovTime)
    _ _ ⟨sound, rfl, rfl⟩ ?_
  rintro u ⟨bad, freed, time⟩ ⟨t, k⟩ mem
  have at_ : (e.sections d)[k]? = some t := List.mem_zipIdx_iff_getElem?.mp mem
  have passes : k < (e.route r).released ∨ e.tsOcc t = true := by
    by_cases low : k < (e.route r).released
    · exact .inl low
    · obtain ⟨bound, -⟩ := List.getElem?_eq_some_iff.mp at_
      have last : k = (e.sections d).length - 1 := by omega
      have is : (e.sections d).getLast? = some t := by rw [List.getLast?_eq_getElem?, ← last, at_]
      rw [is] at occupied
      exact .inr occupied
  obtain ⟨bad', freed', time'⟩ := passSection_sound e ((e.sections d).drop 1 ++ (e.beyond d).toList) _ u (t, k) passes bad
  exact ⟨bad', freed'.trans freed, time'.trans time⟩

/-- A section that is not CLEAR ends the run of releases. -/
theorem releaseRun_stops (e : Ev) (secs : List Nat) (n : Nat) (u : RouteUse) (hasNext : Bool) (fuel k : Nat)
    (held : (secs[k]?).any e.tsClear = false) : releaseRun e secs n u hasNext fuel k = k := by
  cases fuel with
  | zero => rfl
  | succ fuel =>
    unfold releaseRun
    rw [held]
    simp

/-! ### The release at the overlap's time -/

/-- A form that differs from another only in its routes and their use. -/
def Ev.OnSite (t e : Ev) : Prop := ∃ R U, t = { e with v := { e.v with routes := R }, use := U } ∧ (Tab.wf e.v.routes = true → Tab.wf R = true)

theorem Ev.OnSite.refl (e : Ev) : e.OnSite e := ⟨_, _, rfl, id⟩

theorem modRoute_onSite {t e : Ev} (site : t.OnSite e) (r : Nat) (f : RouteSt → RouteSt) : (t.modRoute r f).OnSite e := by
  obtain ⟨R, U, rfl, wf⟩ := site
  exact ⟨_, U, rfl, fun h => Tab.put_wf _ _ _ (wf h)⟩

theorem modUse_onSite {t e : Ev} (site : t.OnSite e) (r : Nat) (f : RouteUse → RouteUse) : (t.modUse r f).OnSite e := by
  obtain ⟨R, U, rfl, wf⟩ := site
  exact ⟨R, _, rfl, wf⟩

theorem showPassage_onSite {t e : Ev} (site : t.OnSite e) (r : Nat) : (t.showPassage r).OnSite e := by
  unfold Ev.showPassage
  exact modRoute_onSite site r _

/-- What lies on the track is the same in both. -/
theorem Ev.OnSite.same {t e : Ev} (site : t.OnSite e) (d : RouteDef) : t.sections d = e.sections d ∧ t.ovSections d = e.ovSections d ∧
    t.tsOcc = e.tsOcc ∧ t.tsClear = e.tsClear ∧ t.elem = e.elem := by
  obtain ⟨R, U, rfl, -⟩ := site
  exact ⟨rfl, rfl, rfl, rfl, rfl⟩

/-- The route and its use once the passage has been tracked and shown. -/
theorem showPassage_track (e t : Ev) (r : Nat) (d : RouteDef) (eq : t = (e.track r d).showPassage r) : t.OnSite e ∧
    t.useOf r = e.passage r d ∧ (t.route r).st = (e.route r).st ∧ (t.route r).released = (e.route r).released ∧
    (t.route r).ovOcc = ((e.route r).ovOcc || (e.ovSections d).any e.tsOcc) ∧
    (t.route r).halted = ((e.route r).halted || !(e.passage r d).bad.isEmpty) := by
  have use : (e.track r d).useOf r = e.passage r d := modUse_useOf_same e r fun _ => e.passage r d
  have route : (e.track r d).route r = { e.route r with ovOcc := (e.route r).ovOcc || (e.ovSections d).any e.tsOcc } := by
    rw [track_eq, modRoute_route_same]
    rfl
  subst eq
  unfold Ev.showPassage
  dsimp only
  rw [modRoute_route_same, route, use]
  exact ⟨modRoute_onSite (by rw [track_eq]; exact modRoute_onSite (modUse_onSite (.refl e) r _) r _) r _, use, rfl, rfl, rfl, rfl⟩

/-- The overlap time that the route started has run out with the OV's timer. -/
theorem endOverlap_over (e : Ev) (r : Nat) (d : RouteDef) (o : Nat) (overlap : d.overlap = some o) (ended : (e.elem o).ta = 0)
    (time : (e.useOf r).ovTime = .running) : e.endOverlap r d = e.modUse r fun u => { u with ovTime := .over } := by
  unfold Ev.endOverlap
  rw [if_pos (by simp [time, overlap, ended])]

theorem startOverlap_started (e : Ev) (r : Nat) (d : RouteDef) (rose : Bool) (time : (e.useOf r).ovTime = .over) :
    e.startOverlap r d rose = e := by
  unfold Ev.startOverlap
  split
  · rw [if_neg (by simp [time])]
  · rfl

/-- The last section and the overlap are released together: the route becomes IDLE. -/
theorem release_ends (e : Ev) (r : Nat) (d : RouteDef) (o : Nat) (overlap : d.overlap = some o) (ended : (e.elem o).ta = 0)
    (releasing : (e.route r).st = .releasing) (sound : (e.route r).halted = false ∧ (e.useOf r).bad = [])
    (unused : (e.route r).ovOcc = false ∧ (e.ovSections d).any e.tsOcc = false)
    (held : (e.useOf r).ovFreed = false ∧ (e.useOf r).ovTime = .running) (left : (e.route r).released + 1 = (e.sections d).length)
    (occupied : (e.sections d).getLast?.any e.tsOcc = true) :
    ∃ (t : Ev) (f : List Nat), e.release r d = { t.toIdle r with freed := f } ∧ t.OnSite e := by
  obtain ⟨bad, freed, time⟩ := passage_sound e r d sound.2 left occupied
  have lastHeld : ((e.sections d)[(e.route r).released]?).any e.tsClear = false := by
    rw [List.getLast?_eq_getElem?, show (e.sections d).length - 1 = (e.route r).released by omega] at occupied
    cases at_ : (e.sections d)[(e.route r).released]? with
    | none => rfl
    | some t =>
      rw [at_] at occupied
      have state : (e.elem t).state = 1 := of_decide_eq_true occupied
      simp [Ev.tsClear, state]
  unfold Ev.release
  extract_lets e1 secs n lastOcc lastRose e2 k0 k atEnd k' e3 e4 ovDone
  obtain ⟨site1, use1, st1, released1, ovOcc1, halted1⟩ := showPassage_track e e1 r d rfl
  obtain ⟨secs1, -, occ1, clear1, elem1⟩ := site1.same d
  have e2_eq : e2 = e1.modUse r fun u => { u with ovTime := .over } := by
    have ends := endOverlap_over e1 r d o overlap (by rw [elem1]; exact ended) (by rw [use1, time]; exact held.2)
    simp only [e2, ends]
    exact startOverlap_started _ r d _ (by rw [modUse_useOf_same])
  have route2 : e2.route r = e1.route r := by rw [e2_eq]; rfl
  have use2 : (e2.useOf r).ovFreed = false ∧ (e2.useOf r).ovTime = .over ∧ (e2.useOf r).bad = [] := by
    rw [e2_eq, modUse_useOf_same, use1]
    exact ⟨freed.trans held.1, rfl, bad⟩
  have intact : (e2.route r).halted = false ∧ (e2.route r).ovOcc = false := by
    rw [route2, halted1, ovOcc1, sound.1, bad, unused.1, unused.2]
    exact ⟨rfl, rfl⟩
  have clear2 : e2.tsClear = e.tsClear := by rw [e2_eq]; exact clear1
  have k_eq : k = (e.route r).released := by
    have k0_eq : k0 = (e.route r).released := by simp only [k0, route2, released1]
    simp only [k, intact.1, Bool.false_eq_true, if_false]
    rw [k0_eq]
    exact releaseRun_stops e2 _ _ _ _ _ _ (by rw [clear2]; simp only [secs, secs1]; exact lastHeld)
  have n_eq : n = (e.sections d).length := congrArg List.length secs1
  have atEnd_true : atEnd = true := by
    have lastOcc_true : lastOcc = true := by simp only [lastOcc, secs, secs1, occ1]; exact occupied
    simp [atEnd, overlap, use2, intact, lastOcc_true, k_eq, n_eq, left]
  have k'_eq : k' = n := if_pos atEnd_true
  have use3 : (e3.useOf r).ovFreed = true := by simp [e3, atEnd_true]
  have st4 : (e4.route r).st = .releasing := by
    have route3 : e3.route r = { e2.route r with released := k' } := modRoute_route_same e2 r fun x => { x with released := k' }
    have shown : (e4.route r).st = (e3.route r).st := by simp only [e4, Ev.showPassage, modRoute_route_same]
    rw [shown, route3, route2, st1, releasing]
  have freed4 : ovDone = true := by
    have use4 : e4.useOf r = e3.useOf r := rfl
    simp [ovDone, use4, use3]
  have site2 : e2.OnSite e := by rw [e2_eq]; exact modUse_onSite site1 r _
  have site3 : e3.OnSite e := modUse_onSite (modRoute_onSite site2 r fun x => { x with released := k' }) r _
  have site4 : e4.OnSite e := showPassage_onSite site3 r
  rw [st4]
  simp only [k'_eq, freed4, decide_true, Bool.and_self, if_true]
  split
  · exact ⟨e4, _, rfl, site4⟩
  · exact ⟨e4, _, rfl, site4⟩

/-- The slot of a route in RELEASING at the end of its overlap's time makes it IDLE. -/
theorem activeSlot_releases (e : Ev) (r : Nat) (d : RouteDef) (o : Nat) (defined : e.def? r = some d) (quiet : e.reqs = .empty)
    (free : e.taken = []) (overlap : d.overlap = some o) (ended : (e.elem o).ta = 0) (releasing : (e.route r).st = .releasing)
    (sound : (e.route r).halted = false ∧ (e.useOf r).bad = [])
    (unused : (e.route r).ovOcc = false ∧ (e.ovSections d).any e.tsOcc = false)
    (held : (e.useOf r).ovFreed = false ∧ (e.useOf r).ovTime = .running) (left : (e.route r).released + 1 = (e.sections d).length)
    (occupied : (e.sections d).getLast?.any e.tsOcc = true) (wf : Tab.wf e.v.routes = true) :
    ((e.activeSlot r).route r).st = .idle ∧ Tab.wf (e.activeSlot r).v.routes = true ∧ (e.activeSlot r).v.elems = e.v.elems ∧
      (e.activeSlot r).img = e.img := by
  obtain ⟨c, eq⟩ := opened_eq e r
  have route : ∃ y, (e.opened r).route r = { e.route r with timer := y } := by
    have ticked : (e.opened r).route r = (e.tickRoute r).route r := by rw [eq]; rfl
    rw [ticked, Ev.tickRoute, modRoute_route_same]
    exact ⟨_, rfl⟩
  obtain ⟨y, route⟩ := route
  have site : (e.opened r).tsOcc = e.tsOcc ∧ (e.opened r).elem = e.elem ∧ (e.opened r).useOf r = e.useOf r ∧
      (e.opened r).sections d = e.sections d ∧ (e.opened r).ovSections d = e.ovSections d := by
    rw [eq]
    exact ⟨rfl, rfl, rfl, rfl, rfl⟩
  obtain ⟨occ, elem, use, secs, ovSecs⟩ := site
  obtain ⟨t, freed, released, R, U, tEq, wfT⟩ := release_ends (e.opened r) r d o overlap (by rw [elem]; exact ended)
    (by rw [route]; exact releasing) (by rw [route, use]; exact sound) (by rw [route, ovSecs, occ]; exact unused) (by rw [use]; exact held)
    (by rw [route, secs]; exact left) (by rw [secs, occ]; exact occupied)
  let g : Ev := { t.toIdle r with freed := freed }
  have idle : (g.route r).st = .idle := toIdle_st t r
  have field : (e.opened r).fieldSlot r d (decide (tickTimer (e.route r).timer = 0)) = g := by
    unfold Ev.fieldSlot
    simp only [route, releasing]
    exact released
  have quietG : g.reqs = .empty := by
    simp only [g, tEq, eq]
    exact quiet
  have slot : e.activeSlot r = g := by
    rw [activeSlot_quiet e g r d _ defined quiet free rfl field quietG (by simp [idle]), approach_resting g r d _ (by rw [idle]; rfl)]
  rw [slot]
  refine ⟨idle, toIdle_wf t r (by rw [tEq]; exact wfT (opened_wf e r wf)), ?_, ?_⟩
  · simp only [g, tEq, eq]
    rfl
  · simp only [g, tEq, eq]
    rfl

/-! ### The overlap's timer at its end -/

/-- The form in which the overlap's timer is at its end. -/
def State.overlapDue (s : State) (o : Nat) : Ev := s.timerForm.modElem o fun x => { x with ta := 0 }

/-- The routes in passage that use an overlap. -/
def Ev.passing (e : Ev) (o : Nat) : List Nat :=
  e.actives.filter fun r => ((e.route r).st = .inUse || (e.route r).st = .releasing) && (e.def? r).any fun d => d.overlap = some o

theorem overlapReleaseOp_due (o : Nat) (ov : ElemDef) (s : State) (cycles : s.mod.mode.cycles = true)
    (here : Tab.get? s.image.elems o = some ov) (kind : ov.kind = .ov) (running : (s.ixl.resolved.elem o).ta ≠ 0xFFFF) :
    overlapReleaseOp o s = s.adoptTimer ((s.overlapDue o).each ((s.overlapDue o).passing o) Ev.activeSlot).afterTimer := by
  unfold overlapReleaseOp
  exact if_pos (by simp [cycles, State.isElem, here, kind, running])

theorem overlapDue_tsOcc (s : State) (o : Nat) (wf : Tab.wf s.ixl.resolved.elems = true) :
    (s.overlapDue o).tsOcc = s.timerForm.tsOcc := by
  funext p
  unfold Ev.tsOcc State.overlapDue
  by_cases here : p = o
  · rw [here, modElem_elem_same]
  · rw [modElem_elem_ne s.timerForm _ _ _ here wf]

/-- One route in passage, all of whose path but the OCCUPIED last section has been released, with its overlap's time running. -/
theorem overlapReleaseOp_ends (o r : Nat) (x : RouteSt) (d : RouteDef) (ov : ElemDef) (s : State) (cycles : s.mod.mode.cycles = true)
    (here : Tab.get? s.image.elems o = some ov) (kind : ov.kind = .ov) (running : (s.ixl.resolved.elem o).ta ≠ 0xFFFF)
    (alone : s.ixl.resolved.routes = [(r, x)]) (releasing : x.st = .releasing) (unused : x.ovOcc = false)
    (defined : Tab.get? s.image.routes r = some d) (overlap : d.overlap = some o) (sound : x.halted = false)
    (held : (Tab.getD s.ixl.use r .none).ovFreed = false ∧ (Tab.getD s.ixl.use r .none).ovTime = .running)
    (clean : (Tab.getD s.ixl.use r .none).bad = []) (left : x.released + 1 = (s.timerForm.sections d).length)
    (occupied : (s.timerForm.sections d).getLast?.any s.timerForm.tsOcc = true)
    (free : (s.timerForm.ovSections d).any s.timerForm.tsOcc = false) (wf : Tab.wf s.ixl.resolved.elems = true) :
    On (overlapReleaseOp o s) fun t => (t.ixl.resolved.route r).st = .idle ∧ (t.ixl.resolved.elem o).ta = 0xFFFF := by
  let e := s.overlapDue o
  have wfR : Tab.wf s.ixl.resolved.routes = true := by rw [alone]; rfl
  have listed : s.ixl.resolved.route r = x := by
    rw [Verdict.route, alone]
    simp [Tab.getD, Tab.get?]
  obtain ⟨wfE, actives, routes⟩ := form_routes s false wfR
  obtain ⟨w, route⟩ := routes r
  have routeE : e.route r = { x with withheld := w } := by rw [← listed]; exact route
  have occE : e.tsOcc = s.timerForm.tsOcc := overlapDue_tsOcc s o wf
  have ended : (e.elem o).ta = 0 := by simp only [e, State.overlapDue, modElem_elem_same]
  have def_ : e.def? r = some d := defined
  have passing : e.passing o = [r] := by
    have activesE : e.actives = [r] := by
      refine actives.trans ?_
      rw [alone]
      simp [releasing, RSt.active]
    unfold Ev.passing
    rw [activesE]
    simp [routeE, releasing, def_, overlap]
  obtain ⟨idle, wfG, elems, img⟩ := activeSlot_releases e r d o def_ rfl rfl overlap ended (by rw [routeE]; exact releasing)
    ⟨by rw [routeE]; exact sound, clean⟩ ⟨by rw [routeE]; exact unused, by rw [occE]; exact free⟩ held (by rw [routeE]; exact left)
    (by rw [occE]; exact occupied) wfE
  have op : overlapReleaseOp o s = s.adoptTimer (e.activeSlot r).afterTimer := by
    rw [overlapReleaseOp_due o ov s cycles here kind running, passing]
    rfl
  have defG : (e.activeSlot r).elemDef? o = some ov := by rw [Ev.elemDef?, img]; exact here
  have elemG : (e.activeSlot r).elem o = e.elem o := by rw [Ev.elem, Verdict.elem, elems]; rfl
  have wfElems : Tab.wf (e.activeSlot r).v.elems = true := by rw [elems]; exact modElem_wf s.timerForm o _ wf
  unfold On
  dsimp only
  rw [op, adoptTimer_st s _ r wfG]
  refine ⟨idle, ?_⟩
  show ((e.activeSlot r).afterTimer.elem o).ta = 0xFFFF
  rw [afterTimer_elem _ o ov defG]
  refine finish_overlap _ o ov kind ?_
  rcases boundaryZones_elem _ o wfElems with same | same <;> rw [same, elemG] <;> exact ended

/-- Settles O36: each route's slot with its time at its end, and what step 7 of R67 leaves of its state. -/
theorem routeTimerCommands : Obligations.RouteTimerCommands := by
  unfold Obligations.RouteTimerCommands
  refine ⟨?_, ?_, ?_, ?_, ?_⟩
  · intro r d s cycles defined wf requested running fails
    exact ⟨_, rfl, storageTime_ends r.toNat d s cycles defined wf running requested fails⟩
  · intro r d sec s cycles defined wf wfUse cleared running mode section_ occupied free proved
    exact ⟨_, rfl, approachControlTime_ends r.toNat d s cycles defined wf running sec wfUse cleared mode section_ occupied free proved⟩
  · intro r d s cycles defined wf locked running free
    exact ⟨_, rfl, approachLockingTime_ends r.toNat d s cycles defined wf running locked free⟩
  · intro r d s cycles defined wf emerg running
    exact ⟨_, rfl, emergencyReleaseTime_ends r.toNat d s cycles defined wf running emerg⟩
  · intro o r x d ov s cycles here kind running alone releasing unused defined overlap sound unfreed timed clean left occupied free wf
    exact ⟨_, rfl, overlapReleaseOp_ends o.toNat r x d ov s cycles here kind running alone releasing unused defined overlap sound
      ⟨unfreed, timed⟩ clean left occupied free wf⟩

end Sys2Proof.Machine
end


section
/-!
SUPPORT. A vital command that stands alone: its parameters read back, its answer, and what it leaves of the interlocking state
(R67, R168, R310, R325, R327, R331).
-/

namespace Sys2Proof.Machine

open Sys2Proof

/-! ### Parameters read back (R5, R325, R331) -/

theorem leBytes_length (n v : Nat) : (leBytes n v).length = n := by
  induction n generalizing v with
  | zero => rfl
  | succ n ih => rw [leBytes, List.length_cons, ih]

theorem ofLe_leBytes (n v : Nat) : ofLe (leBytes n v) = v % 256 ^ n := by
  induction n generalizing v with
  | zero => rw [leBytes, ofLe, pow_zero, Nat.mod_one]
  | succ n ih =>
    have low : (BitVec.ofNat 8 v).toNat = v % 256 := BitVec.toNat_ofNat v 8
    rw [leBytes, ofLe, ih, low, pow_succ', Nat.mod_mul]

theorem stationParams_length (target action step : Nat) (token : Word) : (stationParams target action step token).length = 8 := rfl

@[simp] theorem stationParams_target (o : BitVec 16) (action step : Nat) (token : Word) :
    leAt (stationParams o.toNat action step token) 0 2 = o.toNat := (ofLe_leBytes 2 o.toNat).trans (Nat.mod_eq_of_lt o.isLt)

@[simp] theorem stationParams_action (target step : Nat) (act : Byte) (token : Word) :
    byteAt (stationParams target act.toNat step token) 2 = act.toNat := Nat.mod_eq_of_lt act.isLt

@[simp] theorem stationParams_noAction (target step : Nat) (token : Word) : byteAt (stationParams target 0 step token) 2 = 0 := rfl

@[simp] theorem stationParams_step (target action step : Nat) (token : Word) (byte : step < 256) :
    byteAt (stationParams target action step token) 3 = step := Nat.mod_eq_of_lt byte

@[simp] theorem stationParams_token (target action step : Nat) (token : Word) :
    BitVec.ofNat 32 (leAt (stationParams target action step token) 4 4) = token :=
  (congrArg (BitVec.ofNat 32) ((ofLe_leBytes 4 token.toNat).trans (Nat.mod_eq_of_lt token.isLt))).trans (BitVec.ofNat_toNat 32 token)

/-- The words behind a message's head. -/
theorem words_read (head : List Byte) (ws : List Word) (i : Nat) (bound : i < ws.length) :
    BitVec.ofNat 32 (leAt (head ++ ws.flatMap (bytesOf 4)) (head.length + 4 * i) 4) = ws[i] := by
  have behind : (head ++ ws.flatMap (bytesOf 4)).drop (head.length + 4 * i) = (ws.flatMap (bytesOf 4)).drop (4 * i) := by
    rw [List.drop_append, List.drop_of_length_le (by omega), List.nil_append, Nat.add_sub_cancel_left]
  unfold leAt
  rw [behind]
  clear behind
  induction ws generalizing i with
  | nil => exact absurd bound (by simp)
  | cons w ws ih =>
    have width : (bytesOf 4 w).length = 4 := leBytes_length 4 w.toNat
    rw [List.flatMap_cons]
    cases i with
    | zero =>
      have value : ofLe (bytesOf 4 w) = w.toNat := (ofLe_leBytes 4 w.toNat).trans (Nat.mod_eq_of_lt w.isLt)
      rw [Nat.mul_zero, List.drop_zero, List.take_left' width, value]
      exact BitVec.ofNat_toNat 32 w
    | succ i =>
      have next : 4 * (i + 1) = (bytesOf 4 w).length + 4 * i := by omega
      rw [next, List.drop_append, List.drop_of_length_le (by omega), List.nil_append, Nat.add_sub_cancel_left, ih i (by simpa using bound)]
      rfl

/-! ### Answers -/

theorem sendPacket_replies (s : State) (p : Packet) : (s.sendPacket p).host.replies = s.host.replies := by
  unfold State.sendPacket
  split <;> rfl

theorem complete_replies (s : State) (c : Completion) (status : Nat) (data : List Byte) :
    (s.complete c status data).host.replies = s.host.replies := by
  unfold State.complete
  refine keep_foldl (fun s => s.host.replies) _ (fun t d => ?_) _ s
  unfold State.unsol
  dsimp only
  split
  · rfl
  · rw [sendPacket_replies]

theorem sendCompletions_replies (s : State) : s.sendCompletions.host.replies = s.host.replies :=
  keep_foldl (fun s => s.host.replies) _ (fun t c => complete_replies t c _ _) _ _

theorem sendCompletions_ixl (s : State) : s.sendCompletions.ixl =
    { s.ixl with completions := s.ixl.completions.filter fun c => (s.completionStatus c).isNone } := by
  refine keep_foldl (fun s => s.ixl) _ (fun t c => ?_) _ _
  exact (State_complete_frame t c _ _).2.2.2.2.2.1

/-- The lanes that write replies are those of the state before, where mode and lanes are. -/
theorem reply_answered (s u : State) (h : CmdHdr) (op st : Nat) (ps : List Byte) (mod : u.mod = s.mod) (lanes : u.lanes = s.lanes)
    (host : u.host = s.host) : Answered s ((u.reply h op st ps).sendCompletions) h op st ps := by
  have writers : u.writers = s.writers := by
    unfold State.writers State.votingLanes State.replyingLanes State.lanesWith
    rw [mod, lanes]
  unfold Answered
  rw [sendCompletions_replies]
  unfold State.reply State.holdReply
  rw [writers, host]

/-! ### A command that stands alone -/

/-- The state in which a command that stands alone is decoded: nothing else is asked in it. -/
def State.alone (s : State) : State := { s with ixl := { s.ixl with reqList := .empty, nbrFresh := [] } }

/-- What a command that stands alone and has been decoded makes of the module. -/
def State.settleAlone (u : State) (d : Decoded) : State :=
  let e := (u.form false).runAlone
  let r := (u.adopt e).settleOne d e.answers
  (r.1.reply d.cmd.hdr d.cmd.opcode r.2.status r.2.params).sendCompletions

theorem decodeOne_cmd (s : State) (c : VitalCmd) : (s.decodeOne c).2.cmd = c := by
  unfold State.decodeOne
  split <;> rfl

theorem judgeAlone_accepted (s : State) (c : VitalCmd) (accepted : Accepts s c.hdr c.opcode none) :
    s.judgeAlone c = (s.alone.decodeOne c).1.settleAlone (s.alone.decodeOne c).2 := by
  unfold State.judgeAlone
  rw [serve_accepts s c.hdr c.opcode none _ accepted]
  unfold State.settleAlone
  rw [decodeOne_cmd]
  rfl

end Sys2Proof.Machine
end


section
/-!
SUPPORT. Boundary frames and application messages (R110, R168, R331), and the element commands (R71, R75, R78, R83, R97, R99, R101, R326,
R328), each standing alone.
-/

namespace Sys2Proof.Machine

open Sys2Proof

/-! ### Boundary frames and messages -/

/-- What the module keeps of its own when it takes a form's results. -/
theorem adopt_ixl (u : State) (e : Ev) : (u.adopt e).ixl.resolved = e.v ∧ (u.adopt e).ixl.tokens = u.ixl.tokens ∧
    (u.adopt e).ixl.completions = u.ixl.completions ∧ (u.adopt e).ixl.nbr = u.ixl.nbr := ⟨rfl, rfl, rfl, rfl⟩

theorem reply_ixl (u : State) (h : CmdHdr) (op st : Nat) (ps : List Byte) : (u.reply h op st ps).ixl = u.ixl := by simp

/-- A command that was answered when it was decoded leaves what the decoding made of boundaries and inboxes. -/
theorem settleAlone_done (s u : State) (c : VitalCmd) (st : Nat) (ps : List Byte) (mod : u.mod = s.mod) (lanes : u.lanes = s.lanes)
    (host : u.host = s.host) : On (u.settleAlone ⟨c, some st, ps⟩) fun t => t.ixl.nbr = u.ixl.nbr ∧ t.sheets = u.sheets ∧
      Answered s t c.hdr c.opcode st ps := by
  have settled (v : State) (answers : List (Origin × Nat)) :
      v.settleOne ⟨c, some st, ps⟩ answers = (v, ⟨c.hdr, c.opcode, st, ps⟩) := rfl
  unfold On State.settleAlone
  dsimp only
  rw [settled]
  generalize (u.form false).runAlone = e
  refine ⟨?_, by simp, reply_answered s (u.adopt e) c.hdr c.opcode st ps mod lanes host⟩
  rw [sendCompletions_ixl, reply_ixl]
  exact (adopt_ixl u e).2.2.2

theorem frameAct_admitted (s : State) (h : CmdHdr) (bb theirs : BitVec 16) (dir fl ea : Byte) (cyc : Word) (dirs : dir.toNat ≤ 2)
    (flags : fl.toNat < 64) (aspect : ea.toNat < 16) (row : ∃ b ∈ s.image.bounds, b.bb = bb.toNat ∧ b.source = h.source.toNat ∧
      b.queue = h.queue.val ∧ b.theirBb = theirs.toNat) :
    s.vitalAct ⟨h, 0x0F01, fields [(2, bb.toNat), (2, theirs.toNat), (1, dir.toNat), (1, fl.toNat), (1, ea.toNat), (1, 0), (4, cyc.toNat), (4, 0)]⟩ =
      .frame bb.toNat ⟨dir.toNat, bitOf fl.toNat 0, bitOf fl.toNat 1, bitOf fl.toNat 2, bitOf fl.toNat 3, bitOf fl.toNat 4,
        bitOf fl.toNat 5, ea.toNat, cyc⟩ := by
  let p := fields [(2, bb.toNat), (2, theirs.toNat), (1, dir.toNat), (1, fl.toNat), (1, ea.toNat), (1, 0), (4, cyc.toNat), (4, 0)]
  have byte (v : Byte) : (BitVec.ofNat 8 v.toNat).toNat = v.toNat := Nat.mod_eq_of_lt v.isLt
  have bb_ : leAt p 0 2 = bb.toNat := (ofLe_leBytes 2 bb.toNat).trans (Nat.mod_eq_of_lt bb.isLt)
  have theirs_ : leAt p 2 2 = theirs.toNat := (ofLe_leBytes 2 theirs.toNat).trans (Nat.mod_eq_of_lt theirs.isLt)
  have dir_ : byteAt p 4 = dir.toNat := byte dir
  have fl_ : byteAt p 5 = fl.toNat := byte fl
  have ea_ : byteAt p 6 = ea.toNat := byte ea
  have cyc_ : leAt p 8 4 = cyc.toNat := (ofLe_leBytes 4 cyc.toNat).trans (Nat.mod_eq_of_lt cyc.isLt)
  have zero : byteAt p 7 = 0 ∧ leAt p 12 4 = 0 ∧ p.length = 16 := ⟨rfl, rfl, rfl⟩
  obtain ⟨rest, last, length⟩ := zero
  have admitted : (s.image.bounds.any fun b => b.bb = bb.toNat && b.source = h.source.toNat && b.queue = h.queue.val && b.theirBb = theirs.toNat) = true := by
    obtain ⟨b, mem, is, source, queue, their⟩ := row
    exact List.any_eq_true.mpr ⟨b, mem, by simp [is, source, queue, their]⟩
  show s.frameAct ⟨h, 0x0F01, p⟩ = _
  unfold State.frameAct
  simp only [bb_, theirs_, dir_, fl_, ea_, cyc_, rest, last, length, admitted]
  simp [Nat.not_lt.mpr dirs, Nat.not_le.mpr flags, Nat.not_le.mpr aspect]

theorem boundaryFrame_taken (s : State) (c : VitalCmd) (bb : Nat) (n : NbrData) (accepted : Accepts s c.hdr c.opcode none)
    (act : s.alone.vitalAct c = .frame bb n) :
    On (s.judgeAlone c) fun t => Tab.get? t.ixl.nbr bb = some n ∧ Answered s t c.hdr c.opcode stOk [] := by
  rw [judgeAlone_accepted s c accepted]
  let x : IxlS := { s.alone.ixl with nbr := Tab.put s.ixl.nbr bb n, nbrFresh := insertNat bb s.alone.ixl.nbrFresh }
  let u : State := { s.alone with ixl := x }
  have decoded : s.alone.decodeOne c = (u, ⟨c, some stOk, []⟩) := by
    unfold State.decodeOne
    rw [act]
    rfl
  rw [decoded]
  obtain ⟨nbr, -, answered⟩ := settleAlone_done s u c stOk [] rfl rfl rfl
  exact ⟨by rw [nbr]; exact Tab.get_put_eq .., answered⟩

theorem messageAct_admitted (s : State) (h : CmdHdr) (box : BitVec 16) (n : Byte) (ws : List Word) (few : n.toNat ≤ 8)
    (length : ws.length = n.toNat) (inbox : ∃ b ∈ s.image.blocks, b.2.type = 0x29 ∧ bits b.2.param 15 0 = box.toNat) :
    s.vitalAct ⟨h, 0x0C01, fields [(2, box.toNat), (1, n.toNat), (1, 0)] ++ ws.flatMap (bytesOf 4)⟩ = .message box.toNat ws := by
  let head := fields [(2, box.toNat), (1, n.toNat), (1, 0)]
  let p := head ++ ws.flatMap (bytesOf 4)
  have box_ : leAt p 0 2 = box.toNat := (ofLe_leBytes 2 box.toNat).trans (Nat.mod_eq_of_lt box.isLt)
  have n_ : byteAt p 2 = n.toNat := Nat.mod_eq_of_lt n.isLt
  have rest : byteAt p 3 = 0 := rfl
  have wordsLength : (ws.flatMap (bytesOf 4)).length = 4 * ws.length := by
    rw [List.length_flatMap]
    simp [bytesOf, leBytes_length, Nat.mul_comm]
  have plen : p.length = 4 + 4 * n.toNat := by
    rw [List.length_append, wordsLength, length]
    rfl
  have words : (List.range n.toNat).map (fun i => BitVec.ofNat 32 (leAt p (4 + 4 * i) 4)) = ws := by
    refine List.ext_getElem (by simp [length]) fun i _ bound => ?_
    rw [List.getElem_map, List.getElem_range]
    exact words_read head ws i bound
  have set : (s.image.blocks.any fun b => b.2.type = 0x29 && bits b.2.param 15 0 = box.toNat) = true := by
    obtain ⟨b, mem, type, id⟩ := inbox
    exact List.any_eq_true.mpr ⟨b, mem, by simp [type, id]⟩
  show s.messageAct ⟨h, 0x0C01, p⟩ = _
  unfold State.messageAct
  simp only [box_, n_, rest, plen, words, set]
  simp [Nat.not_lt.mpr few]

theorem message_taken (s : State) (c : VitalCmd) (box : Nat) (ws : List Word) (accepted : Accepts s c.hdr c.opcode none)
    (act : s.alone.vitalAct c = .message box ws) :
    On (s.judgeAlone c) fun t => Tab.get? t.sheets.inboxes box = some ⟨(Tab.getD s.sheets.inboxes box ⟨0, []⟩).seq + 1, ws⟩ ∧
      Answered s t c.hdr c.opcode stOk [] := by
  rw [judgeAlone_accepted s c accepted]
  let boxes := Tab.put s.sheets.inboxes box ⟨(Tab.getD s.sheets.inboxes box ⟨0, []⟩).seq + 1, ws⟩
  let u : State := { s.alone with sheets := { s.sheets with inboxes := boxes } }
  have decoded : s.alone.decodeOne c = (u, ⟨c, some stOk, []⟩) := by
    unfold State.decodeOne
    rw [act]
    rfl
  rw [decoded]
  obtain ⟨-, sheets, answered⟩ := settleAlone_done s u c stOk [] rfl rfl rfl
  exact ⟨by rw [sheets]; exact Tab.get_put_eq .., answered⟩

end Sys2Proof.Machine
end


section
/-!
SUPPORT. Element commands that stand alone (R71, R75, R78, R83, R97, R99, R101, R326, R328): one request on the resolved state, and what
follows from it.
-/

namespace Sys2Proof.Machine

open Sys2Proof

/-! ### What follows a request leaves the elements alone -/

/-- Two forms with the same elements, image, replaced signals, requests and answers. -/
def Ev.ElemsKept (t e : Ev) : Prop :=
  t.v.elems = e.v.elems ∧ t.img = e.img ∧ t.replaced = e.replaced ∧ t.reqs = e.reqs ∧ t.answers = e.answers

theorem loseProof_kept (before e : Ev) (r : Nat) : (Ev.loseProof before e r).ElemsKept e := by
  unfold Ev.loseProof
  split
  · exact ⟨rfl, rfl, rfl, rfl, rfl⟩
  · dsimp only
    split
    · split <;> exact ⟨rfl, rfl, rfl, rfl, rfl⟩
    · split <;> exact ⟨rfl, rfl, rfl, rfl, rfl⟩
    · exact ⟨rfl, rfl, rfl, rfl, rfl⟩

theorem each_loseProof_kept (before e : Ev) (l : List Nat) : (e.each l (Ev.loseProof before)).ElemsKept e := by
  unfold Ev.each
  refine List.foldlRecOn (motive := fun t : Ev => t.ElemsKept e) _ _ ⟨rfl, rfl, rfl, rfl, rfl⟩ ?_
  rintro t ⟨elems, img, replaced, reqs, answers⟩ r -
  obtain ⟨elems', img', replaced', reqs', answers'⟩ := loseProof_kept before t r
  exact ⟨elems'.trans elems, img'.trans img, replaced'.trans replaced, reqs'.trans reqs, answers'.trans answers⟩

/-- A command that asks nothing of routes: what its requests made of the elements passes through step 7. -/
theorem runAlone_elem (e : Ev) (o : Nat) (d : ElemDef) (x : Ev) (asked : e.takeFrames.boundaryZones.elemReqs = x)
    (here : x.elemDef? o = some d) (routeless : x.reqs.routeReqs = []) :
    ∃ y : Ev, e.runAlone.elem o = y.finish o d ∧ y.elem o = x.elem o ∧ y.replaced = x.replaced ∧ e.runAlone.answers = x.answers := by
  let y := x.each x.actives (Ev.loseProof e)
  obtain ⟨elems, img, replaced, reqs, answers⟩ := each_loseProof_kept e x x.actives
  have run : e.runAlone = y.commands.trim := by
    unfold Ev.runAlone
    dsimp only
    rw [asked, reqs, routeless]
    rfl
  have defY : y.elemDef? o = some d := by rw [Ev.elemDef?, img]; exact here
  have answersY : y.commands.answers = y.answers := by rw [commands_finished]; rfl
  refine ⟨y, ?_, ?_, replaced, ?_⟩
  · rw [run]
    exact commands_elem y o d defY
  · rw [Ev.elem, Verdict.elem, elems]
    rfl
  · rw [run]
    exact answersY.trans answers

/-! ### One element request -/

/-- The module while one element request is asked. -/
def State.asking (s : State) (o : Nat) (q : ElemReq) (origin : Origin) : State :=
  { s.alone with ixl := { s.alone.ixl with reqList := ⟨[], [(o, q, origin)], []⟩ } }

/-- The form that an element request which stands alone is judged on. -/
def State.facing (s : State) (o : Nat) (q : ElemReq) (origin : Origin) : Ev := { s.standing with reqs := ⟨[], [(o, q, origin)], []⟩ }

theorem takeFrames_none (e : Ev) (fresh : e.nbrFresh = []) : e.takeFrames = e := by
  unfold Ev.takeFrames
  rw [fresh]
  split <;> rfl

theorem facing_eq (s : State) (o : Nat) (q : ElemReq) (origin : Origin) :
    ((s.asking o q origin).form false).takeFrames.boundaryZones = s.facing o q origin := by
  have form : (s.asking o q origin).form false =
      { ({ s.form false with reqs := .empty, nbrFresh := [] } : Ev) with reqs := ⟨[], [(o, q, origin)], []⟩ } := rfl
  rw [takeFrames_none _ rfl, form, boundaryZones_withReqs]
  rfl

theorem facing_def (s : State) (o : Nat) (q : ElemReq) (origin : Origin) (p : Nat) :
    (s.facing o q origin).elemDef? p = Tab.get? s.image.elems p := by
  unfold State.facing State.standing
  rw [boundaryZones_eq]
  rfl

theorem facing_answers (s : State) (o : Nat) (q : ElemReq) (origin : Origin) : (s.facing o q origin).answers = [] := by
  unfold State.facing State.standing
  rw [boundaryZones_eq]
  rfl

/-- An element request changes elements and the lists of halted and replaced ones. -/
theorem elemReq_kept (e : Ev) (o : Nat) (q : ElemReq) : (e.elemReq o q).1.img = e.img ∧ (e.elemReq o q).1.reqs = e.reqs ∧
    (e.elemReq o q).1.answers = e.answers := by
  unfold Ev.elemReq
  dsimp only
  (repeat' split) <;> exact ⟨rfl, rfl, rfl⟩

/-- What one element request leaves: its element as step 7 shows it, and its answer. -/
theorem asking_judged (s : State) (o : Nat) (q : ElemReq) (origin : Origin) (d : ElemDef) (x : Ev) (st : Nat)
    (here : Tab.get? s.image.elems o = some d) (req : (s.facing o q origin).elemReq o q = (x, st)) :
    ∃ y : Ev, ((s.asking o q origin).form false).runAlone.elem o = y.finish o d ∧ y.elem o = x.elem o ∧ y.replaced = x.replaced ∧
      ((s.asking o q origin).form false).runAlone.answers = [(origin, st)] := by
  obtain ⟨img, reqs, answers⟩ := elemReq_kept (s.facing o q origin) o q
  rw [req] at img reqs answers
  have asked : ((s.asking o q origin).form false).takeFrames.boundaryZones.elemReqs = x.answer origin st := by
    rw [facing_eq]
    show (((s.facing o q origin).elemReq o q).1).answer origin ((s.facing o q origin).elemReq o q).2 = _
    rw [req]
  have def_ : (x.answer origin st).elemDef? o = some d := by
    rw [← here, ← facing_def s o q origin, Ev.elemDef?, Ev.elemDef?, ← img]
    rfl
  obtain ⟨y, elem, same, replaced, answersY⟩ := runAlone_elem _ o d _ asked def_ (congrArg ReqList.routeReqs reqs)
  refine ⟨y, elem, same, replaced, answersY.trans ?_⟩
  show x.answers ++ [(origin, st)] = _
  rw [answers, facing_answers]
  rfl

end Sys2Proof.Machine
end


section
/-!
SUPPORT. The answer to an element command that stands alone, with the token or the completion that it leaves (R327, R328), and each element
command by its rule.
-/

namespace Sys2Proof.Machine

open Sys2Proof

/-! ### The answer, tokens and completions -/

/-- The module with the results of its one element request, not yet answered. -/
def State.asked (s : State) (o : Nat) (q : ElemReq) (origin : Origin) : State :=
  (s.asking o q origin).adopt ((s.asking o q origin).form false).runAlone

theorem asked_keeps (s : State) (o : Nat) (q : ElemReq) (origin : Origin) : (s.asked o q origin).mod = s.mod ∧
    (s.asked o q origin).lanes = s.lanes ∧ (s.asked o q origin).host = s.host ∧ (s.asked o q origin).rcd = s.rcd ∧
    (s.asked o q origin).ixl.tokens = s.ixl.tokens := by
  unfold State.asked
  generalize ((s.asking o q origin).form false).runAlone = e
  exact ⟨rfl, rfl, rfl, rfl, rfl⟩

/-- An element command settles its one answer on the results of its request. -/
theorem judgeAlone_elem (s : State) (c : VitalCmd) (o : Nat) (q : ElemReq) (d : ElemDef) (x : Ev) (st : Nat)
    (accepted : Accepts s c.hdr c.opcode none) (act : s.alone.vitalAct c = .elem o q) (here : Tab.get? s.image.elems o = some d)
    (req : (s.facing o q c.origin).elemReq o q = (x, st)) :
    (∃ y : Ev, (s.asked o q c.origin).ixl.resolved.elem o = y.finish o d ∧ y.elem o = x.elem o ∧ y.replaced = x.replaced) ∧
    ∀ (u : State) (j : Judged), (s.asked o q c.origin).settleOne ⟨c, none, []⟩ [(c.origin, st)] = (u, j) →
      s.judgeAlone c = (u.reply c.hdr c.opcode j.status j.params).sendCompletions := by
  obtain ⟨y, elem, same, replaced, answers⟩ := asking_judged s o q c.origin d x st here req
  refine ⟨⟨y, elem, same, replaced⟩, fun u j settled => ?_⟩
  have decoded : s.alone.decodeOne c = (s.asking o q c.origin, ⟨c, none, []⟩) := by
    unfold State.decodeOne
    rw [act]
    rfl
  rw [judgeAlone_accepted s c accepted, decoded]
  unfold State.settleAlone
  dsimp only
  rw [answers, ← State.asked, settled]

section
variable (u : State) (c : VitalCmd)

theorem settleOne_plain (st : Nat) (plain : c.opcode ≠ 0x0101 ∧ c.opcode ≠ 0x0103 ∧ c.opcode ≠ 0x0201 ∧ c.opcode ≠ 0x0205) :
    u.settleOne ⟨c, none, []⟩ [(c.origin, st)] = (u, ⟨c.hdr, c.opcode, st, []⟩) := by
  obtain ⟨set, emergency, move, restore⟩ := plain
  unfold State.settleOne
  simp only [List.find?_cons, decide_true]
  rfl

/-- The completion that a point's move leaves due. -/
def VitalCmd.moveDue (c : VitalCmd) : Completion := { c.hdr.completion c.opcode (leAt c.params 0 2) with arg := byteAt c.params 2 }

theorem settleOne_move (move : c.opcode = 0x0201) : u.settleOne ⟨c, none, []⟩ [(c.origin, stAccepted)] =
    ({ u with ixl := { u.ixl with completions := u.ixl.completions ++ [c.moveDue] } }, ⟨c.hdr, c.opcode, stAccepted, []⟩) := by
  unfold State.settleOne VitalCmd.moveDue
  simp only [List.find?_cons, decide_true, move]
  rfl

theorem settleOne_restoreStep1 (restore : c.opcode = 0x0205) (step : byteAt c.params 3 = 1) :
    u.settleOne ⟨c, none, []⟩ [(c.origin, stOk)] = ((u.issueToken c.hdr c.opcode (leAt c.params 0 2) true none).1,
      ⟨c.hdr, c.opcode, stOk, bytesOf 4 (u.issueToken c.hdr c.opcode (leAt c.params 0 2) true none).2⟩) := by
  unfold State.settleOne
  simp only [List.find?_cons, decide_true, restore, step]
  rfl

theorem settleOne_restoreStep2 (restore : c.opcode = 0x0205) (step : byteAt c.params 3 = 2) :
    u.settleOne ⟨c, none, []⟩ [(c.origin, stOk)] = (u.spendToken c.hdr c.opcode (leAt c.params 0 2), ⟨c.hdr, c.opcode, stOk, []⟩) := by
  unfold State.settleOne
  simp only [List.find?_cons, decide_true, restore, step]
  rfl

end

theorem answered_resolved (u : State) (h : CmdHdr) (op st : Nat) (ps : List Byte) :
    ((u.reply h op st ps).sendCompletions).ixl.resolved = u.ixl.resolved ∧
      ((u.reply h op st ps).sendCompletions).ixl.tokens = u.ixl.tokens := by
  rw [sendCompletions_ixl, reply_ixl]
  exact ⟨rfl, rfl⟩

/-- A point that is not there yet and is commanded there has its completion still due (R327). -/
theorem moving_due (u : State) (h : CmdHdr) (op st : Nat) (ps : List Byte) (m : Completion) (move : m.opcode = 0x0201)
    (mem : m ∈ u.ixl.completions) (away : (u.ixl.resolved.elem m.target).state ≠ m.arg + 1) (cmd : (u.ixl.resolved.elem m.target).cmd = m.arg) :
    m ∈ ((u.reply h op st ps).sendCompletions).ixl.completions := by
  rw [sendCompletions_ixl, reply_ixl]
  refine List.mem_filter.mpr ⟨mem, ?_⟩
  unfold State.completionStatus
  rw [reply_ixl]
  simp [move, away, cmd]

/-- An element command without token or completion: its element as step 7 shows it, and its answer. -/
theorem elemCommand_plain (s : State) (c : VitalCmd) (o : Nat) (q : ElemReq) (d : ElemDef) (x : Ev) (st : Nat)
    (accepted : Accepts s c.hdr c.opcode none) (act : s.alone.vitalAct c = .elem o q) (here : Tab.get? s.image.elems o = some d)
    (req : (s.facing o q c.origin).elemReq o q = (x, st))
    (plain : c.opcode ≠ 0x0101 ∧ c.opcode ≠ 0x0103 ∧ c.opcode ≠ 0x0201 ∧ c.opcode ≠ 0x0205) :
    On (s.judgeAlone c) fun t => (∃ y : Ev, t.ixl.resolved.elem o = y.finish o d ∧ y.elem o = x.elem o ∧ y.replaced = x.replaced) ∧
      Answered s t c.hdr c.opcode st [] := by
  obtain ⟨shown, settled⟩ := judgeAlone_elem s c o q d x st accepted act here req
  obtain ⟨mod, lanes, host, -, -⟩ := asked_keeps s o q c.origin
  unfold On
  dsimp only
  rw [settled _ _ (settleOne_plain _ c st plain), (answered_resolved _ _ _ _ _).1]
  exact ⟨shown, reply_answered s _ c.hdr c.opcode st [] mod lanes host⟩

end Sys2Proof.Machine
end


section
/-!
SUPPORT. Each element command by its rule (R71, R75, R78, R83, R97, R99, R101, R326, R328).
-/

namespace Sys2Proof.Machine

open Sys2Proof

/-! ### What a command asks -/

theorem alone_isElem (s : State) (o : Nat) (d : ElemDef) (here : Tab.get? s.image.elems o = some d) (ks : List Kind) :
    s.alone.isElem o ks = ks.contains d.kind := by
  have image : s.alone.image = s.image := rfl
  rw [State.isElem, image, here]
  rfl

/-- A station command that names an element, with its parameters read. -/
theorem vitalAct_elem (s : State) (h : CmdHdr) (op : Nat) (o : BitVec 16) (action step : Nat) (token : Word) (q : ElemReq)
    (station : op ≠ 0x0F01 ∧ op ≠ 0x0C01) (act : s.alone.stationAct ⟨h, op, stationParams o.toNat action step token⟩ = .elem o.toNat q) :
    s.alone.vitalAct ⟨h, op, stationParams o.toNat action step token⟩ = .elem o.toNat q := by
  unfold State.vitalAct
  rw [if_neg station.1, if_neg station.2, act]

/-! ### Points -/

theorem elemReq_move (e : Ev) (o : Nat) (d : ElemDef) (rev : Bool) (here : e.elemDef? o = some d)
    (away : (e.elem o).state ≠ (if rev then 2 else 1) + 1) (free : e.moveFail o = (false, false)) :
    e.elemReq o (.move rev) = (e.drive o (if rev then 2 else 1), stAccepted) := by
  unfold Ev.elemReq
  rw [here]
  simp only [away, free, if_false]

theorem drive_elem (e : Ev) (o pos : Nat) : ((e.drive o pos).elem o).cmd = pos ∧
    (((e.drive o pos).elem o).state = 1 ∨ ((e.drive o pos).elem o).state = (e.elem o).state) := by
  unfold Ev.drive
  simp only [modElem_elem_same, true_and]
  split
  · exact .inl rfl
  · exact .inr rfl

theorem pointMove_moves (s : State) (h : CmdHdr) (o : BitVec 16) (act : Byte) (d : ElemDef) (accepted : Accepts s h 0x0201 none)
    (onoff : act.toNat = 1 ∨ act.toNat = 2) (here : Tab.get? s.image.elems o.toNat = some d) (kind : d.kind = .pt ∨ d.kind = .de)
    (away : (s.standing.elem o.toNat).state ≠ act.toNat + 1) (free : s.standing.moveFail o.toNat = (false, false)) :
    On (stationOp h 0x0201 o.toNat act.toNat 0 0 s) fun t => (t.ixl.resolved.elem o.toNat).cmd = act.toNat ∧
      Answered s t h 0x0201 stAccepted [] ∧ { h.completion 0x0201 o.toNat with arg := act.toNat } ∈ t.ixl.completions := by
  let c : VitalCmd := ⟨h, 0x0201, stationParams o.toNat act.toNat 0 0⟩
  let q : ElemReq := .move (act.toNat = 2)
  let e := s.facing o.toNat q c.origin
  have asks : s.alone.vitalAct c = .elem o.toNat q := vitalAct_elem s h _ o _ _ _ q (by decide) (by
    simp [State.stationAct, stationParams_length, twoStep, alone_isElem s o.toNat d here, onoff, kind, q])
  have pos : (if decide (act.toNat = 2) then 2 else 1) = act.toNat := by rcases onoff with a | a <;> rw [a] <;> rfl
  have req : e.elemReq o.toNat q = (e.drive o.toNat act.toNat, stAccepted) := by
    have move := elemReq_move e o.toNat d (act.toNat = 2) ((facing_def s _ q _ _).trans here) (by rw [pos]; exact away) free
    rwa [pos] at move
  obtain ⟨⟨y, elem, same, -⟩, settled⟩ := judgeAlone_elem s c o.toNat q d _ _ accepted asks here req
  obtain ⟨mod, lanes, host, -, -⟩ := asked_keeps s o.toNat q c.origin
  obtain ⟨cmd, state⟩ := drive_elem e o.toNat act.toNat
  obtain ⟨stateY, cmdY, -, -⟩ := finish_point y o.toNat d kind
  have commanded : ((s.asked o.toNat q c.origin).ixl.resolved.elem o.toNat).cmd = act.toNat := by rw [elem, cmdY, same, cmd]
  have still : ((s.asked o.toNat q c.origin).ixl.resolved.elem o.toNat).state ≠ act.toNat + 1 := by
    rw [elem, stateY, same]
    rcases state with moving | kept
    · rw [moving]
      omega
    · rw [kept]
      exact away
  have due : c.moveDue = { h.completion 0x0201 o.toNat with arg := act.toNat } := by
    simp only [VitalCmd.moveDue, c, stationParams_target, stationParams_action]
  unfold On
  dsimp only
  rw [stationOp, settled _ _ (settleOne_move _ c rfl)]
  refine ⟨?_, reply_answered s _ h 0x0201 stAccepted [] mod lanes host, ?_⟩
  · rw [(answered_resolved _ _ _ _ _).1]
    exact commanded
  · rw [← due]
    have target : c.moveDue.target = o.toNat := stationParams_target o act.toNat 0 0
    have arg : c.moveDue.arg = act.toNat := stationParams_action o.toNat 0 act 0
    exact moving_due _ _ _ _ _ c.moveDue rfl (List.mem_append_right _ (List.mem_singleton_self _))
      (by rw [target, arg]; exact still) (by rw [target, arg]; exact commanded)

/-! ### Blocks, replacements, crossings and releases -/

/-- An element command whose answer is all that it leaves beside its element. -/
theorem stationOp_plain (s : State) (h : CmdHdr) (op : Nat) (o : BitVec 16) (action : Nat) (q : ElemReq) (d : ElemDef) (x : Origin → Ev)
    (st : Nat) (accepted : Accepts s h op none) (here : Tab.get? s.image.elems o.toNat = some d)
    (plain : op ∈ [0x0202, 0x0203, 0x0204, 0x0206, 0x0207])
    (act : s.alone.stationAct ⟨h, op, stationParams o.toNat action 0 0⟩ = .elem o.toNat q)
    (req : ∀ origin, (s.facing o.toNat q origin).elemReq o.toNat q = (x origin, st)) :
    On (stationOp h op o.toNat action 0 0 s) fun t => Answered s t h op st [] ∧
      ∃ origin y, t.ixl.resolved.elem o.toNat = Ev.finish y o.toNat d ∧ y.elem o.toNat = (x origin).elem o.toNat ∧
        y.replaced = (x origin).replaced := by
  let c : VitalCmd := ⟨h, op, stationParams o.toNat action 0 0⟩
  have others : (op ≠ 0x0F01 ∧ op ≠ 0x0C01) ∧ op ≠ 0x0101 ∧ op ≠ 0x0103 ∧ op ≠ 0x0201 ∧ op ≠ 0x0205 := by
    simp only [List.mem_cons, List.not_mem_nil, or_false] at plain
    omega
  obtain ⟨⟨y, elem, same, replaced⟩, answered⟩ := elemCommand_plain s c o.toNat q d _ st accepted
    (vitalAct_elem s h op o action 0 0 q others.1 act) here (req c.origin) others.2
  exact ⟨answered, c.origin, y, elem, same, replaced⟩

theorem elemReq_set (e : Ev) (o : Nat) (d : ElemDef) (on : Bool) (here : e.elemDef? o = some d) :
    e.elemReq o (.blockPoint on) = (e.modElem o fun x => { x with fc := on }, stOk) ∧
      e.elemReq o (.blockSection on) = (e.modElem o fun x => { x with fa := on }, stOk) := by
  unfold Ev.elemReq
  rw [here]
  exact ⟨rfl, rfl⟩

theorem pointBlock_sets (s : State) (h : CmdHdr) (o : BitVec 16) (act : Byte) (d : ElemDef) (accepted : Accepts s h 0x0202 none)
    (onoff : act.toNat = 1 ∨ act.toNat = 2) (here : Tab.get? s.image.elems o.toNat = some d) (kind : d.kind = .pt ∨ d.kind = .de) :
    On (stationOp h 0x0202 o.toNat act.toNat 0 0 s) fun t => (t.ixl.resolved.elem o.toNat).fc = decide (act.toNat = 1) ∧
      Answered s t h 0x0202 stOk [] := by
  obtain ⟨answered, origin, y, elem, same, -⟩ := stationOp_plain s h 0x0202 o act.toNat (.blockPoint (act.toNat = 1)) d _ stOk accepted here
    (by decide) (by simp [State.stationAct, stationParams_length, twoStep, alone_isElem s o.toNat d here, onoff, kind])
    fun og => (elemReq_set _ o.toNat d _ ((facing_def s _ _ og _).trans here)).1
  obtain ⟨-, -, fc, -⟩ := finish_point y o.toNat d kind
  refine ⟨?_, answered⟩
  rw [elem, fc, same, modElem_elem_same]

theorem sectionBlock_sets (s : State) (h : CmdHdr) (o : BitVec 16) (act : Byte) (d : ElemDef) (accepted : Accepts s h 0x0204 none)
    (onoff : act.toNat = 1 ∨ act.toNat = 2) (here : Tab.get? s.image.elems o.toNat = some d) (kind : d.kind = .ts) :
    On (stationOp h 0x0204 o.toNat act.toNat 0 0 s) fun t => (t.ixl.resolved.elem o.toNat).fa = decide (act.toNat = 1) ∧
      Answered s t h 0x0204 stOk [] := by
  obtain ⟨answered, origin, y, elem, same, -⟩ := stationOp_plain s h 0x0204 o act.toNat (.blockSection (act.toNat = 1)) d _ stOk accepted here
    (by decide) (by simp [State.stationAct, stationParams_length, twoStep, alone_isElem s o.toNat d here, onoff, kind])
    fun og => (elemReq_set _ o.toNat d _ ((facing_def s _ _ og _).trans here)).2
  obtain ⟨-, fa, -, -⟩ := finish_section y o.toNat d kind
  refine ⟨?_, answered⟩
  rw [elem, fa, same, modElem_elem_same]

theorem insertNat_mem (x : Nat) (l : List Nat) : x ∈ insertNat x l := by
  induction l with
  | nil => exact List.mem_singleton_self x
  | cons y l ih =>
    unfold insertNat
    split
    · rename_i here
      rw [here]
      exact List.mem_cons_self
    · split
      · exact List.mem_cons_self
      · exact List.mem_cons_of_mem y ih

theorem elemReq_replace (e : Ev) (o : Nat) (d : ElemDef) (here : e.elemDef? o = some d) :
    (d.kind = .ez → e.elemReq o .replace = (e.modElem o fun x => { x with state := 0 }, stOk)) ∧
      (d.kind = .sg → e.elemReq o .replace = ({ e with replaced := insertNat o e.replaced }, stOk)) := by
  unfold Ev.elemReq
  rw [here]
  exact ⟨fun kind => by simp [kind], fun kind => by simp [kind]⟩

theorem signalReplace_replaces (s : State) (h : CmdHdr) (o : BitVec 16) (d : ElemDef) (accepted : Accepts s h 0x0203 none)
    (here : Tab.get? s.image.elems o.toNat = some d) (kind : d.kind = .sg ∨ d.kind = .ez) :
    On (stationOp h 0x0203 o.toNat 0 0 0 s) fun t => Answered s t h 0x0203 stOk [] ∧
      (if d.kind = .sg then (t.ixl.resolved.elem o.toNat).cmd = 0 else (t.ixl.resolved.elem o.toNat).state = 0) := by
  have asks : s.alone.stationAct ⟨h, 0x0203, stationParams o.toNat 0 0 0⟩ = .elem o.toNat .replace := by
    simp [State.stationAct, stationParams_length, twoStep, alone_isElem s o.toNat d here, kind]
  have rule (og : Origin) := elemReq_replace (s.facing o.toNat .replace og) o.toNat d ((facing_def s _ _ og _).trans here)
  rcases kind with kind | kind
  · obtain ⟨answered, origin, y, elem, -, replaced⟩ := stationOp_plain s h 0x0203 o 0 .replace d _ stOk accepted here (by decide) asks
      fun og => (rule og).2 kind
    obtain ⟨-, cmd⟩ := finish_signal y o.toNat d kind
    refine ⟨answered, ?_⟩
    rw [if_pos kind, elem, cmd]
    refine signalAspect_barred y o.toNat (.inr ?_)
    rw [replaced, List.contains_iff_mem]
    exact insertNat_mem o.toNat _
  · obtain ⟨answered, origin, y, elem, same, -⟩ := stationOp_plain s h 0x0203 o 0 .replace d _ stOk accepted here (by decide) asks
      fun og => (rule og).1 kind
    refine ⟨answered, ?_⟩
    rw [if_neg (by simp [kind]), elem, finish_kept y o.toNat d (.inr (.inl kind)), same, modElem_elem_same]

theorem elemReq_crossing (e : Ev) (o : Nat) (d : ElemDef) (close : Bool) (here : e.elemDef? o = some d)
    (free : close = true ∨ (e.elem o).fb = false) :
    e.elemReq o (if close then .lxClose else .lxReopen) = (e.modElem o fun x => { x with fa := close }, stOk) := by
  unfold Ev.elemReq
  rw [here]
  cases close with
  | true => rfl
  | false => simp [free.resolve_left Bool.false_ne_true]

theorem lxCommand_sets (s : State) (h : CmdHdr) (o : BitVec 16) (act : Byte) (d : ElemDef) (accepted : Accepts s h 0x0207 none)
    (ask : act.toNat = 1 ∨ (act.toNat = 2 ∧ (s.standing.elem o.toNat).fb = false)) (here : Tab.get? s.image.elems o.toNat = some d)
    (kind : d.kind = .lx) : On (stationOp h 0x0207 o.toNat act.toNat 0 0 s) fun t =>
      (t.ixl.resolved.elem o.toNat).fa = decide (act.toNat = 1) ∧ Answered s t h 0x0207 stOk [] := by
  have onoff : act.toNat = 1 ∨ act.toNat = 2 := ask.imp id And.left
  obtain ⟨answered, origin, y, elem, same, -⟩ := stationOp_plain s h 0x0207 o act.toNat
    (if decide (act.toNat = 1) then .lxClose else .lxReopen) d _ stOk accepted here
    (by decide) (by simp [State.stationAct, stationParams_length, twoStep, alone_isElem s o.toNat d here, onoff, kind])
    fun og => elemReq_crossing _ o.toNat d _ ((facing_def s _ _ og _).trans here) (ask.imp decide_eq_true And.right)
  obtain ⟨fa, -⟩ := finish_crossing y o.toNat d kind
  refine ⟨?_, answered⟩
  rw [elem, fa, same, modElem_elem_same]

end Sys2Proof.Machine
end


section
/-!
SUPPORT. The releases of areas and the two steps of a restoration (R71, R97, R99, R326, R328).
-/

namespace Sys2Proof.Machine

open Sys2Proof

/-! ### Key and shunt areas -/

theorem facing_image (s : State) (o : Nat) (q : ElemReq) (origin : Origin) : (s.facing o q origin).img = s.image := by
  unfold State.facing State.standing
  rw [boundaryZones_eq]
  rfl

theorem elemReq_releaseKey (e : Ev) (o : Nat) (d : ElemDef) (here : e.elemDef? o = some d) (kind : d.kind = .ky)
    (taken : (e.elem o).state = 3) (free : e.areaFree ((e.img.elems.filter fun p => p.2.ky = some o).map Prod.fst) = true) :
    e.elemReq o .release = (e.modElem o fun x => { x with state := 2 }, stOk) := by
  unfold Ev.elemReq
  rw [here]
  simp [kind, taken, free]

theorem elemReq_releaseShunt (e : Ev) (o : Nat) (d : ElemDef) (here : e.elemDef? o = some d) (kind : d.kind = .sa)
    (free : e.areaFree ((e.img.elems.filter fun p => p.2.sa = some o).map Prod.fst) = true) :
    ∃ x, e.elemReq o .release = (x, stOk) ∧ (x.elem o).state = 0 := by
  unfold Ev.elemReq
  rw [here]
  by_cases released : (e.elem o).state = 0
  · exact ⟨e, by simp [kind, released], released⟩
  · exact ⟨e.modElem o fun x => { x with state := 0 }, by simp [kind, released, free], by rw [modElem_elem_same]⟩

/-- The state that a released area takes: 2 for a key, 0 for a shunting area. -/
theorem elemReq_release (e : Ev) (o : Nat) (d : ElemDef) (here : e.elemDef? o = some d)
    (free : (d.kind = .ky ∧ (e.elem o).state = 3 ∧ e.areaFree ((e.img.elems.filter fun p => p.2.ky = some o).map Prod.fst) = true) ∨
      (d.kind = .sa ∧ e.areaFree ((e.img.elems.filter fun p => p.2.sa = some o).map Prod.fst) = true)) :
    ∃ x, e.elemReq o .release = (x, stOk) ∧ (x.elem o).state = if d.kind = .ky then 2 else 0 := by
  rcases free with ⟨kind, taken, free⟩ | ⟨kind, free⟩
  · exact ⟨_, elemReq_releaseKey e o d here kind taken free, by rw [modElem_elem_same, if_pos kind]⟩
  · rw [if_neg (by simp [kind])]
    exact elemReq_releaseShunt e o d here kind free

theorem keyRelease_releases (s : State) (h : CmdHdr) (o : BitVec 16) (d : ElemDef) (accepted : Accepts s h 0x0206 none)
    (here : Tab.get? s.image.elems o.toNat = some d)
    (free : (d.kind = .ky ∧ (s.standing.elem o.toNat).state = 3 ∧
        s.standing.areaFree ((s.image.elems.filter fun p => p.2.ky = some o.toNat).map Prod.fst) = true) ∨
      (d.kind = .sa ∧ s.standing.areaFree ((s.image.elems.filter fun p => p.2.sa = some o.toNat).map Prod.fst) = true)) :
    On (stationOp h 0x0206 o.toNat 0 0 0 s) fun t => (t.ixl.resolved.elem o.toNat).state = (if d.kind = .ky then 2 else 0) ∧
      Answered s t h 0x0206 stOk [] := by
  have kind : d.kind = .ky ∨ d.kind = .sa := free.imp And.left And.left
  have released (og : Origin) := elemReq_release (s.facing o.toNat .release og) o.toNat d ((facing_def s _ _ og _).trans here)
    (by rw [facing_image]; exact free)
  choose x req state using released
  obtain ⟨answered, origin, y, elem, same, -⟩ := stationOp_plain s h 0x0206 o 0 .release d x stOk accepted here (by decide)
    (by simp [State.stationAct, stationParams_length, twoStep, alone_isElem s o.toNat d here, kind]) req
  refine ⟨?_, answered⟩
  rw [elem, finish_kept y o.toNat d (kind.imp id .inr), same, state]

/-! ### Restorations -/

theorem elemReq_restoreStep1 (e : Ev) (o : Nat) (d : ElemDef) (here : e.elemDef? o = some d) :
    e.elemReq o .restoreStep1 = (e, e.restoreCheck o d) := by
  unfold Ev.elemReq
  rw [here]

/-- A restored element: a zone is INACTIVE, a section CLEAR and RESTORED. -/
def ElemSt.Restored (x : ElemSt) (d : ElemDef) : Prop := if d.kind = .ez then x.state = 1 else x.state = 2 ∧ x.fb = true

theorem elemReq_restore (e : Ev) (o : Nat) (d : ElemDef) (here : e.elemDef? o = some d) (free : e.restoreCheck o d = stOk) :
    ∃ x, e.elemReq o .restore = (x, stOk) ∧ (x.elem o).Restored d := by
  unfold Ev.elemReq ElemSt.Restored
  rw [here]
  by_cases zone : d.kind = .ez
  · exact ⟨e.modElem o fun x => { x with state := 1 }, by simp [free, zone], by rw [if_pos zone, modElem_elem_same]⟩
  · refine ⟨e.modElem o fun x => { x with state := 2, fb := true, ta := 0xFFFF }, by simp [free, zone], ?_⟩
    rw [if_neg zone, modElem_elem_same]
    exact ⟨rfl, rfl⟩

theorem finish_restored (y : Ev) (o : Nat) (d : ElemDef) (kind : d.kind = .ts ∨ d.kind = .ez) (restored : (y.elem o).Restored d) :
    (y.finish o d).Restored d := by
  unfold ElemSt.Restored at *
  rcases kind with kind | kind
  · obtain ⟨state, -, fb, -⟩ := finish_section y o d kind
    rw [state, fb]
    exact restored
  · rw [finish_kept y o d (.inr (.inl kind))]
    simpa [kind] using restored

/-- A token depends on the module's mode and cycle, its record and the tokens there are (R328). -/
theorem issueToken_same (s u : State) (h : CmdHdr) (op target : Nat) (mod : u.mod = s.mod) (rcd : u.rcd = s.rcd)
    (tokens : u.ixl.tokens = s.ixl.tokens) : (u.issueToken h op target true none).2 = tokenValue s h op target ∧
      (u.issueToken h op target true none).1.ixl.tokens = (s.issueToken h op target true none).1.ixl.tokens := by
  have value : tokenValue u h op target = tokenValue s h op target := by
    unfold tokenValue State.serial
    rw [mod, rcd]
  refine ⟨value, ?_⟩
  unfold State.issueToken State.tokenNow
  simp only [value, tokens, mod, if_true]

theorem restoreStep1_answers (s : State) (h : CmdHdr) (o : BitVec 16) (d : ElemDef) (accepted : Accepts s h 0x0205 none)
    (here : Tab.get? s.image.elems o.toNat = some d) (kind : d.kind = .ts ∨ d.kind = .ez)
    (free : s.standing.restoreCheck o.toNat d = stOk) :
    On (stationOp h 0x0205 o.toNat 0 1 0 s) fun t => Answered s t h 0x0205 stOk (bytesOf 4 (tokenValue s h 0x0205 o.toNat)) ∧
      (s.issueToken h 0x0205 o.toNat true none).1.ixl.tokens = t.ixl.tokens := by
  let c : VitalCmd := ⟨h, 0x0205, stationParams o.toNat 0 1 0⟩
  have asks : s.alone.vitalAct c = .elem o.toNat .restoreStep1 := vitalAct_elem s h _ o _ _ _ _ (by decide) (by
    simp [State.stationAct, stationParams_length, twoStep, alone_isElem s o.toNat d here, kind])
  have req := elemReq_restoreStep1 (s.facing o.toNat .restoreStep1 c.origin) o.toNat d ((facing_def s _ _ _ _).trans here)
  have check : (s.facing o.toNat .restoreStep1 c.origin).restoreCheck o.toNat d = stOk := free
  rw [check] at req
  obtain ⟨-, settled⟩ := judgeAlone_elem s c o.toNat .restoreStep1 d _ _ accepted asks here req
  obtain ⟨mod, lanes, host, rcd, tokens⟩ := asked_keeps s o.toNat .restoreStep1 c.origin
  have target : leAt c.params 0 2 = o.toNat := stationParams_target o 0 1 0
  obtain ⟨value, issued⟩ := issueToken_same s (s.asked o.toNat .restoreStep1 c.origin) h 0x0205 o.toNat mod rcd tokens
  have step1 := settleOne_restoreStep1 (s.asked o.toNat .restoreStep1 c.origin) c rfl (stationParams_step o.toNat 0 1 0 (by decide))
  rw [target] at step1
  unfold On
  dsimp only
  rw [stationOp, settled _ _ step1]
  dsimp only
  rw [value, (answered_resolved _ _ _ _ _).2]
  exact ⟨reply_answered s _ h 0x0205 stOk _ mod lanes host, issued.symm⟩

theorem restoreStep2_restores (s : State) (h : CmdHdr) (o : BitVec 16) (tok : Word) (d : ElemDef) (accepted : Accepts s h 0x0205 none)
    (here : Tab.get? s.image.elems o.toNat = some d) (kind : d.kind = .ts ∨ d.kind = .ez)
    (free : s.standing.restoreCheck o.toNat d = stOk) (valid : s.tokenValid h 0x0205 o.toNat true tok = true) :
    On (stationOp h 0x0205 o.toNat 0 2 tok s) fun t => Answered s t h 0x0205 stOk [] ∧ (t.ixl.resolved.elem o.toNat).Restored d ∧
      ∀ u ∈ t.ixl.tokens, ¬ (u.source = h.source.toNat ∧ u.opcode = 0x0205 ∧ u.target = o.toNat) := by
  let c : VitalCmd := ⟨h, 0x0205, stationParams o.toNat 0 2 tok⟩
  have still : s.alone.tokenValid h 0x0205 o.toNat true tok = true := valid
  have asks : s.alone.vitalAct c = .elem o.toNat .restore := vitalAct_elem s h _ o _ _ _ _ (by decide) (by
    simp [State.stationAct, stationParams_length, twoStep, alone_isElem s o.toNat d here, kind, still])
  obtain ⟨x, req, restored⟩ := elemReq_restore (s.facing o.toNat .restore c.origin) o.toNat d ((facing_def s _ _ _ _).trans here) free
  obtain ⟨⟨y, elem, same, -⟩, settled⟩ := judgeAlone_elem s c o.toNat .restore d x _ accepted asks here req
  obtain ⟨mod, lanes, host, -, -⟩ := asked_keeps s o.toNat .restore c.origin
  have target : leAt c.params 0 2 = o.toNat := stationParams_target o 0 2 tok
  have step2 := settleOne_restoreStep2 (s.asked o.toNat .restore c.origin) c rfl (stationParams_step o.toNat 0 2 tok (by decide))
  rw [target] at step2
  unfold On
  dsimp only
  rw [stationOp, settled _ _ step2, (answered_resolved _ _ _ _ _).1, (answered_resolved _ _ _ _ _).2]
  refine ⟨reply_answered s _ h 0x0205 stOk [] mod lanes host, ?_, fun u mem spent => ?_⟩
  · show ((s.asked o.toNat .restore c.origin).ixl.resolved.elem o.toNat).Restored d
    rw [elem]
    exact finish_restored y o.toNat d kind (same ▸ restored)
  · have other := (List.mem_filter.mp mem).2
    simp [c, spent] at other

/-! ### The obligation -/

/-- Settles O34: an element command that stands alone makes one request on the resolved state, and step 7 keeps what the request made of
its element; boundary frames and messages are taken as they are decoded. -/
theorem elementAndBoundaryCommands : Obligations.ElementAndBoundaryCommands := by
  unfold Obligations.ElementAndBoundaryCommands
  refine ⟨?_, ?_, ?_, ?_, ?_, ?_, ?_, ?_, ?_, ?_⟩
  · intro h o act d s accepted onoff here kind away free
    exact ⟨_, rfl, pointMove_moves s h o act d accepted onoff here kind away free⟩
  · intro h o act d s accepted onoff here kind
    exact ⟨_, rfl, pointBlock_sets s h o act d accepted onoff here kind⟩
  · intro h o d s accepted here kind
    exact ⟨_, rfl, signalReplace_replaces s h o d accepted here kind⟩
  · intro h o act d s accepted onoff here kind
    exact ⟨_, rfl, sectionBlock_sets s h o act d accepted onoff here kind⟩
  · intro h o d s accepted here kind free
    exact ⟨_, rfl, restoreStep1_answers s h o d accepted here kind free⟩
  · intro h o tok d s accepted here kind free valid
    exact ⟨_, rfl, restoreStep2_restores s h o tok d accepted here kind free valid⟩
  · intro h o d s accepted here free
    exact ⟨_, rfl, keyRelease_releases s h o d accepted here free⟩
  · intro h o act d s accepted ask here kind
    exact ⟨_, rfl, lxCommand_sets s h o act d accepted ask here kind⟩
  · intro h bb theirs dir fl ea cyc s accepted dirs flags aspect row
    exact ⟨_, rfl, boundaryFrame_taken s _ bb.toNat _ accepted (frameAct_admitted s.alone h bb theirs dir fl ea cyc dirs flags aspect row)⟩
  · intro h box n ws s accepted few length inbox
    exact ⟨_, rfl, message_taken s _ box.toNat ws accepted (messageAct_admitted s.alone h box n ws few length inbox)⟩

end Sys2Proof.Machine
end

section
/-!
SUPPORT. Words packed from fields that follow one another without overlap, and the fields of the route word (R138).
-/

namespace Sys2Proof.Machine

open Sys2Proof

/-- The fields of a word, each an offset, a width and a value, follow one another: each ends before every later one begins. -/
def FieldsAscend (fs : List (Nat × Nat × Nat)) : Prop := fs.Pairwise fun f g => f.1 + f.2.1 ≤ g.1

theorem pack_snoc (fs : List (Nat × Nat × Nat)) (f : Nat × Nat × Nat) : pack (fs ++ [f]) = pack fs + f.2.2 % 2 ^ f.2.1 * 2 ^ f.1 := by
  simp [pack]

/-- A field above a value takes the value no further than the field's own end. -/
theorem add_field_lt (x v o w : Nat) (below : x < 2 ^ o) : x + v % 2 ^ w * 2 ^ o < 2 ^ (o + w) := by
  have fits : v % 2 ^ w + 1 ≤ 2 ^ w := Nat.mod_lt v (Nat.two_pow_pos w)
  calc x + v % 2 ^ w * 2 ^ o < (v % 2 ^ w + 1) * 2 ^ o := by rw [Nat.add_one_mul]; omega
    _ ≤ 2 ^ w * 2 ^ o := Nat.mul_le_mul_right _ fits
    _ = 2 ^ (o + w) := by rw [Nat.mul_comm, Nat.pow_add]

/-- A packed word is below the end of its fields. -/
theorem pack_lt (fs : List (Nat × Nat × Nat)) (n : Nat) (ascend : FieldsAscend fs) (ends : ∀ f ∈ fs, f.1 + f.2.1 ≤ n) : pack fs < 2 ^ n := by
  induction fs using List.reverseRecOn generalizing n with
  | nil => exact Nat.two_pow_pos n
  | append_singleton fs f ih =>
    obtain ⟨before, -, apart⟩ := List.pairwise_append.1 ascend
    have below : pack fs < 2 ^ f.1 := ih f.1 before fun g mem => apart g mem f (List.mem_singleton_self f)
    rw [pack_snoc]
    exact (add_field_lt _ _ _ _ below).trans_le (Nat.pow_le_pow_right Nat.two_pos (ends f (by simp)))

/-- Fields from a bit on leave what is packed below it. -/
theorem pack_append_mod (fs later : List (Nat × Nat × Nat)) (k : Nat) (above : ∀ g ∈ later, k ≤ g.1) :
    pack (fs ++ later) % 2 ^ k = pack fs % 2 ^ k := by
  induction later using List.reverseRecOn with
  | nil => rw [List.append_nil]
  | append_singleton later g ih =>
    obtain ⟨d, hd⟩ := Nat.exists_eq_add_of_le (above g (by simp))
    rw [← List.append_assoc, pack_snoc, hd, Nat.pow_add, Nat.mul_left_comm, Nat.add_mul_mod_self_left]
    exact ih fun g mem => above g (List.mem_append_left _ mem)

/-- A field of a packed word reads back its value, cut to its width. -/
theorem pack_field (fs : List (Nat × Nat × Nat)) (o w v : Nat) (ascend : FieldsAscend fs) (mem : (o, w, v) ∈ fs) :
    pack fs / 2 ^ o % 2 ^ w = v % 2 ^ w := by
  obtain ⟨before, after, rfl⟩ := List.append_of_mem mem
  obtain ⟨lower, upper, apart⟩ := List.pairwise_append.1 ascend
  have below : pack before < 2 ^ o := pack_lt before o lower fun g mem => apart g mem _ List.mem_cons_self
  have here : pack (before ++ (o, w, v) :: after) % 2 ^ (o + w) = pack before + v % 2 ^ w * 2 ^ o := by
    rw [List.append_cons, pack_append_mod _ after _ (List.pairwise_cons.1 upper).1, pack_snoc]
    exact Nat.mod_eq_of_lt (add_field_lt _ _ _ _ below)
  rw [← Nat.mod_mul_right_div_self, ← Nat.pow_add, here, Nat.add_mul_div_right _ _ (Nat.two_pow_pos o), Nat.div_eq_of_lt below, Nat.zero_add]

/-! ### The route word -/

/-- The fields of the route word (R138). -/
def RouteSt.wordFields (r : RouteSt) : List (Nat × Nat × Nat) :=
  [(0, 4, r.st.code), (4, 7, r.released), (11, 1, b2n r.engaged), (12, 1, b2n r.signalled), (13, 1, b2n r.auto), (14, 1, b2n r.withheld),
    (15, 1, b2n r.kOcc), (16, 1, b2n r.nextSeen), (17, 1, b2n r.ovOcc), (18, 1, b2n r.firstClear), (19, 1, b2n r.halted)]

theorem RouteSt.word_eq_pack (r : RouteSt) : r.word = pack r.wordFields := rfl

theorem RouteSt.wordFields_ascend (r : RouteSt) : FieldsAscend r.wordFields := by
  simp [FieldsAscend, RouteSt.wordFields]

theorem RouteSt.word_lt (r : RouteSt) : r.word < 2 ^ 20 :=
  pack_lt r.wordFields 20 r.wordFields_ascend (by simp [RouteSt.wordFields])

/-- A field's value that fits the field's width stands in the route word at the field's bits. -/
theorem RouteSt.word_field (r : RouteSt) (o w v : Nat) (mem : (o, w, v) ∈ r.wordFields) (fits : v < 2 ^ w) : r.word / 2 ^ o % 2 ^ w = v :=
  (pack_field r.wordFields o w v r.wordFields_ascend mem).trans (Nat.mod_eq_of_lt fits)

/-- A flag of the route word is its bit. -/
theorem RouteSt.word_flag (r : RouteSt) (i : Nat) (b : Bool) (mem : (i, 1, b2n b) ∈ r.wordFields) : r.word.testBit i = b := by
  have bit : r.word / 2 ^ i % 2 = b2n b := r.word_field i 1 (b2n b) mem (by cases b <;> decide)
  rw [Nat.testBit_eq_decide_div_mod_eq, bit]
  cases b <;> rfl

theorem RSt.code_lt (x : RSt) : x.code < 16 := by cases x <;> decide

/-- Settles O14: the fields of the route word do not overlap, so each reads back its value; a count of 96 or less fits its seven bits. -/
theorem routeWordLayout : Obligations.RouteWordLayout := by
  unfold Obligations.RouteWordLayout
  refine ⟨fun r released => ?_, by decide⟩
  have state : r.word / 2 ^ 0 % 2 ^ 4 = r.st.code := r.word_field 0 4 _ (by simp [RouteSt.wordFields]) r.st.code_lt
  have count : r.word / 2 ^ 4 % 2 ^ 7 = r.released := r.word_field 4 7 _ (by simp [RouteSt.wordFields]) (by omega)
  refine ⟨by simpa using state, count, ?_, ?_, ?_, ?_, ?_, ?_, ?_, ?_, ?_, r.word_lt⟩ <;>
    exact r.word_flag _ _ (by simp [RouteSt.wordFields])

end Sys2Proof.Machine
end

section
/-!
SUPPORT. A time correlation whose record triggers a snapshot (R342, R395, R397).
-/

namespace Sys2Proof.Machine

open Sys2Proof

/-- OPERATE with three voting lanes and a maintainer's session of source 5. The station image has one snapshot entry, its fields in the ranges
of R396: on a UTC_CORRELATION record every lane captures the first register of its LANE block. -/
def snapshotOnCorrelationState : State :=
  { State.reset with
    mod := { ModS.reset with mode := .operate }
    lanes := PerLane.pure { LaneS.reset with core := { CoreS.reset with st := .voting } }
    img := { ImgS.reset with running := some { Image.empty with snaps := [⟨0x0702, 7, 100, [0x20000000]⟩] } }
    host := { HostS.reset with sessions := [⟨.maintainer, 5, 0, [], 0, []⟩] } }

/-- A command of source 5 on queue 9 with a MAC. -/
def correlationHdr : CmdHdr := ⟨5, 9, 9, 77, 1000, true⟩

/-- The record of the correlation is new, so each lane takes its snapshot and counts it. -/
theorem timeCorrelate_takes_snapshot (l : Lane) :
    ((timeCorrelateOp correlationHdr 1 0 1000 snapshotOnCorrelationState).lanes.get l).diag.snapTaken = 1 := by
  cases l <;> decide +kernel

/-- Refutes O51: its clause on a time correlation says that the lanes are as they were, whatever the station image; where the image has a
snapshot entry for UTC_CORRELATION records, the record that R342 asks for makes each lane take a snapshot and count it. -/
theorem not_sessionCommands : ¬ Obligations.SessionCommands := by
  unfold Obligations.SessionCommands
  intro h
  obtain ⟨correlates, -⟩ := h
  obtain ⟨t, runs, -, -, still⟩ := correlates correlationHdr 1 0 1000 snapshotOnCorrelationState (by decide +kernel) (by decide) (by decide)
    (by decide)
  have result : t = timeCorrelateOp correlationHdr 1 0 1000 snapshotOnCorrelationState := (Host.Outcome.next.inj runs).symm
  have taken := timeCorrelate_takes_snapshot .a
  have none : (snapshotOnCorrelationState.lanes.get .a).diag.snapTaken = 0 := rfl
  rw [← result, still, none] at taken
  exact absurd taken (by decide)

end Sys2Proof.Machine
end

section
/-!
SUPPORT. The worked examples (O18): a message followed by its own CRC leaves the register at a constant (R475).
-/

namespace Sys2Proof.Machine

open Sys2Proof

/-- The polynomial, where a bit asks for it. -/
def polyIf {w : Nat} (poly : BitVec w) (b : Bool) : BitVec w := if b then poly else 0#w

theorem polyIf_xor {w : Nat} (poly : BitVec w) (b c : Bool) : polyIf poly (b ^^ c) = polyIf poly b ^^^ polyIf poly c := by
  cases b <;> cases c <;> simp [polyIf]

theorem fwdStep_eq_polyIf {w : Nat} (poly x : BitVec w) (b : Bool) : fwdStep poly x b = x <<< 1 ^^^ polyIf poly (x.getMsbD 0 ^^ b) := by
  unfold fwdStep polyIf
  cases x.getMsbD 0 <;> cases b <;> simp

/-- A step is linear: the sum of two registers and of two bits leads to the sum of the two results. -/
theorem fwdStep_xor {w : Nat} (poly x y : BitVec w) (b c : Bool) :
    fwdStep poly (x ^^^ y) (b ^^ c) = fwdStep poly x b ^^^ fwdStep poly y c := by
  simp only [fwdStep_eq_polyIf, BitVec.getMsbD_xor, BitVec.shiftLeft_xor_distrib, polyIf_xor]
  ac_rfl

/-- A register's own top bits, fed to it, only shift it. -/
theorem fwdStep_shifted {w : Nat} (poly x : BitVec w) (k : Nat) :
    fwdStep poly (x <<< k) (x.getMsbD k) = x <<< (k + 1) := by
  have top : (x <<< k).getMsbD 0 = x.getMsbD k := by
    rw [BitVec.getMsbD_shiftLeft, Nat.zero_add]
  rw [fwdStep_eq_polyIf, top, Bool.xor_self, polyIf, if_neg Bool.false_ne_true, BitVec.xor_zero, BitVec.shiftLeft_add]

/-- Fed the complement of its own bits, a register ends as one that was 0 and took a one for each of them. -/
theorem foldl_fwdStep_complement {w : Nat} (poly x : BitVec w) (k : Nat) (hk : k ≤ w) :
    ((List.range k).map fun i => !x.getMsbD i).foldl (fwdStep poly) x = x <<< k ^^^ (List.replicate k true).foldl (fwdStep poly) 0#w := by
  induction k with
  | zero => simp
  | succ k ih =>
    rw [List.range_succ, List.map_append, List.foldl_append, ih (by omega), List.replicate_succ', List.foldl_append, List.map_singleton,
      List.foldl_cons, List.foldl_nil, List.foldl_cons, List.foldl_nil, ← Bool.xor_true, fwdStep_xor, fwdStep_shifted]

/-- The bits of a number's bytes, each byte's least significant first, are the number's bits. -/
theorem bits_leBytes (c : CrcParams) (lsbFirst : c.refl = true) (n v : Nat) : c.bits (leBytes n v) = (List.range (8 * n)).map v.testBit := by
  induction n generalizing v with
  | zero => rfl
  | succ n ih =>
    have low : c.bits [BitVec.ofNat 8 v] = (List.range 8).map v.testBit := by
      rw [CrcParams.bits, List.flatMap_singleton]
      refine List.map_congr_left fun i mem => ?_
      rw [if_pos lsbFirst, BitVec.getLsbD_ofNat, decide_eq_true (List.mem_range.1 mem), Bool.true_and]
    have high : (v / 256).testBit = fun i => v.testBit (8 + i) := funext fun i => by
      rw [Nat.add_comm, ← Nat.testBit_div_two_pow]
    rw [leBytes, bits_cons, low, ih, high, Nat.mul_succ, Nat.add_comm, List.range_add, List.map_append, List.map_map]
    rfl

/-- The register of CRC-32C after a message. -/
def crc32cReg (bs : List Byte) : Word := ((Poly.params .crc32c).bits bs).foldl (fwdStep crc32cPoly) 0xFFFFFFFF

theorem crc32cReg_toNat (bs : List Byte) :
    (crc32cReg bs).toNat = ((Poly.params .crc32c).bits bs).foldl (Poly.params .crc32c).bit (Poly.params .crc32c).init :=
  foldl_fwdStep_toNat (Poly.params .crc32c) crc32cPoly _ rfl rfl _

theorem check_crc32c_toNat (bs : List Byte) : (Poly.check .crc32c bs).toNat = ((crc32cReg bs).reverse ^^^ (0xFFFFFFFF : Word)).toNat := by
  rw [check_toNat, BitVec.toNat_xor, reverse_toNat, crc32cReg_toNat]
  rfl

theorem crc32c_eq (bs : List Byte) : crc32c bs = (crc32cReg bs).reverse ^^^ (0xFFFFFFFF : Word) := by
  apply BitVec.eq_of_toNat_eq
  rw [crc32c, BitVec.truncate_eq_setWidth, BitVec.toNat_setWidth, check_crc32c_toNat, Nat.mod_eq_of_lt (BitVec.isLt _)]

/-- The CRC's bits, in the order in which the register takes them, are the complement of the register's own. -/
theorem bits_crc32c (bs : List Byte) :
    (Poly.params .crc32c).bits (bytesOf 4 (crc32c bs)) = (List.range 32).map fun i => !(crc32cReg bs).getMsbD i := by
  rw [bytesOf, bits_leBytes _ rfl]
  refine List.map_congr_left fun i mem => ?_
  have small : i < 32 := List.mem_range.1 mem
  have ones : (0xFFFFFFFF : Word) = BitVec.allOnes 32 := rfl
  rw [BitVec.testBit_toNat, crc32c_eq, ones, BitVec.getLsbD_xor, BitVec.getLsbD_reverse, BitVec.getLsbD_allOnes, decide_eq_true small,
    Bool.xor_true]

/-- A block followed by its CRC leaves the register where 32 ones lead it from 0. -/
theorem crc32cReg_closed (bs : List Byte) :
    crc32cReg (bs ++ bytesOf 4 (crc32c bs)) = (List.replicate 32 true).foldl (fwdStep crc32cPoly) 0#32 := by
  have appended : crc32cReg (bs ++ bytesOf 4 (crc32c bs)) =
      ((Poly.params .crc32c).bits (bytesOf 4 (crc32c bs))).foldl (fwdStep crc32cPoly) (crc32cReg bs) := by
    rw [crc32cReg, CrcParams.bits, List.flatMap_append, List.foldl_append]
    rfl
  rw [appended, bits_crc32c, foldl_fwdStep_complement crc32cPoly _ 32 le_rfl, BitVec.shiftLeft_eq_zero le_rfl, BitVec.zero_xor]

/-- The constant residue of CRC-32C (R475). -/
theorem crc32c_residue (bs : List Byte) : (Poly.check .crc32c (bs ++ bytesOf 4 (crc32c bs))).toNat = 0x48674BC7 := by
  rw [check_crc32c_toNat, crc32cReg_closed]
  decide +kernel

/-- Settles O18: three worked numbers evaluated, and the residue, which holds for every block since the register is linear. -/
theorem workedExamples : Obligations.WorkedExamples := by
  unfold Obligations.WorkedExamples
  refine ⟨by decide +kernel, fun a bytes => ?_, by decide +kernel, crc32c_residue⟩
  simp only [Arrival.opcode, Arrival.queue, Arrival.queueByte, Arrival.seq, Arrival.hostTime, Arrival.params, Arrival.plen, Arrival.mac,
    Arrival.flags, bytes]
  decide +kernel

end Sys2Proof.Machine
end

section
/-!
SUPPORT. The slot banks (O43): a lane's window on the inactive bank, the requests of a switch, the exchange of the bank CRCs and the switch
(R198, R214, R238).
-/

namespace Sys2Proof.Machine

open Sys2Proof

/-! ### Banks and windows -/

@[simp] theorem setInactive_inactive (n : NetS) (b : Tab Word) : (n.setInactive b).inactive = b := by
  unfold NetS.setInactive NetS.inactive
  split <;> simp [*]

@[simp] theorem setInactive_active (n : NetS) (b : Tab Word) : (n.setInactive b).active = n.active := by
  unfold NetS.setInactive NetS.active
  split <;> simp [*]

@[simp] theorem get_modify_same {α : Type} (p : PerLane α) (l : Lane) (f : α → α) : (p.modify l f).get l = f (p.get l) := by
  cases l <;> rfl

/-- With room in the compare buffer a register write leaves the network as its effect does, on a state with the same network and rails. -/
theorem regWrite_net_of_room (s : State) (l : Lane) (ofs : Nat) (v : Word) (effect : State → State) (runs : s.regsRun l = true)
    (room : RegisterRoom s l) : ∃ u, u.net = s.net ∧ u.regsRun l = true ∧ (s.regWrite l ofs v effect).net = (effect u).net := by
  have entered : ∃ enter leave : CoreS → CoreS, (∀ c, (enter c).st = c.st) ∧
      s.regWrite l ofs v effect = (effect (s.bump.modCore l enter)).modCore l leave := by
    unfold State.regWrite State.throughBogie
    rw [if_pos runs]
    refine ⟨_, _, ?_, if_neg (Nat.not_le.2 (room runs))⟩
    exact fun _ => rfl
  obtain ⟨enter, leave, st, eq⟩ := entered
  have lane : (s.bump.modCore l enter).laneSt l = s.laneSt l := by simp [st]
  refine ⟨s.bump.modCore l enter, by simp, ?_, by rw [eq]; simp⟩
  unfold State.regsRun
  rw [lane]
  exact runs

/-- An entry goes through the window of a lane to the inactive bank. -/
theorem slotDataOp_writes (l : Lane) (e : Word) (s : State) (runs : s.regsRun l = true)
    (other : (s.net.regs.get l).addrBank ≠ s.net.activeBank1) (thawed : s.net.frozen = false) (slot : (s.net.regs.get l).addrSlot ≤ 999) :
    (slotDataOp l e s).net =
      { s.net.setInactive (writeBank s.net.inactive (s.net.regs.get l).addrPort (s.net.regs.get l).addrSlot [e]) with
        regs := (s.net.setInactive (writeBank s.net.inactive (s.net.regs.get l).addrPort (s.net.regs.get l).addrSlot [e])).regs.modify l
          fun r => { r with refused := false } } := by
  unfold slotDataOp
  rw [if_pos runs]
  dsimp only
  rw [if_neg (by simp [other, thawed]; omega)]

/-- The active bank and a frozen one take no entry. -/
theorem slotDataOp_refuses (l : Lane) (e : Word) (s : State) (runs : s.regsRun l = true)
    (shut : (s.net.regs.get l).addrBank = s.net.activeBank1 ∨ s.net.frozen = true) :
    (slotDataOp l e s).net = { s.net with regs := s.net.regs.modify l fun r => { r with refused := true } } := by
  unfold slotDataOp
  rw [if_pos runs]
  dsimp only
  rw [if_pos (by rcases shut with h | h <;> simp [h])]

/-! ### Requests and the end of a switch -/

/-- The end of a switch unfreezes the inactive bank and clears every request, whatever its result. -/
theorem endSwitch_net (s : State) (result : Nat) (round crc : Word) : (s.endSwitch result round crc).net =
    { s.net with frozen := false, partnerArmed := false, switchDone := none, regs := s.net.regs.map fun r => { r with request := none } } := by
  unfold State.endSwitch
  dsimp only
  split <;> simp

/-- Where no lane requests a switch there is no round of one. -/
theorem switchRound_of_no_request (n : NetS) (idle : ∀ l, (n.regs.get l).request = none) : n.switchRound = none := by
  have asks (l : Lane) : (n.regs.get l).asks = none := by rw [HubRegs.asks, idle l, Option.map_none]
  have nobody (ls : List Lane) : ls.findSome? (fun l => (n.regs.get l).asks) = none := List.findSome?_eq_none_iff.2 fun l _ => asks l
  unfold NetS.switchRound
  dsimp only
  rw [nobody, nobody]

theorem endSwitch_switchRound (s : State) (result : Nat) (round crc : Word) : (s.endSwitch result round crc).net.switchRound = none := by
  refine switchRound_of_no_request _ fun l => ?_
  rw [endSwitch_net]
  cases l <;> rfl

/-- A cancelled request is gone, with what is left of the switch or without. -/
theorem switchCancelOp_clears (l : Lane) (v : Word) (s : State) (runs : s.regsRun l = true) (asked : v.getLsbD 0 = true) :
    ((switchCancelOp l v s).net.regs.get l).request = none := by
  unfold switchCancelOp
  rw [if_pos (by rw [runs, asked]; rfl)]
  dsimp only
  split
  · split
    · rw [endSwitch_net]
      cases l <;> rfl
    · exact congrArg HubRegs.request (get_modify_same s.net.regs l _)
  · exact congrArg HubRegs.request (get_modify_same s.net.regs l _)

/-! ### The switch -/

/-- Equal CRCs of an armed partner leave a switch armed. -/
theorem judgeBank_arms (s : State) (round crc : Word) (equal : crc = bankCrc s.net.inactive) :
    (s.judgeBank round crc true).net = { s.net with partnerArmed := true } := by
  unfold State.judgeBank
  dsimp only
  rw [if_neg (not_not_intro equal)]
  rfl

theorem bankCrcExchangeOp_arms (s : State) (r c : Word) (due : s.net.switchRound = some (r, c)) (frozen : s.net.frozen = true)
    (pair : s.mod.pos ≠ 0) : (bankCrcExchangeOp (bankCrc s.net.inactive) true s).net = { s.net with partnerArmed := true } := by
  have sent (k : Nat) (b : List Byte) : (s.sendControl k b none).net = s.net := (State_sendControl_frame s k b none).2.2.2.2.2.2.2.1
  unfold bankCrcExchangeOp
  rw [due]
  dsimp only
  rw [if_pos (by rw [frozen, decide_eq_true pair]; rfl), judgeBank_arms _ _ _ (by rw [sent]), sent]

/-- At its round a switch that two lanes asked for with the right CRC, and that the partner of a pair has armed for, takes place. -/
theorem bankSwitchOp_switches (s : State) (r c : Word) (due : s.net.switchRound = some (r, c)) (frozen : s.net.frozen = true)
    (running : s.net.running = true) (now : newer r s.net.round = false) (armed : s.mod.pos = 0 ∨ s.net.partnerArmed = true)
    (agree : 2 ≤ (Lane.all.filter fun l => (s.net.regs.get l).request = some r && (s.net.regs.get l).crc = bankCrc s.net.inactive).length) :
    bankSwitchOp s = ({ s with net := s.net.switchBanks } : State).endSwitch 0 r (bankCrc s.net.inactive) := by
  unfold bankSwitchOp
  rw [due]
  dsimp only
  rw [if_pos (by simp [frozen, running, now]), if_neg (by rcases armed with h | h <;> simp [h]), if_pos agree]

/-- Without an armed partner the switch of a pair ends with result 3. -/
theorem bankSwitchOp_unarmed (s : State) (r c : Word) (due : s.net.switchRound = some (r, c)) (frozen : s.net.frozen = true)
    (running : s.net.running = true) (now : newer r s.net.round = false) (pair : s.mod.pos ≠ 0) (unarmed : s.net.partnerArmed = false) :
    bankSwitchOp s = s.endSwitch 3 r c := by
  unfold bankSwitchOp
  rw [due]
  dsimp only
  rw [if_pos (by simp [frozen, running, now]), if_pos (by simp [pair, unarmed])]

@[simp] theorem switchBanks_active (n : NetS) : n.switchBanks.active = n.inactive := by
  unfold NetS.switchBanks NetS.active
  split <;> rfl

@[simp] theorem switchBanks_inactive (n : NetS) : n.switchBanks.inactive = n.inactive := by
  unfold NetS.switchBanks NetS.inactive
  dsimp only
  split <;> simp [*]

/-- Settles O43: a register write has its effect on the network of the state before, and a switch ends with its banks exchanged or kept. -/
theorem slotBankCommands : Obligations.SlotBankCommands := by
  unfold Obligations.SlotBankCommands
  refine ⟨fun l e s runs room other thawed slot => ?_, fun l e s runs room shut => ?_, fun l r s runs room => ?_,
    fun r c s due frozen pair => ?_, fun r c s due frozen running now armed agree => ?_,
    fun r c s due frozen running now pair unarmed => ?_, fun l v s runs room asked => ?_⟩
  · obtain ⟨u, net, runs', eq⟩ := regWrite_net_of_room s l 0x80024 e (slotDataOp l e) runs room
    refine ⟨_, rfl, ?_⟩
    beta_reduce
    rw [eq, slotDataOp_writes l e u runs' (net ▸ other) (net ▸ thawed) (net ▸ slot), net]
    exact ⟨setInactive_inactive _ _, setInactive_active _ _, congrArg HubRegs.refused (get_modify_same _ l _)⟩
  · obtain ⟨u, net, runs', eq⟩ := regWrite_net_of_room s l 0x80024 e (slotDataOp l e) runs room
    refine ⟨_, rfl, ?_⟩
    beta_reduce
    rw [eq, slotDataOp_refuses l e u runs' (net ▸ shut), net]
    exact ⟨rfl, rfl, congrArg HubRegs.refused (get_modify_same _ l _)⟩
  · obtain ⟨u, net, runs', eq⟩ := regWrite_net_of_room s l 0x80028 r (switchRoundOp l r) runs room
    refine ⟨_, rfl, ?_⟩
    beta_reduce
    rw [eq, switchRoundOp, if_pos runs', State.requestSwitch, net]
    exact ⟨rfl, congrArg HubRegs.request (get_modify_same _ l _), (congrArg HubRegs.crc (get_modify_same s.net.regs l _)).trans rfl⟩
  · refine ⟨_, rfl, ?_⟩
    beta_reduce
    rw [bankCrcExchangeOp_arms s r c due frozen pair]
    exact ⟨rfl, frozen⟩
  · refine ⟨_, rfl, ?_⟩
    beta_reduce
    rw [bankSwitchOp_switches s r c due frozen running now armed agree]
    refine ⟨?_, ?_, ?_, ?_, endSwitch_switchRound _ _ _ _⟩ <;> rw [endSwitch_net]
    · exact switchBanks_active s.net
    · exact switchBanks_inactive s.net
    · rfl
  · refine ⟨_, rfl, ?_⟩
    beta_reduce
    rw [bankSwitchOp_unarmed s r c due frozen running now pair unarmed]
    refine ⟨?_, ?_, ?_, ?_, endSwitch_switchRound _ _ _ _⟩ <;> rw [endSwitch_net]
    · rfl
    · rfl
  · obtain ⟨u, -, runs', eq⟩ := regWrite_net_of_room s l 0x80034 v (switchCancelOp l v) runs room
    refine ⟨_, rfl, ?_⟩
    beta_reduce
    rw [eq]
    exact switchCancelOp_clears l v u runs' asked

end Sys2Proof.Machine
end

section
/-!
SUPPORT. Reception (O42): a node's state and its channels, what a frame leaves of the channel that heard it, and the deadlines of a node
(R199, R203, R205, R206, R230, R232).
-/

namespace Sys2Proof.Machine

open Sys2Proof

/-! ### Nodes and ports of the network -/

@[simp] theorem node_modNode_same (s : State) (n : Nat) (f : NodeSt → NodeSt) : (s.modNode n f).node n = f (s.node n) :=
  Tab.getD_put_eq _ _ _ _

theorem node_of_net {s t : State} (net : t.net = s.net) (n : Nat) : t.node n = s.node n := by
  rw [State.node, State.node, net]

@[simp] theorem node_record (s : State) (type : Nat) (payload : List Byte) (n : Nat) : (s.record type payload).node n = s.node n :=
  node_of_net (by simp) n

@[simp] theorem node_deposit (s : State) (n : Nat) (f : Frame) (m : Nat) : (s.deposit n f).node m = s.node m :=
  node_of_net (by simp) m

@[simp] theorem node_modPort (s : State) (port : Nat) (f : PortSt → PortSt) (n : Nat) : (s.modPort port f).node n = s.node n := rfl

@[simp] theorem chan_onChan_same (x : NodeSt) (b : Bool) (f : NodeChan → NodeChan) : (x.onChan b f).chan b = f (x.chan b) := by
  cases b <;> rfl

@[simp] theorem chan_onChan_not (x : NodeSt) (b : Bool) (f : NodeChan → NodeChan) : (x.onChan b f).chan (!b) = x.chan (!b) := by
  cases b <;> rfl

/-! ### A frame that passes -/

/-- The frame makes its node a member that this round has heard. -/
theorem heardFrame_chan (s : State) (n port hdr : Nat) : ((s.heardFrame n port hdr).node n).chan (decide (32 ≤ port)) =
    { (s.node n).chan (decide (32 ≤ port)) with
      member := true, seen := true, silent := 0, integrating := bitOf hdr 22, nodeSafe := bitOf hdr 23
      closed := ((s.node n).chan (decide (32 ≤ port))).closed && !bitOf hdr 22
      admitInteg := ((s.node n).chan (decide (32 ≤ port))).admitInteg && !bitOf hdr 22
      hold := if bitOf hdr 22 then 0 else ((s.node n).chan (decide (32 ≤ port))).hold } := by
  unfold State.heardFrame
  dsimp only
  (repeat' split) <;> simp [*]

/-- The redundancy stage changes no channel of the node. -/
theorem pairCopy_chan (s : State) (n : Nat) (d : NodeDef) (c : WaitCopy) (b : Bool) :
    ((s.pairCopy n d c).node n).chan b = (s.node n).chan b := by
  have kept (t : State) (x : NodeSt) (nodes : t.net.nodes = Tab.put s.net.nodes n x) (same : x.chan b = (s.node n).chan b) :
      (t.node n).chan b = (s.node n).chan b := by
    rw [State.node, nodes, Tab.getD_put_eq, same]
  unfold State.pairCopy
  dsimp only
  split
  · exact kept _ _ rfl rfl
  · split
    · exact kept _ _ rfl rfl
    · split
      · rfl
      · split
        · split
          · exact kept _ _ rfl rfl
          · rw [node_deposit]
            exact kept _ _ rfl rfl
        · rw [node_record]
          exact kept _ _ rfl rfl

theorem dataFrame_chan (s : State) (n port : Nat) (d : NodeDef) (dest : Nat) (bytes payload : List Byte) (b : Bool) :
    ((s.dataFrame n port d dest bytes payload).node n).chan b = (s.node n).chan b := by
  unfold State.dataFrame State.recordConflict
  dsimp only
  rw [pairCopy_chan]
  split <;> simp [NodeSt.chan]

/-- The checks of a frame read the module, the image, the round and the grants. -/
theorem frameCheck_congr {s t : State} (mod : t.mod = s.mod) (img : t.img = s.img) (round : t.net.round = s.net.round)
    (grants : t.net.grants = s.net.grants) (port slot : Nat) (w : Word) (whole : Bool) (bytes : List Byte) (owner : Option NodeDef) :
    t.rxKind port w = s.rxKind port w ∧ t.frameCheck port slot w whole bytes owner = s.frameCheck port slot w whole bytes owner := by
  have image : t.image = s.image := by rw [State.image, State.image, img]
  have id : t.nodeId = s.nodeId := funext fun n => by rw [State.nodeId, State.nodeId, image]
  have node : t.slotNode port w = s.slotNode port w := by rw [State.slotNode, State.slotNode, State.homed, State.homed, image]
  have kind : t.rxKind port w = s.rxKind port w := by
    rw [State.rxKind, State.rxKind, node, State.spareOpen, State.spareOpen, id, round, grants]
  have dest : t.destOf = s.destOf := by
    unfold State.destOf State.destIds State.askiqId State.partnerId
    rw [mod]
  refine ⟨kind, ?_⟩
  unfold State.frameCheck
  rw [kind, dest, round, State.askiqId, State.askiqId, mod]

/-- A frame that passes its checks has its effect. -/
theorem busReceive_passes (s : State) (port slot : Nat) (whole : Bool) (bytes : List Byte) (owner : Option (Nat × NodeDef))
    (owned : (if s.rxKind port (Tab.getD s.net.active (1000 * port + slot) 0) = .claim then none
      else s.slotNode port (Tab.getD s.net.active (1000 * port + slot) 0)) = owner)
    (passes : (s.frameCheck port slot (Tab.getD s.net.active (1000 * port + slot) 0) whole bytes (owner.map Prod.snd)).1 = 0) :
    s.busReceive port slot whole bytes = s.useFrame port slot (Tab.getD s.net.active (1000 * port + slot) 0)
      (s.frameCheck port slot (Tab.getD s.net.active (1000 * port + slot) 0) whole bytes (owner.map Prod.snd)).2 bytes owner := by
  subst owned
  unfold State.busReceive
  dsimp only
  rw [passes]
  rfl

/-- The use of a vital frame leaves of its channel what the hearing of it leaves. -/
theorem useFrame_vital_chan (s : State) (port slot : Nat) (w : Word) (dest : Nat) (bytes : List Byte) (n : Nat) (d : NodeDef)
    (kind : s.rxKind port w = .vital) : ((s.useFrame port slot w dest bytes (some (n, d))).node n).chan (decide (32 ≤ port)) =
      ((s.heardFrame n port (leAt bytes 0 8)).node n).chan (decide (32 ≤ port)) := by
  unfold State.useFrame
  dsimp only
  rw [kind]
  dsimp only
  split
  · rfl
  · rw [dataFrame_chan]

theorem busReceive_vital_chan (s : State) (port slot : Nat) (bytes : List Byte) (n : Nat) (d : NodeDef)
    (kind : s.rxKind port (Tab.getD s.net.active (1000 * port + slot) 0) = .vital)
    (owner : s.slotNode port (Tab.getD s.net.active (1000 * port + slot) 0) = some (n, d))
    (passes : (s.frameCheck port slot (Tab.getD s.net.active (1000 * port + slot) 0) true bytes (some d)).1 = 0) :
    ((s.busReceive port slot true bytes).node n).chan (decide (32 ≤ port)) =
      ((s.heardFrame n port (leAt bytes 0 8)).node n).chan (decide (32 ≤ port)) := by
  rw [busReceive_passes s port slot true bytes (some (n, d)) (by rw [kind, owner]; rfl) passes, useFrame_vital_chan _ _ _ _ _ _ _ _ kind]

/-- Without a partner the hub hands a vital frame that it admits to the bus engines. -/
theorem hubReceive_vital (s : State) (port slot sof en : Nat) (bytes : List Byte) (n : Nat) (d : NodeDef) (alone : s.mod.pos = 0)
    (window : s.inClaimWindow port slot = true → (Tab.getD s.net.ports port .none).probedSlotC = false)
    (kind : s.rxKind port (Tab.getD s.net.active (1000 * port + slot) 0) = .vital) (early : 70 ≤ sof) (late : sof ≤ 570) (ends : en ≤ 9500)
    (owner : s.slotNode port (Tab.getD s.net.active (1000 * port + slot) 0) = some (n, d))
    (opened : s.pairClosed port .vital (some n) (bitOf (leAt bytes 0 8) 22) = false) :
    s.hubReceive port slot sof en false bytes =
      (s.modNode n fun x => x.onChan (decide (32 ≤ port)) fun c => { c with offset := some (arrivalOffset sof) }).busReceive port slot true bytes := by
  have unprobed : ¬(s.inClaimWindow port slot && (Tab.getD s.net.ports port .none).probedSlotC) = true := by
    intro h
    rw [Bool.and_eq_true] at h
    rw [window h.1] at h
    exact Bool.false_ne_true h.2
  have admitted : ¬s.pairClosed port .vital (some n) (bitOf (leAt bytes 0 8) 22) = true := by simp [opened]
  have inTime : ¬(!decide (70 ≤ sof ∧ sof ≤ 570)) = true := by simp [early, late]
  unfold State.hubReceive
  dsimp only
  rw [kind, owner]
  dsimp only [Option.map_some]
  rw [if_neg unprobed, if_neg inTime, if_neg admitted]
  simp [ends, alone]

/-- A served frame of a running network is the hub's. -/
theorem frameReceivedOp_net (port slot sof en : Nat) (codeError : Bool) (behind : LaneSet) (bytes : List Byte) (s : State)
    (cycles : s.mod.mode.cycles = true) (served : (if port < 32 then s.net.servesX else s.net.servesY) = true) (below : slot < 1000)
    (running : s.net.running = true) : (frameReceivedOp port slot sof en codeError behind bytes s).net =
      (({ s with acc := { s.acc with behind := behind } } : State).hubReceive port slot sof en codeError bytes).net := by
  unfold frameReceivedOp
  dsimp only
  rw [if_pos (by rw [cycles, served, decide_eq_true below]; rfl), if_pos running]

/-! ### The deadlines of a node -/

/-- A single copy below COMPARE_N is deposited and counted. -/
theorem pairingDeadlineOp_accepts (n : Nat) (w : WaitCopy) (d : NodeDef) (s : State) (waits : (s.node n).waiting = some w)
    (node : Tab.get? s.image.nodes n = some d) (alone : w.both = false) (fresh : w.deposited = false) (standing : w.refused = false)
    (keptX : (s.node n).declX = false) (keptY : (s.node n).declY = false) (few : (s.node n).single < d.compareN) :
    ∃ t : State, pairingDeadlineOp n s = t.deposit n w.frame ∧ t.lanes = s.lanes ∧ t.acc = s.acc ∧
      t.node n = { s.node n with waiting := some { w with deposited := true }, single := (s.node n).single + 1 } ∧
      t.net.counts.accepted = satAdd 0xFFFF s.net.counts.accepted 1 := by
  unfold pairingDeadlineOp
  rw [waits, node]
  dsimp only
  rw [if_neg (by simp [alone, fresh, standing]), if_neg (by simp [keptX, keptY]), if_pos few]
  exact ⟨_, rfl, rfl, rfl, Tab.getD_put_eq _ _ _ _, rfl⟩

/-- What a deposit puts into the buffers of a lane that ticks (R42). -/
theorem deposit_bufs (s : State) (n : Nat) (f : Frame) (l : Lane) (ticks : s.ticking l = true) :
    Tab.get? ((s.deposit n f).acc.bufs.get l) n =
      some ((Tab.getD (s.acc.bufs.get l) n ⟨none, none, none⟩).add f (s.acc.isOpen || s.acc.behind.get l)) := by
  unfold State.deposit
  dsimp only
  rw [get_mapL, if_pos ticks, Tab.upd, Tab.get_put_eq]

/-- A channel that the hub marks for a node, and what it leaves of the other. -/
theorem chan_modNode_onChan (s : State) (n : Nat) (b : Bool) (f : NodeChan → NodeChan) :
    ((s.modNode n fun x => x.onChan b f).node n).chan b = f ((s.node n).chan b) := by
  rw [node_modNode_same, chan_onChan_same]

/-- Three silent rounds end a membership of one channel. -/
theorem membershipLostOp_nodes (n : Nat) (ch : NetChan) (s : State) (member : ((s.node n).chan (decide (ch = .y))).member = true)
    (silent : 3 ≤ ((s.node n).chan (decide (ch = .y))).silent) :
    (membershipLostOp n ch s).node n = (s.node n).onChan (decide (ch = .y)) fun c => { c with member := false } := by
  unfold membershipLostOp
  dsimp only
  rw [if_pos (by simp [member, silent]), node_record, node_modNode_same]

/-- After 16 agreeing rounds a channel that is back is in use again. -/
theorem channelLossEndOp_node (n : Nat) (ch : NetChan) (s : State) (agree : 16 ≤ (s.node n).agreeRun)
    (back : s.channelBack n (decide (ch = .y)) = true) : (channelLossEndOp n ch s).node n =
      if decide (ch = .y) = true then { s.node n with declY := false } else { s.node n with declX := false } := by
  unfold channelLossEndOp
  dsimp only
  rw [if_pos (by rw [decide_eq_true agree, back]; rfl), node_modNode_same]

theorem decide_ne_y (ch : NetChan) : decide (ch ≠ .y) = !decide (ch = .y) := by cases ch <;> rfl

/-- Settles O42: the frame passes the checks on the state of before, and what follows keeps its channel. -/
theorem receptionCommands : Obligations.ReceptionCommands := by
  unfold Obligations.ReceptionCommands
  refine ⟨fun p slot sof en behind bs n d s cycles below running alone served window kind early late ends owner opened passes => ?_,
    fun n w d s waits node alone fresh standing keptX keptY few => ?_, fun n ch s member silent => ?_, fun n ch s closed hold => ?_,
    fun n ch s agree back => ?_⟩
  · refine ⟨_, rfl, ?_⟩
    have net := frameReceivedOp_net p.val slot sof en false behind bs s cycles served below running
    have admitted := hubReceive_vital { s with acc := { s.acc with behind := behind } } p.val slot sof en bs n d alone window kind early late
      ends owner opened
    obtain ⟨kind', check⟩ := frameCheck_congr (s := s) (t := ({ s with acc := { s.acc with behind := behind } } : State).modNode n fun x =>
      x.onChan (decide (32 ≤ p.val)) fun c => { c with offset := some (arrivalOffset sof) }) rfl rfl rfl rfl p.val slot
      (Tab.getD s.net.active (1000 * p.val + slot) 0) true bs (some d)
    have heard := busReceive_vital_chan _ p.val slot bs n d (kind'.trans kind) owner (check ▸ passes)
    beta_reduce
    rw [node_of_net (net.trans (congrArg State.net admitted)), heard, heardFrame_chan, chan_modNode_onChan]
    exact ⟨rfl, rfl, rfl, rfl⟩
  · obtain ⟨t, eq, lanes, acc, nodes, counts⟩ := pairingDeadlineOp_accepts n.val w d s waits node alone fresh standing keptX keptY few
    refine ⟨_, rfl, ?_⟩
    beta_reduce
    rw [eq, node_deposit, nodes]
    refine ⟨rfl, rfl, counts, fun l ticks => ?_⟩
    rw [deposit_bufs t n.val w.frame l (by rw [State.ticking, State.laneSt, State.lane, lanes]; exact ticks), acc]
  · refine ⟨_, rfl, ?_⟩
    beta_reduce
    rw [membershipLostOp_nodes n.val ch s member silent, decide_ne_y]
    exact ⟨congrArg NodeChan.member (chan_onChan_same _ _ _), chan_onChan_not _ _ _⟩
  · refine ⟨_, rfl, ?_⟩
    beta_reduce
    unfold closureHoldEndOp
    dsimp only
    rw [if_pos (by simp [closed, hold]), chan_modNode_onChan]
    exact ⟨rfl, closed⟩
  · refine ⟨_, rfl, ?_⟩
    beta_reduce
    rw [channelLossEndOp_node n.val ch s agree back]
    cases ch <;> rfl

end Sys2Proof.Machine
end

section
/-!
SUPPORT. What the hub sends (O41): the transmit voter, grants and ranging, and late-comers' claims (R207–R210, R227, R228, R235, R236).
-/

namespace Sys2Proof.Machine

open Sys2Proof

/-! ### The transmit voter -/

/-- Three equal byte strings win the vote whole, and no lane is odd. -/
theorem voteBytes_equal (l m k : Lane) (bs : List Byte) (n : Nat) (short : n ≤ bs.length) :
    voteBytes [(l, bs), (m, bs), (k, bs)] n = (bs.take n, [], none) := by
  induction n with
  | zero => rfl
  | succ n ih =>
    have byte : bs.getD n 0 = bs[n] := List.getD_eq_getElem _ _ short
    rw [voteBytes, ih (Nat.le_of_succ_le short), List.take_succ_eq_append_getElem short]
    simp only [List.map_cons, List.map_nil, byte]
    simp [voteByte]

theorem shareVoted_net (s : State) (node : Nat) (bytes : List Byte) : (s.shareVoted node bytes).net = s.net := by
  unfold State.shareVoted
  split
  · exact (State_sendPartner_frame s 2 _).2.2.2.2.2.2.2.1
  · rfl

/-- A lane's untouched version of the round that it was built for. -/
theorem version_first (v : Downlink) : v.version v.round0 [] = some v.bytes0 := by
  unfold Downlink.version
  simp

/-- Three lanes that hold the same bytes send them on every port of the node that the hub serves. -/
theorem voteSlot_equal (s : State) (node : Nat) (d : NodeDef) (slot : Nat) (bs : List Byte) (full : s.net.contrib = LaneSet.full)
    (held : ∀ l, ∃ v, Tab.get? (s.net.down.get l) node = some v ∧ v.round0 = s.net.round ∧ v.bytes0 = bs)
    (length : bs.length = d.dnLen + 8) :
    (s.voteSlot node d slot (PerLane.pure [])).net = ((s.nodePorts d).foldl (fun s p => s.hubSend p slot bs) s).net := by
  have version (l : Lane) : ((Tab.get? (s.net.down.get l) node).bind fun v => v.version s.net.round ((PerLane.pure []).get l)) = some bs := by
    obtain ⟨v, get, round, bytes⟩ := held l
    rw [get, Option.bind_some, ← round, ← bytes]
    cases l <;> exact version_first v
  have votes : ((LaneSet.list s.net.contrib).filterMap fun l =>
      ((Tab.get? (s.net.down.get l) node).bind fun v => v.version s.net.round ((PerLane.pure []).get l)).map fun b => (l, b)) =
        [(.a, bs), (.b, bs), (.c, bs)] := by
    rw [full]
    simp only [version]
    rfl
  have three : ¬LaneSet.count s.net.contrib < 2 := by
    rw [full]
    decide
  unfold State.voteSlot
  dsimp only
  rw [votes, if_neg three, if_neg (by simp), voteBytes_equal _ _ _ _ _ length.ge, List.take_of_length_le length.le]
  exact shareVoted_net _ _ _

/-- The frames of a node that both channels serve. -/
theorem foldl_hubSend_sent (s : State) (d : NodeDef) (slot : Nat) (bs : List Byte) (x : s.serves d.portX = true)
    (y : s.serves (d.portY + 32) = true) (portX : d.portX < 32) :
    ((s.nodePorts d).foldl (fun s p => s.hubSend p slot bs) s).net.sent = s.net.sent ++
      [⟨d.portX, slot, s.net.round, lineFrame false bs, false⟩, ⟨d.portY + 32, slot, s.net.round, lineFrame true bs, false⟩] := by
  have ports : s.nodePorts d = [d.portX, d.portY + 32] := by simp [State.nodePorts, x, y]
  have low : decide (32 ≤ d.portX) = false := decide_eq_false (Nat.not_le.2 portX)
  have high : decide (32 ≤ d.portY + 32) = true := decide_eq_true (Nat.le_add_left 32 d.portY)
  rw [ports]
  simp only [List.foldl_cons, List.foldl_nil, State.hubSend, low, high, List.append_assoc, List.cons_append, List.nil_append]

/-- The bytes of another round do not stand for those of this one. -/
theorem partnerLateOp_counts (n : Nat) (s : State) (cycles : s.mod.mode.cycles = true) (obeys : s.obeys = true)
    (node : (Tab.get? s.image.nodes n).isSome = true) (late : ∀ p, Tab.get? s.net.partnerBytes n = some p → p.1 ≠ s.net.round) :
    partnerLateOp n s = { s with net := { s.net with
      awaited := s.net.awaited.filter (· ≠ n), counts := { s.net.counts with partnerLate := satAdd 0xFFFF s.net.counts.partnerLate 1 } } } := by
  have absent : ((Tab.get? s.net.partnerBytes n).any fun p => p.1 = s.net.round) = false := by
    cases bytes : Tab.get? s.net.partnerBytes n with
    | none => rfl
    | some p => exact decide_eq_false (late p bytes)
  unfold partnerLateOp
  dsimp only
  rw [absent]
  exact if_pos (by rw [cycles, obeys, node]; rfl)

/-! ### Ranging -/

theorem port_modPort (s : State) (port : Nat) (f : PortSt → PortSt) :
    Tab.getD (s.modPort port f).net.ports port .none = f (Tab.getD s.net.ports port .none) := Tab.getD_put_eq _ _ _ _

/-- Slot c of a port with nothing pending sends a PROBE to the node whose turn it is. -/
theorem grantWindowOp_probes (port c n : Nat) (s : State) (cycles : s.mod.mode.cycles = true) (running : s.net.running = true)
    (serves : s.serves port = true) (slot : s.slotC port = some c) (grants : (Tab.getD s.net.ports port .none).grants = [])
    (delay : (Tab.getD s.net.ports port .none).delayMsg = none) (turn : s.toProbe port = some n) :
    ∃ data, grantWindowOp port s =
      (s.modPort port fun p => { p with probing := some n, turn := n + 1, probedSlotC := true }).sendGrant port c (s.nodeId n) data := by
  unfold grantWindowOp
  rw [if_pos (by rw [cycles, running, serves]; rfl), slot]
  dsimp only
  rw [grants, delay]
  dsimp only
  rw [turn]
  exact ⟨_, rfl⟩

/-- A reply that checks, within 4 400 units of delay, is the delay of the node probed. -/
theorem probeReplyOp_measures (port arr i c : Nat) (bs : List Byte) (s : State)
    (probing : (Tab.getD s.net.ports port .none).probing = some i) (slot : s.slotC port = some c) (running : s.net.running = true)
    (long : 12 ≤ bs.length) (crc : leAt bs (bs.length - 4) 4 = (crc32c (bs.take (bs.length - 4))).toNat) (early : 1727 ≤ arr)
    (late : arr ≤ 10528) (node : bits (leAt bs 0 8) 17 8 = s.nodeId i) (inSlot : bits (leAt bs 0 8) 41 32 = c) :
    probeReplyOp port arr bs s =
      (s.modPort port fun p => { p with probing := none, delayMsg := some (i, 0, (arr - 1727) / 2) }).modNode i fun x =>
        x.onChan (decide (32 ≤ port)) fun ch => { ch with delay := some ((arr - 1727) / 2) } := by
  have near : (arr - 1727) / 2 ≤ 4400 := by omega
  unfold probeReplyOp
  dsimp only
  rw [probing, slot]
  dsimp only
  refine if_pos ?_
  simp only [running, long, crc, node, inSlot, near, decide_true, Bool.and_true, Bool.true_and, Bool.and_eq_true, decide_eq_true_eq]
  omega

/-! ### Late-comers -/

@[simp] theorem queueGrant_grants (s : State) (port node : Nat) (data : List Byte) : (s.queueGrant port node data).net.grants = s.net.grants := by
  unfold State.queueGrant
  dsimp only
  split <;> rfl

/-- The grant is noted for the node. -/
theorem applyGrant_grants (s : State) (n : Nat) (d : NodeDef) (u w : Nat) (fromRound : Word) :
    (s.applyGrant n d u w fromRound).net.grants = Tab.put s.net.grants n ⟨u, w, fromRound, 0⟩ := by
  unfold State.applyGrant
  dsimp only
  have recorded (t : State) (type : Nat) (payload : List Byte) : (t.record type payload).net = t.net := by simp
  rw [recorded, queueGrant_grants, queueGrant_grants]
  rfl

/-- A late-comer that claims with its digest is granted the lowest spare pair. -/
theorem decideClaim_grants (s : State) (port id n u w : Nat) (d : NodeDef) (digest : List Byte) (lead : s.mod.role ≠ .tender)
    (known : (s.image.nodes.find? fun p => p.2.id = id) = some (n, d)) (key : d.keyDigest = some digest) (new : Tab.get? s.net.grants n = none)
    (on : s.net.grantsOn = true) (thawed : s.net.frozen = false) (home : d.portX = port ∨ d.portY + 32 = port)
    (up : s.spareSlot d false = some u) (dn : s.spareSlot d true = some w) :
    (s.decideClaim port id digest).net.grants = Tab.put s.net.grants n ⟨u, w, s.fromRound d, 0⟩ := by
  have sent (t : State) (k : Nat) (b : List Byte) : (t.sendControl k b none).net = t.net := (State_sendControl_frame t k b none).2.2.2.2.2.2.2.1
  unfold State.decideClaim
  rw [if_neg lead, known]
  dsimp only
  rw [if_neg (by simp [key]), if_neg (by simp [new]), if_neg (by simp [on]), if_neg (by rcases home with h | h <;> simp [key, h]),
    if_neg (by simp [thawed]), up, dn]
  dsimp only
  split
  · rw [sent, applyGrant_grants]
  · rw [applyGrant_grants]

/-- A claim reads the module, the image and the network. -/
theorem useFrame_claim (s : State) (port slot dest : Nat) (w : Word) (bytes : List Byte) (kind : s.rxKind port w = .claim) :
    ∃ t : State, t.mod = s.mod ∧ t.img = s.img ∧ t.net = s.net ∧ s.useFrame port slot w dest bytes none =
      t.decideClaim port (bits (leAt bytes 0 8) 17 8) (((bytes.drop 8).take (bits (leAt bytes 0 8) 30 24)).take 8) := by
  unfold State.useFrame
  dsimp only
  rw [kind]
  refine ⟨_, ?_, ?_, ?_, rfl⟩ <;> (split <;> simp [State.recordConflict])

/-- A claim in the slot after c of a round that has probed nothing reaches the bus engines. -/
theorem claimReceivedOp_receives (port c : Nat) (bs : List Byte) (s : State) (cycles : s.mod.mode.cycles = true)
    (running : s.net.running = true) (serves : s.serves port = true) (alone : s.mod.pos = 0)
    (unprobed : (Tab.getD s.net.ports port .none).probedSlotC = false) (opened : (Tab.getD s.net.ports port .none).closed = false)
    (slot : s.slotC port = some c) : claimReceivedOp port bs s = s.busReceive port (c + 1) true bs := by
  unfold claimReceivedOp
  dsimp only
  rw [if_pos (by rw [cycles, running, serves, unprobed]; rfl), slot]
  dsimp only
  rw [if_neg (by simp [opened]), if_neg (by simp [alone])]

/-- A hundred silent rounds end a grant. -/
theorem grantReleasedOp_grants (n : Nat) (g : GrantSt) (d : NodeDef) (s : State) (grant : Tab.get? s.net.grants n = some g)
    (node : Tab.get? s.image.nodes n = some d) (silent : 100 ≤ g.silent) (thawed : s.net.frozen = false) :
    (grantReleasedOp n s).net.grants = Tab.erase s.net.grants n := by
  have recorded (t : State) (type : Nat) (payload : List Byte) : (t.record type payload).net = t.net := by simp
  unfold grantReleasedOp
  rw [grant, node]
  dsimp only
  rw [if_pos (by simp [silent, thawed]), recorded]
  rfl

/-- Settles O41: each clause is the lemma above for its operation, read at the state of before. -/
theorem hubSendCommands : Obligations.HubSendCommands := by
  unfold Obligations.HubSendCommands
  refine ⟨fun n d slot bs s cycles running phase role node slotOf full x y portX held => ?_, fun n s cycles obeys node late => ?_,
    fun p c n s cycles running serves slot grants delay turn => ?_,
    fun p arr bs i c s probing slot running long crc early late node inSlot => ?_, fun p long i s probing => ?_,
    fun p bs dg c n d u w s cycles running serves alone unprobed opened slot lead kind passes known key digest new on thawed home up dn => ?_,
    fun n g d s grant node silent thawed => ?_⟩
  · refine ⟨_, rfl, ?_⟩
    obtain ⟨v, -, -, bytes, length⟩ := held .a
    have vote := voteSlot_equal s n.val d slot (bs .a) full (fun l => (held l).imp fun _ h => ⟨h.1, h.2.1, h.2.2.1⟩) (bytes ▸ length)
    have op : slotVoteOp n.val (PerLane.pure []) s = s.voteSlot n.val d slot (PerLane.pure []) := by
      unfold slotVoteOp
      rw [if_pos (by rw [cycles, running, phase]; rfl), node]
      dsimp only
      rw [slotOf]
      exact if_neg role
    rw [op, vote]
    exact foldl_hubSend_sent s d slot (bs .a) x y portX
  · exact congrArg Host.Outcome.next (partnerLateOp_counts n.val s cycles obeys node late)
  · obtain ⟨data, eq⟩ := grantWindowOp_probes p.val c n s cycles running serves slot grants delay turn
    refine ⟨_, rfl, ?_⟩
    beta_reduce
    have port := port_modPort s p.val fun p => { p with probing := some n, turn := n + 1, probedSlotC := true }
    rw [eq]
    exact ⟨congrArg PortSt.probing port, congrArg PortSt.turn port, congrArg PortSt.probedSlotC port, List.length_append⟩
  · refine ⟨_, rfl, ?_⟩
    beta_reduce
    rw [probeReplyOp_measures p.val arr i c bs s probing slot running long crc early late node inSlot]
    have port := port_modPort s p.val fun p => { p with probing := none, delayMsg := some (i, 0, (arr - 1727) / 2) }
    exact ⟨congrArg PortSt.delayMsg port, congrArg NodeChan.delay (chan_modNode_onChan (s.modPort p.val _) i _ _)⟩
  · refine ⟨_, rfl, ?_⟩
    unfold rangingEndOp
    rw [probing]
    dsimp only
    rw [port_modPort]
    exact ⟨rfl, rfl⟩
  · refine ⟨_, rfl, ?_, fun none => by rw [State.fromRound, none]; rfl⟩
    have owned : (if s.rxKind p.val (Tab.getD s.net.active (1000 * p.val + (c + 1)) 0) = .claim then none
      else s.slotNode p.val (Tab.getD s.net.active (1000 * p.val + (c + 1)) 0)) = none := if_pos kind
    obtain ⟨t, mod, img, net, eq⟩ := useFrame_claim s p.val (c + 1)
      (s.frameCheck p.val (c + 1) (Tab.getD s.net.active (1000 * p.val + (c + 1)) 0) true bs none).2 _ bs kind
    have image : t.image = s.image := by rw [State.image, State.image, img]
    have spare (down : Bool) : t.spareSlot d down = s.spareSlot d down := by rw [State.spareSlot, State.spareSlot, net]
    have start : t.fromRound d = s.fromRound d := by rw [State.fromRound, State.fromRound, image, net]
    rw [claimReceivedOp_receives p.val c bs s cycles running serves alone unprobed opened slot,
      busReceive_passes s p.val (c + 1) true bs none owned passes]
    refine (congrArg (fun v : State => Tab.get? v.net.grants n) eq).trans ?_
    rw [digest, decideClaim_grants t p.val _ n u w d dg (mod ▸ lead) (image ▸ known) key (net ▸ new) (net ▸ on) (net ▸ thawed) home
      ((spare false).trans up) ((spare true).trans dn), start, Tab.get_put_eq]
  · exact ⟨_, rfl, grantReleasedOp_grants n.val g d s grant node silent thawed⟩

end Sys2Proof.Machine
end

section
/-!
SUPPORT. Askiq time and the start of the network (O40): a round in which three lanes agree, the beacon, and the cold start (R206, R212,
R215–R223).
-/

namespace Sys2Proof.Machine

open Sys2Proof

/-! ### A round in which the lanes agree -/

/-- The deviations of three lanes that agree: each measures the other two, and both are 0. -/
def evenDevs : PerLane (List (Nat × Int)) := ⟨[(1, 0), (2, 0)], [(0, 0), (2, 0)], [(0, 0), (1, 0)]⟩

/-- The other two lanes are a lane's only sources of these values. -/
theorem deviations_even (s : State) (l : Lane) : s.deviations l (evenDevs.get l) = evenDevs.get l := by
  have node (n : Nat) (high : 3 ≤ n) : (if s.sourceLive l n then (evenDevs.get l).find? fun d => d.1 = n else none) = none := by
    have unmeasured : ((evenDevs.get l).find? fun d => decide (d.1 = n)) = none := by
      cases l <;> simp [evenDevs, PerLane.get] <;> omega
    rw [unmeasured, ite_self]
  have lanes (n : Nat) (low : n < 3) : s.sourceLive l n = decide (n ≠ l.id) := if_pos low
  have range : List.range 12 = [0, 1, 2] ++ (List.range 9).map (3 + ·) := rfl
  have rest : ((List.range 9).map (3 + ·)).filterMap (fun n =>
      if s.sourceLive l n then (evenDevs.get l).find? fun d => d.1 = n else none) = [] := by
    rw [List.filterMap_eq_nil_iff]
    intro n mem
    obtain ⟨k, -, rfl⟩ := List.mem_map.1 mem
    exact node _ (Nat.le_add_right 3 k)
  rw [State.deviations, range, List.filterMap_append, rest, List.append_nil]
  simp only [List.filterMap_cons, List.filterMap_nil, lanes 0 (by decide), lanes 1 (by decide), lanes 2 (by decide)]
  cases l <;> rfl

/-- A lane that agrees with the other two takes the correction 0 of three values. -/
theorem syncLane_even (s : State) (l : Lane) (ticks : s.ticking l = true) :
    ∃ f : CoreS → CoreS, (∀ c, (f c).st = c.st) ∧
      s.syncLane l (evenDevs.get l) = (s.modTbs l fun t => t.correct 3 0).modCore l f := by
  have far : (evenDevs.get l).filter (fun d => 160 < d.2.natAbs) = [] := by cases l <;> decide
  have near : 0 :: ((evenDevs.get l).filter fun d => d.2.natAbs ≤ 160).map Prod.snd = [0, 0, 0] := by cases l <;> decide
  have none : correction [0, 0, 0] = 0 := by decide
  unfold State.syncLane
  dsimp only
  rw [if_pos ticks, deviations_even s l, far, near, none]
  refine ⟨_, ?_, rfl⟩
  exact fun _ => rfl

/-- What a lane's correction of an even round leaves: its own time base takes it. -/
theorem syncLane_even_keeps (s : State) (l : Lane) (ticks : s.ticking l = true) : On (s.syncLane l (evenDevs.get l)) fun t =>
    t.net = s.net ∧ t.mod = s.mod ∧ (∀ m, t.laneSt m = s.laneSt m) ∧ (t.lane l).tbs = (s.lane l).tbs.correct 3 0 ∧
      ∀ m, m ≠ l → (t.lane m).tbs = (s.lane m).tbs := by
  obtain ⟨f, st, eq⟩ := syncLane_even s l ticks
  unfold On
  rw [eq]
  refine ⟨rfl, rfl, fun m => ?_, by simp [State.lane], fun m ne => ?_⟩
  · by_cases same : m = l
    · subst same
      simp [State.laneSt, State.lane, st]
    · simp [State.laneSt, State.lane, State.modCore, State.modTbs, get_modLane_ne _ l m _ same]
  · simp [State.lane, State.modCore, State.modTbs, get_modLane_ne _ l m _ ne]

/-- Three lanes that agree all take the correction 0. -/
theorem each_syncLane_even (s : State) (ticks : ∀ l, s.ticking l = true) :
    On (s.each Lane.all fun s l => s.syncLane l (evenDevs.get l)) fun t =>
      t.net = s.net ∧ t.mod = s.mod ∧ ∀ l, t.laneSt l = s.laneSt l ∧ (t.lane l).tbs = (s.lane l).tbs.correct 3 0 := by
  have kept {u v : State} (st : ∀ m, v.laneSt m = u.laneSt m) (old : ∀ l, u.ticking l = true) : ∀ l, v.ticking l = true := fun l => by
    rw [State.ticking, st, ← State.ticking, old]
  obtain ⟨net1, mod1, st1, own1, other1⟩ := syncLane_even_keeps s .a (ticks .a)
  have ticks1 := kept st1 ticks
  obtain ⟨net2, mod2, st2, own2, other2⟩ := syncLane_even_keeps _ .b (ticks1 .b)
  have ticks2 := kept st2 ticks1
  obtain ⟨net3, mod3, st3, own3, other3⟩ := syncLane_even_keeps _ .c (ticks2 .c)
  refine ⟨net3.trans (net2.trans net1), mod3.trans (mod2.trans mod1), fun l => ⟨(st3 l).trans ((st2 l).trans (st1 l)), ?_⟩⟩
  cases l with
  | a => exact (other3 .a (by decide)).trans ((other2 .a (by decide)).trans own1)
  | b => exact (other3 .b (by decide)).trans (own2.trans (by rw [other1 .b (by decide)]))
  | c => exact own3.trans (by rw [other2 .c (by decide), other1 .c (by decide)])

/-- A lane that has not stood alone stays in the vote. -/
theorem loneClock_of_zero (s : State) (l : Lane) (zero : (s.lane l).tbs.v1Run = 0) : s.loneClock l = s := by
  unfold State.loneClock
  dsimp only
  rw [zero]
  exact if_neg (by simp)

theorem each_loneClock_of_zero (s : State) (zero : ∀ l, (s.lane l).tbs.v1Run = 0) (ls : List Lane) : s.each ls State.loneClock = s := by
  induction ls with
  | nil => rfl
  | cons l ls ih => exact (congrArg (fun t : State => t.each ls State.loneClock) (loneClock_of_zero s l (zero l))).trans ih

theorem laneSt_of_votingLanes_full {s : State} (full : s.votingLanes = LaneSet.full) (l : Lane) : s.laneSt l = .voting := by
  have bit : s.votingLanes.get l = true := by rw [full]; cases l <;> rfl
  simpa [get_votingLanes] using bit

/-- The network is synchronised while all three lanes are. -/
theorem syncState_synchronised (s : State) (full : s.votingLanes = LaneSet.full) (synced : ∀ l, (s.lane l).tbs.synced = true) :
    On s.syncState fun t => t.net = { s.net with synced := true } ∧ t.mod = s.mod ∧
      ∀ l, t.laneSt l = s.laneSt l ∧ (t.lane l).tbs = (s.lane l).tbs := by
  have all : (s.votingLanes.mapL fun l b => b && (s.lane l).tbs.synced) = LaneSet.full := by
    rw [full]
    simp only [synced]
    rfl
  unfold On State.syncState
  dsimp only
  rw [all]
  split
  · next same =>
    have old : s.net.synced = true := same.symm.trans (by decide)
    exact ⟨by rw [← old], rfl, fun _ => ⟨rfl, rfl⟩⟩
  · refine ⟨?_, ?_, fun l => ⟨?_, ?_⟩⟩
    · simp
      decide
    · simp
    · simp [State.laneSt, State.lane]
    · simp [State.lane]

/-- The SYNC frames of a round change of the network only what is sent. -/
theorem sendSync_kept {α : Type} (g : NetS → α) (unsent : ∀ n frames, g { n with sent := frames } = g n) (s : State) (cold : Bool) :
    g (s.sendSync cold).net = g s.net := by
  unfold State.sendSync
  split
  · rfl
  · refine keep_foldl (fun u => g u.net) _ ?_ _ s
    exact fun u _ => unsent u.net _

/-- The slots of a running network's round leave the round and its synchronisation. -/
theorem startSlots_running (s : State) (running : s.net.running = true) (phase : s.net.phase = .running) :
    s.startSlots.net.round = s.net.round ∧ s.startSlots.net.synced = s.net.synced := by
  unfold State.startSlots
  rw [phase]
  dsimp only
  rw [if_pos running]
  exact ⟨sendSync_kept NetS.round (fun _ _ => rfl) s false, sendSync_kept NetS.synced (fun _ _ => rfl) s false⟩

/-- A round in which three lanes agree exactly. -/
theorem roundStartOp_even (r : Word) (s : State) (operate : s.mod.mode = .operate) (alone : s.mod.pos = 0) (running : s.net.running = true)
    (phase : s.net.phase = .running) (next : newer r s.net.round = true) (full : s.votingLanes = LaneSet.full) :
    On (roundStartOp r evenDevs none s) fun t => t.net.round = r ∧ t.net.synced = true ∧
      ∀ l, (t.lane l).tbs = (s.lane l).tbs.correct 3 0 ∧ t.laneSt l = .voting := by
  have cycles : s.mod.mode.cycles = true := by rw [operate]; rfl
  have votes := laneSt_of_votingLanes_full full
  have ticks (l : Lane) : s.ticking l = true := by rw [State.ticking, votes l]; rfl
  have corrected := each_syncLane_even s ticks
  unfold On at corrected ⊢
  unfold roundStartOp
  rw [if_pos (by rw [cycles, running, next]; rfl)]
  have link : s.linkDelay none = s := if_pos alone
  dsimp only
  rw [link, if_pos running]
  generalize (s.each Lane.all fun s l => s.syncLane l (evenDevs.get l)) = u at corrected ⊢
  obtain ⟨net, mod, lanes⟩ := corrected
  rw [each_loneClock_of_zero u (fun l => by rw [(lanes l).2]; rfl)]
  have fullU : u.votingLanes = LaneSet.full := (allVoting_iff u).1 fun l => (lanes l).1.trans (votes l)
  obtain ⟨net', mod', lanes'⟩ := syncState_synchronised u fullU fun l => by rw [(lanes l).2]; rfl
  generalize u.syncState = v at net' mod' lanes' ⊢
  rw [if_pos (by rw [mod', mod, cycles])]
  obtain ⟨round, synced⟩ := startSlots_running (v.closeRound r) (by simp [State.closeRound, net', net, running])
    (by simp [State.closeRound, net', net, phase])
  have strobes : (v.closeRound r).startSlots.strobes = (v.closeRound r).startSlots := if_pos (by simp [mod', mod, alone])
  have rails : (v.closeRound r).startSlots.lanes = v.lanes := by simp
  rw [strobes]
  refine ⟨round, synced.trans (by rw [State.closeRound, net']), fun l => ?_⟩
  rw [State.laneSt, State.lane, rails]
  exact ⟨(lanes' l).2.trans (lanes l).2, (lanes' l).1.trans ((lanes l).1.trans (votes l))⟩

/-! ### Rate and beacon -/

theorem modify_congr {α : Type} (p : PerLane α) (l : Lane) (f g : α → α) (same : f (p.get l) = g (p.get l)) : p.modify l f = p.modify l g :=
  congrArg (p.set l) same

theorem modTbs_congr (s : State) (l : Lane) (f g : TbsS → TbsS) (same : f (s.lane l).tbs = g (s.lane l).tbs) : s.modTbs l f = s.modTbs l g :=
  congrArg (fun lanes => { s with lanes := lanes })
    (modify_congr s.lanes l (fun x => { x with tbs := f x.tbs }) (fun x => { x with tbs := g x.tbs }) (congrArg (fun t => { s.lane l with tbs := t }) same))

/-- Frames sent on a list of ports, in their order. -/
theorem each_hubSend (s : State) (ports : List Nat) (slot : Nat) (body : List Byte) :
    (s.each ports fun s p => s.hubSend p slot body).net = { s.net with
      sent := s.net.sent ++ (ports.map fun p => ⟨p, slot, s.net.round, lineFrame (decide (32 ≤ p)) body, false⟩) } := by
  induction ports generalizing s with
  | nil => simp [State.each]
  | cons p ports ih =>
    refine (ih (s.hubSend p slot body)).trans ?_
    simp [State.hubSend]

/-- The beacon of a round in RECOVERY. -/
theorem beaconSendOp_net (s : State) (recovery : s.mod.mode = .recovery) : ∃ body, (beaconSendOp s).net = { s.net with
    round := s.net.round + 1
    sent := (List.range 64).map (fun p => ⟨p, 0, s.net.round, lineFrame (decide (32 ≤ p)) body, false⟩) } := by
  unfold beaconSendOp
  rw [if_pos recovery]
  dsimp only
  rw [each_hubSend]
  exact ⟨_, rfl⟩

/-! ### The start of the network -/

theorem recordCold_net (s : State) (event : Nat) (other : Word) : (s.recordCold event other).net = s.net := by simp

/-- The channel that the partner's hub drives, lost to every node, is a matter of the nodes' states. -/
theorem lostPartner_kept {α : Type} (g : NetS → α) (nodeless : ∀ n nodes, g { n with nodes := nodes } = g n) (s : State) :
    g s.lostPartner.net = g s.net := by
  unfold State.lostPartner
  split
  · refine keep_foldl (fun u => g u.net) _ ?_ _ s
    exact fun u _ => nodeless u.net _
  · rfl

/-- A channel that is declared lost for a node stays so while the other nodes' are declared. -/
theorem foldl_declare_lost (chY : Bool) (f : NodeSt → NodeSt) (hf : ∀ x, (if chY then (f x).declY else (f x).declX) = true)
    (n : Nat) (ns : List Nat) (s : State) (wf : Tab.wf s.net.nodes = true)
    (declared : n ∈ ns ∨ (if chY then (s.node n).declY else (s.node n).declX) = true) :
    (if chY then ((ns.foldl (fun s n => s.modNode n f) s).node n).declY else ((ns.foldl (fun s n => s.modNode n f) s).node n).declX) = true := by
  induction ns generalizing s with
  | nil => exact declared.resolve_left List.not_mem_nil
  | cons m ns ih =>
    refine ih _ (Tab.put_wf _ _ _ wf) ?_
    by_cases same : n = m
    · subst same
      rw [node_modNode_same]
      exact .inr (hf _)
    · have kept : (s.modNode m f).node n = s.node n := Tab.getD_put_ne _ _ _ _ _ same wf
      rw [kept]
      exact declared.imp_left fun mem => (List.mem_cons.1 mem).resolve_left same

theorem declareLost_declares (s : State) (chY : Bool) (n : Nat) (d : NodeDef) (node : (n, d) ∈ s.image.nodes)
    (wf : Tab.wf s.net.nodes = true) : (if chY then ((s.declareLost chY).node n).declY else ((s.declareLost chY).node n).declX) = true := by
  refine foldl_declare_lost chY _ (fun x => ?_) n _ s wf (.inl (List.mem_map_of_mem node))
  cases chY <;> rfl

/-- The end of the cold-start rounds: the role by the position, the channels by the role, then the partner's channel. -/
theorem coldRoundsCompleteOp_starts (s : State) (cycles : s.mod.mode.cycles = true) (phase : s.net.phase = .coldRounds 0) :
    ∃ t : State, coldRoundsCompleteOp s = t.lostPartner ∧
      t.mod = { s.mod with role := if s.mod.pos = 0 then .solo else .lead, cond := .none } ∧ t.img = s.img ∧ t.plink = s.plink ∧
      t.net = { s.net with
        phase := .running, collisions := 0
        servesX := decide (s.mod.pos = 0) || !s.plink.leadChannelY
        servesY := decide (s.mod.pos = 0) || s.plink.leadChannelY } := by
  unfold coldRoundsCompleteOp
  rw [if_pos (by rw [cycles, phase]; rfl)]
  refine ⟨_, rfl, by simp, by simp, by simp, ?_⟩
  rw [recordCold_net, State.serveByRole]
  by_cases alone : s.mod.pos = 0 <;> simp [alone]

/-- A LEAD without its partner declares the partner's channel lost. -/
theorem lostPartner_lead (s : State) (lead : s.mod.role = .lead) (down : s.plink.up = false) :
    s.lostPartner = s.declareLost (!s.plink.leadChannelY) :=
  if_pos (by rw [lead, down]; rfl)

/-- Settles O40: a round of equal clocks corrects nothing, and the start of the network is a matter of its phase. -/
theorem networkTimeAndStartCommands : Obligations.NetworkTimeAndStartCommands := by
  unfold Obligations.NetworkTimeAndStartCommands
  refine ⟨fun r s operate alone running phase next full => ?_, fun l s eight => ?_, fun s recovery => ?_, fun s running => ?_,
    fun s cycles phase => ?_, fun s cycles phase => ?_, fun n d s cycles phase pair down node wf => ?_, fun c n s phase => ?_,
    fun s phase => ?_, fun c s integrate pair down running obeyed => ?_, fun n s phase silent => ?_⟩
  · obtain ⟨round, synced, lanes⟩ := roundStartOp_even r s operate alone running phase next full
    refine ⟨_, rfl, round, synced, fun l => ?_⟩
    obtain ⟨tbs, votes⟩ := lanes l
    exact ⟨(congrArg TbsS.synced tbs :), (congrArg TbsS.v tbs :), (congrArg TbsS.lastC tbs :), votes⟩
  · exact congrArg Host.Outcome.next ((if_pos eight).trans (modTbs_congr s l _ _ rfl))
  · obtain ⟨body, net⟩ := beaconSendOp_net s recovery
    refine ⟨_, rfl, ?_⟩
    beta_reduce
    rw [net]
    refine ⟨by simp [List.map_map, Function.comp_def], fun f mem => ?_, rfl⟩
    obtain ⟨p, -, rfl⟩ := List.mem_map.1 mem
    exact ⟨rfl, rfl, rfl⟩
  · exact congrArg Host.Outcome.next (if_pos running)
  · refine ⟨_, rfl, ?_⟩
    beta_reduce
    have cold : listenTimeoutOp s = s.coldStart := if_pos (by rw [cycles, phase]; rfl)
    rw [cold, State.coldStart, State.netNow, recordCold_net]
    simp
  · obtain ⟨t, eq, mod, -, -, net⟩ := coldRoundsCompleteOp_starts s cycles phase
    have kept : t.lostPartner.mod = t.mod := by simp
    refine ⟨_, rfl, ?_⟩
    beta_reduce
    rw [eq, kept, mod, lostPartner_kept NetS.phase (fun _ _ => rfl), lostPartner_kept NetS.collisions (fun _ _ => rfl),
      lostPartner_kept NetS.servesX (fun _ _ => rfl), lostPartner_kept NetS.servesY (fun _ _ => rfl), net]
    exact ⟨rfl, rfl, rfl, rfl, rfl, rfl⟩
  · obtain ⟨t, eq, mod, img, plink, net⟩ := coldRoundsCompleteOp_starts s cycles phase
    have lead : t.mod.role = .lead := by rw [mod]; exact if_neg pair
    have declared := declareLost_declares t (!s.plink.leadChannelY) n d (by rw [State.image, img]; exact node) (by rw [net]; exact wf)
    refine ⟨_, rfl, ?_⟩
    beta_reduce
    rw [eq, lostPartner_lead t lead (plink ▸ down), plink]
    refine ⟨by simpa using lead, ?_⟩
    generalize s.plink.leadChannelY = leadY at declared ⊢
    cases leadY <;> exact declared
  · refine ⟨_, rfl, ?_⟩
    beta_reduce
    unfold collisionOp
    rw [phase]
    dsimp only
    split
    · exact ⟨rfl, phase.symm ▸ rfl, rfl⟩
    · rw [recordCold_net]
      exact ⟨rfl, rfl, rfl, rfl⟩
  · exact congrArg Host.Outcome.next (if_pos phase)
  · refine ⟨_, rfl, ?_⟩
    beta_reduce
    unfold abandonedOp
    dsimp only
    rw [if_pos (by rw [integrate, decide_eq_true pair, down, running, obeyed]; rfl), if_neg (by simp [integrate]), recordCold_net]
    exact ⟨rfl, rfl, rfl⟩
  · refine congrArg Host.Outcome.next ?_
    unfold networkSilenceOp
    rw [phase]
    exact if_pos silent

end Sys2Proof.Machine
end

section
/-!
SUPPORT. Network administration (O58): status, ports, slot banks and the late-comer policy (R206, R237, R238, R348).
-/

namespace Sys2Proof.Machine

open Sys2Proof

/-! ### Replies of the lanes -/

/-- Opcodes that the housekeeper serves by themselves in some modes (R18, R312). -/
def housekeeperOpcode (op : Nat) : Bool := op = 0x0301 || op = 0x0701 || op = 0x0702 || op = 0x0704

/-- The other commands on queues but the log's are served by the lanes or by nobody. -/
theorem service_ne_housekeeper (s : State) (q op : Nat) (queue : q ≠ 5) (opcode : housekeeperOpcode op = false) :
    s.service q op ≠ .housekeeper := by
  simp only [housekeeperOpcode, Bool.or_eq_false_iff, decide_eq_false_iff_not] at opcode
  obtain ⟨⟨⟨status, wake⟩, image⟩, off⟩ := opcode
  unfold State.service
  cases s.mod.mode <;> simp only [if_neg queue, status, wake, image, off, decide_false, Bool.or_self, Bool.false_eq_true, if_false,
    ne_eq, reduceCtorEq, not_false_eq_true]
  all_goals split <;> decide

theorem service_accepted (s : State) (h : CmdHdr) (op : Nat) (need : Option Role) (accepted : Accepts s h op need)
    (queue : opcodeQueue op ≠ 5) (opcode : housekeeperOpcode op = false) : s.service (opcodeQueue op) op = .lanes := by
  simp only [Accepts, State.accepts, Bool.and_eq_true, Bool.or_eq_true, decide_eq_true_eq] at accepted
  obtain ⟨⟨⟨served, -⟩, -⟩, -⟩ := accepted
  exact served.resolve_right (service_ne_housekeeper s _ op queue opcode)

/-- The lanes answer an accepted command that is none of the housekeeper's. -/
theorem say_accepted (s u : State) (h : CmdHdr) (op st : Nat) (ps : List Byte) (need : Option Role) (accepted : Accepts s h op need)
    (queue : opcodeQueue op ≠ 5) (opcode : housekeeperOpcode op = false) (mod : u.mod = s.mod) : u.say h op st ps = u.reply h op st ps := by
  have same : u.service (opcodeQueue op) op = s.service (opcodeQueue op) op := by rw [State.service, State.service, mod]
  unfold State.say
  rw [same, service_accepted s h op need accepted queue opcode]

theorem answered_of_say (s u : State) (h : CmdHdr) (op st : Nat) (ps : List Byte) (need : Option Role) (accepted : Accepts s h op need)
    (queue : opcodeQueue op ≠ 5) (opcode : housekeeperOpcode op = false) (mod : u.mod = s.mod) (lanes : u.lanes = s.lanes)
    (host : u.host = s.host) : Answered s (u.say h op st ps) h op st ps := by
  have writers : u.writers = s.writers := by
    unfold State.writers State.votingLanes State.replyingLanes State.lanesWith
    rw [mod, lanes]
  unfold Answered
  rw [say_accepted s u h op st ps need accepted queue opcode mod]
  unfold State.reply State.holdReply
  rw [writers, host]

theorem say_net (s : State) (h : CmdHdr) (op st : Nat) (ps : List Byte) : (s.say h op st ps).net = s.net := by simp

/-! ### Ports -/

/-- What is done to the nodes of a port leaves the ports as they are. -/
theorem each_modNode_ports {α : Type} (s : State) (l : List α) (n : α → Nat) (f : NodeSt → NodeSt) :
    (s.each l fun s p => s.modNode (n p) f).net.ports = s.net.ports := by
  refine keep_foldl (fun u => u.net.ports) _ ?_ l s
  exact fun _ _ => rfl

theorem takePortOut_ports (s : State) (port : Nat) : (s.takePortOut port).net.ports =
    Tab.upd s.net.ports port .none fun p => { p with outOfService := true } :=
  each_modNode_ports _ _ Prod.fst _

theorem returnPort_ports (s : State) (port : Nat) : (s.returnPort port).net.ports =
    Tab.upd s.net.ports port .none fun p => { p with outOfService := false } :=
  each_modNode_ports _ _ Prod.fst _

theorem takePortOut_kept (s : State) (port : Nat) : (s.takePortOut port).mod = s.mod ∧ (s.takePortOut port).lanes = s.lanes ∧
    (s.takePortOut port).host = s.host := by simp

theorem returnPort_kept (s : State) (port : Nat) : (s.returnPort port).mod = s.mod ∧ (s.returnPort port).lanes = s.lanes ∧
    (s.returnPort port).host = s.host := by simp

/-! ### The switch of banks -/

/-- A lane's request is its own. -/
theorem requestSwitch_regs (s : State) (l m : Lane) (round crc : Word) : ((s.requestSwitch l round crc).net.regs.get m) =
    if m = l then { s.net.regs.get l with crc := crc, request := some round } else s.net.regs.get m := by
  cases l <;> cases m <;> rfl

/-- The lanes of a list request the switch, and freeze the inactive bank where there is one. -/
theorem foldl_requestSwitch (s : State) (ls : List Lane) (round crc : Word) :
    On (ls.foldl (fun s l => s.requestSwitch l round crc) s) fun t =>
      t.net.frozen = (s.net.frozen || !ls.isEmpty) ∧ t.net.round = s.net.round ∧ t.mod = s.mod ∧ t.lanes = s.lanes ∧ t.host = s.host ∧
        ∀ l, l ∈ ls ∨ (s.net.regs.get l).request = some round ∧ (s.net.regs.get l).crc = crc →
          (t.net.regs.get l).request = some round ∧ (t.net.regs.get l).crc = crc := by
  induction ls generalizing s with
  | nil => exact ⟨(Bool.or_false _).symm, rfl, rfl, rfl, rfl, fun l h => h.resolve_left List.not_mem_nil⟩
  | cons m ls ih =>
    obtain ⟨frozen, rest⟩ := ih (s.requestSwitch m round crc)
    obtain ⟨kept, mod, lanes, host, asked⟩ := rest
    refine ⟨frozen.trans (by simp [State.requestSwitch]), kept, mod, lanes, host, fun l h => asked l ?_⟩
    rw [requestSwitch_regs]
    by_cases same : l = m
    · exact .inr (by simp [same])
    · rw [if_neg same]
      exact h.imp_left fun mem => (List.mem_cons.1 mem).resolve_left same

/-- Every lane that writes requests the switch. -/
theorem armSwitch_requests (s : State) (round crc : Word) (done : Option Completion) : On (s.armSwitch round crc done) fun t =>
    t.net.frozen = (s.net.frozen || decide (LaneSet.count s.writers ≠ 0)) ∧ t.net.round = s.net.round ∧ t.mod = s.mod ∧ t.lanes = s.lanes ∧
      t.host = s.host ∧ ∀ l, s.writers.get l = true → (t.net.regs.get l).request = some round ∧ (t.net.regs.get l).crc = crc := by
  obtain ⟨frozen, kept, mod, lanes, host, asked⟩ := foldl_requestSwitch s (LaneSet.list s.writers) round crc
  have some : (!(LaneSet.list s.writers).isEmpty) = decide (LaneSet.count s.writers ≠ 0) := by
    rw [LaneSet.count]
    cases LaneSet.list s.writers <;> simp
  refine ⟨some ▸ frozen, kept, mod, lanes, host, fun l writes => asked l (.inl ?_)⟩
  exact List.mem_filter.2 ⟨by cases l <;> decide, writes⟩

/-! ### The commands, accepted -/

/-- The parameters of NET_STATUS that are none of a refusal. -/
theorem netStatus_params (select ch first n : Nat) (known : select ≤ 2) (channel : ch ≤ 1) (some : 1 ≤ n) (few : n ≤ 100) (low : first < 512)
    (fits : select = 1 → first + n ≤ 512) :
    ¬(2 < select || 1 < ch || !within 1 100 n || 512 ≤ first || (select = 1 && 512 < first + n)) = true := by
  simp only [within, Bool.or_eq_true, Bool.and_eq_true, Bool.not_eq_true', decide_eq_true_eq, Bool.and_eq_false_iff, decide_eq_false_iff_not]
  omega

/-- Those of NET_BANK_WRITE. -/
theorem netBankWrite_params (port first n : Nat) (low : port < 64) (some : 1 ≤ n) (few : n ≤ 250) (fits : first + n ≤ 1000) :
    ¬(64 ≤ port || !within 1 250 n || 1000 < first + n) = true := by
  simp only [within, Bool.or_eq_true, Bool.not_eq_true', decide_eq_true_eq, Bool.and_eq_false_iff, decide_eq_false_iff_not]
  omega

theorem netPortControlOp_takes (h : CmdHdr) (port : Nat) (s : State) (accepted : Accepts s h 0x0902 (some .engineer)) (low : port < 64)
    (served : (if port < 32 then s.net.servesX else s.net.servesY) = true)
    (covered : ((s.portNodes port).any fun q => s.portOut (if port < 32 then q.2.portY + 32 else q.2.portX)) = false) :
    netPortControlOp h port 1 s = (s.takePortOut port).say h 0x0902 stOk [] := by
  unfold netPortControlOp
  rw [serve_accepts s h _ _ _ accepted]
  dsimp only
  rw [if_neg (by rw [served]; simpa using low), if_neg Nat.one_ne_zero, covered]
  exact if_neg Bool.false_ne_true

theorem netPortControlOp_returns (h : CmdHdr) (port : Nat) (s : State) (accepted : Accepts s h 0x0902 (some .engineer)) (low : port < 64)
    (served : (if port < 32 then s.net.servesX else s.net.servesY) = true) :
    netPortControlOp h port 0 s = (s.returnPort port).say h 0x0902 stOk [] := by
  unfold netPortControlOp
  rw [serve_accepts s h _ _ _ accepted]
  dsimp only
  rw [if_neg (by rw [served]; simpa using low)]
  exact if_pos rfl

/-- A write that nothing refuses, in a module that is no LEAD. -/
theorem netBankWriteOp_writes (h : CmdHdr) (port first : Nat) (es : List Word) (s : State) (accepted : Accepts s h 0x0903 (some .engineer))
    (low : port < 64) (some : 1 ≤ es.length) (few : es.length ≤ 250) (fits : first + es.length ≤ 1000)
    (allowed : s.bankRefusal port first es = none) (role : s.mod.role ≠ .lead) :
    netBankWriteOp h port first es s = ({ s with net := s.net.setInactive (writeBank s.net.inactive port first es) } : State).say h 0x0903 stOk
      (bytesOf 4 (bankCrc (writeBank s.net.inactive port first es))) := by
  unfold netBankWriteOp
  rw [serve_accepts s h _ _ _ accepted]
  dsimp only
  rw [if_neg (netBankWrite_params port first es.length low some few fits), allowed]
  dsimp only
  rw [if_neg role]

/-- A switch that nothing refuses, in a module that is no LEAD. -/
theorem netBankSwitchOp_arms (h : CmdHdr) (r crc : Word) (s : State) (accepted : Accepts s h 0x0904 (some .engineer))
    (notice : newer r (s.net.round + 49) = true) (thawed : s.net.frozen = false) (role : s.mod.role ≠ .lead) :
    netBankSwitchOp h r crc s = (s.armSwitch r crc (some (h.completion 0x0904 r.toNat))).say h 0x0904 stAccepted [] := by
  have same : (s.armSwitch r crc (some (h.completion 0x0904 r.toNat))).mod.role ≠ .lead := by
    obtain ⟨-, -, mod, -⟩ := armSwitch_requests s r crc (some (h.completion 0x0904 r.toNat))
    rw [mod]
    exact role
  unfold netBankSwitchOp
  rw [serve_accepts s h _ _ _ accepted]
  dsimp only
  rw [if_neg (by rw [notice]; decide), if_neg (by simp [role]), if_neg (by simp [thawed]), if_neg same]

theorem netPolicyOp_sets (h : CmdHdr) (e : Nat) (s : State) (accepted : Accepts s h 0x0905 (some .engineer)) (flag : e ≤ 1)
    (role : s.mod.role ≠ .tender) : netPolicyOp h e s =
      ({ s with net := { s.net with grantsOn := decide (e = 1) } } : State).say h 0x0905 stOk [] := by
  unfold netPolicyOp
  rw [serve_accepts s h _ _ _ accepted]
  dsimp only
  rw [if_neg (Nat.not_lt.2 flag), if_neg role]

/-- Settles O58: an accepted command has its body's effect, and the lanes answer it. -/
theorem networkAdministration : Obligations.NetworkAdministration := by
  unfold Obligations.NetworkAdministration
  refine ⟨fun h ch first n s accepted channel some few low => ?_, fun h ch first n s accepted channel some few fits => ?_,
    fun h p q s accepted low served covered wf => ?_, fun h p s accepted low served => ?_,
    fun h p first es s accepted low some few fits allowed role => ?_, fun h r crc s accepted notice thawed role => ?_,
    fun h e s accepted flag role => ?_⟩
  · exact congrArg Host.Outcome.next
      ((serve_accepts s h _ _ _ accepted).trans (if_neg (netStatus_params 0 _ _ _ (Nat.zero_le _) channel some few low nofun)))
  · exact congrArg Host.Outcome.next
      ((serve_accepts s h _ _ _ accepted).trans (if_neg (netStatus_params 1 _ _ _ one_le_two channel some few (by omega) fun _ => fits)))
  · refine ⟨_, rfl, ?_⟩
    have eq := netPortControlOp_takes h p.toNat s accepted low served covered
    obtain ⟨mod, lanes, host⟩ := takePortOut_kept s p.toNat
    have ports := takePortOut_ports s p.toNat
    beta_reduce
    rw [show netPortControlOp h p.toNat (1 : Byte).toNat s = _ from eq, State.portOut, State.portOut, say_net, ports]
    refine ⟨congrArg PortSt.outOfService (Tab.getD_put_eq _ _ _ _), fun other => ?_,
      answered_of_say s _ h _ _ _ _ accepted (by decide) rfl mod lanes host⟩
    rw [State.portOut]
    exact congrArg PortSt.outOfService (Tab.getD_put_ne _ _ _ _ _ other wf)
  · refine ⟨_, rfl, ?_⟩
    have eq := netPortControlOp_returns h p.toNat s accepted low served
    obtain ⟨mod, lanes, host⟩ := returnPort_kept s p.toNat
    have ports := returnPort_ports s p.toNat
    beta_reduce
    rw [show netPortControlOp h p.toNat (0 : Byte).toNat s = _ from eq, State.portOut, say_net, ports]
    exact ⟨congrArg PortSt.outOfService (Tab.getD_put_eq _ _ _ _), answered_of_say s _ h _ _ _ _ accepted (by decide) rfl mod lanes host⟩
  · refine ⟨_, rfl, ?_⟩
    beta_reduce
    rw [netBankWriteOp_writes h p.toNat first.toNat es s accepted low some few fits allowed role, say_net]
    exact ⟨rfl, answered_of_say s _ h _ _ _ _ accepted (by decide) rfl rfl rfl rfl⟩
  · obtain ⟨frozen, round, mod, lanes, host, asked⟩ := armSwitch_requests s r crc (.some (h.completion 0x0904 r.toNat))
    refine ⟨_, rfl, ?_⟩
    beta_reduce
    rw [netBankSwitchOp_arms h r crc s accepted notice thawed role, say_net]
    refine ⟨by rw [frozen, thawed, Bool.false_or], round, asked, answered_of_say s _ h _ _ _ _ accepted (by decide) rfl mod lanes host⟩
  · refine ⟨_, rfl, ?_⟩
    beta_reduce
    rw [netPolicyOp_sets h e.toNat s accepted flag role, say_net]
    exact ⟨rfl, answered_of_say s _ h _ _ _ _ accepted (by decide) rfl rfl rfl rfl⟩

end Sys2Proof.Machine
end

section
/-!
SUPPORT. What the commands keep of the network, the field channels, the supervisors, the host ports, the recorder, the partner link, the
TAP and the counter of free values, operation by operation (O10).
-/

namespace Sys2Proof.Machine

open Sys2Proof

/-- The parts outside the module and its lanes are those of another state. -/
@[simp] abbrev PortsKept (t s : State) : Prop :=
  t.freeCtr = s.freeCtr ∧ t.net = s.net ∧ t.fch = s.fch ∧ t.sup = s.sup ∧ t.host = s.host ∧ t.rcd = s.rcd ∧ t.plink = s.plink ∧ t.tap = s.tap

/-- Of those parts only the host ports and the recorder may differ, which a reply and a record change. -/
@[simp] abbrev HostKept (t s : State) : Prop :=
  t.freeCtr = s.freeCtr ∧ t.net = s.net ∧ t.fch = s.fch ∧ t.sup = s.sup ∧ t.plink = s.plink ∧ t.tap = s.tap

/-! ### Commands of the host

The hypotheses name the body's result, so that the kernel need not compare two readings of one of its fields. -/

/-- A part that replies, refusals and changes of the host ports leave as it is. -/
def BesideHost {β : Type} (g : State → β) : Prop :=
  (∀ s h op st ps, g (State.say s h op st ps) = g s) ∧ (∀ s h op st, g (State.turnAway s h op st) = g s) ∧
    ∀ (s : State) x, g { s with host := x } = g s

theorem besideHost_freeCtr : BesideHost State.freeCtr := ⟨by simp, by simp, fun _ _ => rfl⟩

theorem besideHost_net : BesideHost State.net := ⟨by simp, by simp, fun _ _ => rfl⟩

theorem besideHost_fch : BesideHost State.fch := ⟨by simp, by simp, fun _ _ => rfl⟩

theorem besideHost_sup : BesideHost State.sup := ⟨by simp, by simp, fun _ _ => rfl⟩

theorem besideHost_plink : BesideHost State.plink := ⟨by simp, by simp, fun _ _ => rfl⟩

theorem besideHost_tap : BesideHost State.tap := ⟨by simp, by simp, fun _ _ => rfl⟩

theorem serve_keeps_part {β : Type} {g : State → β} (beside : BesideHost g) {s : State} {h : CmdHdr} {opcode : Nat} {need : Option Role}
    {body : State → State} (hb : ∀ s t, body s = t → g t = g s) : g (s.serve h opcode need body) = g s :=
  keep_serve g s h opcode need body (fun s => beside.1 s h) (fun s => beside.2.1 s h) beside.2.2 fun s => hb s _ rfl

theorem serveImage_keeps_part {β : Type} {g : State → β} (beside : BesideHost g) {s : State} {h : CmdHdr} {opcode : Nat} {role : Role}
    {body : State → State} (hb : ∀ s t, body s = t → g t = g s) : g (s.serveImage h opcode role body) = g s := by
  refine serve_keeps_part beside ?_
  rintro s t rfl
  split
  · exact beside.1 s h _ _ _
  · exact hb s _ rfl

theorem serve_hostKept {s : State} {h : CmdHdr} {opcode : Nat} {need : Option Role} {body : State → State}
    (hb : ∀ s t, body s = t → HostKept t s) : HostKept (s.serve h opcode need body) s :=
  ⟨serve_keeps_part besideHost_freeCtr fun s t eq => (hb s t eq).1, serve_keeps_part besideHost_net fun s t eq => (hb s t eq).2.1,
    serve_keeps_part besideHost_fch fun s t eq => (hb s t eq).2.2.1, serve_keeps_part besideHost_sup fun s t eq => (hb s t eq).2.2.2.1,
    serve_keeps_part besideHost_plink fun s t eq => (hb s t eq).2.2.2.2.1,
    serve_keeps_part besideHost_tap fun s t eq => (hb s t eq).2.2.2.2.2⟩

theorem serveImage_hostKept {s : State} {h : CmdHdr} {opcode : Nat} {role : Role} {body : State → State}
    (hb : ∀ s t, body s = t → HostKept t s) : HostKept (s.serveImage h opcode role body) s :=
  ⟨serveImage_keeps_part besideHost_freeCtr fun s t eq => (hb s t eq).1, serveImage_keeps_part besideHost_net fun s t eq => (hb s t eq).2.1,
    serveImage_keeps_part besideHost_fch fun s t eq => (hb s t eq).2.2.1, serveImage_keeps_part besideHost_sup fun s t eq => (hb s t eq).2.2.2.1,
    serveImage_keeps_part besideHost_plink fun s t eq => (hb s t eq).2.2.2.2.1,
    serveImage_keeps_part besideHost_tap fun s t eq => (hb s t eq).2.2.2.2.2⟩

/-! ### Power, start-up and DORMANT -/

theorem bootImage_ports (s t : State) (h : s.bootImage = some t) :
    t.freeCtr = s.freeCtr ∧ t.sup = s.sup ∧ t.plink = s.plink ∧ t.tap = s.tap := by
  simp only [State.bootImage] at h
  split at h
  · cases h; exact ⟨rfl, rfl, rfl, rfl⟩
  · split at h
    · cases h; simp
    · cases h

@[simp] theorem romBootCompleteOp_ports (romOk : LaneSet) (s : State) : On (romBootCompleteOp romOk s) fun t =>
    t.freeCtr = s.freeCtr ∧ t.sup = s.sup ∧ t.plink = s.plink ∧ t.tap = s.tap := by
  unfold On romBootCompleteOp
  extract_lets s1 src
  have kept : s1.freeCtr = s.freeCtr ∧ s1.sup = s.sup ∧ s1.plink = s.plink ∧ s1.tap = s.tap := by
    refine ⟨forLanes_freeCtr _ ?_ _ s, forLanes_sup _ ?_ _ s, forLanes_plink _ ?_ _ s, forLanes_tap _ ?_ _ s⟩ <;> (intro s l; split <;> simp)
  clear_value s1
  split
  · split
    · simp [src, kept]
    · split
      next s2 booted =>
        obtain ⟨freeCtr, sup, plink, tap⟩ := bootImage_ports s1 s2 booted
        simp [freeCtr, sup, plink, tap, kept]
      next => simp [src, kept]
  · simp

/-! ### Clocks and the governor -/

@[simp] theorem canaryOp_ports (l : Lane) (speed : Nat) (s : State) : On (canaryOp l speed s) fun t =>
    t.freeCtr = s.freeCtr ∧ t.tap = s.tap := by
  unfold On canaryOp
  dsimp only
  (repeat' split) <;> simp

/-! ### Ticks and the accord -/

@[simp] theorem engineCheck_ports (s : State) : On (s.engineCheck) fun t => t.freeCtr = s.freeCtr ∧ t.tap = s.tap := by
  unfold On State.engineCheck
  dsimp only
  simp

@[simp] theorem fixVote_ports (s : State) (table : PerLane LaneSet) : On (s.fixVote table) fun t => t.freeCtr = s.freeCtr ∧ t.tap = s.tap :=
    by
  unfold On State.fixVote
  dsimp only
  (repeat' split) <;> simp

@[simp] theorem tickBoundaryOp_ports (marks views : PerLane LaneSet) (clock : PerLane (BitVec 64)) (s : State) :
    On (tickBoundaryOp marks views clock s) fun t => t.freeCtr = s.freeCtr ∧ t.tap = s.tap := by
  unfold On tickBoundaryOp
  (repeat' split) <;> simp

theorem rxMismatches_ports (s : State) (m : Lane) (l : List (Nat × Nat × Nat)) :
    On (s.each l fun s x => if s.laneSt m = .voting then s.rxMismatch m x else s) fun t => t.freeCtr = s.freeCtr ∧ t.tap = s.tap :=
  ⟨each_freeCtr _ (fun s x => by split <;> simp) l s, each_tap _ (fun s x => by split <;> simp) l s⟩

@[simp] theorem accordedSetOp_ports (received : PerLane LaneSet) (s : State) : On (accordedSetOp received s) fun t =>
    t.freeCtr = s.freeCtr ∧ t.tap = s.tap := by
  unfold On accordedSetOp
  split
  · extract_lets voting lost props set computed due src s1
    split
    · exact ⟨rfl, rfl⟩
    · next a _ =>
      exact ⟨each_freeCtr _ (fun s p => by simpa using (rxMismatches_ports s p.lane (mismatches a p)).1) _ s1,
        each_tap _ (fun s p => by simpa using (rxMismatches_ports s p.lane (mismatches a p)).2) _ s1⟩
  · exact ⟨rfl, rfl⟩

/-! ### Station commands -/

@[simp] theorem decodeAll_ports (s : State) (l : List VitalCmd) : HostKept (s.decodeAll l).1 s := by
  refine List.foldlRecOn (motive := fun (a : State × List Decoded) => HostKept a.1 s) l _ ⟨rfl, rfl, rfl, rfl, rfl, rfl⟩ ?_
  rintro a ⟨freeCtr, net, fch, sup, plink, tap⟩ c -
  simp [freeCtr, net, fch, sup, plink, tap]

@[simp] theorem settleAll_ports (s : State) (l : List Decoded) (answers : List (Origin × Nat)) : HostKept (s.settleAll l answers).1 s := by
  refine List.foldlRecOn (motive := fun (a : State × List Judged) => HostKept a.1 s) l _ ⟨rfl, rfl, rfl, rfl, rfl, rfl⟩ ?_
  rintro a ⟨freeCtr, net, fch, sup, plink, tap⟩ d -
  simp [freeCtr, net, fch, sup, plink, tap]

@[simp] theorem judgeAlone_ports (s : State) (c : VitalCmd) : HostKept (s.judgeAlone c) s := by
  refine serve_hostKept ?_
  rintro s t rfl
  simp

@[simp] theorem stationOp_ports (h : CmdHdr) (opcode target action step : Nat) (token : Word) (s : State) :
    HostKept (stationOp h opcode target action step token s) s := by
  simp [stationOp]

/-! ### Supervisors -/

@[simp] theorem stopStrobeOp_ports (strobes : LaneSet) (s : State) : On (stopStrobeOp strobes s) fun t =>
    t.freeCtr = s.freeCtr ∧ t.net = s.net ∧ t.plink = s.plink ∧ t.tap = s.tap := by
  unfold On stopStrobeOp
  dsimp only
  split
  · split
    · refine ⟨each_freeCtr _ ?_ _ s, each_net _ ?_ _ s, each_plink _ ?_ _ s, each_tap _ ?_ _ s⟩ <;>
        (intro s n; (repeat' split) <;> simp)
    · simp
  · simp

/-! ### The cycle evaluation -/

@[simp] theorem decodeCycle_ports (s : State) : HostKept s.decodeCycle.1 s := by
  unfold HostKept State.decodeCycle
  dsimp only
  (repeat' split) <;> simp

@[simp] theorem cycleEvaluationOp_ports (s : State) : On (cycleEvaluationOp s) fun t =>
    t.net = s.net ∧ t.fch = s.fch ∧ t.sup = s.sup ∧ t.plink = s.plink ∧ t.tap = s.tap := by
  unfold On cycleEvaluationOp
  dsimp only
  (repeat' split) <;> simp

/-! ### The refresh and the self-test slice -/

@[simp] theorem voteRefreshOp_ports (sense : List SenseReading) (groups : List GroupReading) (s : State) :
    On (voteRefreshOp sense groups s) fun t => t.freeCtr = s.freeCtr ∧ t.tap = s.tap := by
  unfold On voteRefreshOp
  split
  · extract_lets voting refresh s1 s2 s2' s3 chs s4 s5
    have kept : s5.freeCtr = s.freeCtr ∧ s5.tap = s.tap := by simp [s5, s4, s3, s2', s2, s1]
    refine ⟨Eq.trans (each_freeCtr _ (fun s p => forLanes_freeCtr _ (fun s l => ?_) _ s) _ s5) kept.1,
      Eq.trans (each_tap _ (fun s p => forLanes_tap _ (fun s l => ?_) _ s) _ s5) kept.2⟩ <;>
      (split <;> simp)
  · exact ⟨rfl, rfl⟩

/-! ### The hub -/

@[simp] theorem decideClaim_ports (s : State) (port id : Nat) (digest : List Byte) : On (s.decideClaim port id digest) fun t =>
    t.freeCtr = s.freeCtr ∧ t.fch = s.fch ∧ t.sup = s.sup ∧ t.tap = s.tap := by
  unfold On State.decideClaim
  (repeat' split) <;> simp

/-! ### Reception -/

@[simp] theorem useFrame_ports (s : State) (port slot : Nat) (w : Word) (dest : Nat) (bytes : List Byte) (owner : Option (Nat × NodeDef)) :
    On (s.useFrame port slot w dest bytes owner) fun t => t.freeCtr = s.freeCtr ∧ t.fch = s.fch ∧ t.sup = s.sup ∧ t.tap = s.tap := by
  unfold On State.useFrame
  (repeat' split) <;> simp

@[simp] theorem busReceive_ports (s : State) (port slot : Nat) (whole : Bool) (bytes : List Byte) :
    On (s.busReceive port slot whole bytes) fun t => t.freeCtr = s.freeCtr ∧ t.fch = s.fch ∧ t.sup = s.sup ∧ t.tap = s.tap := by
  unfold On State.busReceive
  dsimp only
  (repeat' split) <;> simp

@[simp] theorem hubReceive_ports (s : State) (port slot sofNs endNs : Nat) (codeError : Bool) (bytes : List Byte) :
    On (s.hubReceive port slot sofNs endNs codeError bytes) fun t =>
      t.freeCtr = s.freeCtr ∧ t.fch = s.fch ∧ t.sup = s.sup ∧ t.tap = s.tap := by
  unfold On State.hubReceive
  dsimp only
  (repeat' split) <;> simp

@[simp] theorem frameReceivedOp_ports (port slot sofNs endNs : Nat) (codeError : Bool) (behind : LaneSet) (bytes : List Byte) (s : State) :
    On (frameReceivedOp port slot sofNs endNs codeError behind bytes s) fun t =>
      t.freeCtr = s.freeCtr ∧ t.fch = s.fch ∧ t.sup = s.sup ∧ t.tap = s.tap := by
  simp [On, frameReceivedOp]

@[simp] theorem claimReceivedOp_ports (port : Nat) (bytes : List Byte) (s : State) : On (claimReceivedOp port bytes s) fun t =>
    t.freeCtr = s.freeCtr ∧ t.fch = s.fch ∧ t.sup = s.sup ∧ t.tap = s.tap := by
  unfold On claimReceivedOp
  (repeat' split) <;> simp

/-! ### Field channels -/

@[simp] theorem shed_ports (s : State) (ma : List Nat) (n : Nat) : On (s.shed ma n) fun t =>
    t.freeCtr = s.freeCtr ∧ t.net = s.net ∧ t.sup = s.sup ∧ t.plink = s.plink ∧ t.tap = s.tap := by
  induction n generalizing s ma with
  | zero => simp [On, State.shed]
  | succ n ih =>
    unfold On at ih ⊢
    unfold State.shed
    dsimp only
    (repeat' split) <;> simp [ih]

@[simp] theorem moduleOverloadOp_ports (groupMa : List Nat) (s : State) : On (moduleOverloadOp groupMa s) fun t =>
    t.freeCtr = s.freeCtr ∧ t.net = s.net ∧ t.sup = s.sup ∧ t.plink = s.plink ∧ t.tap = s.tap := by
  simp [On, moduleOverloadOp]

/-! ### Queries and maintenance -/

@[simp] theorem routeQueryOp_ports (h : CmdHdr) (r : Nat) (s : State) : HostKept (routeQueryOp h r s) s := by
  refine serve_hostKept ?_
  rintro s t rfl
  (repeat' split) <;> simp

@[simp] theorem elementQueryOp_ports (h : CmdHdr) (o : Nat) (s : State) : HostKept (elementQueryOp h o s) s := by
  refine serve_hostKept ?_
  rintro s t rfl
  (repeat' split) <;> simp

@[simp] theorem statusModuleOp_ports (h : CmdHdr) (s : State) : HostKept (statusModuleOp h s) s := by
  refine serve_hostKept ?_
  rintro s t rfl
  simp

@[simp] theorem subscribeOp_ports (h : CmdHdr) (id kind first count mask : Nat) (s : State) :
    HostKept (subscribeOp h id kind first count mask s) s := by
  refine serve_hostKept ?_
  rintro s t rfl
  (repeat' split) <;> simp

@[simp] theorem unsubscribeOp_ports (h : CmdHdr) (id : Nat) (s : State) : HostKept (unsubscribeOp h id s) s := by
  refine serve_hostKept ?_
  rintro s t rfl
  (repeat' split) <;> simp

@[simp] theorem snapshotCopyOp_ports (h : CmdHdr) (count offset : Nat) (s : State) : HostKept (snapshotCopyOp h count offset s) s := by
  refine serve_hostKept ?_
  rintro s t rfl
  (repeat' split) <;> simp

@[simp] theorem snapshotReadOp_ports (h : CmdHdr) (count offset : Nat) (s : State) : HostKept (snapshotReadOp h count offset s) s := by
  refine serve_hostKept ?_
  rintro s t rfl
  (repeat' split) <;> simp

@[simp] theorem timeCorrelateOp_ports (h : CmdHdr) (utc ns net : Nat) (s : State) : HostKept (timeCorrelateOp h utc ns net s) s := by
  refine serve_hostKept ?_
  rintro s t rfl
  simp

@[simp] theorem timeQueryOp_ports (h : CmdHdr) (s : State) : HostKept (timeQueryOp h s) s := by
  refine serve_hostKept ?_
  rintro s t rfl
  simp

@[simp] theorem sessionChallengeOp_ports (h : CmdHdr) (role : Nat) (s : State) : HostKept (sessionChallengeOp h role s) s := by
  refine serve_hostKept ?_
  rintro s t rfl
  dsimp only
  (repeat' split) <;> simp

@[simp] theorem sessionOpenOp_ports (h : CmdHdr) (slot role : Nat) (nonce sig : List Byte) (s : State) :
    HostKept (sessionOpenOp h slot role nonce sig s) s := by
  refine serve_hostKept ?_
  rintro s t rfl
  dsimp only
  (repeat' split) <;> simp

@[simp] theorem sessionCloseOp_ports (h : CmdHdr) (role : Nat) (s : State) : HostKept (sessionCloseOp h role s) s := by
  refine serve_hostKept ?_
  rintro s t rfl
  (repeat' split) <;> simp

@[simp] theorem modeRequestOp_ports (h : CmdHdr) (m : Mode) (s : State) : HostKept (modeRequestOp h m s) s := by
  unfold modeRequestOp
  split
  · simp
  · refine serve_hostKept ?_
    rintro s t rfl
    dsimp only
    (repeat' split) <;> simp

@[simp] theorem selftestQueryOp_ports (h : CmdHdr) (s : State) : HostKept (selftestQueryOp h s) s := by
  refine serve_hostKept ?_
  rintro s t rfl
  simp

@[simp] theorem regReadOp_ports (h : CmdHdr) (addr count : Nat) (s : State) : HostKept (regReadOp h addr count s) s := by
  refine serve_hostKept ?_
  rintro s t rfl
  (repeat' split) <;> simp

@[simp] theorem sealFuseStep1Op_ports (h : CmdHdr) (op slot : Nat) (s : State) : HostKept (sealFuseStep1Op h op slot s) s := by
  refine serve_hostKept ?_
  rintro s t rfl
  (repeat' split) <;> simp

@[simp] theorem sealFuseStep2Op_ports (h : CmdHdr) (op slot : Nat) (token : Word) (s : State) :
    HostKept (sealFuseStep2Op h op slot token s) s := by
  refine serve_hostKept ?_
  rintro s t rfl
  (repeat' split) <;> simp

@[simp] theorem withheldClearOp_ports (h : CmdHdr) (r : Nat) (s : State) : HostKept (withheldClearOp h r s) s := by
  refine serve_hostKept ?_
  rintro s t rfl
  (repeat' split) <;> simp

@[simp] theorem perfConfigOp_ports (h : CmdHdr) (c : PerfConfig) (s : State) : HostKept (perfConfigOp h c s) s := by
  refine serve_hostKept ?_
  rintro s t rfl
  (repeat' split) <;> simp

@[simp] theorem perfReadOp_ports (h : CmdHdr) (s : State) : HostKept (perfReadOp h s) s := by
  refine serve_hostKept ?_
  rintro s t rfl
  simp

@[simp] theorem perfSamplesOp_ports (h : CmdHdr) (start count : Nat) (s : State) : HostKept (perfSamplesOp h start count s) s := by
  refine serve_hostKept ?_
  rintro s t rfl
  (repeat' split) <;> simp

/-! ### Network, redundancy and field commands -/

@[simp] theorem netStatusOp_ports (h : CmdHdr) (select channel first count : Nat) (s : State) :
    HostKept (netStatusOp h select channel first count s) s := by
  refine serve_hostKept ?_
  rintro s t rfl
  (repeat' split) <;> simp

@[simp] theorem netPortControlOp_ports (h : CmdHdr) (port action : Nat) (s : State) : On (netPortControlOp h port action s) fun t =>
    t.freeCtr = s.freeCtr ∧ t.fch = s.fch ∧ t.sup = s.sup ∧ t.plink = s.plink ∧ t.tap = s.tap := by
  refine ⟨serve_keeps_part besideHost_freeCtr ?_, serve_keeps_part besideHost_fch ?_, serve_keeps_part besideHost_sup ?_,
    serve_keeps_part besideHost_plink ?_, serve_keeps_part besideHost_tap ?_⟩ <;>
    (rintro s t rfl; (repeat' split) <;> simp)

@[simp] theorem netBankWriteOp_ports (h : CmdHdr) (port first : Nat) (entries : List Word) (s : State) :
    On (netBankWriteOp h port first entries s) fun t => t.freeCtr = s.freeCtr ∧ t.fch = s.fch ∧ t.sup = s.sup ∧ t.tap = s.tap := by
  refine ⟨serve_keeps_part besideHost_freeCtr ?_, serve_keeps_part besideHost_fch ?_, serve_keeps_part besideHost_sup ?_,
    serve_keeps_part besideHost_tap ?_⟩ <;>
    (rintro s t rfl; (repeat' split) <;> simp)

@[simp] theorem netBankSwitchOp_ports (h : CmdHdr) (round crc : Word) (s : State) : On (netBankSwitchOp h round crc s) fun t =>
    t.freeCtr = s.freeCtr ∧ t.fch = s.fch ∧ t.sup = s.sup ∧ t.tap = s.tap := by
  refine ⟨serve_keeps_part besideHost_freeCtr ?_, serve_keeps_part besideHost_fch ?_, serve_keeps_part besideHost_sup ?_,
    serve_keeps_part besideHost_tap ?_⟩ <;>
    (rintro s t rfl; (repeat' split) <;> simp)

@[simp] theorem netPolicyOp_ports (h : CmdHdr) (enable : Nat) (s : State) : On (netPolicyOp h enable s) fun t =>
    t.freeCtr = s.freeCtr ∧ t.fch = s.fch ∧ t.sup = s.sup ∧ t.plink = s.plink ∧ t.tap = s.tap := by
  refine ⟨serve_keeps_part besideHost_freeCtr ?_, serve_keeps_part besideHost_fch ?_, serve_keeps_part besideHost_sup ?_,
    serve_keeps_part besideHost_plink ?_, serve_keeps_part besideHost_tap ?_⟩ <;>
    (rintro s t rfl; (repeat' split) <;> simp)

@[simp] theorem redStatusOp_ports (h : CmdHdr) (s : State) : HostKept (redStatusOp h s) s := by
  refine serve_hostKept ?_
  rintro s t rfl
  (repeat' split) <;> simp

@[simp] theorem switchoverStep1Op_ports (h : CmdHdr) (s : State) : HostKept (switchoverStep1Op h s) s := by
  refine serve_hostKept ?_
  rintro s t rfl
  (repeat' split) <;> simp

@[simp] theorem switchoverStep2Op_ports (h : CmdHdr) (token : Word) (s : State) : On (switchoverStep2Op h token s) fun t =>
    t.freeCtr = s.freeCtr ∧ t.net = s.net ∧ t.fch = s.fch ∧ t.sup = s.sup ∧ t.tap = s.tap := by
  refine ⟨serve_keeps_part besideHost_freeCtr ?_, serve_keeps_part besideHost_net ?_, serve_keeps_part besideHost_fch ?_,
    serve_keeps_part besideHost_sup ?_, serve_keeps_part besideHost_tap ?_⟩ <;>
    (rintro s t rfl; (repeat' split) <;> simp)

@[simp] theorem laneResyncOp_ports (h : CmdHdr) (lane : Nat) (s : State) : HostKept (laneResyncOp h lane s) s := by
  refine serve_hostKept ?_
  rintro s t rfl
  (repeat' split) <;> simp

@[simp] theorem tenderEnableOp_ports (h : CmdHdr) (enable : Nat) (s : State) : On (tenderEnableOp h enable s) fun t =>
    t.freeCtr = s.freeCtr ∧ t.net = s.net ∧ t.fch = s.fch ∧ t.sup = s.sup ∧ t.tap = s.tap := by
  refine ⟨serve_keeps_part besideHost_freeCtr ?_, serve_keeps_part besideHost_net ?_, serve_keeps_part besideHost_fch ?_,
    serve_keeps_part besideHost_sup ?_, serve_keeps_part besideHost_tap ?_⟩ <;>
    (rintro s t rfl; (repeat' split) <;> simp)

@[simp] theorem ioStatusOp_ports (h : CmdHdr) (first count : Nat) (s : State) : HostKept (ioStatusOp h first count s) s := by
  refine serve_hostKept ?_
  rintro s t rfl
  (repeat' split) <;> simp

@[simp] theorem ioTestConfigOp_ports (h : CmdHdr) (ch action value : Nat) (s : State) : On (ioTestConfigOp h ch action value s) fun t =>
    t.freeCtr = s.freeCtr ∧ t.net = s.net ∧ t.sup = s.sup ∧ t.plink = s.plink ∧ t.tap = s.tap := by
  refine ⟨serve_keeps_part besideHost_freeCtr ?_, serve_keeps_part besideHost_net ?_, serve_keeps_part besideHost_sup ?_,
    serve_keeps_part besideHost_plink ?_, serve_keeps_part besideHost_tap ?_⟩ <;>
    (rintro s t rfl; (repeat' split) <;> simp)

@[simp] theorem ioForceOp_ports (h : CmdHdr) (ch value duration : Nat) (s : State) : On (ioForceOp h ch value duration s) fun t =>
    t.freeCtr = s.freeCtr ∧ t.net = s.net ∧ t.sup = s.sup ∧ t.plink = s.plink ∧ t.tap = s.tap := by
  refine ⟨serve_keeps_part besideHost_freeCtr ?_, serve_keeps_part besideHost_net ?_, serve_keeps_part besideHost_sup ?_,
    serve_keeps_part besideHost_plink ?_, serve_keeps_part besideHost_tap ?_⟩ <;>
    (rintro s t rfl; (repeat' split) <;> simp)

@[simp] theorem dbgStatusOp_ports (h : CmdHdr) (s : State) : HostKept (dbgStatusOp h s) s := by
  refine serve_hostKept ?_
  rintro s t rfl
  (repeat' split) <;> simp

/-! ### The recorder and the housekeeper -/

@[simp] theorem recReadOp_ports (h : CmdHdr) (index count : Nat) (s : State) : HostKept (recReadOp h index count s) s := by
  refine serve_hostKept ?_
  rintro s t rfl
  (repeat' split) <;> simp

@[simp] theorem silReadOp_ports (h : CmdHdr) (index count : Nat) (s : State) : HostKept (silReadOp h index count s) s := by
  refine serve_hostKept ?_
  rintro s t rfl
  (repeat' split) <;> simp

@[simp] theorem recFreezeOp_ports (h : CmdHdr) (s : State) : HostKept (recFreezeOp h s) s := by
  refine serve_hostKept ?_
  rintro s t rfl
  (repeat' split) <;> simp

@[simp] theorem recThawOp_ports (h : CmdHdr) (s : State) : HostKept (recThawOp h s) s := by
  refine serve_hostKept ?_
  rintro s t rfl
  simp

@[simp] theorem freezeTimeoutOp_ports (s : State) : HostKept (freezeTimeoutOp s) s := by
  simp [freezeTimeoutOp]

@[simp] theorem recClearStep1Op_ports (h : CmdHdr) (upTo : Nat) (s : State) : HostKept (recClearStep1Op h upTo s) s := by
  refine serve_hostKept ?_
  rintro s t rfl
  (repeat' split) <;> simp

@[simp] theorem recClearStep2Op_ports (h : CmdHdr) (upTo : Nat) (token : Word) (s : State) : HostKept (recClearStep2Op h upTo token s) s :=
    by
  refine serve_hostKept ?_
  rintro s t rfl
  (repeat' split) <;> simp

@[simp] theorem silMarkOp_ports (h : CmdHdr) (label : List Byte) (s : State) : HostKept (silMarkOp h label s) s := by
  refine serve_hostKept ?_
  rintro s t rfl
  (repeat' split) <;> simp

@[simp] theorem keyframeDueOp_ports (s : State) : On (keyframeDueOp s) fun t =>
    t.net = s.net ∧ t.fch = s.fch ∧ t.sup = s.sup ∧ t.plink = s.plink ∧ t.tap = s.tap := by
  unfold On keyframeDueOp
  dsimp only
  (repeat' split) <;> simp

@[simp] theorem stopRecording_ports (s : State) : On (s.stopRecording) fun t =>
    t.freeCtr = s.freeCtr ∧ t.net = s.net ∧ t.fch = s.fch ∧ t.sup = s.sup ∧ t.host = s.host ∧ t.plink = s.plink ∧ t.tap = s.tap := by
  simp [On, State.stopRecording]

@[simp] theorem heartbeatMissingOp_ports (s : State) : On (heartbeatMissingOp s) fun t =>
    t.freeCtr = s.freeCtr ∧ t.net = s.net ∧ t.fch = s.fch ∧ t.sup = s.sup ∧ t.host = s.host ∧ t.plink = s.plink ∧ t.tap = s.tap := by
  unfold On heartbeatMissingOp
  (repeat' split) <;> simp

@[simp] theorem housekeeperTimeoutOp_ports (s : State) : On (housekeeperTimeoutOp s) fun t => t.freeCtr = s.freeCtr ∧ t.tap = s.tap := by
  unfold On housekeeperTimeoutOp
  (repeat' split) <;> simp

@[simp] theorem operatingTimeOp_ports (s : State) : On (operatingTimeOp s) fun t =>
    t.freeCtr = s.freeCtr ∧ t.net = s.net ∧ t.fch = s.fch ∧ t.sup = s.sup ∧ t.host = s.host ∧ t.plink = s.plink ∧ t.tap = s.tap := by
  simp [On, operatingTimeOp]

/-! ### The return of a lane -/

@[simp] theorem bogieMismatchOp_ports (l : Lane) (s : State) : On (bogieMismatchOp l s) fun t => t.freeCtr = s.freeCtr ∧ t.tap = s.tap := by
  unfold On bogieMismatchOp
  (repeat' split) <;> simp

@[simp] theorem imageReloadOp_ports (l : Lane) (digestOk reloadOk : Bool) (s : State) : HostKept (imageReloadOp l digestOk reloadOk s) s :=
    by
  simp [imageReloadOp]

@[simp] theorem resyncTestOp_ports (l : Lane) (passed : Bool) (s : State) : HostKept (resyncTestOp l passed s) s := by
  simp [resyncTestOp]

@[simp] theorem copyArmedOp_ports (l : Lane) (s : State) : PortsKept (copyArmedOp l s) s := by
  unfold PortsKept copyArmedOp
  (repeat' split) <;> simp

@[simp] theorem copyBeforeWriteOp_ports (m : Lane) (page : Nat) (s : State) : PortsKept (copyBeforeWriteOp m page s) s := by
  simp [copyBeforeWriteOp]

@[simp] theorem copyCompleteOp_ports (l : Lane) (senderHash : BitVec 64) (s : State) : HostKept (copyCompleteOp l senderHash s) s := by
  simp [copyCompleteOp]

@[simp] theorem catchUpOp_ports (l : Lane) (s : State) : HostKept (catchUpOp l s) s := by
  unfold HostKept catchUpOp
  dsimp only
  (repeat' split) <;> simp

@[simp] theorem catchUpTimeoutOp_ports (l : Lane) (s : State) : HostKept (catchUpTimeoutOp l s) s := by
  simp [catchUpTimeoutOp]

@[simp] theorem probationOp_ports (l : Lane) (s : State) : PortsKept (probationOp l s) s := by
  simp [probationOp]

@[simp] theorem resyncTimeoutOp_ports (l : Lane) (s : State) : HostKept (resyncTimeoutOp l s) s := by
  simp [resyncTimeoutOp]

@[simp] theorem powerRecoveryOp_ports (l : Lane) (s : State) : HostKept (powerRecoveryOp l s) s := by
  simp [powerRecoveryOp]

@[simp] theorem restartResyncs_ports (s : State) : HostKept (s.restartResyncs) s := by
  simp [State.restartResyncs]

/-! ### Memory and DMA -/

@[simp] theorem recordUncorrected_ports (s : State) (l : Lane) (a : Nat) (requester : Option Nat) :
    HostKept (s.recordUncorrected l a requester) s := by
  simp [State.recordUncorrected]

@[simp] theorem eccUncorrectableOp_ports (l : Lane) (requester : Option Nat) (a : Nat) (afterProposal isReply : Bool) (s : State) :
    (eccUncorrectableOp l requester a afterProposal isReply s).tap = s.tap := by
  unfold eccUncorrectableOp
  (repeat' split) <;> simp

@[simp] theorem eccCorrectedOp_ports (l : Lane) (a : Nat) (s : State) : HostKept (eccCorrectedOp l a s) s := by
  simp [eccCorrectedOp]

@[simp] theorem scrubReadOp_ports (l : Lane) (s : State) : (scrubReadOp l s).tap = s.tap := by
  unfold scrubReadOp
  dsimp only
  (repeat' split) <;> simp

@[simp] theorem strike_ports (s : State) (site : FaultSite) : On (s.strike site) fun t =>
    t.freeCtr = s.freeCtr ∧ t.net = s.net ∧ t.fch = s.fch ∧ t.sup = s.sup ∧ t.rcd = s.rcd ∧ t.plink = s.plink ∧ t.tap = s.tap := by
  unfold On State.strike
  (repeat' split) <;> simp

@[simp] theorem translationFaultOp_ports (l : Lane) (master : Master) (acc : Access) (va : Nat) (site : FaultSite) (s : State) :
    HostKept (translationFaultOp l master acc va site s) s := by
  unfold HostKept translationFaultOp
  dsimp only
  (repeat' split) <;> simp

@[simp] theorem tlbParityOp_ports (l : Lane) (master vpn : Nat) (s : State) : HostKept (tlbParityOp l master vpn s) s := by
  simp [tlbParityOp]

@[simp] theorem guardFaultOp_ports (l : Lane) (requester a : Nat) (s : State) : HostKept (guardFaultOp l requester a s) s := by
  simp [guardFaultOp]

theorem dmaMove_ports (s t : State) (l : Lane) (c upTo : Nat) (h : s.dmaMove l c upTo = some t) :
    t.net = s.net ∧ t.fch = s.fch ∧ t.sup = s.sup ∧ t.host = s.host ∧ t.rcd = s.rcd ∧ t.plink = s.plink ∧ t.tap = s.tap := by
  simp only [State.dmaMove] at h
  split at h
  · cases h
  · cases h; simp

@[simp] theorem dmaMove_getD_ports (s : State) (l : Lane) (c upTo : Nat) : On ((s.dmaMove l c upTo).getD s) fun t =>
    t.net = s.net ∧ t.fch = s.fch ∧ t.sup = s.sup ∧ t.host = s.host ∧ t.rcd = s.rcd ∧ t.plink = s.plink ∧ t.tap = s.tap := by
  cases h : s.dmaMove l c upTo with
  | none => simp [On]
  | some t => exact dmaMove_ports s t l c upTo h

@[simp] theorem dmaCompleteOp_ports (l : Lane) (c : Nat) (s : State) : On (dmaCompleteOp l c s) fun t =>
    t.net = s.net ∧ t.fch = s.fch ∧ t.sup = s.sup ∧ t.host = s.host ∧ t.rcd = s.rcd ∧ t.plink = s.plink ∧ t.tap = s.tap := by
  unfold On dmaCompleteOp
  dsimp only
  split
  · split
    · split
      · simp
      · next t moved => simp [dmaMove_ports s t l c _ moved]
    · simp
  · simp

@[simp] theorem spoilTransfer_ports (s : State) (l : Lane) (c : Nat) : On (s.spoilTransfer l c) fun t =>
    t.fch = s.fch ∧ t.sup = s.sup ∧ t.rcd = s.rcd ∧ t.tap = s.tap := by
  unfold On State.spoilTransfer
  dsimp only
  (repeat' split) <;> simp

@[simp] theorem dmaFaultOp_ports (l : Lane) (c cause va done : Nat) (write : Bool) (s : State) :
    On (dmaFaultOp l c cause va done write s) fun t => t.fch = s.fch ∧ t.sup = s.sup ∧ t.tap = s.tap := by
  simp [On, dmaFaultOp]

@[simp] theorem dmaSuspendedOp_ports (l : Lane) (c done : Nat) (s : State) : On (dmaSuspendedOp l c done s) fun t =>
    t.net = s.net ∧ t.fch = s.fch ∧ t.sup = s.sup ∧ t.host = s.host ∧ t.rcd = s.rcd ∧ t.plink = s.plink ∧ t.tap = s.tap := by
  simp [On, dmaSuspendedOp]

/-! ### Logic sheets -/

@[simp] theorem runBlock_ports (s : State) (task i : Nat) (d : BlockDef) : PortsKept (s.runBlock task i d) s := by
  simp [State.runBlock]

@[simp] theorem startTask_ports (s : State) (t : Nat) : PortsKept (s.startTask t) s := by
  simp [State.startTask]

@[simp] theorem choose_ports (s : State) : PortsKept (s.choose) s := by
  unfold PortsKept State.choose
  (repeat' split) <;> simp

@[simp] theorem evalFrom_ports (task limit : Nat) (l : List (Nat × BlockDef)) (s : State) : PortsKept (evalFrom task limit l s) s := by
  induction l generalizing s with
  | nil => exact ⟨rfl, rfl, rfl, rfl, rfl, rfl, rfl, rfl⟩
  | cons p r ih =>
    unfold evalFrom
    dsimp only
    split <;> simp [ih]

@[simp] theorem taskReleaseOp_ports (t : Nat) (s : State) : HostKept (taskReleaseOp t s) s := by
  unfold HostKept taskReleaseOp
  dsimp only
  (repeat' split) <;> simp

@[simp] theorem runOn_ports (s : State) : PortsKept (s.runOn) s := by
  unfold PortsKept State.runOn
  (repeat' split) <;> simp

@[simp] theorem dispatchOp_ports (s : State) : PortsKept (dispatchOp s) s := by
  simp [dispatchOp]

@[simp] theorem countRun_ports (before after : State) (ended : Option Nat) : PortsKept (before.countRun after ended) after := by
  simp [State.countRun]

@[simp] theorem dispatchPointOp_ports (s : State) : PortsKept (dispatchPointOp s) s := by
  simp [dispatchPointOp]

@[simp] theorem runCompleteOp_ports (t : Nat) (s : State) : PortsKept (runCompleteOp t s) s := by
  simp [runCompleteOp]

@[simp] theorem runEndOp_ports (t : Nat) (s : State) : PortsKept (runEndOp t s) s := by
  simp [runEndOp]

@[simp] theorem latchEvent_ports (s : State) (t : Nat) : HostKept (s.latchEvent t) s := by
  simp [State.latchEvent]

@[simp] theorem eventLatchOp_ports (s : State) : HostKept (eventLatchOp s) s := by
  simp [eventLatchOp]

@[simp] theorem retainedWriteOp_ports (s : State) : PortsKept (retainedWriteOp s) s := by
  simp [retainedWriteOp]

/-! ### A cycle run again -/

@[simp] theorem loadEssence_ports (s : State) (pages : List (Nat × List Byte)) : On (s.loadEssence pages) fun t =>
    t.freeCtr = s.freeCtr ∧ t.net = s.net ∧ t.fch = s.fch ∧ t.host = s.host ∧ t.rcd = s.rcd ∧ t.plink = s.plink ∧ t.tap = s.tap := by
  unfold On State.loadEssence
  (repeat' split) <;> simp

@[simp] theorem takeVital_ports (s t : State) : On (s.takeVital t) fun t =>
    t.freeCtr = s.freeCtr ∧ t.net = s.net ∧ t.fch = s.fch ∧ t.host = s.host ∧ t.rcd = s.rcd ∧ t.plink = s.plink ∧ t.tap = s.tap := by
  simp [On, State.takeVital]

/-! ### Image transfer and change -/

@[simp] theorem imgBeginOp_ports (h : CmdHdr) (type length blocks version : Nat) (s : State) :
    HostKept (imgBeginOp h type length blocks version s) s := by
  refine serveImage_hostKept ?_
  rintro s t rfl
  (repeat' split) <;> simp

@[simp] theorem imgBlockOp_ports (h : CmdHdr) (block part : Nat) (data : List Byte) (s : State) :
    HostKept (imgBlockOp h block part data s) s := by
  refine serveImage_hostKept ?_
  rintro s t rfl
  simp

@[simp] theorem imgVerifyOp_ports (h : CmdHdr) (s : State) : HostKept (imgVerifyOp h s) s := by
  refine serveImage_hostKept ?_
  rintro s t rfl
  (repeat' split) <;> simp

@[simp] theorem imgVerifyCompleteOp_ports (s : State) : HostKept (imgVerifyCompleteOp s) s := by
  unfold HostKept imgVerifyCompleteOp
  dsimp only
  (repeat' split) <;> simp

@[simp] theorem endSchedule_ports (s : State) (status : Nat) : On (s.endSchedule status) fun t =>
    t.freeCtr = s.freeCtr ∧ t.net = s.net ∧ t.fch = s.fch ∧ t.sup = s.sup ∧ t.rcd = s.rcd ∧ t.plink = s.plink ∧ t.tap = s.tap := by
  unfold On State.endSchedule
  dsimp only
  (repeat' split) <;> simp

@[simp] theorem recordRefusal_ports (s : State) (reason route : Nat) : HostKept (s.recordRefusal reason route) s := by
  simp [State.recordRefusal]

@[simp] theorem forwardSchedule_ports (s : State) (time flags : Nat) : On (s.forwardSchedule time flags) fun t =>
    t.freeCtr = s.freeCtr ∧ t.net = s.net ∧ t.fch = s.fch ∧ t.sup = s.sup ∧ t.host = s.host ∧ t.rcd = s.rcd ∧ t.tap = s.tap := by
  simp [On, State.forwardSchedule]

@[simp] theorem imgScheduleOp_ports (h : CmdHdr) (time flags : Nat) (s : State) : On (imgScheduleOp h time flags s) fun t =>
    t.freeCtr = s.freeCtr ∧ t.net = s.net ∧ t.fch = s.fch ∧ t.sup = s.sup ∧ t.tap = s.tap := by
  refine ⟨serveImage_keeps_part besideHost_freeCtr ?_, serveImage_keeps_part besideHost_net ?_, serveImage_keeps_part besideHost_fch ?_,
    serveImage_keeps_part besideHost_sup ?_, serveImage_keeps_part besideHost_tap ?_⟩ <;>
    (rintro s t rfl; (repeat' split) <;> simp)

@[simp] theorem imgAbortOp_ports (h : CmdHdr) (s : State) : HostKept (imgAbortOp h s) s := by
  refine serve_hostKept ?_
  rintro s t rfl
  dsimp only
  (repeat' split) <;> simp

@[simp] theorem imgQueryOp_ports (h : CmdHdr) (s : State) : HostKept (imgQueryOp h s) s := by
  refine serve_hostKept ?_
  rintro s t rfl
  simp

@[simp] theorem activationTimeOp_ports (s : State) : HostKept (activationTimeOp s) s := by
  unfold HostKept activationTimeOp
  dsimp only
  (repeat' split) <;> simp

@[simp] theorem activationArmedOp_ports (l : Lane) (digestOk : Bool) (s : State) : On (activationArmedOp l digestOk s) fun t =>
    t.freeCtr = s.freeCtr ∧ t.net = s.net ∧ t.fch = s.fch ∧ t.sup = s.sup ∧ t.host = s.host ∧ t.rcd = s.rcd ∧ t.tap = s.tap := by
  simp [On, activationArmedOp]

@[simp] theorem armDeadlineOp_ports (l : Lane) (s : State) : On (armDeadlineOp l s) fun t => t.freeCtr = s.freeCtr ∧ t.tap = s.tap := by
  unfold On armDeadlineOp
  (repeat' split) <;> simp

@[simp] theorem activationJudgementOp_ports (s : State) : HostKept (activationJudgementOp s) s := by
  unfold HostKept activationJudgementOp
  dsimp only
  (repeat' split) <;> simp

@[simp] theorem postponementOp_ports (s : State) : HostKept (postponementOp s) s := by
  simp [postponementOp]

@[simp] theorem carrySheets_ports (s : State) (old : Image) : PortsKept (s.carrySheets old) s := by
  simp [State.carrySheets]

@[simp] theorem takeImage_ports (s : State) (new : Image) : On (s.takeImage new) fun t =>
    t.freeCtr = s.freeCtr ∧ t.net = s.net ∧ t.fch = s.fch ∧ t.sup = s.sup ∧ t.host = s.host ∧ t.plink = s.plink ∧ t.tap = s.tap := by
  simp [On, State.takeImage]

@[simp] theorem sendLevels_ports (s : State) : On (s.sendLevels) fun t =>
    t.freeCtr = s.freeCtr ∧ t.net = s.net ∧ t.fch = s.fch ∧ t.sup = s.sup ∧ t.host = s.host ∧ t.rcd = s.rcd ∧ t.tap = s.tap := by
  simp [On, State.sendLevels]

@[simp] theorem imageSwitchOp_ports (s : State) : On (imageSwitchOp s) fun t =>
    t.freeCtr = s.freeCtr ∧ t.net = s.net ∧ t.fch = s.fch ∧ t.sup = s.sup ∧ t.tap = s.tap := by
  unfold On imageSwitchOp
  dsimp only
  (repeat' split) <;> simp

@[simp] theorem sheetPrepareOp_ports (h : CmdHdr) (s : State) : HostKept (sheetPrepareOp h s) s := by
  refine serveImage_hostKept ?_
  rintro s t rfl
  (repeat' split) <;> simp

@[simp] theorem sheetPrepareCompleteOp_ports (s : State) : HostKept (sheetPrepareCompleteOp s) s := by
  unfold HostKept sheetPrepareCompleteOp
  (repeat' split) <;> simp

@[simp] theorem sheetCommitOp_ports (h : CmdHdr) (time : Nat) (s : State) : On (sheetCommitOp h time s) fun t =>
    t.freeCtr = s.freeCtr ∧ t.net = s.net ∧ t.fch = s.fch ∧ t.sup = s.sup ∧ t.tap = s.tap := by
  refine ⟨serveImage_keeps_part besideHost_freeCtr ?_, serveImage_keeps_part besideHost_net ?_, serveImage_keeps_part besideHost_fch ?_,
    serveImage_keeps_part besideHost_sup ?_, serveImage_keeps_part besideHost_tap ?_⟩ <;>
    (rintro s t rfl; (repeat' split) <;> simp)

@[simp] theorem sheetSwitchOp_ports (s : State) : On (sheetSwitchOp s) fun t =>
    t.freeCtr = s.freeCtr ∧ t.net = s.net ∧ t.fch = s.fch ∧ t.sup = s.sup ∧ t.tap = s.tap := by
  unfold On sheetSwitchOp
  (repeat' split) <;> simp

@[simp] theorem sheetTimeoutOp_ports (s : State) : HostKept (sheetTimeoutOp s) s := by
  unfold HostKept sheetTimeoutOp
  (repeat' split) <;> simp

@[simp] theorem followSchedule_ports (s : State) (time flags : Nat) (digest : List Byte) :
    PortsKept (s.followSchedule time flags digest) s := by
  simp [State.followSchedule]

/-! ### Packets and sessions -/

@[simp] theorem ethernetFrameOp_ports (p : HostPort) (f : EthFrame) (s : State) : On (ethernetFrameOp p f s) fun t =>
    t.freeCtr = s.freeCtr ∧ t.net = s.net ∧ t.fch = s.fch ∧ t.sup = s.sup ∧ t.rcd = s.rcd ∧ t.plink = s.plink ∧ t.tap = s.tap := by
  simp [On, ethernetFrameOp]

@[simp] theorem arpRequestOp_ports (p : HostPort) (target : Nat) (s : State) : On (arpRequestOp p target s) fun t =>
    t.freeCtr = s.freeCtr ∧ t.net = s.net ∧ t.fch = s.fch ∧ t.sup = s.sup ∧ t.rcd = s.rcd ∧ t.plink = s.plink ∧ t.tap = s.tap := by
  simp [On, arpRequestOp]

@[simp] theorem icmpEchoOp_ports (p : HostPort) (n stamp : Nat) (s : State) : On (icmpEchoOp p n stamp s) fun t =>
    t.freeCtr = s.freeCtr ∧ t.net = s.net ∧ t.fch = s.fch ∧ t.sup = s.sup ∧ t.rcd = s.rcd ∧ t.plink = s.plink ∧ t.tap = s.tap := by
  simp [On, icmpEchoOp]

@[simp] theorem linkUpOp_ports (p : HostPort) (s : State) : HostKept (linkUpOp p s) s := by
  simp [linkUpOp]

@[simp] theorem linkDownOp_ports (p : HostPort) (s : State) : HostKept (linkDownOp p s) s := by
  simp [linkDownOp]

@[simp] theorem q5TimeoutOp_ports (cmd : CmdRef) (s : State) : On (q5TimeoutOp cmd s) fun t =>
    t.freeCtr = s.freeCtr ∧ t.net = s.net ∧ t.fch = s.fch ∧ t.sup = s.sup ∧ t.rcd = s.rcd ∧ t.plink = s.plink ∧ t.tap = s.tap := by
  unfold On q5TimeoutOp
  (repeat' split) <;> simp

@[simp] theorem sessionExpiredOp_ports (r : Role) (s : State) : HostKept (sessionExpiredOp r s) s := by
  simp [sessionExpiredOp]

@[simp] theorem sequencePersistOp_ports (s : State) : HostKept (sequencePersistOp s) s := by
  simp [sequencePersistOp]

/-! ### The partner -/

@[simp] theorem gotStrobe_ports (s : State) (body : List Byte) : On (s.gotStrobe body) fun t =>
    t.freeCtr = s.freeCtr ∧ t.fch = s.fch ∧ t.sup = s.sup ∧ t.host = s.host ∧ t.rcd = s.rcd ∧ t.tap = s.tap := by
  unfold On State.gotStrobe
  (repeat' split) <;> simp

@[simp] theorem gotDownlink_ports (s : State) (body : List Byte) : On (s.gotDownlink body) fun t =>
    t.freeCtr = s.freeCtr ∧ t.fch = s.fch ∧ t.sup = s.sup ∧ t.host = s.host ∧ t.rcd = s.rcd ∧ t.plink = s.plink ∧ t.tap = s.tap := by
  simp [On, State.gotDownlink]

@[simp] theorem heardPartner_ports (s : State) (modeWord cond : Nat) (claim : Word) : On (s.heardPartner modeWord cond claim) fun t =>
    t.freeCtr = s.freeCtr ∧ t.fch = s.fch ∧ t.sup = s.sup ∧ t.host = s.host ∧ t.rcd = s.rcd ∧ t.tap = s.tap := by
  simp [On, State.heardPartner]

@[simp] theorem gotHeartbeat_ports (s : State) (body : List Byte) : On (s.gotHeartbeat body) fun t =>
    t.freeCtr = s.freeCtr ∧ t.fch = s.fch ∧ t.sup = s.sup ∧ t.tap = s.tap := by
  unfold On State.gotHeartbeat
  dsimp only
  (repeat' split) <;> simp

@[simp] theorem gotBlock_ports (s : State) (body : List Byte) : On (s.gotBlock body) fun t =>
    t.freeCtr = s.freeCtr ∧ t.net = s.net ∧ t.fch = s.fch ∧ t.sup = s.sup ∧ t.host = s.host ∧ t.rcd = s.rcd ∧ t.tap = s.tap := by
  simp [On, State.gotBlock]

@[simp] theorem gotStatus_ports (s : State) (body : List Byte) : On (s.gotStatus body) fun t =>
    t.freeCtr = s.freeCtr ∧ t.fch = s.fch ∧ t.sup = s.sup ∧ t.host = s.host ∧ t.rcd = s.rcd ∧ t.tap = s.tap := by
  simp [On, State.gotStatus]

@[simp] theorem gotVerdict_ports (s : State) (sender : Nat) (body : List Byte) : On (s.gotVerdict sender body) fun t =>
    t.freeCtr = s.freeCtr ∧ t.net = s.net ∧ t.fch = s.fch ∧ t.sup = s.sup ∧ t.host = s.host ∧ t.rcd = s.rcd ∧ t.tap = s.tap := by
  unfold On State.gotVerdict
  (repeat' split) <;> simp

@[simp] theorem gotPage_ports (s : State) (body : List Byte) : On (s.gotPage body) fun t =>
    t.freeCtr = s.freeCtr ∧ t.net = s.net ∧ t.fch = s.fch ∧ t.sup = s.sup ∧ t.host = s.host ∧ t.rcd = s.rcd ∧ t.tap = s.tap := by
  simp [On, State.gotPage]

@[simp] theorem takeLevels_ports (s : State) (pos : Nat) (levels : List Nat) (digest : List Byte) (minors : Word) :
    On (s.takeLevels pos levels digest minors) fun t =>
      t.freeCtr = s.freeCtr ∧ t.net = s.net ∧ t.fch = s.fch ∧ t.sup = s.sup ∧ t.host = s.host ∧ t.rcd = s.rcd ∧ t.tap = s.tap := by
  simp [On, State.takeLevels]

@[simp] theorem followSwitchover_ports (s : State) (cycle : Nat) : On (s.followSwitchover cycle) fun t =>
    t.freeCtr = s.freeCtr ∧ t.net = s.net ∧ t.fch = s.fch ∧ t.sup = s.sup ∧ t.host = s.host ∧ t.rcd = s.rcd ∧ t.tap = s.tap := by
  simp [On, State.followSwitchover]

@[simp] theorem gotConfirm_ports (s : State) (kind : Nat) : On (s.gotConfirm kind) fun t =>
    t.freeCtr = s.freeCtr ∧ t.net = s.net ∧ t.fch = s.fch ∧ t.sup = s.sup ∧ t.rcd = s.rcd ∧ t.tap = s.tap := by
  simp [On, State.gotConfirm]

@[simp] theorem actControl_ports (s : State) (kind : Nat) (b : List Byte) : On (s.actControl kind b) fun t =>
    t.freeCtr = s.freeCtr ∧ t.fch = s.fch ∧ t.sup = s.sup ∧ t.tap = s.tap := by
  unfold On State.actControl
  (repeat' split) <;> simp

@[simp] theorem gotControl_ports (s : State) (body : List Byte) : On (s.gotControl body) fun t =>
    t.freeCtr = s.freeCtr ∧ t.fch = s.fch ∧ t.sup = s.sup ∧ t.tap = s.tap := by
  unfold On State.gotControl
  dsimp only
  (repeat' split) <;> simp

@[simp] theorem usePartner_ports (s : State) (m : PartnerMsg) : On (s.usePartner m) fun t =>
    t.freeCtr = s.freeCtr ∧ t.fch = s.fch ∧ t.sup = s.sup ∧ t.tap = s.tap := by
  unfold On State.usePartner
  (repeat' split) <;> simp

@[simp] theorem partnerMessageOp_ports (m : PartnerMsg) (s : State) : On (partnerMessageOp m s) fun t =>
    t.freeCtr = s.freeCtr ∧ t.fch = s.fch ∧ t.sup = s.sup ∧ t.tap = s.tap := by
  unfold On partnerMessageOp
  (repeat' split) <;> simp

@[simp] theorem failControl_ports (s : State) (c : ControlMsg) : On (s.failControl c) fun t =>
    t.freeCtr = s.freeCtr ∧ t.fch = s.fch ∧ t.sup = s.sup ∧ t.tap = s.tap := by
  unfold On State.failControl
  dsimp only
  (repeat' split) <;> simp

@[simp] theorem controlRetransmitOp_ports (s : State) : On (controlRetransmitOp s) fun t =>
    t.freeCtr = s.freeCtr ∧ t.fch = s.fch ∧ t.sup = s.sup ∧ t.tap = s.tap := by
  unfold On controlRetransmitOp
  (repeat' split) <;> simp

@[simp] theorem partnerLinkUpOp_ports (pos rom major minor iface : Nat) (digest : List Byte) (minors : Word) (s : State) :
    On (partnerLinkUpOp pos rom major minor iface digest minors s) fun t =>
      t.freeCtr = s.freeCtr ∧ t.fch = s.fch ∧ t.sup = s.sup ∧ t.tap = s.tap := by
  unfold On partnerLinkUpOp
  dsimp only
  (repeat' split) <;> simp

@[simp] theorem partnerLinkDownOp_ports (s : State) : On (partnerLinkDownOp s) fun t =>
    t.freeCtr = s.freeCtr ∧ t.fch = s.fch ∧ t.sup = s.sup ∧ t.tap = s.tap := by
  simp [On, partnerLinkDownOp]

@[simp] theorem failPartnerResync_ports (s : State) : On (s.failPartnerResync) fun t =>
    t.freeCtr = s.freeCtr ∧ t.net = s.net ∧ t.fch = s.fch ∧ t.sup = s.sup ∧ t.tap = s.tap := by
  simp [On, State.failPartnerResync]

@[simp] theorem partnerDigestStep_ports (s : State) (ok : Bool) : On (s.partnerDigestStep ok) fun t =>
    t.freeCtr = s.freeCtr ∧ t.net = s.net ∧ t.fch = s.fch ∧ t.sup = s.sup ∧ t.tap = s.tap := by
  unfold On State.partnerDigestStep
  (repeat' split) <;> simp

@[simp] theorem resyncReloadOp_ports (l : Lane) (digestOk reloadOk : Bool) (s : State) : On (resyncReloadOp l digestOk reloadOk s) fun t =>
    t.freeCtr = s.freeCtr ∧ t.net = s.net ∧ t.fch = s.fch ∧ t.sup = s.sup ∧ t.tap = s.tap := by
  unfold On resyncReloadOp
  (repeat' split) <;> simp

@[simp] theorem resyncArmedOp_ports (l : Lane) (s : State) : On (resyncArmedOp l s) fun t =>
    t.net = s.net ∧ t.fch = s.fch ∧ t.sup = s.sup ∧ t.host = s.host ∧ t.rcd = s.rcd ∧ t.tap = s.tap := by
  simp [On, resyncArmedOp]

@[simp] theorem partnerCopyFails_ports (s : State) : On (s.partnerCopyFails) fun t =>
    t.freeCtr = s.freeCtr ∧ t.net = s.net ∧ t.fch = s.fch ∧ t.sup = s.sup ∧ t.tap = s.tap := by
  simp [On, State.partnerCopyFails]

@[simp] theorem resyncCopyOp_ports (l : Lane) (senderHash : BitVec 64) (s : State) : On (resyncCopyOp l senderHash s) fun t =>
    t.freeCtr = s.freeCtr ∧ t.net = s.net ∧ t.fch = s.fch ∧ t.tap = s.tap := by
  simp [On, resyncCopyOp]

@[simp] theorem resyncCopyFailedOp_ports (l : Lane) (s : State) : On (resyncCopyFailedOp l s) fun t =>
    t.freeCtr = s.freeCtr ∧ t.net = s.net ∧ t.fch = s.fch ∧ t.sup = s.sup ∧ t.tap = s.tap := by
  simp [On, resyncCopyFailedOp]

@[simp] theorem partnerCatchUp_ports (s : State) : On (s.partnerCatchUp) fun t =>
    t.freeCtr = s.freeCtr ∧ t.net = s.net ∧ t.fch = s.fch ∧ t.tap = s.tap := by
  simp [On, State.partnerCatchUp]

@[simp] theorem resyncCatchUpOp_ports (l : Lane) (s : State) : On (resyncCatchUpOp l s) fun t =>
    t.freeCtr = s.freeCtr ∧ t.net = s.net ∧ t.fch = s.fch ∧ t.tap = s.tap := by
  unfold On resyncCatchUpOp
  (repeat' split) <;> simp

@[simp] theorem resyncCatchUpTimeoutOp_ports (l : Lane) (s : State) : On (resyncCatchUpTimeoutOp l s) fun t =>
    t.freeCtr = s.freeCtr ∧ t.net = s.net ∧ t.fch = s.fch ∧ t.sup = s.sup ∧ t.tap = s.tap := by
  simp [On, resyncCatchUpTimeoutOp]

@[simp] theorem partnerInStep_ports (s : State) : On (s.partnerInStep) fun t =>
    t.freeCtr = s.freeCtr ∧ t.net = s.net ∧ t.fch = s.fch ∧ t.sup = s.sup ∧ t.tap = s.tap := by
  simp [On, State.partnerInStep]

@[simp] theorem resyncProbationOp_ports (l : Lane) (s : State) : On (resyncProbationOp l s) fun t =>
    t.freeCtr = s.freeCtr ∧ t.net = s.net ∧ t.fch = s.fch ∧ t.sup = s.sup ∧ t.tap = s.tap := by
  unfold On resyncProbationOp
  (repeat' split) <;> simp

@[simp] theorem resyncEndOp_ports (l : Lane) (s : State) : On (resyncEndOp l s) fun t =>
    t.freeCtr = s.freeCtr ∧ t.net = s.net ∧ t.fch = s.fch ∧ t.sup = s.sup ∧ t.tap = s.tap := by
  unfold On resyncEndOp
  (repeat' split) <;> simp

@[simp] theorem becomeLead_ports (s : State) (g result : Nat) : On (s.becomeLead g result) fun t =>
    t.freeCtr = s.freeCtr ∧ t.fch = s.fch ∧ t.sup = s.sup ∧ t.tap = s.tap := by
  simp [On, State.becomeLead]

@[simp] theorem takeOver_ports (s : State) : On (s.takeOver) fun t =>
    t.freeCtr = s.freeCtr ∧ t.fch = s.fch ∧ t.sup = s.sup ∧ t.tap = s.tap := by
  unfold On State.takeOver
  dsimp only
  (repeat' split) <;> simp

@[simp] theorem isolate_ports (s : State) (reason : Nat) : On (s.isolate reason) fun t =>
    t.freeCtr = s.freeCtr ∧ t.net = s.net ∧ t.fch = s.fch ∧ t.sup = s.sup ∧ t.tap = s.tap := by
  simp [On, State.isolate]

@[simp] theorem takeoverJudgementOp_ports (s : State) : On (takeoverJudgementOp s) fun t =>
    t.freeCtr = s.freeCtr ∧ t.fch = s.fch ∧ t.sup = s.sup ∧ t.tap = s.tap := by
  unfold On takeoverJudgementOp
  dsimp only
  (repeat' split) <;> simp

@[simp] theorem holdingTimeoutOp_ports (s : State) : On (holdingTimeoutOp s) fun t =>
    t.freeCtr = s.freeCtr ∧ t.net = s.net ∧ t.fch = s.fch ∧ t.sup = s.sup ∧ t.tap = s.tap := by
  unfold On holdingTimeoutOp
  (repeat' split) <;> simp

@[simp] theorem takeoverLostOp_ports (higher : Word) (s : State) : On (takeoverLostOp higher s) fun t =>
    t.freeCtr = s.freeCtr ∧ t.tap = s.tap := by
  unfold On takeoverLostOp
  dsimp only
  (repeat' split) <;> simp

@[simp] theorem confirmDeadlineOp_ports (s : State) : On (confirmDeadlineOp s) fun t => t.freeCtr = s.freeCtr ∧ t.tap = s.tap := by
  unfold On confirmDeadlineOp
  (repeat' split) <;> simp

@[simp] theorem yieldLead_ports (s : State) : On (s.yieldLead) fun t => t.freeCtr = s.freeCtr ∧ t.fch = s.fch ∧ t.tap = s.tap := by
  unfold On State.yieldLead
  dsimp only
  (repeat' split) <;> simp

@[simp] theorem switchoverOp_ports (s : State) : On (switchoverOp s) fun t => t.freeCtr = s.freeCtr ∧ t.tap = s.tap := by
  unfold On switchoverOp
  dsimp only
  (repeat' split) <;> simp

/-! ### Registers -/

@[simp] theorem slotDataOp_ports (l : Lane) (entry : Word) (s : State) : On (slotDataOp l entry s) fun t =>
    t.freeCtr = s.freeCtr ∧ t.fch = s.fch ∧ t.sup = s.sup ∧ t.host = s.host ∧ t.rcd = s.rcd ∧ t.plink = s.plink ∧ t.tap = s.tap := by
  simp [On, slotDataOp]

@[simp] theorem switchRoundOp_ports (l : Lane) (round : Word) (s : State) : On (switchRoundOp l round s) fun t =>
    t.freeCtr = s.freeCtr ∧ t.fch = s.fch ∧ t.sup = s.sup ∧ t.host = s.host ∧ t.rcd = s.rcd ∧ t.plink = s.plink ∧ t.tap = s.tap := by
  simp [On, switchRoundOp]

@[simp] theorem switchCrcOp_ports (l : Lane) (crc : Word) (s : State) : On (switchCrcOp l crc s) fun t =>
    t.freeCtr = s.freeCtr ∧ t.fch = s.fch ∧ t.sup = s.sup ∧ t.host = s.host ∧ t.rcd = s.rcd ∧ t.plink = s.plink ∧ t.tap = s.tap := by
  simp [On, switchCrcOp]

@[simp] theorem switchCancelOp_ports (l : Lane) (value : Word) (s : State) : On (switchCancelOp l value s) fun t =>
    t.freeCtr = s.freeCtr ∧ t.fch = s.fch ∧ t.sup = s.sup ∧ t.plink = s.plink ∧ t.tap = s.tap := by
  unfold On switchCancelOp
  (repeat' split) <;> simp

@[simp] theorem arbCommitOp_ports (l : Lane) (p : MemPort) (value : Word) (reason : Nat) (s : State) :
    HostKept (arbCommitOp l p value reason s) s := by
  simp [arbCommitOp]

@[simp] theorem writeUnit_ports (s : State) (l : Lane) (u ofs : Nat) (f : CvuS → CvuS) : HostKept (s.writeUnit l u ofs f) s := by
  unfold HostKept State.writeUnit
  dsimp only
  (repeat' split) <;> simp

@[simp] theorem cvuLoadOp_ports (l : Lane) (u poly : Nat) (s : State) : HostKept (cvuLoadOp l u poly s) s := by
  simp [cvuLoadOp]

@[simp] theorem cvuSeedOp_ports (l : Lane) (u : Nat) (s : State) : HostKept (cvuSeedOp l u s) s := by
  simp [cvuSeedOp]

@[simp] theorem cvuFeedOp_ports (l : Lane) (u : Nat) (data : Word) (s : State) : HostKept (cvuFeedOp l u data s) s := by
  simp [cvuFeedOp]

@[simp] theorem cvuValueOp_ports (l : Lane) (u : Nat) (high : Bool) (w : Word) (s : State) : HostKept (cvuValueOp l u high w s) s := by
  simp [cvuValueOp]

@[simp] theorem onChannels_ports (s : State) (l : Lane) (f : LaneS → LaneS) : PortsKept (s.onChannels l f) s := by
  simp [State.onChannels]

@[simp] theorem dmaEnableOp_ports (l : Lane) (c : Nat) (on : Bool) (s : State) : PortsKept (dmaEnableOp l c on s) s := by
  simp [dmaEnableOp]

@[simp] theorem dmaSuspendOp_ports (l : Lane) (c : Nat) (s : State) : PortsKept (dmaSuspendOp l c s) s := by
  simp [dmaSuspendOp]

@[simp] theorem dmaResumeOp_ports (l : Lane) (c : Nat) (s : State) : PortsKept (dmaResumeOp l c s) s := by
  simp [dmaResumeOp]

@[simp] theorem dmaAbortOp_ports (l : Lane) (c : Nat) (s : State) : PortsKept (dmaAbortOp l c s) s := by
  simp [dmaAbortOp]

@[simp] theorem dmaTailOp_ports (l : Lane) (c tail : Nat) (s : State) : PortsKept (dmaTailOp l c tail s) s := by
  simp [dmaTailOp]

@[simp] theorem mmuRootOp_ports (l : Lane) (master : Nat) (v : Word) (s : State) : PortsKept (mmuRootOp l master v s) s := by
  simp [mmuRootOp]

@[simp] theorem mmuInvalOp_ports (l : Lane) (v : Word) (s : State) : PortsKept (mmuInvalOp l v s) s := by
  simp [mmuInvalOp]

@[simp] theorem latchOp_ports (l : Lane) (net : BitVec 64) (frac : Nat) (s : State) : PortsKept (latchOp l net frac s) s := by
  simp [latchOp]

@[simp] theorem writeCvu_ports (s : State) (l : Lane) (ofs : Nat) (v : Word) : HostKept (s.writeCvu l ofs v) s := by
  unfold HostKept State.writeCvu
  (repeat' split) <;> simp

@[simp] theorem writeDmaCtrl_ports (s : State) (l : Lane) (c : Nat) (v : Word) : PortsKept (s.writeDmaCtrl l c v) s := by
  simp [State.writeDmaCtrl]

@[simp] theorem writeHub_ports (s : State) (l : Lane) (ofs : Nat) (v : Word) : On (s.writeHub l ofs v) fun t =>
    t.freeCtr = s.freeCtr ∧ t.plink = s.plink ∧ t.tap = s.tap := by
  unfold On State.writeHub
  (repeat' split) <;> simp

@[simp] theorem writeFch_ports (s : State) (l : Lane) (ofs : Nat) (v : Word) : On (s.writeFch l ofs v) fun t =>
    t.freeCtr = s.freeCtr ∧ t.plink = s.plink ∧ t.tap = s.tap := by
  simp [On, State.writeFch]

@[simp] theorem writeReg_ports (s : State) (l : Lane) (ofs : Nat) (v : Word) : On (s.writeReg l ofs v) fun t =>
    t.freeCtr = s.freeCtr ∧ t.plink = s.plink ∧ t.tap = s.tap := by
  unfold On State.writeReg
  (repeat' split) <;> simp

theorem regWrite_writeReg_ports (l : Lane) (a ofs : Nat) (v : Word) (s : State) :
    On (s.regWrite l ofs v fun s => if roPlace ofs then s.writeFault l a 2 else s.writeReg l ofs v) fun t =>
      t.plink = s.plink ∧ t.tap = s.tap := by
  refine ⟨regWrite_plink _ _ _ _ _ ?_, regWrite_tap _ _ _ _ _ ?_⟩ <;> (intro s; split <;> simp)

@[simp] theorem registerWriteOp_ports (l : Lane) (a : Nat) (v : Word) (s : State) : On (registerWriteOp l a v s) fun t =>
    t.plink = s.plink ∧ t.tap = s.tap := by
  unfold registerWriteOp
  split
  · split
    · simp [On]
    · exact regWrite_writeReg_ports l a _ v s
  · simp [On]

/-! ### Test access -/

@[simp] theorem selectTap_ports (s : State) (ir : Nat) : On (s.selectTap ir) fun t =>
    t.freeCtr = s.freeCtr ∧ t.net = s.net ∧ t.fch = s.fch ∧ t.sup = s.sup ∧ t.host = s.host ∧ t.rcd = s.rcd ∧ t.plink = s.plink := by
  simp [On, State.selectTap]

@[simp] theorem idcodeOp_ports (s : State) : On (idcodeOp s) fun t =>
    t.freeCtr = s.freeCtr ∧ t.net = s.net ∧ t.fch = s.fch ∧ t.sup = s.sup ∧ t.host = s.host ∧ t.rcd = s.rcd ∧ t.plink = s.plink := by
  simp [On, idcodeOp]

@[simp] theorem sampleOp_ports (cells : List Bool) (s : State) : On (sampleOp cells s) fun t =>
    t.freeCtr = s.freeCtr ∧ t.net = s.net ∧ t.fch = s.fch ∧ t.sup = s.sup ∧ t.host = s.host ∧ t.rcd = s.rcd ∧ t.plink = s.plink := by
  simp [On, sampleOp]

@[simp] theorem bypassOp_ports (code : Nat) (s : State) : On (bypassOp code s) fun t =>
    t.freeCtr = s.freeCtr ∧ t.net = s.net ∧ t.fch = s.fch ∧ t.sup = s.sup ∧ t.host = s.host ∧ t.rcd = s.rcd ∧ t.plink = s.plink := by
  simp [On, bypassOp]

@[simp] theorem dbgInstructionOp_ports (s : State) : On (dbgInstructionOp s) fun t =>
    t.freeCtr = s.freeCtr ∧ t.net = s.net ∧ t.fch = s.fch ∧ t.sup = s.sup ∧ t.host = s.host ∧ t.rcd = s.rcd ∧ t.plink = s.plink := by
  simp [On, dbgInstructionOp]

@[simp] theorem dbgWrite_ports (s : State) (l : Lane) (a : Nat) (v : Word) : On (s.dbgWrite l a v) fun t =>
    t.freeCtr = s.freeCtr ∧ t.plink = s.plink := by
  unfold On State.dbgWrite
  (repeat' split) <;> simp

@[simp] theorem dbgHalt_ports (s : State) (l : Lane) : On (s.dbgHalt l) fun t =>
    t.freeCtr = s.freeCtr ∧ t.net = s.net ∧ t.fch = s.fch ∧ t.sup = s.sup ∧ t.plink = s.plink := by
  simp [On, State.dbgHalt]

@[simp] theorem dbgRelease_ports (s : State) (l : Lane) : On (s.dbgRelease l) fun t =>
    t.freeCtr = s.freeCtr ∧ t.net = s.net ∧ t.fch = s.fch ∧ t.sup = s.sup ∧ t.plink = s.plink := by
  simp [On, State.dbgRelease]

@[simp] theorem dbgStep_ports (s : State) (l : Lane) : On (s.dbgStep l) fun t =>
    t.freeCtr = s.freeCtr ∧ t.net = s.net ∧ t.fch = s.fch ∧ t.sup = s.sup ∧ t.host = s.host ∧ t.rcd = s.rcd ∧ t.plink = s.plink := by
  unfold On State.dbgStep
  (repeat' split) <;> simp

@[simp] theorem silBegin_ports (s : State) : On (s.silBegin) fun t =>
    t.freeCtr = s.freeCtr ∧ t.net = s.net ∧ t.fch = s.fch ∧ t.sup = s.sup ∧ t.host = s.host ∧ t.plink = s.plink := by
  simp [On, State.silBegin]

@[simp] theorem silWrite_ports (s : State) (v : Word) : On (s.silWrite v) fun t =>
    t.freeCtr = s.freeCtr ∧ t.net = s.net ∧ t.fch = s.fch ∧ t.sup = s.sup ∧ t.host = s.host ∧ t.plink = s.plink := by
  simp [On, State.silWrite]

@[simp] theorem silEnd_ports (s : State) : On (s.silEnd) fun t =>
    t.freeCtr = s.freeCtr ∧ t.net = s.net ∧ t.fch = s.fch ∧ t.sup = s.sup ∧ t.host = s.host ∧ t.plink = s.plink := by
  simp [On, State.silEnd]

@[simp] theorem dbgAttach_ports (s : State) : On (s.dbgAttach) fun t =>
    t.freeCtr = s.freeCtr ∧ t.net = s.net ∧ t.fch = s.fch ∧ t.sup = s.sup ∧ t.plink = s.plink := by
  simp [On, State.dbgAttach]

@[simp] theorem dbgDetach_ports (s : State) : On (s.dbgDetach) fun t =>
    t.freeCtr = s.freeCtr ∧ t.net = s.net ∧ t.fch = s.fch ∧ t.sup = s.sup ∧ t.host = s.host ∧ t.rcd = s.rcd ∧ t.plink = s.plink := by
  simp [On, State.dbgDetach]

/-! ### Timers -/

@[simp] theorem adoptTimer_ports (s : State) (e : Ev) : PortsKept (s.adoptTimer e) s := by
  simp [State.adoptTimer]

@[simp] theorem timerElem_ports (o : Nat) (ks : List Kind) (p : ElemSt → Bool) (s : State) : PortsKept (timerElem o ks p s) s := by
  unfold PortsKept timerElem
  (repeat' split) <;> simp

@[simp] theorem restartTimeOp_ports (a : Nat) (s : State) : PortsKept (restartTimeOp a s) s := by
  simp [restartTimeOp]

@[simp] theorem boundaryBackoffOp_ports (o : Nat) (s : State) : PortsKept (boundaryBackoffOp o s) s := by
  simp [boundaryBackoffOp]

@[simp] theorem timerRoute_ports (r : Nat) (p : RSt → Bool) (slot : Ev → Nat → Ev) (s : State) : PortsKept (timerRoute r p slot s) s := by
  simp [timerRoute]

@[simp] theorem overlapReleaseOp_ports (o : Nat) (s : State) : PortsKept (overlapReleaseOp o s) s := by
  simp [overlapReleaseOp]

@[simp] theorem dataAgeOp_ports (n row : Nat) (s : State) : On (dataAgeOp n row s) fun t =>
    t.freeCtr = s.freeCtr ∧ t.fch = s.fch ∧ t.sup = s.sup ∧ t.host = s.host ∧ t.rcd = s.rcd ∧ t.plink = s.plink ∧ t.tap = s.tap := by
  unfold On dataAgeOp
  dsimp only
  (repeat' split) <;> simp

@[simp] theorem tokenExpiredOp_ports (source opcode target : Nat) (s : State) : PortsKept (tokenExpiredOp source opcode target s) s := by
  simp [tokenExpiredOp]

/-! ### Every command -/

/-- A step keeps the counter of free values, the network, the field channels and the supervisors where the table of changes does not name
them for its command. -/
def NetworkFramed (c : Instr) (s t : State) : Prop :=
  (Part.freeCtr ∈ mayChange c ∨ t.freeCtr = s.freeCtr) ∧ (Part.net ∈ mayChange c ∨ t.net = s.net) ∧
  (Part.fch ∈ mayChange c ∨ t.fch = s.fch) ∧ (Part.sup ∈ mayChange c ∨ t.sup = s.sup)

/-- A step keeps the host ports, the recorder, the partner link and the TAP where the table of changes does not name them for its command. -/
def LinkFramed (c : Instr) (s t : State) : Prop :=
  (Part.host ∈ mayChange c ∨ t.host = s.host) ∧ (Part.rcd ∈ mayChange c ∨ t.rcd = s.rcd) ∧
  (Part.plink ∈ mayChange c ∨ t.plink = s.plink) ∧ (Part.tap ∈ mayChange c ∨ t.tap = s.tap)

/-- Command by command: the table's row names a part, or the lemmas of the command's operation say that it is kept. -/
theorem exec_networkFramed (c : Instr) (s t : State) (h : exec c s = .next t) : NetworkFramed c s t := by
  cases c <;> cases h <;> simp [NetworkFramed, mayChange, Part.all, State.dbg]

theorem exec_linkFramed (c : Instr) (s t : State) (h : exec c s = .next t) : LinkFramed c s t := by
  cases c <;> cases h <;> simp [LinkFramed, mayChange, Part.all, State.dbg]

/-- Settles O10: each of the eight parts, from what every command keeps. -/
theorem portFrames : Obligations.PortFrames := by
  unfold Obligations.PortFrames
  intro c s t p ht hp hc
  obtain ⟨freeCtr, net, fch, sup⟩ := exec_networkFramed c s t ht
  obtain ⟨host, rcd, plink, tap⟩ := exec_linkFramed c s t ht
  simp only [List.mem_cons, List.not_mem_nil, or_false] at hp
  obtain rfl | rfl | rfl | rfl | rfl | rfl | rfl | rfl := hp
  · exact freeCtr.resolve_left hc
  · exact net.resolve_left hc
  · exact fch.resolve_left hc
  · exact sup.resolve_left hc
  · exact host.resolve_left hc
  · exact rcd.resolve_left hc
  · exact plink.resolve_left hc
  · exact tap.resolve_left hc

end Sys2Proof.Machine
end

section
/-!
SUPPORT. The offset correction (O15): the model's sorting is the library's insertion sort, and a list that falls into a low part, a middle and
a high part sorts part by part, so that dropping the extremes of the sorted values leaves the sorted middle (R217).
-/

namespace Sys2Proof.Machine

open Sys2Proof

/-! ### Sorting -/

theorem insertInt_eq_orderedInsert (x : Int) (l : List Int) : insertInt x l = l.orderedInsert (· ≤ ·) x := by
  induction l with
  | nil => rfl
  | cons y r ih => rw [insertInt, ih, List.orderedInsert_cons]

theorem sortInt_eq_insertionSort (l : List Int) : sortInt l = l.insertionSort (· ≤ ·) := by
  induction l with
  | nil => rfl
  | cons x r ih => rw [List.insertionSort_cons, ← ih, ← insertInt_eq_orderedInsert, sortInt, sortInt, List.foldr_cons]

theorem sortInt_perm (l : List Int) : (sortInt l).Perm l :=
  sortInt_eq_insertionSort l ▸ List.perm_insertionSort _ l

theorem sortInt_pairwise (l : List Int) : (sortInt l).Pairwise (· ≤ ·) :=
  sortInt_eq_insertionSort l ▸ List.pairwise_insertionSort _ l

/-- A list has one rising order: one that is rising and holds the same values is it. -/
theorem sortInt_eq_of_perm {l m : List Int} (same : l.Perm m) (rising : m.Pairwise (· ≤ ·)) : sortInt l = m :=
  List.Perm.eq_of_pairwise' (sortInt_pairwise l) rising ((sortInt_perm l).trans same)

/-- Where a middle that is not empty separates a low part from a high one, the values sort part by part. -/
theorem sortInt_of_parts {vals lo kept hi : List Int} (parts : vals.Perm (lo ++ kept ++ hi)) (nonempty : kept ≠ [])
    (low : ∀ x ∈ lo, ∀ y ∈ kept, x ≤ y) (high : ∀ x ∈ kept, ∀ y ∈ hi, x ≤ y) :
    sortInt vals = sortInt lo ++ (sortInt kept ++ sortInt hi) := by
  obtain ⟨m, mem⟩ := List.exists_mem_of_ne_nil kept nonempty
  have same : vals.Perm (sortInt lo ++ (sortInt kept ++ sortInt hi)) := by
    rw [List.append_assoc] at parts
    exact parts.trans ((sortInt_perm lo).append ((sortInt_perm kept).append (sortInt_perm hi))).symm
  refine sortInt_eq_of_perm same ?_
  simp only [List.pairwise_append, List.mem_append, (sortInt_perm _).mem_iff]
  refine ⟨sortInt_pairwise lo, ⟨sortInt_pairwise kept, sortInt_pairwise hi, high⟩, fun x inLo y above => ?_⟩
  obtain inKept | inHi := above
  · exact low x inLo y inKept
  · exact (low x inLo m mem).trans (high m mem y inHi)

/-! ### The correction -/

/-- How many values R217 discards at each end, of v. -/
def discards (v : Nat) : Nat := if 7 ≤ v then 2 else if 3 ≤ v then 1 else 0

/-- The discarded values leave at least one. -/
theorem two_mul_discards_lt {v : Nat} (two : 2 ≤ v) : 2 * discards v < v := by
  unfold discards
  split
  · omega
  · split <;> omega

/-- The values that R217 keeps: the sorted values without the discarded ends. -/
def keptValues (vals : List Int) : List Int :=
  ((sortInt vals).drop (discards vals.length)).take (vals.length - 2 * discards vals.length)

theorem correction_eq_tdiv {vals : List Int} (two : 2 ≤ vals.length) :
    correction vals = Int.tdiv (keptValues vals).sum (keptValues vals).length := by
  rw [List.sum_eq_foldl]
  exact if_neg (Nat.not_le.2 two)

/-- Of a list in three parts, the outer two as long as R217 discards, the sorted middle is kept. -/
theorem keptValues_of_parts {vals lo kept hi : List Int} (parts : vals.Perm (lo ++ kept ++ hi)) (two : 2 ≤ vals.length)
    (cut : lo.length = discards vals.length) (even : hi.length = lo.length)
    (low : ∀ x ∈ lo, ∀ y ∈ kept, x ≤ y) (high : ∀ x ∈ kept, ∀ y ∈ hi, x ≤ y) : keptValues vals = sortInt kept := by
  have total : vals.length = 2 * lo.length + kept.length := by
    rw [parts.length_eq, List.length_append, List.length_append, even]
    omega
  have left := two_mul_discards_lt two
  have number : vals.length - 2 * lo.length = kept.length := by omega
  have nonempty : kept ≠ [] := List.ne_nil_of_length_pos (by omega)
  rw [keptValues, ← cut, number, sortInt_of_parts parts nonempty low high, List.drop_left' (sortInt_perm lo).length_eq,
    List.take_left' (sortInt_perm kept).length_eq]

/-- The lane's own value alone gives no correction. -/
theorem correction_singleton (x : Int) : correction [x] = 0 := rfl

/-- A lane that stands alone is not synchronised, whatever its correction. -/
theorem correct_one_not_synced (u : TbsS) (c : Int) : (u.correct 1 c).synced = false := rfl

/-- Settles O15: the discarded ends frame the values kept, so the sorted list's middle holds just these, and their sum and number do not
depend on their order. -/
theorem offsetCorrection : Obligations.OffsetCorrection := by
  refine ⟨fun vals lo kept hi parts two cut even low high => ?_, fun x u => ⟨correction_singleton x, correct_one_not_synced u _⟩⟩
  rw [correction_eq_tdiv two, keptValues_of_parts parts two cut even low high, (sortInt_perm kept).sum_eq, (sortInt_perm kept).length_eq]

end Sys2Proof.Machine
end

section
/-!
SUPPORT. Field channels: what a lane's senses, a channel's output stage and the supplies' bits read after the operations that O44, O45 and O46
share (R243, R257, R259, R264).
-/

namespace Sys2Proof.Machine

open Sys2Proof

/-! ### Sets of lanes -/

theorem get_union (u v : LaneSet) (l : Lane) : (LaneSet.union u v).get l = (u.get l || v.get l) := by cases l <;> rfl

theorem get_set_same {α : Type} (p : PerLane α) (l : Lane) (v : α) : (p.set l v).get l = v := by cases l <;> rfl

theorem get_modify_ne {α : Type} (p : PerLane α) {l m : Lane} (f : α → α) (ne : m ≠ l) : (p.modify l f).get m = p.get m := by
  revert ne
  cases l <;> cases m <;> simp [PerLane.modify, PerLane.set, PerLane.get]

/-! ### Records -/

theorem record_fch (s : State) (type : Nat) (payload : List Byte) : (s.record type payload).fch = s.fch := by simp

theorem recordIf_fch (c : Prop) [Decidable c] (s : State) (type : Nat) (payload : List Byte) :
    (if c then s.record type payload else s).fch = s.fch := by rw [ite_fch, record_fch, ite_self]

theorem recordLane_fch (s : State) (l : Lane) (type : Nat) (payload : List Byte) : (s.recordLane l type payload).fch = s.fch := by simp

theorem recordFault_fch (s : State) (ch bit : Nat) (ls : LaneSet) (switch : Nat) : (s.recordFault ch bit ls switch).fch = s.fch := by simp

theorem recordCleared_fch (s : State) (ch bit : Nat) : (s.recordCleared ch bit).fch = s.fch := by simp

/-! ### What a lane senses -/

/-- What a lane senses is read in the field channels alone. -/
theorem chSense_of_fch {s t : State} (fch : t.fch = s.fch) (l : Lane) (ch : Nat) : t.chSense l ch = s.chSense l ch := by
  rw [State.chSense, State.chSense, fch]

theorem modSense_lane (s : State) (l : Lane) (ch : Nat) (f : ChSense → ChSense) : (s.modSense l ch f).fch.lanes.get l =
    { s.fch.lanes.get l with chans := Tab.upd (s.fch.lanes.get l).chans ch .zero f } := get_modify_same _ _ _

theorem modSense_lane_ne (s : State) {l m : Lane} (ch : Nat) (f : ChSense → ChSense) (ne : m ≠ l) :
    (s.modSense l ch f).fch.lanes.get m = s.fch.lanes.get m := get_modify_ne _ _ ne

/-- The registers beside the channels' senses are the same in every lane. -/
theorem modSense_lane_part {β : Type} (p : FchLane → β) (s : State) (l m : Lane) (ch : Nat) (f : ChSense → ChSense)
    (beside : ∀ x c, p { x with chans := c } = p x) : p ((s.modSense l ch f).fch.lanes.get m) = p (s.fch.lanes.get m) := by
  by_cases same : m = l
  · rw [same, modSense_lane, beside]
  · rw [modSense_lane_ne s ch f same]

@[simp] theorem chSense_modSense_same (s : State) (l : Lane) (ch : Nat) (f : ChSense → ChSense) :
    (s.modSense l ch f).chSense l ch = f (s.chSense l ch) := by
  rw [State.chSense, modSense_lane]
  exact Tab.getD_put_eq _ _ _ _

theorem chSense_modSense_ne (s : State) (l : Lane) {ch k : Nat} (f : ChSense → ChSense) (ne : k ≠ ch)
    (wf : Tab.wf (s.fch.lanes.get l).chans = true) : (s.modSense l ch f).chSense l k = s.chSense l k := by
  rw [State.chSense, modSense_lane]
  exact Tab.getD_put_ne _ _ _ _ _ ne wf

theorem chSense_modSense_lane_ne (s : State) {l m : Lane} (ch k : Nat) (f : ChSense → ChSense) (ne : m ≠ l) :
    (s.modSense l ch f).chSense m k = s.chSense m k := by
  rw [State.chSense, modSense_lane_ne s ch f ne, State.chSense]

/-- A part of a channel's senses that a change leaves alone is the same in every lane. -/
theorem chSense_modSense_part {β : Type} (p : ChSense → β) (s : State) (l m : Lane) (ch : Nat) (f : ChSense → ChSense)
    (keeps : ∀ c, p (f c) = p c) : p ((s.modSense l ch f).chSense m ch) = p (s.chSense m ch) := by
  by_cases same : m = l
  · rw [same, chSense_modSense_same, keeps]
  · rw [chSense_modSense_lane_ne s ch ch f same]

@[simp] theorem chSense_mapSense (s : State) (ch : Nat) (f : ChSense → ChSense) (l : Lane) :
    (s.mapSense ch f).chSense l ch = f (s.chSense l ch) := by
  cases l <;> simp [State.mapSense, chSense_modSense_lane_ne]

/-! ### A channel's output stage -/

section
variable (o : ChOut) (hold : Bool)

@[simp] theorem settle_hs_failed : (o.settle hold).hs.failed = o.hs.failed := rfl
@[simp] theorem settle_grpOpen : (o.settle hold).grpOpen = o.grpOpen := rfl
@[simp] theorem settle_testRun : (o.settle hold).testRun = o.testRun := rfl
@[simp] theorem settle_failVotes : (o.settle hold).failVotes = o.failVotes := rfl

@[simp] theorem settle_voter_test (high : Bool) : ((o.settle hold).voter high).test = (o.voter high).test := by cases high <;> rfl

/-- An opening of the channel or of its group opens both switches (R259). -/
theorem settle_closed_of_open (opening : o.opened = true ∨ o.grpOpen = true) :
    (o.settle hold).hs.closed = false ∧ (o.settle hold).ls.closed = false := by
  have shut : (!o.opened && !o.grpOpen && !o.latched) = false := by rcases opening with h | h <;> simp [h]
  exact ⟨by simp only [ChOut.settle, shut, Bool.false_and], by simp only [ChOut.settle, shut, Bool.false_and]⟩

/-- A voter that has latched FAILED is open (R264). -/
theorem settle_hs_closed_of_failed (failed : o.hs.failed = true) : (o.settle hold).hs.closed = false := by
  simp [ChOut.settle, voterClosed, failed]

/-- A test vote OFF opens its switch (R261). -/
theorem settle_voter_closed_of_off (high : Bool) (off : (o.voter high).test = some false) : ((o.settle hold).voter high).closed = false := by
  have shut : voterClosed hold (o.voter high) = false := by
    unfold voterClosed
    rw [off]
    split <;> rfl
  cases high
  · exact (congrArg (_ && ·) shut).trans (Bool.and_false _)
  · exact (congrArg (_ && ·) shut).trans (Bool.and_false _)

end

@[simp] theorem voter_onVoter (o : ChOut) (high : Bool) (f : VoterSt → VoterSt) : (o.onVoter high f).voter high = f (o.voter high) := by
  cases high <;> rfl

/-- A voter is read beside the lanes' ABORTs. -/
@[simp] theorem voter_with_failVotes (o : ChOut) (high : Bool) (v : LaneSet) : ({ o with failVotes := v } : ChOut).voter high = o.voter high := rfl

/-- A channel's output stage after a change, where the table lists the channel. -/
theorem get_modOut {s : State} {ch : Nat} {o : ChOut} (out : Tab.get? s.fch.outs ch = some o) (f : ChOut → ChOut) :
    Tab.get? (s.modOut ch f).fch.outs ch = some ((f o).settle (s.holdCh ch)) := by
  have read : Tab.getD s.fch.outs ch .zero = o := by rw [Tab.getD, out, Option.getD_some]
  exact (Tab.get_put_eq _ _ _).trans (by rw [read])

theorem getD_modOut {s : State} {ch : Nat} {o : ChOut} (out : Tab.get? s.fch.outs ch = some o) (f : ChOut → ChOut) :
    Tab.getD (s.modOut ch f).fch.outs ch .zero = (f o).settle (s.holdCh ch) := by rw [Tab.getD, get_modOut out, Option.getD_some]

/-- The output stages after a change of all of them. -/
theorem mem_mapOuts {s : State} {f : Nat → ChOut → ChOut} {p : Nat × ChOut} (mem : p ∈ (s.mapOuts f).fch.outs) :
    ∃ o, p.2 = (f p.1 o).settle (s.holdCh p.1) := by
  obtain ⟨q, -, rfl⟩ := List.mem_map.1 mem
  exact ⟨q.2, rfl⟩

theorem liveAt_of_get {s : State} {ch : Nat} {o : ChOut} (out : Tab.get? s.fch.outs ch = some o) : s.liveAt ch = o.hs.live := by
  rw [State.liveAt, out]
  rfl

theorem get_of_liveAt {s : State} {ch : Nat} (live : s.liveAt ch = LaneSet.full) : ∃ o, Tab.get? s.fch.outs ch = some o := by
  cases out : Tab.get? s.fch.outs ch with
  | none => exact absurd live (by rw [State.liveAt, out]; decide)
  | some o => exact ⟨o, rfl⟩

/-! ### Bits of the groups -/

theorem setBit_self (b : Byte) (g : Group) : (b ||| (1 : Byte) <<< g.val).getLsbD g.val = true := by
  have low := g.isLt
  simp [low]

theorem clearBit_self (b : Byte) (g : Group) : (b &&& ~~~((1 : Byte) <<< g.val)).getLsbD g.val = false := by
  have low := g.isLt
  simp [low]

end Sys2Proof.Machine
end

section
/-!
SUPPORT. Field channel status, test periods, forced outputs and debug status (O60): what an accepted command reads, sets and answers (R262, R350).
-/

namespace Sys2Proof.Machine

open Sys2Proof

/-! ### Status -/

/-- The parameters of IO_STATUS that are none of a refusal. -/
theorem ioStatus_params (first n : Nat) (some : 1 ≤ n) (fits : first + n ≤ 64) :
    ¬(63 < first || !within 1 64 n || 64 < first + n) = true := by
  simp only [within, Bool.or_eq_true, Bool.not_eq_true', decide_eq_true_eq, Bool.and_eq_false_iff, decide_eq_false_iff_not]
  omega

/-! ### Test periods -/

/-- The state with a channel's test period set by IO_TEST_CONFIG. -/
def State.setTestPeriod (s : State) (ch v : Nat) : State := { s with fch := { s.fch with testPeriods := Tab.put s.fch.testPeriods ch v } }

theorem testPeriod_setTestPeriod_same (s : State) (ch v : Nat) : (s.setTestPeriod ch v).testPeriod ch = v := by
  rw [State.testPeriod, State.setTestPeriod, Tab.get_put_eq, Option.getD_some]

theorem testPeriod_setTestPeriod_ne (s : State) {ch k : Nat} (v : Nat) (ne : k ≠ ch) (wf : Tab.wf s.fch.testPeriods = true) :
    (s.setTestPeriod ch v).testPeriod k = s.testPeriod k := by
  rw [State.testPeriod, State.setTestPeriod, Tab.get_put_ne _ _ _ _ ne wf]
  rfl

/-- A reply leaves the test periods alone. -/
theorem testPeriod_say (s : State) (h : CmdHdr) (op st : Nat) (ps : List Byte) (k : Nat) : (s.say h op st ps).testPeriod k = s.testPeriod k := by
  simp [State.testPeriod, State.image]

/-- IO_TEST_CONFIG refuses only an unknown channel, action or value, and a change of a channel that is no non-vital output. -/
theorem ioTestConfig_params (ch action v : Nat) (settable : Bool) (low : ch < 64) (known : action ≤ 1) (range : v ≤ 100)
    (may : action = 1 → settable = true) : ¬(63 < ch || 1 < action || 100 < v || (action = 1 && !settable)) = true := by
  simp only [Bool.or_eq_true, Bool.and_eq_true, Bool.not_eq_true', decide_eq_true_eq, not_or, not_and, Bool.not_eq_false]
  exact ⟨⟨⟨by omega, by omega⟩, by omega⟩, may⟩

theorem ioTestConfigOp_sets (h : CmdHdr) (ch v : Nat) (s : State) (d : ChDef) (accepted : Accepts s h 0x0B02 (some .maintainer)) (low : ch < 64)
    (range : v ≤ 100) (output : s.isOutput ch = true) (here : Tab.get? s.image.chans ch = some d) (nonvital : d.vital = false) :
    ∃ ps, ioTestConfigOp h ch 1 v s = (s.setTestPeriod ch v).say h 0x0B02 stOk ps := by
  refine ⟨_, (serve_accepts s h _ _ _ accepted).trans ((if_neg ?_).trans rfl)⟩
  exact ioTestConfig_params ch 1 v _ low le_rfl range fun _ => by rw [output, here, Option.any_some, nonvital]; rfl

theorem ioTestConfigOp_answers (h : CmdHdr) (ch v : Nat) (s : State) (accepted : Accepts s h 0x0B02 (some .maintainer)) (low : ch < 64)
    (range : v ≤ 100) : ioTestConfigOp h ch 0 v s =
      s.say h 0x0B02 stOk (fields [(1, s.testPeriod ch), (3, 0), (4, s.nextTest ch true), (4, s.nextTest ch false)]) :=
  (serve_accepts s h _ _ _ accepted).trans ((if_neg (ioTestConfig_params ch 0 v _ low (Nat.zero_le 1) range nofun)).trans rfl)

/-! ### Forced outputs -/

/-- An accepted IO_FORCE of an output enters the forced output, records it and answers. -/
theorem ioForceOp_forces (h : CmdHdr) (ch v d : Nat) (s : State) (accepted : Accepts s h 0x0B03 (some .engineer)) (lab : s.mod.lab = true)
    (operate : s.mod.mode = .operate) (output : s.isOutput ch = true) (flag : v ≤ 1) (some : 1 ≤ d) (few : d ≤ 60000) :
    (ioForceOp h ch v d s).fch = { s.fch with forced := Tab.put s.fch.forced ch ⟨decide (v = 1), d, d, h.source.toNat⟩ } := by
  have params : ¬(!s.isOutput ch || 1 < v || !within 1 60000 d) = true := by
    simp only [output, Bool.not_true, Bool.false_or, within, Bool.or_eq_true, Bool.not_eq_true', decide_eq_true_eq,
      Bool.and_eq_false_iff, decide_eq_false_iff_not]
    omega
  unfold ioForceOp
  rw [serve_accepts s h _ _ _ accepted]
  dsimp only
  rw [if_neg (by simp [lab, operate]), if_neg params]
  simp

/-- Settles O60: an accepted command runs its body, which none of the body's refusals meets. -/
theorem fieldAndDebugQueries : Obligations.FieldAndDebugQueries := by
  unfold Obligations.FieldAndDebugQueries
  refine ⟨fun h first n s accepted some fits => ?_, fun h ch v d k s accepted low range output here nonvital wf => ?_,
    fun h ch v s accepted low range => ?_, fun h ch v d s accepted lab operate output flag some few => ?_, fun h s accepted lab => ?_⟩
  · exact congrArg Host.Outcome.next ((serve_accepts s h _ _ _ accepted).trans (if_neg (ioStatus_params _ _ some fits)))
  · obtain ⟨ps, eq⟩ := ioTestConfigOp_sets h ch.toNat v.toNat s d accepted low range output here nonvital
    refine ⟨_, congrArg Host.Outcome.next eq, ?_, fun ne => ?_⟩
    · rw [testPeriod_say, testPeriod_setTestPeriod_same]
    · rw [testPeriod_say, testPeriod_setTestPeriod_ne s _ ne wf]
  · exact congrArg Host.Outcome.next (ioTestConfigOp_answers h ch.toNat v.toNat s accepted low range)
  · exact ⟨_, rfl, ioForceOp_forces h ch.toNat v.toNat d.toNat s accepted lab operate output flag some few⟩
  · exact congrArg Host.Outcome.next ((serve_accepts s h _ _ _ accepted).trans (if_neg (by simp [lab])))

end Sys2Proof.Machine
end

section
/-!
SUPPORT. Input channels (O44): samples, dynamic frames, pairs, group supplies and diagnostic events (R243, R249, R250, R252, R253, R496).
-/

namespace Sys2Proof.Machine

open Sys2Proof

/-! ### Samples and dynamic frames -/

/-- A running lane that holds one sampled channel alone: the channel's senses after a sample. -/
theorem comparatorSampleOp_chSense (levels : PerLane (BitVec 64)) (halfUs : Nat) (l : Lane) (ch : Nat) (d : ChDef) (s : State)
    (runs : s.mod.mode.lanesRun = true) (held : s.laneSt l ≠ .hold) (failed : s.laneSt l ≠ .failed)
    (only : s.image.chans.filter (fun p => p.2.mode = .input || p.2.mode = .count) = [(ch, d)]) :
    (comparatorSampleOp levels halfUs s).chSense l ch = (s.chSense l ch).sample d ((levels.get l).getLsbD ch) (inOwnWindow halfUs ch) := by
  have sampling : (s.mod.mode.lanesRun && decide (s.laneSt l ≠ .hold) && decide (s.laneSt l ≠ .failed)) = true := by
    rw [runs, decide_eq_true held, decide_eq_true failed]
    rfl
  unfold comparatorSampleOp State.chSense
  dsimp only
  rw [get_mapL, if_pos sampling, only]
  exact Tab.getD_put_eq _ _ _ _

theorem noteFault_chSense (s before : State) (ch bit : Nat) (p : ChSense → Bool) (l : Lane) (k : Nat) :
    (s.noteFault before ch bit p).chSense l k = s.chSense l k := chSense_of_fch (by simp) l k

/-- A running lane that holds one INPUT channel alone: the channel's senses after a dynamic frame. -/
theorem dynamicFrameOp_chSense (l : Lane) (high low : List Nat) (ch : Nat) (d : ChDef) (s : State) (runs : s.mod.mode.lanesRun = true)
    (held : s.laneSt l ≠ .hold) (failed : s.laneSt l ≠ .failed) (only : s.image.chans.filter (fun p => p.2.mode = .input) = [(ch, d)]) :
    (dynamicFrameOp l high low s).chSense l ch = (s.chSense l ch).dynFrame d.dynamic (high.contains ch) (low.contains ch) := by
  have framing : (s.mod.mode.lanesRun && decide (s.laneSt l ≠ .hold) && decide (s.laneSt l ≠ .failed)) = true := by
    rw [runs, decide_eq_true held, decide_eq_true failed]
    rfl
  unfold dynamicFrameOp
  rw [if_pos framing, only]
  unfold State.each
  rw [List.foldl_cons, List.foldl_nil]
  dsimp only
  rw [noteFault_chSense, noteFault_chSense, chSense_modSense_same]

/-! ### Pairs -/

/-- DISCREPANCY as set in a lane, at both channels of the pair. -/
theorem setDiscrepancy_discrepancy (s : State) (l : Lane) (pair : Nat) (v : Bool) (wf : Tab.wf (s.fch.lanes.get l).chans = true) :
    ((s.setDiscrepancy l pair v).chSense l (2 * pair)).discrepancy = v ∧
      ((s.setDiscrepancy l pair v).chSense l (2 * pair + 1)).discrepancy = v := by
  have wfEven : Tab.wf ((s.modSense l (2 * pair) fun c => { c with discrepancy := v }).fch.lanes.get l).chans = true := by
    rw [modSense_lane]
    exact Tab.put_wf _ _ _ wf
  unfold State.setDiscrepancy
  dsimp only
  rw [noteFault_chSense, noteFault_chSense, noteFault_chSense, noteFault_chSense, chSense_modSense_same,
    chSense_modSense_ne _ _ _ (Nat.ne_of_lt (Nat.lt_succ_self _)) wfEven, chSense_modSense_same]
  exact ⟨rfl, rfl⟩

theorem discrepancyExpiredOp_of_invalid (l : Lane) (pair : Nat) (s : State) (runs : s.mod.mode.lanesRun = true)
    (invalid : s.pairValid l pair = some false) : discrepancyExpiredOp l pair s = s.setDiscrepancy l pair true :=
  if_pos (by rw [runs, invalid]; rfl)

theorem discrepancyClearedOp_of_valid (l : Lane) (pair : Nat) (s : State) (runs : s.mod.mode.lanesRun = true)
    (valid : s.pairValid l pair = some true) : discrepancyClearedOp l pair s = s.setDiscrepancy l pair false :=
  if_pos (by rw [runs, valid]; rfl)

/-! ### Group supplies -/

/-- What a lane judges of a group's supply is the group's bit in the lane. -/
theorem setSupply_groupLost (s : State) (l : Lane) (g : Group) (vfld : Nat) (lost : Bool) :
    ((s.setSupply l g.val vfld lost).fch.lanes.get l).groupLost.getLsbD g.val = lost := by
  unfold State.setSupply
  dsimp only
  rw [recordLane_fch, get_modify_same]
  cases lost
  · exact clearBit_self _ g
  · exact setBit_self _ g

theorem vfldLostOp_of_low (l : Lane) (g vfld : Nat) (s : State) (runs : s.mod.mode.lanesRun = true) (failed : s.laneSt l ≠ .failed)
    (low : vfld < 1500) (back : (s.fch.lanes.get l).groupLost.getLsbD g = false) : vfldLostOp l g vfld s = s.setSupply l g vfld true :=
  if_pos (by rw [runs, decide_eq_true failed, decide_eq_true low, back]; rfl)

theorem vfldRestoredOp_of_high (l : Lane) (g vfld : Nat) (s : State) (runs : s.mod.mode.lanesRun = true) (failed : s.laneSt l ≠ .failed)
    (high : 1600 < vfld) (lost : (s.fch.lanes.get l).groupLost.getLsbD g = true) : vfldRestoredOp l g vfld s = s.setSupply l g vfld false :=
  if_pos (by rw [runs, decide_eq_true failed, decide_eq_true high, lost]; rfl)

/-! ### Diagnostic events -/

/-- A lane-local record is noted in the health byte of the lane's next MARK (R36, R388). -/
theorem recordLane_events (s : State) (l : Lane) (type : Nat) (payload : List Byte) :
    ((s.recordLane l type payload).lanes.get l).core.events = (s.lanes.get l).core.events ||| 1 := by
  unfold State.recordLane State.noteEvent
  rw [get_modCore_same]
  simp

/-- An event in the acknowledge phase of the one before merges into it. -/
theorem diagnosticEventOp_merges (l : Lane) (ch : Option Nat) (s : State) (runs : s.mod.mode.lanesRun = true) (failed : s.laneSt l ≠ .failed) :
    On (diagnosticEventOp l ch true s) fun t => (t.fch.lanes.get l).merged = true ∧
      (t.lane l).clk.merged = (s.lane l).clk.merged ||| 4 ∧ (t.lane l).core.events = (s.lane l).core.events ||| 1 := by
  unfold On diagnosticEventOp
  rw [if_neg (by rw [runs, decide_eq_false failed]; decide), Bool.true_or, if_pos rfl]
  dsimp only
  refine ⟨?_, ?_, ?_⟩
  · simp
  · simp
  · exact (recordLane_events _ _ _ _).trans (by simp)

/-- Settles O44: each command finds its conditions met and makes the change of its lane. -/
theorem inputChannelCommands : Obligations.InputChannelCommands := by
  unfold Obligations.InputChannelCommands
  refine ⟨fun lv at_ l ch d s runs held failed only => ⟨_, rfl, comparatorSampleOp_chSense lv at_ l ch d s runs held failed only⟩,
    fun l hi lo ch d s runs held failed only => ⟨_, rfl, dynamicFrameOp_chSense l _ _ ch d s runs held failed only⟩,
    fun l p s runs invalid wf => ?_, fun l p s runs valid wf => ?_, fun l g v s runs failed low back => ?_,
    fun l g v s runs failed high lost => ?_, fun l ch s runs failed => ⟨_, rfl, diagnosticEventOp_merges l _ s runs failed⟩⟩
  · exact ⟨_, congrArg Host.Outcome.next (discrepancyExpiredOp_of_invalid l p s runs invalid), setDiscrepancy_discrepancy s l p true wf⟩
  · exact ⟨_, congrArg Host.Outcome.next (discrepancyClearedOp_of_valid l p s runs valid), setDiscrepancy_discrepancy s l p false wf⟩
  · exact ⟨_, congrArg Host.Outcome.next (vfldLostOp_of_low l g v s runs failed low back), setSupply_groupLost s l g v true⟩
  · exact ⟨_, congrArg Host.Outcome.next (vfldRestoredOp_of_high l g v s runs failed high lost), setSupply_groupLost s l g v false⟩

end Sys2Proof.Machine
end

section
/-!
SUPPORT. Tests of the field switches and of the voters (O45): the test votes, the voter's revert, the lanes' verdicts and the FAILED latch
(R261, R262, R263, R264, R265).
-/

namespace Sys2Proof.Machine

open Sys2Proof

/-! ### Test votes -/

/-- The output stage of a channel at which a voter applies a test vote (R261, R262). -/
def ChOut.testing (o : ChOut) (high on : Bool) : ChOut :=
  { o.onVoter high fun v => { v with test := some on } with testRun := some (high, on), failVotes := LaneSet.none }

theorem testing_test (o : ChOut) (high on : Bool) : ((o.testing high on).voter high).test = some on := by cases high <;> rfl

/-- A due test for which every lane sends the same vote is applied by the voter. -/
theorem switchTestOp_applies {ch : Nat} {high on : Bool} {o : ChOut} {s : State} (cycles : s.mod.mode.cycles = true) (tick : s.acc.tick = 6)
    (out : Tab.get? s.fch.outs ch = some o) (due : s.testDue ch high = true) (barred : s.testBarred ch o = false)
    (live : (o.voter high).live = LaneSet.full) (votes : s.votingLanes = LaneSet.full) (sent : ∀ l, s.testVote l ch high o = some on) :
    switchTestOp ch high LaneSet.full s = s.modOut ch fun o => o.testing high on := by
  have all : LaneSet.inter (LaneSet.inter LaneSet.full LaneSet.full) LaneSet.full = LaneSet.full := rfl
  unfold switchTestOp
  rw [out]
  dsimp only
  rw [if_pos (by rw [cycles, tick, due, barred]; rfl), votes, live, all]
  simp only [sent]
  cases on
  · exact if_pos (by decide)
  · exact (if_neg (by decide)).trans (if_pos (by decide))

/-! ### The end of a test vote -/

theorem testAbortOp_reverts {l : Lane} {ch : Nat} {high : Bool} {o : ChOut} {s : State} (out : Tab.get? s.fch.outs ch = some o)
    (run : o.testRun = some (high, true)) (test : (o.voter high).test = some true) (live : (o.voter high).live.get l = true) :
    testAbortOp l ch high s = s.modOut ch fun o =>
      { o.onVoter high fun v => { v with test := none } with failVotes := o.failVotes.set l true } := by
  unfold testAbortOp
  rw [out]
  exact if_pos (by rw [run, test, live]; simp)

theorem testRevertOp_reverts {ch : Nat} {high : Bool} {o : ChOut} {s : State} (out : Tab.get? s.fch.outs ch = some o) :
    testRevertOp ch high s = s.modOut ch fun o => o.onVoter high fun v => { v with test := none } :=
  if_pos (by rw [out]; rfl)

/-! ### The lanes' verdicts -/

/-- What the odd verdicts of a test leave alone: whatever neither a run of odd verdicts, nor SENSE_FAULT, nor a record changes. -/
theorem keep_oddVerdict {β : Type} (g : State → β) (s : State) (ch : Nat) (verdict : PerLane Nat)
    (run : ∀ s l n, g (s.modSense l ch fun c => { c with oddRun := n }) = g s)
    (fault : ∀ s l, g (s.modSense l ch fun c => { c with senseFault := true }) = g s)
    (record : ∀ s l p, g (s.recordLane l 0x0304 p) = g s) : g (s.oddVerdict ch verdict) = g s := by
  unfold State.oddVerdict
  dsimp only
  split
  · rfl
  · refine keep_foldl g _ (fun s l => ?_) _ _
    rw [apply_ite g, record, fault, run, ite_self]

theorem oddVerdict_keeps (s : State) (ch : Nat) (verdict : PerLane Nat) : On (s.oddVerdict ch verdict) fun t => t.fch.outs = s.fch.outs ∧
    ∀ l, (t.fch.lanes.get l).lastPass = (s.fch.lanes.get l).lastPass ∧ (t.fch.lanes.get l).lastCh = (s.fch.lanes.get l).lastCh ∧
      (t.chSense l ch).swFail = (s.chSense l ch).swFail := by
  refine ⟨keep_oddVerdict (·.fch.outs) s ch verdict (fun _ _ _ => rfl) (fun _ _ => rfl) fun _ _ _ => by simp, fun l => ?_⟩
  have noted := keep_oddVerdict (fun t => ((t.fch.lanes.get l).lastPass, (t.fch.lanes.get l).lastCh)) s ch verdict
    (fun _ _ _ => modSense_lane_part (fun x => (x.lastPass, x.lastCh)) _ _ _ _ _ fun _ _ => rfl)
    (fun _ _ => modSense_lane_part (fun x => (x.lastPass, x.lastCh)) _ _ _ _ _ fun _ _ => rfl) fun _ _ _ => by simp
  have fail := keep_oddVerdict (fun t => (t.chSense l ch).swFail) s ch verdict
    (fun _ _ _ => chSense_modSense_part ChSense.swFail _ _ _ _ _ fun _ => rfl)
    (fun _ _ => chSense_modSense_part ChSense.swFail _ _ _ _ _ fun _ => rfl) fun t m p => by rw [chSense_of_fch (recordLane_fch t m _ p)]
  exact ⟨congrArg Prod.fst noted, congrArg Prod.snd noted, fail⟩

/-- The output stage of a channel with both voters latched FAILED (R264). -/
def ChOut.latchFailed (o : ChOut) : ChOut :=
  { o with hs := { o.hs with failed := true, test := none }, ls := { o.ls with failed := true, test := none } }

theorem failSignals_none (s : State) (ch switch : Nat) : s.failSignals ch LaneSet.none switch = s := by
  have nobody : LaneSet.count (LaneSet.inter LaneSet.none (s.liveAt ch)) = 0 := count_eq_zero _ fun l => by rw [get_inter, get_none, Bool.false_and]
  unfold State.failSignals
  dsimp only
  rw [nobody, if_neg (by simp)]

/-- Fail signals of three live lanes latch FAILED at both voters. -/
theorem failSignals_of_all {s : State} {ch : Nat} (live : s.liveAt ch = LaneSet.full) (switch : Nat) :
    (s.failSignals ch LaneSet.full switch).fch = (s.modOut ch ChOut.latchFailed).fch := by
  unfold State.failSignals
  dsimp only
  rw [live, if_pos (by decide)]
  split
  · rfl
  · exact recordFault_fch _ _ _ _ _

/-! ### Results -/

/-- The live lanes that fail a test, by what they read or by their ABORT (R262, R264). -/
def State.failingLanes (s : State) (o : ChOut) (ch : Nat) (high on : Bool) (readings : PerLane TestReading) : LaneSet :=
  LaneSet.inter (LaneSet.union (readings.mapL fun l r => !testPasses r high on (10 * Tab.getD (s.fch.lanes.get l).vfld (ch / 8) 0)) o.failVotes)
    o.hs.live

/-- What a lane notes of a test that some lanes failed (R262, R273). -/
def FchLane.noteTest (x : FchLane) (ch : Nat) (high on failed : Bool) : FchLane :=
  { x with lastCh := ch, lastLow := !high, lastOn := on, lastPass := !failed
           chans := Tab.upd x.chans ch .zero fun c => { c with swFail := failed } }

/-- The field channels once the lanes have noted a test's result. -/
def State.testNoted (s : State) (ch : Nat) (high on : Bool) (bad : LaneSet) : FchS :=
  { (s.modOut ch fun o => { o with testRun := none, failVotes := LaneSet.none }).fch with
    lanes := s.fch.lanes.mapL fun l x => x.noteTest ch high on (bad.get l) }

/-- The result of a test whose vote has reverted: the lanes note it, records apart, then judge each other's verdicts and send fail signals. -/
theorem testResultOp_notes {ch : Nat} {high on : Bool} {readings : PerLane TestReading} {o : ChOut} {s : State}
    (out : Tab.get? s.fch.outs ch = some o) (run : o.testRun = some (high, on)) (reverted : (o.voter high).test = none) :
    ∃ (u : State) (sw : Nat), u.fch = s.testNoted ch high on (s.failingLanes o ch high on readings) ∧ testResultOp ch high readings s =
      (u.oddVerdict ch ((s.failingLanes o ch high on readings).map b2n)).failSignals ch (s.failingLanes o ch high on readings) sw := by
  unfold testResultOp
  rw [out]
  dsimp only
  rw [run]
  dsimp only
  rw [if_pos (by rw [reverted]; simp)]
  refine ⟨_, _, ?_, rfl⟩
  split
  · exact recordFault_fch _ _ _ _ _
  · split
    · exact recordCleared_fch _ _ _
    · rfl

theorem testNoted_outs (s : State) (ch : Nat) (high on : Bool) (bad : LaneSet) : (s.testNoted ch high on bad).outs =
    (s.modOut ch fun o => { o with testRun := none, failVotes := LaneSet.none }).fch.outs := rfl

theorem testNoted_lane (s : State) (ch : Nat) (high on : Bool) (bad : LaneSet) (l : Lane) :
    (s.testNoted ch high on bad).lanes.get l = (s.fch.lanes.get l).noteTest ch high on (bad.get l) := get_mapL _ _ l

/-- After a result: the test no longer runs at the channel, and every lane has noted whether it failed. -/
theorem testResultOp_notes_lanes {ch : Nat} {high on : Bool} {readings : PerLane TestReading} {o : ChOut} {s : State}
    (out : Tab.get? s.fch.outs ch = some o) (run : o.testRun = some (high, on)) (reverted : (o.voter high).test = none) :
    ∃ (u : State) (sw : Nat), testResultOp ch high readings s = u.failSignals ch (s.failingLanes o ch high on readings) sw ∧
      Tab.get? u.fch.outs ch = some (ChOut.settle { o with testRun := none, failVotes := LaneSet.none } (s.holdCh ch)) ∧
      ∀ l, (u.fch.lanes.get l).lastPass = !(s.failingLanes o ch high on readings).get l ∧ (u.fch.lanes.get l).lastCh = ch ∧
        (u.chSense l ch).swFail = (s.failingLanes o ch high on readings).get l := by
  obtain ⟨u, sw, fch, eq⟩ := testResultOp_notes out run reverted
  obtain ⟨outs, lanes⟩ := oddVerdict_keeps u ch ((s.failingLanes o ch high on readings).map b2n)
  refine ⟨_, sw, eq, ?_, fun l => ?_⟩
  · rw [outs, fch, testNoted_outs]
    exact get_modOut out _
  · obtain ⟨pass, last, fail⟩ := lanes l
    rw [pass, last, fail, State.chSense, fch, testNoted_lane]
    exact ⟨rfl, rfl, congrArg ChSense.swFail (Tab.getD_put_eq _ _ _ _)⟩

/-- Readings that all pass, with no ABORT, leave no failing lane. -/
theorem failingLanes_of_pass {s : State} {o : ChOut} {ch : Nat} {high on : Bool} {readings : PerLane TestReading}
    (pass : ∀ l, testPasses (readings.get l) high on (10 * Tab.getD (s.fch.lanes.get l).vfld (ch / 8) 0) = true)
    (noAbort : o.failVotes = LaneSet.none) : s.failingLanes o ch high on readings = LaneSet.none := by
  refine perLane_ext fun l => ?_
  rw [State.failingLanes, get_inter, get_union, get_mapL, pass l, noAbort, get_none]
  rfl

/-- Readings that all fail leave every live lane failing. -/
theorem failingLanes_of_fail {s : State} {o : ChOut} {ch : Nat} {high on : Bool} {readings : PerLane TestReading}
    (fail : ∀ l, testPasses (readings.get l) high on (10 * Tab.getD (s.fch.lanes.get l).vfld (ch / 8) 0) = false)
    (live : o.hs.live = LaneSet.full) : s.failingLanes o ch high on readings = LaneSet.full := by
  refine perLane_ext fun l => ?_
  rw [State.failingLanes, get_inter, get_union, get_mapL, fail l, live, get_full]
  rfl

/-! ### Tests of the voters -/

/-- A test of a voter that passes. -/
theorem voterTestOp_passes {s : State} (cycles : s.mod.mode.cycles = true) (tick : s.acc.tick = 7) (votes : s.votingLanes = LaneSet.full) :
    On (voterTestOp true true s) fun t => t.fch.voterPass = true ∧ t.fch.voterIndex = s.mod.cycle.toNat % 128 ∧
      t.fch.voterLane = s.mod.cycle.toNat / 128 % 3 := by
  unfold On voterTestOp
  rw [if_pos (by rw [cycles, tick, votes]; decide)]
  exact ⟨rfl, rfl, rfl⟩

/-- A test of a voter that fails: the voting lanes set VOTER_FAIL and send fail signals. -/
theorem voterTestOp_fails {unchanged reported : Bool} {s : State} (cycles : s.mod.mode.cycles = true) (tick : s.acc.tick = 7)
    (votes : s.votingLanes = LaneSet.full) (fails : unchanged = false ∨ reported = false) :
    ∃ (u : State) (sw : Nat), voterTestOp unchanged reported s = u.failSignals (s.mod.cycle.toNat % 64) LaneSet.full sw ∧
      u.fch.outs = s.fch.outs ∧ u.fch.voterPass = false ∧ ∀ l, (u.chSense l (s.mod.cycle.toNat % 64)).voterFail = true := by
  have channel : s.mod.cycle.toNat % 128 % 64 = s.mod.cycle.toNat % 64 := Nat.mod_mod_of_dvd _ (by decide)
  have pass : (unchanged && reported) = false := Bool.and_eq_false_iff.2 fails
  unfold voterTestOp
  rw [if_pos (by rw [cycles, tick, votes]; decide)]
  dsimp only
  rw [channel, pass, if_neg Bool.false_ne_true, votes]
  refine ⟨_, _, rfl, ?_, ?_, fun l => ?_⟩
  · rw [recordFault_fch]
    split <;> rfl
  · rw [recordFault_fch]
    split <;> rfl
  · rw [chSense_of_fch (recordFault_fch _ _ _ _ _), chSense_mapSense]

/-! ### The obligation -/

/-- Where FAILED is latched at a channel, both its voters have failed and its switches are open; the lanes keep what they sense. -/
theorem failSignals_latches {u : State} {ch : Nat} {o : ChOut} (out : Tab.get? u.fch.outs ch = some o) (live : o.hs.live = LaneSet.full)
    (switch : Nat) : On (u.failSignals ch LaneSet.full switch) fun t => (Tab.getD t.fch.outs ch .zero).hs.failed = true ∧
      (Tab.getD t.fch.outs ch .zero).ls.failed = true ∧ (Tab.getD t.fch.outs ch .zero).hs.closed = false ∧
      t.fch.lanes = u.fch.lanes ∧ t.fch.voterPass = u.fch.voterPass := by
  unfold On
  beta_reduce
  rw [failSignals_of_all ((liveAt_of_get out).trans live), getD_modOut out]
  exact ⟨rfl, rfl, settle_hs_closed_of_failed _ _ rfl, rfl, rfl⟩

/-- Settles O45: the votes that all live lanes send are applied, and what the lanes find of a test is noted and, where they all find a fault,
latched. -/
theorem outputTestCommands : Obligations.OutputTestCommands := by
  unfold Obligations.OutputTestCommands
  refine ⟨fun ch hi o s cycles tick out due barred on closed live votes => ?_, fun ch hi o s cycles tick out due barred off other live votes => ?_,
    fun l ch hi o s out run test live => ?_, fun ch hi o s out => ?_, fun ch hi on rd o s out run test noAbort pass => ?_,
    fun ch hi on rd o s out run test live fail => ?_, fun s cycles tick votes => ⟨_, rfl, voterTestOp_passes cycles tick votes⟩,
    fun un rp s cycles tick votes fails live => ?_⟩
  · have sent : ∀ l, s.testVote l ch hi o = some false := fun l => if_pos (by rw [on, (closed l).1, (closed l).2]; rfl)
    refine ⟨_, congrArg Host.Outcome.next (switchTestOp_applies cycles tick out due barred live votes sent), ?_⟩
    dsimp only
    rw [getD_modOut out, settle_voter_test]
    exact ⟨testing_test o hi false, settle_voter_closed_of_off _ _ hi (testing_test o hi false), rfl⟩
  · have sent : ∀ l, s.testVote l ch hi o = some true := fun l => by
      rw [State.testVote, off]
      exact if_pos (other l)
    refine ⟨_, congrArg Host.Outcome.next (switchTestOp_applies cycles tick out due barred live votes sent), ?_⟩
    dsimp only
    rw [getD_modOut out, settle_voter_test]
    exact ⟨testing_test o hi true, rfl⟩
  · refine ⟨_, congrArg Host.Outcome.next (testAbortOp_reverts out run test live), ?_⟩
    dsimp only
    rw [getD_modOut out, settle_voter_test, voter_with_failVotes, voter_onVoter, settle_failVotes]
    exact ⟨rfl, get_set_same _ _ _⟩
  · refine ⟨_, congrArg Host.Outcome.next (testRevertOp_reverts out), ?_⟩
    dsimp only
    rw [getD_modOut out, settle_voter_test, voter_onVoter]
  · obtain ⟨u, sw, eq, here, lanes⟩ := testResultOp_notes_lanes (readings := rd) out run test
    rw [failingLanes_of_pass pass noAbort] at eq lanes
    rw [failSignals_none] at eq
    refine ⟨u, congrArg Host.Outcome.next eq, ?_, ?_, fun l => ?_⟩
    · rw [Tab.getD, here, Option.getD_some, settle_testRun]
    · rw [Tab.getD, here, Option.getD_some, settle_hs_failed]
    · simpa only [get_none, Bool.not_false] using lanes l
  · obtain ⟨u, sw, eq, here, lanes⟩ := testResultOp_notes_lanes (readings := rd) out run test
    rw [failingLanes_of_fail fail live] at eq lanes
    obtain ⟨hs, ls, open_, kept, -⟩ := failSignals_latches here live sw
    refine ⟨_, congrArg Host.Outcome.next eq, hs, ls, open_, fun l => ?_⟩
    obtain ⟨-, -, failing⟩ := lanes l
    rw [State.chSense, kept]
    exact failing.trans (get_full l)
  · obtain ⟨u, sw, eq, outs, pass, voter⟩ := voterTestOp_fails cycles tick votes fails
    obtain ⟨o, here⟩ := get_of_liveAt live
    have full : o.hs.live = LaneSet.full := (liveAt_of_get here).symm.trans live
    rw [← outs] at here
    obtain ⟨hs, ls, -, kept, same⟩ := failSignals_latches here full sw
    refine ⟨_, congrArg Host.Outcome.next eq, same.trans pass, hs, ls, fun l => ?_⟩
    rw [State.chSense, kept]
    exact voter l

end Sys2Proof.Machine
end

section
/-!
SUPPORT. Votes that end, protection against overload, the vital relay drive and the end of forced outputs (O46) (R257, R258, R259, R268, R350,
R530).
-/

namespace Sys2Proof.Machine

open Sys2Proof

/-! ### Votes that end -/

theorem silentTimeoutOp_drops {l : Lane} {ch : Nat} {o : ChOut} {s : State} (out : Tab.get? s.fch.outs ch = some o) :
    On (silentTimeoutOp l ch s) fun t => (Tab.getD t.fch.outs ch .zero).hs.live = o.hs.live.set l false ∧
      (Tab.getD t.fch.outs ch .zero).ls.live = o.ls.live.set l false := by
  unfold On silentTimeoutOp
  rw [if_pos (by rw [out]; rfl)]
  dsimp only
  rw [getD_modOut out]
  exact ⟨rfl, rfl⟩

/-- A channel's output stage without a lane's votes. -/
def ChOut.withdrawn (l : Lane) (o : ChOut) : ChOut :=
  { o with hs := { o.hs with live := o.hs.live.set l false, staged := o.hs.staged.set l false }
           ls := { o.ls with live := o.ls.live.set l false, staged := o.ls.staged.set l false } }

theorem withdraw_outs (s : State) (l : Lane) : (s.withdraw l).fch.outs = (s.mapOuts fun _ => ChOut.withdrawn l).fch.outs := rfl

/-- A withdrawn lane contributes no downlink bytes, and no voter counts its vote. -/
theorem withdraw_votes (s : State) (l : Lane) : On (s.withdraw l) fun t => t.net.contrib = s.net.contrib.set l false ∧
    ∀ p ∈ t.fch.outs, p.2.hs.live.get l = false ∧ p.2.ls.live.get l = false := by
  refine ⟨rfl, fun p mem => ?_⟩
  rw [withdraw_outs] at mem
  obtain ⟨o, stage⟩ := mem_mapOuts mem
  rw [stage]
  exact ⟨get_set_same _ _ _, get_set_same _ _ _⟩

/-! ### Openings of a channel -/

/-- An opened channel, its opening entered (R259). -/
def ChOut.overloaded (o : ChOut) (opens : List Nat) : ChOut :=
  { o with overload := true, opened := true, opens := opens, latched := o.latched || 3 ≤ opens.length }

/-- An output that is not open yet opens; its third opening within 60 s latches it. -/
theorem overloadChannel_opens {s : State} {ch : Nat} {o : ChOut} (out : Tab.get? s.fch.outs ch = some o) (output : s.isOutput ch = true)
    (shut : o.opened = false) : Tab.getD (s.overloadChannel ch).fch.outs ch .zero =
      (o.overloaded (openings s.rcd.opTime o.opens)).settle (s.holdCh ch) := by
  unfold State.overloadChannel
  rw [out]
  dsimp only
  rw [if_neg (by rw [shut, output]; decide), recordFault_fch, getD_modOut out]
  rfl

/-- A channel opened by OVERLOAD or overtemperature. -/
theorem overloadChannel_state {s : State} {ch : Nat} {o : ChOut} (out : Tab.get? s.fch.outs ch = some o) (output : s.isOutput ch = true)
    (shut : o.opened = false) : On (s.overloadChannel ch) fun t => (Tab.getD t.fch.outs ch .zero).opened = true ∧
      (Tab.getD t.fch.outs ch .zero).overload = true ∧ (Tab.getD t.fch.outs ch .zero).hs.closed = false ∧
      (Tab.getD t.fch.outs ch .zero).ls.closed = false ∧
      (Tab.getD t.fch.outs ch .zero).latched = (o.latched || decide (3 ≤ (openings s.rcd.opTime o.opens).length)) := by
  unfold On
  beta_reduce
  rw [overloadChannel_opens out output shut]
  obtain ⟨hs, ls⟩ := settle_closed_of_open (o.overloaded (openings s.rcd.opTime o.opens)) (s.holdCh ch) (.inl rfl)
  exact ⟨rfl, rfl, hs, ls, rfl⟩

/-! ### Openings of groups -/

/-- An output once the opening of a group begins or ends (R259). -/
def ChOut.setGroup (g : Nat) (opening : Bool) (ch : Nat) (o : ChOut) : ChOut := if ch / 8 = g then { o with grpOpen := opening } else o

/-- Every output of the group has the group's opening, and is open while it lasts. -/
theorem mapOuts_setGroup {s : State} {g : Nat} {opening : Bool} {p : Nat × ChOut} (mem : p ∈ (s.mapOuts (ChOut.setGroup g opening)).fch.outs)
    (group : p.1 / 8 = g) : p.2.grpOpen = opening ∧ (opening = true → p.2.hs.closed = false ∧ p.2.ls.closed = false) := by
  obtain ⟨o, stage⟩ := mem_mapOuts mem
  have set : (ChOut.setGroup g opening p.1 o).grpOpen = opening := congrArg ChOut.grpOpen (if_pos group)
  rw [stage, settle_grpOpen]
  exact ⟨set, fun opens => settle_closed_of_open _ _ (.inr (set.trans opens))⟩

theorem openGroup_fch (s : State) (g ma cause : Nat) : On (s.openGroup g ma cause) fun t =>
    t.fch.groupOver = s.fch.groupOver ||| (1 : Byte) <<< g ∧ t.fch.moduleOver = s.fch.moduleOver ∧ t.fch.moduleMa = s.fch.moduleMa ∧
      t.fch.outs = (s.mapOuts (ChOut.setGroup g true)).fch.outs := by
  unfold On State.openGroup
  dsimp only
  rw [recordIf_fch, record_fch]
  exact ⟨rfl, rfl, rfl, rfl⟩

/-- The outputs of an opened group are open. -/
theorem openGroup_outs (s : State) (g ma cause : Nat) : ∀ p ∈ (s.openGroup g ma cause).fch.outs, p.1 / 8 = g →
    p.2.grpOpen = true ∧ p.2.hs.closed = false ∧ p.2.ls.closed = false := by
  obtain ⟨-, -, -, outs⟩ := openGroup_fch s g ma cause
  rw [outs]
  intro p mem group
  obtain ⟨opened, closed⟩ := mapOuts_setGroup mem group
  exact ⟨opened, closed rfl⟩

/-- The openings that shed current keep the module's overload, and every group that was open. -/
theorem shed_keeps_over (s : State) (ma : List Nat) (n : Nat) : On (s.shed ma n) fun t => t.fch.moduleOver = s.fch.moduleOver ∧
    t.fch.moduleMa = s.fch.moduleMa ∧ ∀ g, s.fch.groupOver.getLsbD g = true → t.fch.groupOver.getLsbD g = true := by
  induction n generalizing s ma with
  | zero => exact ⟨rfl, rfl, fun _ was => was⟩
  | succ n ih =>
    unfold State.shed
    dsimp only
    split
    · exact ⟨rfl, rfl, fun _ was => was⟩
    · split
      · obtain ⟨module, current, still⟩ := ih (s.openGroup n (ma.getD n 0) 3) (ma.set n 0)
        obtain ⟨groups, sameModule, sameCurrent, -⟩ := openGroup_fch s n (ma.getD n 0) 3
        refine ⟨module.trans sameModule, current.trans sameCurrent, fun g was => still g ?_⟩
        rw [groups, BitVec.getLsbD_or, was, Bool.true_or]
      · exact ih s ma

/-- Of a module over its limit the highest group opens first, where it carries current. -/
theorem shed_highest (s : State) (ma : List Nat) (total : 16000 < ma.foldl (· + ·) 0) (carries : 0 < ma.getD 7 0) :
    (s.shed ma 8).fch.groupOver.getLsbD 7 = true := by
  unfold State.shed
  dsimp only
  rw [if_neg (Nat.not_le.2 total), if_pos carries]
  obtain ⟨-, -, still⟩ := shed_keeps_over (s.openGroup 7 (ma.getD 7 0) 3) (ma.set 7 0) 7
  obtain ⟨groups, -⟩ := openGroup_fch s 7 (ma.getD 7 0) 3
  refine still 7 ?_
  rw [groups]
  exact setBit_self _ (7 : Group)

theorem moduleOverloadOp_sheds {ma : List Nat} {s : State} (runs : s.mod.mode.lanesRun = true) (total : 17600 < (ma.take 8).foldl (· + ·) 0)
    (carries : 0 < (ma.take 8).getD 7 0) : On (moduleOverloadOp ma s) fun t => t.fch.moduleOver = true ∧
      t.fch.moduleMa = (ma.take 8).foldl (· + ·) 0 ∧ t.fch.groupOver.getLsbD 7 = true := by
  unfold On moduleOverloadOp
  dsimp only
  rw [if_pos (by rw [runs, decide_eq_true total]; rfl)]
  obtain ⟨module, current, -⟩ := shed_keeps_over
    ({ s with fch := { s.fch with moduleOver := true, moduleMa := (ma.take 8).foldl (· + ·) 0 } } : State) (ma.take 8) 8
  exact ⟨module, current, shed_highest _ _ (by omega) carries⟩

/-! ### Openings that end -/

theorem reenableOp_channel {ch : Chan} {o : ChOut} {s : State} (out : Tab.get? s.fch.outs ch.val = some o) (opened : o.opened = true)
    (free : o.latched = false) (on : o.energised = true) : On (reenableOp (.channel ch) s) fun t =>
      (Tab.getD t.fch.outs ch.val .zero).opened = false ∧ (Tab.getD t.fch.outs ch.val .zero).overload = false := by
  unfold On reenableOp
  dsimp only
  rw [out]
  dsimp only
  rw [if_pos (by rw [opened, free, on]; rfl), recordCleared_fch, getD_modOut out]
  exact ⟨rfl, rfl⟩

theorem reenableOp_group {g : Group} {s : State} (overload : s.fch.groupOver.getLsbD g.val = true) (free : s.fch.groupLatched.getLsbD g.val = false)
    (on : ∃ p ∈ s.fch.outs, p.1 / 8 = g.val ∧ p.2.energised = true) : On (reenableOp (.group g) s) fun t =>
      t.fch.groupOver.getLsbD g.val = false ∧ ∀ p ∈ t.fch.outs, p.1 / 8 = g.val → p.2.grpOpen = false := by
  have votes : (s.fch.outs.any fun p => p.1 / 8 = g.val && p.2.energised) = true := by simpa using on
  unfold On reenableOp
  dsimp only
  rw [if_pos (by rw [overload, free, votes]; rfl)]
  refine ⟨clearBit_self _ g, fun p mem group => ?_⟩
  obtain ⟨shut, -⟩ := mapOuts_setGroup (s := s) (opening := false) mem group
  exact shut

/-! ### The vital relay drive -/

/-- A token flips VRD where two lanes' tokens meet with it that did not without it. -/
def State.flipsVrd (s : State) (x : Lane × Bool × Nat) : Bool := tokensMeet (s.fch.vrdTokens ++ [x]) && !tokensMeet s.fch.vrdTokens

/-- A token of a parity new to its lane joins the other lanes' tokens of this parity. -/
theorem vrdTokenOp_joins {l : Lane} {par : Bool} {off : Nat} {s : State} (sends : s.sendsTokens l = true)
    (fresh : s.fch.vrdParity.get l ≠ some par) (same : (s.fch.vrdTokens.any fun t => t.2.1 ≠ par) = false) :
    On (vrdTokenOp l par off s) fun t => t.fch.vrdTokens = s.fch.vrdTokens ++ [(l, par, off)] ∧
      t.fch.vrdLevel = (s.fch.vrdLevel != s.flipsVrd (l, par, off)) ∧ t.fch.vrdRunning = (s.fch.vrdRunning || s.flipsVrd (l, par, off)) ∧
      t.fch.vrdCarried = if tokensMeet (s.fch.vrdTokens ++ [(l, par, off)]) then
        (s.fch.vrdTokens ++ [(l, par, off)]).foldl (fun z t => z.set t.1 true) LaneSet.none else s.fch.vrdCarried := by
  have taken : (s.sendsTokens l && decide (s.fch.vrdParity.get l ≠ some par)) = true := by rw [sends, decide_eq_true fresh]; rfl
  unfold On vrdTokenOp
  rw [if_pos taken]
  dsimp only
  rw [same, if_neg Bool.false_ne_true, recordIf_fch]
  exact ⟨rfl, rfl, rfl, rfl⟩

theorem tokensMeet_singleton (x : Lane × Bool × Nat) : tokensMeet [x] = false := by simp [tokensMeet]

/-- Tokens of two lanes within 20 µs of each other meet. -/
theorem tokensMeet_pair {l k : Lane} (a b : Bool) {x y : Nat} (ne : k ≠ l) (late : y ≤ x + 20) (early : x ≤ y + 20) :
    tokensMeet [(k, a, x), (l, b, y)] = true := by simp [tokensMeet, ne, late, early]

/-- A token that is alone of its parity flips nothing. -/
theorem vrdTokenOp_alone {l : Lane} {par : Bool} {off : Nat} {s : State} (sends : s.sendsTokens l = true)
    (fresh : s.fch.vrdParity.get l ≠ some par) (first : s.fch.vrdTokens = []) : On (vrdTokenOp l par off s) fun t =>
      t.fch.vrdLevel = s.fch.vrdLevel ∧ t.fch.vrdRunning = s.fch.vrdRunning ∧ t.fch.vrdTokens = [(l, par, off)] := by
  have stays : s.flipsVrd (l, par, off) = false := by
    rw [State.flipsVrd, first, List.nil_append, tokensMeet_singleton, Bool.false_and]
  obtain ⟨tokens, level, running, -⟩ := vrdTokenOp_joins (off := off) sends fresh (by rw [first]; rfl)
  exact ⟨by rw [level, stays, Bool.bne_false], by rw [running, stays, Bool.or_false], by rw [tokens, first, List.nil_append]⟩

/-- The second of two lanes' tokens of one parity within 20 µs flips VRD. -/
theorem vrdTokenOp_meets {l k : Lane} {par : Bool} {off o1 : Nat} {s : State} (sends : s.sendsTokens l = true)
    (fresh : s.fch.vrdParity.get l ≠ some par) (other : s.fch.vrdTokens = [(k, par, o1)]) (ne : k ≠ l) (late : off ≤ o1 + 20)
    (early : o1 ≤ off + 20) : On (vrdTokenOp l par off s) fun t => t.fch.vrdLevel = !s.fch.vrdLevel ∧ t.fch.vrdRunning = true ∧
      t.fch.vrdCarried = (LaneSet.none.set k true).set l true := by
  have meet : tokensMeet (s.fch.vrdTokens ++ [(l, par, off)]) = true := by
    rw [other]
    exact tokensMeet_pair par par ne late early
  have flips : s.flipsVrd (l, par, off) = true := by rw [State.flipsVrd, meet, other, tokensMeet_singleton]; rfl
  obtain ⟨-, level, running, carried⟩ := vrdTokenOp_joins (off := off) sends fresh (by rw [other]; simp)
  exact ⟨by rw [level, flips, Bool.bne_true], by rw [running, flips, Bool.or_true], by rw [carried, if_pos meet, other]; rfl⟩

theorem vrdTimeoutOp_stops (s : State) : On (vrdTimeoutOp s) fun t =>
    t.fch.vrdLevel = false ∧ t.fch.vrdRunning = false ∧ t.fch.vrdTokens = [] := by
  unfold On vrdTimeoutOp
  dsimp only
  rw [recordIf_fch]
  exact ⟨rfl, rfl, rfl⟩

/-! ### Forced outputs -/

theorem ioForceEndOp_releases {ch : Nat} {f : ForceSt} {s : State} (forced : Tab.get? s.fch.forced ch = some f) (used : f.left = 0) :
    (ioForceEndOp ch s).fch.forced = Tab.erase s.fch.forced ch := by
  unfold ioForceEndOp State.endForce
  rw [forced, if_pos (by rw [Option.any_some, used]; rfl)]
  dsimp only
  rw [record_fch]

/-- Settles O46: each event finds its conditions met; what opens is open under any votes, and what ends is as its operation leaves it. -/
theorem protectionCommands : Obligations.ProtectionCommands := by
  unfold Obligations.ProtectionCommands
  refine ⟨fun l ch o s out => ⟨_, rfl, silentTimeoutOp_drops out⟩, fun l s runs => ?_, fun l ch s => rfl,
    fun ch o s runs out output shut => ?_, fun ch o s runs out output shut => ?_, fun g ma s runs high free => ?_,
    fun ma s runs total carries => ⟨_, rfl, moduleOverloadOp_sheds runs total carries⟩,
    fun ch o s out opened free on => ⟨_, rfl, reenableOp_channel out opened free on⟩,
    fun g s overload free on => ⟨_, rfl, reenableOp_group overload free on⟩,
    fun l par off s sends fresh first => ⟨_, rfl, vrdTokenOp_alone sends fresh first⟩,
    fun l k par off o1 s sends fresh other ne late early => ⟨_, rfl, vrdTokenOp_meets sends fresh other ne late early⟩,
    fun s => ⟨_, rfl, vrdTimeoutOp_stops s⟩, fun ch f s forced used => ⟨_, rfl, ioForceEndOp_releases forced used⟩⟩
  · exact ⟨_, congrArg Host.Outcome.next (if_pos runs), withdraw_votes s l⟩
  · exact ⟨_, congrArg Host.Outcome.next (if_pos runs), overloadChannel_state out output shut⟩
  · obtain ⟨opened, overload, hs, ls, -⟩ := overloadChannel_state out output shut
    exact ⟨_, congrArg Host.Outcome.next (if_pos runs), opened, overload, hs, ls⟩
  · have opens : groupOverloadOp g ma s = s.openGroup g ma 2 := if_pos (by rw [runs, decide_eq_true high, free]; rfl)
    obtain ⟨groups, -⟩ := openGroup_fch s g ma 2
    refine ⟨_, congrArg Host.Outcome.next opens, ?_, openGroup_outs s g ma 2⟩
    rw [groups]
    exact setBit_self _ g

end Sys2Proof.Machine
end

section
/-!
SUPPORT. A refresh that has lapsed and at which a voter reports a lane as MINORITY for the third time (R53, R257, R258).
-/

namespace Sys2Proof.Machine

open Sys2Proof

/-- Where one of three voting lanes leaves, no voter counts its vote any more (R257). -/
theorem leaveVote_live_of_all (s : State) (l : Lane) (cause sub : Nat) (cycles : s.mod.mode.cycles = true) (all : AllVoting s) :
    ∀ p ∈ (s.leaveVote l cause sub).fch.outs, p.2.hs.live.get l = false ∧ p.2.ls.live.get l = false := by
  obtain ⟨-, gone⟩ := withdraw_votes (s.dropSender l) l
  have left : (s.leave l cause sub).fch = ((s.dropSender l).withdraw l).fch := by
    unfold State.leave
    rw [laneSt_eq, all l]
    simp [cycles]
  rw [leaveVote_of_three s l cause sub cycles all]
  simpa [left] using gone

/-- A voter at which all three votes are live and lane A's is the only OFF; at the refresh before, lane A's vote differed as well. -/
def oddVoter : VoterSt :=
  { VoterSt.zero with vote := ⟨false, true, true⟩, staged := ⟨false, true, true⟩, live := LaneSet.full, closed := true, oddRun := ⟨1, 0, 0⟩ }

/-- A vital output with a timeout of 20 ms, tested every 600 ms. -/
def vitalOutput : ChDef :=
  { mode := .output, vital := true, hold := false, type3 := false, dynamic := false, restHigh := false, pair := .none, debounce := 0,
    discrepancy := 0, silent := 20, testPeriod := 6, pulse := 0 }

/-- OPERATE with three voting lanes in a cycle whose apply strobes failed. Channel 6 is an output with two such voters, and lane
A has been reported at it in cycles 3 and 4. -/
def lapsedMinorityState : State :=
  { State.reset with
    mod := { ModS.reset with mode := .operate, cycle := 5 }
    acc := { AccS.reset with lapsed := true }
    lanes := PerLane.pure { LaneS.reset with core := { CoreS.reset with st := .voting } }
    img := { ImgS.reset with running := some { Image.empty with chans := [(6, vitalOutput)] } }
    fch := { FchS.reset with outs := [(6, { ChOut.zero with hs := oddVoter, ls := oddVoter })], reports := [(3, .a, 6), (4, .a, 6)] } }

/-- The same state once its voters have compared their live votes and lane A's report of this cycle is entered. -/
def thirdReportState : State :=
  let t := (lapsedMinorityState.showGroups.mapOuts fun _ o => { o with hs := o.hs.watch, ls := o.ls.watch }).markMinority 6 .a
  { t with fch := { t.fch with reports := [(3, .a, 6), (4, .a, 6), (5, .a, 6)] } }

/-- Lane A's live vote differs for the second refresh in a row, and cycle 5 is the third with a report within 100: the lapsed refresh makes
no vote live, and lane A leaves the vote with ACCORD_MINORITY, sub-cause IO. -/
theorem voteRefreshOp_leaves : voteRefreshOp [] [] lapsedMinorityState = thirdReportState.leaveVote .a 5 8 := rfl

/-- Refutes O37: its clause on a lapsed refresh says that every voter's live votes are as they were, whatever the voters have counted. A
lapsed refresh of the model makes no vote live (R53) but still compares the live ones (R258), and the third report of lane A within 100
cycles ends that lane's live votes. -/
theorem not_outputAndSupervisorCommands : ¬ Obligations.OutputAndSupervisorCommands := by
  unfold Obligations.OutputAndSupervisorCommands
  intro h
  obtain ⟨-, -, -, -, -, -, -, -, -, lapses, -⟩ := h
  obtain ⟨t, runs, stays⟩ := lapses 0 lapsedMinorityState rfl rfl
  have leaves : t = thirdReportState.leaveVote .a 5 8 := (Host.Outcome.next.inj runs).symm.trans voteRefreshOp_leaves
  have before : (6, LaneSet.full, LaneSet.full) ∈ lapsedMinorityState.fch.outs.map fun p => (p.1, p.2.hs.live, p.2.ls.live) :=
    List.mem_cons_self
  rw [← stays, leaves] at before
  obtain ⟨p, mem, votes⟩ := List.mem_map.1 before
  have live : p.2.hs.live = LaneSet.full := congrArg (fun v => v.2.1) votes
  obtain ⟨gone, -⟩ := leaveVote_live_of_all thirdReportState .a 5 8 rfl (fun l => by cases l <;> rfl) p mem
  rw [live] at gone
  exact Bool.noConfusion gone

end Sys2Proof.Machine
end

section
/-!
SUPPORT. What records, answers and packets leave of the host ports (R302, R310, R388, R392).
-/

namespace Sys2Proof.Machine

open Sys2Proof

/-! ### Records -/

/-- The host ports without the subscriptions, to which a record that closes is due (R392). -/
def HostS.besideSubs (h : HostS) : HostS := { h with subs := [] }

theorem closeRecord_besideSubs (s : State) (index : Nat) : (s.closeRecord index).host.besideSubs = s.host.besideSubs := by
  unfold State.closeRecord
  split <;> rfl

theorem appendRecord_besideSubs (s : State) (r : Record) : (s.appendRecord r).host.besideSubs = s.host.besideSubs :=
  keep_foldl (fun t => t.host.besideSubs) _ closeRecord_besideSubs _ _

theorem writeRecord_besideSubs (s : State) (type : Nat) (payload : List Byte) (lane : Option Lane) (hk : Bool) :
    (s.writeRecord type payload lane hk).host.besideSubs = s.host.besideSubs := by
  unfold State.writeRecord
  extract_lets rcd fresh
  split
  · rfl
  split
  · split
    · rfl
    · split <;> rfl
  · split
    · extract_lets store opened s1
      split
      · exact closeRecord_besideSubs s1 _
      · rfl
    · exact appendRecord_besideSubs s fresh

theorem recordHk_besideSubs (s : State) (type : Nat) (payload : List Byte) :
    (s.recordHk type payload).host.besideSubs = s.host.besideSubs := writeRecord_besideSubs s type payload none true

theorem takeSnapshot_besideSubs (s : State) (l : Lane) (entry : Nat) (d : SnapDef) (trigger : Nat) :
    (s.takeSnapshot l entry d trigger).host.besideSubs = s.host.besideSubs := by
  unfold State.takeSnapshot
  extract_lets g recent payload
  split
  · rfl
  · exact writeRecord_besideSubs s _ _ _ _

theorem record_besideSubs (s : State) (type : Nat) (payload : List Byte) :
    (s.record type payload).host.besideSubs = s.host.besideSubs := by
  unfold State.record State.snapshots
  split
  · exact writeRecord_besideSubs s _ _ _ _
  · refine (keep_foldl (fun t => t.host.besideSubs) _ (fun t l => ?_) _ _).trans (writeRecord_besideSubs s _ _ _ _)
    exact keep_foldl (fun t => t.host.besideSubs) _ (fun t p => takeSnapshot_besideSubs t l _ _ _) _ _

theorem recordArrival_besideSubs (s : State) (a : Arrival) (type : Nat) (payload : List Byte) :
    (s.recordArrival a type payload).host.besideSubs = s.host.besideSubs := by
  unfold State.recordArrival State.hostRecord
  (repeat' split)
  · exact recordHk_besideSubs s _ _
  · exact recordHk_besideSubs s _ _
  · exact record_besideSubs s _ _

/-! ### Answers -/

/-- The host ports without the subscriptions and without what an answer changes: the reply selector, the packets sent, the places that wait
for a reply and the replies kept for copies. -/
def HostS.besideAnswers (h : HostS) : HostS :=
  { h.besideSubs with replies := [], sent := [], replyDropped := 0, reserved := [], consumed := [] }

theorem sendPacket_besideAnswers (s : State) (p : Packet) : (s.sendPacket p).host.besideAnswers = s.host.besideAnswers := by
  unfold State.sendPacket
  split <;> rfl

theorem answer_besideAnswers (s : State) (a : Arrival) (own : Bool) (status : Nat) (params : List Byte) :
    (s.answer a own status params).host.besideAnswers = s.host.besideAnswers := by
  unfold State.answer
  extract_lets src p
  (repeat' split)
  · rfl
  · exact sendPacket_besideAnswers s p
  · rfl

end Sys2Proof.Machine
end

section
/-!
SUPPORT. Frames, ARP, echo and links, and the ordered checks of an arriving packet (R293, R295, R301, R304, R306, R311, R321, R537).
-/

namespace Sys2Proof.Machine

open Sys2Proof

/-! ### Echo requests and links -/

/-- An echo request is answered as one more than those answered in its second. -/
theorem icmpEchoOp_answers (p : HostPort) (n stamp k : Nat) (s : State) (speaks : s.portsSilent p = false) (short : n ≤ 1024)
    (answered : (if Tab.getD s.host.icmp p.code 0 / 16 = stamp / 1000000 then Tab.getD s.host.icmp p.code 0 % 16 else 0) = k)
    (few : k < 10) : On (icmpEchoOp p n stamp s) fun t =>
      t.host.icmpSent = s.host.icmpSent ++ [(p, n)] ∧ Tab.getD t.host.icmp p.code 0 = 16 * (stamp / 1000000) + k + 1 := by
  unfold On icmpEchoOp
  extract_lets sec v k'
  have same : k' = k := answered
  have taken : (s.portsSilent p || decide (1024 < n) || decide (10 ≤ k')) = false := by
    rw [speaks, decide_eq_false (by omega), decide_eq_false (by omega)]; rfl
  rw [taken, same]
  exact ⟨rfl, Tab.getD_put_eq ..⟩

theorem setLink_up (h : HostS) (p : HostPort) : (h.setLink p true).linkA = (h.linkA || decide (p = .a)) ∧
    (h.setLink p true).linkB = (h.linkB || decide (p = .b)) := by
  cases p <;> simp [HostS.setLink]

theorem setLink_down (h : HostS) (p : HostPort) : (h.setLink p false).linkA = (h.linkA && decide (p ≠ .a)) ∧
    (h.setLink p false).linkB = (h.linkB && decide (p ≠ .b)) := by
  cases p <;> simp [HostS.setLink]

theorem setLink_arpSent (h : HostS) (p : HostPort) (up : Bool) : (h.setLink p up).arpSent = h.arpSent := by cases p <;> rfl

theorem setLink_recoveryAddr (h : HostS) (p : HostPort) (up : Bool) : (h.setLink p up).recoveryAddr = h.recoveryAddr := by cases p <;> rfl

/-- A port's link shows a state, recorded or not (RESET records nothing), and nothing has been announced. -/
def LinkShown (s : State) (p : HostPort) (up : Bool) (t : State) : Prop :=
  t.host.besideSubs = (s.host.setLink p up).besideSubs ∧ t.mod = s.mod ∧ t.img = s.img

namespace LinkShown

variable {s t : State} {p : HostPort} {up : Bool}

theorem set (s : State) (p : HostPort) (up : Bool) : LinkShown s p up { s with host := s.host.setLink p up } := ⟨rfl, rfl, rfl⟩

theorem record (shown : LinkShown s p up t) : LinkShown s p up (t.recordLink p up) := by
  obtain ⟨host, mod, img⟩ := shown
  exact ⟨(recordHk_besideSubs t _ _).trans host, by simpa [State.recordLink] using mod, by simpa [State.recordLink] using img⟩

theorem silent (shown : LinkShown s p up t) : t.portsSilent p = s.portsSilent p := by
  obtain ⟨-, mod, -⟩ := shown
  unfold State.portsSilent
  rw [mod]

theorem arpSent (shown : LinkShown s p up t) : t.host.arpSent = s.host.arpSent := by
  obtain ⟨host, -, -⟩ := shown
  exact (congrArg HostS.arpSent host).trans (setLink_arpSent s.host p up)

theorem portAddress (shown : LinkShown s p up t) : t.portAddress p = s.portAddress p := by
  obtain ⟨host, mod, img⟩ := shown
  have addressing : t.host.recoveryAddr = s.host.recoveryAddr := (congrArg HostS.recoveryAddr host).trans (setLink_recoveryAddr s.host p up)
  unfold State.portAddress State.image
  rw [addressing, mod, img]

theorem shows_up (shown : LinkShown s p true t) : t.host.linkA = (s.host.linkA || decide (p = .a)) ∧
    t.host.linkB = (s.host.linkB || decide (p = .b)) := by
  obtain ⟨host, -, -⟩ := shown
  obtain ⟨linkA, linkB⟩ := setLink_up s.host p
  exact ⟨(congrArg HostS.linkA host).trans linkA, (congrArg HostS.linkB host).trans linkB⟩

theorem shows_down (shown : LinkShown s p false t) : t.host.linkA = (s.host.linkA && decide (p ≠ .a)) ∧
    t.host.linkB = (s.host.linkB && decide (p ≠ .b)) := by
  obtain ⟨host, -, -⟩ := shown
  obtain ⟨linkA, linkB⟩ := setLink_down s.host p
  exact ⟨(congrArg HostS.linkA host).trans linkA, (congrArg HostS.linkB host).trans linkB⟩

end LinkShown

theorem mode_of_speaking {s : State} {p : HostPort} (speaks : s.portsSilent p = false) : s.mod.mode ≠ .off ∧ s.mod.mode ≠ .reset := by
  simp only [State.portsSilent, Bool.or_eq_false_iff, decide_eq_false_iff_not] at speaks
  exact speaks.1

/-- A link that comes up at a port that is not silent is announced. -/
theorem linkUpOp_announces (p : HostPort) (s : State) (speaks : s.portsSilent p = false) : On (linkUpOp p s) fun t =>
    t.host.linkA = (s.host.linkA || decide (p = .a)) ∧ t.host.linkB = (s.host.linkB || decide (p = .b)) ∧
      t.host.arpSent = s.host.arpSent ++ [(p, s.portAddress p)] := by
  obtain ⟨on, noReset⟩ := mode_of_speaking speaks
  have shown := (LinkShown.set s p true).record
  obtain ⟨linkA, linkB⟩ := shown.shows_up
  unfold On linkUpOp
  rw [if_neg on]
  extract_lets s1 s2
  rw [if_neg noReset, shown.silent, speaks, shown.arpSent, shown.portAddress]
  exact ⟨linkA, linkB, rfl⟩

theorem linkUpOp_silent (p : HostPort) (s : State) (on : s.mod.mode ≠ .off) (silent : s.portsSilent p = true) :
    LinkShown s p true (linkUpOp p s) := by
  have shown := (LinkShown.set s p true).record
  unfold linkUpOp
  rw [if_neg on]
  extract_lets s1 s2
  split
  · exact LinkShown.set s p true
  · rw [shown.silent, silent]
    exact shown

theorem linkDownOp_shows (p : HostPort) (s : State) (on : s.mod.mode ≠ .off) : LinkShown s p false (linkDownOp p s) := by
  unfold linkDownOp
  rw [if_neg on]
  extract_lets s1
  split
  · exact LinkShown.set s p false
  · exact (LinkShown.set s p false).record

/-! ### Steps 1 to 3 of R306 -/

/-- The module once a source's packet has been counted in its second and the packets without copies have been forgotten. -/
def State.counted (s : State) (src stamp : Nat) : State :=
  { s with host := HostS.forget { s.host with flood := Tab.put s.host.flood src (Tab.getD s.host.flood src 0 + 1) } stamp }

/-- A packet of a source within its limit goes on to step 4. -/
theorem hostPacketOp_counted {p : HostPort} {peer : HostPeer} {stamp src : Nat} {lanes : LaneSet} {bytes : List Byte} {s : State}
    (speaks : s.portsSilent p = false) (known : s.sourceAt p peer.addr.toNat = some src) (second : s.host.floodSecond = stamp / 1000000)
    (few : Tab.getD s.host.flood src 0 < 1000) :
    hostPacketOp p peer stamp lanes bytes s = (s.counted src stamp).step4 ⟨p, peer, stamp, src, lanes, bytes⟩ := by
  have unflooded : s.closeFlood (stamp / 1000000) = s := by rw [State.closeFlood, if_pos second.symm]
  unfold hostPacketOp
  dsimp only
  rw [speaks, known]
  dsimp only
  rw [unflooded, if_neg Bool.false_ne_true, if_pos (by omega)]
  rfl

theorem hostPacketOp_stranger {p : HostPort} {peer : HostPeer} {stamp : Nat} {lanes : LaneSet} {bytes : List Byte} {s : State}
    (speaks : s.portsSilent p = false) (unknown : s.sourceAt p peer.addr.toNat = none) : hostPacketOp p peer stamp lanes bytes s =
      ({ s with host := s.host.drop p } : State).recordHk 0x0504 (fields [(1, p.code), (3, 0), (4, peer.addr.toNat)]) := by
  unfold hostPacketOp
  dsimp only
  rw [speaks, unknown]
  rfl

/-! ### Steps 4 to 12 of R306 -/

/-- Steps 4 to 7 find nothing wrong with a packet that carries no MAC. -/
def Arrival.Formed (a : Arrival) (identity : Nat) : Prop :=
  (byteAt a.bytes 0 = 2 ∧ a.bytes.length = 24 + a.plen ∧ a.mac = false ∧ a.plen ≤ 1024) ∧ a.code = a.safety identity ∧ a.queueByte < 16 ∧
    a.flags < 4

/-- Steps 9 and 10 find the packet's opcode, which needs no role, on its queue, and somebody who serves it. -/
def State.Serves (s : State) (a : Arrival) : Prop :=
  opcodeRole a.opcode = some none ∧ (s.queueDepth a.queue ≠ 0 || (a.queue = 4 && a.opcode = 0x0301)) = true ∧
    (opcodeQueue a.opcode = a.queue || (a.opcode = 0x0F01 && a.queue = 3)) = true ∧ s.enteringDormant = false ∧
    (s.service a.queue a.opcode = .lanes ∨ s.service a.queue a.opcode = .housekeeper)

/-- What `Admissible` says of a packet, by the steps of R306. -/
theorem steps_of_admissible {s : State} {a : Arrival} (admissible : Admissible s a) :
    a.Formed s.mod.sid ∧ newer a.seq (s.lastOf a) = true ∧ s.Serves a ∧
      (s.host.recoveryAddr || (s.image.sources.find? fun d => d.id = a.source).any fun d => bitOf d.queues a.queue) = true ∧
      plenOk a.opcode a.params = true := by
  simp only [Admissible, State.admits, Bool.and_eq_true, Bool.not_eq_true', decide_eq_true_eq] at admissible
  obtain ⟨⟨⟨⟨⟨⟨⟨⟨⟨⟨⟨⟨⟨⟨version, length⟩, short⟩, code⟩, queueByte⟩, flags⟩, noMac⟩, fresh⟩, role⟩, enabled⟩, queue⟩, awake⟩, served⟩,
    allowed⟩, plen⟩ := admissible
  exact ⟨⟨⟨version, length, noMac, short⟩, code, queueByte, flags⟩, fresh, ⟨role, enabled, queue, awake, by simpa using served⟩, allowed, plen⟩

/-- The module once it has noted where a valid packet came from. -/
def State.heard (s : State) (a : Arrival) : State :=
  { s with host := { s.host with peers := Tab.put s.host.peers (2 * a.source + a.port.code) a.peer } }

section
variable {s : State} {a : Arrival}

/-- Steps 4 and 5 let a packet of version 2 without a MAC pass that is as long as it says. -/
theorem step4_length (version : byteAt a.bytes 0 = 2) (length : a.bytes.length = 24 + a.plen) (noMac : a.mac = false)
    (short : a.plen ≤ 1024) : ¬ byteAt a.bytes 0 ≠ 2 ∧
      (a.bytes.length ≠ 24 + a.plen + (if a.mac then 16 else 0) || decide (1024 < a.plen)) = false := by
  simp [version, length, noMac, short]

theorem step4_formed (formed : a.Formed s.mod.sid) : s.step4 a = (s.heard a).step8 a := by
  obtain ⟨⟨version, length, noMac, short⟩, code, queueByte, flags⟩ := formed
  obtain ⟨version, length⟩ := step4_length version length noMac short
  have reserved : (decide (16 ≤ a.queueByte) || decide (4 ≤ a.flags)) = false := by simp [queueByte, flags]
  unfold State.step4
  rw [if_neg version, length, if_neg Bool.false_ne_true, if_neg (not_not_intro code), reserved]
  rfl

theorem step9_serves (serves : s.Serves a) (lanes : s.mod.mode.hkAnswers = false) : s.step9 a = s.step11 a none := by
  obtain ⟨role, enabled, queue, awake, served⟩ := serves
  have notDormant : s.mod.mode ≠ .dormant := by
    intro dormant
    rw [dormant] at lanes
    exact absurd lanes (by decide)
  have noRefusal : s.dormantRefuses a = false := by simp [State.dormantRefuses, notDormant]
  unfold State.step9
  rw [role, enabled, queue, awake]
  obtain service | service := served <;> rw [service, noRefusal] <;> rfl

/-- An admissible packet in a mode that the lanes serve goes from step 8 to step 13. -/
theorem step8_enters (admissible : Admissible s a) (lanes : s.mod.mode.hkAnswers = false) : s.step8 a = s.enterRing a := by
  obtain ⟨⟨⟨-, -, noMac, -⟩, -⟩, fresh, serves, allowed, plen⟩ := steps_of_admissible admissible
  have step11 : s.step11 a none = s.step12 a := by
    rw [State.step11, allowed, noMac]
    rfl
  have step12 : s.step12 a = s.enterRing a := by
    rw [State.step12, plen, lanes]
    rfl
  rw [State.step8, if_pos fresh, step9_serves serves lanes, step11, step12]

/-- What steps 3 and 7 note of a packet, no other step reads: an admissible packet reaches step 13. -/
theorem step4_enters {stamp : Nat} (admissible : Admissible s a) (lanes : s.mod.mode.hkAnswers = false) :
    (s.counted a.source stamp).step4 a = ((s.counted a.source stamp).heard a).enterRing a := by
  obtain ⟨formed, -⟩ := steps_of_admissible admissible
  have noted : Admissible ((s.counted a.source stamp).heard a) a := admissible
  exact (step4_formed (s := s.counted a.source stamp) formed).trans (step8_enters noted lanes)

/-- A packet whose safety code is wrong is counted on its port, recorded, and not answered. -/
theorem step4_badCode (version : byteAt a.bytes 0 = 2) (length : a.bytes.length = 24 + a.plen) (noMac : a.mac = false)
    (short : a.plen ≤ 1024) (code : a.code ≠ a.safety s.mod.sid) : (s.step4 a).host.besideSubs =
      { s.host.besideSubs with
        safetyA := if a.port = .a then satAdd 0xFFFF s.host.safetyA 1 else s.host.safetyA
        safetyB := if a.port = .b then satAdd 0xFFFF s.host.safetyB 1 else s.host.safetyB } := by
  obtain ⟨version, length⟩ := step4_length version length noMac short
  unfold State.step4
  rw [if_neg version, length, if_neg Bool.false_ne_true, if_pos code]
  dsimp only
  rw [recordArrival_besideSubs]
  cases a.port <;> rfl

/-! ### Steps 13 and 14 of R306 -/

theorem enterRing_room (room : s.ringFill (ringKey a.queue a.opcode) a.stamp < s.ringDepth (ringKey a.queue a.opcode)) :
    On (s.enterRing a) fun t => t.ixl = s.ixl ∧ t.host.lastSeq = Tab.put s.host.lastSeq a.key a.seq ∧
      ∀ l, t.host.rings.get l = if a.lanes.get l then Tab.upd (s.host.rings.get l) (ringKey a.queue a.opcode) [] (· ++ [a.cmd])
        else s.host.rings.get l := by
  unfold On State.enterRing
  extract_lets k full s1 put
  rw [if_neg (Nat.not_le.2 room)]
  exact ⟨rfl, rfl, fun l => get_mapL s.host.rings put l⟩

theorem enterRing_full (full : s.ringDepth (ringKey a.queue a.opcode) ≤ s.ringFill (ringKey a.queue a.opcode) a.stamp) :
    On (s.enterRing a) fun t => t.host.rings = s.host.rings ∧ t.host.lastSeq = s.host.lastSeq ∧
      t.host.fullCnt = Tab.upd s.host.fullCnt a.queue 0 (· + 1) := by
  have kept := answer_besideAnswers { s with host := { s.host with fullCnt := Tab.upd s.host.fullCnt a.queue 0 (· + 1) } } a false
    stQueueFull []
  unfold On State.enterRing
  dsimp only
  rw [if_pos full]
  exact ⟨(congrArg HostS.rings kept :), (congrArg HostS.lastSeq kept :), (congrArg HostS.fullCnt kept :)⟩

end

/-! ### The obligation -/

/-- Settles O53: each packet's way through R306 up to the step that decides it, and what that step leaves. -/
theorem hostPortCommands : Obligations.HostPortCommands := by
  unfold Obligations.HostPortCommands
  refine ⟨fun p f s speaks bad => ?_, fun p f s speaks good => ?_, fun p a s speaks own => ?_, fun p n stamp s speaks short same few => ?_,
    fun p n stamp s speaks short other => ?_, fun p s speaks => ⟨_, rfl, linkUpOp_announces p s speaks⟩, fun p s on silent => ?_,
    fun p s on => ?_, fun p peer stamp lanes bytes src s speaks known second few admissible serves room => ?_,
    fun p peer stamp lanes bytes src s speaks known second few admissible serves full => ?_,
    fun p peer stamp lanes bytes s speaks unknown => congrArg Host.Outcome.next (hostPacketOp_stranger speaks unknown),
    fun p peer stamp lanes bytes src s speaks known second few version length noMac short wrong => ?_⟩
  · exact congrArg Host.Outcome.next (if_neg (by rw [speaks, bad]; decide))
  · exact congrArg Host.Outcome.next (if_pos (by rw [good, Bool.or_true]))
  · exact congrArg Host.Outcome.next (if_neg (by simp [speaks, own]))
  · obtain ⟨sent, count⟩ := icmpEchoOp_answers p n stamp _ s speaks short (if_pos same) few
    refine ⟨_, rfl, sent, count.trans ?_⟩
    rw [← same, Nat.div_add_mod]
  · exact ⟨_, rfl, icmpEchoOp_answers p n stamp 0 s speaks short (if_neg other) (by decide)⟩
  · have shown := linkUpOp_silent p s on silent
    obtain ⟨linkA, linkB⟩ := shown.shows_up
    exact ⟨_, rfl, linkA, linkB, shown.arpSent⟩
  · have shown := linkDownOp_shows p s on
    obtain ⟨linkA, linkB⟩ := shown.shows_down
    exact ⟨_, rfl, linkA, linkB, shown.arpSent⟩
  · have enters := (hostPacketOp_counted speaks known second few).trans (step4_enters admissible serves)
    exact ⟨_, congrArg Host.Outcome.next enters, enterRing_room room⟩
  · have enters := (hostPacketOp_counted speaks known second few).trans (step4_enters admissible serves)
    exact ⟨_, congrArg Host.Outcome.next enters, enterRing_full full⟩
  · have kept := step4_badCode (s := s.counted src stamp) version length noMac short wrong
    refine ⟨_, congrArg Host.Outcome.next (hostPacketOp_counted speaks known second few), (congrArg HostS.rings kept :),
      (congrArg HostS.lastSeq kept :), (congrArg HostS.sent kept :), (congrArg HostS.replies kept :), ?_⟩
    have counters := congrArg (fun h : HostS => h.safetyA + h.safetyB) kept
    refine Eq.trans counters ?_
    cases p <;> rfl

end Sys2Proof.Machine
end

section
/-!
SUPPORT. The non-vital services, the reply selector, and the time limits of host traffic (R304, R309, R310, R312, R314, R317, R538).
-/

namespace Sys2Proof.Machine

open Sys2Proof

/-! ### The services -/

theorem intakeDue_bounded (s : State) (time : Nat) : (s.intakeDue time).length ≤ 16 ∧ ∀ c ∈ s.intakeDue time, c.stamp < time := by
  unfold State.intakeDue
  exact ⟨List.length_take_le 16 _, fun c mem => of_decide_eq_true (List.mem_filter.1 (List.mem_of_mem_take mem)).2⟩

theorem offCycle_iff (m : Mode) : m.offCycle = true ↔ m = .loaded ∨ m = .safe ∨ m = .recovery ∨ m = .replay := by cases m <;> decide

/-! ### The reply selector -/

/-- An entry that leaves the selector changes nothing else. -/
theorem takeReply_taken {s u : State} {pass : LaneReplies → Bool} {r : LaneReplies} (taken : s.takeReply pass = some (r, u)) :
    ∃ rest, u = { s with host := { s.host with replies := rest } } := by
  unfold State.takeReply at taken
  split at taken
  · cases taken
    exact ⟨_, rfl⟩
  · cases taken

/-- Where no transition is due none is carried out. -/
theorem carryMode_notDue (s : State) (p : Packet) (notDue : s.mod.modeDue = none) : s.carryMode p = s := by
  rw [State.carryMode, notDue]

/-- What is sent in place of a reply is counted, and the selector's other entries stay. -/
theorem substitute_counts (s : State) (p : Packet) (wrote : Nat) (notDue : s.mod.modeDue = none) : On (s.substitute p wrote) fun t =>
    t.host.disagree = satAdd 0xFFFF s.host.disagree 1 ∧ t.host.replies = s.host.replies := by
  unfold On State.substitute
  extract_lets counted s1
  have recorded := recordHk_besideSubs s1 0x0507 (fields [(1, p.queue), (1, wrote), (2, p.opcode), (4, p.seq.toNat)])
  rw [carryMode_notDue _ _ (by simpa [s1] using notDue)]
  exact ⟨(congrArg HostS.disagree (sendPacket_besideAnswers _ p)).trans (congrArg HostS.disagree recorded),
    (sendPacket_replies _ p).trans (congrArg HostS.replies recorded :)⟩

/-- The same where the entry has just been taken from the selector. -/
theorem substitute_taken {s u : State} {pass : LaneReplies → Bool} {r : LaneReplies} (taken : s.takeReply pass = some (r, u))
    (notDue : s.mod.modeDue = none) (p : Packet) (wrote : Nat) : On (u.substitute p wrote) fun t =>
      t.host.disagree = satAdd 0xFFFF s.host.disagree 1 ∧ t.host.replies = u.host.replies := by
  obtain ⟨rest, rfl⟩ := takeReply_taken taken
  exact substitute_counts _ p wrote notDue

theorem replyAgreedOp_sends {cmd : CmdRef} {s u : State} {r : LaneReplies} {p : Packet} (notDue : s.mod.modeDue = none)
    (taken : (s.takeReply fun r => decide (r.ref = cmd) && r.agreed.isSome) = some (r, u)) (agreed : r.agreed = some p)
    (unsent : s.answered cmd = false) : replyAgreedOp cmd s = u.sendPacket p := by
  have sentDue : (u.sendPacket p).mod.modeDue = none := by
    obtain ⟨rest, rfl⟩ := takeReply_taken taken
    simpa using notDue
  unfold replyAgreedOp
  rw [taken]
  dsimp only
  rw [agreed]
  dsimp only
  rw [unsent, Bool.and_false, if_neg Bool.false_ne_true, carryMode_notDue _ _ sentDue]

theorem replyDisagreeOp_substitutes {cmd : CmdRef} {s u : State} {r : LaneReplies}
    (taken : (s.takeReply fun r => decide (r.ref = cmd) && r.agreed.isNone && decide (LaneSet.count (r.lanes.map Option.isSome) ≠ 0)) =
      some (r, u)) : replyDisagreeOp cmd s = u.substitute r.proto (LaneSet.bits (r.lanes.map Option.isSome)) := by
  unfold replyDisagreeOp
  dsimp only
  rw [taken]

theorem replyMissingOp_held {cmd : CmdRef} {s u : State} {r : LaneReplies}
    (taken : (s.takeReply fun r => decide (r.ref = cmd) && decide (r.lanes = ⟨none, none, none⟩)) = some (r, u)) :
    replyMissingOp cmd s = u.substitute r.proto 0 := by
  rw [replyMissingOp, taken]

theorem replyMissingOp_unheld {cmd : CmdRef} {s : State} {c : Consumed}
    (unheld : (s.takeReply fun r => decide (r.ref = cmd) && decide (r.lanes = ⟨none, none, none⟩)) = none)
    (due : s.unanswered cmd = some c) : replyMissingOp cmd s =
      s.substitute (replyTo ⟨cmd.source, cmd.queue, cmd.seq, c.hostTime, c.time, c.mac⟩ c.opcode stDisagree []) 0 := by
  rw [replyMissingOp, unheld, due]

/-! ### Time limits -/

theorem q5TimeoutOp_refuses {cmd : CmdRef} {c : RingCmd} {s : State} (heard : s.mod.hkLost = false)
    (waits : (s.host.q5.find? fun c => c.hdr.ref = cmd) = some c) :
    q5TimeoutOp cmd s = (s.dropCmd c).replyHk c.hdr c.opcode stNotAuth [] := by
  have there : (s.dropCmd c).mod.hkLost = false := heard
  rw [q5TimeoutOp, waits]
  dsimp only
  rw [there, if_neg Bool.false_ne_true]

/-- The end of a session takes it from the lanes and the housekeeper. -/
theorem endSession_sessions (s : State) (x : Session) (reason : Nat) : On (s.endSession x reason) fun t =>
    t.host.sessions = s.host.sessions.filter (· ≠ x) ∧ t.host.hkSession = s.host.hkSession.filter (· ≠ x) := by
  have recorded := record_besideSubs s 0x0902 (fields [(1, x.role.code), (1, reason), (2, x.source)])
  exact ⟨congrArg (List.filter (· ≠ x)) (congrArg HostS.sessions recorded :),
    congrArg (Option.filter (· ≠ x)) (congrArg HostS.hkSession recorded :)⟩

theorem endSession_kept (s : State) (x : Session) (reason : Nat) : On (s.endSession x reason) fun t =>
    t.mod = s.mod ∧ t.ixl.resolved = s.ixl.resolved := by
  simp [On, State.endSession]

theorem each_endSession_kept (reason : Nat) (xs : List Session) (s : State) : On (s.each xs fun s x => s.endSession x reason) fun t =>
    t.mod = s.mod ∧ t.ixl.resolved = s.ixl.resolved :=
  ⟨keep_foldl State.mod _ (fun s x => (endSession_kept s x reason).1) xs s,
    keep_foldl (fun t => t.ixl.resolved) _ (fun s x => (endSession_kept s x reason).2) xs s⟩

/-- The ends of several sessions leave those that are not among them. -/
theorem each_endSession_sessions (reason : Nat) (xs : List Session) (s : State) :
    On (s.each xs fun s x => s.endSession x reason) fun t =>
      t.host.sessions = s.host.sessions.filter (· ∉ xs) ∧ t.host.hkSession = s.host.hkSession.filter (· ∉ xs) := by
  induction xs generalizing s with
  | nil => exact ⟨by simp [State.each], by cases held : s.host.hkSession <;> simp [State.each, held, Option.filter_some]⟩
  | cons x xs ih =>
    obtain ⟨sessions, hk⟩ := ih (s.endSession x reason)
    obtain ⟨first, firstHk⟩ := endSession_sessions s x reason
    have both (y : Session) : (decide (y ≠ x) && decide (y ∉ xs)) = decide (y ∉ x :: xs) := by simp
    rw [first, List.filter_filter] at sessions
    rw [firstHk, Option.filter_filter] at hk
    exact ⟨sessions.trans (List.filter_congr fun y _ => (Bool.and_comm _ _).trans (both y)),
      hk.trans (congrArg (Option.filter · _) (funext both))⟩

/-- The sessions of a role end, wherever they are held, and no others. -/
theorem sessionExpiredOp_ends (r : Role) (s : State) : On (sessionExpiredOp r s) fun t =>
    t.host.sessions = (s.host.sessions.filter fun x => x.role ≠ r) ∧ t.host.hkSession = s.host.hkSession.filter (fun x => x.role ≠ r) ∧
      t.mod = s.mod ∧ t.ixl.resolved = s.ixl.resolved := by
  obtain ⟨sessions, hk⟩ := each_endSession_sessions 1 ((s.host.sessions ++ s.host.hkSession.toList).filter fun x => x.role = r) s
  have ends {x : Session} (held : x ∈ s.host.sessions ++ s.host.hkSession.toList) :
      x ∉ (s.host.sessions ++ s.host.hkSession.toList).filter (fun x => x.role = r) ↔ x.role ≠ r := by
    rw [List.mem_filter, decide_eq_true_eq, not_and]
    exact ⟨fun out => out held, fun other _ => other⟩
  refine ⟨sessions.trans (List.filter_congr fun x mem => decide_eq_decide.2 (ends (List.mem_append_left _ mem))), hk.trans ?_,
    each_endSession_kept 1 _ s⟩
  cases held : s.host.hkSession with
  | none => rfl
  | some x =>
    rw [held] at ends
    rw [Option.filter_some, Option.filter_some]
    simp only [ends (List.mem_append_right _ (List.mem_singleton.2 rfl))]

/-! ### Persistence -/

/-- The floods of a second that is over are recorded. -/
theorem closeFlood_host (s : State) (second : Nat) :
    { (s.closeFlood second).host.besideSubs with flood := [], floodSecond := 0 } = { s.host.besideSubs with flood := [], floodSecond := 0 } := by
  unfold State.closeFlood
  split
  · rfl
  · exact congrArg (fun h : HostS => { h with flood := [], floodSecond := 0 })
      (keep_foldl (fun t => t.host.besideSubs) _ (fun t p => recordHk_besideSubs t _ _) _ s)

theorem sequencePersistOp_persists (s : State) (on : s.mod.mode ≠ .off) : On (sequencePersistOp s) fun t =>
    t.host.persistSeq = s.host.lastSeq ∧ t.host.persistUnsol = s.host.unsolCtr ∧ t.host.persistChalLanes = s.host.chalLanes ∧
      t.host.persistChalHk = s.host.chalHk := by
  have kept := closeFlood_host s (s.netNow / 1000000)
  unfold On sequencePersistOp
  rw [if_neg on]
  exact ⟨(congrArg HostS.lastSeq kept :), (congrArg HostS.unsolCtr kept :), (congrArg HostS.chalLanes kept :),
    (congrArg HostS.chalHk kept :)⟩

/-! ### The obligation -/

/-- Settles O54: each service runs over what its rings hold, each reply leaves the selector by its rule, and each time limit ends what it
limits. -/
theorem hostServiceCommands : Obligations.HostServiceCommands := by
  unfold Obligations.HostServiceCommands
  refine ⟨fun s cycles tick due => ?_, fun time s => intakeDue_bounded s time, fun s mode => ?_,
    fun cmd r u p s notDue taken agreed unsent => congrArg Host.Outcome.next (replyAgreedOp_sends notDue taken agreed unsent),
    fun cmd r u s notDue taken => ⟨_, congrArg Host.Outcome.next (replyDisagreeOp_substitutes taken), substitute_taken taken notDue _ _⟩,
    fun cmd r u s notDue taken => ⟨_, congrArg Host.Outcome.next (replyMissingOp_held taken), substitute_taken taken notDue _ _⟩,
    fun cmd c s notDue unheld due => ⟨_, congrArg Host.Outcome.next (replyMissingOp_unheld unheld due), substitute_counts s _ 0 notDue⟩,
    fun cmd c s heard waits => ⟨_, congrArg Host.Outcome.next (q5TimeoutOp_refuses heard waits), ?_, ?_, rfl⟩,
    fun src r s => rfl, fun r s => ⟨_, rfl, sessionExpiredOp_ends r s⟩, fun s on => ⟨_, rfl, sequencePersistOp_persists s on⟩⟩
  · exact congrArg Host.Outcome.next (if_pos (by rw [cycles, tick, due]; rfl))
  · exact congrArg Host.Outcome.next (if_pos ((offCycle_iff _).2 mode))
  · exact congrArg HostS.q5 (sendPacket_besideAnswers (s.dropCmd c) _)
  · exact congrArg HostS.rings (sendPacket_besideAnswers (s.dropCmd c) _)

end Sys2Proof.Machine
end

section
/-!
SUPPORT. Answers beside records and completions: the lanes that answer, and what the reply selector holds (R302, R310, R388).
-/

namespace Sys2Proof.Machine

open Sys2Proof

/-- Who writes replies depends on the mode and on the state of each lane. -/
theorem writers_same {s u : State} (mod : u.mod = s.mod) (core : SameIn (·.core) u s) : u.writers = s.writers := by
  have a : u.lanes.a.core = s.lanes.a.core := core .a
  have b : u.lanes.b.core = s.lanes.b.core := core .b
  have c : u.lanes.c.core = s.lanes.c.core := core .c
  simp only [State.writers, State.votingLanes, State.replyingLanes, State.lanesWith, PerLane.map, mod, a, b, c]

/-- A command is answered where what came before its answer left the module, the lanes' states and the replies as they were. -/
theorem answered_of_kept {s u : State} {h : CmdHdr} {op st : Nat} {ps : List Byte} {need : Option Role} (accepted : Accepts s h op need)
    (queue : opcodeQueue op ≠ 5) (opcode : housekeeperOpcode op = false) (mod : u.mod = s.mod) (core : SameIn (·.core) u s)
    (replies : u.host.replies = s.host.replies) : Answered s (u.say h op st ps) h op st ps := by
  unfold Answered
  rw [say_accepted s u h op st ps need accepted queue opcode mod]
  unfold State.reply State.holdReply
  rw [writers_same mod core, replies]

theorem record_replies (s : State) (type : Nat) (payload : List Byte) : (s.record type payload).host.replies = s.host.replies :=
  (congrArg HostS.replies (record_besideSubs s type payload) :)

theorem cancelSheets_replies (s : State) (reason : Nat) : (s.cancelSheets reason).host.replies = s.host.replies := by
  unfold State.cancelSheets
  split
  · rfl
  · dsimp only
    split
    · rw [complete_replies, record_replies]
    · split
      · rw [complete_replies, record_replies]
      · rw [record_replies]

end Sys2Proof.Machine
end

section
/-!
SUPPORT. Transfer, verification and schedule of an image, and its query (R339, R340, R421).
-/

namespace Sys2Proof.Machine

open Sys2Proof

/-- Outside a verification an accepted command of Q6 has the effect of its body. -/
theorem serveImage_accepts {s : State} {h : CmdHdr} {op : Nat} {role : Role} {body : State → State} (accepted : Accepts s h op (some role))
    (idle : s.img.pending.st ≠ .verifying) : s.serveImage h op role body = body s :=
  (serve_accepts s h op (some role) _ accepted).trans (if_neg idle)

/-- PENDING is not reserved: no schedule waits and no sheet change is under way. -/
theorem pending_free {s : State} (unscheduled : s.img.pending.st ≠ .scheduled) (sheets : s.sheetsHeld = false) :
    ¬(s.img.pending.st = .scheduled || s.sheetsHeld) = true := by simp [unscheduled, sheets]

/-- A Q6 command that changes PENDING alone is answered. -/
theorem modPending_answered {s : State} {h : CmdHdr} {op st : Nat} {ps : List Byte} {need : Option Role} (accepted : Accepts s h op need)
    (queue : opcodeQueue op ≠ 5) (opcode : housekeeperOpcode op = false) (f : Slot → Slot) : On ((s.modPending f).say h op st ps) fun t =>
      t.img.pending = f s.img.pending ∧ Answered s t h op st ps :=
  ⟨by simp [State.modPending], answered_of_kept accepted queue opcode rfl (fun _ => rfl) rfl⟩

/-! ### Transfer -/

theorem imgBeginOp_empties {h : CmdHdr} {type length blocks version : Nat} {s : State} (accepted : Accepts s h 0x0501 (some .engineer))
    (known : 1 ≤ type ∧ type ≤ 3) (fits : length ≤ 67108864) (whole : blocks = ceilDiv length 4096) (idle : s.img.pending.st ≠ .verifying)
    (unscheduled : s.img.pending.st ≠ .scheduled) (sheets : s.sheetsHeld = false) : imgBeginOp h type length blocks version s =
      (s.modPending fun _ => { Slot.empty with st := .loading, type := type, version := version, blocks := blocks }).say h 0x0501 stOk [] := by
  unfold imgBeginOp
  rw [serveImage_accepts accepted idle, if_neg (by simp [within, known, fits, whole]), if_neg (pending_free unscheduled sheets)]

theorem imgBlockOp_stores {h : CmdHdr} {block part : Nat} {data : List Byte} {s : State} (accepted : Accepts s h 0x0502 (some .engineer))
    (low : part ≤ 7) (inside : block < s.img.pending.blocks) (begun : s.img.pending.st ≠ .empty) (idle : s.img.pending.st ≠ .verifying)
    (unscheduled : s.img.pending.st ≠ .scheduled) (sheets : s.sheetsHeld = false) : imgBlockOp h block part data s =
      (s.modPending fun _ => (s.img.pending.store block part data).1).say h 0x0502
        (if (s.img.pending.store block part data).2 then stBadParam else stOk)
        (leBytes 4 (s.img.pending.store block part data).1.done.length) := by
  unfold imgBlockOp
  rw [serveImage_accepts accepted idle]
  dsimp only
  rw [if_neg (by simp [low, inside, begun]), if_neg (pending_free unscheduled sheets)]

/-! ### Verification -/

theorem imgVerifyOp_begins {h : CmdHdr} {s : State} (accepted : Accepts s h 0x0503 (some .engineer)) (begun : s.img.pending.st ≠ .empty)
    (idle : s.img.pending.st ≠ .verifying) (unscheduled : s.img.pending.st ≠ .scheduled) (sheets : s.sheetsHeld = false) :
    imgVerifyOp h s = (s.modPending fun p => { p with st := .verifying, owner := some (h.completion 0x0503 0) }).say h 0x0503 stAccepted [] := by
  unfold imgVerifyOp
  rw [serveImage_accepts accepted idle, if_neg begun, if_neg (pending_free unscheduled sheets)]

/-- A verification that ends has its outcome in PENDING; the record and the completion that follow leave the images alone. -/
theorem imgVerifyCompleteOp_ends {s : State} (verifying : s.img.pending.st = .verifying) : On (imgVerifyCompleteOp s) fun t =>
    t.img.pending.owner = none ∧
      t.img.pending.st = (if (s.checkSlot s.img.pending s.img.active.image).status = 0 then .verified else .loaded) ∧
      t.img.active = s.img.active := by
  unfold On imgVerifyCompleteOp
  extract_lets pending r ok f hd live q s1
  rw [if_neg (not_not_intro verifying)]
  have img : s1.img = { s.img with pending := q } := (State_record_frame _ _ _).2.2.2.1
  have outcome : q.owner = none ∧ q.st = if r.status = 0 then .verified else .loaded := by
    by_cases good : r.status = 0 <;> simp [q, ok, good]
  split <;> simpa [img] using outcome

/-! ### Schedule, abort and query -/

/-- PENDING with its schedule, recorded. -/
def State.schedulePending (s : State) (h : CmdHdr) (time flags : Nat) : State :=
  (s.modPending fun p => { p with
    st := .scheduled, at_ := time, postpone := flags = 1, owner := some (h.completion 0x0504 0) }).record 0x0602
      (fields [(1, s.img.pending.type), (1, flags), (2, 0), (8, time)] ++ padTo 8 s.img.pending.digest)

theorem schedulePending_kept (s : State) (h : CmdHdr) (time flags : Nat) : On (s.schedulePending h time flags) fun t =>
    t.mod = s.mod ∧ SameIn (·.core) t s ∧ t.host.replies = s.host.replies := by
  simp [On, State.schedulePending, State.modPending, record_replies]

theorem schedulePending_pending (s : State) (h : CmdHdr) (time flags : Nat) : (s.schedulePending h time flags).img.pending =
    { s.img.pending with st := .scheduled, at_ := time, postpone := flags = 1, owner := some (h.completion 0x0504 0) } := by
  simp [State.schedulePending, State.modPending]

/-- A schedule that nothing refuses, of an image that may be switched to where the module is. -/
theorem imgScheduleOp_schedules {h : CmdHdr} {time flags : Nat} {s : State} (accepted : Accepts s h 0x0504 (some .engineer)) (flag : flags ≤ 1)
    (verified : s.img.pending.st = .verified) (station : s.img.pending.type = 1) (live : s.img.pending.live = true)
    (later : s.nowFor h + 500000 ≤ time) (sheets : s.sheetsHeld = false) (here : s.mayScheduleHere = true) :
    imgScheduleOp h time flags s = ((s.schedulePending h time flags).say h 0x0504 stAccepted []).forwardSchedule time flags := by
  unfold imgScheduleOp
  rw [serveImage_accepts accepted (by simp [verified])]
  dsimp only
  rw [if_neg (by simp [verified, station, flag, later]), if_neg (pending_free (by simp [verified]) sheets), if_neg (by simp [here]),
    if_neg (by simp [station, live])]
  rfl

theorem forwardSchedule_kept (s : State) (time flags : Nat) : On (s.forwardSchedule time flags) fun t => t.img = s.img ∧ t.host = s.host := by
  unfold On State.forwardSchedule
  split <;> simp

theorem cancelSheets_change (s : State) (reason : Nat) : (s.cancelSheets reason).sheets.change = none := by
  unfold State.cancelSheets
  split
  · assumption
  · dsimp only
    (repeat' split) <;> simp

/-- What IMG_ABORT does before it answers. -/
def State.abortImage (s : State) (now : Nat) : State :=
  let s1 := s.cancelSheets 1
  let s2 := s1.modPending fun _ => .empty
  let s3 : State := { s2 with ixl := { s2.ixl with areaHold := 0 }, img := { s2.img with postponedSince := none, judged := none } }
  match s1.img.pending.owner with
  | some c =>
    if c.opcode = 0x0503 then s3.complete c stBadParam (fields [(1, 0), (3, 0)]) else s3.complete c stMode (fields [(4, 0), (8, now)])
  | none => s3

theorem imgAbortOp_aborts {h : CmdHdr} {s : State} (accepted : Accepts s h 0x0505 (some .engineer)) (unarmed : s.img.armed = LaneSet.none) :
    imgAbortOp h s = (s.abortImage (s.nowFor h)).say h 0x0505 stOk [] := by
  unfold imgAbortOp
  rw [serve_accepts s h _ _ _ accepted]
  exact if_neg (by rw [unarmed]; decide)

theorem abortImage_empties (s : State) (now : Nat) : On (s.abortImage now) fun t => t.img.pending = Slot.empty ∧ t.sheets.change = none := by
  unfold On State.abortImage
  dsimp only
  (repeat' split) <;> simp [State.modPending, cancelSheets_change]

theorem abortImage_kept (s : State) (now : Nat) : On (s.abortImage now) fun t =>
    t.mod = s.mod ∧ SameIn (·.core) t s ∧ t.host.replies = s.host.replies := by
  unfold On State.abortImage
  dsimp only
  (repeat' split) <;> simp [State.modPending, complete_replies, cancelSheets_replies]

/-! ### The obligation -/

/-- Settles O48: an accepted command finds PENDING free and changes it; the records and completions beside leave PENDING and the replies
alone. -/
theorem imageTransferCommands : Obligations.ImageTransferCommands := by
  unfold Obligations.ImageTransferCommands
  refine ⟨fun h ty len blocks ver s accepted low high fits whole idle unscheduled sheets => ?_,
    fun h b p data s accepted low inside begun idle unscheduled sheets => ?_, fun h s accepted begun idle unscheduled sheets => ?_,
    fun s verifying => ⟨_, rfl, imgVerifyCompleteOp_ends verifying⟩,
    fun h time fl s accepted flag verified station live later sheets here => ?_, fun h s accepted unarmed => ?_,
    fun h s accepted => congrArg Host.Outcome.next ((serve_accepts s h _ _ _ accepted).trans
      (say_accepted s s h _ _ _ _ accepted (by decide) rfl rfl))⟩
  · exact ⟨_, congrArg Host.Outcome.next (imgBeginOp_empties accepted ⟨low, high⟩ fits whole idle unscheduled sheets),
      modPending_answered accepted (by decide) rfl _⟩
  · refine ⟨_, congrArg Host.Outcome.next (imgBlockOp_stores accepted low inside begun idle unscheduled sheets), ?_⟩
    obtain ⟨stored, answered⟩ := modPending_answered (st := if (s.img.pending.store b.toNat p.toNat data).2 then stBadParam else stOk)
      (ps := leBytes 4 (s.img.pending.store b.toNat p.toNat data).1.done.length) accepted (by decide) rfl
      fun _ => (s.img.pending.store b.toNat p.toNat data).1
    rw [stored]
    exact ⟨rfl, answered⟩
  · exact ⟨_, congrArg Host.Outcome.next (imgVerifyOp_begins accepted begun idle unscheduled sheets),
      modPending_answered accepted (by decide) rfl _⟩
  · refine ⟨_, congrArg Host.Outcome.next (imgScheduleOp_schedules accepted flag verified station live later sheets here), ?_⟩
    obtain ⟨img, host⟩ := forwardSchedule_kept ((s.schedulePending h time.toNat fl.toNat).say h 0x0504 stAccepted []) time.toNat fl.toNat
    obtain ⟨mod, core, replies⟩ := schedulePending_kept s h time.toNat fl.toNat
    have pending := schedulePending_pending s h time.toNat fl.toNat
    unfold Answered
    rw [img, host]
    exact ⟨by simp [pending], by simp [pending], by simp [pending], answered_of_kept accepted (by decide) rfl mod core replies⟩
  · refine ⟨_, congrArg Host.Outcome.next (imgAbortOp_aborts accepted unarmed), ?_⟩
    obtain ⟨pending, change⟩ := abortImage_empties s (s.nowFor h)
    obtain ⟨mod, core, replies⟩ := abortImage_kept s (s.nowFor h)
    exact ⟨by simp [pending], by simp [change], answered_of_kept accepted (by decide) rfl mod core replies⟩

end Sys2Proof.Machine
end

section
/-!
SUPPORT. Fuse operations: their two steps and their completion (R327, R328, R345, R511).
-/

namespace Sys2Proof.Machine

open Sys2Proof

/-! ### Tokens and second steps -/

theorem sealFuseStep1Op_issues {h : CmdHdr} {op slot : Nat} {s : State} (accepted : Accepts s h 0x0707 (some .custodian))
    (allowed : s.fuseRefusal op slot = none) (free : s.img.fuseOp = none) : sealFuseStep1Op h op slot s =
      (s.issueToken h 0x0707 (fuseTarget op slot) false (some .custodian)).1.say h 0x0707 stOk
        (bytesOf 4 (s.issueToken h 0x0707 (fuseTarget op slot) false (some .custodian)).2) := by
  unfold sealFuseStep1Op
  rw [serve_accepts s h _ _ _ accepted, allowed]
  dsimp only
  rw [free]
  rfl

/-- The module with a fuse operation begun, its token spent. -/
def State.beginFuse (s : State) (h : CmdHdr) (op slot : Nat) : State :=
  { s.spendToken h 0x0707 (fuseTarget op slot) with img := { s.img with fuseOp := some ⟨op, slot, h.source.toNat, h.queue.val, h.seq⟩ } }

theorem sealFuseStep2Op_begins {h : CmdHdr} {op slot : Nat} {token : Word} {s : State} (accepted : Accepts s h 0x0707 (some .custodian))
    (valid : s.tokenValid h 0x0707 (fuseTarget op slot) false token = true) (allowed : s.fuseRefusal op slot = none)
    (free : s.img.fuseOp = none) : sealFuseStep2Op h op slot token s = (s.beginFuse h op slot).say h 0x0707 stAccepted [] := by
  unfold sealFuseStep2Op
  rw [serve_accepts s h _ _ _ accepted, valid, allowed]
  dsimp only
  rw [free]
  rfl

/-- An operation that has begun waits for its completion: no fuse has changed. -/
theorem sealFuseStep2Op_waits {h : CmdHdr} {op slot : Nat} {token : Word} {s : State} (accepted : Accepts s h 0x0707 (some .custodian))
    (valid : s.tokenValid h 0x0707 (fuseTarget op slot) false token = true) (allowed : s.fuseRefusal op slot = none)
    (free : s.img.fuseOp = none) : On (sealFuseStep2Op h op slot token s) fun t =>
      t.img.fuseOp = some ⟨op, slot, h.source.toNat, h.queue.val, h.seq⟩ ∧ t.mod.sealed = s.mod.sealed ∧ t.img.keys = s.img.keys ∧
        Answered s t h 0x0707 stAccepted [] := by
  rw [sealFuseStep2Op_begins accepted valid allowed free]
  exact ⟨by simp [State.beginFuse], by simp [State.beginFuse], by simp [State.beginFuse],
    answered_of_kept accepted (by decide) rfl rfl (fun _ => rfl) rfl⟩

/-! ### Halted lanes -/

/-- Of the diagnosis a snapshot changes its own account only. -/
theorem takeSnapshot_halted (s : State) (l m : Lane) (entry : Nat) (d : SnapDef) (trigger : Nat) :
    ((s.takeSnapshot l entry d trigger).lanes.get m).diag.halted = (s.lanes.get m).diag.halted := by
  unfold State.takeSnapshot
  dsimp only
  by_cases same : m = l
  · subst same
    split <;> simp
  · split <;> simp [State.modDiag, get_modLane_ne _ _ _ _ same]

theorem record_halted (s : State) (type : Nat) (payload : List Byte) (m : Lane) :
    ((s.record type payload).lanes.get m).diag.halted = (s.lanes.get m).diag.halted := by
  unfold State.record State.snapshots
  split
  · simp
  · refine (keep_foldl (fun t => (t.lanes.get m).diag.halted) _ (fun t l => ?_) _ _).trans (by simp)
    exact keep_foldl (fun t => (t.lanes.get m).diag.halted) _ (fun t p => takeSnapshot_halted t l m _ _ _) _ _

theorem hostRecord_halted (s : State) (type : Nat) (payload : List Byte) (m : Lane) :
    ((s.hostRecord type payload).lanes.get m).diag.halted = (s.lanes.get m).diag.halted := by
  unfold State.hostRecord
  split
  · simp
  · exact record_halted s type payload m

/-! ### Completion -/

/-- The module with no fuse operation under way. -/
def State.fuseOver (s : State) : State := { s with img := { s.img with fuseOp := none } }

/-- The effect of an operation is followed by its completion only, which leaves module, lanes and images. -/
theorem fuseCompleteOp_programmed {f : FuseOp} {s : State} (held : s.img.fuseOp = some f) : On (fuseCompleteOp true s) fun t =>
    t.mod = (s.fuseOver.fuseEffect f).mod ∧ t.lanes = (s.fuseOver.fuseEffect f).lanes ∧ t.img = (s.fuseOver.fuseEffect f).img := by
  unfold On fuseCompleteOp
  rw [held]
  simp [State.fuseOver]

theorem fuseCompleteOp_failed {f : FuseOp} {s : State} (held : s.img.fuseOp = some f) : On (fuseCompleteOp false s) fun t =>
    t.mod = s.mod ∧ t.img = { s.img with fuseOp := none } := by
  unfold On fuseCompleteOp
  rw [held]
  simp

/-- Blown seals leave the module sealed, with neither a debugger nor a halted lane. -/
theorem fuseEffect_blow {f : FuseOp} (s : State) (blow : f.op = 1) : On (s.fuseEffect f) fun t =>
    t.mod.sealed = true ∧ t.mod.dbgAttached = false ∧ t.img = s.img ∧ ∀ l, (t.lanes.get l).diag.halted = false := by
  unfold On State.fuseEffect
  rw [blow]
  simp [hostRecord_halted]

/-- A revocation marks the slot's key; the sessions that end have no part in it. -/
theorem fuseEffect_revoke {f : FuseOp} {k : KeySlot} (s : State) (revoke : f.op = 3) (held : s.keyAt f.slot = some k) :
    (s.fuseEffect f).img = { s.img with keys := Tab.put s.img.keys f.slot { k with revoked := true } } := by
  unfold State.fuseEffect
  rw [revoke, held]
  simp

/-! ### The obligation -/

/-- Settles O52: a step runs where nothing refuses it, and a completion has the effect that its operation and its readback give. -/
theorem fuseCommands : Obligations.FuseCommands := by
  unfold Obligations.FuseCommands
  refine ⟨fun h op slot s accepted allowed free => congrArg Host.Outcome.next (sealFuseStep1Op_issues accepted allowed free),
    fun h slot tok s accepted valid allowed free => ?_, fun h slot tok s accepted valid allowed free => ?_,
    fun h slot tok s accepted valid allowed free => ?_, fun f s held blow => ?_, fun f k s held revoke key => ?_, fun f s held => ?_⟩
  · obtain ⟨begun, seals, -, answered⟩ := sealFuseStep2Op_waits accepted valid allowed free
    exact ⟨_, rfl, begun, seals, answered⟩
  · obtain ⟨begun, -, keys, answered⟩ := sealFuseStep2Op_waits accepted valid allowed free
    exact ⟨_, rfl, begun, keys, answered⟩
  · obtain ⟨begun, -, keys, answered⟩ := sealFuseStep2Op_waits accepted valid allowed free
    exact ⟨_, rfl, begun, keys, answered⟩
  · obtain ⟨mod, lanes, img⟩ := fuseCompleteOp_programmed held
    obtain ⟨isSealed, detached, images, running⟩ := fuseEffect_blow s.fuseOver blow
    refine ⟨_, rfl, (congrArg ModS.sealed mod).trans isSealed, (congrArg ModS.dbgAttached mod).trans detached,
      congrArg ImgS.fuseOp (img.trans images), fun l => ?_⟩
    rw [lane_eq, lanes]
    exact running l
  · obtain ⟨-, -, img⟩ := fuseCompleteOp_programmed held
    have images := img.trans (fuseEffect_revoke s.fuseOver revoke key)
    exact ⟨_, rfl, congrArg ImgS.keys images, congrArg ImgS.fuseOp images⟩
  · obtain ⟨mod, img⟩ := fuseCompleteOp_failed held
    exact ⟨_, rfl, (congrArg ImgS.keys img :), congrArg ModS.sealed mod, (congrArg ImgS.fuseOp img :)⟩

end Sys2Proof.Machine
end

section
/-!
SUPPORT. Reading, freezing and clearing the recorder (R337, R338, R390, R392, R399, R400).
-/

namespace Sys2Proof.Machine

open Sys2Proof

/-! ### Closing -/

/-- Of the recorder a closing changes the open records only. -/
theorem closeRecord_rcd (s : State) (index : Nat) :
    (s.closeRecord index).rcd = { s.rcd with opened := s.rcd.opened.filter fun o => o.index ≠ index } := by
  unfold State.closeRecord
  split
  · rfl
  next absent =>
    have kept : (s.rcd.opened.filter fun o => o.index ≠ index) = s.rcd.opened :=
      List.filter_eq_self.2 fun o mem => by
        have other := List.any_eq_false.1 (Bool.not_eq_true _ ▸ absent) o mem
        simpa using other
    rw [kept]

theorem each_closeRecord_rcd (is : List Nat) (s : State) :
    (s.each is State.closeRecord).rcd = { s.rcd with opened := s.rcd.opened.filter fun o => o.index ∉ is } := by
  induction is generalizing s with
  | nil => simp [State.each]
  | cons i is ih =>
    have step : (s.each (i :: is) State.closeRecord).rcd = ((s.closeRecord i).each is State.closeRecord).rcd := rfl
    rw [step, ih, closeRecord_rcd]
    simp [List.filter_filter, Bool.and_comm]

/-- Nothing stays open. -/
theorem closeAll_rcd (s : State) : s.closeAll.rcd = { s.rcd with opened := [] } := by
  have emptied : (s.rcd.opened.filter fun o => o.index ∉ s.rcd.opened.map OpenRec.index) = [] :=
    List.filter_eq_nil_iff.2 fun o mem => by simpa using ⟨o, mem, rfl⟩
  rw [State.closeAll, each_closeRecord_rcd, emptied]

/-! ### Writing -/

/-- A new record takes the next index; one that is not too long is not what a full partition gives up. -/
theorem appendRecord_store (s : State) (r : Record) (short : 24 + r.payload.length ≤ 2 ^ 32) : On (s.appendRecord r) fun t =>
    { r with index := s.rcd.writeIndex } ∈ t.rcd.store ∧ ∀ x ∈ t.rcd.store, x ∈ s.rcd.store ∨ x = { r with index := s.rcd.writeIndex } := by
  unfold On State.appendRecord
  extract_lets rcd later r' s1
  have stays : r' ∈ s1.rcd.store ∧ ∀ x ∈ s1.rcd.store, x ∈ s.rcd.store ∨ x = r' := by
    have mem : ∀ x ∈ rcd.store ++ [r'], x ∈ s.rcd.store ∨ x = r' := fun x mem => by simpa using mem
    simp only [s1, RecS.trim]
    split
    next full =>
      refine ⟨?_, fun x dropped => mem x (List.mem_of_mem_drop dropped)⟩
      cases store : rcd.store with
      | nil =>
        rw [store] at full
        exact absurd full (Nat.not_lt.2 (by simpa [storeBytes, r'] using short))
      | cons y ys => simp
    · exact ⟨by simp, mem⟩
  beta_reduce
  rw [each_closeRecord_rcd]
  exact stays

theorem appendRecord_rcd (s : State) (r : Record) : On (s.appendRecord r) fun t =>
    t.rcd.freeze = s.rcd.freeze ∧ t.rcd.writeIndex = s.rcd.writeIndex + 1 := by
  unfold On State.appendRecord
  extract_lets rcd later r' s1
  beta_reduce
  rw [each_closeRecord_rcd]
  simp only [s1, RecS.trim]
  split <;> exact ⟨rfl, rfl⟩

/-- With nothing open and nothing frozen a record is a new one. -/
theorem writeRecord_appends {s : State} (heard : s.mod.hkLost = false) (thawed : s.rcd.freeze = none) (closed : s.rcd.opened = [])
    (type : Nat) (payload : List Byte) (lane : Option Lane) (hk : Bool) : s.writeRecord type payload lane hk =
      s.appendRecord ⟨0, type, 0, false, lane, hk, false, s.rcd.powerCycles, s.rcd.opTime, s.recCycle, payload⟩ := by
  simp [State.writeRecord, heard, thawed, closed]

/-- The housekeeper's record then stands in the store under the next index, with nothing else that is new. -/
theorem recordHk_stored {s : State} {payload : List Byte} (heard : s.mod.hkLost = false) (thawed : s.rcd.freeze = none)
    (closed : s.rcd.opened = []) (type : Nat) (short : payload.length ≤ 976) : On (s.recordHk type payload) fun t =>
      (∃ r ∈ t.rcd.store, r.type = type) ∧ ∀ r ∈ t.rcd.store, r ∈ s.rcd.store ∨ r.index = s.rcd.writeIndex := by
  obtain ⟨stored, only⟩ := appendRecord_store s ⟨0, type, 0, false, none, true, false, s.rcd.powerCycles, s.rcd.opTime, s.recCycle, payload⟩
    (by dsimp only; omega)
  unfold On State.recordHk
  rw [writeRecord_appends heard thawed closed]
  exact ⟨⟨_, stored, rfl⟩, fun r mem => (only r mem).imp_right (congrArg Record.index)⟩

/-! ### Freeze and thaw -/

/-- The recorder is not frozen, and its indexes have not gone back below n. -/
def Thawed (n : Nat) (t : State) : Prop := t.rcd.freeze = none ∧ n ≤ t.rcd.writeIndex

namespace Thawed

variable {n : Nat} {t : State}

theorem closeRecord (thawed : Thawed n t) (index : Nat) : Thawed n (t.closeRecord index) := by
  unfold Thawed
  rw [closeRecord_rcd]
  exact thawed

theorem appendRecord (thawed : Thawed n t) (r : Record) : Thawed n (t.appendRecord r) := by
  obtain ⟨free, grown⟩ := thawed
  obtain ⟨freeze, index⟩ := appendRecord_rcd t r
  exact ⟨freeze.trans free, by omega⟩

theorem writeRecord (thawed : Thawed n t) (type : Nat) (payload : List Byte) (lane : Option Lane) (hk : Bool) :
    Thawed n (t.writeRecord type payload lane hk) := by
  obtain ⟨free, grown⟩ := thawed
  unfold State.writeRecord
  dsimp only
  rw [free]
  dsimp only
  split
  · exact ⟨free, grown⟩
  split
  next o _ =>
    split
    · refine closeRecord ?_ o.index
      exact ⟨rfl, grown⟩
    · exact ⟨rfl, grown⟩
  · exact appendRecord ⟨free, grown⟩ _

theorem each {α : Type} {f : State → α → State} (keeps : ∀ t x, Thawed n t → Thawed n (f t x)) (xs : List α) (thawed : Thawed n t) :
    Thawed n (t.each xs f) := by
  induction xs generalizing t with
  | nil => exact thawed
  | cons x xs ih => exact ih (keeps t x thawed)

end Thawed

/-- A freeze that ends writes what it held. -/
theorem endFreeze_thaws (s : State) (event keep : Nat) : Thawed s.rcd.writeIndex (s.endFreeze event keep) := by
  unfold State.endFreeze
  split
  next free => exact ⟨free, le_rfl⟩
  next f _ =>
    have start : Thawed s.rcd.writeIndex { s with rcd := { s.rcd with freeze := none } } := ⟨rfl, le_rfl⟩
    have held := start.each (f := fun s r => (s.appendRecord { r with held := true }).closeRecord s.rcd.writeIndex)
      (fun t r thawed => (thawed.appendRecord _).closeRecord _) (f.held.take keep)
    refine Thawed.writeRecord ?_ _ _ _ _
    split
    · exact held
    · exact held.writeRecord _ _ _ _

theorem writeRecord_opTime (s : State) (type : Nat) (payload : List Byte) (lane : Option Lane) (hk : Bool) :
    (s.writeRecord type payload lane hk).rcd.opTime = s.rcd.opTime :=
  ((account_eq_iff _ _).1 (writeRecord_account s type payload lane hk)).1

theorem beginFreeze_freezes (s : State) (source : Nat) : (s.beginFreeze source).rcd.freeze = some ⟨source, s.rcd.opTime, [], 0⟩ := by
  have time : (s.closeAll.recordHk 0x0A04 (fields [(1, 0), (1, 0), (2, source), (4, 0)])).closeAll.rcd.opTime = s.rcd.opTime := by
    rw [closeAll_rcd]
    exact (writeRecord_opTime ..).trans (by rw [closeAll_rcd])
  rw [← time]
  rfl

theorem recFreezeOp_freezes {h : CmdHdr} {s : State} (accepted : Accepts s h 0x0402 (some .maintainer)) (thawed : s.rcd.freeze = none) :
    recFreezeOp h s = (s.beginFreeze h.source.toNat).say h 0x0402 stOk [] := by
  unfold recFreezeOp
  rw [serve_accepts s h _ _ _ accepted, thawed]
  rfl

theorem freezeTimeoutOp_thaws {f : FreezeS} {s : State} (frozen : s.rcd.freeze = some f) (due : f.since + 60000 ≤ s.rcd.opTime) :
    freezeTimeoutOp s = s.thaw 2 := by
  unfold freezeTimeoutOp
  rw [frozen]
  exact if_pos (decide_eq_true due)

/-! ### Clear -/

theorem clearRefusal_none {upTo : Nat} {s : State} (written : upTo ≤ s.rcd.writeIndex) (thawed : s.rcd.freeze = none) :
    s.clearRefusal upTo = none := by
  unfold State.clearRefusal
  rw [if_neg (Nat.not_lt.2 written), thawed]
  rfl

/-- A cleared store holds nothing below UP_TO, and CLEARED at the next index. -/
theorem clearStore_clears {h : CmdHdr} {upTo : Nat} {s : State} (heard : s.mod.hkLost = false) (written : upTo ≤ s.rcd.writeIndex)
    (thawed : s.rcd.freeze = none) : On (s.clearStore h upTo) fun t =>
      (∀ r ∈ t.rcd.store, upTo ≤ r.index) ∧ ∃ r ∈ t.rcd.store, r.type = 0x0A02 := by
  unfold On State.clearStore
  extract_lets s1 r rest s2 slot
  have rcd : r = { s.rcd with opened := [] } := closeAll_rcd s
  have there : s2.mod.hkLost = false := (congrArg ModS.hkLost (State_closeAll_frame s).2.1).trans heard
  obtain ⟨cleared, only⟩ := recordHk_stored (s := s2) there (by simp [s2, rcd, thawed]) (by simp [s2, rcd]) 0x0A02
    (payload := fields [(1, slot), (1, 0), (2, _), (8, _), (8, _), (8, _), (8, _)]) (by simp [fields, leBytes_length])
  refine ⟨fun x stored => ?_, cleared⟩
  obtain old | new := only x stored
  · exact of_decide_eq_true (List.mem_filter.1 old).2
  · rw [new]
    simpa [s2, rcd] using written

theorem recClearStep2Op_clears {h : CmdHdr} {upTo : Nat} {token : Word} {s : State} (accepted : Accepts s h 0x0404 (some .custodian))
    (valid : s.tokenValid h 0x0404 (clearTarget upTo) false token = true) (written : upTo ≤ s.rcd.writeIndex) (thawed : s.rcd.freeze = none) :
    recClearStep2Op h upTo token s = ((s.spendToken h 0x0404 (clearTarget upTo)).clearStore h upTo).say h 0x0404 stOk [] := by
  unfold recClearStep2Op
  rw [serve_accepts s h _ _ _ accepted, valid, clearRefusal_none written thawed]
  rfl

theorem silMarkOp_marks {h : CmdHdr} {label : List Byte} {s : State} (accepted : Accepts s h 0x0406 (some .maintainer))
    (cycles : s.mod.mode.cycles = true) (unmarked : s.rcd.mark = none) :
    silMarkOp h label s = { s with rcd := { s.rcd with mark := some (h, padTo 16 label) } } := by
  unfold silMarkOp
  rw [serve_accepts s h _ _ _ accepted, cycles, unmarked]
  rfl

/-! ### The obligation -/

theorem say_rcd (s : State) (h : CmdHdr) (op st : Nat) (ps : List Byte) : (s.say h op st ps).rcd = s.rcd := by simp

/-- Settles O55: an accepted command runs its body, and the answer that follows leaves the recorder alone. -/
theorem recorderReadCommands : Obligations.RecorderReadCommands := by
  unfold Obligations.RecorderReadCommands
  refine ⟨fun h i n s accepted few => ?_, fun h i n s accepted few => ?_, fun h s accepted thawed => ?_, fun h s accepted => ?_,
    fun f s frozen due => ?_, fun h u s accepted written thawed => ?_, fun h u tok s accepted heard valid written thawed => ?_,
    fun h label s accepted cycles unmarked => congrArg Host.Outcome.next (silMarkOp_marks accepted cycles unmarked)⟩
  · exact congrArg Host.Outcome.next ((serve_accepts s h _ _ _ accepted).trans (if_neg (Nat.not_lt.2 few)))
  · exact congrArg Host.Outcome.next ((serve_accepts s h _ _ _ accepted).trans (if_neg (Nat.not_lt.2 few)))
  · exact ⟨_, congrArg Host.Outcome.next (recFreezeOp_freezes accepted thawed),
      (congrArg RecS.freeze (say_rcd ..)).trans (beginFreeze_freezes s _)⟩
  · refine ⟨_, congrArg Host.Outcome.next (serve_accepts s h _ _ _ accepted), ?_⟩
    beta_reduce
    rw [say_rcd]
    exact endFreeze_thaws s 1 _
  · exact ⟨_, congrArg Host.Outcome.next (freezeTimeoutOp_thaws frozen due), endFreeze_thaws s 2 _⟩
  · have allowed : s.clearRefusal u.toNat = none := clearRefusal_none written thawed
    refine congrArg Host.Outcome.next ((serve_accepts s h _ _ _ accepted).trans ?_)
    rw [allowed]
  · refine ⟨_, congrArg Host.Outcome.next (recClearStep2Op_clears accepted valid written thawed), ?_⟩
    beta_reduce
    rw [say_rcd]
    exact clearStore_clears (s := s.spendToken h 0x0404 (clearTarget u.toNat)) heard written thawed

end Sys2Proof.Machine
end

section
/-!
SUPPORT. Redundancy: the pair's status, switchover, lane resync and takeover rights (R328, R349, R357, R376).
-/

namespace Sys2Proof.Machine

open Sys2Proof

/-! ### Switchover -/

theorem switchoverStep1Op_issues {h : CmdHdr} {s : State} (accepted : Accepts s h 0x0A02 (some .maintainer))
    (allowed : s.switchoverAllowed = true) : switchoverStep1Op h s =
      (s.issueToken h 0x0A02 switchoverTarget false (some .maintainer)).1.say h 0x0A02 stOk
        (bytesOf 4 (s.issueToken h 0x0A02 switchoverTarget false (some .maintainer)).2) := by
  unfold switchoverStep1Op
  rw [serve_accepts s h _ _ _ accepted, allowed]
  rfl

theorem switchoverStep2Op_begins {h : CmdHdr} {token : Word} {s : State} (accepted : Accepts s h 0x0A02 (some .maintainer))
    (allowed : s.switchoverAllowed = true) (valid : s.tokenValid h 0x0A02 switchoverTarget false token = true)
    (idle : s.plink.switchAt = none) : switchoverStep2Op h token s = ((s.spendToken h 0x0A02 switchoverTarget).beginSwitchover
      (some (h.completion 0x0A02 switchoverTarget)) false).say h 0x0A02 stAccepted [] := by
  unfold switchoverStep2Op
  rw [serve_accepts s h _ _ _ accepted, allowed, valid, idle]
  rfl

theorem beginSwitchover_owes (s : State) (done : Option Completion) (safe : Bool) : On (s.beginSwitchover done safe) fun t =>
    t.plink.switchAt = some (s.mod.cycle.toNat + 20) ∧ t.plink.switchDone = done := ⟨rfl, rfl⟩

theorem role_of_switchoverAllowed {s : State} (allowed : s.switchoverAllowed = true) : s.mod.role = .lead := by
  simp only [State.switchoverAllowed, Bool.and_eq_true, decide_eq_true_eq] at allowed
  obtain ⟨⟨⟨-, lead⟩, -⟩, -⟩ := allowed
  exact lead

/-! ### Lane resync -/

/-- A lane that is in no step of a resync has no catch-up to end. -/
theorem endCatchUp_outside {s : State} {l : Lane} (out : s.laneSt l = .out) : s.endCatchUp l = s :=
  if_neg (by rw [State.inStep, out]; exact Bool.false_ne_true)

/-- The resync that RED_LANE_RESYNC begins. -/
def State.resyncAsked (s : State) (h : CmdHdr) (l : Lane) : State :=
  (s.beginResync l (s.lane l).core.cause).modCore l fun c => { c with autoTimes := [], asked := some (h.completion 0x0A03 l.id) }

theorem resyncAsked_begins {s : State} {l : Lane} (h : CmdHdr) (out : s.laneSt l = .out) : On (s.resyncAsked h l) fun t =>
    t.laneSt l = .resync ∧ (t.lane l).core.autoTimes = [] ∧ (t.lane l).core.resync.step = 1 ∧ (∀ k, k ≠ l → t.lane k = s.lane k) ∧
      t.host = s.host := by
  unfold On State.resyncAsked State.beginResync
  rw [endCatchUp_outside out]
  refine ⟨by simp, by simp, by simp, fun k other => ?_, rfl⟩
  simp [State.modCore, State.modClk, get_modLane_ne _ _ _ _ other]

theorem find_lane (l : Lane) : (Lane.all.find? fun k => k.id = (BitVec.ofNat 8 l.id).toNat) = some l := by cases l <;> rfl

theorem laneResyncOp_begins {h : CmdHdr} {l : Lane} {s : State} (accepted : Accepts s h 0x0A03 (some .maintainer)) (out : s.laneSt l = .out)
    (running : (s.lane l).diag.halted = false) :
    laneResyncOp h (BitVec.ofNat 8 l.id).toNat s = (s.say h 0x0A03 stAccepted []).resyncAsked h l := by
  have id : (BitVec.ofNat 8 l.id).toNat = l.id := by cases l <;> rfl
  have same : (s.say h 0x0A03 stAccepted []).lane l = s.lane l := by simp
  unfold laneResyncOp
  rw [serve_accepts s h _ _ _ accepted, find_lane]
  dsimp only
  rw [if_neg (by rw [out, running]; decide), id, State.resyncAsked, same]

/-! ### Takeover rights -/

theorem tenderEnableOp_sets {h : CmdHdr} {enable : Nat} {s : State} (accepted : Accepts s h 0x0A04 (some .engineer)) (flag : enable ≤ 1)
    (role : s.mod.role ≠ .lead) : tenderEnableOp h enable s =
      ({ s with plink := { s.plink with rights := decide (enable = 1) } } : State).say h 0x0A04 stOk [] := by
  unfold tenderEnableOp
  rw [serve_accepts s h _ _ _ accepted]
  dsimp only
  rw [if_neg (Nat.not_lt.2 flag), if_neg role]

theorem answerEnable_answers {h : CmdHdr} {e : Bool} {s : State} (asked : s.plink.enableAsk = some (h, e)) (status : Nat) :
    s.answerEnable status = ({ s with plink := { s.plink with enableAsk := none } } : State).say h 0x0A04 status [] := by
  rw [State.answerEnable, asked]

/-! ### The obligation -/

/-- Settles O59: an accepted command runs its body past the refusals, and the lanes answer it. -/
theorem redundancyCommands : Obligations.RedundancyCommands := by
  unfold Obligations.RedundancyCommands
  refine ⟨fun h s accepted => congrArg Host.Outcome.next (serve_accepts s h _ _ _ accepted),
    fun h s accepted allowed => congrArg Host.Outcome.next (switchoverStep1Op_issues accepted allowed),
    fun h tok s accepted allowed valid idle => ?_, fun h l s accepted out running => ?_, fun h e s accepted flag role => ?_,
    fun h e s asked => congrArg Host.Outcome.next (answerEnable_answers asked _)⟩
  · refine ⟨_, congrArg Host.Outcome.next (switchoverStep2Op_begins accepted allowed valid idle), ?_⟩
    obtain ⟨due, done⟩ := beginSwitchover_owes (s.spendToken h 0x0A02 switchoverTarget) (some (h.completion 0x0A02 switchoverTarget)) false
    exact ⟨by simpa using due, by simpa using done, by simpa using role_of_switchoverAllowed allowed,
      answered_of_kept accepted (by decide) rfl rfl (fun _ => rfl) rfl⟩
  · refine ⟨_, congrArg Host.Outcome.next (laneResyncOp_begins accepted out running), ?_⟩
    obtain ⟨st, times, step, others, host⟩ := resyncAsked_begins (s := s.say h 0x0A03 stAccepted []) h (by simpa using out)
    refine ⟨st, times, step, fun k other => (others k other).trans (by simp), ?_⟩
    unfold Answered
    rw [host]
    exact answered_of_kept accepted (by decide) rfl rfl (fun _ => rfl) rfl
  · exact ⟨_, congrArg Host.Outcome.next (tenderEnableOp_sets accepted flag role), by simp,
      answered_of_kept accepted (by decide) rfl rfl (fun _ => rfl) rfl⟩

end Sys2Proof.Machine
end

section
/-!
SUPPORT. What a lane's memory holds (O11), what its DMA channels store (O12), and the commands of the channels (R438, R449–R455, R473).
-/

namespace Sys2Proof.Machine

open Sys2Proof

/-! ### Maps over lists that may fail -/

theorem mem_of_mapM {α β : Type} (f : α → Option β) (l : List α) (r : List β) (h : l.mapM f = some r) {b : β} (hb : b ∈ r) :
    ∃ a ∈ l, f a = some b := by
  induction l generalizing r with
  | nil => simp_all
  | cons a l ih =>
    simp only [List.mapM_cons, Option.bind_eq_bind, Option.bind_eq_some_iff, Option.pure_def, Option.some.injEq] at h
    obtain ⟨c, hc, rest, hrest, rfl⟩ := h
    rcases List.mem_cons.1 hb with rfl | hb
    · exact ⟨a, List.mem_cons_self, hc⟩
    · obtain ⟨x, hx, hfx⟩ := ih rest hrest hb
      exact ⟨x, List.mem_cons_of_mem _ hx, hfx⟩

theorem length_of_mapM {α β : Type} (f : α → Option β) (l : List α) (r : List β) (h : l.mapM f = some r) : r.length = l.length := by
  induction l generalizing r with
  | nil => simp_all
  | cons a l ih =>
    simp only [List.mapM_cons, Option.bind_eq_bind, Option.bind_eq_some_iff, Option.pure_def, Option.some.injEq] at h
    obtain ⟨c, hc, rest, hrest, rfl⟩ := h
    simp [ih rest hrest]

/-! ### Bytes written and read -/

theorem write_byte_same (m : MmuS) (a : Nat) (b : Byte) (h : m.wf = true) : (m.write [(a, b)]).byte a = b := by
  simp only [MmuS.wf, Memory.wf, Bool.and_eq_true] at h
  exact setByte_same m.bytes a b h.1

theorem write_byte_other (m : MmuS) (ws : List (Nat × Byte)) (a : Nat) (h : m.wf = true) (apart : ∀ p ∈ ws, p.1 ≠ a) :
    (m.write ws).byte a = m.byte a := setBytes_other ws m.bytes a h apart

/-- The least address listed reads other than 0, so a memory that lists one reads unlike an empty one. -/
theorem getD_head_ne (a : Nat) (b : Byte) (t : Tab Byte) (h : Memory.wf ((a, b) :: t) = true) : Tab.getD ((a, b) :: t) a 0 ≠ 0 := by
  simp only [Memory.wf, List.all_cons, Bool.and_eq_true, decide_eq_true_eq] at h
  simpa [Tab.getD, Tab.get?] using h.2.1

theorem memory_wf_tail (p : Nat × Byte) (t : Tab Byte) (h : Memory.wf (p :: t) = true) : Memory.wf t = true := by
  simp only [Memory.wf, Tab.wf, List.all_cons, Bool.and_eq_true] at h ⊢
  exact ⟨h.1.2, h.2.2⟩

theorem getD_below (a : Nat) (p : Nat × Byte) (t : Tab Byte) (lt : a < p.1) : Tab.getD (p :: t) a 0 = 0 := by
  simp [Tab.getD, Tab.get?, lt, Nat.ne_of_lt lt]

/-- What a canonical memory lists after its least address reads 0 up to that address. -/
theorem getD_tail (p : Nat × Byte) (t : Tab Byte) (h : Memory.wf (p :: t) = true) (a : Nat) (le : a ≤ p.1) : Tab.getD t a 0 = 0 := by
  simp only [Memory.wf, Tab.wf, Bool.and_eq_true, List.all_eq_true, decide_eq_true_eq] at h
  have low : (t.all fun q => a < q.1) = true := by
    simp only [List.all_eq_true, decide_eq_true_eq]
    exact fun q mem => Nat.lt_of_le_of_lt le (h.1.1 q mem)
  simp [Tab.getD, Tab.get_of_above t a low]

/-- The least addresses of two canonical memories that read alike are the same. -/
theorem head_eq (p q : Nat × Byte) (t u : Tab Byte) (ht : Memory.wf (p :: t) = true) (hu : Memory.wf (q :: u) = true)
    (same : ∀ a, Tab.getD (p :: t) a 0 = Tab.getD (q :: u) a 0) : p.1 = q.1 := by
  rcases Nat.lt_trichotomy p.1 q.1 with lt | eq | lt
  · exact absurd ((same p.1).trans (getD_below p.1 q u lt)) (getD_head_ne p.1 p.2 t ht)
  · exact eq
  · exact absurd ((same q.1).symm.trans (getD_below q.1 p t lt)) (getD_head_ne q.1 q.2 u hu)

/-- Canonical memories that read alike at every address list the same bytes (R438). -/
theorem memory_ext (t u : Tab Byte) (ht : Memory.wf t = true) (hu : Memory.wf u = true) (same : ∀ a, Tab.getD t a 0 = Tab.getD u a 0) :
    t = u := by
  induction t generalizing u with
  | nil =>
    cases u with
    | nil => rfl
    | cons q u => exact absurd (same q.1).symm (getD_head_ne q.1 q.2 u hu)
  | cons p t ih =>
    cases u with
    | nil => exact absurd (same p.1) (getD_head_ne p.1 p.2 t ht)
    | cons q u =>
      have key := head_eq p q t u ht hu same
      obtain ⟨k, b⟩ := p
      obtain ⟨k', c⟩ := q
      obtain rfl : k = k' := key
      have value : b = c := by simpa [Tab.getD, Tab.get?] using same k
      rw [value, ih u (memory_wf_tail _ t ht) (memory_wf_tail _ u hu) fun a => ?_]
      by_cases le : a ≤ k
      · rw [getD_tail _ t ht a le, getD_tail _ u hu a le]
      · have apart : a ≠ k ∧ ¬ a < k := by omega
        simpa [Tab.getD, Tab.get?, apart] using same a

/-- Settles O11: a byte set reads back and leaves the others alone, and two canonical lists that read alike are equal from the least address
on. -/
theorem memoryReadAfterWrite : Obligations.MemoryReadAfterWrite :=
  ⟨fun m a b h => ⟨write_byte_same m a b h, write_wf m _ h⟩, fun m ws a h apart => ⟨write_byte_other m ws a h apart, write_wf m ws h⟩,
   fun m n hm hn same => memory_ext m.bytes n.bytes hm hn same⟩

/-! ### What one lane stores -/

/-- Work on a lane that leaves what a copy brings it alone, and stores bytes only at some addresses. -/
abbrev Stores (at_ : Nat → Prop) (x y : LaneS) : Prop :=
  y.mmu.incoming = x.mmu.incoming ∧ (x.mmu.wf = true → y.mmu.wf = true) ∧
  (x.mmu.wf = true → ∀ a, ¬ at_ a → y.mmu.byte a = x.mmu.byte a)

namespace Stores

variable {p : Nat → Prop} {x y z : LaneS}

theorem incoming (h : Stores p x y) : y.mmu.incoming = x.mmu.incoming := h.1

theorem wf (h : Stores p x y) : x.mmu.wf = true → y.mmu.wf = true := h.2.1

theorem other (h : Stores p x y) : x.mmu.wf = true → ∀ a, ¬ p a → y.mmu.byte a = x.mmu.byte a := h.2.2

theorem of_mmu (p : Nat → Prop) (h : y.mmu = x.mmu) : Stores p x y := by
  simp [Stores, h]

theorem trans (h : Stores p x y) (k : Stores p y z) : Stores p x z :=
  ⟨k.incoming.trans h.incoming, fun w => k.wf (h.wf w), fun w a apart => (k.other (h.wf w) a apart).trans (h.other w a apart)⟩

/-- Work that leaves the memory alone may come after. -/
theorem then_mmu (h : Stores p x y) (k : z.mmu = y.mmu) : Stores p x z := h.trans (of_mmu p k)

theorem mono {q : Nat → Prop} (h : Stores p x y) (hp : ∀ a, p a → q a) : Stores q x y :=
  ⟨h.incoming, h.wf, fun w a apart => h.other w a fun pa => apart (hp a pa)⟩

end Stores

theorem storesAt_mono {x : LaneS} {va m n a : Nat} (h : x.storesAt va m a) (le : m ≤ n) : x.storesAt va n a := by
  obtain ⟨i, lt, here⟩ := h
  exact ⟨i, Nat.lt_of_lt_of_le lt le, here⟩

/-- A channel's write stores where its addresses translate (R449). -/
theorem dmaWrite_stores {x y : LaneS} {va : Nat} {bs : List Byte} (h : x.dmaWrite va bs = some y) :
    Stores (x.storesAt va bs.length) x y := by
  simp only [LaneS.dmaWrite, Option.map_eq_some_iff] at h
  obtain ⟨ws, stored, rfl⟩ := h
  refine ⟨rfl, write_wf x.mmu ws, fun w a apart => write_byte_other x.mmu ws a w fun p mem here => apart ?_⟩
  obtain ⟨⟨b, i⟩, listed, found⟩ := mem_of_mapM _ _ ws stored mem
  obtain ⟨-, lt, -⟩ := List.mem_zipIdx listed
  refine ⟨i, by simpa using lt, ?_⟩
  dsimp only at found
  split at found
  next pa translated =>
    split at found
    · cases found
      rw [translated]
      exact congrArg _ here
    · cases found
  next => cases found

theorem dmaWrite_getD_stores (x : LaneS) (va : Nat) (bs : List Byte) : Stores (x.storesAt va bs.length) x ((x.dmaWrite va bs).getD x) := by
  cases h : x.dmaWrite va bs with
  | none => exact .of_mmu _ rfl
  | some y => exact dmaWrite_stores h

theorem dmaRead_length {x : LaneS} {va n : Nat} {bs : List Byte} (h : x.dmaRead va n = some bs) : bs.length = n := by
  simpa using length_of_mapM _ _ bs h

/-- A transfer under way stores at its destination, if it has one (R449, R450). -/
theorem advance_stores {x y : LaneS} {c n : Nat} {stream : List Byte} {d : Descriptor} (cur : (x.chan c).cur = some d)
    (h : x.advance c n stream = some y) : Stores (fun a => d.kind ≠ 2 ∧ x.storesAt (d.dst.toNat + (x.chan c).moved) n a) x y := by
  unfold LaneS.advance at h
  extract_lets ch at h
  rw [show ch.cur = some d from cur] at h
  dsimp only at h
  split at h
  · cases h
  · next bs read =>
    have short : bs.length ≤ n := by
      split at read
      · cases read
        simp
      · exact (dmaRead_length read).le
    simp only [Option.map_eq_some_iff] at h
    obtain ⟨z, moved, rfl⟩ := h
    refine Stores.then_mmu (y := z) ?_ (by split <;> simp)
    split at moved
    · cases moved
      exact .of_mmu _ rfl
    · next kind => exact (dmaWrite_stores moved).mono fun a there => ⟨kind, storesAt_mono there short⟩

/-- Where a channel's status goes: OWN's byte and the four of STATUS (R450). -/
def LaneS.statusAt (x : LaneS) (va a : Nat) : Prop := x.storesAt va 1 a ∨ ∃ b, ((x.dmaWrite va [b]).getD x).storesAt (va + 24) 4 a

theorem postStatus_stores (x : LaneS) (c result cause : Nat) :
    Stores (x.statusAt ((x.chan c).slotVa (x.chan c).head)) x (x.postStatus c result cause) := by
  unfold LaneS.postStatus
  extract_lets ch va
  split
  · extract_lets y
    have own : Stores (x.statusAt va) x y := (dmaWrite_getD_stores x va _).mono fun _ there => Or.inl there
    exact own.trans ((dmaWrite_getD_stores y (va + 24) _).mono fun _ there => Or.inr ⟨_, there⟩)
  · exact .of_mmu _ rfl


/-! ### A lane's channel and its memory in a state -/

theorem get_set_ne {α : Type} (p : PerLane α) (l m : Lane) (x : α) (h : m ≠ l) : (p.set l x).get m = p.get m := by
  cases l <;> cases m <;> first | rfl | exact absurd rfl h

/-- A transfer under way, at one lane. -/
theorem dmaMove_lane {s t : State} {l : Lane} {c upTo : Nat} (h : s.dmaMove l c upTo = some t) :
    ∃ y, (s.lane l).advance c (upTo - ((s.lane l).chan c).moved) (streamBytes s.freeCtr (upTo - ((s.lane l).chan c).moved)) = some y ∧
      (t.lane l).mmu = y.mmu ∧ (t.lane l).dma = y.dma ∧ (t.lane l).cvu = y.cvu ∧ ∀ m, m ≠ l → (t.lane m).mmu = (s.lane m).mmu := by
  unfold State.dmaMove at h
  extract_lets x ch n at h
  split at h
  · cases h
  · next y moved =>
    cases h
    refine ⟨y, moved, ?_⟩
    simp only [lane_eq, State_countEvent_frame, get_set_same, true_and]
    exact fun m other => congrArg LaneS.mmu (get_set_ne _ l m y other)

/-- What a transfer stores, in the lane of its channel (R449). -/
theorem dmaMove_stores {s t : State} {l : Lane} {c upTo : Nat} {d : Descriptor} (cur : ((s.lane l).chan c).cur = some d)
    (h : s.dmaMove l c upTo = some t) :
    Stores (fun a => d.kind ≠ 2 ∧ (s.lane l).storesAt (d.dst.toNat + ((s.lane l).chan c).moved) (upTo - ((s.lane l).chan c).moved) a)
      (s.lane l) (t.lane l) := by
  obtain ⟨y, moved, mmu, -⟩ := dmaMove_lane h
  exact (advance_stores cur moved).then_mmu mmu

/-- A channel changed, and read. -/
@[simp] theorem chan_modChan_same (x : LaneS) (c : Nat) (f : DmaCh → DmaCh) : (x.modChan c f).chan c = f (x.chan c) :=
  Tab.getD_put_eq x.dma c _ .reset

@[simp] theorem chan_modUnit (x : LaneS) (u c : Nat) (f : CvuS → CvuS) : (x.modUnit u f).chan c = x.chan c := rfl

theorem dmaWrite_chan {x y : LaneS} {va c : Nat} {bs : List Byte} (h : x.dmaWrite va bs = some y) : y.chan c = x.chan c := by
  simp only [LaneS.dmaWrite, Option.map_eq_some_iff] at h
  obtain ⟨ws, -, rfl⟩ := h
  rfl

/-- A transfer under way counts the bytes that it moves, and leaves the rest of its channel alone (R453). -/
theorem advance_chan {x y : LaneS} {c n : Nat} {stream : List Byte} (h : x.advance c n stream = some y) :
    y.chan c = { x.chan c with moved := (x.chan c).moved + n } := by
  unfold LaneS.advance at h
  extract_lets ch at h
  split at h
  · cases h
  · extract_lets bytes at h
    clear_value bytes
    split at h
    · cases h
    · simp only [Option.map_eq_some_iff] at h
      obtain ⟨z, moved, rfl⟩ := h
      have kept : z.chan c = x.chan c := by
        split at moved
        · cases moved
          rfl
        · exact dmaWrite_chan moved
      rw [chan_modChan_same]
      split <;> simp [kept]

theorem dmaMove_chan {s t : State} {l : Lane} {c upTo : Nat} (h : s.dmaMove l c upTo = some t) :
    (t.lane l).chan c = { (s.lane l).chan c with moved := ((s.lane l).chan c).moved + (upTo - ((s.lane l).chan c).moved) } := by
  obtain ⟨y, moved, -, dma, -⟩ := dmaMove_lane h
  rw [← advance_chan moved, LaneS.chan, LaneS.chan, dma]

/-- A descriptor in progress that is good moves its bytes and passes the head (R450, R455). -/
theorem dmaCompleteOp_completes {l : Lane} {c : Nat} {d : Descriptor} {s u : State} (run : s.mod.mode.lanesRun = true)
    (running : ((s.lane l).chan c).st = .running) (bound : ((s.lane l).chan c).waiting = false) (cur : ((s.lane l).chan c).cur = some d)
    (good : d.good = true) (moved : s.dmaMove l c d.length = some u) :
    dmaCompleteOp l c s = (u.modLane l fun x => ((((x.postStatus c 1 0).unbindUnit c).passHead c).modChan c fun h =>
      { h with done := (h.done + 1) % 65536, notified := h.notified || d.notify }).startNext c).countEvent l 0x0402 1 none none := by
  unfold dmaCompleteOp
  simp only [cur, run, running, bound, good, moved, decide_true, Bool.not_false, Bool.and_self, if_true]

/-- A completed descriptor stores, beyond its transfer, its own status alone. -/
theorem completed_stores (u : State) (l : Lane) (c : Nat) (f : DmaCh → DmaCh) :
    Stores ((u.lane l).statusAt (((u.lane l).chan c).slotVa ((u.lane l).chan c).head)) (u.lane l)
      (((u.modLane l fun x => ((((x.postStatus c 1 0).unbindUnit c).passHead c).modChan c f).startNext c).countEvent l 0x0402 1 none none).lane l) := by
  refine (postStatus_stores (u.lane l) c 1 0).then_mmu ?_
  simp [LaneS.passHead]

theorem guarded_dmaMove_stores (s : State) (l : Lane) (c n : Nat) (due : Bool) (d : Descriptor)
    (cur : ((s.lane l).chan c).cur = some d) :
    Stores (fun a => d.kind ≠ 2 ∧ (s.lane l).storesAt (d.dst.toNat + ((s.lane l).chan c).moved) (n - ((s.lane l).chan c).moved) a) (s.lane l)
      ((if due then (s.dmaMove l c n).getD s else s).lane l) := by
  split
  · cases moved : s.dmaMove l c n with
    | none => exact .of_mmu _ rfl
    | some t => exact dmaMove_stores cur moved
  · exact .of_mmu _ rfl

theorem guarded_dmaMove_others (s : State) (l m : Lane) (c n : Nat) (due : Bool) (other : m ≠ l) :
    ((if due then (s.dmaMove l c n).getD s else s).lane m).mmu = (s.lane m).mmu := by
  split
  · cases moved : s.dmaMove l c n with
    | none => rfl
    | some t =>
      obtain ⟨-, -, -, -, -, others⟩ := dmaMove_lane moved
      exact others m other
  · rfl

theorem apart_of_kind {s : State} {l : Lane} {d : Descriptor} {va n a : Nat} (apart : d.kind = 2 ∨ ¬ (s.lane l).storesAt va n a) :
    ¬ (d.kind ≠ 2 ∧ (s.lane l).storesAt va n a) := fun ⟨kind, there⟩ => apart.elim kind fun h => h there

theorem modLane_mmu_other (s : State) (l m : Lane) (f : LaneS → LaneS) (other : m ≠ l) :
    ((s.modLane l f).lane m).mmu = (s.lane m).mmu := congrArg LaneS.mmu (get_modLane_ne s l m f other)

theorem dmaSuspendedOp_stores {l : Lane} {c n : Nat} {d : Descriptor} {s : State} (cur : ((s.lane l).chan c).cur = some d) :
    Stores (fun a => d.kind ≠ 2 ∧ (s.lane l).storesAt (d.dst.toNat + ((s.lane l).chan c).moved) (n - ((s.lane l).chan c).moved) a) (s.lane l)
      ((dmaSuspendedOp l c n s).lane l) := by
  unfold dmaSuspendedOp
  extract_lets h len s1
  split
  · have transfer : Stores _ (s.lane l) (s1.lane l) := guarded_dmaMove_stores s l c n _ d cur
    exact transfer.then_mmu (by simp)
  · exact .of_mmu _ rfl

theorem dmaSuspendedOp_others (l m : Lane) (c n : Nat) (s : State) (other : m ≠ l) :
    ((dmaSuspendedOp l c n s).lane m).mmu = (s.lane m).mmu := by
  unfold dmaSuspendedOp
  extract_lets h len s1
  split
  · exact (modLane_mmu_other s1 l m _ other).trans (guarded_dmaMove_others s l m c n _ other)
  · rfl

@[simp] theorem faultChan_mmu (x : LaneS) (c cause va : Nat) (write : Bool) : (x.faultChan c cause va write).mmu = x.mmu := by
  simp [LaneS.faultChan]

@[simp] theorem spoilTransfer_memory (s : State) (l : Lane) (c : Nat) : On (s.spoilTransfer l c) fun t =>
    SameIn (·.mmu) t s ∧ SameIn (·.dma) t s := by
  unfold On State.spoilTransfer
  dsimp only
  (repeat' split) <;> simp

/-- What a fault of a channel costs leaves the memories alone (R455, R456). -/
theorem dmaFaultOp_mmu {l : Lane} {c cause va n : Nat} {w : Bool} {s : State} (m : Lane) :
    ((dmaFaultOp l c cause va n w s).lane m).mmu = (s.lane m).mmu ∨
    ∃ due : Bool, ((dmaFaultOp l c cause va n w s).lane m).mmu = ((if due then (s.dmaMove l c n).getD s else s).lane m).mmu := by
  unfold dmaFaultOp
  extract_lets h live len good s1 s2 s3
  split
  · refine .inr ⟨good && decide (h.moved ≤ n) && decide (n < len), ?_⟩
    have kept : (s3.lane m).mmu = (s1.lane m).mmu := by simp [s3, s2]
    refine Eq.trans ?_ kept
    split <;> simp
  · exact .inl rfl

/-- Settles O12: a transfer stores at its destination, a completion at its descriptor's status besides. -/
theorem dmaMemoryFrame : Obligations.DmaMemoryFrame := by
  unfold Obligations.DmaMemoryFrame
  refine ⟨fun l c d u a s wf run running bound cur good moved apart own status => ?_, fun l c n d a s wf run running cur apart => ?_,
    fun l c k va n w d a s wf run running cur apart => ?_⟩
  · refine ⟨_, congrArg Host.Outcome.next (dmaCompleteOp_completes run running bound cur good moved), ?_, fun m other => ?_⟩
    · have transfer := dmaMove_stores cur moved
      have head : ((u.lane l).chan c.val).slotVa ((u.lane l).chan c.val).head = ((s.lane l).chan c.val).slotVa ((s.lane l).chan c.val).head := by
        rw [dmaMove_chan moved, DmaCh.slotVa, DmaCh.slotVa]
      have there : ¬ (u.lane l).statusAt (((u.lane l).chan c.val).slotVa ((u.lane l).chan c.val).head) a := by
        rw [head]
        exact fun h => h.elim own fun ⟨b, h⟩ => status b h
      exact ((completed_stores u l c.val _).other (transfer.wf wf) a there).trans (transfer.other wf a (apart_of_kind apart))
    · obtain ⟨-, -, -, -, -, others⟩ := dmaMove_lane moved
      refine Eq.trans ?_ (others m other)
      simpa using modLane_mmu_other u l m _ other
  · exact ⟨_, rfl, (dmaSuspendedOp_stores cur).other wf a (apart_of_kind apart), fun m other => dmaSuspendedOp_others l m c.val n s other⟩
  · refine ⟨_, rfl, ?_, fun m other => ?_⟩
    · obtain same | ⟨due, same⟩ := dmaFaultOp_mmu l (l := l) (c := c.val) (cause := k.code) (va := va.toNat) (n := n) (w := w) (s := s)
      · exact congrArg (MmuS.byte · a) same
      · exact (congrArg (MmuS.byte · a) same).trans ((guarded_dmaMove_stores s l c.val n due d cur).other wf a (apart_of_kind apart))
    · obtain same | ⟨due, same⟩ := dmaFaultOp_mmu m (l := l) (c := c.val) (cause := k.code) (va := va.toNat) (n := n) (w := w) (s := s)
      · exact same
      · exact same.trans (guarded_dmaMove_others s l m c.val n due other)

end Sys2Proof.Machine
end

section
/-!
SUPPORT. The commands of the DMA channels (R449–R455, R459, R473).
-/

namespace Sys2Proof.Machine

open Sys2Proof

/-! ### Channels of one lane -/

/-- A put leaves every other key alone, whatever the order of the table. -/
theorem tab_get_put_ne {α : Type} (t : Tab α) (k j : Nat) (v : α) (ne : j ≠ k) : Tab.get? (Tab.put t k v) j = Tab.get? t j := by
  induction t with
  | nil => simp [Tab.put, Tab.get?, ne]
  | cons p r ih =>
    obtain ⟨k', v'⟩ := p
    simp only [Tab.put]
    split
    next same => simp [Tab.get?, ← same, ne]
    next =>
      split
      · by_cases low : j < k
        · have lower : j ≠ k' ∧ j < k' := by omega
          simp [Tab.get?, ne, low, lower]
        · simp [Tab.get?, ne, low]
      · simp [Tab.get?, ih]

/-- A channel changed leaves the others alone. -/
theorem chan_modChan_ne (x : LaneS) (c k : Nat) (f : DmaCh → DmaCh) (ne : c ≠ k) : (x.modChan k f).chan c = x.chan c :=
  congrArg (Option.getD · DmaCh.reset) (tab_get_put_ne x.dma k c _ ne)

/-- Two channels are alike but for their unit and the wait for it (R473). -/
def SameTransfer (g h : DmaCh) : Prop := ∃ w b v, g = { h with waiting := w, bound := b, saved := v }

namespace SameTransfer

theorem refl (h : DmaCh) : SameTransfer h h := ⟨_, _, _, rfl⟩

theorem trans {f g h : DmaCh} (a : SameTransfer f g) (b : SameTransfer g h) : SameTransfer f h := by
  obtain ⟨_, _, _, rfl⟩ := a
  obtain ⟨_, _, _, rfl⟩ := b
  exact ⟨_, _, _, rfl⟩

/-- A change of a channel's unit or wait is none of its transfer. -/
theorem modChan (x : LaneS) (c k : Nat) (f : DmaCh → DmaCh) (hf : ∀ h, SameTransfer (f h) h) : SameTransfer ((x.modChan k f).chan c) (x.chan c) := by
  by_cases same : c = k
  · rw [same, chan_modChan_same]
    exact hf _
  · rw [chan_modChan_ne x c k f same]
    exact refl _

end SameTransfer

theorem bindUnit_sameTransfer (x : LaneS) (k c : Nat) : SameTransfer ((x.bindUnit k).chan c) (x.chan c) := by
  unfold LaneS.bindUnit
  dsimp only
  split
  · split
    · split
      · exact .modChan x c k _ fun h => ⟨_, _, _, rfl⟩
      · exact .modChan _ c k _ fun h => ⟨_, _, _, rfl⟩
    · exact .refl _
  · exact .refl _

theorem unbindUnit_sameTransfer (x : LaneS) (k c : Nat) : SameTransfer ((x.unbindUnit k).chan c) (x.chan c) := by
  unfold LaneS.unbindUnit
  split
  · next u _ =>
    extract_lets x1 wants
    have unbound : SameTransfer (x1.chan c) (x.chan c) := .modChan _ c k _ fun h => ⟨_, _, _, rfl⟩
    split
    · exact (bindUnit_sameTransfer x1 _ c).trans unbound
    · exact unbound
  · exact .refl _

theorem dmaRead_of_mmu {x y : LaneS} (h : y.mmu = x.mmu) (va n : Nat) : y.dmaRead va n = x.dmaRead va n := by
  unfold LaneS.dmaRead
  rw [h]

/-- A channel takes the descriptor at its head (R450). -/
theorem startNext_takes {x : LaneS} {c : Nat} {bs : List Byte} (enabled : (x.chan c).enable = true) (size : 2 ≤ (x.chan c).size)
    (offered : (x.chan c).head ≠ (x.chan c).tail % (x.chan c).size)
    (read : x.dmaRead ((x.chan c).slotVa (x.chan c).head) 32 = some bs) (own : (descriptorOf bs).own = true) :
    SameTransfer ((x.startNext c).chan c) { x.chan c with st := .running, cur := some (descriptorOf bs), moved := 0 } := by
  have due : ((x.chan c).enable && decide (2 ≤ (x.chan c).size) && decide ((x.chan c).head ≠ (x.chan c).tail % (x.chan c).size)) = true := by
    simp [enabled, size, offered]
  unfold LaneS.startNext
  dsimp only
  rw [if_pos due, read]
  dsimp only
  rw [if_pos own]
  refine (bindUnit_sameTransfer _ c c).trans ?_
  rw [chan_modChan_same]
  exact ⟨_, _, _, rfl⟩

/-- A ring of fewer than two descriptors is empty. -/
theorem startNext_empty {x : LaneS} {c : Nat} (size : (x.chan c).size < 2) :
    (x.startNext c).chan c = { x.chan c with st := .idle, cur := none, moved := 0 } := by
  unfold LaneS.startNext
  have small : ¬ 2 ≤ (x.chan c).size := Nat.not_le.2 size
  simp [small]

/-- Two channels are alike but for the transfer and its unit. -/
def SameRing (g h : DmaCh) : Prop :=
  g.enable = h.enable ∧ g.head = h.head ∧ g.tail = h.tail ∧ g.size = h.size ∧ g.base = h.base ∧ g.done = h.done ∧ g.notified = h.notified

theorem SameTransfer.sameRing {g h : DmaCh} (same : SameTransfer g h) : SameRing g h := by
  obtain ⟨_, _, _, rfl⟩ := same
  exact ⟨rfl, rfl, rfl, rfl, rfl, rfl, rfl⟩

theorem SameRing.trans {f g h : DmaCh} (a : SameRing f g) (b : SameRing g h) : SameRing f h := by
  simp only [SameRing] at *
  simp [a, b]

theorem startNext_sameRing (x : LaneS) (c : Nat) : SameRing ((x.startNext c).chan c) (x.chan c) := by
  have changed (f : DmaCh → DmaCh) (hf : ∀ h, SameRing (f h) h) : SameRing ((x.modChan c f).chan c) (x.chan c) := by
    rw [chan_modChan_same]
    exact hf _
  unfold LaneS.startNext
  dsimp only
  split
  · split
    · split
      · exact (bindUnit_sameTransfer _ c c).sameRing.trans (changed _ fun h => ⟨rfl, rfl, rfl, rfl, rfl, rfl, rfl⟩)
      · exact changed _ fun h => ⟨rfl, rfl, rfl, rfl, rfl, rfl, rfl⟩
    · exact changed _ fun h => ⟨rfl, rfl, rfl, rfl, rfl, rfl, rfl⟩
  · exact changed _ fun h => ⟨rfl, rfl, rfl, rfl, rfl, rfl, rfl⟩

/-! ### The requests of the main core to a channel -/

theorem enableChan_takes {x : LaneS} {c : Nat} {bs : List Byte} (idle : (x.chan c).st = .idle) (size : 2 ≤ (x.chan c).size)
    (offered : (x.chan c).head ≠ (x.chan c).tail % (x.chan c).size)
    (read : x.dmaRead ((x.chan c).slotVa (x.chan c).head) 32 = some bs) (own : (descriptorOf bs).own = true) :
    SameTransfer ((x.enableChan c true).chan c) { x.chan c with enable := true, st := .running, cur := some (descriptorOf bs), moved := 0 } := by
  have taken := startNext_takes (x := x.modChan c fun h => { h with enable := true }) (c := c) (bs := bs)
  rw [chan_modChan_same] at taken
  unfold LaneS.enableChan
  simpa only [idle, if_true] using taken rfl size offered read own

theorem enableChan_empty {x : LaneS} {c : Nat} (idle : (x.chan c).st = .idle) (size : (x.chan c).size < 2) :
    (x.enableChan c true).chan c = { x.chan c with enable := true, st := .idle, cur := none, moved := 0 } := by
  have empty := startNext_empty (x := x.modChan c fun h => { h with enable := true }) (c := c)
  rw [chan_modChan_same] at empty
  unfold LaneS.enableChan
  simpa only [idle, if_true] using empty size

theorem enableChan_off (x : LaneS) (c : Nat) :
    ((x.enableChan c false).chan c).enable = false ∧ ((x.enableChan c false).chan c).st = .idle ∧ ((x.enableChan c false).chan c).cur = none := by
  simp [LaneS.enableChan]

theorem suspendChan_running {x : LaneS} {c : Nat} (running : (x.chan c).st = .running) :
    (x.suspendChan c).chan c = { x.chan c with st := .suspending } := by
  simp [LaneS.suspendChan, running]

/-- A transfer that uses no unit goes on as it was (R453). -/
theorem resumeReq_plain {x : LaneS} {c : Nat} {d : Descriptor} (suspended : (x.chan c).st = .suspended) (cur : (x.chan c).cur = some d)
    (plain : d.snoop = false) : (x.resumeReq c).chan c = { x.chan c with st := .running, cause := 0 } := by
  simp [LaneS.resumeReq, suspended, LaneS.resumeChan, cur, LaneS.bindUnit, plain]

theorem postStatus_chan (x : LaneS) (c k result cause : Nat) : (x.postStatus c result cause).chan k = x.chan k := by
  have kept (y : LaneS) (va : Nat) (bs : List Byte) : ((y.dmaWrite va bs).getD y).chan k = y.chan k := by
    cases h : y.dmaWrite va bs with
    | none => rfl
    | some z => exact dmaWrite_chan h
  unfold LaneS.postStatus
  dsimp only
  split
  · rw [kept, kept]
  · rfl

theorem passHead_chan (x : LaneS) (c : Nat) : (x.passHead c).chan c =
    { x.chan c with head := ((x.chan c).head + 1) % max 1 (x.chan c).size, cur := none, moved := 0, waiting := false, saved := false } :=
  chan_modChan_same x c _

/-- The head passes, and the next descriptor is taken, if there is one (R450, R455). -/
theorem passed_head (x : LaneS) (c : Nat) (f : DmaCh → DmaCh) (hf : ∀ h, (f h).head = h.head) :
    (((((x.unbindUnit c).passHead c).modChan c f).startNext c).chan c).head = ((x.chan c).head + 1) % max 1 (x.chan c).size := by
  obtain ⟨-, head, -⟩ := startNext_sameRing (((x.unbindUnit c).passHead c).modChan c f) c
  obtain ⟨_, _, _, unbound⟩ := unbindUnit_sameTransfer x c c
  rw [head, chan_modChan_same, hf, passHead_chan, unbound]

theorem passed_count (x : LaneS) (c : Nat) (f : DmaCh → DmaCh) (g : Nat → Nat) (k : Bool → Bool)
    (hf : ∀ h, (f h).done = g h.done ∧ (f h).notified = k h.notified) :
    (((((x.unbindUnit c).passHead c).modChan c f).startNext c).chan c).done = g (x.chan c).done ∧
    (((((x.unbindUnit c).passHead c).modChan c f).startNext c).chan c).notified = k (x.chan c).notified := by
  obtain ⟨-, -, -, -, -, done, notified⟩ := startNext_sameRing (((x.unbindUnit c).passHead c).modChan c f) c
  obtain ⟨_, _, _, unbound⟩ := unbindUnit_sameTransfer x c c
  rw [done, notified, chan_modChan_same, (hf _).1, (hf _).2, passHead_chan, unbound]
  exact ⟨rfl, rfl⟩

theorem abortChan_passes {x : LaneS} {c : Nat} (busy : (x.chan c).st ≠ .idle) :
    ((x.abortChan c).chan c).head = ((x.chan c).head + 1) % max 1 (x.chan c).size ∧ ((x.abortChan c).chan c).done = (x.chan c).done := by
  have passes (w : LaneS) (same : w.chan c = x.chan c) (f : DmaCh → DmaCh) (hf : ∀ h, (f h).head = h.head ∧ (f h).done = h.done ∧
      (f h).notified = h.notified) :
      (((((w.unbindUnit c).passHead c).modChan c f).startNext c).chan c).head = ((x.chan c).head + 1) % max 1 (x.chan c).size ∧
      (((((w.unbindUnit c).passHead c).modChan c f).startNext c).chan c).done = (x.chan c).done := by
    rw [← same]
    exact ⟨passed_head w c f fun h => (hf h).1, (passed_count w c f id id fun h => (hf h).2).1⟩
  unfold LaneS.abortChan
  dsimp only
  rw [if_neg busy]
  refine passes _ ((postStatus_chan ..).trans ?_) _ fun _ => ⟨rfl, rfl, rfl⟩
  (repeat' split) <;> rfl

theorem offer_busy {x : LaneS} {c tail : Nat} (busy : (x.chan c).st ≠ .idle) : (x.offer c tail).chan c = { x.chan c with tail := tail } := by
  simp [LaneS.offer, busy]

theorem faultChan_faulted (x : LaneS) (c cause va : Nat) (write : Bool) : ((x.faultChan c cause va write).chan c).st = .faulted ∧
    ((x.faultChan c cause va write).chan c).cause = cause ∧ ((x.faultChan c cause va write).chan c).faultVa = BitVec.ofNat 32 va := by
  simp [LaneS.faultChan]

/-! ### A lane's channel after a register write -/

/-- A request to a lane's channels that runs finds its channels and memory, and leaves the other lanes alone (R352). -/
theorem channelWrite {s : State} {l : Lane} (ofs : Nat) (v : Word) (request : State → State) (f : LaneS → LaneS) (runs : s.regsRun l = true)
    (room : RegisterRoom s l) (does : ∀ s, request s = s.onChannels l f) :
    ∃ x : LaneS, (∀ c, x.chan c = (s.lane l).chan c) ∧ x.mmu = (s.lane l).mmu ∧
      (∀ c, ((s.regWrite l ofs v request).lane l).chan c = (f x).chan c) ∧ ∀ m, m ≠ l → (s.regWrite l ofs v request).lane m = s.lane m := by
  have empty : ¬ 8 ≤ (s.lane l).core.cmpBuf.length := Nat.not_le.2 (room runs)
  unfold State.regWrite State.throughBogie
  rw [if_pos runs]
  dsimp only
  rw [if_neg empty]
  generalize entered : s.bump.modCore l _ = s1
  have still : s1.regsRun l = true := by
    have mode : s1.mod = s.mod := by simp [← entered]
    have st : s1.laneSt l = s.laneSt l := by simp [← entered]
    rwa [State.regsRun, mode, st]
  have same (m : Lane) (other : m ≠ l) : s1.lane m = s.lane m := by
    rw [← entered]
    exact get_modLane_ne s.bump l m _ other
  have dma : (s1.lane l).dma = (s.lane l).dma ∧ (s1.lane l).mmu = (s.lane l).mmu := by simp [← entered]
  clear entered
  rw [does, State.onChannels, if_pos still]
  refine ⟨s1.lane l, fun c => congrArg (fun t => Tab.getD t c DmaCh.reset) dma.1, dma.2, fun c => ?_, fun m other => ?_⟩
  · simp [State.modCore, LaneS.chan]
  · exact (get_modLane_ne _ l m _ other).trans ((get_modLane_ne s1 l m f other).trans (same m other))

/-- What a lane's channels are after work on the lane that is counted (R477). -/
theorem worked_chan (s : State) (l : Lane) (c ev n : Nat) (f : LaneS → LaneS) :
    (((s.modLane l f).countEvent l ev n none none).lane l).chan c = (f (s.lane l)).chan c := by
  simp [LaneS.chan]

/-! ### The obligation -/

/-- Settles O28: each request finds its channel past the compare buffer, and each end of a transfer leaves it as its rule says. -/
theorem dmaCommands : Obligations.DmaCommands := by
  unfold Obligations.DmaCommands
  refine ⟨fun l c bs s runs room idle size offered read own => ?_, fun l c s runs room idle size => ?_, fun l c s runs room => ?_,
    fun l c s runs room running => ?_, fun l c n s run suspending => ?_, fun l c d s runs room suspended cur plain => ?_,
    fun l c s runs room busy => ?_, fun l c n s runs room busy => ?_, fun l c d s run running bound cur good moved => ?_,
    fun l c k va n w s run running guard => ?_⟩
  · obtain ⟨x, same, mmu, chan, -⟩ := channelWrite (dmaReg c.val 0) _ (dmaEnableOp l c.val true) _ runs room fun _ => rfl
    obtain ⟨_, _, _, taken⟩ := enableChan_takes (x := x) (c := c.val) (bs := bs) (by rw [same, idle]) (by rwa [same]) (by rwa [same])
      (by rwa [same, dmaRead_of_mmu mmu]) own
    refine ⟨_, rfl, ?_⟩
    beta_reduce
    rw [chan, taken]
    exact ⟨rfl, rfl, rfl, rfl⟩
  · obtain ⟨x, same, -, chan, -⟩ := channelWrite (dmaReg c.val 0) _ (dmaEnableOp l c.val true) _ runs room fun _ => rfl
    refine ⟨_, rfl, ?_⟩
    beta_reduce
    rw [chan, enableChan_empty (by rw [same, idle]) (by rwa [same])]
    exact ⟨rfl, rfl⟩
  · obtain ⟨x, -, -, chan, -⟩ := channelWrite (dmaReg c.val 0) _ (dmaEnableOp l c.val false) _ runs room fun _ => rfl
    refine ⟨_, rfl, ?_⟩
    beta_reduce
    rw [chan]
    exact enableChan_off x c.val
  · obtain ⟨x, same, -, chan, others⟩ := channelWrite (dmaReg c.val 0) 2 (dmaSuspendOp l c.val) _ runs room fun _ => rfl
    exact ⟨_, rfl, (chan c).trans (by rw [suspendChan_running (by rw [same, running]), same]), others⟩
  · refine ⟨_, rfl, ?_⟩
    have due : (s.mod.mode.lanesRun && decide (((s.lane l).chan c).st = .suspending)) = true := by
      rw [run, suspending]
      rfl
    unfold dmaSuspendedOp
    extract_lets h len s1
    rw [if_pos due]
    simp
  · obtain ⟨x, same, -, chan, others⟩ := channelWrite (dmaReg c.val 0) 4 (dmaResumeOp l c.val) _ runs room fun _ => rfl
    exact ⟨_, rfl, (chan c).trans (by rw [resumeReq_plain (by rw [same, suspended]) (by rw [same, cur]) plain, same]), others⟩
  · obtain ⟨x, same, -, chan, -⟩ := channelWrite (dmaReg c.val 0) 8 (dmaAbortOp l c.val) _ runs room fun _ => rfl
    refine ⟨_, rfl, ?_⟩
    beta_reduce
    rw [chan, ← same]
    exact abortChan_passes (by rwa [same])
  · obtain ⟨x, same, -, chan, others⟩ := channelWrite (dmaReg c.val 0x14) _ (dmaTailOp l c.val n.toNat) _ runs room fun _ => rfl
    exact ⟨_, rfl, (chan c).trans (by rw [offer_busy (by rwa [same]), same]), others⟩
  · obtain ⟨u, moves⟩ := Option.isSome_iff_exists.1 moved
    refine ⟨_, congrArg Host.Outcome.next (dmaCompleteOp_completes run running bound cur good moves), ?_⟩
    have counted := passed_count ((u.lane l).postStatus c.val 1 0) c.val
      (fun h => { h with done := (h.done + 1) % 65536, notified := h.notified || d.notify }) (fun n => (n + 1) % 65536) (· || d.notify)
      fun _ => ⟨rfl, rfl⟩
    have passed := passed_head ((u.lane l).postStatus c.val 1 0) c.val
      (fun h => { h with done := (h.done + 1) % 65536, notified := h.notified || d.notify }) fun _ => rfl
    rw [postStatus_chan, dmaMove_chan moves] at counted passed
    beta_reduce
    rw [worked_chan]
    exact ⟨counted.1, passed, counted.2⟩
  · refine ⟨_, rfl, ?_⟩
    have due : (s.mod.mode.lanesRun && (decide (((s.lane l).chan c).st = .running) || decide (((s.lane l).chan c).st = .suspending)) &&
        decide (1 ≤ k.code) && decide (k.code ≤ 7)) = true := by
      rw [run, running]
      cases k with
      | guard => exact absurd rfl guard
      | _ => rfl
    unfold dmaFaultOp
    extract_lets h live len good s1 s2 s3
    rw [if_pos due]
    have faulted := faultChan_faulted (s1.lane l) c.val k.code va.toNat w
    have kept : (s3.lane l).chan c = ((s1.lane l).faultChan c.val k.code va.toNat w).chan c := by simp [s3, s2, LaneS.chan]
    have last : ((if k.code ≤ 5 then s3.spoilTransfer l c else s3).lane l).chan c = (s3.lane l).chan c := by
      split <;> simp [LaneS.chan]
    beta_reduce
    rw [last, kept]
    simpa using faulted

end Sys2Proof.Machine
end

section
/-!
SUPPORT. The step's front command, and the memories at reset.
-/

namespace Sys2Proof.Machine

open Sys2Proof

/-- Settles O1: `step` is defined by the queue's front. -/
theorem stepRunsFront : Obligations.StepRunsFront := by
  unfold Obligations.StepRunsFront
  refine ⟨fun c q s => ?_, fun s empty => ?_⟩
  · rfl
  · unfold step
    rw [empty]

/-- Settles O3: at reset no lane's memory lists a byte. -/
theorem memoryCanonicalAtReset : Obligations.MemoryCanonicalAtReset := by
  intro l
  cases l <;> exact ⟨rfl, rfl, rfl⟩

end Sys2Proof.Machine
end

section
/-!
SUPPORT. Repeats of open records (R391).
-/

namespace Sys2Proof.Machine

open Sys2Proof

variable {s : State} {ty : Nat} {body : List Byte} {ln : Option Lane} {hk : Bool}

/-- The store with a repeat of the record at an index counted (R391). -/
def repeatedStore (o : OpenRec) (store : List Record) : List Record :=
  store.map fun r => if r.index = o.index then { r with rep := r.rep + 1, interleaved := r.interleaved || o.laterSinceRepeat } else r

/-- A record of the kind of an open one counts as its repeat, and closes it at the last number. -/
theorem writeRecord_repeats {o : OpenRec} (heard : s.mod.hkLost = false) (thawed : s.rcd.freeze = none)
    (same : (s.rcd.opened.find? fun o => s.rcd.store.any fun r => decide (r.index = o.index) && sameRecord r ty body ln) = some o) :
    On (s.writeRecord ty body ln hk) fun t => t.rcd.store = repeatedStore o s.rcd.store ∧ t.rcd.writeIndex = s.rcd.writeIndex ∧
      ((repeatedStore o s.rcd.store).any (fun r => decide (r.index = o.index) && decide (r.rep = 0xFFFF)) = true →
        ∀ p ∈ t.rcd.opened, p.index ≠ o.index) := by
  unfold On State.writeRecord
  rw [if_neg (by rw [heard]; decide)]
  dsimp only
  rw [thawed]
  dsimp only
  rw [same]
  dsimp only
  split
  next last =>
    rw [closeRecord_rcd]
    exact ⟨rfl, rfl, fun _ p mem => by simpa using (List.mem_filter.1 mem).2⟩
  next more => exact ⟨rfl, rfl, fun last => absurd last more⟩

/-- The repeat that reaches the last number stands in the store. -/
theorem repeatedStore_last {o : OpenRec} {store : List Record} (last : ∃ r ∈ store, r.index = o.index ∧ r.rep + 1 = 0xFFFF) :
    (repeatedStore o store).any (fun r => decide (r.index = o.index) && decide (r.rep = 0xFFFF)) = true := by
  obtain ⟨r, mem, index, rep⟩ := last
  refine List.any_eq_true.2 ⟨_, List.mem_map.2 ⟨r, mem, rfl⟩, ?_⟩
  rw [if_pos index]
  simp [index, rep]

/-- A record of no open record's kind is a new one (R391). -/
theorem writeRecord_new (heard : s.mod.hkLost = false) (thawed : s.rcd.freeze = none)
    (other : (s.rcd.opened.find? fun o => s.rcd.store.any fun r => decide (r.index = o.index) && sameRecord r ty body ln) = none) :
    s.writeRecord ty body ln hk = s.appendRecord ⟨0, ty, 0, false, ln, hk, false, s.rcd.powerCycles, s.rcd.opTime, s.recCycle, body⟩ := by
  unfold State.writeRecord
  rw [if_neg (by rw [heard]; decide)]
  dsimp only
  rw [thawed]
  dsimp only
  rw [other]
  rfl

/-- Settles O16: an open record of the same kind is found or is not. -/
theorem recordRepeat : Obligations.RecordRepeat := by
  unfold Obligations.RecordRepeat
  refine ⟨fun ty body ln hk o s heard thawed same => ?_, fun ty body ln hk s heard thawed short other => ?_⟩
  · obtain ⟨store, index, closes⟩ := writeRecord_repeats (hk := hk) heard thawed same
    exact ⟨store, index, fun last => closes (repeatedStore_last last)⟩
  · rw [writeRecord_new heard thawed other]
    obtain ⟨stored, -⟩ := appendRecord_store s ⟨0, ty, 0, false, ln, hk, false, s.rcd.powerCycles, s.rcd.opTime, s.recCycle, body⟩
      (by dsimp only; omega)
    exact ⟨(appendRecord_rcd s _).2, _, stored, rfl, rfl, rfl, rfl, rfl, rfl⟩

end Sys2Proof.Machine
end

section
/-!
SUPPORT. Copies of records, their closing, and the drain of the rings (R386, R388, R390, R394).
-/

namespace Sys2Proof.Machine

open Sys2Proof

/-! ### What the writing of records leaves of the recorder -/

/-- The lanes' copies of records, the rings' copies of cycles, the events that found no room, and the bounds of the sillage. -/
def RecS.rings (r : RecS) : List PendingCopy × List SilCopy × Nat × Nat × Nat := (r.pending, r.copies, r.lostRing, r.silOldest, r.silIndex)

theorem rings_eq_iff (r r' : RecS) : r.rings = r'.rings ↔ r.pending = r'.pending ∧ r.copies = r'.copies ∧ r.lostRing = r'.lostRing ∧
    r.silOldest = r'.silOldest ∧ r.silIndex = r'.silIndex := by
  simp [RecS.rings]

@[simp] theorem recS_trim_rings (r : RecS) : r.trim.rings = r.rings := by
  unfold RecS.trim
  split <;> rfl

@[simp] theorem appendRecord_rings (s : State) (r : Record) : (s.appendRecord r).rcd.rings = s.rcd.rings := by
  unfold State.appendRecord
  extract_lets rcd later r' s1
  rw [each_closeRecord_rcd]
  exact recS_trim_rings _

theorem closeRecord_rings (s : State) (index : Nat) : (s.closeRecord index).rcd.rings = s.rcd.rings := by
  rw [closeRecord_rcd]
  rfl

@[simp] theorem writeRecord_rings (s : State) (type : Nat) (payload : List Byte) (lane : Option Lane) (hk : Bool) :
    (s.writeRecord type payload lane hk).rcd.rings = s.rcd.rings := by
  unfold State.writeRecord
  extract_lets rcd fresh
  split
  · rfl
  split
  · split
    · rfl
    · split <;> rfl
  · split
    · extract_lets store opened s1
      split
      · exact closeRecord_rings s1 _
      · rfl
    · exact appendRecord_rings s fresh

@[simp] theorem recordHk_rings (s : State) (type : Nat) (payload : List Byte) : (s.recordHk type payload).rcd.rings = s.rcd.rings :=
  writeRecord_rings ..

/-! ### Copies of a record -/

/-- A copy that no lane but this one can match waits (R388). -/
theorem placeRecord_waits {s : State} {l : Lane} {ty : Nat} {body : List Byte}
    (own : ∀ p ∈ s.rcd.pending, p.type = ty → p.payload = body → p.lanes.get l = true) : s.placeRecord l ty body =
      { s with rcd := { s.rcd with pending := s.rcd.pending ++ [⟨ty, body, LaneSet.single l, s.recCycle, s.rcd.opTime⟩] } } := by
  unfold State.placeRecord
  extract_lets mine
  split
  next p _ found =>
    have mem := List.mem_of_find?_eq_some found
    have free := List.find?_some found
    simp only [mine, Bool.and_eq_true, decide_eq_true_eq, Bool.not_eq_true'] at free
    obtain ⟨⟨type, payload⟩, other⟩ := free
    exact absurd (own p mem type payload) (ne_true_of_eq_false other)
  next => rfl

/-- The copies that have waited too long leave the pending ones, and are written. -/
theorem recordCopyTimeoutOp_pending (s : State) : On (recordCopyTimeoutOp s) fun t =>
    t.rcd.pending = s.rcd.pending.filter (fun p => !decide (p.since + 20 ≤ s.rcd.opTime)) ∧ t.mod = s.mod := by
  unfold On recordCopyTimeoutOp
  extract_lets old due src s1
  have written : s1.rcd.pending = s.rcd.pending.filter (fun p => !decide (p.since + 20 ≤ s.rcd.opTime)) ∧ s1.mod = s.mod := by
    refine List.foldlRecOn (motive := fun t : State => t.rcd.pending = _ ∧ t.mod = s.mod) due _ ⟨rfl, rfl⟩ fun t kept p _ => ?_
    refine List.foldlRecOn (motive := fun t : State => t.rcd.pending = _ ∧ t.mod = s.mod) _ _ kept fun t kept l _ => ?_
    exact ⟨((rings_eq_iff _ _).1 (writeRecord_rings t _ _ _ _)).1.trans kept.1, by simp [kept.2]⟩
  refine List.foldlRecOn (motive := fun t : State => t.rcd.pending = _ ∧ t.mod = s.mod) _ _ written fun t kept ty _ => ?_
  exact ⟨((rings_eq_iff _ _).1 (recordHk_rings t _ _)).1.trans kept.1, by simp [kept.2]⟩

/-! ### Records that stay -/

/-- A record of a kind stands in the store, which has room for more. -/
def Stands (ty : Nat) (body : List Byte) (ln : Option Lane) (t : State) : Prop := ∃ r ∈ t.rcd.store, sameRecord r ty body ln = true

theorem storeBytes_append (l : List Record) (r : Record) : storeBytes (l ++ [r]) = storeBytes l + 24 + r.payload.length := by
  simp [storeBytes]

/-- With room in the partition a new record gives up none. -/
theorem appendRecord_room {s : State} {r : Record} (room : storeBytes s.rcd.store + 24 + r.payload.length ≤ 2 ^ 32) :
    (s.appendRecord r).rcd.store = s.rcd.store ++ [{ r with index := s.rcd.writeIndex }] := by
  unfold State.appendRecord
  extract_lets rcd later r' s1
  rw [each_closeRecord_rcd]
  dsimp only [s1]
  unfold RecS.trim
  rw [if_neg (Nat.not_lt.2 (by simpa [storeBytes_append] using room))]

/-- A record of an open one's kind is counted in the store in place. -/
theorem repeatedStore_stands {o : OpenRec} {ty : Nat} {body : List Byte} {ln : Option Lane} {store : List Record}
    (stands : ∃ r ∈ store, sameRecord r ty body ln = true) : ∃ r ∈ repeatedStore o store, sameRecord r ty body ln = true := by
  obtain ⟨r, mem, same⟩ := stands
  refine ⟨_, List.mem_map.2 ⟨r, mem, rfl⟩, ?_⟩
  split
  · exact same
  · exact same

theorem storeBytes_repeatedStore (o : OpenRec) (store : List Record) : storeBytes (repeatedStore o store) = storeBytes store := by
  unfold storeBytes repeatedStore
  rw [List.foldl_map]
  congr 1
  funext n r
  split <;> rfl

/-- What is written while there is room leaves the records that stand, and takes no more than its own. -/
theorem writeRecord_stands {s : State} {ty' : Nat} {body' : List Byte} {ln' : Option Lane} {hk : Bool} {ty : Nat} {body : List Byte}
    {ln : Option Lane} (thawed : s.rcd.freeze = none) (room : storeBytes s.rcd.store + 24 + body'.length ≤ 2 ^ 32)
    (stands : Stands ty body ln s) : Stands ty body ln (s.writeRecord ty' body' ln' hk) := by
  by_cases lost : s.mod.hkLost = true
  · rwa [State.writeRecord, if_pos lost]
  rw [Bool.not_eq_true] at lost
  unfold Stands
  cases same : s.rcd.opened.find? fun o => s.rcd.store.any fun r => decide (r.index = o.index) && sameRecord r ty' body' ln' with
  | some o =>
    rw [(writeRecord_repeats lost thawed same).1]
    exact repeatedStore_stands stands
  | none =>
    rw [writeRecord_new lost thawed same, appendRecord_room (by exact room)]
    obtain ⟨r, mem, same⟩ := stands
    exact ⟨r, List.mem_append_left _ mem, same⟩

/-- A new record stands in the store. -/
theorem appendRecord_stands {s : State} {r : Record} (room : storeBytes s.rcd.store + 24 + r.payload.length ≤ 2 ^ 32) :
    Stands r.type r.payload r.lane (s.appendRecord r) := by
  unfold Stands
  rw [appendRecord_room room]
  exact ⟨_, List.mem_append_right _ (List.mem_singleton_self _), by simp [sameRecord]⟩

/-- A set of one lane lists its first. -/
theorem list_of_count_one {ls : LaneSet} (one : LaneSet.count ls = 1) : ∃ l, LaneSet.list ls = [l] ∧ LaneSet.first ls = some l := by
  obtain ⟨l, alone⟩ := List.length_eq_one_iff.1 one
  exact ⟨l, alone, by rw [LaneSet.first, alone]; rfl⟩

/-- A copy that has waited too long alone is written with its own lane, and RECORD_DISAGREE after it (R388). -/
theorem recordCopyTimeoutOp_alone {p : PendingCopy} {s : State} (alone : s.rcd.pending = [p]) (old : p.since + 20 ≤ s.rcd.opTime)
    (one : LaneSet.count p.lanes = 1) (heard : s.mod.hkLost = false) (thawed : s.rcd.freeze = none) (closed : s.rcd.opened = [])
    (short : p.payload.length ≤ 976) (room : storeBytes s.rcd.store ≤ 2147483648) :
    Stands p.type p.payload (LaneSet.first p.lanes) (recordCopyTimeoutOp s) := by
  obtain ⟨l, listed, first⟩ := list_of_count_one one
  have due : ([p].filter fun p => decide (p.since + 20 ≤ s.rcd.opTime) && decide (LaneSet.count p.lanes < 2)) = [p] := by
    simp [old, one]
  rw [recordCopyTimeoutOp, alone, due, first]
  simp only [State.each, State.forLanes, List.foldl_cons, List.foldl_nil, listed, List.map_cons, List.map_nil, List.eraseDups_cons,
    List.filter_nil, List.eraseDups_nil]
  rw [writeRecord_appends (by exact heard) (by exact thawed) (by exact closed)]
  refine writeRecord_stands ((appendRecord_rcd _ _).1.trans thawed) ?_ (appendRecord_stands ?_)
  · rw [appendRecord_room (by dsimp only; omega), storeBytes_append]
    simp [fields, leBytes_length]
    omega
  · dsimp only
    omega

/-! ### The drain of the rings -/

/-- The rings are drained, and the sillage's bounds have not gone back below some numbers. -/
def Drained (oldest index : Nat) (t : State) : Prop :=
  t.rcd.copies = [] ∧ t.rcd.lostRing = 0 ∧ oldest ≤ t.rcd.silOldest ∧ index ≤ t.rcd.silIndex

namespace Drained

variable {oldest index : Nat} {s t : State}

theorem of_rings (h : Drained oldest index s) (same : t.rcd.rings = s.rcd.rings) : Drained oldest index t := by
  obtain ⟨-, copies, lost, old, new⟩ := (rings_eq_iff _ _).1 same
  unfold Drained
  rwa [copies, lost, old, new]

theorem each {α : Type} (f : State → α → State) (hf : ∀ s x, Drained oldest index s → Drained oldest index (f s x)) (l : List α)
    (h : Drained oldest index s) : Drained oldest index (s.each l f) :=
  List.foldlRecOn (motive := Drained oldest index) l f h fun t kept x _ => hf t x kept

theorem silTrim_le (total old : Nat) (l : List SilRecord) : old ≤ (silTrim total old l).1 := by
  induction l generalizing total old with
  | nil => exact le_rfl
  | cons r l ih =>
    unfold silTrim
    dsimp only
    split
    · exact (Nat.le_succ old).trans (ih _ _)
    · exact le_rfl

/-- A stream moves both bounds forward only (R408). -/
theorem writeStream (h : Drained oldest index s) (cycle : Word) (kind : Nat) (stream : List Byte) :
    Drained oldest index (s.writeStream cycle kind stream) := by
  obtain ⟨copies, lost, old, new⟩ := h
  exact ⟨copies, lost, old.trans (silTrim_le _ _ _), new.trans (Nat.le_add_right _ _)⟩

theorem flushGap (h : Drained oldest index s) : Drained oldest index s.flushGap := by
  unfold State.flushGap
  (repeat' split)
  · exact h
  · exact h.of_rings (recordHk_rings _ _ _)
  · exact h

theorem answerMark (h : Drained oldest index s) (i : Nat) : Drained oldest index (s.answerMark i) := by
  unfold State.answerMark
  split
  · exact h
  · exact h.of_rings (by simp [State.replyHk]; rfl)

theorem writeCopy (h : Drained oldest index s) (c : SilCopy) : Drained oldest index (s.writeCopy c) := by
  unfold State.writeCopy
  extract_lets s1 base mark i s2 _ s3
  exact answerMark (s := s3) (h.flushGap.writeStream _ _ _) i

theorem writeCycle (h : Drained oldest index s) (c : SilCopy) : Drained oldest index (s.writeCycle c) := by
  unfold State.writeCycle
  extract_lets base s1 keys s2
  have written : Drained oldest index s1 := by
    simp only [s1]
    split
    · exact h
    · exact h.writeCopy c
  exact (written.each _ (fun t k kept => kept.writeStream _ _ _) keys :)

theorem noteWear (h : Drained oldest index s) (sil : Bool) : Drained oldest index (s.noteWear sil) := by
  unfold State.noteWear
  extract_lets old new _ s1
  have noted : Drained oldest index s1 := by
    simp only [s1]
    unfold Drained
    split <;> exact h
  exact List.foldlRecOn (motive := Drained oldest index) _ _ noted fun t kept _ _ => kept.of_rings (recordHk_rings _ _ _)

end Drained

/-- The rings are drained of every copy, in cycle order (R386). -/
theorem ringDrainOp_drains {s : State} (heard : s.mod.hkLost = false) (run : s.mod.mode.lanesRun = true) :
    Drained s.rcd.silOldest s.rcd.silIndex (ringDrainOp s) := by
  unfold ringDrainOp
  rw [if_neg (by rw [heard, run]; decide)]
  extract_lets copies _ s1 s2 s3 _ s4 s5
  have emptied : Drained s.rcd.silOldest s.rcd.silIndex s1 := ⟨rfl, rfl, le_rfl, le_rfl⟩
  have counted : Drained s.rcd.silOldest s.rcd.silIndex s2 := by
    simp only [s2]
    split
    · exact emptied
    · exact emptied.of_rings (recordHk_rings _ _ _)
  have written : Drained s.rcd.silOldest s.rcd.silIndex s3 := counted.each _ (fun t c kept => kept.writeCycle c) copies
  have answered : Drained s.rcd.silOldest s.rcd.silIndex s4 := by
    simp only [s4]
    (repeat' split)
    · exact written
    · exact written.of_rings (by simp [State.replyHk]; rfl)
    · exact written
  exact (Drained.noteWear (s := s5) answered false).noteWear true

/-! ### The obligation -/

theorem recordHandoverOp_runs {l : Lane} {own : Bool} {ty : Nat} {body : List Byte} {s : State} (run : s.mod.mode.lanesRun = true)
    (held : s.laneSt l ≠ .hold) (works : s.laneSt l ≠ .failed) : recordHandoverOp l own ty body s =
      if own then s.recordLane l ty (body.take 976) else s.placeRecord l ty (body.take 976) := by
  unfold recordHandoverOp
  dsimp only
  rw [if_neg (by rw [run, decide_eq_false held, decide_eq_false works]; decide)]

/-- Settles O56: each command's way through its refusals, and what the writing of records leaves alone. -/
theorem recordWritingCommands : Obligations.RecordWritingCommands := by
  unfold Obligations.RecordWritingCommands
  refine ⟨fun l ty body s run held works => congrArg Host.Outcome.next (recordHandoverOp_runs run held works),
    fun l ty body s run held works own => ?_, fun s => ⟨_, rfl, recordCopyTimeoutOp_pending s⟩,
    fun p s alone old one heard thawed closed short room => ?_, fun i s cycles due => ?_, fun s heard run => ?_, fun s on => ?_⟩
  · refine ⟨_, congrArg Host.Outcome.next ((recordHandoverOp_runs run held works).trans (placeRecord_waits own)), rfl, rfl, rfl⟩
  · obtain ⟨r, mem, same⟩ := recordCopyTimeoutOp_alone alone old one heard thawed closed short room
    simp only [sameRecord, Bool.and_eq_true, decide_eq_true_eq] at same
    exact ⟨_, rfl, r, mem, same.1.1, same.1.2, same.2⟩
  · refine ⟨_, rfl, ?_⟩
    have closes : recordCloseOp i s = s.closeRecord i := by
      unfold recordCloseOp
      dsimp only
      rw [if_pos due, if_pos (by simpa using cycles)]
    beta_reduce
    rw [closes, closeRecord_rcd]
    exact ⟨rfl, rfl⟩
  · exact ⟨_, rfl, ringDrainOp_drains heard run⟩
  · refine congrArg Host.Outcome.next ?_
    unfold operatingTimeOp
    exact if_neg on

end Sys2Proof.Machine
end

section
/-!
SUPPORT. Why the arbiter's statement fails: a table that lists a requester twice reserves it while its standing says that it does not
back off (R463, R467, R468).
-/

namespace Sys2Proof.Machine

open Sys2Proof

/-- A port's table that lists requester 0 twice: the entry that its standing reads does not back off, the one hidden behind it is due
for a reservation. Requester 1 has the higher priority. -/
def doublyListed : ArbS := { ArbS.reset with active := 8, req := [(0, ⟨0, 0, 0, 0, 0⟩), (0, ⟨7, 1, 0, 0, 0⟩)] }

/-- A loaded module whose lanes' essence ports hold that table. -/
def doublyListedState : State :=
  { State.reset with mod := { ModS.reset with mode := .loaded }, lanes := PerLane.pure { LaneS.reset with arbE := doublyListed } }

/-- One access time without a decision reserves requester 0, and the decision grants it. -/
theorem doublyListed_decided :
    (arbiterOp .a .essence 1 [⟨0, false, false, 8, 0⟩, ⟨1, false, false, 8, 0⟩] doublyListedState).lanes.a.arbE.owner = 0 := by
  decide

/-- Refutes O30: the hidden entry of a requester listed twice gives it a reservation, which goes before the higher priority. -/
theorem not_arbiterCommands : ¬ Obligations.ArbiterCommands := by
  intro ⟨_, byPriority, _⟩
  obtain ⟨⟨t, run, owner⟩, _⟩ := byPriority .a .essence 1 ⟨0, false, false, 8, 0⟩ ⟨1, false, false, 8, 0⟩ doublyListedState
    rfl rfl rfl (by decide) (by decide) (by decide)
  have granted := doublyListed_decided
  cases run
  exact absurd (owner.symm.trans granted) (by decide)

end Sys2Proof.Machine
end

section
/-!
SUPPORT. No operation changes the queue of waiting commands, where Laws does not say it (O4).
-/

namespace Sys2Proof.Machine

open Sys2Proof

/-! ### The queue, over folds and choices -/

@[simp] theorem serve_pending (s : State) (h : CmdHdr) (opcode : Nat) (need : Option Role) (body : State → State)
    (hb : ∀ s, (body s).pending = s.pending) : (s.serve h opcode need body).pending = s.pending :=
  keep_serve (·.pending) s h opcode need body (by simp) (by simp) (fun _ _ => rfl) hb

@[simp] theorem serveImage_pending (s : State) (h : CmdHdr) (opcode : Nat) (role : Role) (body : State → State)
    (hb : ∀ s, (body s).pending = s.pending) : (s.serveImage h opcode role body).pending = s.pending :=
  serve_pending s h opcode (some role) _ fun s => by split <;> simp [hb]

theorem pending_ite {p : Prop} [Decidable p] {a b : State} {q : List Instr} (ha : a.pending = q) (hb : b.pending = q) :
    (if p then a else b).pending = q := by
  split <;> assumption

theorem bootImage_pending (s t : State) (h : s.bootImage = some t) : t.pending = s.pending := by
  unfold State.bootImage at h
  extract_lets a good install p at h
  have placed (s : State) r : (install s r).pending = s.pending := rfl
  clear_value good install
  split at h
  · cases h
    exact placed s a
  · split at h
    · cases h
      simp [placed]
    · cases h

@[simp] theorem romBootCompleteOp_pending (romOk : LaneSet) (s : State) : (romBootCompleteOp romOk s).pending = s.pending := by
  unfold romBootCompleteOp
  extract_lets s1 src
  have kept : s1.pending = s.pending := forLanes_pending _ (fun s l => by split <;> simp) _ s
  clear_value s1
  split
  · split
    · simp [src, kept]
    · split
      next s2 booted => simp [bootImage_pending s1 s2 booted, kept]
      next => simp [src, kept]
  · simp

@[simp] theorem canaryOp_pending (l : Lane) (speed : Nat) (s : State) : (canaryOp l speed s).pending = s.pending := by
  unfold canaryOp
  repeat' with_reducible apply pending_ite
  any_goals rfl
  all_goals simp

@[simp] theorem engineCheck_pending (s : State) : s.engineCheck.pending = s.pending := by
  simp [State.engineCheck]

@[simp] theorem fixVote_pending (s : State) (table : PerLane LaneSet) : (s.fixVote table).pending = s.pending := by
  unfold State.fixVote
  extract_lets was late onTime lone s1 s2 s3
  have h1 : s1.pending = s.pending := by simp [s1]
  clear_value s1 lone onTime
  split
  · refine Eq.trans (forLanes_pending _ (fun s l => ?_) _ s1) h1
    exact pending_ite (by simp) (by simp)
  · have h2 : s2.pending = s.pending := by simp [s2, h1]
    exact pending_ite (by simp [h2]) h2

@[simp] theorem tickBoundaryOp_pending (marks views : PerLane LaneSet) (clock : PerLane (BitVec 64)) (s : State) :
    (tickBoundaryOp marks views clock s).pending = s.pending := by
  unfold tickBoundaryOp
  refine pending_ite rfl ?_
  extract_lets p s1 table heard s2 s3 k _ _ _ s4 s5
  have h1 : s1.pending = s.pending := pending_ite (by simp [p]) (by simp [p])
  clear_value s1
  have h3 : s3.pending = s.pending := by simp [s3, s2, h1]
  clear_value s3
  have h4 : s4.pending = s.pending := h3
  clear_value s4
  have h5 : s5.pending = s.pending := pending_ite (by simp [h4]) h4
  exact pending_ite (by simp [h1]) (pending_ite h3 (pending_ite (by simp [h4]) (by simp [h5])))

@[simp] theorem rxMismatches_pending (s : State) (m : Lane) (l : List (Nat × Nat × Nat)) :
    (s.each l fun s x => if s.laneSt m = .voting then s.rxMismatch m x else s).pending = s.pending :=
  each_pending _ (fun s x => by split <;> simp) l s

@[simp] theorem accordedSetOp_pending (received : PerLane LaneSet) (s : State) :
    (accordedSetOp received s).pending = s.pending := by
  unfold accordedSetOp
  split
  · extract_lets voting lost props set computed due src s1
    split
    · rfl
    · next a _ => exact each_pending _ (fun s p => by simpa using rxMismatches_pending s p.lane (mismatches a p)) _ s1
  · rfl

@[simp] theorem decodeAll_pending (s : State) (l : List VitalCmd) : (s.decodeAll l).1.pending = s.pending := by
  refine List.foldlRecOn (motive := fun (a : State × List Decoded) => a.1.pending = s.pending) l _ rfl ?_
  rintro a kept c -
  simp [kept]

@[simp] theorem settleAll_pending (s : State) (l : List Decoded) (answers : List (Origin × Nat)) :
    (s.settleAll l answers).1.pending = s.pending := by
  refine List.foldlRecOn (motive := fun (a : State × List Judged) => a.1.pending = s.pending) l _ rfl ?_
  rintro a kept d -
  simp [kept]

@[simp] theorem judgeAlone_pending (s : State) (c : VitalCmd) : (s.judgeAlone c).pending = s.pending := by
  simp [State.judgeAlone]

@[simp] theorem stationOp_pending (h : CmdHdr) (opcode target action step : Nat) (token : Word) (s : State) :
    (stationOp h opcode target action step token s).pending = s.pending := by
  simp [stationOp]

@[simp] theorem stopStrobeOp_pending (strobes : LaneSet) (s : State) : (stopStrobeOp strobes s).pending = s.pending := by
  unfold stopStrobeOp
  dsimp only
  split
  · split
    · exact each_pending _ (fun s n => by (repeat' split) <;> simp) _ s
    · simp
  · simp

@[simp] theorem decodeCycle_pending (s : State) : s.decodeCycle.1.pending = s.pending := by
  unfold State.decodeCycle
  extract_lets
  (repeat' split)
  any_goals rfl
  all_goals simp +zetaDelta

@[simp] theorem cycleEvaluationOp_pending (s : State) : (cycleEvaluationOp s).pending = s.pending := by
  unfold cycleEvaluationOp
  dsimp only
  repeat' with_reducible apply pending_ite
  all_goals simp

@[simp] theorem voteRefreshOp_pending (sense : List SenseReading) (groups : List GroupReading) (s : State) :
    (voteRefreshOp sense groups s).pending = s.pending := by
  unfold voteRefreshOp
  split
  · extract_lets voting refresh s1 s2 s2' s3 chs s4 s5
    have kept : s5.pending = s.pending := by simp [s5, s4, s3, s2', s2, s1]
    refine Eq.trans (each_pending _ (fun s p => forLanes_pending _ (fun s l => ?_) _ s) _ s5) kept
    split <;> simp
  · rfl

@[simp] theorem decideClaim_pending (s : State) (port id : Nat) (digest : List Byte) :
    (s.decideClaim port id digest).pending = s.pending := by
  unfold State.decideClaim
  refine pending_ite rfl ?_
  split
  · simp
  · iterate 5 refine pending_ite (by simp) ?_
    split
    · extract_lets r s1
      have h1 : s1.pending = s.pending := by simp [s1]
      exact pending_ite (by simp [h1]) h1
    · simp

@[simp] theorem useFrame_pending (s : State) (port slot : Nat) (w : Word) (dest : Nat) (bytes : List Byte) (owner : Option (Nat × NodeDef)) :
    (s.useFrame port slot w dest bytes owner).pending = s.pending := by
  unfold State.useFrame
  extract_lets
  split
  all_goals repeat' with_reducible apply pending_ite
  any_goals rfl
  all_goals simp +zetaDelta

@[simp] theorem busReceive_pending (s : State) (port slot : Nat) (whole : Bool) (bytes : List Byte) :
    (s.busReceive port slot whole bytes).pending = s.pending := by
  unfold State.busReceive
  extract_lets
  split <;> simp +zetaDelta

@[simp] theorem hubReceive_pending (s : State) (port slot sofNs endNs : Nat) (codeError : Bool) (bytes : List Byte) :
    (s.hubReceive port slot sofNs endNs codeError bytes).pending = s.pending := by
  unfold State.hubReceive
  extract_lets w kind window owner blamed chY inTime whole s1 s2
  have h1 : s1.pending = s.pending := by
    clear_value owner
    cases owner with
    | some n => exact pending_ite (by simp) rfl
    | none => rfl
  clear_value s1
  have h2 : s2.pending = s.pending := pending_ite (by simp [h1]) h1
  exact pending_ite (pending_ite rfl (by simp)) (pending_ite (by simp) (pending_ite (by simp) (by simp [h2])))

@[simp] theorem frameReceivedOp_pending (port slot sofNs endNs : Nat) (codeError : Bool) (behind : LaneSet) (bytes : List Byte) (s : State) :
    (frameReceivedOp port slot sofNs endNs codeError behind bytes s).pending = s.pending := by
  unfold frameReceivedOp
  repeat' with_reducible apply pending_ite
  all_goals simp

@[simp] theorem claimReceivedOp_pending (port : Nat) (bytes : List Byte) (s : State) :
    (claimReceivedOp port bytes s).pending = s.pending := by
  unfold claimReceivedOp
  extract_lets
  repeat' with_reducible apply pending_ite
  any_goals rfl
  all_goals split
  all_goals repeat' with_reducible apply pending_ite
  any_goals rfl
  all_goals simp +zetaDelta

@[simp] theorem shed_pending (s : State) (ma : List Nat) (n : Nat) : (s.shed ma n).pending = s.pending := by
  induction n generalizing s ma with
  | zero => simp [State.shed]
  | succ n ih =>
    unfold State.shed
    dsimp only
    (repeat' split) <;> simp [ih]

@[simp] theorem moduleOverloadOp_pending (groupMa : List Nat) (s : State) : (moduleOverloadOp groupMa s).pending = s.pending := by
  unfold moduleOverloadOp
  extract_lets
  split <;> simp +zetaDelta

@[simp] theorem routeQueryOp_pending (h : CmdHdr) (r : Nat) (s : State) : (routeQueryOp h r s).pending = s.pending :=
  serve_pending _ _ _ _ _ fun s => by (repeat' split) <;> simp

@[simp] theorem elementQueryOp_pending (h : CmdHdr) (o : Nat) (s : State) : (elementQueryOp h o s).pending = s.pending :=
  serve_pending _ _ _ _ _ fun s => by (repeat' split) <;> simp

@[simp] theorem statusModuleOp_pending (h : CmdHdr) (s : State) : (statusModuleOp h s).pending = s.pending := by
  simp [statusModuleOp]

@[simp] theorem subscribeOp_pending (h : CmdHdr) (id kind first count mask : Nat) (s : State) :
    (subscribeOp h id kind first count mask s).pending = s.pending := by
  refine serve_pending _ _ _ _ _ fun s => ?_
  dsimp only
  repeat' with_reducible apply pending_ite
  all_goals simp

@[simp] theorem unsubscribeOp_pending (h : CmdHdr) (id : Nat) (s : State) : (unsubscribeOp h id s).pending = s.pending := by
  refine serve_pending _ _ _ _ _ fun s => ?_
  repeat' with_reducible apply pending_ite
  all_goals simp

@[simp] theorem snapshotCopyOp_pending (h : CmdHdr) (count offset : Nat) (s : State) :
    (snapshotCopyOp h count offset s).pending = s.pending :=
  serve_pending _ _ _ _ _ fun s => by (repeat' split) <;> simp

@[simp] theorem snapshotReadOp_pending (h : CmdHdr) (count offset : Nat) (s : State) :
    (snapshotReadOp h count offset s).pending = s.pending :=
  serve_pending _ _ _ _ _ fun s => by (repeat' split) <;> simp

@[simp] theorem timeCorrelateOp_pending (h : CmdHdr) (utc ns net : Nat) (s : State) :
    (timeCorrelateOp h utc ns net s).pending = s.pending := by
  refine serve_pending _ _ _ _ _ fun s => ?_
  dsimp only
  repeat' with_reducible apply pending_ite
  all_goals simp

@[simp] theorem timeQueryOp_pending (h : CmdHdr) (s : State) : (timeQueryOp h s).pending = s.pending := by
  simp [timeQueryOp]

@[simp] theorem sessionChallengeOp_pending (h : CmdHdr) (role : Nat) (s : State) :
    (sessionChallengeOp h role s).pending = s.pending := by
  unfold sessionChallengeOp
  split <;> simp

@[simp] theorem sessionOpenOp_pending (h : CmdHdr) (slot role : Nat) (nonce sig : List Byte) (s : State) :
    (sessionOpenOp h slot role nonce sig s).pending = s.pending := by
  refine serve_pending _ _ _ _ _ fun s => ?_
  extract_lets hk _
  refine pending_ite (by simp) ?_
  split
  · simp
  · extract_lets j x s1
    have h1 : s1.pending = s.pending := rfl
    clear_value s1
    exact pending_ite (by simp) (pending_ite (by simp) (by simp [h1]))

@[simp] theorem sessionCloseOp_pending (h : CmdHdr) (role : Nat) (s : State) :
    (sessionCloseOp h role s).pending = s.pending := serve_pending _ _ _ _ _ fun s => by
  (repeat' split) <;> simp

@[simp] theorem modeRequestOp_pending (h : CmdHdr) (m : Mode) (s : State) : (modeRequestOp h m s).pending = s.pending := by
  unfold modeRequestOp
  split
  · simp
  · refine serve_pending _ _ _ _ _ fun s => ?_
    dsimp only
    (repeat' split) <;> simp

@[simp] theorem selftestQueryOp_pending (h : CmdHdr) (s : State) : (selftestQueryOp h s).pending = s.pending := by
  simp [selftestQueryOp]

@[simp] theorem regReadOp_pending (h : CmdHdr) (addr count : Nat) (s : State) : (regReadOp h addr count s).pending = s.pending := by
  refine serve_pending _ _ _ _ _ fun s => ?_
  repeat' with_reducible apply pending_ite
  all_goals simp

@[simp] theorem sealFuseStep1Op_pending (h : CmdHdr) (op slot : Nat) (s : State) :
    (sealFuseStep1Op h op slot s).pending = s.pending := serve_pending _ _ _ _ _ fun s => by
  (repeat' split) <;> simp

@[simp] theorem sealFuseStep2Op_pending (h : CmdHdr) (op slot : Nat) (token : Word) (s : State) :
    (sealFuseStep2Op h op slot token s).pending = s.pending := serve_pending _ _ _ _ _ fun s => by
  (repeat' split) <;> simp

@[simp] theorem withheldClearOp_pending (h : CmdHdr) (r : Nat) (s : State) : (withheldClearOp h r s).pending = s.pending := by
  refine serve_pending _ _ _ _ _ fun s => ?_
  repeat' with_reducible apply pending_ite
  all_goals simp

@[simp] theorem perfConfigOp_pending (h : CmdHdr) (c : PerfConfig) (s : State) : (perfConfigOp h c s).pending = s.pending := by
  refine serve_pending _ _ _ _ _ fun s => ?_
  repeat' with_reducible apply pending_ite
  all_goals simp

@[simp] theorem perfReadOp_pending (h : CmdHdr) (s : State) : (perfReadOp h s).pending = s.pending := by
  simp [perfReadOp]

@[simp] theorem perfSamplesOp_pending (h : CmdHdr) (start count : Nat) (s : State) :
    (perfSamplesOp h start count s).pending = s.pending := by
  refine serve_pending _ _ _ _ _ fun s => ?_
  repeat' with_reducible apply pending_ite
  all_goals simp

@[simp] theorem netStatusOp_pending (h : CmdHdr) (select channel first count : Nat) (s : State) :
    (netStatusOp h select channel first count s).pending = s.pending := by
  refine serve_pending _ _ _ _ _ fun s => ?_
  repeat' with_reducible apply pending_ite
  all_goals simp

@[simp] theorem netPortControlOp_pending (h : CmdHdr) (port action : Nat) (s : State) :
    (netPortControlOp h port action s).pending = s.pending := by
  refine serve_pending _ _ _ _ _ fun s => ?_
  extract_lets
  repeat' with_reducible apply pending_ite
  all_goals simp +zetaDelta

@[simp] theorem netBankWriteOp_pending (h : CmdHdr) (port first : Nat) (entries : List Word) (s : State) :
    (netBankWriteOp h port first entries s).pending = s.pending :=
  serve_pending _ _ _ _ _ fun s => by (repeat' split) <;> simp

@[simp] theorem netBankSwitchOp_pending (h : CmdHdr) (round crc : Word) (s : State) :
    (netBankSwitchOp h round crc s).pending = s.pending := by
  refine serve_pending _ _ _ _ _ fun s => ?_
  repeat' with_reducible apply pending_ite
  all_goals simp

@[simp] theorem netPolicyOp_pending (h : CmdHdr) (enable : Nat) (s : State) : (netPolicyOp h enable s).pending = s.pending := by
  refine serve_pending _ _ _ _ _ fun s => ?_
  repeat' with_reducible apply pending_ite
  all_goals simp

@[simp] theorem redStatusOp_pending (h : CmdHdr) (s : State) : (redStatusOp h s).pending = s.pending := by
  simp [redStatusOp]

@[simp] theorem switchoverStep1Op_pending (h : CmdHdr) (s : State) : (switchoverStep1Op h s).pending = s.pending := by
  simp [switchoverStep1Op]

@[simp] theorem switchoverStep2Op_pending (h : CmdHdr) (token : Word) (s : State) :
    (switchoverStep2Op h token s).pending = s.pending := by
  refine serve_pending _ _ _ _ _ fun s => ?_
  repeat' with_reducible apply pending_ite
  all_goals simp

@[simp] theorem laneResyncOp_pending (h : CmdHdr) (lane : Nat) (s : State) : (laneResyncOp h lane s).pending = s.pending := by
  unfold laneResyncOp
  (repeat' split) <;> simp

@[simp] theorem tenderEnableOp_pending (h : CmdHdr) (enable : Nat) (s : State) :
    (tenderEnableOp h enable s).pending = s.pending := by
  refine serve_pending _ _ _ _ _ fun s => ?_
  repeat' with_reducible apply pending_ite
  any_goals rfl
  all_goals simp

@[simp] theorem ioStatusOp_pending (h : CmdHdr) (first count : Nat) (s : State) :
    (ioStatusOp h first count s).pending = s.pending := by
  refine serve_pending _ _ _ _ _ fun s => ?_
  repeat' with_reducible apply pending_ite
  all_goals simp

@[simp] theorem ioTestConfigOp_pending (h : CmdHdr) (ch action value : Nat) (s : State) :
    (ioTestConfigOp h ch action value s).pending = s.pending := by
  refine serve_pending _ _ _ _ _ fun s => ?_
  dsimp only
  repeat' with_reducible apply pending_ite
  all_goals simp

@[simp] theorem ioForceOp_pending (h : CmdHdr) (ch value duration : Nat) (s : State) :
    (ioForceOp h ch value duration s).pending = s.pending := by
  refine serve_pending _ _ _ _ _ fun s => ?_
  repeat' with_reducible apply pending_ite
  all_goals simp

@[simp] theorem dbgStatusOp_pending (h : CmdHdr) (s : State) : (dbgStatusOp h s).pending = s.pending := by
  simp [dbgStatusOp]

@[simp] theorem recReadOp_pending (h : CmdHdr) (index count : Nat) (s : State) :
    (recReadOp h index count s).pending = s.pending := by
  refine serve_pending _ _ _ _ _ fun s => ?_
  extract_lets
  repeat' with_reducible apply pending_ite
  all_goals simp +zetaDelta

@[simp] theorem silReadOp_pending (h : CmdHdr) (index count : Nat) (s : State) :
    (silReadOp h index count s).pending = s.pending := by
  refine serve_pending _ _ _ _ _ fun s => ?_
  repeat' with_reducible apply pending_ite
  all_goals simp

@[simp] theorem recFreezeOp_pending (h : CmdHdr) (s : State) : (recFreezeOp h s).pending = s.pending := by
  simp [recFreezeOp]

@[simp] theorem recThawOp_pending (h : CmdHdr) (s : State) : (recThawOp h s).pending = s.pending := by
  simp [recThawOp]

@[simp] theorem freezeTimeoutOp_pending (s : State) : (freezeTimeoutOp s).pending = s.pending := by
  simp [freezeTimeoutOp]

@[simp] theorem recClearStep1Op_pending (h : CmdHdr) (upTo : Nat) (s : State) :
    (recClearStep1Op h upTo s).pending = s.pending := serve_pending _ _ _ _ _ fun s => by
  (repeat' split) <;> simp

@[simp] theorem recClearStep2Op_pending (h : CmdHdr) (upTo : Nat) (token : Word) (s : State) :
    (recClearStep2Op h upTo token s).pending = s.pending := serve_pending _ _ _ _ _ fun s => by
  (repeat' split) <;> simp

@[simp] theorem silMarkOp_pending (h : CmdHdr) (label : List Byte) (s : State) : (silMarkOp h label s).pending = s.pending := by
  refine serve_pending _ _ _ _ _ fun s => ?_
  repeat' with_reducible apply pending_ite
  all_goals simp

@[simp] theorem keyframeDueOp_pending (s : State) : (keyframeDueOp s).pending = s.pending := by
  unfold keyframeDueOp
  extract_lets c fresh s1 _ s2
  refine pending_ite ?_ rfl
  have h1 : s1.pending = s.pending := by
    simp only [s1]
    split
    · exact pending_ite (by simp) rfl
    · rfl
  have h2 : s2.pending = s.pending := h1
  clear_value s2
  refine pending_ite h2 ?_
  split
  · simp [h2]
  · exact h2

@[simp] theorem stopRecording_pending (s : State) : s.stopRecording.pending = s.pending := by
  simp only [State.stopRecording]
  simp

@[simp] theorem heartbeatMissingOp_pending (s : State) : (heartbeatMissingOp s).pending = s.pending := by
  unfold heartbeatMissingOp
  extract_lets
  repeat' with_reducible apply pending_ite
  all_goals simp +zetaDelta

@[simp] theorem housekeeperTimeoutOp_pending (s : State) : (housekeeperTimeoutOp s).pending = s.pending := by
  unfold housekeeperTimeoutOp
  (repeat' split) <;> simp

@[simp] theorem operatingTimeOp_pending (s : State) : (operatingTimeOp s).pending = s.pending := by
  unfold operatingTimeOp
  repeat' apply pending_ite
  all_goals rfl

@[simp] theorem bogieMismatchOp_pending (l : Lane) (s : State) : (bogieMismatchOp l s).pending = s.pending := by
  unfold bogieMismatchOp
  (repeat' split) <;> simp

@[simp] theorem imageReloadOp_pending (l : Lane) (digestOk reloadOk : Bool) (s : State) :
    (imageReloadOp l digestOk reloadOk s).pending = s.pending := by
  unfold imageReloadOp
  dsimp only
  repeat' with_reducible apply pending_ite
  any_goals rfl
  all_goals simp

@[simp] theorem resyncTestOp_pending (l : Lane) (passed : Bool) (s : State) : (resyncTestOp l passed s).pending = s.pending := by
  simp [resyncTestOp]

@[simp] theorem copyArmedOp_pending (l : Lane) (s : State) : (copyArmedOp l s).pending = s.pending := by
  unfold copyArmedOp
  repeat' apply pending_ite
  all_goals (repeat' split) <;> rfl

@[simp] theorem copyBeforeWriteOp_pending (m : Lane) (page : Nat) (s : State) :
    (copyBeforeWriteOp m page s).pending = s.pending := by
  unfold copyBeforeWriteOp
  repeat' apply pending_ite
  all_goals rfl

@[simp] theorem copyCompleteOp_pending (l : Lane) (senderHash : BitVec 64) (s : State) :
    (copyCompleteOp l senderHash s).pending = s.pending := by
  unfold copyCompleteOp
  extract_lets
  repeat' with_reducible apply pending_ite
  all_goals simp +zetaDelta

@[simp] theorem catchUpOp_pending (l : Lane) (s : State) : (catchUpOp l s).pending = s.pending := by
  unfold catchUpOp
  repeat' apply pending_ite
  all_goals simp

@[simp] theorem catchUpTimeoutOp_pending (l : Lane) (s : State) : (catchUpTimeoutOp l s).pending = s.pending := by
  simp [catchUpTimeoutOp]

@[simp] theorem probationOp_pending (l : Lane) (s : State) : (probationOp l s).pending = s.pending := by
  simp [probationOp]

@[simp] theorem resyncTimeoutOp_pending (l : Lane) (s : State) : (resyncTimeoutOp l s).pending = s.pending := by
  simp [resyncTimeoutOp]

@[simp] theorem powerRecoveryOp_pending (l : Lane) (s : State) : (powerRecoveryOp l s).pending = s.pending := by
  unfold powerRecoveryOp
  repeat' apply pending_ite
  all_goals simp

@[simp] theorem restartResyncs_pending (s : State) : s.restartResyncs.pending = s.pending := by
  simp [State.restartResyncs]

@[simp] theorem recordUncorrected_pending (s : State) (l : Lane) (a : Nat) (requester : Option Nat) :
    (s.recordUncorrected l a requester).pending = s.pending := by
  simp [State.recordUncorrected]

@[simp] theorem eccUncorrectableOp_pending (l : Lane) (requester : Option Nat) (a : Nat) (afterProposal isReply : Bool) (s : State) :
    (eccUncorrectableOp l requester a afterProposal isReply s).pending = s.pending := by
  unfold eccUncorrectableOp
  dsimp only
  repeat' with_reducible apply pending_ite
  all_goals simp

@[simp] theorem eccCorrectedOp_pending (l : Lane) (a : Nat) (s : State) : (eccCorrectedOp l a s).pending = s.pending := by
  simp [eccCorrectedOp]

@[simp] theorem scrubReadOp_pending (l : Lane) (s : State) : (scrubReadOp l s).pending = s.pending := by
  unfold scrubReadOp
  extract_lets
  repeat' with_reducible apply pending_ite
  any_goals rfl
  all_goals simp +zetaDelta

@[simp] theorem strike_pending (s : State) (site : FaultSite) : (s.strike site).pending = s.pending := by
  unfold State.strike
  split
  all_goals repeat' apply pending_ite
  any_goals rfl
  all_goals simp

@[simp] theorem translationFaultOp_pending (l : Lane) (master : Master) (acc : Access) (va : Nat) (site : FaultSite) (s : State) :
    (translationFaultOp l master acc va site s).pending = s.pending := by
  unfold translationFaultOp
  extract_lets
  split
  all_goals repeat' with_reducible apply pending_ite
  any_goals rfl
  all_goals simp +zetaDelta

@[simp] theorem tlbParityOp_pending (l : Lane) (master vpn : Nat) (s : State) :
    (tlbParityOp l master vpn s).pending = s.pending := by
  unfold tlbParityOp
  repeat' with_reducible apply pending_ite
  all_goals simp

@[simp] theorem guardFaultOp_pending (l : Lane) (requester a : Nat) (s : State) :
    (guardFaultOp l requester a s).pending = s.pending := by
  simp [guardFaultOp]

@[simp] theorem dmaMove_pending (s t : State) (l : Lane) (c upTo : Nat) (h : s.dmaMove l c upTo = some t) :
    t.pending = s.pending := by
  simp only [State.dmaMove] at h
  split at h
  · cases h
  · cases h; simp

@[simp] theorem dmaMove_getD_pending (s : State) (l : Lane) (c upTo : Nat) : ((s.dmaMove l c upTo).getD s).pending = s.pending := by
  cases moved : s.dmaMove l c upTo with
  | none => rfl
  | some t => exact dmaMove_pending s t l c upTo moved

@[simp] theorem dmaCompleteOp_pending (l : Lane) (c : Nat) (s : State) : (dmaCompleteOp l c s).pending = s.pending := by
  unfold dmaCompleteOp
  dsimp only
  (repeat' split) <;> try simp
  rename_i t ht
  exact dmaMove_pending s t l c _ ht

@[simp] theorem spoilTransfer_pending (s : State) (l : Lane) (c : Nat) : (s.spoilTransfer l c).pending = s.pending := by
  unfold State.spoilTransfer
  extract_lets
  (repeat' split) <;> rfl

@[simp] theorem dmaFaultOp_pending (l : Lane) (c cause va done : Nat) (write : Bool) (s : State) :
    (dmaFaultOp l c cause va done write s).pending = s.pending := by
  unfold dmaFaultOp
  extract_lets
  repeat' with_reducible apply pending_ite
  any_goals rfl
  all_goals simp +zetaDelta

@[simp] theorem dmaSuspendedOp_pending (l : Lane) (c done : Nat) (s : State) : (dmaSuspendedOp l c done s).pending = s.pending := by
  unfold dmaSuspendedOp
  repeat' apply pending_ite
  all_goals simp

@[simp] theorem runBlock_pending (s : State) (task i : Nat) (d : BlockDef) : (s.runBlock task i d).pending = s.pending := by
  unfold State.runBlock
  all_goals rfl

@[simp] theorem startTask_pending (s : State) (t : Nat) : (s.startTask t).pending = s.pending := by
  unfold State.startTask
  extract_lets
  repeat' apply pending_ite
  all_goals rfl

@[simp] theorem choose_pending (s : State) : s.choose.pending = s.pending := by
  unfold State.choose
  extract_lets
  (repeat' split)
  any_goals rfl
  all_goals simp +zetaDelta

@[simp] theorem evalFrom_pending (task limit : Nat) (l : List (Nat × BlockDef)) (s : State) :
    (evalFrom task limit l s).pending = s.pending := by
  induction l generalizing s with
  | nil => rfl
  | cons p r ih =>
    unfold evalFrom
    dsimp only
    split <;> simp [ih]

@[simp] theorem taskReleaseOp_pending (t : Nat) (s : State) : (taskReleaseOp t s).pending = s.pending := by
  unfold taskReleaseOp
  extract_lets
  (repeat' split)
  any_goals rfl
  all_goals simp +zetaDelta

@[simp] theorem runOn_pending (s : State) : s.runOn.pending = s.pending := by
  unfold State.runOn
  (repeat' split) <;> simp

@[simp] theorem dispatchOp_pending (s : State) : (dispatchOp s).pending = s.pending := by
  unfold dispatchOp
  extract_lets
  repeat' with_reducible apply pending_ite
  all_goals simp +zetaDelta

@[simp] theorem countRun_pending (before after : State) (ended : Option Nat) :
    (before.countRun after ended).pending = after.pending := by
  unfold State.countRun
  dsimp only
  simp

@[simp] theorem dispatchPointOp_pending (s : State) : (dispatchPointOp s).pending = s.pending := by
  simp [dispatchPointOp]

@[simp] theorem runCompleteOp_pending (t : Nat) (s : State) : (runCompleteOp t s).pending = s.pending := by
  unfold runCompleteOp
  repeat' apply pending_ite
  all_goals simp

@[simp] theorem runEndOp_pending (t : Nat) (s : State) : (runEndOp t s).pending = s.pending := by
  simp [runEndOp]

@[simp] theorem latchEvent_pending (s : State) (t : Nat) : (s.latchEvent t).pending = s.pending := by
  unfold State.latchEvent
  dsimp only
  split <;> simp

@[simp] theorem eventLatchOp_pending (s : State) : (eventLatchOp s).pending = s.pending := by
  unfold eventLatchOp
  repeat' apply pending_ite
  all_goals simp

@[simp] theorem retainedWriteOp_pending (s : State) : (retainedWriteOp s).pending = s.pending := by
  unfold retainedWriteOp
  repeat' apply pending_ite
  all_goals rfl

@[simp] theorem loadEssence_pending (s : State) (pages : List (Nat × List Byte)) : (s.loadEssence pages).pending = s.pending := by
  unfold State.loadEssence
  dsimp only
  split <;> simp

@[simp] theorem takeVital_pending (s t : State) : (s.takeVital t).pending = s.pending := by
  simp [State.takeVital]

@[simp] theorem imgBeginOp_pending (h : CmdHdr) (type length blocks version : Nat) (s : State) :
    (imgBeginOp h type length blocks version s).pending = s.pending := by
  refine serveImage_pending _ _ _ _ _ fun s => ?_
  repeat' with_reducible apply pending_ite
  all_goals simp

@[simp] theorem imgBlockOp_pending (h : CmdHdr) (block part : Nat) (data : List Byte) (s : State) :
    (imgBlockOp h block part data s).pending = s.pending := by
  refine serveImage_pending _ _ _ _ _ fun s => ?_
  extract_lets
  repeat' with_reducible apply pending_ite
  all_goals simp +zetaDelta

@[simp] theorem imgVerifyOp_pending (h : CmdHdr) (s : State) : (imgVerifyOp h s).pending = s.pending := by
  refine serveImage_pending _ _ _ _ _ fun s => ?_
  repeat' with_reducible apply pending_ite
  all_goals simp

@[simp] theorem imgVerifyCompleteOp_pending (s : State) : (imgVerifyCompleteOp s).pending = s.pending := by
  unfold imgVerifyCompleteOp
  extract_lets
  (repeat' split)
  any_goals rfl
  all_goals simp +zetaDelta

@[simp] theorem endSchedule_pending (s : State) (status : Nat) : (s.endSchedule status).pending = s.pending := by
  simp only [State.endSchedule]
  (repeat' split) <;> simp

@[simp] theorem recordRefusal_pending (s : State) (reason route : Nat) : (s.recordRefusal reason route).pending = s.pending := by
  simp [State.recordRefusal]

@[simp] theorem forwardSchedule_pending (s : State) (time flags : Nat) : (s.forwardSchedule time flags).pending = s.pending := by
  simp [State.forwardSchedule]

@[simp] theorem imgScheduleOp_pending (h : CmdHdr) (time flags : Nat) (s : State) :
    (imgScheduleOp h time flags s).pending = s.pending := by
  refine serveImage_pending _ _ _ _ _ fun s => ?_
  extract_lets
  repeat' with_reducible apply pending_ite
  all_goals simp +zetaDelta

@[simp] theorem imgAbortOp_pending (h : CmdHdr) (s : State) : (imgAbortOp h s).pending = s.pending := by
  refine serve_pending _ _ _ _ _ fun s => pending_ite (by simp) ?_
  extract_lets s1 owner s2 _ _ s3 s4
  have h3 : s3.pending = s.pending := by simp [s3, s2, s1]
  clear_value s3 owner
  have h4 : s4.pending = s.pending := by
    cases owner with
    | some c => exact pending_ite (by simp [h3]) (by simp [h3])
    | none => exact h3
  simp [h4]

@[simp] theorem imgQueryOp_pending (h : CmdHdr) (s : State) : (imgQueryOp h s).pending = s.pending := by
  simp [imgQueryOp]

@[simp] theorem activationTimeOp_pending (s : State) : (activationTimeOp s).pending = s.pending := by
  unfold activationTimeOp
  extract_lets
  (repeat' split)
  any_goals rfl
  all_goals simp +zetaDelta

@[simp] theorem activationArmedOp_pending (l : Lane) (digestOk : Bool) (s : State) :
    (activationArmedOp l digestOk s).pending = s.pending := by
  unfold activationArmedOp
  extract_lets
  repeat' apply pending_ite
  all_goals rfl

@[simp] theorem armDeadlineOp_pending (l : Lane) (s : State) : (armDeadlineOp l s).pending = s.pending := by
  unfold armDeadlineOp
  (repeat' split) <;> simp

@[simp] theorem activationJudgementOp_pending (s : State) : (activationJudgementOp s).pending = s.pending := by
  unfold activationJudgementOp
  extract_lets
  repeat' apply pending_ite
  any_goals rfl
  all_goals (repeat' split)
  any_goals rfl
  all_goals simp +zetaDelta

@[simp] theorem postponementOp_pending (s : State) : (postponementOp s).pending = s.pending := by
  simp [postponementOp]

@[simp] theorem carrySheets_pending (s : State) (old : Image) : (s.carrySheets old).pending = s.pending := rfl

@[simp] theorem takeImage_pending (s : State) (new : Image) : (s.takeImage new).pending = s.pending := rfl

@[simp] theorem sendLevels_pending (s : State) : s.sendLevels.pending = s.pending := by
  unfold State.sendLevels
  repeat' apply pending_ite
  all_goals rfl

@[simp] theorem imageSwitchOp_pending (s : State) : (imageSwitchOp s).pending = s.pending := by
  unfold imageSwitchOp
  extract_lets p _ old secs same
  split
  case h_2 => rfl
  refine pending_ite rfl (pending_ite rfl ?_)
  extract_lets f g s1 s2 w _ s3 s4 s5 s6
  have h2 : s2.pending = s.pending := by simp [s2, s1]
  clear_value s2 same
  have h4 : s4.pending = s.pending := by
    refine pending_ite h2 ?_
    simpa [s3] using h2
  clear_value s4
  have h6 : s6.pending = s.pending := by
    simp only [s6]
    split <;> simp [s5, h4]
  simp [h6]

@[simp] theorem sheetPrepareOp_pending (h : CmdHdr) (s : State) : (sheetPrepareOp h s).pending = s.pending := by
  refine serveImage_pending _ _ _ _ _ fun s => ?_
  repeat' with_reducible apply pending_ite
  all_goals simp

@[simp] theorem sheetPrepareCompleteOp_pending (s : State) : (sheetPrepareCompleteOp s).pending = s.pending := by
  unfold sheetPrepareCompleteOp
  split
  all_goals repeat' apply pending_ite
  any_goals rfl
  all_goals simp

@[simp] theorem sheetCommitOp_pending (h : CmdHdr) (time : Nat) (s : State) :
    (sheetCommitOp h time s).pending = s.pending := serveImage_pending _ _ _ _ _ fun s => by
  (repeat' split) <;> simp

@[simp] theorem sheetSwitchOp_pending (s : State) : (sheetSwitchOp s).pending = s.pending := by
  unfold sheetSwitchOp
  (repeat' split) <;> simp

@[simp] theorem sheetTimeoutOp_pending (s : State) : (sheetTimeoutOp s).pending = s.pending := by
  unfold sheetTimeoutOp
  split
  all_goals repeat' apply pending_ite
  any_goals rfl
  all_goals simp

@[simp] theorem followSchedule_pending (s : State) (time flags : Nat) (digest : List Byte) :
    (s.followSchedule time flags digest).pending = s.pending := by
  unfold State.followSchedule
  extract_lets
  repeat' apply pending_ite
  all_goals rfl

@[simp] theorem ethernetFrameOp_pending (p : HostPort) (f : EthFrame) (s : State) :
    (ethernetFrameOp p f s).pending = s.pending := by
  simp [ethernetFrameOp]

@[simp] theorem arpRequestOp_pending (p : HostPort) (target : Nat) (s : State) : (arpRequestOp p target s).pending = s.pending := by
  unfold arpRequestOp
  repeat' apply pending_ite
  all_goals rfl

@[simp] theorem icmpEchoOp_pending (p : HostPort) (n stamp : Nat) (s : State) : (icmpEchoOp p n stamp s).pending = s.pending := by
  unfold icmpEchoOp
  extract_lets
  repeat' apply pending_ite
  all_goals rfl

@[simp] theorem linkUpOp_pending (p : HostPort) (s : State) : (linkUpOp p s).pending = s.pending := by
  unfold linkUpOp
  extract_lets
  repeat' with_reducible apply pending_ite
  all_goals simp +zetaDelta

@[simp] theorem linkDownOp_pending (p : HostPort) (s : State) : (linkDownOp p s).pending = s.pending := by
  simp [linkDownOp]

@[simp] theorem q5TimeoutOp_pending (cmd : CmdRef) (s : State) : (q5TimeoutOp cmd s).pending = s.pending := by
  unfold q5TimeoutOp
  split
  all_goals repeat' apply pending_ite
  any_goals rfl
  all_goals simp

@[simp] theorem sessionExpiredOp_pending (r : Role) (s : State) : (sessionExpiredOp r s).pending = s.pending := by
  simp [sessionExpiredOp]

@[simp] theorem sequencePersistOp_pending (s : State) : (sequencePersistOp s).pending = s.pending := by
  unfold sequencePersistOp
  (repeat' split) <;> simp

@[simp] theorem gotStrobe_pending (s : State) (body : List Byte) : (s.gotStrobe body).pending = s.pending := by
  unfold State.gotStrobe
  extract_lets
  repeat' apply pending_ite
  all_goals rfl

@[simp] theorem gotDownlink_pending (s : State) (body : List Byte) : (s.gotDownlink body).pending = s.pending := by
  unfold State.gotDownlink
  repeat' apply pending_ite
  all_goals simp

@[simp] theorem heardPartner_pending (s : State) (modeWord cond : Nat) (claim : Word) :
    (s.heardPartner modeWord cond claim).pending = s.pending := by
  simp [State.heardPartner]

@[simp] theorem gotHeartbeat_pending (s : State) (body : List Byte) : (s.gotHeartbeat body).pending = s.pending := by
  unfold State.gotHeartbeat
  repeat' with_reducible apply pending_ite
  any_goals rfl
  all_goals simp

@[simp] theorem gotBlock_pending (s : State) (body : List Byte) : (s.gotBlock body).pending = s.pending := by
  simp [State.gotBlock]

@[simp] theorem gotStatus_pending (s : State) (body : List Byte) : (s.gotStatus body).pending = s.pending := rfl

@[simp] theorem gotVerdict_pending (s : State) (sender : Nat) (body : List Byte) :
    (s.gotVerdict sender body).pending = s.pending := by
  unfold State.gotVerdict
  extract_lets
  (repeat' split) <;> rfl

@[simp] theorem gotPage_pending (s : State) (body : List Byte) : (s.gotPage body).pending = s.pending := by
  unfold State.gotPage
  repeat' apply pending_ite
  all_goals rfl

@[simp] theorem takeLevels_pending (s : State) (pos : Nat) (levels : List Nat) (digest : List Byte) (minors : Word) :
    (s.takeLevels pos levels digest minors).pending = s.pending := by
  simp [State.takeLevels]

@[simp] theorem followSwitchover_pending (s : State) (cycle : Nat) : (s.followSwitchover cycle).pending = s.pending := by
  unfold State.followSwitchover
  extract_lets
  repeat' apply pending_ite
  all_goals rfl

@[simp] theorem gotConfirm_pending (s : State) (kind : Nat) : (s.gotConfirm kind).pending = s.pending := by
  unfold State.gotConfirm
  repeat' apply pending_ite
  all_goals simp

@[simp] theorem actControl_pending (s : State) (kind : Nat) (b : List Byte) : (s.actControl kind b).pending = s.pending := by
  unfold State.actControl
  extract_lets
  repeat' with_reducible apply pending_ite
  any_goals rfl
  all_goals (repeat' split)
  any_goals rfl
  all_goals simp +zetaDelta

@[simp] theorem gotControl_pending (s : State) (body : List Byte) : (s.gotControl body).pending = s.pending := by
  unfold State.gotControl
  repeat' with_reducible apply pending_ite
  any_goals rfl
  all_goals simp

@[simp] theorem usePartner_pending (s : State) (m : PartnerMsg) : (s.usePartner m).pending = s.pending := by
  unfold State.usePartner
  split
  all_goals repeat' with_reducible apply pending_ite
  any_goals rfl
  all_goals simp

@[simp] theorem partnerMessageOp_pending (m : PartnerMsg) (s : State) : (partnerMessageOp m s).pending = s.pending := by
  unfold partnerMessageOp
  repeat' apply pending_ite
  all_goals simp

@[simp] theorem failControl_pending (s : State) (c : ControlMsg) : (s.failControl c).pending = s.pending := by
  unfold State.failControl
  extract_lets
  repeat' apply pending_ite
  any_goals rfl
  all_goals (repeat' split)
  any_goals rfl
  all_goals simp +zetaDelta

@[simp] theorem controlRetransmitOp_pending (s : State) : (controlRetransmitOp s).pending = s.pending := by
  unfold controlRetransmitOp
  split
  all_goals repeat' with_reducible apply pending_ite
  any_goals rfl
  all_goals simp

@[simp] theorem partnerLinkUpOp_pending (pos rom major minor iface : Nat) (digest : List Byte) (minors : Word) (s : State) :
    (partnerLinkUpOp pos rom major minor iface digest minors s).pending = s.pending := by
  unfold partnerLinkUpOp
  dsimp only
  repeat' with_reducible apply pending_ite
  all_goals simp

@[simp] theorem partnerLinkDownOp_pending (s : State) : (partnerLinkDownOp s).pending = s.pending := by
  unfold partnerLinkDownOp
  repeat' with_reducible apply pending_ite
  all_goals simp

@[simp] theorem failPartnerResync_pending (s : State) : s.failPartnerResync.pending = s.pending := by
  simp only [State.failPartnerResync]
  simp

@[simp] theorem partnerDigestStep_pending (s : State) (ok : Bool) : (s.partnerDigestStep ok).pending = s.pending := by
  unfold State.partnerDigestStep
  (repeat' split) <;> simp

@[simp] theorem resyncReloadOp_pending (l : Lane) (digestOk reloadOk : Bool) (s : State) :
    (resyncReloadOp l digestOk reloadOk s).pending = s.pending := by
  unfold resyncReloadOp
  (repeat' split) <;> simp

@[simp] theorem resyncArmedOp_pending (l : Lane) (s : State) : (resyncArmedOp l s).pending = s.pending := by
  unfold resyncArmedOp
  repeat' with_reducible apply pending_ite
  any_goals rfl
  all_goals simp

@[simp] theorem partnerCopyFails_pending (s : State) : s.partnerCopyFails.pending = s.pending := by
  unfold State.partnerCopyFails
  repeat' with_reducible apply pending_ite
  any_goals rfl
  all_goals simp

@[simp] theorem resyncCopyOp_pending (l : Lane) (senderHash : BitVec 64) (s : State) :
    (resyncCopyOp l senderHash s).pending = s.pending := by
  unfold resyncCopyOp
  repeat' with_reducible apply pending_ite
  all_goals simp

@[simp] theorem resyncCopyFailedOp_pending (l : Lane) (s : State) : (resyncCopyFailedOp l s).pending = s.pending := by
  simp [resyncCopyFailedOp]

@[simp] theorem partnerCatchUp_pending (s : State) : s.partnerCatchUp.pending = s.pending := by
  simp only [State.partnerCatchUp]
  simp

@[simp] theorem resyncCatchUpOp_pending (l : Lane) (s : State) : (resyncCatchUpOp l s).pending = s.pending := by
  simp [resyncCatchUpOp]

@[simp] theorem resyncCatchUpTimeoutOp_pending (l : Lane) (s : State) : (resyncCatchUpTimeoutOp l s).pending = s.pending := by
  simp [resyncCatchUpTimeoutOp]

@[simp] theorem partnerInStep_pending (s : State) : s.partnerInStep.pending = s.pending := by
  simp [State.partnerInStep]

@[simp] theorem resyncProbationOp_pending (l : Lane) (s : State) : (resyncProbationOp l s).pending = s.pending := by
  unfold resyncProbationOp
  (repeat' split) <;> simp

@[simp] theorem resyncEndOp_pending (l : Lane) (s : State) : (resyncEndOp l s).pending = s.pending := by
  unfold resyncEndOp
  (repeat' split) <;> simp

@[simp] theorem becomeLead_pending (s : State) (g result : Nat) : (s.becomeLead g result).pending = s.pending := by
  simp [State.becomeLead]

@[simp] theorem takeOver_pending (s : State) : s.takeOver.pending = s.pending := by
  unfold State.takeOver
  dsimp only
  (repeat' split) <;> simp

@[simp] theorem isolate_pending (s : State) (reason : Nat) : (s.isolate reason).pending = s.pending := by
  simp [State.isolate]

@[simp] theorem takeoverJudgementOp_pending (s : State) : (takeoverJudgementOp s).pending = s.pending := by
  unfold takeoverJudgementOp
  repeat' with_reducible apply pending_ite
  all_goals simp

@[simp] theorem holdingTimeoutOp_pending (s : State) : (holdingTimeoutOp s).pending = s.pending := by
  unfold holdingTimeoutOp
  (repeat' split) <;> simp

@[simp] theorem takeoverLostOp_pending (higher : Word) (s : State) : (takeoverLostOp higher s).pending = s.pending := by
  unfold takeoverLostOp
  extract_lets
  repeat' with_reducible apply pending_ite
  all_goals simp +zetaDelta

@[simp] theorem confirmDeadlineOp_pending (s : State) : (confirmDeadlineOp s).pending = s.pending := by
  unfold confirmDeadlineOp
  (repeat' split) <;> simp

@[simp] theorem yieldLead_pending (s : State) : s.yieldLead.pending = s.pending := by
  simp only [State.yieldLead]
  (repeat' split) <;> simp

@[simp] theorem switchoverOp_pending (s : State) : (switchoverOp s).pending = s.pending := by
  unfold switchoverOp
  dsimp only
  (repeat' split) <;> simp

@[simp] theorem slotDataOp_pending (l : Lane) (entry : Word) (s : State) : (slotDataOp l entry s).pending = s.pending := by
  unfold slotDataOp
  extract_lets
  repeat' apply pending_ite
  all_goals rfl

@[simp] theorem switchRoundOp_pending (l : Lane) (round : Word) (s : State) : (switchRoundOp l round s).pending = s.pending := by
  simp [switchRoundOp]

@[simp] theorem switchCrcOp_pending (l : Lane) (crc : Word) (s : State) : (switchCrcOp l crc s).pending = s.pending := by
  unfold switchCrcOp
  repeat' apply pending_ite
  all_goals rfl

@[simp] theorem switchCancelOp_pending (l : Lane) (value : Word) (s : State) : (switchCancelOp l value s).pending = s.pending := by
  unfold switchCancelOp
  extract_lets
  repeat' apply pending_ite
  any_goals rfl
  all_goals (repeat' split)
  any_goals rfl
  all_goals simp +zetaDelta

@[simp] theorem arbCommitOp_pending (l : Lane) (p : MemPort) (value : Word) (reason : Nat) (s : State) :
    (arbCommitOp l p value reason s).pending = s.pending := by
  unfold arbCommitOp
  repeat' apply pending_ite
  all_goals simp

@[simp] theorem writeUnit_pending (s : State) (l : Lane) (u ofs : Nat) (f : CvuS → CvuS) :
    (s.writeUnit l u ofs f).pending = s.pending := by
  unfold State.writeUnit
  dsimp only
  (repeat' split) <;> simp

@[simp] theorem cvuLoadOp_pending (l : Lane) (u poly : Nat) (s : State) : (cvuLoadOp l u poly s).pending = s.pending := by
  simp [cvuLoadOp]

@[simp] theorem cvuSeedOp_pending (l : Lane) (u : Nat) (s : State) : (cvuSeedOp l u s).pending = s.pending := by
  simp [cvuSeedOp]

@[simp] theorem cvuFeedOp_pending (l : Lane) (u : Nat) (data : Word) (s : State) : (cvuFeedOp l u data s).pending = s.pending := by
  simp [cvuFeedOp]

@[simp] theorem cvuValueOp_pending (l : Lane) (u : Nat) (high : Bool) (w : Word) (s : State) :
    (cvuValueOp l u high w s).pending = s.pending := by
  simp [cvuValueOp]

@[simp] theorem onChannels_pending (s : State) (l : Lane) (f : LaneS → LaneS) : (s.onChannels l f).pending = s.pending := by
  simp [State.onChannels]

@[simp] theorem dmaEnableOp_pending (l : Lane) (c : Nat) (on : Bool) (s : State) : (dmaEnableOp l c on s).pending = s.pending := by
  simp [dmaEnableOp]

@[simp] theorem dmaSuspendOp_pending (l : Lane) (c : Nat) (s : State) : (dmaSuspendOp l c s).pending = s.pending := by
  simp [dmaSuspendOp]

@[simp] theorem dmaResumeOp_pending (l : Lane) (c : Nat) (s : State) : (dmaResumeOp l c s).pending = s.pending := by
  simp [dmaResumeOp]

@[simp] theorem dmaAbortOp_pending (l : Lane) (c : Nat) (s : State) : (dmaAbortOp l c s).pending = s.pending := by
  simp [dmaAbortOp]

@[simp] theorem dmaTailOp_pending (l : Lane) (c tail : Nat) (s : State) : (dmaTailOp l c tail s).pending = s.pending := by
  simp [dmaTailOp]

@[simp] theorem mmuRootOp_pending (l : Lane) (master : Nat) (v : Word) (s : State) :
    (mmuRootOp l master v s).pending = s.pending := by
  simp [mmuRootOp]

@[simp] theorem mmuInvalOp_pending (l : Lane) (v : Word) (s : State) : (mmuInvalOp l v s).pending = s.pending := by
  unfold mmuInvalOp
  repeat' apply pending_ite
  all_goals rfl

@[simp] theorem latchOp_pending (l : Lane) (net : BitVec 64) (frac : Nat) (s : State) :
    (latchOp l net frac s).pending = s.pending := by
  unfold latchOp
  repeat' apply pending_ite
  all_goals rfl

@[simp] theorem writeCvu_pending (s : State) (l : Lane) (ofs : Nat) (v : Word) : (s.writeCvu l ofs v).pending = s.pending := by
  unfold State.writeCvu
  extract_lets
  repeat' with_reducible apply pending_ite
  any_goals rfl
  all_goals split
  all_goals repeat' with_reducible apply pending_ite
  any_goals rfl
  all_goals simp +zetaDelta

@[simp] theorem writeDmaCtrl_pending (s : State) (l : Lane) (c : Nat) (v : Word) : (s.writeDmaCtrl l c v).pending = s.pending := by
  unfold State.writeDmaCtrl
  repeat' apply pending_ite
  all_goals rfl

@[simp] theorem writeHub_pending (s : State) (l : Lane) (ofs : Nat) (v : Word) : (s.writeHub l ofs v).pending = s.pending := by
  unfold State.writeHub
  (repeat' split)
  any_goals rfl
  all_goals simp

@[simp] theorem writeFch_pending (s : State) (l : Lane) (ofs : Nat) (v : Word) : (s.writeFch l ofs v).pending = s.pending := by
  unfold State.writeFch
  extract_lets
  repeat' apply pending_ite
  all_goals rfl

@[simp] theorem writeReg_pending (s : State) (l : Lane) (ofs : Nat) (v : Word) : (s.writeReg l ofs v).pending = s.pending := by
  unfold State.writeReg
  extract_lets o
  split
  all_goals repeat' with_reducible apply pending_ite
  all_goals simp

theorem regWrite_writeReg_pending (l : Lane) (a ofs : Nat) (v : Word) (s : State) :
    (s.regWrite l ofs v fun s => if roPlace ofs then s.writeFault l a 2 else s.writeReg l ofs v).pending = s.pending :=
  regWrite_pending _ _ _ _ _ fun s => by split <;> simp

@[simp] theorem registerWriteOp_pending (l : Lane) (a : Nat) (v : Word) (s : State) :
    (registerWriteOp l a v s).pending = s.pending := by
  unfold registerWriteOp
  split
  · split
    · simp
    · exact regWrite_writeReg_pending l a _ v s
  · simp

@[simp] theorem selectTap_pending (s : State) (ir : Nat) : (s.selectTap ir).pending = s.pending := by
  simp [State.selectTap]

@[simp] theorem idcodeOp_pending (s : State) : (idcodeOp s).pending = s.pending := by
  simp [idcodeOp]

@[simp] theorem sampleOp_pending (cells : List Bool) (s : State) : (sampleOp cells s).pending = s.pending := by
  unfold sampleOp
  all_goals rfl

@[simp] theorem bypassOp_pending (code : Nat) (s : State) : (bypassOp code s).pending = s.pending := by
  simp [bypassOp]

@[simp] theorem dbgInstructionOp_pending (s : State) : (dbgInstructionOp s).pending = s.pending := by
  simp [dbgInstructionOp]

@[simp] theorem dbgRead_pending (s : State) (l : Lane) (a : Nat) : (s.dbgRead l a).pending = s.pending := by
  unfold State.dbgRead
  extract_lets
  repeat' with_reducible apply pending_ite
  any_goals rfl
  all_goals (repeat' split)
  any_goals rfl
  all_goals simp +zetaDelta

@[simp] theorem dbgWrite_pending (s : State) (l : Lane) (a : Nat) (v : Word) : (s.dbgWrite l a v).pending = s.pending := by
  unfold State.dbgWrite
  repeat' with_reducible apply pending_ite
  any_goals rfl
  all_goals simp

@[simp] theorem dbgHalt_pending (s : State) (l : Lane) : (s.dbgHalt l).pending = s.pending := by
  simp [State.dbgHalt]

@[simp] theorem dbgRelease_pending (s : State) (l : Lane) : (s.dbgRelease l).pending = s.pending := by
  simp [State.dbgRelease]

@[simp] theorem dbgStep_pending (s : State) (l : Lane) : (s.dbgStep l).pending = s.pending := by
  unfold State.dbgStep
  (repeat' split) <;> simp

@[simp] theorem silBegin_pending (s : State) : s.silBegin.pending = s.pending := by
  simp [State.silBegin]

@[simp] theorem silWrite_pending (s : State) (v : Word) : (s.silWrite v).pending = s.pending := by
  simp [State.silWrite]

@[simp] theorem silEnd_pending (s : State) : s.silEnd.pending = s.pending := by
  simp [State.silEnd]

@[simp] theorem dbgAttach_pending (s : State) : s.dbgAttach.pending = s.pending := by
  simp [State.dbgAttach]

@[simp] theorem dbgDetach_pending (s : State) : s.dbgDetach.pending = s.pending := by
  simp [State.dbgDetach]

@[simp] theorem adoptTimer_pending (s : State) (e : Ev) : (s.adoptTimer e).pending = s.pending := by
  unfold State.adoptTimer
  extract_lets
  all_goals rfl

@[simp] theorem timerElem_pending (o : Nat) (ks : List Kind) (p : ElemSt → Bool) (s : State) :
    (timerElem o ks p s).pending = s.pending := by
  unfold timerElem
  split
  all_goals repeat' apply pending_ite
  all_goals rfl

@[simp] theorem restartTimeOp_pending (a : Nat) (s : State) : (restartTimeOp a s).pending = s.pending := by
  simp [restartTimeOp]

@[simp] theorem boundaryBackoffOp_pending (o : Nat) (s : State) : (boundaryBackoffOp o s).pending = s.pending := by
  simp [boundaryBackoffOp]

@[simp] theorem timerRoute_pending (r : Nat) (p : RSt → Bool) (slot : Ev → Nat → Ev) (s : State) :
    (timerRoute r p slot s).pending = s.pending := by
  unfold timerRoute
  repeat' apply pending_ite
  all_goals rfl

@[simp] theorem overlapReleaseOp_pending (o : Nat) (s : State) : (overlapReleaseOp o s).pending = s.pending := by
  unfold overlapReleaseOp
  repeat' apply pending_ite
  all_goals simp

@[simp] theorem dataAgeOp_pending (n row : Nat) (s : State) : (dataAgeOp n row s).pending = s.pending := by
  unfold dataAgeOp
  dsimp only
  (repeat' split) <;> simp

@[simp] theorem tokenExpiredOp_pending (source opcode target : Nat) (s : State) :
    (tokenExpiredOp source opcode target s).pending = s.pending := by
  unfold tokenExpiredOp
  dsimp only

end Sys2Proof.Machine
end

section
/-!
SUPPORT. What holds across the service of the packets and the replies: whatever is kept where the seals and the MMUs are, across a wake and
across RESET (O5, O7).
-/

namespace Sys2Proof.Machine

open Sys2Proof

/-- A step leaves the seals, the queue and every lane's MMU as they are. -/
@[simp] abbrev ServiceKept (t s : State) : Prop := t.mod.sealed = s.mod.sealed ∧ t.pending = s.pending ∧ SameIn (·.mmu) t s

/-- A relation between the states before and after a service: it holds where nothing of the seals and the MMUs changes, across
a wake and RESET, and from one state to the next. -/
abbrev Served (R : State → State → Prop) : Prop :=
  (∀ {s t}, ServiceKept t s → R s t) ∧ (∀ s which, R s (s.wakeTrigger which)) ∧ (∀ s trigger, R s (s.enterReset trigger)) ∧
  ∀ {s t u}, R s t → R t u → R s u

namespace Served

variable {R : State → State → Prop} (served : Served R)

include served

theorem kept {s t : State} (h : ServiceKept t s) : R s t := served.1 h

theorem wake (s : State) (which : Nat) : R s (s.wakeTrigger which) := served.2.1 s which

theorem reset (s : State) (trigger : Nat) : R s (s.enterReset trigger) := served.2.2.1 s trigger

theorem trans {s t u : State} (h : R s t) (k : R t u) : R s u := served.2.2.2 h k

theorem refl (s : State) : R s s := served.kept ⟨rfl, rfl, fun _ => rfl⟩

/-- What happens after a change that keeps the seals and the MMUs. -/
theorem after {s t u : State} (k : R t u) (h : ServiceKept t s) : R s u := served.trans (served.kept h) k

theorem each {α : Type} (f : State → α → State) (h : ∀ s x, R s (f s x)) (l : List α) (s : State) : R s (s.each l f) :=
  List.foldlRecOn (motive := R s) l f (served.refl s) fun t reached x _ => served.trans reached (h t x)

/-! ### RESET -/

theorem powerFailWarningOp (mv : Nat) (s : State) : R s (powerFailWarningOp mv s) := by
  unfold Machine.powerFailWarningOp
  extract_lets s1 _ s2 s3 _ _
  split
  · exact served.refl s
  · have warned : ServiceKept s2 s := by
      have recorded : ServiceKept s1 s := by simp [s1]
      exact recorded
    exact served.after (served.trans (served.reset s2 4) (served.kept ⟨rfl, rfl, fun _ => rfl⟩)) warned

theorem rstNLowOp (s : State) : R s (rstNLowOp s) := by
  unfold Machine.rstNLowOp
  split
  · exact served.refl s
  · exact served.trans (served.reset s 3) (served.kept ⟨rfl, rfl, fun _ => rfl⟩)

/-! ### The service of the packets -/

theorem serve (s : State) (h : CmdHdr) (opcode : Nat) (need : Option Role) (body : State → State) (hb : ∀ s, R s (body s)) :
    R s (s.serve h opcode need body) := by
  unfold State.serve
  (repeat' split)
  any_goals exact hb s
  all_goals exact served.kept (by simp)

theorem modeRequestWakeOp (h : CmdHdr) (s : State) : R s (modeRequestWakeOp h s) := by
  refine served.serve s h _ _ _ fun s => ?_
  (repeat' split)
  · exact served.kept (by simp)
  · exact served.kept (by simp)
  · exact served.after (served.wake _ 2) (by simp)

/-- WAKE is the only command from a host whose service does more. -/
theorem perform (c : RingCmd) (s : State) : R s (State.perform c s) := by
  fun_cases State.perform
  any_goals (refine served.kept ?_; simp +zetaDelta; done)
  exact served.modeRequestWakeOp _ s

theorem serveRing (s : State) (c : RingCmd) : R s (s.serveRing c) := by
  unfold State.serveRing
  extract_lets ls s0 s1
  have done : R s s1 := served.after (served.perform c s0) (by simp [s0])
  split
  · exact served.trans done (served.kept ⟨rfl, rfl, fun _ => rfl⟩)
  · exact served.kept (by simp [s0])

theorem serveQ5 (s : State) (ready : RingCmd → Bool) : R s (s.serveQ5 ready) := by
  unfold State.serveQ5
  split
  · exact served.refl s
  · exact served.each _ (fun s c => served.after (served.perform c _) (by simp)) _ s

theorem intakeOp (s : State) : R s (intakeOp s) := by
  unfold Machine.intakeOp
  split
  · extract_lets early taken src s1
    exact served.trans (served.after (served.each _ served.serveRing taken s1) ⟨rfl, rfl, fun _ => rfl⟩) (served.serveQ5 _ early)
  · exact served.refl s

theorem offCycleOp (s : State) : R s (offCycleOp s) := by
  unfold Machine.offCycleOp
  split
  · exact served.trans (served.each _ served.serveRing _ s) (served.serveQ5 _ _)
  · exact served.refl s

end Served

/-! ### What an arriving packet leaves alone -/

@[simp] theorem consume_serviceKept (s : State) (a : Arrival) (ring : Bool) : ServiceKept (s.consume a ring) s :=
  ⟨rfl, rfl, fun _ => rfl⟩

@[simp] theorem answer_serviceKept (s : State) (a : Arrival) (own : Bool) (status : Nat) (params : List Byte) :
    ServiceKept (s.answer a own status params) s := by
  unfold State.answer
  dsimp only
  (repeat' split) <;> simp

@[simp] theorem rejectArrival_serviceKept (s : State) (a : Arrival) (own : Bool) (status : Nat) (params : List Byte) :
    ServiceKept (s.rejectArrival a own status params) s := by
  simp [State.rejectArrival]

@[simp] theorem beginDormant_serviceKept (s : State) : ServiceKept s.beginDormant s := by
  simp [State.beginDormant]

@[simp] theorem failConsumed_serviceKept (s : State) (a : Arrival) (status : Nat) : ServiceKept (s.failConsumed a status) s := by
  simp [State.failConsumed]

@[simp] theorem copyArrives_serviceKept (s : State) (a : Arrival) (c : Consumed) : ServiceKept (s.copyArrives a c) s := by
  unfold State.copyArrives
  extract_lets again src s1 same add src' s2
  have counted : ServiceKept s2 s := by
    simp only [s2, s1]
    split <;> simp
  split
  · exact List.foldlRecOn (motive := fun t => ServiceKept t s) _ _ counted fun t kept p _ => by simpa using kept
  · exact counted

@[simp] theorem macBad_serviceKept (s : State) (a : Arrival) (x : Session) : ServiceKept (s.macBad a x) s := by
  unfold State.macBad
  extract_lets times y put s1 src s2
  have noted : ServiceKept s2 s := by simp [s2, s1]
  split <;> simp [noted]

@[simp] theorem enterRing_serviceKept (s : State) (a : Arrival) : ServiceKept (s.enterRing a) s := by
  unfold State.enterRing
  dsimp only
  split
  · simp
  · simp

/-! ### What replies and the replay leave alone -/

@[simp] theorem endReplay_serviceKept (s : State) (code : Nat) (differs : Word) (recorded replayed : BitVec 64) :
    ServiceKept (s.endReplay code differs recorded replayed) s := by
  simp [State.endReplay]

@[simp] theorem loadEssence_serviceKept (s : State) (pages : List (Nat × List Byte)) : ServiceKept (s.loadEssence pages) s := by
  unfold State.loadEssence
  dsimp only
  split <;> simp

@[simp] theorem startReplay_serviceKept (s : State) : ServiceKept s.startReplay s := by
  fun_cases State.startReplay
  all_goals simp +zetaDelta [State.loadKey]

@[simp] theorem enterReplay_serviceKept (s : State) : ServiceKept s.enterReplay s := by
  simp [State.enterReplay]

@[simp] theorem replayOne_serviceKept (s : State) (c : Word) (rest : List Word) (head : List Byte) (items : List (Nat × List Byte)) :
    ServiceKept (s.replayOne c rest head items) s := by
  unfold State.replayOne
  extract_lets data _ s1 a t s2 _ _ _ s3 recorded
  clear_value t
  have kept : ServiceKept s3 s := by simp [s3, s2, s1, State.takeVital]
  (repeat' split) <;> simp [kept]

@[simp] theorem replayCycleOp_serviceKept (s : State) : ServiceKept (replayCycleOp s) s := by
  fun_cases replayCycleOp <;> simp

namespace Served

variable {R : State → State → Prop} (served : Served R)

include served

/-! ### An arriving packet -/

theorem step12 (s : State) (a : Arrival) : R s (s.step12 a) := by
  unfold State.step12
  split
  · exact served.kept (by simp)
  split
  · exact served.after (served.perform a.cmd _) (by simp)
  · exact served.kept (by simp)

theorem step11 (s : State) (a : Arrival) (role : Option Role) : R s (s.step11 a role) := by
  fun_cases State.step11
  any_goals exact served.step12 s a
  all_goals exact served.kept (by simp)

theorem step9 (s : State) (a : Arrival) : R s (s.step9 a) := by
  fun_cases State.step9
  any_goals exact served.step11 s a _
  all_goals exact served.kept (by simp)

theorem step8 (s : State) (a : Arrival) : R s (s.step8 a) := by
  fun_cases State.step8
  · exact served.step9 s a
  · exact served.kept (by simp)
  · exact served.kept (by simp)

theorem step4 (s : State) (a : Arrival) : R s (s.step4 a) := by
  fun_cases State.step4
  · exact served.kept (by simp)
  · exact served.kept (by simp)
  · exact served.kept (by simp +zetaDelta)
  · exact served.kept (by simp +zetaDelta)
  · exact served.after (served.step8 _ a) ⟨rfl, rfl, fun _ => rfl⟩

theorem hostPacketOp (p : HostPort) (sender : HostPeer) (stamp : Nat) (lanes : LaneSet) (bytes : List Byte) (s : State) :
    R s (hostPacketOp p sender stamp lanes bytes s) := by
  unfold Machine.hostPacketOp
  extract_lets addr s1 src1
  split
  · exact served.refl s
  split
  · exact served.kept (by simp)
  next src _ =>
  extract_lets a n s2 srcFull srcDrop
  have counted : ServiceKept s2 s := by simp [s2, s1]
  (repeat' split)
  · exact served.after (served.step4 s2 a) counted
  · exact served.kept (by simp [counted])
  · exact served.kept counted

/-! ### Replies -/

theorem carryMode (s : State) (p : Packet) : R s (s.carryMode p) := by
  fun_cases State.carryMode
  case case4 => exact served.after (served.reset _ 5) ⟨rfl, rfl, fun _ => rfl⟩
  all_goals exact served.kept (by simp +zetaDelta)

theorem substitute (s : State) (p : Packet) (wrote : Nat) : R s (s.substitute p wrote) :=
  served.after (served.carryMode _ p) (by simp)

theorem takeReply {s u : State} {pass : LaneReplies → Bool} {r : LaneReplies} (taken : s.takeReply pass = some (r, u)) : R s u := by
  obtain ⟨rest, rfl⟩ := takeReply_taken taken
  exact served.kept ⟨rfl, rfl, fun _ => rfl⟩

theorem replyAgreedOp (cmd : CmdRef) (s : State) : R s (replyAgreedOp cmd s) := by
  unfold Machine.replyAgreedOp
  split
  next r s1 taken =>
    split
    · refine served.trans (served.takeReply taken) (served.after (served.carryMode _ _) ?_)
      split <;> simp
    · exact served.refl s
  next => exact served.refl s

theorem replyDisagreeOp (cmd : CmdRef) (s : State) : R s (replyDisagreeOp cmd s) := by
  unfold Machine.replyDisagreeOp
  extract_lets wrote
  split
  next r s1 taken => exact served.trans (served.takeReply taken) (served.substitute s1 _ _)
  next => exact served.refl s

theorem replyMissingOp (cmd : CmdRef) (s : State) : R s (replyMissingOp cmd s) := by
  unfold Machine.replyMissingOp
  split
  next r s1 taken => exact served.trans (served.takeReply taken) (served.substitute s1 _ _)
  next =>
    split
    · exact served.substitute s _ _
    · exact served.refl s

end Served

end Sys2Proof.Machine
end

section
/-!
SUPPORT and O4. Every command answers a next state and leaves the queue of waiting commands as it is.
-/

namespace Sys2Proof.Machine

open Sys2Proof

@[simp] theorem enterReset_pending (s : State) (trigger : Nat) : (s.enterReset trigger).pending = s.pending := by
  unfold State.enterReset
  extract_lets s1 s2 s3 held kept b src t s4
  have h2 : s2.pending = s.pending := by
    simp only [s2]; split <;> simp [s1]
  have h4 : s4.pending = s.pending := by
    simp only [s4]; split <;> simp [t, b, s3, h2]
  simp [State.clearVolatile, h4]

@[simp] theorem wakeTrigger_pending (s : State) (which : Nat) : (s.wakeTrigger which).pending = s.pending := by
  unfold State.wakeTrigger
  extract_lets src s1 src1 s2 src2
  have h1 : s1.pending = s.pending := by
    simp only [s1]; split <;> simp
  have h2 : s2.pending = s.pending := by simpa [s2] using h1
  (repeat' split) <;> simp [h2]

/-- The service of packets and replies leaves the queue alone. -/
theorem pending_served : Served fun s t => t.pending = s.pending :=
  ⟨fun h => h.2.1, wakeTrigger_pending, enterReset_pending, fun h k => k.trans h⟩

@[simp] theorem dbg_pending (s : State) (ok : Bool) (f : State → State) (hf : ∀ s, (f s).pending = s.pending) :
    (s.dbg ok f).pending = s.pending := by
  simp [State.dbg, hf]

@[simp] theorem holdUpExhaustedOp_pending (s : State) : (holdUpExhaustedOp s).pending = s.pending := by
  simp [holdUpExhaustedOp, State.enterOff, State.clearVolatile]

/-- Settles O4, command by command: those that bring a service, and the frame of every other operation. -/
theorem everyCommandCompletes : Obligations.EveryCommandCompletes := by
  intro c s
  cases c <;> refine ⟨_, rfl, ?_⟩
  case powerFailWarning mv => exact pending_served.powerFailWarningOp mv s
  case rstNLow => exact pending_served.rstNLowOp s
  case hostPacket p sender stamp lanes bytes => exact pending_served.hostPacketOp p sender stamp lanes bytes s
  case nonvitalIntake => exact pending_served.intakeOp s
  case offCycleService => exact pending_served.offCycleOp s
  case replyAgreed cmd => exact pending_served.replyAgreedOp cmd s
  case replyDisagreeTimeout cmd => exact pending_served.replyDisagreeOp cmd s
  case replyMissingTimeout cmd => exact pending_served.replyMissingOp cmd s
  case modeRequestWake hdr => exact pending_served.modeRequestWakeOp hdr s
  all_goals simp

end Sys2Proof.Machine
end

section
/-!
SUPPORT. The seals: RESET, OFF and a wake keep them, only the fuse operation changes them, and it blows them (R509–R511).
-/

namespace Sys2Proof.Machine

open Sys2Proof

@[simp] theorem enterReset_sealed (s : State) (trigger : Nat) : (s.enterReset trigger).mod.sealed = s.mod.sealed := by
  unfold State.enterReset
  extract_lets s1 s2 s3 held kept b src t s4
  have h2 : s2.mod.sealed = s.mod.sealed := by
    simp only [s2]; split <;> simp [s1]
  have h4 : s4.mod.sealed = s.mod.sealed := by
    simp only [s4]; split <;> simp [t, b, s3, h2]
  simp [State.clearVolatile, h4]

@[simp] theorem wakeTrigger_sealed (s : State) (which : Nat) : (s.wakeTrigger which).mod.sealed = s.mod.sealed := by
  unfold State.wakeTrigger
  extract_lets src s1 src1 s2 src2
  have h1 : s1.mod.sealed = s.mod.sealed := by
    simp only [s1]; split <;> simp
  have h2 : s2.mod.sealed = s.mod.sealed := by simpa [s2] using h1
  (repeat' split) <;> simp [h2, src2]

/-- The service of packets and replies keeps the seals. -/
theorem sealed_served : Served fun s t => t.mod.sealed = s.mod.sealed :=
  ⟨fun h => h.1, wakeTrigger_sealed, enterReset_sealed, fun h k => k.trans h⟩

/-- A fuse operation blows the seals or leaves them. -/
theorem fuseEffect_sealed (s : State) (f : FuseOp) (blown : s.mod.sealed = true) : (s.fuseEffect f).mod.sealed = true := by
  unfold State.fuseEffect
  dsimp only
  (repeat' split) <;> simp [blown]

theorem fuseCompleteOp_sealed (ok : Bool) (s : State) (blown : s.mod.sealed = true) : (fuseCompleteOp ok s).mod.sealed = true := by
  unfold fuseCompleteOp
  split
  · exact blown
  · split <;> simp [blown, fuseEffect_sealed]

/-- A command that the table of changes does not name for the seals keeps them. -/
theorem exec_sealed (c : Instr) (s t : State) (h : exec c s = .next t) (unnamed : (mayChange c).contains .seals = false) :
    t.mod.sealed = s.mod.sealed := by
  obtain ⟨-, -, seals, -⟩ := exec_moduleFramed c s t h
  exact seals.resolve_left fun named => by simp [named] at unnamed

/-- Command by command: those that the table of changes names for the seals, and the frame of all others. -/
theorem exec_keepsSeals (c : Instr) (s t : State) (h : exec c s = .next t) (blown : s.mod.sealed = true) : t.mod.sealed = true := by
  cases c
  case powerFailWarning mv => cases h; exact (sealed_served.powerFailWarningOp mv s).trans blown
  case holdUpExhausted =>
    cases h
    unfold holdUpExhaustedOp
    split <;> simpa [State.enterOff, State.clearVolatile] using blown
  case rstNLow => cases h; exact (sealed_served.rstNLowOp s).trans blown
  case resetRelease a b c => cases h; exact (resetReleaseOp_sealed a b c s).trans blown
  case wakeNLow => cases h; exact (wakeTrigger_sealed s 1).trans blown
  case hostPacket p sender stamp lanes bytes => cases h; exact (sealed_served.hostPacketOp p sender stamp lanes bytes s).trans blown
  case nonvitalIntake => cases h; exact (sealed_served.intakeOp s).trans blown
  case offCycleService => cases h; exact (sealed_served.offCycleOp s).trans blown
  case replyAgreed cmd => cases h; exact (sealed_served.replyAgreedOp cmd s).trans blown
  case replyDisagreeTimeout cmd => cases h; exact (sealed_served.replyDisagreeOp cmd s).trans blown
  case replyMissingTimeout cmd => cases h; exact (sealed_served.replyMissingOp cmd s).trans blown
  case modeRequestWake hdr => cases h; exact (sealed_served.modeRequestWakeOp hdr s).trans blown
  case replayCycle => cases h; exact (replayCycleOp_serviceKept s).1.trans blown
  case fuseOperationComplete ok => cases h; exact fuseCompleteOp_sealed ok s blown
  all_goals exact (exec_sealed _ s t h rfl).trans blown

/-- A debug command reaches nothing of a sealed module. -/
theorem dbg_of_sealed (s : State) (ok : Bool) (f : State → State) (blown : s.sealedT = true) : s.dbg ok f = s := by
  simp [State.dbg, blown]

/-- Settles O7: step by step, and the debug commands of a sealed module. -/
theorem sealsStayBlown : Obligations.SealsStayBlown := by
  refine ⟨fun s t h blown => ?_, fun c s blown hc => ?_, fun l a v s blown => ?_, fun s blown other => ?_⟩
  · unfold step at h
    split at h
    · cases h; exact blown
    · exact exec_keepsSeals _ _ t h blown
  · simp only [List.mem_cons, List.not_mem_nil, or_false] at hc
    obtain rfl | rfl | rfl | rfl | rfl | rfl | rfl | rfl := hc <;> exact ⟨s, congrArg _ (dbg_of_sealed s _ _ blown), rfl⟩
  · exact ⟨congrArg _ (dbg_of_sealed s _ _ blown), congrArg _ (dbg_of_sealed s _ _ blown)⟩
  · refine ⟨_, rfl, ?_⟩
    simp [dbgInstructionOp, blown, State.selectTap]

end Sys2Proof.Machine
end

section
/-!
SUPPORT. The test access port's commands (O25) and the debug master's reads and writes (O26): R381, R410, R509, R510, R518.
-/

namespace Sys2Proof.Machine

open Sys2Proof

/-! ### A debug command -/

theorem dbg_of_ready {s : State} {ok : Bool} (f : State → State) (ready : DebugReady s) (may : ok = true) : s.dbg ok f = f s := by
  obtain ⟨selected, on, up, unsealed⟩ := ready
  simp [State.dbg, selected, on, up, unsealed, may]

theorem dbg_refused {s : State} {ok : Bool} (f : State → State) (ready : DebugReady s) (mayNot : ok = false) :
    s.dbg ok f = s.dbgResult 2 0 := by
  obtain ⟨selected, on, up, unsealed⟩ := ready
  simp [State.dbg, selected, on, up, unsealed, mayNot]

theorem dbg_busy {s : State} (ok : Bool) (f : State → State) (selected : s.tap.ir = 0x08) (reset : s.mod.mode = .reset)
    (unsealed : s.sealedT = false) : s.dbg ok f = s.dbgResult 1 0 := by
  simp [State.dbg, selected, reset, unsealed]

/-- Where the command's condition holds it runs its body, of which something is to be shown. -/
theorem runs_dbg {s : State} {c : Instr} {ok : Bool} {f : State → State} {P : State → Prop} (row : exec c s = .next (s.dbg ok f))
    (ready : DebugReady s) (may : ok = true) (h : P (f s)) : Runs c s P :=
  ⟨_, row, (dbg_of_ready f ready may).symm ▸ h⟩

/-! ### Logged actions -/

theorem record_mod (s : State) (type : Nat) (payload : List Byte) : (s.record type payload).mod = s.mod := by simp

@[simp] theorem recordDebug_log (s : State) (lane action : Nat) : (s.recordDebug lane action).mod = s.logDebug.mod :=
  record_mod _ _ _

@[simp] theorem recordDebug_halted (s : State) (lane action : Nat) (m : Lane) :
    ((s.recordDebug lane action).lanes.get m).diag.halted = (s.lanes.get m).diag.halted :=
  record_halted s.logDebug _ _ m

/-- Settles O25: the instructions by definition, the debug commands from the gate that they all pass. -/
theorem testAccessCommands : Obligations.TestAccessCommands := by
  refine ⟨fun s => rfl, fun s => rfl, fun cells s length => ?_, fun code s h1 h2 h8 => ?_, fun s => rfl, fun s sel reset unsealed => ?_,
    fun s ready => ?_, fun s ready => ?_, fun s ready => ?_, fun l s ready attached => ?_, fun l s ready attached => ?_,
    fun l s ready attached halted => ?_, fun l s ready detached => ?_, fun l s ready => ?_, fun s ready bench loaded => ?_,
    fun v s ready opened => ?_, fun s ready opened => ?_⟩
  · have captured : (cells ++ List.replicate 148 false).take 148 = cells := List.take_left' length
    exact congrArg (fun b => Host.Outcome.next { s with tap := { s.tap with ir := 0x02, boundary := b } }) captured
  · have unlisted : ¬ (code.toNat = 0x01 ∨ code.toNat = 0x02 ∨ code.toNat = 0x08) := by bv_omega
    exact congrArg Host.Outcome.next (if_neg (by simpa [or_assoc] using unlisted))
  · exact ⟨congrArg _ (dbg_busy _ _ sel reset unsealed), congrArg _ (dbg_busy _ _ sel reset unsealed),
      fun l => congrArg _ (dbg_busy _ _ sel reset unsealed)⟩
  · exact congrArg _ (dbg_of_ready id ready rfl)
  · exact runs_dbg rfl ready rfl (by simp [State.dbgAttach, State.logDebug, State.dbgResult])
  · exact congrArg _ (dbg_of_ready _ ready rfl)
  · exact runs_dbg rfl ready attached (by simp [State.dbgHalt, State.dbgResult, State.lane])
  · refine runs_dbg rfl ready attached ?_
    simp [State.dbgRelease, State.dbgResult, State.lane, State.laneSt]
  · refine runs_dbg rfl ready attached ?_
    have logged : (s.logDebug.countEvent l 0x0101 1 none none).mod = s.logDebug.mod := by simp
    have kept : ((s.logDebug.countEvent l 0x0101 1 none none).lane l).diag.halted = true := by simpa [State.lane] using halted
    simp only [State.dbgStep, if_pos halted]
    exact ⟨kept, congrArg (·.dbgLog) logged, rfl⟩
  · exact congrArg _ (dbg_refused _ ready detached)
  · exact congrArg _ (dbg_of_ready _ ready rfl)
  · exact runs_dbg rfl ready (by simp [bench, loaded]) ⟨rfl, rfl, rfl, rfl⟩
  · exact runs_dbg rfl ready opened ⟨rfl, rfl, rfl⟩
  · exact runs_dbg rfl ready opened ⟨rfl, rfl, rfl⟩

/-! ### The debug master's memory -/

theorem not_inRegs_of_inRam {a : Nat} (h : inRam a = true) : inRegs a = false := by
  simp [inRam, inEssence, inDram, inRegs] at *
  omega

/-- Bytes written at addresses that differ read back. -/
theorem setBytes_same (ws : List (Nat × Byte)) (t : Tab Byte) (p : Nat × Byte) (h : Memory.wf t = true)
    (differ : (ws.map Prod.fst).Nodup) (hp : p ∈ ws) : Tab.getD (ws.foldl (fun t p => setByte t p.1 p.2) t) p.1 0 = p.2 := by
  induction ws generalizing t with
  | nil => simp at hp
  | cons q r ih =>
    have wf := setByte_wf t q.1 q.2 h
    rw [List.map_cons, List.nodup_cons] at differ
    obtain rfl | later := List.mem_cons.1 hp
    · rw [List.foldl_cons, setBytes_other r _ p.1 wf fun x hx same => differ.1 (same ▸ List.mem_map_of_mem hx)]
      simp only [Memory.wf, Bool.and_eq_true] at h
      exact setByte_same t p.1 p.2 h.1
    · exact ih _ wf differ.2 later

/-- The addresses and bytes of a word that the debug master writes. -/
theorem debugStores (a : Nat) (v : Word) : (bytesOf 4 v).zipIdx.map (fun p => (a + p.2, p.1)) =
    (List.range 4).map fun i => (a + i, BitVec.ofNat 8 (v.toNat / 256 ^ i)) := by
  simp [bytesOf, leBytes, List.range_succ, Nat.div_div_eq_div_mul]

/-- A word that is written reads back byte by byte. -/
theorem write_word_same (m : MmuS) (a : Nat) (v : Word) (h : m.wf = true) (i : Nat) (hi : i < 4) :
    (m.write ((bytesOf 4 v).zipIdx.map fun p => (a + p.2, p.1))).byte (a + i) = BitVec.ofNat 8 (v.toNat / 256 ^ i) := by
  rw [debugStores]
  refine setBytes_same _ _ (a + i, _) h ?_ (List.mem_map.2 ⟨i, List.mem_range.2 hi, rfl⟩)
  simp [List.range_succ]

theorem write_word_other (m : MmuS) (a : Nat) (v : Word) (h : m.wf = true) (b : Nat) (apart : b < a ∨ a + 3 < b) :
    (m.write ((bytesOf 4 v).zipIdx.map fun p => (a + p.2, p.1))).byte b = m.byte b := by
  rw [debugStores]
  refine write_byte_other m _ b h fun p hp => ?_
  obtain ⟨i, hi, rfl⟩ := List.mem_map.1 hp
  have := List.mem_range.1 hi
  dsimp only
  omega

/-- What a read of four sound bytes of RAM answers. -/
theorem dbgRead_ram {s : State} {l : Lane} {a : Nat} (allowed : s.guardAllows 7 a = true) (ram : inRam a = true)
    (ram3 : inRam (a + 3) = true) (clean : (s.lane l).mmu.poisoned = []) :
    s.dbgRead l a = s.dbgResult 0 (BitVec.ofNat 32 (ofLe ((List.range 4).map fun i => (s.lane l).mmu.byte (a + i)))) := by
  have map3 : inMap (a + 3) = true := by
    simp only [inRam, Bool.or_eq_true] at ram3
    obtain h | h := ram3 <;> simp [inMap, h]
  have sound : ((List.range 4).map (a + ·)).find? (s.lane l).mmu.bad = none :=
    List.find?_eq_none.2 fun b _ => by simp only [MmuS.bad, clean]; simp
  simp only [State.dbgRead, allowed, not_inRegs_of_inRam ram, map3, sound, Bool.not_true, Bool.false_eq_true, if_false]

/-- What a write of four bytes of RAM does. -/
theorem dbgWrite_ram {s : State} {l : Lane} {a : Nat} (v : Word) (allowed : s.guardAllows 7 a = true) (ram : inRam a = true)
    (ram3 : inRam (a + 3) = true) : s.dbgWrite l a v =
      ((s.recordDebug l.id 3).modMmu l fun m => m.write ((bytesOf 4 v).zipIdx.map fun p => (a + p.2, p.1))).dbgResult 0 0 := by
  simp [State.dbgWrite, allowed, not_inRegs_of_inRam ram, ram, ram3]

/-- Settles O26: the guard window, the four bytes read, and the four bytes stored. -/
theorem debugMemoryCommands : Obligations.DebugMemoryCommands := by
  refine ⟨fun l a s ready attached _ ram ram3 clean allowed => ?_, fun l a v s ready attached ram ram3 allowed wf => ?_,
    fun l a v s ready attached outside => ⟨?_, ?_⟩⟩
  · refine runs_dbg rfl ready attached ?_
    rw [dbgRead_ram allowed ram ram3 clean]
    exact ⟨rfl, rfl, rfl⟩
  · refine runs_dbg rfl ready attached ?_
    rw [dbgWrite_ram v allowed ram ram3]
    have memory (m : Lane) : ((s.recordDebug l.id 3).lane m).mmu = (s.lane m).mmu := by simp [State.lane]
    have logged : (s.recordDebug l.id 3).mod.dbgLog = s.mod.dbgLog + 1 := by simp [State.logDebug]
    refine ⟨rfl, logged, fun i hi => ?_, fun m b apart => ?_⟩
    · simp only [State.dbgResult, State.lane, State.modMmu, get_modLane_same] at memory ⊢
      rw [memory]
      exact write_word_same _ _ v wf i hi
    · by_cases same : m = l
      · subst same
        have beside : b < a.toNat ∨ a.toNat + 3 < b := apart.resolve_left (fun h => h rfl)
        simp only [State.dbgResult, State.lane, State.modMmu, get_modLane_same] at memory ⊢
        rw [memory]
        exact write_word_other _ _ v wf b beside
      · exact congrArg (MmuS.byte · b) ((modLane_mmu_other _ l m _ same).trans (memory m))
  · refine runs_dbg rfl ready attached ?_
    simp [State.dbgRead, outside, State.dbgResult, State.lane]
  · refine runs_dbg rfl ready attached ?_
    simp [State.dbgWrite, outside, State.dbgResult, State.lane]

end Sys2Proof.Machine
end

section
/-!
SUPPORT. Oscillators, monitor windows, HOLD and the rate acquisition (O23; R356, R484–R489).
-/

namespace Sys2Proof.Machine

open Sys2Proof

/-! ### What a record and the edge selector leave of a lane's seat in the vote -/

/-- A lane's state and the cause of its last departure. -/
@[simp] abbrev SeatKept (t s : State) : Prop :=
  ∀ m, (t.lanes.get m).core.st = (s.lanes.get m).core.st ∧ (t.lanes.get m).core.cause = (s.lanes.get m).core.cause

@[simp] theorem recordLane_cause (s : State) (l m : Lane) (type : Nat) (payload : List Byte) :
    ((s.recordLane l type payload).lanes.get m).core.cause = (s.lanes.get m).core.cause := by
  unfold State.recordLane State.noteEvent
  by_cases same : m = l
  · subst same; simp
  · simp [State.modCore, get_modLane_ne, same]

@[simp] theorem recordClock_seat (s : State) (l : Lane) (event : Nat) : SeatKept (s.recordClock l event) s := by
  simp [State.recordClock]

@[simp] theorem edgeSelect_seat (s : State) : SeatKept s.edgeSelect s := by
  unfold State.edgeSelect
  (repeat' split) <;> simp

@[simp] theorem answerAsked_cause (s : State) (l m : Lane) (x : Nat) :
    ((s.answerAsked l x).lanes.get m).core.cause = (s.lanes.get m).core.cause := by
  unfold State.answerAsked
  split
  · simp only [State_complete_frame]; cases l <;> cases m <;> rfl
  · rfl

@[simp] theorem failLane_cause (s : State) (l : Lane) (cause : Nat) : ((s.failLane l cause).lanes.get l).core.cause = cause := by
  simp [State.failLane]

/-- A lane whose crystal is lost goes on with its RC, where that is usable (R486). -/
theorem clockTrip_toRc {s : State} {l : Lane} (started : (s.lane l).clk.started = true) (untripped : (s.lane l).clk.tripped = false)
    (crystal : (s.lane l).clk.source = .crystal) (stable : (s.lane l).clk.rcStable = true) (fallback : (s.lane l).clk.noFallback = false) :
    On (s.clockTrip l) fun t => (t.lane l).clk = { (s.lane l).clk with tripped := true, source := .rc, switching := true } ∧
      SeatKept t s := by
  rw [lane_eq] at *
  unfold On State.clockTrip
  simp [started, untripped, crystal, stable, fallback]

/-- A lane in HOLD whose RC comes up leaves it (R489). -/
theorem leaveHold_minority {s : State} {l : Lane} (cycles : s.mod.mode.cycles = true) : On (s.leaveHold l) fun t =>
    (t.lanes.get l).core.st = .minority ∧ (t.lanes.get l).core.cause = 6 ∧ (t.lanes.get l).clk.source = .rc ∧
    (t.lanes.get l).tbs.acquiring = true := by
  unfold On State.leaveHold
  simp [cycles]

theorem lanesRun_of_cycles {m : Mode} (cycles : m.cycles = true) : m.lanesRun = true := by
  simp only [Mode.cycles, Bool.or_eq_true, decide_eq_true_eq] at cycles
  obtain rfl | rfl := cycles <;> rfl

theorem sat16_of_le {n : Nat} (small : n ≤ 0xFFFF) : sat16 n = n := Nat.min_eq_right small

/-- Settles O23: oscillator by oscillator, window by window, and the ends of HOLD and of the acquisition. -/
theorem oscillatorCommands : Obligations.OscillatorCommands := by
  unfold Obligations.OscillatorCommands
  simp only [lane_eq, laneSt_eq]
  refine ⟨fun l s runs => ?_, fun l s cycles hold started tripped usable => ⟨_, rfl, ?_⟩,
    fun l s runs started untripped crystal stable fallback => ⟨_, rfl, ?_⟩, fun l s runs started crystal alive => ⟨_, rfl, ?_⟩,
    fun l n s on low high => ?_, fun l n s on outside started crystal stable fallback untripped => ⟨_, rfl, ?_⟩,
    fun l e s started untripped => ?_, fun l h s switching => ⟨_, rfl, ?_⟩, fun l s restarting unstable unheld => ?_,
    fun l s hold started tripped unstable => ⟨_, rfl, ?_⟩, fun l d s acquiring eight => ?_⟩
  · exact congrArg Host.Outcome.next (if_neg (by simp [runs]))
  · have left := leaveHold_minority (s := s.modClk l fun c => { c with rcStable := true, rcRestarting := false }) (l := l) cycles
    simpa [oscillatorStableOp, lanesRun_of_cycles cycles, hold, started, tripped, usable] using left
  · obtain ⟨clk, seat⟩ := clockTrip_toRc (s := s.modClk l fun c => { c with xtStable := false }) (l := l) (by simpa using started)
      (by simpa using untripped) (by simpa using crystal) (by simpa using stable) (by simpa using fallback)
    rw [lane_eq] at clk
    simp [oscillatorUnstableOp, runs, clk, seat]
  · simp [oscillatorUnstableOp, runs, started, crystal, alive]
  · have inside : ¬ (n < 2450 ∨ 2550 < n) := by omega
    have kept : sat16 n = n := sat16_of_le (by omega)
    have op : exec (.monitorWindow l n) s = .next (monitorWindowOp l n s) := rfl
    simp [op, monitorWindowOp, on, inside, kept]
  · obtain ⟨clk, -⟩ := clockTrip_toRc (s := s.modClk l fun c => { c with lastC := sat16 n }) (l := l) (by simpa using started)
      (by simpa using untripped) (by simpa using crystal) (by simpa using stable) (by simpa using fallback)
    rw [lane_eq] at clk
    simp [monitorWindowOp, on, outside, clk]
  · exact congrArg Host.Outcome.next (if_pos (by simp [started, untripped]))
  · unfold sourceSwitchOp
    cases h <;> simp [switching]
  · exact congrArg Host.Outcome.next (if_pos (by simp [restarting, unstable, unheld]))
  · simp [holdTimeoutOp, hold, started, tripped, unstable]
  · have op : exec (.rateAcquisitionComplete l d) s = .next (rateAcquisitionOp l d s) := rfl
    simp [op, rateAcquisitionOp, acquiring, eight]

end Sys2Proof.Machine
end

section
/-!
SUPPORT. Memory errors, faults of translation and of the guard window (O29; R356, R442–R448, R454, R456–R460).
-/

namespace Sys2Proof.Machine

open Sys2Proof

/-! ### What a lane-local record leaves of the count of dropped cycle records -/

theorem takeSnapshot_dropSil (s : State) (l m : Lane) (entry : Nat) (d : SnapDef) (trigger : Nat) :
    ((s.takeSnapshot l entry d trigger).lanes.get m).diag.dropSil = (s.lanes.get m).diag.dropSil := by
  unfold State.takeSnapshot
  dsimp only
  by_cases same : m = l
  · subst same
    split <;> simp
  · split <;> simp [State.modDiag, get_modLane_ne _ _ _ _ same]

theorem snapshots_dropSil (s before : State) (ls : LaneSet) (type : Nat) (m : Lane) :
    ((s.snapshots before ls type).lanes.get m).diag.dropSil = (s.lanes.get m).diag.dropSil := by
  unfold State.snapshots
  split
  · rfl
  · refine keep_foldl (fun t => (t.lanes.get m).diag.dropSil) _ (fun t l => ?_) _ _
    exact keep_foldl (fun t => (t.lanes.get m).diag.dropSil) _ (fun t p => takeSnapshot_dropSil t l m _ _ _) _ _

@[simp] theorem recordLane_dropSil (s : State) (l m : Lane) (type : Nat) (payload : List Byte) :
    ((s.recordLane l type payload).lanes.get m).diag.dropSil = (s.lanes.get m).diag.dropSil := by
  have noted (t : State) : ((t.noteEvent l).lanes.get m).diag = (t.lanes.get m).diag := by simp
  unfold State.recordLane
  rw [noted, snapshots_dropSil]
  simp

/-! ### A departure from a vote of three leaves the memories as they are -/

theorem leaveVote_mmu_of_all (s : State) (l : Lane) (cause sub : Nat) (cycles : s.mod.mode.cycles = true) (all : AllVoting s) :
    SameIn (·.mmu) (s.leaveVote l cause sub) s := by
  have idle (m : Lane) : s.receiving m = false := by simp [State.receiving, State.inStep, all m]
  have sender : SameIn (·.mmu) (s.dropSender l) s := by
    unfold State.dropSender
    have none : Lane.all.filter s.receiving = [] := List.filter_eq_nil_iff.2 fun m _ => by simp [idle m]
    simp only [none, State.each, List.foldl_nil]
    (repeat' split) <;> simp
  have left : SameIn (·.mmu) (s.leave l cause sub) s := by
    unfold State.leave
    rw [laneSt_eq, all l]
    simp [cycles, sender]
  obtain ⟨st, why, late, others⟩ := leave_of_voting s l cause sub cycles all
  have two : LaneSet.count (s.leave l cause sub).votingLanes = 2 := by
    refine count_of_all_but_one _ l fun m => ?_
    by_cases same : m = l
    · subst same
      simp [st]
    · simp [others m same, all m, same]
  unfold State.leaveVote
  dsimp only
  rw [if_neg (by simp [two])]
  intro m
  simp [left m]

/-! ### Uncorrectable errors -/

theorem eccUncorrectableOp_essence {l : Lane} {r : Option Nat} {a : Nat} {p q : Bool} {s : State} (operate : s.mod.mode = .operate)
    (votes : s.votingLanes = LaneSet.full) (ess : inEssence a = true) : On (eccUncorrectableOp l r a p q s) fun t =>
      (t.lanes.get l).core.st = .minority ∧ (t.lanes.get l).core.cause = 2 ∧
      (t.lanes.get l).mmu = (s.lanes.get l).mmu.countEcc a false := by
  have all := (allVoting_iff s).2 votes
  have runs : s.mod.mode.lanesRun = true := by rw [operate]; rfl
  unfold On eccUncorrectableOp
  rw [if_pos (by simp [runs, inRam, ess])]
  extract_lets s1 s2
  have cycles : s2.mod.mode.cycles = true := by simp [s2, s1, State.recordUncorrected, operate, Mode.cycles]
  have all2 : AllVoting s2 := fun m => by
    have kept : (s1.lanes.get m).core = (s.lanes.get m).core := by simp [s1, ess]
    simp [s2, State.recordUncorrected, kept, all m]
  have counted : (s2.lanes.get l).mmu = (s.lanes.get l).mmu.countEcc a false := by simp [s2, s1, ess, State.recordUncorrected]
  clear_value s2
  obtain ⟨st, why, -, -⟩ := leaveVote_of_all s2 l 2 0 cycles all2
  rw [if_pos (by simp [ess])]
  exact ⟨st, why, (leaveVote_mmu_of_all s2 l 2 0 cycles all2 l).trans counted⟩

/-! ### Faults of translation -/

/-- The state in which a lane shows a fault of translation and has recorded it (R446, R460). -/
def State.showFault (s : State) (l : Lane) (master : Master) (acc : Access) (va c : Nat) : State :=
  (s.modMmu l fun m => { m with
    faultVa := BitVec.ofNat 32 va, faultCause := c, faultMaster := master.code, faultWrite := acc = .write, faultFetch := acc = .fetch }).placeRecord
    l 0x0132 (fields [(1, c), (1, master.code), (1, accessCode acc), (1, 0), (4, va)])

theorem translationFaultOp_fails {l : Lane} {master : Master} {acc : Access} {va c : Nat} {s : State} (site : FaultSite)
    (runs : s.mod.mode.lanesRun = true) (notDma : master ≠ .dma) (fails : (s.lanes.get l).mmu.translate master.code va acc = .error c) :
    translationFaultOp l master acc va site s =
      if LaneSet.first s.votingLanes = some l then (s.showFault l master acc va c).strike site else s.showFault l master acc va c := by
  unfold translationFaultOp
  simp only [lane_eq, fails]
  exact if_neg (by simp [runs, notDma])

theorem showFault_shows (s : State) (l : Lane) (master : Master) (acc : Access) (va c : Nat) : On (s.showFault l master acc va c) fun t =>
    (t.lanes.get l).mmu.faultVa = BitVec.ofNat 32 va ∧ (t.lanes.get l).mmu.faultCause = c ∧
    (t.lanes.get l).mmu.faultMaster = master.code ∧ (t.lanes.get l).mmu.faultWrite = decide (acc = .write) ∧
    (t.lanes.get l).core.st = (s.lanes.get l).core.st := by
  simp [On, State.showFault]

@[simp] theorem showFault_keeps (s : State) (l : Lane) (master : Master) (acc : Access) (va c : Nat) :
    On (s.showFault l master acc va c) fun t => t.ixl = s.ixl ∧ t.acc = s.acc ∧ t.mod = s.mod := by
  simp [On, State.showFault]

@[simp] theorem strike_mmu (s : State) (site : FaultSite) (m : Lane) : ((s.strike site).lanes.get m).mmu = (s.lanes.get m).mmu := by
  unfold State.strike
  (repeat' split) <;> simp

/-- Settles O29. -/
theorem memoryErrorCommands : Obligations.MemoryErrorCommands := by
  unfold Obligations.MemoryErrorCommands
  simp only [lane_eq, laneSt_eq]
  refine ⟨fun l a s runs ess => ⟨_, rfl, ?_⟩, fun l r a p q s operate votes ess => ⟨_, rfl, ?_⟩,
    fun l r a p q s runs low high => ⟨_, rfl, ?_⟩, fun l s runs awake gated clean more => ?_,
    fun l m k va c x s runs notDma fails => ⟨_, rfl, ?_⟩, fun l m k va c s runs notDma fails first => ⟨_, rfl, ?_⟩,
    fun l m k va c r i s runs notDma fails first forms => ⟨_, rfl, ?_⟩, fun l m n s runs => ⟨_, rfl, ?_⟩,
    fun l r a s runs locked outside => ⟨_, rfl, ?_⟩⟩
  · simp [eccCorrectedOp, runs, inRam, ess, MmuS.countEcc]
  · obtain ⟨st, why, mmu⟩ := eccUncorrectableOp_essence (l := l) (r := r.map Fin.val) (p := p) (q := q) operate votes ess
    exact ⟨st, why, by simp [mmu, MmuS.countEcc, ess], by simp [mmu, MmuS.countEcc, ess]⟩
  · have ess : inEssence a.toNat = false := by simp [inEssence]; omega
    have dram : inDram a.toNat = true := by simp [inDram]; omega
    have cls : dramClass a.toNat = 3 := by unfold dramClass; (repeat' split) <;> omega
    simp [eccUncorrectableOp, runs, inRam, ess, dram, cls, high, MmuS.countEcc, State.recordUncorrected]
  · have op : exec (.scrubRead l) s = .next (scrubReadOp l s) := rfl
    have unread : (s.lanes.get l).mmu.scrubWord + 1 ≠ scrubWords := by omega
    simp [op, scrubReadOp, runs, awake, gated, clean, MmuS.bad, unread]
  · obtain ⟨shown, cause, master, write, st⟩ := showFault_shows s l m k va.toNat c
    rw [translationFaultOp_fails x runs notDma fails]
    split <;> simp [shown, cause, master, write, st]
  · rw [translationFaultOp_fails _ runs notDma fails, if_pos first]
    rfl
  · have still : (s.showFault l m k va.toNat c).formsRun = true := by simpa [State.formsRun] using forms
    rw [translationFaultOp_fails _ runs notDma fails, if_pos first]
    simp [State.strike, still, State.carried]
  · simp [tlbParityOp, runs]
  · simp [guardFaultOp, runs, locked, outside, State.guardRefuse]

end Sys2Proof.Machine
end

section
/-!
SUPPORT. Activation of an image, and the online change of a sheet set (O49; R178–R182, R341, R426–R430).
-/

namespace Sys2Proof.Machine

open Sys2Proof

/-! ### What the parts of a switch leave alone -/

@[simp] theorem recordRefusal_img (s : State) (reason route : Nat) : (s.recordRefusal reason route).img = s.img := by
  simp [State.recordRefusal]

@[simp] theorem restartResyncs_images (s : State) : On s.restartResyncs fun t => t.img = s.img ∧ t.sheets = s.sheets := by
  unfold On State.restartResyncs
  simp

@[simp] theorem sendLevels_images (s : State) : On s.sendLevels fun t => t.img = s.img ∧ t.sheets = s.sheets := by
  unfold On State.sendLevels
  split <;> simp

@[simp] theorem migrate_areaHold (s : State) (m : List MapEntry) (kinds : Tab Kind) :
    (s.migrate m kinds).ixl.areaHold = s.ixl.areaHold := by
  simp [State.migrate]

@[simp] theorem carrySheets_img (s : State) (old : Image) : (s.carrySheets old).img = s.img := rfl

/-- A schedule that ends leaves PENDING verified (R428). -/
theorem endSchedule_ends (s : State) (status : Nat) : On (s.endSchedule status) fun t => t.img.pending.st = .verified ∧
    t.ixl.areaHold = 0 ∧ t.img.postponedSince = none ∧ t.img.judged = none := by
  unfold On State.endSchedule
  dsimp only
  split <;> simp

/-! ### Activation outside cycles and in OPERATE -/

theorem activationTimeOp_exchanges {s : State} (scheduled : s.img.pending.st = .scheduled) (station : s.img.pending.type = 1)
    (mode : s.mod.mode = .loaded ∨ s.mod.mode = .safe ∨ s.mod.mode = .recovery) : On (activationTimeOp s) fun t =>
      t.img.active = { s.img.pending with st := .active, owner := none, at_ := 0 } ∧
      t.img.pending = if s.img.active.st = .active then { s.img.active with st := .verified } else Slot.empty := by
  have due : (s.img.pending.st = .scheduled && (s.mod.mode = .loaded || s.mod.mode = .safe || s.mod.mode = .recovery)) = true := by
    simpa [scheduled, or_assoc] using mode
  have other : ¬ s.img.pending.type = 2 := by omega
  unfold On activationTimeOp
  simp only [due, other, if_true, if_false]
  split <;> simp [State.exchangeSlots]

theorem set_get_same (u : LaneSet) (l : Lane) (h : u.get l = true) : u.set l true = u := by
  obtain ⟨a, b, c⟩ := u
  cases l <;> simp_all [PerLane.set, PerLane.get]

theorem activationArmedOp_arms {l : Lane} {s : State} (operate : s.mod.mode = .operate) (scheduled : s.img.pending.st = .scheduled)
    (votes : s.laneSt l = .voting) (moved : (s.lane l).diag.dmaFailed.contains 4 = false) :
    (activationArmedOp l true s).img.armed = s.img.armed.set l true := by
  unfold activationArmedOp
  rw [if_neg (by simp only [moved]; decide)]
  cases armed : s.img.armed.get l
  · rw [if_pos (by rw [votes]; simp [operate, scheduled])]
    dsimp only
    split <;> simp
  · rw [if_neg (by simp), set_get_same _ _ armed]

theorem activationJudgementOp_judges {s : State} {new : Image} (operate : s.mod.mode = .operate) (tick : s.acc.tick = 3)
    (scheduled : s.img.pending.st = .scheduled) (unheld : s.sheetsHeld = false) (due : s.img.pending.at_ ≤ s.netNow + 20000)
    (image : s.img.pending.image = some new) (live : s.img.pending.live = true) (alone : s.needsConfirm = false) :
    activationJudgementOp s = match if s.mod.role = .tender && s.img.pending.owner.isSome then [] else s.holdingRoutes new with
      | [] => { s with img := { s.img with judged := some (moveVector s.image new s.ixl.resolved) } }
      | r :: _ =>
        let s1 := s.recordRefusal 1 r
        if s.img.pending.postpone then
          { s1 with img := { s1.img with judged := none, postponedSince := some (s1.img.postponedSince.getD s.img.pending.at_) }
                    ixl := { s1.ixl with areaHold := new.decl.changed } }
        else s1.endSchedule stLocked := by
  unfold activationJudgementOp
  dsimp only
  rw [if_pos (by simp [operate, tick, scheduled, unheld, due])]
  simp only [image, live, alone]
  rfl

/-! ### The switch -/

/-- The new image governs from the switch on (R430). -/
theorem imageSwitchOp_switches {s : State} {new : Image} {v : Verdict} (image : s.img.pending.image = some new) (judged : s.img.judged = some v)
    (scheduled : s.img.pending.st = .scheduled) (unheld : s.sheetsHeld = false) (due : s.evalDue = true)
    (confirmed : s.confirms s.img.pending.at_ = true) : On (imageSwitchOp s) fun t =>
      t.img = (s.takeImage new).img ∧ t.ixl.areaHold = 0 := by
  have operate : s.mod.mode = .operate := by simp_all [State.confirms]
  unfold On imageSwitchOp
  extract_lets p _ old secs same
  split
  case h_2 other => exact absurd judged (other new v image)
  next new' v' image' judged' =>
  obtain rfl : new = new' := Option.some.inj (image.symm.trans image')
  obtain rfl : v = v' := Option.some.inj (judged.symm.trans judged')
  rw [if_neg (by simp [p, scheduled, unheld, operate, due]), if_neg (by simp [p, confirmed])]
  extract_lets f g s1 s2 w src s3 s4 s5 s6
  have img4 : s4.img = (s.takeImage new).img := by
    simp only [s4]
    split <;> simp [s3, s2, s1]
  have hold4 : s4.ixl.areaHold = 0 := by
    simp only [s4]
    split <;> simp [s3, src, s2, s1, IxlS.moved]
  clear_value s4
  have img6 : s6.img = s4.img := by
    simp only [s6]
    split <;> simp [s5]
  have ixl6 : s6.ixl = s4.ixl := by
    simp only [s6]
    split <;> simp [s5]
  clear_value s6
  exact ⟨by simp [img6, img4], by simp [ixl6, hold4]⟩

/-! ### The sheet change -/

/-- A preparation is accepted, and what it has begun stands in the sheets (R178). -/
theorem sheetPrepareOp_prepares {h : CmdHdr} {s : State} (accepted : Accepts s h 0x0507 (some .engineer)) (operate : s.mod.mode = .operate)
    (only : s.sheetOnly = true) (verified : s.img.pending.st = .verified) (unheld : s.sheetsHeld = false) : On (sheetPrepareOp h s) fun t =>
      t.sheets.change = some ⟨[], 0, 0, s.rcd.opTime, none, h.source.toNat, h.queue.val, h.seq, true⟩ ∧
      Answered s t h 0x0507 stAccepted [] := by
  unfold On sheetPrepareOp
  rw [serveImage_accepts accepted (by simp [verified]), if_neg (by simp [only]), if_neg (by simp [operate]),
    if_neg (by simp [unheld, verified])]
  exact ⟨by simp, answered_of_kept accepted (by decide) rfl rfl (fun _ => rfl) rfl⟩

theorem sheetPrepareCompleteOp_passes {s : State} {c : SheetChange} {new : Image} (change : s.sheets.change = some c)
    (image : s.img.pending.image = some new) (preparing : c.preparing = true) (passes : s.setPasses new = true) :
    (sheetPrepareCompleteOp s).sheets.change = some { c with
      preparing := false, paired := carryMap s.image new, newN := (carryCounts s.image new).2.1,
      deleted := (carryCounts s.image new).2.2, since := s.rcd.opTime } := by
  unfold sheetPrepareCompleteOp
  simp [change, image, preparing, passes]

theorem sheetPrepareCompleteOp_fails {s : State} {c : SheetChange} {new : Image} (change : s.sheets.change = some c)
    (image : s.img.pending.image = some new) (preparing : c.preparing = true) (fails : s.setPasses new = false) :
    On (sheetPrepareCompleteOp s) fun t => t.sheets.change = none ∧ t.img = s.img := by
  unfold On sheetPrepareCompleteOp
  simp [change, image, preparing, fails]

theorem sheetCommitOp_schedules {h : CmdHdr} {time : Nat} {s : State} {c : SheetChange} (accepted : Accepts s h 0x0508 (some .engineer))
    (operate : s.mod.mode = .operate) (change : s.sheets.change = some c) (prepared : c.preparing = false) (uncommitted : c.commit = none)
    (ahead : s.nowFor h + 500000 ≤ time) (idle : s.img.pending.st ≠ .verifying) : On (sheetCommitOp h time s) fun t =>
      t.sheets.change = some { c with commit := some time, source := h.source.toNat, queue := h.queue.val, seq := h.seq } ∧
      t.img.pending = { s.img.pending with st := .scheduled, at_ := time, postpone := false } ∧ Answered s t h 0x0508 stAccepted [] := by
  unfold On sheetCommitOp
  rw [serveImage_accepts accepted idle, if_neg (by omega), if_neg (by simp [operate])]
  split
  next none => exact absurd (change.symm.trans none) (by simp)
  next c' change' =>
  obtain rfl : c = c' := Option.some.inj (change.symm.trans change')
  rw [if_neg (by simp [prepared, uncommitted])]
  extract_lets d _ s1 s2 _
  obtain ⟨img, host⟩ := forwardSchedule_kept s2 time 2
  obtain ⟨mod, -, -, sheets⟩ := forwardSchedule_keeps s2 time 2
  obtain ⟨core, -⟩ := forwardSchedule_recordKept s2 time 2
  refine ⟨?_, ?_, answered_of_kept accepted (by decide) rfl mod core (congrArg HostS.replies host)⟩
  · simp only [State_say_frame, sheets]
    rfl
  · simp only [State_say_frame, img]
    rfl

/-- The new set governs from the switch on (R179–R181). -/
theorem sheetSwitchOp_switches {s : State} {c : SheetChange} {new : Image} {time : Nat} (change : s.sheets.change = some c)
    (image : s.img.pending.image = some new) (commit : c.commit = some time) (confirmed : s.confirms time = true)
    (alone : s.needsConfirm = false) : On (sheetSwitchOp s) fun t =>
      t.img = (s.takeImage new).img ∧ t.sheets = { ((s.takeImage new).carrySheets s.image).sheets with change := none } := by
  unfold On sheetSwitchOp
  split
  case h_2 other => exact absurd image (other c new change)
  next c' new' change' image' =>
  obtain rfl : c = c' := Option.some.inj (change.symm.trans change')
  obtain rfl : new = new' := Option.some.inj (image.symm.trans image')
  split
  next none => exact absurd (commit.symm.trans none) (by simp)
  next time' commit' =>
  obtain rfl : time = time' := Option.some.inj (commit.symm.trans commit')
  rw [if_neg (by simp [confirmed]), if_neg (by simp [alone])]
  extract_lets old kept runs s1 src s2 cyc s3
  have img : s3.img = (s.takeImage new).img := by simp [s3, s2, s1]
  have sheets : s3.sheets = { ((s.takeImage new).carrySheets s.image).sheets with change := none } := by
    simp only [s3, State_record_frame, restartResyncs_images]
    rfl
  clear_value s3
  split
  · exact ⟨(sendLevels_images s3).1.trans img, (sendLevels_images s3).2.trans sheets⟩
  · exact ⟨by simpa using img, by simpa only [sendLevels_images, State_complete_frame] using sheets⟩

/-- Settles O49. -/
theorem imageAndSheetChangeCommands : Obligations.ImageAndSheetChangeCommands := by
  refine ⟨fun s scheduled station mode => ⟨_, rfl, activationTimeOp_exchanges scheduled station mode⟩,
    fun l s operate scheduled votes moved => ⟨_, rfl, activationArmedOp_arms operate scheduled votes moved⟩,
    fun l s operate scheduled votes unarmed due => ⟨_, rfl, ?_⟩,
    fun new s operate tick scheduled unheld due image live alone free => ?_,
    fun new s operate tick scheduled unheld due image live alone role held postpone => ⟨_, rfl, ?_⟩,
    fun s scheduled postponed late => ⟨_, rfl, ?_⟩,
    fun new v s image judged scheduled unheld due confirmed => ⟨_, rfl, ?_⟩,
    fun h s accepted operate only verified unheld => ⟨_, rfl, ?_⟩,
    fun c new s change image preparing passes => ⟨_, rfl, ?_⟩,
    fun c new s change image preparing fails => ⟨_, rfl, ?_⟩,
    fun h time c s accepted operate change prepared uncommitted ahead idle => ⟨_, rfl, ?_⟩,
    fun c new time s change image commit confirmed alone => ⟨_, rfl, ?_⟩,
    fun c s change uncommitted prepared late => ⟨_, rfl, ?_⟩⟩
  · have all := (allVoting_iff s).2 votes
    have cycles : s.mod.mode.cycles = true := by rw [operate]; rfl
    obtain ⟨st, why, -, -⟩ := leaveVote_of_all s l 7 0 cycles all
    unfold armDeadlineOp
    rw [if_pos (by simp [operate, scheduled, all l, unarmed, due])]
    exact ⟨st, why⟩
  · have judge : exec .activationJudgement s = .next (activationJudgementOp s) := rfl
    rw [judge, activationJudgementOp_judges operate tick scheduled unheld due image live alone, free, ite_self]
  · rw [activationJudgementOp_judges operate tick scheduled unheld due image live alone, if_neg (by simp [role])]
    obtain ⟨r, rest, first⟩ := List.exists_cons_of_ne_nil held
    simp [first, postpone]
  · unfold postponementOp
    rw [if_pos (by simp [scheduled, postponed, late])]
    exact endSchedule_ends _ _
  · obtain ⟨img, hold⟩ := imageSwitchOp_switches image judged scheduled unheld due confirmed
    exact ⟨by rw [img]; rfl, by rw [img]; rfl, by rw [img]; rfl, by rw [img]; rfl, hold⟩
  · exact sheetPrepareOp_prepares accepted operate only verified unheld
  · exact sheetPrepareCompleteOp_passes change image preparing passes
  · obtain ⟨ended, img⟩ := sheetPrepareCompleteOp_fails change image preparing fails
    exact ⟨ended, by rw [img], by rw [img]⟩
  · exact sheetCommitOp_schedules accepted operate change prepared uncommitted ahead idle
  · obtain ⟨img, sheets⟩ := sheetSwitchOp_switches change image commit confirmed alone
    exact ⟨by rw [img]; rfl, by rw [sheets], by rw [sheets]; rfl, by rw [sheets]; rfl⟩
  · unfold sheetTimeoutOp
    simp only [change]
    rw [if_pos (by simp [uncommitted, prepared, late])]
    exact cancelSheets_change s 1

end Sys2Proof.Machine
end

section
/-!
SUPPORT. The partner link, takeover and switchover (O47; R364, R366, R369, R370, R372–R376, R434).
-/

namespace Sys2Proof.Machine

open Sys2Proof

/-! ### The tender's judgement of itself -/

/-- What a module knows of its partner's levels, its role and its link. -/
@[simp] abbrev LinkKept (t s : State) : Prop :=
  t.plink.up = s.plink.up ∧ t.plink.quiet = s.plink.quiet ∧ t.plink.partnerPos = s.plink.partnerPos ∧
  t.plink.partnerLevels = s.plink.partnerLevels ∧ t.plink.partnerDigest = s.plink.partnerDigest ∧ t.mod.role = s.mod.role ∧
  t.mod.isolatedFault = s.mod.isolatedFault

@[simp] theorem digestDiffers_link (s : State) : LinkKept s.digestDiffers s := by
  simp [State.digestDiffers]

@[simp] theorem judgeLevels_link (s : State) : LinkKept s.judgeLevels s := by
  unfold State.judgeLevels
  dsimp only
  (repeat' split) <;> simp [State.beginPartnerResync]

@[simp] theorem sendLevels_link (s : State) : LinkKept s.sendLevels s := by
  unfold State.sendLevels
  split <;> simp [State.sendControl, State.sendPartner]

@[simp] theorem recordStrap_link (s : State) (cause : Nat) : LinkKept (s.recordStrap cause) s := by
  simp

/-! ### Messages -/

theorem partnerMessageOp_valid {m : PartnerMsg} {s : State} (paired : s.mod.pos ≠ 0) (runs : s.mod.mode.lanesRun = true)
    (valid : s.partnerValid m = true) : partnerMessageOp m s =
      ({ s with plink := { s.plink with seqs := Tab.put s.plink.seqs (messageKey m) m.seq, quiet := 0 } } : State).usePartner m := by
  unfold partnerMessageOp
  rw [if_neg (by simp [paired, runs]), if_neg (by simp [valid])]

/-- What an unacknowledged CONTROL message leaves when it is given up (R364). -/
theorem failControl_gives (s : State) (c : ControlMsg) : On (s.failControl c) fun t =>
    t.plink.control = s.plink.control.filter (fun d => d.seq ≠ c.seq) ∧ t.plink.sent = s.plink.sent := by
  unfold On State.failControl State.answerEnable State.abandonSwitchover
  dsimp only
  (repeat' split) <;> simp

/-- The link comes up with the partner's position and levels (R366, R434). -/
theorem partnerLinkUpOp_up {pos rom major minor iface : Nat} {digest : List Byte} {minors : Word} {s : State} (paired : s.mod.pos ≠ 0)
    (runs : s.mod.mode.lanesRun = true) (down : s.plink.up = false) (live : 3 ≤ s.plink.live) :
    On (partnerLinkUpOp pos rom major minor iface digest minors s) fun t => t.plink.up = true ∧ t.plink.quiet = 0 ∧
      t.plink.partnerPos = some pos ∧ t.plink.partnerLevels = [rom, major, minor, iface] ∧ t.plink.partnerDigest = digest ∧
      t.mod.isolatedFault = false := by
  unfold On partnerLinkUpOp
  rw [if_pos (by simp [paired, runs, down, live])]
  extract_lets m n p s1 s2 s3
  have taken : s2.plink = (s1.takeLevels pos [rom, major, minor, iface] digest minors).plink ∧ s2.mod = s1.mod := by
    simp [s2, State.takeLevels]
  obtain ⟨plink, mod⟩ := taken
  have kept : LinkKept s3 s2 := by
    simp only [s3]
    split <;> simp
  obtain ⟨up, quiet, partner, levels, dg, -, fault⟩ := kept
  clear_value s3 s2
  simp [up, quiet, partner, levels, dg, fault, plink, mod, State.takeLevels, s1, m, p]

/-! ### Takeover and switchover -/

theorem declareLost_link (s : State) (chY : Bool) : On (s.declareLost chY) fun t => t.mod = s.mod ∧ t.plink = s.plink := by
  simp [On, State.declareLost]

/-- The module is LEAD under the claim of a new generation (R373). -/
theorem becomeLead_leads (s : State) (g result : Nat) : On (s.becomeLead g result) fun t => t.mod.role = .lead ∧ t.mod.cond = .none ∧
    t.net.generation = g ∧ t.net.claim = BitVec.ofNat 32 (g * 256 + s.mod.pos) ∧
    t.plink.leadChannelY = !s.plink.leadChannelY ∧ t.plink.switchAt = none := by
  simp [On, State.becomeLead, State.turnChannel, State.serveByRole]

theorem isolate_isolates (s : State) (reason : Nat) : On (s.isolate reason) fun t =>
    t.mod = { s.mod with cond := .isolated } ∧ t.plink.holding = false := by
  simp [On, State.isolate]

/-- The lead that hears a higher claim (R375). -/
theorem loseLead_loses {s : State} (higher : Word) (lead : s.mod.role = .lead) : On (s.loseLead higher) fun t =>
    t.mod.role = .tender ∧ t.mod.cond = .isolated ∧ t.net.otherClaim = higher ∧ t.net.contrib = LaneSet.none ∧
    t.plink.up = s.plink.up := by
  unfold On State.loseLead
  rw [if_pos lead]
  extract_lets own m n s1 s2 s3 net3 plink3
  have abandoned : s3.plink.up = s2.plink.up := by
    simp only [s3]
    unfold State.abandonSwitchover
    dsimp only
    split <;> simp
  have kept : s3.mod = s2.mod ∧ s3.net = s2.net := by simp [s3]
  obtain ⟨mod, net⟩ := kept
  clear_value s3
  simp [net3, plink3, abandoned, mod, net, s2, s1, m, n]

theorem abandonSwitchover_ends (s : State) : s.abandonSwitchover.plink.switchAt = none := by
  unfold State.abandonSwitchover
  dsimp only
  split <;> simp

theorem yieldLead_yields (s : State) : On s.yieldLead fun t => t.mod.role = .tender ∧ t.plink.switchAt = none ∧
    t.net.claim = BitVec.ofNat 32 ((s.net.claim.toNat / 256 + 1) * 256 + s.plink.partnerPos.getD 0) := by
  unfold On State.yieldLead
  dsimp only
  split <;> simp [State.turnChannel, State.serveByRole]

/-- What the judgement of the tick 0 of a tender that hears no heartbeat decides (R372). -/
theorem takeoverJudgementOp_judges {s : State} (operate : s.mod.mode = .operate) (tender : s.mod.role = .tender) (tick : s.acc.tick = 0)
    (long : 3 ≤ s.plink.silent) : takeoverJudgementOp s =
      if s.quietCounts.contains 0 then
        let t := s.isolate 2
        { t with mod := { t.mod with isolatedFault := true } }
      else if s.reportedQuiet s.quietCounts && s.rightsNow && s.mod.cond = .none then s.takeOver
      else s := by
  unfold takeoverJudgementOp
  exact if_pos (by simp [operate, tender, tick, long])

theorem takeOver_leads {s : State} (room : s.nextGeneration ≤ 0xFFFFFF) :
    s.takeOver = (s.declareLost s.plink.leadChannelY).becomeLead s.nextGeneration 0 := by
  unfold State.takeOver
  exact if_neg (by omega)

/-- A planned switchover of a module in its cycle, by its role (R376). -/
theorem switchoverOp_due {s : State} {c : Nat} (at_ : s.plink.switchAt = some c) (operate : s.mod.mode = .operate) (tick : s.acc.tick = 0)
    (reached : c ≤ s.mod.cycle.toNat) : switchoverOp s = match s.mod.role with
      | .lead =>
        if s.plink.switchConfirmed && s.plink.partnerShadow = 0 && s.net.claim.toNat / 256 + 1 ≤ 0xFFFFFF then s.yieldLead
        else if s.plink.safeAfter then s.enterSafe 18 else s.abandonSwitchover
      | .tender =>
        if s.mod.cond = .none && s.plink.rights && s.plink.shadow = .equal then
          if 0xFFFFFF < s.nextGeneration then (s.recordTakeover 2 s.net.claim 0).abandonSwitchover else s.becomeLead s.nextGeneration 1
        else s.abandonSwitchover
      | .solo => s := by
  unfold switchoverOp
  simp only [at_]
  exact if_pos (by simp [operate, tick, reached])

/-- Settles O47: message by message, and the outcomes of the judgements that change the role. -/
theorem partnerAndRoleCommands : Obligations.PartnerAndRoleCommands := by
  refine ⟨fun m s paired runs bad => ?_, fun m l s paired runs valid verdict sender => ⟨_, rfl, ?_⟩,
    fun c rest s oldest again => ⟨_, rfl, ?_⟩, fun c rest s oldest spent => ⟨_, rfl, ?_⟩,
    fun pos rom major minor ifc dg mi s paired runs down live => ⟨_, rfl, ?_⟩, fun s up silent => ⟨_, rfl, ?_⟩,
    fun n s operate tender tick silent long quiet rights free room => ⟨_, rfl, ?_⟩,
    fun n s operate tender tick silent long heard => ⟨_, rfl, ?_⟩, fun s tender holding long => ⟨_, rfl, ?_⟩,
    fun c s cycles lead higher => ⟨_, rfl, ?_⟩, fun c s at_ operate lead unconfirmed near stays => ⟨_, rfl, ?_⟩,
    fun c s at_ operate tender tick reached free rights equal room => ⟨_, rfl, ?_⟩,
    fun c s at_ operate lead tick reached confirmed equal room => ⟨_, rfl, ?_⟩⟩
  · have op : exec (.partnerMessage m) s = .next (partnerMessageOp m s) := rfl
    simp [op, partnerMessageOp, paired, runs, bad]
  · have known : Lane.all.find? (fun k => k.id = m.sender) = some l := by rw [sender]; cases l <;> rfl
    rw [partnerMessageOp_valid paired runs valid]
    simp [State.usePartner, verdict, State.gotVerdict, known, get_set_same, Tab.get_put_eq]
  · unfold controlRetransmitOp
    simp only [oldest]
    rw [if_pos again]
    exact ⟨rfl, rfl⟩
  · unfold controlRetransmitOp
    simp only [oldest]
    rw [if_neg (by omega), ← oldest]
    exact failControl_gives s c
  · exact partnerLinkUpOp_up paired runs down live
  · unfold partnerLinkDownOp
    rw [if_pos (by simp [up, silent])]
    simp [State.lostPartner]
  · obtain ⟨mod, plink⟩ := declareLost_link s s.plink.leadChannelY
    obtain ⟨role, cond, generation, claim, channel, -⟩ := becomeLead_leads (s.declareLost s.plink.leadChannelY) s.nextGeneration 0
    have heard : ¬ s.quietCounts.contains 0 = true := by
      simp only [State.reportedQuiet, Bool.and_eq_true, Bool.not_eq_true'] at quiet
      simp only [quiet.1]
      decide
    have may : (s.reportedQuiet s.quietCounts && s.rightsNow && decide (s.mod.cond = .none)) = true := by
      simp [quiet, State.rightsNow, rights, free]
    rw [if_pos silent.symm, takeoverJudgementOp_judges operate tender tick (by omega), if_neg heard, if_pos may, takeOver_leads room]
    exact ⟨role, cond, generation, by rw [claim, mod], by rw [channel, plink]⟩
  · obtain ⟨mod, -⟩ := isolate_isolates s 2
    rw [if_pos silent.symm, takeoverJudgementOp_judges operate tender tick (by omega), if_pos (by simpa using heard)]
    exact ⟨by simp [mod], rfl, by simp [mod, tender]⟩
  · unfold holdingTimeoutOp
    rw [if_pos (by simp [tender, holding, long])]
    obtain ⟨mod, held⟩ := isolate_isolates s 3
    exact ⟨by rw [mod], held⟩
  · obtain ⟨role, cond, other, contrib, up⟩ := loseLead_loses c lead
    unfold takeoverLostOp
    rw [if_pos (by simp [cycles, lead, higher])]
    dsimp only
    rw [up]
    split <;> simp [role, cond, other, contrib, State.turnChannel, State.serveByRole]
  · unfold confirmDeadlineOp
    simp only [at_]
    rw [if_pos (by simp [operate, lead, unconfirmed, near]), if_neg (by simp [stays])]
    exact ⟨abandonSwitchover_ends s, by simp [lead], by simp [operate]⟩
  · obtain ⟨role, cond, generation, claim, channel, ended⟩ := becomeLead_leads s s.nextGeneration 1
    rw [switchoverOp_due at_ operate tick reached, tender]
    dsimp only
    rw [if_pos (by simp [free, rights, equal]), if_neg (by omega)]
    exact ⟨role, generation, claim, ended⟩
  · rw [switchoverOp_due at_ operate tick reached, lead]
    dsimp only
    rw [if_pos (by simp [confirmed, equal, room])]
    exact yieldLead_yields s

end Sys2Proof.Machine
end

section
/-!
SUPPORT. What copies bring the lanes stays canonical (R358, R438), command by command.
-/

namespace Sys2Proof.Machine

open Sys2Proof

/-- What a copy brings a lane is canonical and lies in essence (R358, R438). -/
def CopyWf (t : List (Nat × Byte)) : Prop := Memory.wf t = true ∧ (t.all fun p => inEssence p.1) = true

/-- What running copies bring the lanes is canonical and lies in essence. -/
@[simp] abbrev CopiesWf (s : State) : Prop := ∀ l, CopyWf (s.lanes.get l).mmu.incoming

@[simp] theorem copyWf_nil : CopyWf [] := ⟨rfl, rfl⟩

theorem copyWf_essence (m : MmuS) (h : m.wf = true) : CopyWf m.essence := ⟨essence_wf m h, essence_inEssence m⟩

@[simp] theorem clearSent_incoming (m : MmuS) : m.clearSent.incoming = m.incoming := rfl

@[simp] theorem modMaster_incoming (m : MmuS) (n : Nat) (f : MmuMaster → MmuMaster) : (m.modMaster n f).incoming = m.incoming := rfl

@[simp] theorem slice_incoming (m : MmuS) (i : Nat) : (m.slice i).incoming = m.incoming := by
  unfold MmuS.slice MmuS.rotateBank
  dsimp only
  (repeat' split) <;> rfl

@[simp] theorem countEcc_incoming (m : MmuS) (a : Nat) (corrected : Bool) : (m.countEcc a corrected).incoming = m.incoming := by
  unfold MmuS.countEcc
  split <;> rfl

@[simp] theorem refill_incoming (m : MmuS) (master vpn : Nat) : (m.refill master vpn).incoming = m.incoming := by
  unfold MmuS.refill
  dsimp only
  rfl

/-- MMU_INVAL drops entries of the masters' tables. -/
theorem invalidate_incoming (drop : MmuMaster → MmuMaster) (masters : List Nat) (m : MmuS) :
    (masters.foldl (fun m k => { m with masters := Tab.modify m.masters k drop }) m).incoming = m.incoming :=
  List.foldlRecOn (motive := fun (n : MmuS) => n.incoming = m.incoming) masters _ rfl fun _ kept _ _ => kept

@[simp] theorem modLane_copies (s : State) (l : Lane) (f : LaneS → LaneS) (h : CopiesWf s)
    (hf : ∀ x, CopyWf x.mmu.incoming → CopyWf (f x).mmu.incoming) : CopiesWf (s.modLane l f) := by
  intro m
  by_cases same : m = l
  · rw [same, get_modLane_same]
    exact hf _ (h l)
  · rw [get_modLane_ne s l m f same]
    exact h m

@[simp] theorem modMmu_copies (s : State) (l : Lane) (f : MmuS → MmuS) (h : CopiesWf s)
    (hf : ∀ x, CopyWf x.incoming → CopyWf (f x).incoming) : CopiesWf (s.modMmu l f) :=
  modLane_copies s l _ h fun x => hf x.mmu

@[simp] theorem mapLanes_copies (s : State) (f : Lane → LaneS → LaneS) (h : CopiesWf s)
    (hf : ∀ l x, CopyWf x.mmu.incoming → CopyWf (f l x).mmu.incoming) : CopiesWf (s.mapLanes f) := by
  intro m
  rw [get_mapLanes]
  exact hf m _ (h m)

@[simp] theorem each_copies {α : Type} (f : State → α → State) (hf : ∀ s x, CopiesWf s → CopiesWf (f s x)) (l : List α) (s : State)
    (h : CopiesWf s) : CopiesWf (s.each l f) :=
  List.foldlRecOn (motive := CopiesWf) l f h fun t ht x _ => hf t x ht

@[simp] theorem forLanes_copies (f : State → Lane → State) (hf : ∀ s l, CopiesWf s → CopiesWf (f s l)) (ls : LaneSet) (s : State)
    (h : CopiesWf s) : CopiesWf (s.forLanes ls f) := each_copies f hf ls.list s h

@[simp] theorem failResync_copies (s : State) (l : Lane) (st : LaneSt) (h : CopiesWf s) : CopiesWf (s.failResync l st) := by
  simp [State.failResync, h]

@[simp] theorem copyFails_copies (s : State) (l : Lane) (h : CopiesWf s) : CopiesWf (s.copyFails l) := by
  unfold State.copyFails
  dsimp only
  (repeat' split) <;> simp [h]

@[simp] theorem dropSender_copies (s : State) (l : Lane) (h : CopiesWf s) : CopiesWf (s.dropSender l) := by
  unfold State.dropSender
  split <;> simp +contextual [h]

@[simp] theorem leave_copies (s : State) (l : Lane) (cause sub : Nat) (h : CopiesWf s) : CopiesWf (s.leave l cause sub) := by
  unfold State.leave
  (repeat' split) <;> simp [h]

@[simp] theorem leaveVote_copies (s : State) (l : Lane) (cause sub : Nat) (h : CopiesWf s) : CopiesWf (s.leaveVote l cause sub) := by
  simp [State.leaveVote, h]

@[simp] theorem leaveAll_copies (s : State) (ls : LaneSet) (cause sub : Nat) (h : CopiesWf s) : CopiesWf (s.leaveAll ls cause sub) := by
  simp +contextual [State.leaveAll, h]

@[simp] theorem bootArbiters_copies (s : State) (h : CopiesWf s) : CopiesWf (s.bootArbiters) := by
  simp [State.bootArbiters, h]

@[simp] theorem resetReleaseOp_copies (a b c : StrapSample) (s : State) (h : CopiesWf s) : CopiesWf (resetReleaseOp a b c s) := by
  unfold resetReleaseOp
  (repeat' split) <;> simp [h]

@[simp] theorem railFaultOp_copies (rail : Rail) (l : Lane) (mv : Nat) (s : State) (h : CopiesWf s) :
    CopiesWf (railFaultOp rail l mv s) := by
  unfold railFaultOp
  dsimp only
  (repeat' split) <;> simp [h]

@[simp] theorem startLevel_copies (s : State) (l : Lane) (h : CopiesWf s) : CopiesWf (s.startLevel l) := by
  unfold State.startLevel
  dsimp only
  (repeat' split) <;> simp [h]

@[simp] theorem imageCheckOp_copies (loadOk reloadOk : LaneSet) (s : State) (h : CopiesWf s) :
    CopiesWf (imageCheckOp loadOk reloadOk s) := by
  unfold imageCheckOp
  extract_lets r live pass _ s1 s2 _ _ s3 s4
  have kept : CopiesWf s2 := forLanes_copies _ (fun s l h => by dsimp only; split <;> simp [h]) _ s1 h
  clear_value s2
  have levels : CopiesWf s4 := forLanes_copies _ startLevel_copies _ _ (by simp [s3, kept])
  clear_value s4
  (repeat' split) <;> simp [s1, h, levels]

@[simp] theorem failClock_copies (s : State) (l : Lane) (h : CopiesWf s) : CopiesWf (s.failClock l) := by
  simp [State.failClock, h]

@[simp] theorem clockTrip_copies (s : State) (l : Lane) (h : CopiesWf s) : CopiesWf (s.clockTrip l) := by
  unfold State.clockTrip
  dsimp only
  (repeat' split) <;> simp [h]

@[simp] theorem oscillatorUnstableOp_copies (l : Lane) (osc : Osc) (s : State) (h : CopiesWf s) :
    CopiesWf (oscillatorUnstableOp l osc s) := by
  unfold oscillatorUnstableOp
  dsimp only
  (repeat' split) <;> simp [h]

@[simp] theorem monitorWindowOp_copies (l : Lane) (count : Nat) (s : State) (h : CopiesWf s) : CopiesWf (monitorWindowOp l count s) := by
  unfold monitorWindowOp
  (repeat' split) <;> simp [h]

@[simp] theorem stallOp_copies (l : Lane) (crossing : Nat) (addr : BitVec 36) (s : State) (h : CopiesWf s) :
    CopiesWf (stallOp l crossing addr s) := by
  unfold stallOp
  (repeat' split) <;> simp [h]

@[simp] theorem canaryOp_copies (l : Lane) (speed : Nat) (s : State) (h : CopiesWf s) : CopiesWf (canaryOp l speed s) := by
  unfold canaryOp
  dsimp only
  (repeat' split) <;> simp [h]

@[simp] theorem railGoodTimeoutOp_copies (l : Lane) (s : State) (h : CopiesWf s) : CopiesWf (railGoodTimeoutOp l s) := by
  unfold railGoodTimeoutOp
  (repeat' split) <;> simp [h]

@[simp] theorem overrun_copies (s : State) (l : Lane) (h : CopiesWf s) : CopiesWf (s.overrun l) := by
  simp [State.overrun, h]

@[simp] theorem engineCheck_copies (s : State) (h : CopiesWf s) : CopiesWf (s.engineCheck) := by
  refine forLanes_copies _ (fun s l h => ?_) _ s h
  dsimp only
  (repeat' split) <;> simp [h]

@[simp] theorem tickDeadlineOp_copies (l : Lane) (s : State) (h : CopiesWf s) : CopiesWf (tickDeadlineOp l s) := by
  unfold tickDeadlineOp
  (repeat' split) <;> simp [h]

@[simp] theorem fixVote_copies (s : State) (table : PerLane LaneSet) (h : CopiesWf s) : CopiesWf (s.fixVote table) := by
  unfold State.fixVote
  extract_lets was late onTime lone s1 s2 s3
  have kept : CopiesWf s1 := forLanes_copies _ (fun s l h => overrun_copies s l h) late s h
  clear_value s1
  have alone : CopiesWf s2 := forLanes_copies _ (fun s l h => by simp [h]) lone s1 kept
  clear_value s2
  split
  · exact forLanes_copies _ (fun s l h => by split <;> simp [h]) _ s1 kept
  · simp only [s3]
    split <;> simp [alone]

@[simp] theorem rxMismatch_copies (s : State) (l : Lane) (x : Nat × Nat × Nat) (h : CopiesWf s) : CopiesWf (s.rxMismatch l x) := by
  unfold State.rxMismatch
  dsimp only
  (repeat' split) <;> simp [h]

@[simp] theorem fetchTimeoutOp_copies (l : Lane) (s : State) (h : CopiesWf s) : CopiesWf (fetchTimeoutOp l s) := by
  unfold fetchTimeoutOp
  (repeat' split) <;> simp [h]

@[simp] theorem forceRelease_copies (s : State) (l : Lane) (p : MemPort) (kind : Nat) (h : CopiesWf s) :
    CopiesWf (s.forceRelease l p kind) := by
  simp [State.forceRelease, h]

@[simp] theorem arbiterOp_copies (l : Lane) (p : MemPort) (idle : Nat) (present : List ArbRequest) (s : State) (h : CopiesWf s) :
    CopiesWf (arbiterOp l p idle present s) := by
  unfold arbiterOp
  dsimp only
  (repeat' split) <;> simp [h]

@[simp] theorem lockOverrunOp_copies (l : Lane) (p : MemPort) (s : State) (h : CopiesWf s) : CopiesWf (lockOverrunOp l p s) := by
  unfold lockOverrunOp
  dsimp only
  (repeat' split) <;> simp [h]

@[simp] theorem lockIdleOp_copies (l : Lane) (p : MemPort) (s : State) (h : CopiesWf s) : CopiesWf (lockIdleOp l p s) := by
  unfold lockIdleOp
  (repeat' split) <;> simp [h]

@[simp] theorem routeEngineOp_copies (l : Lane) (us steps : Nat) (faults : List ItemFault) (s : State) (h : CopiesWf s) :
    CopiesWf (routeEngineOp l us steps faults s) := by
  unfold routeEngineOp
  dsimp only
  (repeat' split) <;> simp [h]

@[simp] theorem outAccord_copies (s : State) (sent : LaneSet) (wrong : PerLane (BitVec 64)) (h : CopiesWf s) :
    CopiesWf (s.outAccord sent wrong) := by
  unfold State.outAccord
  extract_lets voting heard hash hashes _ s1
  have dropped : CopiesWf s1 := by simp [s1, h]
  clear_value s1
  split
  · exact dropped
  · extract_lets odd s2 s3 s4
    have noted : CopiesWf s2 := forLanes_copies _ (fun s l h => by split <;> simp [h]) _ s1 dropped
    clear_value s2
    have left : CopiesWf s3 := leaveAll_copies s2 odd 5 5 noted
    clear_value s3
    have judged : CopiesWf s4 := by
      simp only [s4]
      split <;> simp [left]
    clear_value s4
    split <;> simp [judged]

@[simp] theorem outputAccordOp_copies (sent : LaneSet) (wrong : PerLane (BitVec 64)) (units : Nat) (s : State) (h : CopiesWf s) :
    CopiesWf (outputAccordOp sent wrong units s) := by
  unfold outputAccordOp
  dsimp only
  (repeat' split) <;> simp [h]

@[simp] theorem reportMinority_copies (s : State) (ch : Nat) (l : Lane) (h : CopiesWf s) : CopiesWf (s.reportMinority ch l) := by
  unfold State.reportMinority
  dsimp only
  (repeat' split) <;> simp [h]

@[simp] theorem runSlice_copies (s : State) (l : Lane) (misr : BitVec 64) (passSeconds : Nat) (again : Bool) (h : CopiesWf s) :
    CopiesWf (s.runSlice l misr passSeconds again) := by
  unfold State.runSlice
  extract_lets d i want ok s1 s2 m weak s3 s4
  have noted : CopiesWf s1 := by simp [s1, h]
  clear_value s1
  have failed : CopiesWf s2 := by simp [s2, noted]
  clear_value s2
  have sliced : CopiesWf s3 := by simp [s3, noted]
  clear_value s3
  have passed : CopiesWf s4 := by simp [s4, sliced]
  clear_value s4
  (repeat' split) <;> simp [noted, failed, sliced, passed]

@[simp] theorem selftestSliceOp_copies (misr : PerLane (BitVec 64)) (passSeconds : Nat) (s : State) (h : CopiesWf s) :
    CopiesWf (selftestSliceOp misr passSeconds s) := by
  unfold selftestSliceOp
  dsimp only
  (repeat' split) <;> simp +contextual [h]

@[simp] theorem loneClock_copies (s : State) (l : Lane) (h : CopiesWf s) : CopiesWf (s.loneClock l) := by
  unfold State.loneClock
  dsimp only
  (repeat' split) <;> simp [h]

@[simp] theorem roundStartOp_copies (round : Word) (devs : PerLane (List (Nat × Int))) (roundTrip : Option Nat) (s : State) (h : CopiesWf s) :
    CopiesWf (roundStartOp round devs roundTrip s) := by
  unfold roundStartOp
  dsimp only
  (repeat' split) <;> simp +contextual [h]

@[simp] theorem flagTx_copies (s : State) (l : Lane) (h : CopiesWf s) : CopiesWf (s.flagTx l) := by
  unfold State.flagTx
  dsimp only
  (repeat' split) <;> simp [h]

@[simp] theorem voteSlot_copies (s : State) (node : Nat) (d : NodeDef) (slot : Nat) (faults : PerLane (List (Nat × Byte))) (h : CopiesWf s) :
    CopiesWf (s.voteSlot node d slot faults) := by
  unfold State.voteSlot
  dsimp only
  (repeat' split) <;> simp +contextual [h]

@[simp] theorem slotVoteOp_copies (node : Nat) (faults : PerLane (List (Nat × Byte))) (s : State) (h : CopiesWf s) :
    CopiesWf (slotVoteOp node faults s) := by
  unfold slotVoteOp
  (repeat' split) <;> simp [h]

@[simp] theorem takeKeyframe_copies (s : State) (l : Lane) (h : CopiesWf s) : CopiesWf (s.takeKeyframe l) := by
  unfold State.takeKeyframe
  dsimp only
  (repeat' split) <;> simp [h]

@[simp] theorem keyframeDueOp_copies (s : State) (h : CopiesWf s) : CopiesWf (keyframeDueOp s) := by
  unfold keyframeDueOp
  extract_lets c fresh s1 _ s2
  have kept : CopiesWf s2 := by
    simp only [s2, s1]
    (repeat' split) <;> simp [h]
  clear_value s2
  (repeat' split) <;> simp [h, kept]

@[simp] theorem bogieMismatchOp_copies (l : Lane) (s : State) (h : CopiesWf s) : CopiesWf (bogieMismatchOp l s) := by
  unfold bogieMismatchOp
  (repeat' split) <;> simp [h]

@[simp] theorem imageReloadOp_copies (l : Lane) (digestOk reloadOk : Bool) (s : State) (h : CopiesWf s) :
    CopiesWf (imageReloadOp l digestOk reloadOk s) := by
  unfold imageReloadOp
  dsimp only
  (repeat' split) <;> simp [h]

@[simp] theorem resyncTestOp_copies (l : Lane) (passed : Bool) (s : State) (h : CopiesWf s) : CopiesWf (resyncTestOp l passed s) := by
  unfold resyncTestOp
  (repeat' split) <;> simp [h]

@[simp] theorem copyBeforeWriteOp_copies (m : Lane) (page : Nat) (s : State) (h : CopiesWf s) : CopiesWf (copyBeforeWriteOp m page s) := by
  unfold copyBeforeWriteOp
  dsimp only
  (repeat' split) <;> simp [h]

@[simp] theorem catchUpOp_copies (l : Lane) (s : State) (h : CopiesWf s) : CopiesWf (catchUpOp l s) := by
  unfold catchUpOp
  dsimp only
  (repeat' split) <;> simp [h]

@[simp] theorem catchUpTimeoutOp_copies (l : Lane) (s : State) (h : CopiesWf s) : CopiesWf (catchUpTimeoutOp l s) := by
  unfold catchUpTimeoutOp
  (repeat' split) <;> simp [h]

@[simp] theorem resyncTimeoutOp_copies (l : Lane) (s : State) (h : CopiesWf s) : CopiesWf (resyncTimeoutOp l s) := by
  unfold resyncTimeoutOp
  (repeat' split) <;> simp [h]

@[simp] theorem restartResyncs_copies (s : State) (h : CopiesWf s) : CopiesWf (s.restartResyncs) := by
  refine mapLanes_copies _ _ (each_copies _ (fun s l h => by simp [h]) Lane.all s h) fun l x hx => ?_
  dsimp only
  split
  · exact copyWf_nil
  · exact hx

@[simp] theorem recordUncorrected_copies (s : State) (l : Lane) (a : Nat) (requester : Option Nat) (h : CopiesWf s) :
    CopiesWf (s.recordUncorrected l a requester) := by
  simp [State.recordUncorrected, h]

@[simp] theorem eccUncorrectableOp_copies (l : Lane) (requester : Option Nat) (a : Nat) (afterProposal isReply : Bool) (s : State) (h : CopiesWf s) :
    CopiesWf (eccUncorrectableOp l requester a afterProposal isReply s) := by
  unfold eccUncorrectableOp
  split
  · extract_lets s1 s2
    have kept : CopiesWf s2 := by
      refine recordUncorrected_copies _ l a requester (modLane_copies s l _ h fun x hx => ?_)
      dsimp only
      split <;> simpa using hx
    clear_value s2
    (repeat' split) <;> simp [kept]
  · exact h

@[simp] theorem eccCorrectedOp_copies (l : Lane) (a : Nat) (s : State) (h : CopiesWf s) : CopiesWf (eccCorrectedOp l a s) := by
  unfold eccCorrectedOp
  (repeat' split) <;> simp [h]

@[simp] theorem scrubReadOp_copies (l : Lane) (s : State) (h : CopiesWf s) : CopiesWf (scrubReadOp l s) := by
  unfold scrubReadOp
  dsimp only
  (repeat' split) <;> simp [h]

@[simp] theorem strike_copies (s : State) (site : FaultSite) (h : CopiesWf s) : CopiesWf (s.strike site) := by
  unfold State.strike
  (repeat' split) <;> simp [h]

@[simp] theorem translationFaultOp_copies (l : Lane) (master : Master) (acc : Access) (va : Nat) (site : FaultSite) (s : State) (h : CopiesWf s) :
    CopiesWf (translationFaultOp l master acc va site s) := by
  unfold translationFaultOp
  dsimp only
  (repeat' split) <;> simp [h]

@[simp] theorem tlbParityOp_copies (l : Lane) (master vpn : Nat) (s : State) (h : CopiesWf s) : CopiesWf (tlbParityOp l master vpn s) := by
  unfold tlbParityOp
  (repeat' split) <;> simp [h]

@[simp] theorem guardRefuse_copies (s : State) (l : Lane) (requester a write : Nat) (h : CopiesWf s) :
    CopiesWf (s.guardRefuse l requester a write) := by
  simp [State.guardRefuse, h]

@[simp] theorem guardFaultOp_copies (l : Lane) (requester a : Nat) (s : State) (h : CopiesWf s) :
    CopiesWf (guardFaultOp l requester a s) := by
  unfold guardFaultOp
  (repeat' split) <;> simp [h]

@[simp] theorem takeVital_copies (s t : State) (h : CopiesWf s) : CopiesWf (s.takeVital t) := by
  simp [State.takeVital, h]

@[simp] theorem armDeadlineOp_copies (l : Lane) (s : State) (h : CopiesWf s) : CopiesWf (armDeadlineOp l s) := by
  unfold armDeadlineOp
  (repeat' split) <;> simp [h]

@[simp] theorem carrySheets_copies (s : State) (old : Image) (h : CopiesWf s) : CopiesWf (s.carrySheets old) := by
  simp [State.carrySheets, h]

@[simp] theorem takeImage_copies (s : State) (new : Image) (h : CopiesWf s) : CopiesWf (s.takeImage new) := by
  simp [State.takeImage, h]

@[simp] theorem imageSwitchOp_copies (s : State) (h : CopiesWf s) : CopiesWf (imageSwitchOp s) := by
  unfold imageSwitchOp
  extract_lets p _ old secs same
  split
  · split
    · exact h
    · split
      · exact h
      · extract_lets f g s1 s2 w _ s3 s4 s5 s6
        have carried : CopiesWf s4 := by
          simp only [s4, s3, s2, s1]
          split <;> simp [h]
        clear_value s4
        have answered : CopiesWf s6 := by
          simp only [s6, s5]
          split <;> simp [carried]
        simp [answered]
  · exact h

@[simp] theorem sheetSwitchOp_copies (s : State) (h : CopiesWf s) : CopiesWf (sheetSwitchOp s) := by
  unfold sheetSwitchOp
  split
  · split
    · exact h
    · split
      · exact h
      · split
        · simp [h]
        · extract_lets old kept runs s1 _ s2 cyc s3
          have taken : CopiesWf s2 := by simp [s2, s1, h]
          clear_value s2
          have carried : CopiesWf s3 := by simp [s3, taken]
          clear_value s3
          split <;> simp [carried]
  · exact h

@[simp] theorem failPartnerResync_copies (s : State) (h : CopiesWf s) : CopiesWf (s.failPartnerResync) := by
  simp [State.failPartnerResync, h]

@[simp] theorem partnerDigestStep_copies (s : State) (ok : Bool) (h : CopiesWf s) : CopiesWf (s.partnerDigestStep ok) := by
  simp [State.partnerDigestStep, h]

@[simp] theorem resyncReloadOp_copies (l : Lane) (digestOk reloadOk : Bool) (s : State) (h : CopiesWf s) :
    CopiesWf (resyncReloadOp l digestOk reloadOk s) := by
  unfold resyncReloadOp
  (repeat' split) <;> simp [h]

@[simp] theorem partnerCopyFails_copies (s : State) (h : CopiesWf s) : CopiesWf (s.partnerCopyFails) := by
  unfold State.partnerCopyFails
  dsimp only
  (repeat' split) <;> simp [h]

@[simp] theorem resyncCopyFailedOp_copies (l : Lane) (s : State) (h : CopiesWf s) : CopiesWf (resyncCopyFailedOp l s) := by
  unfold resyncCopyFailedOp
  (repeat' split) <;> simp [h]

@[simp] theorem partnerCatchUp_copies (s : State) (h : CopiesWf s) : CopiesWf (s.partnerCatchUp) := by
  simp +contextual [State.partnerCatchUp, h]

@[simp] theorem resyncCatchUpOp_copies (l : Lane) (s : State) (h : CopiesWf s) : CopiesWf (resyncCatchUpOp l s) := by
  unfold resyncCatchUpOp
  (repeat' split) <;> simp [h]

@[simp] theorem resyncCatchUpTimeoutOp_copies (l : Lane) (s : State) (h : CopiesWf s) : CopiesWf (resyncCatchUpTimeoutOp l s) := by
  unfold resyncCatchUpTimeoutOp
  (repeat' split) <;> simp [h]

@[simp] theorem resyncEndOp_copies (l : Lane) (s : State) (h : CopiesWf s) : CopiesWf (resyncEndOp l s) := by
  unfold resyncEndOp
  (repeat' split) <;> simp [h]

@[simp] theorem dbgRead_copies (s : State) (l : Lane) (a : Nat) (h : CopiesWf s) : CopiesWf (s.dbgRead l a) := by
  unfold State.dbgRead
  dsimp only
  (repeat' split) <;> simp [h]

@[simp] theorem mmuRootOp_copies (l : Lane) (master : Nat) (v : Word) (s : State) (h : CopiesWf s) : CopiesWf (mmuRootOp l master v s) := by
  unfold mmuRootOp
  split
  · exact modMmu_copies s l _ h fun x hx => by simpa using hx
  · exact h

@[simp] theorem mmuInvalOp_copies (l : Lane) (v : Word) (s : State) (h : CopiesWf s) : CopiesWf (mmuInvalOp l v s) := by
  unfold mmuInvalOp
  split
  · exact modMmu_copies s l _ h fun x hx => by rwa [invalidate_incoming]
  · exact h

@[simp] theorem tick0_copies (s : State) (clock : PerLane (BitVec 64)) (h : CopiesWf s) : CopiesWf (s.tick0 clock) := by
  unfold State.tick0
  extract_lets first s1 begin_ s2 _ s3 s4 shot
  have moved : CopiesWf s1 := each_copies _ (fun s l h => by (repeat' split) <;> simp [h]) Lane.all s h
  clear_value s1
  have begun : CopiesWf s2 := mapLanes_copies s1 _ moved fun l x hx => by simpa using hx
  clear_value s2
  have counted : CopiesWf s3 := begun
  clear_value s3
  have handed : CopiesWf s4 := by simp [s4, counted]
  clear_value s4
  split
  · simp [handed]
  · exact handed

@[simp] theorem tickBoundaryOp_copies (marks views : PerLane LaneSet) (clock : PerLane (BitVec 64)) (s : State) (h : CopiesWf s) :
    CopiesWf (tickBoundaryOp marks views clock s) := by
  unfold tickBoundaryOp
  extract_lets p s1 table heard s2 s3 k _ _ _ s4 s5
  have checked : CopiesWf s1 := by
    simp only [s1, p]
    split <;> simp [h]
  clear_value s1
  have voted : CopiesWf s3 := by simp [s3, s2, checked]
  clear_value s3
  have sliced : CopiesWf s4 := voted
  clear_value s4
  have begun : CopiesWf s5 := by
    simp only [s5]
    split <;> simp [sliced]
  (repeat' split) <;> simp [h, checked, voted, sliced, begun]

@[simp] theorem senseCheck_copies (s : State) (a : Accorded) (p : Proposal) (h : CopiesWf s) : CopiesWf (s.senseCheck a p) := by
  simp [State.senseCheck, h]

@[simp] theorem accordedSetOp_copies (received : PerLane LaneSet) (s : State) (h : CopiesWf s) : CopiesWf (accordedSetOp received s) := by
  unfold accordedSetOp
  split
  · extract_lets voting lost props set computed due _ s1
    have kept : CopiesWf s1 := h
    clear_value s1
    split
    · exact kept
    · refine each_copies _ (fun s p h => senseCheck_copies _ _ p ?_) _ s1 kept
      exact each_copies _ (fun s x h => by split <;> simp [h]) _ s h
  · exact h

@[simp] theorem closeWith_copies (s : State) (v : LaneSet) (a : Accorded) (units : Nat) (h : CopiesWf s) :
    CopiesWf (s.closeWith v a units) := by
  unfold State.closeWith
  extract_lets before s1 s2 s3 s4 s5 keep _ _ _ _ _ _ _ s6
  have fetched : CopiesWf s1 := List.foldlRecOn (motive := CopiesWf) _ _ h fun t kept l _ => by simp [kept]
  clear_value s1
  have taken : CopiesWf s2 := by simp [s2, fetched]
  clear_value s2
  have stored : CopiesWf s3 := mapLanes_copies s2 _ taken fun l x hx => by split <;> exact hx
  clear_value s3
  have resumed : CopiesWf s4 := mapLanes_copies s3 _ stored fun l x hx => by simpa using hx
  clear_value s4
  have phased : CopiesWf s5 := each_copies _ (fun s l h => by simp [h]) _ s4 resumed
  clear_value s5
  have closed : CopiesWf s6 := phased
  clear_value s6
  simp [closed]

@[simp] theorem inputAccordOp_copies (sent : LaneSet) (wrong : PerLane (BitVec 64)) (units : Nat) (s : State) (h : CopiesWf s) :
    CopiesWf (inputAccordOp sent wrong units s) := by
  unfold inputAccordOp
  split
  · extract_lets voting heard hash d _ s1 s2
    have kept : CopiesWf s2 := by simp [s2, s1, h]
    clear_value s2
    split
    · simp [kept]
    · next v _ =>
      extract_lets s3
      have left : CopiesWf s3 := forLanes_copies _ (fun s l h => leaveVote_copies s l 5 _ h) _ s2 kept
      clear_value s3
      split <;> simp [left]
  · exact h

@[simp] theorem voteRefreshOp_copies (sense : List SenseReading) (groups : List GroupReading) (s : State) (h : CopiesWf s) :
    CopiesWf (voteRefreshOp sense groups s) := by
  unfold voteRefreshOp
  split
  · extract_lets voting refresh s1 s2 s2' s3 chs s4 s5
    have kept : CopiesWf s5 := by simp [s5, s4, s3, s2', s2, s1, h]
    refine each_copies _ (fun s p h => forLanes_copies _ (fun s l h => ?_) _ s h) _ s5 kept
    split <;> simp [h]
  · exact h

end Sys2Proof.Machine
end

section
/-!
SUPPORT. Every step keeps the lanes' memories canonical (O5).
-/

namespace Sys2Proof.Machine

open Sys2Proof

/-- A step from a state whose lanes' memories are canonical leads to one whose are (R438). -/
def StaysCanonical (s t : State) : Prop := MemoryCanonical s → MemoryCanonical t

namespace StaysCanonical

theorem refl (s : State) : StaysCanonical s s := id

theorem trans {s t u : State} (h : StaysCanonical s t) (k : StaysCanonical t u) : StaysCanonical s u := k ∘ h

theorem of_mmu {s t : State} (h : SameIn (·.mmu) t s) : StaysCanonical s t := fun canonical l => by
  rw [lane_eq, show (t.lanes.get l).mmu = (s.lanes.get l).mmu from h l]
  exact canonical l

/-- What happens after a change that leaves the memories alone. -/
theorem after {s t u : State} (k : StaysCanonical t u) (h : SameIn (·.mmu) t s) : StaysCanonical s u := (of_mmu h).trans k

theorem each {α : Type} (f : State → α → State) (h : ∀ s x, StaysCanonical s (f s x)) (l : List α) (s : State) :
    StaysCanonical s (s.each l f) := fun canonical =>
  List.foldlRecOn (motive := MemoryCanonical) l f canonical fun t kept x _ => h t x kept

/-- Nothing but the bytes, and what copies bring, counts. -/
theorem of_copies {s t : State} (bytes : SameBytes t s) (copies : CopiesWf s → CopiesWf t) : StaysCanonical s t := fun canonical l => by
  refine ⟨?_, copies (fun m => (canonical m).2) l⟩
  rw [lane_eq, MmuS.wf, show (t.lanes.get l).mmu.bytes = (s.lanes.get l).mmu.bytes from bytes l]
  exact (canonical l).1

theorem of_stores {p : Nat → Prop} {s t : State} (l : Lane) (stores : Stores p (s.lane l) (t.lane l))
    (others : ∀ m, m ≠ l → (t.lane m).mmu = (s.lane m).mmu) : StaysCanonical s t := fun canonical m => by
  by_cases same : m = l
  · subst same
    rw [stores.incoming]
    exact ⟨stores.wf (canonical m).1, (canonical m).2⟩
  · rw [others m same]
    exact canonical m

theorem modLane {p : Nat → Prop} (s : State) (l : Lane) (f : LaneS → LaneS) (stores : Stores p (s.lane l) (f (s.lane l))) :
    StaysCanonical s (s.modLane l f) :=
  of_stores (p := p) l (by rwa [lane_eq, lane_eq, get_modLane_same]) fun m other => modLane_mmu_other s l m f other

/-- A change of one lane's MMU that keeps its memory, and what a copy brings it, canonical. -/
theorem modMmu (s : State) (l : Lane) (f : MmuS → MmuS)
    (hf : (s.lane l).mmu.wf = true ∧ CopyWf (s.lane l).mmu.incoming →
      (f (s.lane l).mmu).wf = true ∧ CopyWf (f (s.lane l).mmu).incoming) : StaysCanonical s (s.modMmu l f) := fun canonical m => by
  by_cases same : m = l
  · subst same
    rw [lane_eq, State.modMmu, get_modLane_same]
    exact hf (canonical m)
  · rw [lane_eq, State.modMmu, get_modLane_ne s l m _ same]
    exact canonical m

/-- No lane holds a byte at reset. -/
theorem of_reset {s t : State} (h : t.lanes = PerLane.pure .reset) : StaysCanonical s t := fun _ l => by
  rw [lane_eq, h]
  cases l <;> exact ⟨rfl, rfl, rfl⟩

end StaysCanonical

/-! ### What leads to RESET or OFF -/

theorem holdUpExhaustedOp_stays (s : State) : StaysCanonical s (holdUpExhaustedOp s) := by
  unfold holdUpExhaustedOp
  split
  · exact .of_reset rfl
  · exact .refl s

/-- A wake brings the scrubbers of the lanes that run to their start, or leads to RESET. -/
theorem wakeTrigger_stays (s : State) (which : Nat) : StaysCanonical s (s.wakeTrigger which) := by
  unfold State.wakeTrigger
  split
  · extract_lets src1 s1 src2 s2 src3
    split
    · have kept : SameIn (·.mmu) s1 s := by
        simp only [s1]
        split <;> simp [src1]
      refine .trans (.of_mmu kept) (.of_copies (fun m => ?_) fun copies m => ?_)
      · simp only [s2, src2, get_mapLanes]
        split <;> rfl
      · simp only [s2, src2, get_mapLanes]
        split <;> exact copies m
    · exact .of_reset (enterReset_lanes s2 20)
  · exact .refl s

/-- The service of packets and replies keeps the memories canonical. -/
theorem canonical_served : Served StaysCanonical :=
  ⟨fun ⟨_, _, mmu⟩ => .of_mmu mmu, wakeTrigger_stays, fun s trigger => .of_reset (enterReset_lanes s trigger), StaysCanonical.trans⟩

/-! ### Copies, transfers and stores -/

/-- The receiver's essence becomes what the copy brought it (R358). -/
theorem copyCompleteOp_stays (l : Lane) (senderHash : BitVec 64) (s : State) : StaysCanonical s (copyCompleteOp l senderHash s) := by
  unfold copyCompleteOp
  (repeat' split)
  · exact .refl s
  · exact .of_copies (by simp) fun copies => by simp [copies]
  · extract_lets s1 s2 s3 s4
    have cleared : StaysCanonical s s1 := .of_copies (fun m => by rw [get_mapLanes]; rfl) fun copies m => by
      rw [get_mapLanes]
      exact copies m
    have copied : StaysCanonical s s2 := cleared.trans (.modMmu s1 l _ fun ⟨wf, copy⟩ =>
      ⟨withEssence_wf _ _ wf copy.1 copy.2, copyWf_nil⟩)
    split
    · exact copied.trans (.of_mmu (by simp [s4, s3]))
    · exact copied.trans (.of_mmu (by simp [s4, s3]))

/-- A copy brings the receiver the sender's essence (R358). -/
theorem copyArmedOp_stays (l : Lane) (s : State) : StaysCanonical s (copyArmedOp l s) := by
  unfold copyArmedOp
  extract_lets r
  (repeat' split)
  · exact .refl s
  next m _ =>
    extract_lets s1 s2
    have cleared : StaysCanonical s s1 := .modMmu s m _ id
    have armed : StaysCanonical s s2 := fun canonical =>
      StaysCanonical.modMmu s1 l _ (fun ⟨wf, _⟩ => ⟨wf, copyWf_essence _ (canonical m).1⟩) (cleared canonical)
    exact armed.trans (.of_mmu (by simp))
  · exact .refl s

theorem resyncArmedOp_stays (l : Lane) (s : State) : StaysCanonical s (resyncArmedOp l s) := by
  unfold resyncArmedOp
  (repeat' split)
  · exact copyArmedOp_stays l s
  · exact .of_mmu fun _ => rfl
  · exact .trans (.modMmu s l MmuS.clearSent id) (.of_mmu (by simp [State.sendPages]))
  · exact .refl s
  · exact .refl s

theorem resyncCopyOp_stays (l : Lane) (senderHash : BitVec 64) (s : State) : StaysCanonical s (resyncCopyOp l senderHash s) := by
  unfold resyncCopyOp
  (repeat' split)
  · exact copyCompleteOp_stays l senderHash s
  · exact .of_mmu (by simp)
  · exact .of_copies (by simp) fun copies => by simp [copies]
  · exact .refl s

theorem dmaMove_stays {s t : State} {l : Lane} {c upTo : Nat} (h : s.dmaMove l c upTo = some t) : StaysCanonical s t := by
  obtain ⟨y, moved, -, -, -, others⟩ := dmaMove_lane h
  cases cur : ((s.lane l).chan c).cur with
  | none =>
    unfold LaneS.advance at moved
    extract_lets ch at moved
    rw [show ch.cur = none from cur] at moved
    cases moved
  | some d => exact .of_stores l (dmaMove_stores cur h) others

/-- What a channel in progress has moved, where it has. -/
theorem guardedMove_stays (s : State) (l : Lane) (c n : Nat) (due : Bool) :
    StaysCanonical s (if due then (s.dmaMove l c n).getD s else s) := by
  split
  · cases moved : s.dmaMove l c n with
    | none => exact .refl s
    | some t => exact dmaMove_stays moved
  · exact .refl s

theorem dmaCompleteOp_stays (l : Lane) (c : Nat) (s : State) : StaysCanonical s (dmaCompleteOp l c s) := by
  fun_cases dmaCompleteOp
  case case2 t moved u =>
    refine (dmaMove_stays moved).trans (.trans (t := u) (.modLane t l _ ((postStatus_stores (t.lane l) c 1 0).then_mmu ?_)) (.of_mmu ?_))
    · simp [LaneS.passHead]
    · simp
  all_goals exact .refl s

theorem dmaSuspendedOp_stays (l : Lane) (c n : Nat) (s : State) : StaysCanonical s (dmaSuspendedOp l c n s) := by
  unfold dmaSuspendedOp
  extract_lets h len s1
  split
  · have moved : StaysCanonical s s1 := guardedMove_stays s l c n _
    exact moved.trans (.of_mmu (by simp))
  · exact .refl s

theorem dmaFaultOp_stays (l : Lane) (c cause va n : Nat) (w : Bool) (s : State) : StaysCanonical s (dmaFaultOp l c cause va n w s) := by
  unfold dmaFaultOp
  extract_lets h live len good s1 s2 s3
  have moved : StaysCanonical s s1 := guardedMove_stays s l c n _
  clear_value s1
  have kept : SameIn (·.mmu) s3 s1 := by simp [s3, s2]
  (repeat' split)
  · exact moved.trans (.of_mmu (by simp [kept]))
  · exact moved.trans (.of_mmu kept)
  · exact .refl s

/-- An abort stores its descriptor's status (R453). -/
theorem abortChan_stores (x : LaneS) (c : Nat) : Stores (fun _ => True) x (x.abortChan c) := by
  unfold LaneS.abortChan
  extract_lets h fault y z
  split
  · exact .of_mmu _ rfl
  · have flagged : Stores (fun _ => True) x y := .of_mmu _ (by simp only [y]; (repeat' split) <;> rfl)
    have posted : Stores (fun _ => True) y z := ((postStatus_stores y c (if fault then 2 else 3) (if fault then h.cause else 0)).mono fun _ _ => trivial).then_mmu (by simp [z, LaneS.passHead])
    exact (flagged.trans posted).then_mmu (by simp)

theorem dmaAbortOp_stays (l : Lane) (c : Nat) (s : State) : StaysCanonical s (dmaAbortOp l c s) := by
  unfold dmaAbortOp State.onChannels
  split
  · exact .modLane s l _ (abortChan_stores _ c)
  · exact .refl s

/-! ### Writes of registers -/

/-- A bogie delays a write, or passes it on (R352). -/
theorem regWrite_stays (s : State) (l : Lane) (ofs : Nat) (v : Word) (effect : State → State) (stays : ∀ s, StaysCanonical s (effect s)) :
    StaysCanonical s (s.regWrite l ofs v effect) := by
  unfold State.regWrite State.throughBogie
  extract_lets c fill s1
  (repeat' split)
  · exact .refl s
  · exact .after ((stays s1).trans (.of_mmu (by simp))) (by simp [s1])
  · exact stays s

theorem mmuRootOp_stays (l : Lane) (master : Nat) (v : Word) (s : State) : StaysCanonical s (mmuRootOp l master v s) :=
  .of_copies (by simp) (mmuRootOp_copies l master v s)

theorem mmuInvalOp_stays (l : Lane) (v : Word) (s : State) : StaysCanonical s (mmuInvalOp l v s) :=
  .of_copies (by simp) (mmuInvalOp_copies l v s)

/-- Only an abort of the channel stores, its descriptor's status. -/
theorem writeDmaCtrl_stays (s : State) (l : Lane) (c : Nat) (v : Word) : StaysCanonical s (s.writeDmaCtrl l c v) := by
  unfold State.writeDmaCtrl
  extract_lets s1 s2 s3
  have kept : SameIn (·.mmu) s3 s := by simp [s3, s2, s1]
  split
  · exact .after (dmaAbortOp_stays l c s3) kept
  · exact .of_mmu kept

@[simp] theorem writeOwn_mmu (x : LaneS) (block ofs : Nat) (v : Word) : (x.writeOwn block ofs v).mmu = x.mmu := by
  unfold LaneS.writeOwn
  split <;> rfl

@[simp] theorem writeDma_mmu (x : LaneS) (ofs : Nat) (v : Word) : (x.writeDma ofs v).mmu = x.mmu := by
  unfold LaneS.writeDma
  dsimp only
  (repeat' split) <;> rfl

@[simp] theorem writeArb_mmu (x : LaneS) (ofs : Nat) (v : Word) : (x.writeArb ofs v).mmu = x.mmu := by
  unfold LaneS.writeArb
  dsimp only
  (repeat' split) <;> simp

@[simp] theorem writePmc_mmu (x : LaneS) (ofs : Nat) (v : Word) : (x.writePmc ofs v).mmu = x.mmu := by
  unfold LaneS.writePmc
  dsimp only
  (repeat' split) <;> rfl

@[simp] theorem writeCvu_mmu (s : State) (l : Lane) (ofs : Nat) (v : Word) : SameIn (·.mmu) (s.writeCvu l ofs v) s := by
  unfold State.writeCvu
  (repeat' split) <;> simp

@[simp] theorem writeHub_mmu (s : State) (l : Lane) (ofs : Nat) (v : Word) : SameIn (·.mmu) (s.writeHub l ofs v) s := by
  unfold State.writeHub
  (repeat' split) <;> simp

@[simp] theorem writeFch_mmu (s : State) (l : Lane) (ofs : Nat) (v : Word) : SameIn (·.mmu) (s.writeFch l ofs v) s := by
  simp [State.writeFch]

theorem writeReg_stays (s : State) (l : Lane) (ofs : Nat) (v : Word) : StaysCanonical s (s.writeReg l ofs v) := by
  fun_cases State.writeReg
  case case3 => exact mmuRootOp_stays l _ v s
  case case4 => exact mmuInvalOp_stays l v s
  case case6 => exact writeDmaCtrl_stays s l _ v
  all_goals exact .of_mmu (by simp)

theorem registerWriteOp_stays (l : Lane) (a : Nat) (v : Word) (s : State) : StaysCanonical s (registerWriteOp l a v s) := by
  unfold registerWriteOp
  split
  · split
    · exact .of_mmu (by simp)
    · refine regWrite_stays s l _ v _ fun s => ?_
      split
      · exact .of_mmu (by simp)
      · exact writeReg_stays s l _ v
  · exact .refl s

/-! ### The debug master -/

/-- A debug command is refused, or carried out. -/
theorem dbg_stays (s : State) (ok : Bool) (f : State → State) (stays : StaysCanonical s (f s)) : StaysCanonical s (s.dbg ok f) := by
  unfold State.dbg
  (repeat' split)
  · exact .refl s
  · exact .of_mmu fun _ => rfl
  · exact stays
  · exact .of_mmu fun _ => rfl

theorem dbgResult_stays (s : State) (result : Nat) (data : Word) : StaysCanonical s (s.dbgResult result data) := .of_mmu fun _ => rfl

theorem recordDebug_stays (s : State) (lane action : Nat) : StaysCanonical s (s.recordDebug lane action) := .of_mmu (by simp)

theorem guardRefuse_stays (s : State) (l : Lane) (master a access : Nat) : StaysCanonical s (s.guardRefuse l master a access) :=
  .of_copies (by simp) (guardRefuse_copies s l master a access)

theorem dbgWrite_stays (s : State) (l : Lane) (a : Nat) (v : Word) : StaysCanonical s (s.dbgWrite l a v) := by
  fun_cases State.dbgWrite
  case case1 => exact (guardRefuse_stays s l 7 a 1).trans (dbgResult_stays _ 3 0)
  case case2 => exact (recordDebug_stays s l.id 3).trans ((writeReg_stays _ l _ v).trans (dbgResult_stays _ 0 0))
  case case4 =>
    refine (recordDebug_stays s l.id 3).trans (.trans (.modMmu _ l _ fun ⟨wf, copy⟩ => ?_) (dbgResult_stays _ 0 0))
    exact ⟨write_wf _ _ wf, copy⟩
  all_goals exact dbgResult_stays s 3 0

theorem dbgRead_stays (s : State) (l : Lane) (a : Nat) : StaysCanonical s (s.dbgRead l a) := .of_copies (by simp) (dbgRead_copies s l a)

/-! ### Every command -/

theorem resyncCatchUp_stays (l : Lane) (run : Nat) (s : State) : StaysCanonical s (if run = s.cyclesStored l then resyncCatchUpOp l s else s) := by
  split
  · exact .of_copies (by simp) (resyncCatchUpOp_copies l s)
  · exact .refl s

theorem unnamed_stays (c : Instr) (s t : State) (h : exec c s = .next t) (unnamed : (mayChange c).contains .mmu = false) :
    StaysCanonical s t := by
  obtain ⟨mmu, -⟩ := exec_memoryFramed c s t h
  exact .of_mmu (mmu.resolve_left fun named => by simp [named] at unnamed)

theorem copies_stays (c : Instr) (s t : State) (h : exec c s = .next t) (unnamed : (mayChange c).contains .memory = false)
    (copies : CopiesWf s → CopiesWf t) : StaysCanonical s t := by
  obtain ⟨-, memory, -⟩ := exec_memoryFramed c s t h
  exact .of_copies (memory.resolve_left fun named => by simp [named] at unnamed) copies

/-- Command by command: those that lead to RESET or OFF, those that store, those that arm or end a copy; of the others, the MMU's state is
kept, or the bytes are and what a copy brings stays canonical. -/
theorem exec_stays (c : Instr) (s t : State) (h : exec c s = .next t) : StaysCanonical s t := by
  cases c
  case powerFailWarning mv => cases h; exact canonical_served.powerFailWarningOp mv s
  case holdUpExhausted => cases h; exact holdUpExhaustedOp_stays s
  case rstNLow => cases h; exact canonical_served.rstNLowOp s
  case wakeNLow => cases h; exact wakeTrigger_stays s 1
  case hostPacket p sender stamp lanes bytes => cases h; exact canonical_served.hostPacketOp p sender stamp lanes bytes s
  case nonvitalIntake => cases h; exact canonical_served.intakeOp s
  case offCycleService => cases h; exact canonical_served.offCycleOp s
  case modeRequestWake h' => cases h; exact canonical_served.modeRequestWakeOp h' s
  case replyAgreed cmd => cases h; exact canonical_served.replyAgreedOp cmd s
  case replyDisagreeTimeout cmd => cases h; exact canonical_served.replyDisagreeOp cmd s
  case replyMissingTimeout cmd => cases h; exact canonical_served.replyMissingOp cmd s
  case replayCycle => cases h; exact .of_mmu (replayCycleOp_serviceKept s).2.2
  case resyncCopyArmed l => cases h; exact resyncArmedOp_stays l s
  case resyncCopyComplete l high low => cases h; exact resyncCopyOp_stays l _ s
  case catchUpComplete l run => cases h; exact resyncCatchUp_stays l run s
  case dmaDescriptorComplete l c => cases h; exact dmaCompleteOp_stays l c.val s
  case dmaSuspended l c n => cases h; exact dmaSuspendedOp_stays l c.val n s
  case dmaFault l c k va n w => cases h; exact dmaFaultOp_stays l c.val k.code va.toNat n w s
  case dmaAbort l c => cases h; exact regWrite_stays s l _ 8 _ (dmaAbortOp_stays l c.val)
  case mmuRootWrite l master v => cases h; exact regWrite_stays s l _ v _ (mmuRootOp_stays l master.code v)
  case mmuInval l v => cases h; exact regWrite_stays s l _ v _ (mmuInvalOp_stays l v)
  case registerWrite l a v => cases h; exact registerWriteOp_stays l a.toNat v s
  case dbgRead l a => cases h; exact dbg_stays s _ _ (dbgRead_stays s l a.toNat)
  case dbgWrite l a v => cases h; exact dbg_stays s _ _ (dbgWrite_stays s l a.toNat v)
  any_goals exact unnamed_stays _ s t h rfl
  all_goals exact copies_stays _ s t h rfl fun copies => by cases h; simp [copies]

/-- Settles O5: a step carries out the command in front of its queue, which holds no memory. -/
theorem memoryStaysCanonical : Obligations.MemoryStaysCanonical := by
  intro s t canonical h
  unfold step at h
  split at h
  · cases h
    exact canonical
  next c rest _ => exact exec_stays c (s.withPending rest) t h canonical

end Sys2Proof.Machine
end
